-- ==== Sys2Proof/Word.lean ====
section
/-!
DEFINITION. The word and byte types of the KD8064's register space (00_scope.md, "Registers and access codes":
registers are 32 bits wide and little-endian).
-/

namespace Sys2Proof

/-- One 32-bit register word (00_scope.md R3). -/
abbrev Word := BitVec 32

/-- One byte of the data space or of a frame (00_scope.md: a byte is 8 bits). -/
abbrev Byte := BitVec 8

end Sys2Proof
end

