-- ==== Sys2Proof/Machine/Codes.lean ====
section
/-!
DEFINITION. The numbers the spec gives its events (20_faults_degradation.md R720: the block base plus the event's
position), its host-link status codes (17_host_link_registers.md R648) and the event severities (R718).
-/

namespace Sys2Proof.Machine

/-- Event severities (R718). -/
inductive Sev where
  | info
  | warning
  | fault
  deriving DecidableEq, Repr

/-- The severity's code (R718). -/
def Sev.code : Sev → Nat
  | .info => 0
  | .warning => 1
  | .fault => 2

/-- Host-link status codes (R648). -/
inductive Status where
  | ok
  | denied
  | unmapped
  | align
  | gated
  | notReady
  | busy
  | disabled
  | notActive
  | badRequest
  | length
  | seqStale
  | seqGap
  | dup
  | incomplete
  | refused
  | wrongUnit
  | badMac
  | batchReplay
  | otpFull
  | noRecord
  | bemRo
  deriving DecidableEq, Repr

/-- The value a STATUS field carries (R648). -/
def Status.code : Status → Nat
  | .ok => 0x00
  | .denied => 0x01
  | .unmapped => 0x02
  | .align => 0x03
  | .gated => 0x04
  | .notReady => 0x05
  | .busy => 0x06
  | .disabled => 0x07
  | .notActive => 0x08
  | .badRequest => 0x09
  | .length => 0x0A
  | .seqStale => 0x10
  | .seqGap => 0x11
  | .dup => 0x12
  | .incomplete => 0x13
  | .refused => 0x20
  | .wrongUnit => 0x21
  | .badMac => 0x22
  | .batchReplay => 0x23
  | .otpFull => 0x24
  | .noRecord => 0x25
  | .bemRo => 0x26

/-! Event codes (R720). -/

/-- CKV CLK_FAIL (R720). -/
def Ev.CLK_FAIL : Nat := 0x0101
/-- CKV CLK_RESTORED (R720). -/
def Ev.CLK_RESTORED : Nat := 0x0102
/-- CKV AVS_FAIL (R720). -/
def Ev.AVS_FAIL : Nat := 0x0103
/-- TMP MARGIN_STEP (R720). -/
def Ev.MARGIN_STEP : Nat := 0x0201
/-- TMP MARGIN_LOW (R720). -/
def Ev.MARGIN_LOW : Nat := 0x0202
/-- TMP MARGIN_EXHAUSTED (R720). -/
def Ev.MARGIN_EXHAUSTED : Nat := 0x0203
/-- CFG START_FAIL (R720). -/
def Ev.START_FAIL : Nat := 0x0301
/-- CFG IMAGE_FALLBACK (R720). -/
def Ev.IMAGE_FALLBACK : Nat := 0x0302
/-- CFG NOR_SAFE (R720). -/
def Ev.NOR_SAFE : Nat := 0x0303
/-- CFG UNIT_MISSING (R720). -/
def Ev.UNIT_MISSING : Nat := 0x0304
/-- CFG IMAGE_STAGED (R720). -/
def Ev.IMAGE_STAGED : Nat := 0x0305
/-- CFG SEAL_MISMATCH (R720). -/
def Ev.SEAL_MISMATCH : Nat := 0x0306
/-- CFG UNSEALED (R720). -/
def Ev.UNSEALED : Nat := 0x0307
/-- TIM TIME_LOCK (R720). -/
def Ev.TIME_LOCK : Nat := 0x0401
/-- TIM TIME_UNLOCK (R720). -/
def Ev.TIME_UNLOCK : Nat := 0x0402
/-- TIM TIME_HOLDOVER (R720). -/
def Ev.TIME_HOLDOVER : Nat := 0x0403
/-- TIM TIME_STEP (R720). -/
def Ev.TIME_STEP : Nat := 0x0404
/-- TIM DOMAIN_SWITCH (R720). -/
def Ev.DOMAIN_SWITCH : Nat := 0x0405
/-- TIM ZC_SAMPLE (R720). -/
def Ev.ZC_SAMPLE : Nat := 0x0406
/-- SHT POOL_LOW (R720). -/
def Ev.POOL_LOW : Nat := 0x0501
/-- SHT SPILL_FULL (R720). -/
def Ev.SPILL_FULL : Nat := 0x0502
/-- SHT CORE_HUNG (R720). -/
def Ev.CORE_HUNG : Nat := 0x0503
/-- SHT TASK_KILLED (R720). -/
def Ev.TASK_KILLED : Nat := 0x0504
/-- SHT EXT_FAULT (R720). -/
def Ev.EXT_FAULT : Nat := 0x0505
/-- SHT EXT_OVERRUN (R720). -/
def Ev.EXT_OVERRUN : Nat := 0x0506
/-- RPT ZC_LOSS (R720). -/
def Ev.ZC_LOSS : Nat := 0x0601
/-- RPT AFE_FAIL (R720). -/
def Ev.AFE_FAIL : Nat := 0x0602
/-- RPT PHASE_CHANGE (R720). -/
def Ev.PHASE_CHANGE : Nat := 0x0603
/-- RPT XCVR_FAIL (R720). -/
def Ev.XCVR_FAIL : Nat := 0x0604
/-- RPT DUTY_LIMIT (R720). -/
def Ev.DUTY_LIMIT : Nat := 0x0605
/-- RPT CONN_LOST (R720). -/
def Ev.CONN_LOST : Nat := 0x0606
/-- NET RELAY_DOWN (R720). -/
def Ev.RELAY_DOWN : Nat := 0x0801
/-- NET RELAY_UP (R720). -/
def Ev.RELAY_UP : Nat := 0x0802
/-- NET NBR_FULL (R720). -/
def Ev.NBR_FULL : Nat := 0x0803
/-- NET UNREACHABLE (R720). -/
def Ev.UNREACHABLE : Nat := 0x0804
/-- NET PORT_REHOME (R720). -/
def Ev.PORT_REHOME : Nat := 0x0805
/-- MSN KEY_MISMATCH (R720). -/
def Ev.KEY_MISMATCH : Nat := 0x0901
/-- MSN IC_EXHAUSTED (R720). -/
def Ev.IC_EXHAUSTED : Nat := 0x0902
/-- MSN METER_CLOCK (R720). -/
def Ev.METER_CLOCK : Nat := 0x0903
/-- MSN BACKFILL_GAP (R720). -/
def Ev.BACKFILL_GAP : Nat := 0x0904
/-- MSN TARIFF_PUSH_LATE (R720). -/
def Ev.TARIFF_PUSH_LATE : Nat := 0x0905
/-- MSN FW_CAMPAIGN_DONE (R720). -/
def Ev.FW_CAMPAIGN_DONE : Nat := 0x0906
/-- WRP VEE_HOLD (R720). -/
def Ev.VEE_HOLD : Nat := 0x0A01
/-- WRP REANCHOR_REFUSED (R720). -/
def Ev.REANCHOR_REFUSED : Nat := 0x0A02
/-- WRP QUEUE_COLLAPSE (R720). -/
def Ev.QUEUE_COLLAPSE : Nat := 0x0A03
/-- WRP WARP_NOJOURNAL (R720). -/
def Ev.WARP_NOJOURNAL : Nat := 0x0A04
/-- WRP WARP_ECC_RESET (R720). -/
def Ev.WARP_ECC_RESET : Nat := 0x0A05
/-- WRP WARP_COLD (R720). -/
def Ev.WARP_COLD : Nat := 0x0A06
/-- PEN PEN_PIPE_FAIL (R720). -/
def Ev.PEN_PIPE_FAIL : Nat := 0x0B01
/-- PEN PEN_LOST (R720). -/
def Ev.PEN_LOST : Nat := 0x0B02
/-- PEN PEN_RANGE (R720). -/
def Ev.PEN_RANGE : Nat := 0x0B03
/-- PEN RECOMPUTE_DONE (R720). -/
def Ev.RECOMPUTE_DONE : Nat := 0x0B04
/-- PEN RECOMPUTE_MISMATCH (R720). -/
def Ev.RECOMPUTE_MISMATCH : Nat := 0x0B05
/-- SLV ROLLOVER (R720). -/
def Ev.ROLLOVER : Nat := 0x0C01
/-- SLV EST_SAT (R720). -/
def Ev.EST_SAT : Nat := 0x0C02
/-- SLV MD_SATURATED (R720). -/
def Ev.MD_SATURATED : Nat := 0x0C03
/-- SLV LEGAL_HOLD_DEV (R720). -/
def Ev.LEGAL_HOLD_DEV : Nat := 0x0C04
/-- SLV LEGAL_HOLD_CH (R720). -/
def Ev.LEGAL_HOLD_CH : Nat := 0x0C05
/-- SLV SEAL_OPEN (R720). -/
def Ev.SEAL_OPEN : Nat := 0x0C06
/-- SLV REVERIFY_FAIL (R720). -/
def Ev.REVERIFY_FAIL : Nat := 0x0C07
/-- SLV CARD_STATE (R720). -/
def Ev.CARD_STATE : Nat := 0x0C08
/-- SLV CARD_REFUSED (R720). -/
def Ev.CARD_REFUSED : Nat := 0x0C09
/-- SLV SEAL_DONE (R720). -/
def Ev.SEAL_DONE : Nat := 0x0C0A
/-- SLV AUDIT_NEAR_FULL (R720). -/
def Ev.AUDIT_NEAR_FULL : Nat := 0x0C0B
/-- SLV SETBACK (R720). -/
def Ev.SETBACK : Nat := 0x0C0C
/-- SLV LT_FORWARD (R720). -/
def Ev.LT_FORWARD : Nat := 0x0C0D
/-- SLV LT_SLEW (R720). -/
def Ev.LT_SLEW : Nat := 0x0C0E
/-- BAL LOSS (R720). -/
def Ev.LOSS : Nat := 0x0E01
/-- BAL LOSS_CLEAR (R720). -/
def Ev.LOSS_CLEAR : Nat := 0x0E02
/-- BAL GAIN (R720). -/
def Ev.GAIN : Nat := 0x0E03
/-- BAL GAIN_CLEAR (R720). -/
def Ev.GAIN_CLEAR : Nat := 0x0E04
/-- BAL THEFT_SUSPECT (R720). -/
def Ev.THEFT_SUSPECT : Nat := 0x0E05
/-- BAL THEFT_CLEAR (R720). -/
def Ev.THEFT_CLEAR : Nat := 0x0E06
/-- BEM BEM_RO (R720). -/
def Ev.BEM_RO : Nat := 0x0F01
/-- BEM BEM_FULL (R720). -/
def Ev.BEM_FULL : Nat := 0x0F02
/-- BEM LIFE_LOW (R720). -/
def Ev.LIFE_LOW : Nat := 0x0F03
/-- BEM LEGAL_SPARE_LOW (R720). -/
def Ev.LEGAL_SPARE_LOW : Nat := 0x0F04
/-- BEM LEGAL_EXPOSED (R720). -/
def Ev.LEGAL_EXPOSED : Nat := 0x0F05
/-- BEM FLUSH_SHORT (R720). -/
def Ev.FLUSH_SHORT : Nat := 0x0F06
/-- BEM NAND_MISMATCH (R720). -/
def Ev.NAND_MISMATCH : Nat := 0x0F07
/-- BEM NAND_FORMATTED (R720). -/
def Ev.NAND_FORMATTED : Nat := 0x0F08
/-- KEY KEYTABLE_FAIL (R720). -/
def Ev.KEYTABLE_FAIL : Nat := 0x1001
/-- KEY KEY_ENTRY_BAD (R720). -/
def Ev.KEY_ENTRY_BAD : Nat := 0x1002
/-- KEY TRNG_FAIL (R720). -/
def Ev.TRNG_FAIL : Nat := 0x1003
/-- KEY KEYSTORE_RO (R720). -/
def Ev.KEYSTORE_RO : Nat := 0x1004
/-- KEY PAIR_KEY_FAIL (R720). -/
def Ev.PAIR_KEY_FAIL : Nat := 0x1005
/-- KEY PKWK_NEW (R720). -/
def Ev.PKWK_NEW : Nat := 0x1006
/-- KEY PKWK_ADOPTED (R720). -/
def Ev.PKWK_ADOPTED : Nat := 0x1007
/-- KEY DEBUG_ROOT (R720). -/
def Ev.DEBUG_ROOT : Nat := 0x1008
/-- KEY LANE_FAIL (R720). -/
def Ev.LANE_FAIL : Nat := 0x1009
/-- KEY LANE_LOST (R720). -/
def Ev.LANE_LOST : Nat := 0x100A
/-- KEY KEY_IMPORTED (R720). -/
def Ev.KEY_IMPORTED : Nat := 0x100B
/-- KEY ZEROISED (R720). -/
def Ev.ZEROISED : Nat := 0x100C
/-- HST HOST_LINK_DOWN (R720). -/
def Ev.HOST_LINK_DOWN : Nat := 0x1101
/-- HST HOST_LINK_UP (R720). -/
def Ev.HOST_LINK_UP : Nat := 0x1102
/-- HST EVQ_OVERFLOW (R720). -/
def Ev.EVQ_OVERFLOW : Nat := 0x1103
/-- PAR PAIR_LINK_LOST (R720). -/
def Ev.PAIR_LINK_LOST : Nat := 0x1201
/-- PAR PAIR_LANE_DOWN (R720). -/
def Ev.PAIR_LANE_DOWN : Nat := 0x1202
/-- PAR PAIR_MISMATCH (R720). -/
def Ev.PAIR_MISMATCH : Nat := 0x1203
/-- PAR PAIR_SYNCED (R720). -/
def Ev.PAIR_SYNCED : Nat := 0x1204
/-- PAR PAIR_DIVERGED (R720). -/
def Ev.PAIR_DIVERGED : Nat := 0x1205
/-- PAR TAKEOVER (R720). -/
def Ev.TAKEOVER : Nat := 0x1206
/-- PAR CLAIM_LOST (R720). -/
def Ev.CLAIM_LOST : Nat := 0x1207
/-- PAR CLAIM_BUS_FAULT (R720). -/
def Ev.CLAIM_BUS_FAULT : Nat := 0x1208
/-- PAR PAIR_SPLIT (R720). -/
def Ev.PAIR_SPLIT : Nat := 0x1209
/-- EVT PARITY_ERR (R720). -/
def Ev.PARITY_ERR : Nat := 0x1301
/-- EVT DRAM_CE (R720). -/
def Ev.DRAM_CE : Nat := 0x1302
/-- EVT DRAM_UE (R720). -/
def Ev.DRAM_UE : Nat := 0x1303
/-- EVT NAND_UE (R720). -/
def Ev.NAND_UE : Nat := 0x1304
/-- EVT UNIT_FAILED (R720). -/
def Ev.UNIT_FAILED : Nat := 0x1305
/-- EVT FABRIC_FAIL (R720). -/
def Ev.FABRIC_FAIL : Nat := 0x1306
/-- EVT ACTIVE_FULL (R720). -/
def Ev.ACTIVE_FULL : Nat := 0x1307

end Sys2Proof.Machine
end

