-- ==== Sys2Proof/Machine/Store.lean ====
section
/-!
DEFINITION. The one canonical form in which the model keeps sparse data: a list of key and value pairs with strictly
rising keys and no entry equal to what an unlisted key reads as (`d k`). Equal contents are therefore equal lists, and
the contents after a reset are the empty list.
-/

namespace Sys2Proof.Machine

/-- Sparse data by key. What an unlisted key reads as is given with every access. -/
abbrev Store (α : Type) := List (Nat × α)

/-- The value at key `k`; `d k` where the store lists none. -/
def Store.get {α : Type} (d : Nat → α) : Store α → Nat → α
  | [], k => d k
  | (k', v) :: m, k => if k = k' then v else Store.get d m k

/-- The store without an entry at `k`. -/
def Store.erase {α : Type} : Store α → Nat → Store α
  | [], _ => []
  | (k', v) :: m, k => if k = k' then Store.erase m k else (k', v) :: Store.erase m k

/-- The store with `v` listed at `k`, in key order. -/
def Store.insert {α : Type} : Store α → Nat → α → Store α
  | [], k, v => [(k, v)]
  | (k', v') :: m, k, v =>
    if k < k' then (k, v) :: (k', v') :: m
    else if k = k' then (k, v) :: m
    else (k', v') :: Store.insert m k v

/-- The store reading `v` at `k` and as before everywhere else; the canonical form is kept. -/
def Store.put {α : Type} [DecidableEq α] (d : Nat → α) (m : Store α) (k : Nat) (v : α) : Store α :=
  if v = d k then Store.erase m k else Store.insert m k v

/-- The keys are strictly rising. -/
def Store.sorted {α : Type} : Store α → Bool
  | [] => true
  | [_] => true
  | (k, _) :: (k', v') :: m => decide (k < k') && Store.sorted ((k', v') :: m)

/-- The canonical form: keys strictly rising and no entry equal to what an unlisted key reads as. -/
def Store.wf {α : Type} [DecidableEq α] (d : Nat → α) (m : Store α) : Bool :=
  Store.sorted m && m.all (fun e => decide (e.2 ≠ d e.1))

/-- The keys the store lists, in rising order. -/
def Store.keys {α : Type} (m : Store α) : List Nat := m.map Prod.fst

/-- `f` applied to the value of every listed key; an entry that becomes what an unlisted key reads as is dropped. -/
def Store.mapAll {α : Type} [DecidableEq α] (d : Nat → α) (f : Nat → α → α) : Store α → Store α
  | [] => []
  | (k, v) :: m =>
    let w := f k v
    if w = d k then Store.mapAll d f m else (k, w) :: Store.mapAll d f m

end Sys2Proof.Machine
end

