-- ==== Sys2Proof/Machine/SBase.lean ====
section
/-!
DEFINITION. Data that several blocks share: who makes a register access, event records, host sessions' roles, and the
identities of endpoints, channels and islands (00_scope.md; 17_host_link_registers.md; 18_host_objects_roles.md).
-/

namespace Sys2Proof.Machine

/-- Who makes a register access (R10, R15): a host session slot, the maintenance UART, the recovery session or a core. -/
inductive Requester where
  | slot (part : Nat) (slot : Nat)
  | uart
  | recovery
  | core (c : Nat)
  deriving DecidableEq, Repr

/-- The requester's key in the snapshot and held-word stores (R10). -/
def Requester.key : Requester → Nat
  | .slot p k => 4 * p + k
  | .uart => 32
  | .recovery => 33
  | .core c => 64 + c

/-- One event argument (R754): a number of a given width in bytes, a signed 8-byte value, or an EUI-64. -/
inductive Arg where
  | n (width : Nat) (v : Nat)
  | i8 (v : Int)
  | eui (v : Nat)
  deriving DecidableEq, Repr

/-- One raised event or END record (R645): `unit` is SRC bits 7:0, 0xFF for none; `time` is in ns since the PTP epoch;
`seq` is the unit-wide sequence number (R721). -/
structure EvRec where
  code : Nat
  sev : Sev
  unit : Nat
  args : List Arg
  time : Nat
  seq : Nat
  isEnd : Bool
  deriving DecidableEq, Repr

/-- What decides which event queues an event enters (R669). -/
inductive EvScope where
  /-- No endpoint, channel, node, card or contract is carried. -/
  | general
  /-- An endpoint, or a channel of it. -/
  | endpoint (e : Nat)
  /-- A field node that is not an endpoint. -/
  | fieldNode
  /-- A balance node. -/
  | balNode (n : Nat)
  /-- A card or contract. -/
  | contract (c : Nat)
  deriving DecidableEq, Repr

/-- A record in a partition's event queue (R645, R646). -/
structure QRec where
  qseq : Nat
  lost : Bool
  ev : EvRec
  deriving DecidableEq, Repr

/-- Roles (R656, R658). -/
inductive Role where
  | operator
  | supplier
  | consumer
  | authority
  | maintenance
  deriving DecidableEq, Repr

/-- The role's code in HST_PART (R651). -/
def Role.code : Role → Nat
  | .operator => 1
  | .supplier => 2
  | .consumer => 3
  | .authority => 4
  | .maintenance => 5

/-- A channel's identity as one number: its endpoint times 4 plus the channel number (the CHID form of R422). -/
abbrev Chid := Nat

/-- Values of CFG_STATE.STATE (R167). -/
inductive RunSt where
  | reset
  | start
  | recovery
  | halted
  | active
  | standby
  | flush
  | flushed
  deriving DecidableEq, Repr

/-- The value in CFG_STATE.STATE (R167). -/
def RunSt.code : RunSt → Nat
  | .reset => 0
  | .start => 1
  | .recovery => 2
  | .halted => 3
  | .active => 4
  | .standby => 5
  | .flush => 6
  | .flushed => 7

end Sys2Proof.Machine
end

