-- ==== Sys2Proof/Machine/SEvt.lean ====
section
/-!
DEFINITION. State of the EVT block (20_faults_degradation.md): the table of active events, the unit-wide sequence, the
snapshot of an entry, the record of detected errors by unit, and the failed handshake channels.
-/

namespace Sys2Proof.Machine

/-- Kinds of replicated unit (R43, R726). -/
inductive UnitKind where
  | core
  | port
  | group
  | lane
  | pipe
  | nand
  deriving DecidableEq, Repr

/-- The unit kind as the one-byte argument of UNIT_FAILED, numbering from 1 (R754). -/
def UnitKind.code : UnitKind → Nat
  | .core => 1
  | .port => 2
  | .group => 3
  | .lane => 4
  | .pipe => 5
  | .nand => 6

/-- An entry of the active table; a momentary FAULT event leaves it at counter value `expires` (R719). -/
structure ActEvt where
  ev : EvRec
  scope : EvScope
  expires : Option Nat
  deriving DecidableEq, Repr

/-- Detected errors of one replicated unit within the last 24 h, as counter values (R723, R726). -/
structure UnitErrs where
  kind : UnitKind
  num : Nat
  times : List Nat
  deriving DecidableEq, Repr

/-- Locations of a detected SRAM parity error, the rows of R723. -/
inductive SramLoc where
  /-- Legal journal buffer or legal controller SRAM, one copy bad. -/
  | legalOne
  /-- The same, both copies bad at one byte of the buffered record with the given JSEQ. -/
  | legalBoth (jseq : Nat)
  | coreTcm (c : Nat)
  | cluster (n : Nat)
  | lane (l : Nat)
  | pipe (k : Nat)
  | reed (p : Nat)
  | pool (d : Nat)
  | neighbour (idx : Nat)
  | other
  deriving DecidableEq, Repr

/-- The location as the one-byte argument of PARITY_ERR, numbering the rows of R723 from 1 (R754). -/
def SramLoc.code : SramLoc → Nat
  | .legalOne => 1
  | .legalBoth _ => 2
  | .coreTcm _ => 3
  | .cluster _ => 4
  | .lane _ => 5
  | .pipe _ => 5
  | .reed _ => 6
  | .pool _ => 7
  | .neighbour _ => 8
  | .other => 9

/-- Regions of an uncorrectable DRAM error, the rows of R724. -/
inductive DramRegion where
  | legal
  | warpRecord (ep : Nat)
  /-- Entry `i` of the handoff queue of a channel. -/
  | warpQueue (ch : Chid) (i : Nat)
  | warpParam
  | balModel
  | balState (node : Nat)
  | beamMap
  | imageCopy
  | keyTable (entry : Nat)
  | backlog
  /-- Entry `i` of the spill ring of a priority. -/
  | spill (q i : Nat)
  /-- Offset `a` of a region of a partition. -/
  | dataPort (part region a : Nat)
  | window (core : Nat)
  deriving DecidableEq, Repr

/-- The region as the one-byte argument of DRAM_UE, numbering the rows of R724 from 1 (R754). -/
def DramRegion.code : DramRegion → Nat
  | .legal => 1
  | .warpRecord _ => 2
  | .warpQueue _ _ => 2
  | .warpParam => 3
  | .balModel => 3
  | .balState _ => 4
  | .beamMap => 5
  | .imageCopy => 5
  | .keyTable _ => 6
  | .backlog => 7
  | .spill _ _ => 8
  | .dataPort _ _ _ => 9
  | .window _ => 10

/-- Kinds of data an uncorrectable NAND codeword holds, the rows of R725. -/
inductive NandKind where
  | archive (chunk : Nat)
  | sealStore
  | audit
  | mapJournal
  | legalSlice (slice : Nat)
  | legalRecord (jseq : Nat)
  | warpSlice (slice : Nat)
  | templeRecord
  | pkwk
  /-- The copy of an endpoint's entry. -/
  | keyTable (ep : Nat)
  deriving DecidableEq, Repr

/-- The kind as the one-byte argument of NAND_UE, numbering the rows of R725 from 1 (R754). -/
def NandKind.code : NandKind → Nat
  | .archive _ => 1
  | .sealStore => 2
  | .audit => 2
  | .mapJournal => 3
  | .legalSlice _ => 4
  | .legalRecord _ => 5
  | .warpSlice _ => 6
  | .templeRecord => 7
  | .pkwk => 8
  | .keyTable _ => 8

/-- The EVT block (R718 to R734). -/
structure Evt where
  /-- Active entries by table position, 0 to 255, in position order (R721, R732). -/
  active : List (Nat × ActEvt)
  /-- Last unit-wide sequence number (R721). -/
  seq : Nat
  /-- ACTIVE_FULL is active (R721). -/
  fullActive : Bool
  /-- A FAULT event found the table full of FAULT events while ACTIVE_FULL is active (R721). -/
  untracked : Bool
  /-- The entry last snapshotted by EVT_ACT_IDX; none when that entry was empty (R732). -/
  snap : Option EvRec
  /-- Detected errors by replicated unit (R723). -/
  errs : List UnitErrs
  /-- Counter value of the last DRAM_CE event per DRAM channel (R724). -/
  ceLast : List (Nat × Nat)
  /-- Failed transmissions in a row per handshake channel (R722). -/
  fabric : List (Nat × Nat)
  /-- Units that failed in service, until the next start (R726). -/
  failed : List (UnitKind × Nat)
  deriving DecidableEq, Repr

/-- The EVT block after reset. (DESIGN CHOICE, log 12) -/
def Evt.reset : Evt := ⟨[], 0, false, false, none, [], [], [], []⟩

end Sys2Proof.Machine
end

