-- ==== Sys2Proof/Machine/SFrame.lean ====
section
/-!
DEFINITION. Field frames as the part sends and receives them: the Kyord Field Link frame (06_plc_ports.md R230, R231),
the network header, commands, beacons and floods (08_field_network.md R319 to R330), and the session header and DLMS
APDU of a DATA payload (09_meter_sessions.md R345 to R350). Ciphertexts are held as what their opening yields: the
invocation counter, whether the tag is valid under the endpoint's key, and the plain APDU.
-/

namespace Sys2Proof.Machine

/-- TYPE in FC (R231); other values are reserved. -/
inductive FrameType where
  | data
  | ack
  | beacon
  | command
  | flood
  | reserved (v : Nat)
  deriving DecidableEq, Repr

/-- What the decoded part of a link frame had shown when its correlation was lost, and when that was (R235, R242, R243): ACK_REQ, and
SRC once it was decoded. -/
structure PlcLost where
  ackReq : Bool
  src : Option Nat
  time : Nat
  deriving DecidableEq, Repr

/-- The network header of DATA and COMMAND payloads (R319). -/
structure NetHdr where
  /-- DIR: true = down. -/
  down : Bool
  ridx : Nat
  xfer : Bool
  hops : Nat
  cost : Nat
  /-- END: the originator of an up frame, the destination of a down frame. -/
  node : Nat
  /-- ROUTE: intermediate nodes. -/
  route : List Nat
  /-- The 8 bytes after the header of an up frame with XFER = 1 (R323); 0 otherwise. -/
  target : Nat
  deriving DecidableEq, Repr

/-- A neighbour item: EUI-64, ETX16, QUAL (R324). -/
structure NbrItem where
  eui : Nat
  etx : Nat
  qual : Nat
  deriving DecidableEq, Repr

/-- COMMAND bodies (R324, R361). -/
inductive Cmd where
  | joinReq (relay sleepy router : Bool) (wake : Nat) (items : List NbrItem)
  | joinAck (parent hopPen beaconS reportH map hopC : Nat)
  | joinRefuse (reason : Nat)
  | nbrReport (items : List NbrItem)
  | routeSet (parent : Nat)
  | relayMiss (relay misses : Nat)
  | leave (reason : Nat)
  | mapSet (map hopC nSw : Nat)
  | connReq (connInt batch : Nat)
  | connSet (event0 anchor connInt hop chOfs map supervision connWin : Nat)
  | connRefuse (reason : Nat)
  | connMap (map hop atEvent : Nat)
  | connEnd (reason : Nat)
  /-- A CMD byte outside R324 and R361. -/
  | other (code : Nat)
  deriving DecidableEq, Repr

/-- FLOOD bodies (R330, R369). -/
inductive FloodBody where
  | discover (win round : Nat)
  | multicast (campaign block : Nat) (data : List Nat)
  | orphan (parent : Nat)
  | mapUpdate (map hopC nSw : Nat)
  /-- A KIND that R330 discards. -/
  | other (kind : Nat)
  deriving DecidableEq, Repr

/-- One profile entry of a meter: the channel, the meter's date-time in seconds on its own scale with the deviation field
in minutes (none when unspecified), the register totals by direction, the measurands MEAS0 to MEAS2
and the meter's status flags (09_meter_sessions.md R352, R353, R359; 11_warp_validation.md R422). -/
structure MeterEntry where
  ch : Nat
  localSec : Int
  deviation : Option Int
  totF : Nat
  totR : Nat
  m0 : Int
  m1 : Int
  m2 : Int
  /-- Meter status bits TAMPER, MAGNETIC, REVERSE_FLOW in their R421 places. -/
  flags : Nat
  deriving DecidableEq, Repr

/-- Plain APDUs, as far as MSN tells them apart (R347 to R367). -/
inductive Apdu where
  /-- GET of a load profile by range of capture times in ns, from the part. -/
  | getProfile (fromT toT : Nat)
  /-- GET-Request-Next with the acknowledged block's number. -/
  | getNext (block : Nat)
  | aarq
  | rlrq
  /-- SET of the meter's Clock to a time in ns. -/
  | setClock (t : Nat)
  /-- SET of the passive calendar and its activation time. -/
  | setCalendar (slot : Nat) (activate : Nat)
  /-- ACTION image_transfer_initiate with the image identifier and size, and GET of image_block_size (R370). -/
  | imageInitiate (ident : List Nat) (size : Nat)
  | imageSizeGet
  | imageBlockTransfer (block : Nat) (data : List Nat)
  | imageStatusGet
  | imageVerify
  | imageActivate
  /-- Block `b` of a SET or ACTION that is too long for one APDU, by what names the whole (R346, R347). -/
  | pblock (b : Nat) (last : Bool) (of_ : List Nat)
  /-- DataNotification with profile entries and, where it carries the meter's clock, the clock in seconds. -/
  | notification (entries : List MeterEntry) (clock : Option Int)
  /-- GET response with profile entries, complete. -/
  | getResp (entries : List MeterEntry) (clock : Option Int)
  /-- GET response block with its number; `last` ends the transfer. -/
  | getBlock (block : Nat) (last : Bool) (entries : List MeterEntry)
  /-- An error answer. -/
  | respErr
  | aare (accepted : Bool) (maxPdu : Nat)
  | rlre
  /-- Response to SET or to an ACTION other than the image actions below. -/
  | done
  /-- The meter has taken block `b` of a SET or ACTION and waits for the next (R346). -/
  | blockAck (b : Nat)
  /-- Response to the GET of image_block_size. -/
  | imageBlockSize (blockSize : Nat)
  /-- image_transferred_blocks_status: the blocks still missing. -/
  | imageStatus (missing : List Nat)
  | imageVerified (ok : Bool)
  /-- An APDU of a kind R347 does not list. -/
  | unlisted
  deriving DecidableEq, Repr

/-- The session header and ciphered APDU of a DATA payload (R345, R349, R350). -/
structure SessPayload where
  mver : Nat
  mtype : Nat
  csap : Nat
  ssap : Nat
  /-- Invocation counter. -/
  ic : Nat
  /-- The tag is valid under the endpoint's keys. -/
  tagOk : Bool
  apdu : Apdu
  deriving DecidableEq, Repr

/-- A beacon's payload (R326); `time` is TIME in ns since the PTP epoch. -/
structure BeaconBody where
  port : Nat
  cell : Nat
  time : Nat
  sync : Bool
  bseq : Nat
  cost : Nat
  hops : Nat
  period : Nat
  accepts : Bool
  round : Bool
  deriving DecidableEq, Repr

/-- Payloads of link frames. -/
inductive Payload where
  | empty
  | data (h : NetHdr) (p : SessPayload)
  | command (h : NetHdr) (c : Cmd)
  | beacon (b : BeaconBody)
  | flood (origin id ttl : Nat) (b : FloodBody)
  deriving DecidableEq, Repr

/-- A link frame (R230, R231); `len` is LENGTH in bytes. -/
structure Frame where
  type : FrameType
  ackReq : Bool
  pending : Bool
  dst : Option Nat
  seq : Nat
  src : Nat
  len : Nat
  payload : Payload
  deriving DecidableEq, Repr

end Sys2Proof.Machine
end

