-- ==== Sys2Proof/Machine/SWrp.lean ====
section
/-!
DEFINITION. State of Warp: endpoint records, held chains, handoff queues, checkpoint cycle (11_warp_validation.md).
-/

namespace Sys2Proof.Machine

/-- KIND of an entry (R422). -/
inductive EntryKind where
  | actual
  | estimated
  | edit
  | gap
  | rejected
  deriving DecidableEq, Repr

/-- Its code (R422). -/
def EntryKind.code : EntryKind → Nat
  | .actual => 0
  | .estimated => 1
  | .edit => 2
  | .gap => 3
  | .rejected => 4

/-- A 64-byte entry (R422); `capture` is in ns since the PTP epoch. -/
structure Entry where
  ch : Chid
  ridx : Nat
  capture : Nat
  flags : Nat
  gaplen : Nat
  totF : Nat
  totR : Nat
  m0 : Int
  m1 : Int
  m2 : Int
  disp : Nat
  kind : EntryKind
  jseq : Nat
  deriving DecidableEq, Repr

/-- What MSN hands to Warp: a reading, or a GAP report for the indices `x` to `y` of a channel (R359, R365, R423). -/
inductive WarpItem where
  | reading (e : Entry)
  | gap (ch : Chid) (x y : Nat)
  deriving DecidableEq, Repr

/-- A channel block of an endpoint record (R419). (DESIGN CHOICE, log 14) -/
structure Chan where
  en : Bool
  raw : Bool
  est : Nat
  n : Nat
  pset : Nat
  period : Nat
  lastIdx : Nat
  totF : Nat
  totR : Nat
  /-- LAST_TIME in ns; 0 for no base. -/
  lastTime : Nat
  /-- Index of the actual reading that set LAST_TIME, which R430 derives n from. -/
  baseIdx : Nat
  lastFlags : Nat
  handIdx : Nat
  disp : Nat
  inFlight : Bool
  /-- The message in flight is a probe (R443). -/
  probe : Bool
  veeHold : Bool
  legalHold : Bool
  hourDirty : Bool
  armed : Bool
  rejRun : Nat
  profDays : Nat
  /-- RATE; none while it holds no value (R431). -/
  rate : Option Nat
  hourAcc : Nat
  /-- Profile slots by 24 x day type + hour; 0 where unlisted. -/
  profile : Store Nat
  /-- Held chain in RIDX order: entries and GAP markers, each with the counter value at which it was held (R432, R433). -/
  held : List (Nat × Entry)
  /-- Handoff queue in RIDX order (R442). -/
  queue : List Entry
  /-- Index of the previous message offered since t_r (R438). -/
  offered : Option Nat
  /-- Indices REJECTED since the base index (R434). -/
  rejs : List Nat
  /-- Index of a REANCHOR entry that is applied and has no disposition yet (R440). -/
  anchorIdx : Option Nat
  /-- Capture time in ns and totals of the last applied entry that carried totals (R541); time 0 for none. -/
  appTime : Nat
  appF : Nat
  appR : Nat
  deriving DecidableEq, Repr

/-- A channel that the image does not enable. -/
def Chan.blank : Chan :=
  { en := false, raw := false, est := 0, n := 0, pset := 0, period := 0, lastIdx := 0, totF := 0, totR := 0, lastTime := 0,
    baseIdx := 0, lastFlags := 0, handIdx := 0, disp := 0, inFlight := false, probe := false, veeHold := false, legalHold := false,
    hourDirty := false, armed := false, rejRun := 0, profDays := 0, rate := none, hourAcc := 0, profile := [],
    held := [], queue := [], offered := none, rejs := [], anchorIdx := none, appTime := 0, appF := 0, appR := 0 }

/-- A record header (R418). -/
structure EpRec where
  valid : Bool
  cls : Nat
  channels : Nat
  eflags : Nat
  lastRx : Nat
  deriving DecidableEq, Repr

/-- An endpoint that the image does not list. -/
def EpRec.blank : EpRec := ⟨false, 0, 0, 0, 0⟩

/-- What a checkpoint slice holds of Warp (R450): record headers and channel blocks. -/
structure WarpSlice where
  eps : List (Nat × EpRec)
  chans : List (Nat × Chan)
  stamp : Nat
  deriving DecidableEq, Repr

/-- Warp. -/
structure Wrp where
  eps : Store EpRec
  chans : Store Chan
  /-- Highest JSEQ given (R449). -/
  jseq : Nat
  /-- Device paused under R443. -/
  paused : Bool
  /-- Channel last probed (R443). -/
  probeAt : Nat
  /-- Outage span in ns, latched at the first opening of the handoff since t_r (R436). -/
  outage : Option (Nat × Nat)
  outageDone : Bool
  noJournal : Bool
  ckptSlice : Nat
  ckptCycles : Nat
  /-- Snapshot of a record by WRP_REC_IDX (R454). -/
  snap : Option (EpRec × Nat × List Chan)
  cmdResult : Nat
  deriving DecidableEq, Repr

/-- Warp after reset. (DESIGN CHOICE, log 12) -/
def Wrp.reset : Wrp :=
  { eps := [], chans := [], jseq := 0, paused := false, probeAt := 0, outage := none, outageDone := false,
    noJournal := false, ckptSlice := 0, ckptCycles := 0, snap := none, cmdResult := 0 }

end Sys2Proof.Machine
end

