-- ==== Sys2Proof/Machine/SMsn.lean ====
section
/-!
DEFINITION. State of Meter Sessions: session records, requests, block transfers and the firmware campaign
(09_meter_sessions.md).
-/

namespace Sys2Proof.Machine

/-- What a confirmed request is for; its class in R358 follows. -/
inductive ReqKind where
  /-- Interval read from one capture time to another, in ns (R355, R356). -/
  | poll (fromT toT : Nat)
  /-- READ_NOW of a host session (R682): partition, session slot, REQ_ID. -/
  | hostRead (part slot reqId fromT toT : Nat)
  /-- Tariff push of a card slot, to be active from `act` (R372). -/
  | push (slot act : Nat)
  /-- Backfill of a channel from its first missing index (R364). -/
  | backfill (ch : Nat) (first : Nat) (fromT : Nat)
  /-- A campaign step's action (R370). -/
  | firmware (apdu : Apdu)
  /-- SET of the meter's Clock (R354). -/
  | clock (t : Nat)
  deriving DecidableEq, Repr

/-- Start order of held requests (R358). -/
def ReqKind.cls : ReqKind → Nat
  | .hostRead _ _ _ _ _ => 2
  | .push _ _ => 3
  | .poll _ _ => 4
  | .clock _ => 4
  | .backfill _ _ _ => 5
  | .firmware _ => 6

/-- A confirmed request. -/
structure Req where
  kind : ReqKind
  /-- FAST traffic goes first (R358, class 1). -/
  fast : Bool
  /-- Counter value at which it fell due. -/
  due : Nat
  /-- Transmissions made (R357). -/
  tries : Nat
  /-- Counter value of its delivery; none before. -/
  delivered : Option Nat
  /-- It came back undelivered (R357). -/
  back : Bool
  /-- Counter value of the endpoint's first uplink since the delivery (R357, PUSHED). -/
  uplink : Option Nat
  deriving DecidableEq, Repr

/-- The request's class (R358). -/
def Req.cls (r : Req) : Nat := if r.fast then 1 else r.kind.cls

/-- A GET with-datablock transfer (R366). -/
structure Transfer where
  /-- Number of the last block received intact. -/
  block : Nat
  /-- Counter value of the last valid block. -/
  at_ : Nat
  kind : ReqKind
  deriving DecidableEq, Repr

/-- An endpoint's session record (R344 to R367). -/
structure Sess where
  /-- An association is open (R348). -/
  assoc : Bool
  /-- An AARQ awaits its AARE. -/
  aarqSent : Bool
  /-- Counter value of the last valid APDU in either direction. -/
  lastApdu : Nat
  /-- server-max-receive-pdu-size; 0 until an AARE gives it. -/
  maxPdu : Nat
  /-- Next transmit invocation counter and the end of the present reservation (R351); none until one is reserved. -/
  icTx : Option (Nat × Nat)
  /-- Last invocation counter accepted (R350). -/
  icRx : Option Nat
  tagFails : Nat
  /-- IC_EXHAUSTED is active (R351). -/
  icOut : Bool
  outReq : Option Req
  transfer : Option Transfer
  /-- The endpoint's clock differs by more than CLOCK_TOL (R354). -/
  clockSuspect : Bool
  /-- The block of a SET or ACTION sent in blocks that is under way; 0 for none (R346). -/
  sendBlk : Nat
  /-- One more than the interval that was last read on schedule (R356). -/
  polled : Nat
  deriving DecidableEq, Repr

/-- A session record before any traffic. -/
def Sess.blank : Sess :=
  { assoc := false, aarqSent := false, lastApdu := 0, maxPdu := 0, icTx := none, icRx := none, tagFails := 0,
    icOut := false, outReq := none, transfer := none, clockSuspect := false, sendBlk := 0,
    polled := 0 }

/-- Where a campaign target stands (R370). -/
inductive TargetSt where
  | pending
  /-- image_transfer_initiate is done; its block size is asked for next. -/
  | started
  | initiated (blockSize : Nat)
  /-- Its block size and the blocks still missing there. -/
  | missing (blockSize : Nat) (blocks : List Nat)
  | complete
  | verified
  | failed
  deriving DecidableEq, Repr

/-- A target: its endpoint, the home port it is served at, and where it stands. -/
structure Target where
  ep : Nat
  port : Nat
  st : TargetSt
  deriving DecidableEq, Repr

/-- How far a campaign is at one home port (R370): its step, the multicast rounds run, the blocks of the present round
still to send, and the counter value at which the last one left. -/
structure CampPort where
  port : Nat
  step : Nat
  rounds : Nat
  todo : List Nat
  sentAt : Option Nat
  deriving DecidableEq, Repr

/-- A host read that waits for its readings to reach Warp (R682): the endpoint, who asked, the entries returned, those Warp has
not taken yet, and whether the response is complete. -/
structure HostRead where
  ep : Nat
  part : Nat
  slot : Nat
  reqId : Nat
  total : Nat
  left : Nat
  closed : Bool
  deriving DecidableEq, Repr

/-- A meter firmware campaign (R369 to R371, R674). -/
structure Campaign where
  num : Nat
  ident : List Nat
  size : Nat
  image : List Nat
  targets : List Target
  ports : List CampPort
  /-- Activation time in ns, once ordered (R676). -/
  activate : Option Nat
  /-- It resumed after a restart or a takeover: every target's own bitmap is read at step 4 (R371). -/
  resumed : Bool
  deriving DecidableEq, Repr

/-- Meter Sessions. (DESIGN CHOICE, log 14) -/
structure Msn where
  sess : Store Sess
  /-- Requests due that have not started (R358), by endpoint. -/
  held : List (Nat × Req)
  /-- Readings and GAP reports on their way to Warp, in order (R359). -/
  toWarp : List WarpItem
  campaign : Option Campaign
  hostReads : List HostRead
  /-- Readings of APDUs that a core extracts, by endpoint, oldest first: they reach Warp as the core's task ends (R398). -/
  atCore : List (Nat × List WarpItem)
  /-- Calendar pushes, by endpoint and card slot, whose lateness has been reported (R372). -/
  late : List (Nat × Nat)
  deriving DecidableEq, Repr

/-- Meter Sessions after reset. (DESIGN CHOICE, log 12) -/
def Msn.reset : Msn := ⟨[], [], [], none, [], [], []⟩

end Sys2Proof.Machine
end

