-- ==== Sys2Proof/Machine/SBal.lean ====
section
/-!
DEFINITION. The Balance Engine's network model and state (14_balance_engine.md).
-/

namespace Sys2Proof.Machine

/-- A member entry (R538). -/
structure BalMember where
  out : Bool
  dirCheck : Bool
  ch : Chid
  deriving DecidableEq, Repr

/-- A node's configuration: words 0 to 10 of R537 with its members and segments (volume in L and STATE channel, R539). -/
structure BalNode where
  period : Nat
  parent : Option Nat
  mfirst : Nat
  sfirst : Nat
  oe : Int
  base : Nat
  k : Nat
  h : Nat
  bias : Int
  gross : Nat
  qFloor : Nat
  clearN : Nat
  members : List BalMember
  segs : List (Nat × Chid)
  deriving DecidableEq, Repr

/-- A part of a contribution that lies in one period (R543): its channel and index, whether its member is OUT, the whole
contribution in meter quanta with its span in ns, the part's own limits, and the flags ESTIMATED and IRC. It is converted when
the period is evaluated, with the factors that have arrived by then (R542). -/
structure BalPart where
  ch : Chid
  ridx : Nat
  out : Bool
  c : Int
  a : Nat
  b : Nat
  lo : Nat
  hi : Nat
  est : Bool
  irc : Bool
  deriving DecidableEq, Repr

/-- A period not yet evaluated; `e` is its end in minutes since the PTP epoch. -/
structure BalBin where
  e : Nat
  parts : List BalPart
  deriving DecidableEq, Repr

/-- A balance record (R548). -/
structure BalRec where
  node : Nat
  flags : Nat
  e : Nat
  inp : Int
  out : Int
  dinv : Int
  resid : Int
  x : Int
  estPct : Nat
  deriving DecidableEq, Repr

/-- A node's state: words 11 to 15 of R537 and its bins. -/
structure BalSt where
  sPos : Nat
  sNeg : Nat
  loss : Bool
  gain : Bool
  theft : Bool
  clearRun : Nat
  quiet : Nat
  /-- LAST_END in minutes since the PTP epoch. -/
  lastEnd : Nat
  bins : List BalBin
  last : Option BalRec
  /-- Periods up to this end are INCOMPLETE: the first one after BAL_CTRL.EN was set again (R550), and those open at an
  uncorrectable DRAM error (R724). -/
  firstBad : Nat
  /-- End of the next period to be evaluated (R549, R550). -/
  next : Nat
  deriving DecidableEq, Repr

/-- A node without history. -/
def BalSt.blank : BalSt := ⟨0, 0, false, false, false, 0, 0, 0, [], none, 0, 0⟩

/-- What the hourly write saves of a node (R549): words 11 to 15. -/
structure BalSave where
  node : Nat
  sPos : Nat
  sNeg : Nat
  loss : Bool
  gain : Bool
  theft : Bool
  clearRun : Nat
  quiet : Nat
  lastEnd : Nat
  deriving DecidableEq, Repr

/-- What BAL knows of a channel: capture time of its latest notification (R544) and its copied factors by RIDX with the
capture time of their entry, newest first: RIDX, F as binary64, FALLBACK (R542). -/
structure BalChan where
  covered : Nat
  factors : List (Nat × Nat × Bool)
  /-- Applied ACTUAL entries of a STATE channel not yet needed: capture time in ns and RIDX, newest first (R545). -/
  entries : List (Nat × Nat)
  deriving DecidableEq, Repr

/-- A channel BAL has heard nothing of. -/
def BalChan.blank : BalChan := ⟨0, [], []⟩

/-- A Warp notification (R541): channel, index, capture time of the previous applied entry with totals and of this one in ns, the
deltas, the flags, and whether the entry is ACTUAL. A base carries no delta. -/
structure BalNote where
  ch : Chid
  ridx : Nat
  prev : Nat
  capture : Nat
  dF : Nat
  dR : Nat
  base : Bool
  flags : Nat
  actual : Bool
  deriving DecidableEq, Repr

/-- The Balance Engine. -/
structure Bal where
  en : Bool
  nodes : Store BalSt
  chans : Store BalChan
  /-- Snapshot by BAL_NODE_IDX: node, its state (R553). -/
  snap : Option (Nat × BalSt)
  /-- Notifications not yet applied, and factors copied from the journal and not yet taken: channel, RIDX, F, FALLBACK (R541,
  R542). -/
  inbox : List BalNote
  factorIn : List (Chid × Nat × Nat × Bool)
  /-- Presented time in minutes up to which period ends have been taken (R544). -/
  taken : Nat
  deriving DecidableEq, Repr

/-- The Balance Engine after reset. (DESIGN CHOICE, log 12) -/
def Bal.reset : Bal := ⟨false, [], [], none, [], [], 0⟩

end Sys2Proof.Machine
end

