-- ==== Sys2Proof/Machine/SClock.lean ====
section
/-!
DEFINITION. State of Treadle (CKV) and Temple (TMP): 03_clocks_islands_ageing.md.
-/

namespace Sys2Proof.Machine

/-- Where a change of operating point stands, the steps of R117. -/
inductive Trans where
  | idle
  /-- Step 1: the rail write waits or settles. -/
  | railUp
  /-- Step 2: the island regulator moves to the target's planned voltage. -/
  | voltUp
  /-- Steps 3 and 4: frequency steps of R110. -/
  | stepping
  /-- Step 5: the island regulator lowers the voltage. -/
  | voltDown
  /-- Step 6: the rail write settles. -/
  | railDown
  deriving DecidableEq, Repr

/-- One island (R88, R102 to R130). -/
structure Island where
  /-- Powered and clocked: CKV_ISL_EN bit (R102). -/
  en : Bool
  /-- CKV_ISL_BUSY bit (R103). -/
  busy : Bool
  /-- Step 1 of R105 has been taken and step 4 not yet. -/
  closing : Bool
  /-- An open request arrived while the island was closing (R107). -/
  reopen : Bool
  cur : Nat
  tgt : Nat
  limit : Nat
  trans : Trans
  /-- The step the transition heads for. -/
  goal : Nat
  /-- Settled voltage in mV while open (R121). -/
  mv : Nat
  /-- Temple's ageing offset in mV (R127). -/
  offset : Nat
  /-- OFFSET and LIMIT of the plan in force: the present transition, or the present voltage, was planned with them (R122). -/
  applied : Nat
  lim : Nat
  /-- The island regulator has been given a new voltage and has not settled yet (R114). -/
  ramp : Bool
  /-- The present transition has taken step 4 or 5 of R117, or was headed elsewhere, so that step 6 belongs to it. -/
  fell : Bool
  /-- A closed island whose opening waits for its rail (R107, R118), with the operand of ISLAND_OPEN that says which radio
  transceivers initialise. -/
  opening : Option Nat
  /-- Last measured lowest slack in % (R137). -/
  slack : Nat
  /-- Consecutive measurement cycles in which the island was skipped (R126). -/
  skips : Nat
  /-- Running at its LIMIT step for a measurement window only (R126). -/
  forWindow : Bool
  /-- MARGIN_LOW was raised for the island (R135). -/
  lowRaised : Bool
  /-- History points of powered hours and OFFSET, oldest first (R133, R134). -/
  history : List (Nat × Nat)
  /-- Projected date of R134 in ns since the PTP epoch; 0 for none. -/
  proj : Nat
  deriving DecidableEq, Repr

/-- A closed island with nothing planned. (DESIGN CHOICE, log 12) -/
def Island.blank : Island :=
  { en := false, busy := false, closing := false, reopen := false, cur := 0, tgt := 0, limit := 0, trans := .idle, goal := 0,
    mv := 0, offset := 0, applied := 0, lim := 0, ramp := false, fell := false, opening := none, slack := 0, skips := 0,
    forWindow := false, lowRaised := false, history := [], proj := 0 }

/-- One adjustable rail (R116 to R120). -/
structure Rail where
  /-- Last acknowledged voltage in mV. -/
  mv : Nat
  fail : Bool
  /-- AVSBus writes in request order: the target in mV (R123); the first is on the bus. -/
  queue : List Nat
  /-- Retries made of the first write (R119). -/
  retries : Nat
  deriving DecidableEq, Repr

/-- Treadle and the clock monitor (R90 to R123). -/
structure Clk where
  islands : Store Island
  hi : Rail
  lo : Rail
  /-- Selected source is the IRC (R101). -/
  irc : Bool
  refOk : Bool
  /-- Synthesisers frozen during a switch (R95). -/
  hold : Bool
  lossCnt : Nat
  /-- The rail selects are known and the Vout transition rate has been written, so that voltage writes are sent (R118). -/
  avsOn : Bool
  deriving DecidableEq, Repr

/-- Treadle after reset: only AON runs, every synthesiser on the IRC (R92, R101, R120). (DESIGN CHOICE, log 12) -/
def Clk.reset : Clk :=
  { islands := [(0, { Island.blank with en := true })],
    hi := ⟨850, false, [], 0⟩, lo := ⟨800, false, [], 0⟩,
    irc := true, refOk := false, hold := false, lossCnt := 0, avsOn := false }

/-- Temple's record in the system area (R133), on the NAND. -/
structure TempleRecord where
  offsets : List (Nat × Nat)
  limits : List (Nat × Nat)
  hours : Nat
  first : Nat
  history : List (Nat × List (Nat × Nat))
  /-- Islands for which MARGIN_EXHAUSTED is active: it never ends until the part is replaced (R138). (DEDUCED) -/
  exhausted : List Nat
  deriving DecidableEq, Repr

/-- Temple's measurement cycle (R125 to R137). -/
structure Temple where
  /-- The islands still to be measured in the running cycle, in index order; none when no cycle runs. -/
  todo : Option (List Nat)
  cycles : Nat
  /-- Powered hours of the record (R133), and the counter value up to which they are counted. -/
  hours : Nat
  hourBase : Nat
  /-- First-start time in ns since the PTP epoch; 0 for none (R133). -/
  first : Nat
  /-- Islands that an alarm has Temple measure outside a cycle, oldest first (R130). -/
  alarms : List Nat
  /-- Counter values at which the present window and the last cycle began (R125). -/
  winAt : Nat
  cycleAt : Nat
  deriving DecidableEq, Repr

/-- Temple after reset. -/
def Temple.reset : Temple :=
  { todo := none, cycles := 0, hours := 0, hourBase := 0, first := 0, alarms := [], winAt := 0, cycleAt := 0 }

end Sys2Proof.Machine
end

