-- ==== Sys2Proof/Machine/SHst.lean ====
section
/-!
DEFINITION. State of the host link (17_host_link_registers.md, 18_host_objects_roles.md): host ports, partitions with
their event queues, data ports and regions, sessions, handshakes and the MDIO master.
-/

namespace Sys2Proof.Machine

/-- One data-space region of a partition (R635, R636): its bytes, unwritten ones reading 0, the extents written since the
last commit as [start, end) pairs in rising order, the 64 KiB pages taken, whether its commit is with the consumer, and whether
the consumer has taken it up. -/
structure Region where
  data : Store Byte
  ext : List (Nat × Nat)
  pages : List Nat
  busy : Bool
  taken : Bool
  deriving DecidableEq, Repr

/-- A region nothing has written. -/
def Region.blank : Region := ⟨[], [], [], false, false⟩

/-- Consumer decision shown in HST_DP_STAT.STATUS (R642, R652). -/
inductive CommitSt where
  | idle
  | handed
  | done
  | refused
  deriving DecidableEq, Repr

/-- Its code (R652). -/
def CommitSt.code : CommitSt → Nat
  | .idle => 0
  | .handed => 1
  | .done => 2
  | .refused => 3

/-- One host partition (R626 to R652). -/
structure Part where
  /-- Event queue, oldest first, at most 4,096 records (R645). -/
  evq : List QRec
  nextQseq : Nat
  /-- Records were discarded since the last one entered (R646). -/
  lostMark : Bool
  lostCnt : Nat
  /-- EVQ_OVERFLOW has been raised since the queue was last below 3,072 records (R646). -/
  overRaised : Bool
  /-- A burst is open (R639). -/
  burstOpen : Bool
  /-- BSN of the open burst or of the last one; none before the first (R639). -/
  bsn : Option Nat
  /-- Expected index X. -/
  expect : Nat
  /-- HST_DP_ADDR. -/
  addr : Nat
  /-- Counter value of the last write to the open burst (R640). -/
  burstAt : Nat
  /-- HST_DP_IDLE_TIMEOUT.MS, HST_DP_COMMIT_LEN (R652). -/
  idleMs : Nat
  commitLen : Nat
  commitRegion : Nat
  commitCode : Nat
  commitSt : CommitSt
  /-- Regions by region code. -/
  regions : Store Region
  /-- End of the previous OUT result (R662), and spans of OUT whose result an error discarded (R724). -/
  outEnd : Nat
  outBad : List (Nat × Nat)
  /-- Last card commit: TYPE, R504 code, SLOT (R672). -/
  lastCard : Option (Nat × Nat × Nat)
  /-- A key certificate issue is outstanding (R681): session slot, REQ_ID, KTYPE. -/
  issue : Option (Nat × Nat × Nat)
  deriving DecidableEq, Repr

/-- A partition after reset. -/
def Part.blank : Part :=
  { evq := [], nextQseq := 0, lostMark := false, lostCnt := 0, overRaised := false, burstOpen := false, bsn := none,
    expect := 0, addr := 0, burstAt := 0, idleMs := 500, commitLen := 0, commitRegion := 0, commitCode := 0,
    commitSt := .idle, regions := [], outEnd := 0, outBad := [], lastCard := none, issue := none }

/-- One register operation of a REG_REQ (R631): a write where `write` holds. -/
structure RegOp where
  write : Bool
  addr : Nat
  value : Word
  deriving DecidableEq, Repr

/-- A kept answer (R633, R663): the results of a REG_REQ, or of an object request its status, place, length, address and
bytes. -/
inductive Kept where
  | regs (rs : List (Status × Word))
  | obj (st : Status) (flags : Nat) (place : Nat) (len : Nat) (addr : Nat) (bytes : List Nat)
  deriving DecidableEq, Repr

/-- One open session (R622 to R633). -/
structure Session where
  role : Role
  sid : Nat
  /-- Highest SEQ accepted, and the accepted ones within 64 of it (R624). -/
  high : Option Nat
  seen : List Nat
  /-- The part's own next SEQ. -/
  txSeq : Nat
  /-- Host port of the latest datagram accepted (R626). -/
  port : Nat
  subscribed : Bool
  /-- Highest REQ_ID seen and the kept answers, newest first, at most 16 (R633). -/
  reqHigh : Option Nat
  kept : List (Nat × Kept)
  /-- Object requests outstanding (R663). -/
  outstanding : List Nat
  /-- Counter value of the last accepted datagram (R629). -/
  heard : Nat
  deriving DecidableEq, Repr

/-- A sealed datagram's header as far as R622 to R626 use it: partition, slot, the host port it arrives on, SID, SEQ, payload
length, and whether its tag is valid under the session's key. -/
structure Dg where
  part : Nat
  slot : Nat
  port : Nat
  sid : Nat
  seq : Nat
  len : Nat
  tagOk : Bool
  deriving DecidableEq, Repr

/-- An object request (R660): its datagram, REQ_ID, OBJ_ID bytes A to F, TARGET, ARG_REF and the inline argument. -/
structure ObjReq where
  dg : Dg
  reqId : Nat
  oid : List Nat
  target : Nat
  argRef : Bool
  arg : List Nat
  deriving DecidableEq, Repr

/-- One fragment of a handshake message (R627): MSG_LEN, FRAG_IDX, FRAG_CNT, and how many message bytes it carries. -/
structure Frag where
  msgLen : Nat
  idx : Nat
  cnt : Nat
  len : Nat
  deriving DecidableEq, Repr

/-- Message bytes of a fragment at most (R627). -/
def fragMax : Nat := 1024

/-- The fragments that a message of `n` bytes is sent in (R627). -/
def fragments (n : Nat) : List Frag :=
  let cnt := (n + fragMax - 1) / fragMax
  (List.range cnt).map (fun i => ⟨n, i, cnt, min fragMax (n - fragMax * i)⟩)

/-- HS_DEVICE and HS_HOST in bytes (R627). -/
def hsDeviceLen : Nat := 51530
def hsHostLen : Nat := 51488

/-- A handshake in progress (R610, R627, R628). -/
structure Handshake where
  part : Nat
  slot : Nat
  /-- Credential index of step 1. -/
  cred : Nat
  nonce : Nat
  sid : Nat
  port : Nat
  /-- Counter value of its HS_HELLO. -/
  since : Nat
  /-- FRAG_IDX of the fragments of HS_HOST that have arrived (R627). -/
  got : List Nat
  deriving DecidableEq, Repr

/-- The host link. -/
structure Hst where
  /-- Link level by host port. -/
  link : Store Bool
  parts : Store Part
  /-- Open sessions by 4 x partition + slot; none for a free slot. -/
  sessions : Store (Option Session)
  handshakes : List Handshake
  nextSid : Nat
  /-- An MDIO frame is running (R621). -/
  mdioBusy : Bool
  deriving DecidableEq, Repr

/-- The host link after reset. (DESIGN CHOICE, log 12) -/
def Hst.reset : Hst := ⟨[], [], [], [], 1, false⟩

end Sys2Proof.Machine
end

