-- ==== Sys2Proof/Machine/SSlv.lean ====
section
/-!
DEFINITION. State of Selvedge and Jacquard: legal registers, settlement state, tariff cards, the legal journal, seals,
holds, legal outputs and legal time (13_selvedge_tariffs.md; 05_time_base.md R203 to R212).
-/

namespace Sys2Proof.Machine

/-- A total object (R487). -/
structure Total where
  value : Nat
  est : Nat
  roll : Nat
  deriving DecidableEq, Repr

/-- A total nothing has been credited to. -/
def Total.zero : Total := ⟨0, 0, 0⟩

/-- A maximum-demand record (R491). -/
structure MaxDem where
  value : Nat
  sat : Bool
  /-- Start of the interval in whole minutes since the PTP epoch; 0 for none. -/
  start : Nat
  deriving DecidableEq, Repr

/-- No demand since the last reset. -/
def MaxDem.zero : MaxDem := ⟨0, false, 0⟩

/-- Quanta credited into the demand interval that ends at `e` (R497). `ok`: every part so far is MEASURED and comes from a
reading whose span lies inside the interval. -/
structure DemAcc where
  e : Nat
  f : Nat
  r : Nat
  ok : Bool
  deriving DecidableEq, Repr

/-- A held excess (R490): the total it belongs to as 2 x tariff + direction, and whether its credit was estimated.
(DEDUCED, log 91) -/
structure Excess where
  obj : Nat
  q : Nat
  est : Bool
  deriving DecidableEq, Repr

/-- A block taken for a day record (R498, R516). -/
structure DayBlock where
  close : Nat
  totals : Store Total
  mds : Store MaxDem
  held : Bool
  expired : Bool
  deriving DecidableEq, Repr

/-- Legal state of one channel (R486, R491, R496, R498, R523, R525). Index instants and boundary instants are TAI seconds since
the PTP epoch; instants of legal time L are in ns. -/
structure LChan where
  hasBase : Bool
  lastIdx : Nat
  /-- Index instant of the first base, and of the last accepted reading. -/
  baseAt : Nat
  lastAt : Nat
  /-- Index instant of the present base: of the first base or of the latest re-anchored reading (R492, R497). -/
  anchorAt : Nat
  /-- Last accepted meter totals. -/
  mF : Nat
  mR : Nat
  /-- Total objects and maximum-demand records by 2 x tariff + direction. -/
  totals : Store Total
  mds : Store MaxDem
  /-- Carried fractions in 2^-16 quanta (R493). -/
  fracF : Nat
  fracR : Nat
  /-- Last factor from a MEASURED result without flags, as a binary64 pattern (R472). -/
  lastFac : Option Nat
  acc : List DemAcc
  /-- Every settlement instant up to here is settled (R496). -/
  settled : Nat
  blocks : List DayBlock
  /-- Instant at which re-anchor consent lapses (R525). -/
  consent : Option Nat
  holdRoll : Bool
  holdAuth : Bool
  excess : List Excess
  /-- Spans of channel holds, newest first; the end is none while the hold lasts. -/
  holds : List (Nat × Option Nat)
  /-- Totals whose EST_SAT was raised, bit 2 x tariff + direction (R489). -/
  estSat : Nat
  deriving DecidableEq, Repr

/-- A channel without a base. -/
def LChan.blank : LChan :=
  { hasBase := false, lastIdx := 0, baseAt := 0, lastAt := 0, anchorAt := 0, mF := 0, mR := 0, totals := [], mds := [], fracF := 0,
    fracR := 0, lastFac := none, acc := [], settled := 0, blocks := [], consent := none, holdRoll := false,
    holdAuth := false, excess := [], holds := [], estSat := 0 }

/-- A daylight-saving rule (R499): month, week, weekday, minute. -/
structure DstRule where
  month : Nat
  week : Nat
  weekday : Nat
  minute : Nat
  deriving DecidableEq, Repr

/-- A season (R499): start month and day, and the day type of Sunday to Saturday. -/
structure Season where
  month : Nat
  day : Nat
  types : List Nat
  deriving DecidableEq, Repr

/-- A card body (R499). `profiles` are the 16 profiles as lists of minute and rate; ACT_AT in ns since the PTP epoch. -/
structure CardBody where
  cver : Nat
  contract : Nat
  cardId : Nat
  actAt : Nat
  demandMin : Nat
  nrates : Nat
  mdReset : Nat
  nseasons : Nat
  stdOfs : Int
  dstOfs : Nat
  nhol : Nat
  dstStart : DstRule
  dstEnd : DstRule
  holDt : Nat
  seasons : List Season
  /-- Year, month, day. -/
  holidays : List (Nat × Nat × Nat)
  profiles : List (List (Nat × Nat))
  /-- The 1,056 bytes as staged, which a reading of the card returns; none for the default card. -/
  bytes : List Nat
  deriving DecidableEq, Repr

/-- The default card of R502. -/
def CardBody.default : CardBody :=
  { cver := 1, contract := 0, cardId := 0, actAt := 0, demandMin := 60, nrates := 1, mdReset := 0, nseasons := 1,
    stdOfs := 0, dstOfs := 0, nhol := 0, dstStart := ⟨1, 1, 0, 0⟩, dstEnd := ⟨1, 1, 0, 0⟩, holDt := 0,
    seasons := [⟨1, 1, [0, 0, 0, 0, 0, 0, 0]⟩], holidays := [], profiles := [[(0, 0)]], bytes := [] }

/-- Card states (R505, R534). -/
inductive CardSt where
  | free
  | staged
  | partly
  | pending
  | active
  | superseded
  | expired
  | withdrawn
  deriving DecidableEq, Repr

/-- STATE in JQD_CARD_INFO (R534). -/
def CardSt.code : CardSt → Nat
  | .free => 0
  | .staged => 1
  | .partly => 2
  | .pending => 3
  | .active => 4
  | .superseded => 5
  | .expired => 6
  | .withdrawn => 7

/-- A card slot (R503 to R507, R534). -/
structure CardSlot where
  st : CardSt
  body : CardBody
  /-- L at which its STAGE was accepted. -/
  stagedAt : Nat
  sigSup : Bool
  sigCon : Bool
  /-- Public key and signature of each SIGN accepted, supplier and consumer (R503, R513). -/
  supMsg : List Nat
  conMsg : List Nat
  lastCode : Nat
  deriving DecidableEq, Repr

/-- A slot no card has taken. -/
def CardSlot.blank : CardSlot := ⟨.free, CardBody.default, 0, false, false, [], [], 0⟩

/-- A part of a booked reading (R494, R513). -/
structure Part' where
  tariff : Nat
  dir : Nat
  q : Nat
  est : Bool
  outage : Bool
  deriving DecidableEq, Repr

/-- A seal header (R517). -/
structure SealHdr where
  close : Nat
  sealedAt : Nat
  leaves : Nat
  root : Nat
  legalDigest : Nat
  romDig : Nat
  tableVer : Nat
  holds : Nat
  eui : Nat
  number : Nat
  deriving DecidableEq, Repr

/-- Bodies of legal journal records (R513). -/
inductive JBody where
  | reading (ch : Chid) (ridx n disp flags tableVer f : Nat) (parts : List Part') (mds : List (Nat × MaxDem))
  | boundary (t : Nat) (demandEnd switch dayClose activation : Bool) (settled expired activated : Nat)
  | rollover (ch : Chid) (tariff dir roll : Nat)
  | dayLeaf (close ep leaf : Nat)
  | seal_ (h : SealHdr) (sig : Nat)
  | card (slot : Nat) (st : CardSt) (body : CardBody) (supMsg conMsg : List Nat)
  | hold (ch : Option Chid) (cause : Nat) (begins : Bool) (excess : Option Excess) (stuck : List (Nat × Total) := [])
  | authority (cmd arg : Nat) (outcome : Status)
  | reanchor (ch : Chid) (oldF oldR newF newR : Nat)
  /-- 1 SETBACK, 2 LT_FORWARD, 3 LT_SLEW, with Delta in ns. -/
  | time (kind : Nat) (delta : Int)
  | ckpt (slice stamp : Nat)
  | start (outFrom outTo digest cause : Nat)
  | pulse (emitted : List Nat)
  /-- An event that R535 marks journaled and that has no record type of its own. -/
  | event (code : Nat) (arg : Nat)
  deriving DecidableEq, Repr

/-- A day-close set being collected (R508 step 3, R516, R517). -/
structure DaySet where
  close : Nat
  contract : Nat
  cardId : Nat
  /-- Start of the legal day that `close` closes. -/
  opened : Nat
  /-- Endpoints whose leaf is journaled, with the leaf hash. -/
  leaves : List (Nat × Nat)
  deriving DecidableEq, Repr

/-- A seal being made (R517). -/
structure SealJob where
  close : Nat
  sealedAt : Nat
  leaves : List (Nat × Nat)
  number : Nat
  holds : Nat
  /-- The header once the tree is built and sent for signing. -/
  hdr : Option SealHdr
  deriving DecidableEq, Repr

/-- Device-level legal state: card store, cards in force, boundaries, day sets, seals, legal outputs and hold causes. -/
structure LGlob where
  cards : Store CardSlot
  force : Store (List (Nat × CardBody))
  bound : Nat
  days : List DaySet
  dayOpen : Store Nat
  seals : List SealJob
  sealNo : Nat
  sealLast : Nat
  outs : List (Nat × Nat × Nat)
  causes : Nat
  devHolds : List (Nat × Nat × Option Nat)
  outsFor : Option Nat
  deriving DecidableEq, Repr

/-- The legal state that a record's transaction leaves (R29): what replay (R161) and mirroring (R700) set. -/
inductive LPost where
  | chan (ch : Chid) (c : LChan)
  | glob (g : LGlob)
  deriving DecidableEq, Repr

/-- A legal journal record (R512): header, body, and the legal state it leaves. -/
structure JRec where
  jseq : Nat
  /-- L at the record in ns. -/
  time : Nat
  hseq : Nat
  setback : Bool
  irc : Bool
  debug : Bool
  body : JBody
  post : List LPost
  deriving DecidableEq, Repr

/-- Audit log entries (R520). -/
inductive Audit where
  | card (slot : Nat) (st : CardSt)
  | authority (cmd : Nat) (outcome : Status)
  | sealChange (closed : Bool)
  | hold (cause : Nat) (begins : Bool)
  | digest (legal : Nat)
  | setback (delta : Int)
  | reverify (passed : Bool)
  deriving DecidableEq, Repr

/-- Legal time states (R212). -/
inductive LtSt where
  | wait
  | track
  | slew
  | hold
  deriving DecidableEq, Repr

/-- STATE in SLV_LT_STAT (R212). -/
def LtSt.code : LtSt → Nat
  | .wait => 0
  | .track => 1
  | .slew => 2
  | .hold => 3

/-- One legal output (R529). -/
structure OutSt where
  /-- Accumulator A. -/
  acc : Nat
  emitted : Nat
  /-- A pulse is being driven. -/
  pulsing : Bool
  /-- Counter value at which the last pulse started. -/
  last : Option Nat
  /-- JSEQ of the PULSE record that the standby must acknowledge before the next pulse starts (R704). -/
  waits : Option Nat
  deriving DecidableEq, Repr

/-- An output that has emitted nothing. -/
def OutSt.blank : OutSt := ⟨0, 0, false, none, none⟩

/-- A message on the card-staging channel (R503), with the partition whose commit carried it (R671) and, for SIGN and
WITHDRAW, the SHAKE256 digest of the key it carries; a SIGN also brings its key and signature. -/
inductive CardMsg where
  | stage (part : Nat) (body : CardBody)
  | sign (part slot role keyDigest : Nat) (msg : List Nat)
  | withdraw (part slot role keyDigest : Nat)
  deriving DecidableEq, Repr

/-- Selvedge. -/
structure Slv where
  /-- Card messages handed over and not yet decided, oldest first (R671). -/
  cardIn : List CardMsg
  chans : Store LChan
  cards : Store CardSlot
  /-- Cards in force by contract: start instant and body, newest first; the default card where none (R502, R506). -/
  force : Store (List (Nat × CardBody))
  /-- Device-wide hold causes, the bits of SLV_HOLD (R522). -/
  causes : Nat
  /-- Spans of device-wide hold causes in ns of legal time, newest first: cause, beginning, end. -/
  devHolds : List (Nat × Nat × Option Nat)
  verified : Bool
  unlock : Bool
  jseq : Nat
  djseq : Nat
  /-- Records in the legal journal buffer, oldest first (R514). -/
  jbuf : List JRec
  /-- Reading messages offered and not yet decided, oldest first (R437). -/
  inbox : List Entry
  /-- Dispositions on their way to Warp: channel, index, code (R441). -/
  dispo : List (Chid × Nat × Nat)
  days : List DaySet
  /-- Start of the present legal day by contract, in TAI seconds (R516). -/
  dayOpen : Store Nat
  seals : List SealJob
  sealNo : Nat
  /-- Day close of the last seal, in TAI seconds. -/
  sealLast : Nat
  auditUsed : Nat
  nearFull : Bool
  outs : Store OutSt
  /-- LEGAL_DIGEST of the section under which the outputs count (R529). -/
  outsFor : Option Nat
  /-- Legal time L in 2^-16 ns (R203). -/
  lt : Nat
  ltSt : LtSt
  hseq : Nat
  /-- The next hold sequence number starts again at 1 (R204). -/
  hNew : Bool
  /-- Counter value of the last legal time tick. -/
  ltTick : Nat
  handoff : Bool
  /-- A domain has locked since t_r, so that L has left WAIT (R203, R206). -/
  ltRun : Bool
  /-- The legal journal held a timestamp at phase 6 (R206), and the latest one in ns (R436). -/
  jTime : Option Nat
  /-- Outage span in ns, of the first opening of the handoff (R495). -/
  outage : Option (Nat × Nat)
  /-- Last boundary instant processed, in TAI seconds (R205). -/
  lastB : Nat
  ckptSlice : Nat
  /-- Snapshot by JQD_CARD_IDX (R534). -/
  cardSnap : CardSlot
  deriving DecidableEq, Repr

/-- Selvedge after reset. (DESIGN CHOICE, log 12) -/
def Slv.reset : Slv :=
  { cardIn := [], chans := [], cards := [], force := [], causes := 0, devHolds := [], verified := false,
    unlock := false, jseq := 0, djseq := 0, jbuf := [], inbox := [], dispo := [], days := [], dayOpen := [], seals := [], sealNo := 0,
    sealLast := 0, auditUsed := 0, nearFull := false, outs := [], outsFor := none, lt := 0, ltSt := .wait, hseq := 0, hNew := false, ltTick := 0,
    handoff := false, ltRun := false, jTime := none, outage := none, lastB := 0, ckptSlice := 0, cardSnap := CardSlot.blank }

end Sys2Proof.Machine
end

