-- ==== Sys2Proof/Machine/SKey.lean ====
section
/-!
DEFINITION. State of the Key Store (16_keys_security.md): the root in use, the pair key-wrapping key, the meter key table,
lanes and their jobs, imports and signing requests.
-/

namespace Sys2Proof.Machine

/-- A pair key-wrapping key (R599): its value, generation, and ORIGIN of R595 (received from the peer or generated). -/
structure Pkwk where
  value : Nat
  pgen : Nat
  received : Bool
  deriving DecidableEq, Repr

/-- A meter key table entry (R603). `keys` stands for EK and AK; `good` holds while its CRC is right and its unwrap passes
the RFC 3394 integrity check. -/
structure KeyEntry where
  keys : Nat
  txResv : Nat
  rxFloor : Nat
  kver : Nat
  pgen : Nat
  valid : Bool
  debug : Bool
  good : Bool
  deriving DecidableEq, Repr

/-- An endpoint without a key. -/
def KeyEntry.blank : KeyEntry := ⟨0, 0, 0, 0, 0, false, false, true⟩

/-- A sealed datagram's content, as opening it yields (R622, R623). -/
inductive Dgram where
  | regReq (reqId : Nat) (ops : List RegOp)
  | dpData (bsn idx : Nat) (start : Bool) (addr : Nat) (data : List Nat)
  | dpRead (addr len : Nat)
  | evtAck (qseq : Nat)
  | subscribe (on : Bool)
  | keepalive
  | close
  /-- An object request: REQ_ID, CLASS, METHOD, ACT, OBJ_ID bytes, TARGET, ARG bytes (R660). -/
  | objReq (reqId cls method act : Nat) (objId : List Nat) (target : Nat) (arg : List Nat)
  | badType
  deriving DecidableEq, Repr

/-- Jobs of the crypto lanes (R606). -/
inductive LaneJob where
  /-- Open the APDU of a received DATA frame from an endpoint; with its stamp and whether it was taken on the IRC. -/
  | openApdu (ep : Nat) (p : SessPayload) (stamp : Nat) (irc : Bool)
  /-- Seal an APDU to an endpoint. -/
  | sealApdu (ep : Nat) (a : Apdu)
  deriving DecidableEq, Repr

/-- A signing request waiting for IDS (R594). -/
inductive SignReq where
  | seal_ (h : SealHdr)
  | cert (part slot reqId ktype : Nat)
  deriving DecidableEq, Repr

/-- STATUS of KEY_IMP (R616). -/
inductive ImpSt where
  | idle
  | running
  | done
  | refused
  deriving DecidableEq, Repr

/-- Its code (R616). -/
def ImpSt.code : ImpSt → Nat
  | .idle => 0
  | .running => 1
  | .done => 2
  | .refused => 3

/-- An entry of an import batch (R612): `good` holds when its unwrap passes the integrity check. -/
structure ImpEntry where
  ep : Nat
  kver : Nat
  keys : Nat
  good : Bool
  deriving DecidableEq, Repr

/-- A batch as the commit hands it over (R612): the target EUI-64, whether its form is right and its length matches COUNT, whether
its tag is valid, BATCH_NO and the entries. -/
structure Batch where
  target : Nat
  lenOk : Bool
  tagOk : Bool
  no : Nat
  entries : List ImpEntry
  deriving DecidableEq, Repr

/-- The Key Store. -/
structure Key where
  /-- The tree of R591 is derived and verified. -/
  ready : Bool
  /-- Test root in use (R597). -/
  debug : Bool
  /-- KEYTABLE_FAIL not active, TRNG_FAIL not active, KEYSTORE_RO active (R616). -/
  tableOk : Bool
  trngOk : Bool
  storeRo : Bool
  zeroised : Bool
  pkwk : Option Pkwk
  /-- Highest PGEN held (R600). -/
  pgenMax : Nat
  table : Store KeyEntry
  laneEn : Nat
  laneFailed : Nat
  /-- Jobs waiting for each lane, oldest first (R607). -/
  jobs : Store (List LaneJob)
  /-- New Bobbin loads are refused (R614, OP 2). -/
  noLoads : Bool
  impSt : ImpSt
  impCode : Nat
  impAcc : Nat
  impRef : Nat
  /-- The batch being imported: partition, BATCH_NO, entries (R613). -/
  impBatch : Option (Nat × Nat × List ImpEntry)
  /-- Last BATCH_NO accepted (R613). -/
  lastBatch : Nat
  signs : List SignReq
  /-- Endpoints whose confirmed requests wait for a reservation (R604, R703). -/
  waitResv : List Nat
  /-- Of these, endpoints whose new reservation the standby has not acknowledged yet (R703). -/
  resvPend : List Nat
  /-- A zeroisation's erase is in progress: its OP (R614). -/
  zeroing : Option Nat
  deriving DecidableEq, Repr

/-- The Key Store after reset. (DESIGN CHOICE, log 12) -/
def Key.reset : Key :=
  { ready := false, debug := false, tableOk := false, trngOk := true, storeRo := false, zeroised := false, pkwk := none,
    pgenMax := 0, table := [], laneEn := 0, laneFailed := 0, jobs := [], noLoads := false,
    impSt := .idle, impCode := 0, impAcc := 0, impRef := 0, impBatch := none, lastBatch := 0, signs := [],
    waitResv := [], resvPend := [], zeroing := none }

end Sys2Proof.Machine
end

