-- ==== Sys2Proof/Machine/SPair.lean ====
section
/-!
DEFINITION. State of the redundant pair: Pair Link, heartbeat, claim bus, synchronisation (19_redundant_pair.md).
-/

namespace Sys2Proof.Machine

/-- SYNC (R706). -/
inductive Sync where
  | none_
  | keys
  | bulk
  | live
  | stale
  | held
  deriving DecidableEq, Repr

/-- The value with a code of R715. -/
def Sync.ofCode (n : Nat) : Sync :=
  match n with
  | 1 => .keys
  | 2 => .bulk
  | 3 => .live
  | 4 => .stale
  | 5 => .held
  | _ => .none_

/-- Its code in PAR_STAT (R715). -/
def Sync.code : Sync → Nat
  | .none_ => 0
  | .keys => 1
  | .bulk => 2
  | .live => 3
  | .stale => 4
  | .held => 5

/-- A HEARTBEAT payload (R690). -/
structure HeartBeat where
  eui : Nat
  role : Nat
  sync : Nat
  rank : Nat
  claim : Nat
  cfgSeq : Nat
  legalDigest : Nat
  fieldBase : Nat
  pgen : Nat
  jseq : Nat
  time : Nat
  deriving DecidableEq, Repr

/-- A legal checkpoint slice (R515): the channels it holds, and the JSEQ of the last record applied before the copy. Slice
0 also holds the device-level legal state. -/
structure LegalSlice where
  chans : List (Nat × LChan)
  glob : Option LGlob
  stamp : Nat
  deriving DecidableEq, Repr

/-- Which part of a content longer than one frame's payload a frame brings (R686): its number from 0, and how many there are. -/
structure Piece where
  no : Nat
  of_ : Nat
  deriving DecidableEq, Repr

/-- A frame that brings the whole. -/
def Piece.whole : Piece := ⟨0, 1⟩

/-- Payloads of Pair Link frames (R686); MIRROR and CAMPAIGN name the part they bring. -/
inductive PairBody where
  | hello (eui unitSel idDigest : Nat)
  | heartbeat (h : HeartBeat)
  | relinquish (word : Nat)
  | keyReq
  | keyXfer (k : Pkwk)
  | mirror (recs : List JRec) (part : Piece)
  | keyent (es : List (Nat × KeyEntry))
  | campaign (c : Campaign) (part : Piece)
  | bulkSlice (slice : Nat) (content : LegalSlice)
  | bulkDone (stamp : Nat)
  | resyncReq
  deriving DecidableEq, Repr

/-- A Pair Link frame as sent (R685). -/
structure PairFrame where
  sealed_ : Bool
  fseq : Nat
  fack : Nat
  body : PairBody
  deriving DecidableEq, Repr

/-- What a received frame carries beside its payload (R685, R686): the lane, FSEQ, FACK, whether its CRC and its tag are right,
SEALED, and which part of a MIRROR record or a campaign it brings. -/
structure PairRx where
  lane : Nat
  fseq : Nat
  fack : Nat
  crcOk : Bool
  tagOk : Bool
  sealed_ : Bool
  part : Piece
  deriving DecidableEq, Repr

/-- The pair. (DESIGN CHOICE, log 14) -/
structure Par where
  lane0 : Bool
  lane1 : Bool
  /-- Sequence numbers of reliable frames sent and received (R687). -/
  fseq : Nat
  fack : Nat
  /-- Reliable frames not yet acknowledged, oldest first. -/
  unacked : List PairFrame
  heard : Bool
  /-- A valid heartbeat has arrived since phase 9. -/
  everHeard : Bool
  /-- Counter value of the peer's last valid heartbeat. -/
  hbAt : Nat
  miss : Nat
  peerRole : Nat
  peerClaim : Nat
  peerSync : Sync
  /-- PKWK generation, LEGAL_DIGEST and FIELD_BASE that the peer's latest heartbeat shows. -/
  peerPgen : Nat
  peerLegal : Nat
  peerBase : Nat
  /-- A HELLO has been sent since the link came up; the EUI-64 and identity digest of the peer's HELLO. -/
  helloSent : Bool
  peerHello : Option (Nat × Nat)
  /-- Own claim word; 0 when not claiming (R693). -/
  claim : Nat
  wire : Nat
  epoch : Nat
  /-- Consecutive won rounds, rounds showing the claim absent, and rounds differing from the peer's word (R697). -/
  won : Nat
  absent : Nat
  differ : Nat
  /-- Counter value at which the last round ended. -/
  roundAt : Nat
  busFault : Bool
  /-- Rounds without a fault condition since it last held (R697, R713). -/
  clearRounds : Nat
  /-- A fault has ended the claims and no claim has been read since (R713). -/
  afterFault : Bool
  /-- A RELINQUISH was received (R709). -/
  relinquished : Bool
  sync : Sync
  mismatch : Bool
  /-- Records sent or made that the peer has not acknowledged as applied, oldest first: the backlog ring (R705). -/
  ring : List JRec
  mjseq : Nat
  mack : Nat
  /-- Standby: staged slices and records of a resynchronisation (R706). -/
  staged : List (Nat × LegalSlice)
  stagedRecs : List JRec
  /-- PAIR_KEY_FAIL is active (R601). -/
  pairKeyFail : Bool
  /-- Active: how many legal slices have been sent and their highest stamp, while a resynchronisation is served (R706). -/
  serving : Option (Nat × Nat)
  /-- The highest reservation acknowledged per endpoint (R703). -/
  resvAck : Store Nat
  /-- Standby: parts received of the MIRROR record and of the campaign that arrive in parts (R686). -/
  mirrorParts : Nat
  campParts : Nat
  deriving DecidableEq, Repr

/-- The pair after reset. (DESIGN CHOICE, log 12) -/
def Par.reset : Par :=
  { lane0 := false, lane1 := false, fseq := 0, fack := 0, unacked := [], heard := false, everHeard := false, hbAt := 0,
    miss := 0, peerRole := 0, peerClaim := 0, peerSync := .none_, peerPgen := 0, peerLegal := 0, peerBase := 0, helloSent := false,
    peerHello := none, claim := 0, wire := 0, epoch := 0,
    won := 0, absent := 0, differ := 0, roundAt := 0, busFault := false, clearRounds := 0, afterFault := false, relinquished := false,
    sync := .none_, mismatch := false, ring := [], mjseq := 0, mack := 0, staged := [], stagedRecs := [],
    pairKeyFail := false, serving := none, resvAck := [], mirrorParts := 0, campParts := 0 }

end Sys2Proof.Machine
end

