-- ==== Sys2Proof/Machine/SBem.lean ====
section
/-!
DEFINITION. Beam's state and what the NAND holds (15_beam_archive.md). The NAND survives every reset.
-/

namespace Sys2Proof.Machine

/-- Archive streams (R577), by the codes of BEM_CMD.STREAM (R586). -/
inductive Stream where
  | interval
  | fastRaw
  | fastMin
  | day
  | balance
  | edit
  deriving DecidableEq, Repr

/-- The stream's code (R586). -/
def Stream.code : Stream → Nat
  | .interval => 0
  | .fastRaw => 1
  | .fastMin => 2
  | .day => 3
  | .balance => 4
  | .edit => 5

/-- An endpoint's day record (R516). -/
structure DayRec where
  ep : Nat
  close : Nat
  contract : Nat
  cardId : Nat
  incomplete : Bool
  hold : Bool
  /-- Included channels in ascending order with their blocks. -/
  chans : List (Nat × DayBlock)
  deriving DecidableEq, Repr

/-- One archived record. A 1-min aggregate is an entry of stream FAST_MIN: KIND 5 of R578. -/
inductive ArchData where
  | entry (e : Entry)
  | day (d : DayRec)
  | balance (b : BalRec)
  deriving DecidableEq, Repr

/-- An archived record with its stream and the legal day of its chunk, in days since the PTP epoch (R564). `lost` marks a
record that reads UNCORRECTABLE; `dropped` one that a discard took out of the catalogue (R576); `unit` is the map unit, that
is the chunk, that holds it, 0 while it waits in the archive buffer. -/
structure ArchRec where
  stream : Stream
  day : Nat
  data : ArchData
  lost : Bool
  dropped : Bool
  unit : Nat
  deriving DecidableEq, Repr

/-- Pools of blocks (R558). -/
inductive Pool where
  | legal
  | map
  | archive
  deriving DecidableEq, Repr

/-- One block in use: its pool, channel, erase count, valid map units, map units programmed since its erase, and whether it
is programmed in SLC mode. -/
structure Block where
  pool : Pool
  ch : Nat
  erases : Nat
  units : List Nat
  fill : Nat
  slc : Bool
  /-- Listed for refresh or wear levelling (R557, R569). -/
  listed : Bool
  deriving DecidableEq, Repr

/-- A block never used. -/
def Block.blank : Block := ⟨.archive, 0, 0, [], 0, false, false⟩

/-- What the NAND holds. -/
structure Nand where
  /-- EUI-64 of the Beam signature; none when no target carries one (R160). -/
  owner : Option Nat
  /-- Legal partition. -/
  journal : List JRec
  slices : Store (List LegalSlice)
  seals : List (SealHdr × Nat)
  audit : List Audit
  /-- Archive. -/
  archive : List ArchRec
  /-- System area: Warp checkpoint and journal, Temple record, balance state, key store, campaign, claim EPOCH. -/
  warpSlices : Store (Option WarpSlice)
  warpJournal : List Entry
  temple : Option TempleRecord
  balSave : List BalSave
  pkwk : Option Pkwk
  /-- Highest PGEN the unit has ever held (R600). -/
  pgenMax : Nat
  keyCopy : Store KeyEntry
  lastBatch : Nat
  campaign : Option Campaign
  epoch : Nat
  /-- Digest of the LEGAL section and ROM at the previous start (R520). -/
  prevDigest : Option Nat
  /-- Flush reserve content: legal records and archive-buffer content not yet appended (R580, R583). -/
  flushLegal : List JRec
  flushWarp : List Entry
  flushArch : List ArchRec
  /-- The reserve holds a flush: whether it completed; none for no flush (R583). -/
  flushed : Option Bool
  /-- Journal records that read UNCORRECTABLE, by JSEQ (R725). -/
  lostJ : List Nat
  /-- The 4 KiB units of the journal ring, oldest first, with the last JSEQ each holds (R559). -/
  ring : List (Nat × Nat)
  /-- One of the two PKWK objects is unreadable (R725). -/
  pkwkOne : Bool
  /-- Blocks in use by number, how many have been taken into use, bad blocks by channel, and the pools' spare blocks
  (R558). -/
  blocks : Store Block
  nextBlock : Nat
  /-- Blocks of the archive without its spare, sized at format. -/
  archBlocks : Nat
  bad : Store Nat
  spareArch : Nat
  spareLegal : Nat
  spareArch0 : Nat
  spareLegal0 : Nat
  /-- The archive became read-only for want of spares; the legal partition did (R572, R574). -/
  archRo : Bool
  legalRo : Bool
  legalSpareOut : Bool
  /-- Map journal sequence number (R563), and the last map unit written. -/
  mapSeq : Nat
  lastUnit : Nat
  deriving DecidableEq, Repr

/-- Blank NAND. (DESIGN CHOICE, log 11) -/
def Nand.blank : Nand :=
  { owner := none, journal := [], slices := [], seals := [], audit := [], archive := [], warpSlices := [],
    warpJournal := [], temple := none, balSave := [], pkwk := none, pgenMax := 0, keyCopy := [], lastBatch := 0, campaign := none,
    epoch := 0, prevDigest := none, flushLegal := [], flushWarp := [], flushArch := [], flushed := none, lostJ := [], ring := [], pkwkOne := false,
    blocks := [], nextBlock := 0, archBlocks := 0, bad := [], spareArch := 0,
    spareLegal := 0, spareArch0 := 0, spareLegal0 := 0, archRo := false, legalRo := false, legalSpareOut := false,
    mapSeq := 0, lastUnit := 0 }

/-- States of a NAND channel (R588). -/
inductive ChSt where
  | absent
  | active
  | draining
  | failed
  deriving DecidableEq, Repr

/-- Its code (R588). -/
def ChSt.code : ChSt → Nat
  | .absent => 0
  | .active => 1
  | .draining => 2
  | .failed => 3

/-- What moves a block's data (R567): garbage collection, folding of the SLC cache, wear levelling. -/
inductive MoveKind where
  | gc
  | fold
  | wear
  deriving DecidableEq, Repr

/-- A block move in progress (R567): the victim, the units copied with the block each copy is in, and whether the map records
are durable (step 3 done). -/
structure Move where
  kind : MoveKind
  victim : Nat
  copies : List (Nat × Nat)
  mapped : Bool
  deriving DecidableEq, Repr

/-- Beam. (DESIGN CHOICE, log 14) -/
structure Bem where
  mounted : Bool
  /-- The archive is taken as read-only for the run because it is not mounted (R756). -/
  notMounted : Bool
  full : Bool
  flushOk : Bool
  exposed : Bool
  /-- Legal checkpoint cycles still to complete before LEGAL_EXPOSED ends, and FLUSH_SHORT (R584, R589). -/
  exposedLeft : Nat
  shortLeft : Nat
  lifeLow : Bool
  spareLow : Bool
  chEn : Nat
  chans : Store ChSt
  targets : Store Nat
  /-- The archive buffer: Warp journal entries and archive records not yet programmed (R449, R564). -/
  warpBuf : List Entry
  archBuf : List ArchRec
  moves : List Move
  lastFlushUs : Nat
  /-- F at the last recomputation of S_cache (R565). -/
  cacheF : Nat
  /-- Counter value at which the last archive write left the buffer (R566). -/
  waitAt : Nat
  deriving DecidableEq, Repr

/-- Beam after reset. (DESIGN CHOICE, log 12) -/
def Bem.reset : Bem :=
  { mounted := false, notMounted := false, full := false, flushOk := false, exposed := false, exposedLeft := 0,
    shortLeft := 0, lifeLow := false, spareLow := false, chEn := 0, chans := [], targets := [], warpBuf := [],
    archBuf := [], moves := [], lastFlushUs := 0, cacheF := 0, waitAt := 0 }

end Sys2Proof.Machine
end

