-- ==== Sys2Proof/Machine/SPort.lean ====
section
/-!
DEFINITION. State of one field port (RPT): what PLC ports (06_plc_ports.md) and radio ports (07_radio_ports.md) keep.
-/

namespace Sys2Proof.Machine

/-- Who posted a frame, so that its outcome reaches its producer (R242, R273). -/
inductive Origin where
  | net
  /-- A confirmed request of MSN to the endpoint. -/
  | request (ep : Nat)
  /-- A launch queue's producer, by its tag. -/
  | producer (tag : Nat)
  deriving DecidableEq, Repr

/-- A frame waiting at or being sent by a port. -/
structure TxItem where
  frame : Frame
  origin : Origin
  /-- Launch time as a TIM_CNT value (R197). -/
  launch : Option Nat
  asap : Bool
  /-- Transmissions made so far. -/
  sent : Nat
  /-- Idle slots still to pass before sending (R236, R241). -/
  backoff : Nat
  /-- The endpoint's index when the frame goes to a sleepy endpoint (R283). -/
  sleepy : Option Nat
  /-- Counter value since which it is ready to be sent (R284). -/
  since : Nat
  deriving DecidableEq, Repr

/-- An ACK the port owes (R238, R270): addressee, SEQ, and the counter value it may not precede. -/
structure AckDue where
  dst : Nat
  seq : Nat
  notBefore : Nat
  deriving DecidableEq, Repr

/-- A repeated-frame sequence (R285). -/
structure RepeatSeq where
  item : TxItem
  copies : Nat
  /-- Counter value of S + U, after which the sequence ends. -/
  until_ : Nat
  deriving DecidableEq, Repr

/-- A connection record (R289). -/
structure Conn where
  ep : Nat
  connInt : Nat
  /-- Counter value of the anchor of the present event counter. -/
  anchor : Nat
  event : Nat
  hop : Nat
  chOfs : Nat
  supervision : Nat
  missed : Nat
  /-- Counter value of the last valid frame from the endpoint. -/
  heard : Nat
  /-- Channel map in force for the connection, and new maps with their HOP and the event each starts at, oldest first (R293). -/
  map : Nat
  newMaps : List (Nat × Nat × Nat)
  /-- The event's receive window is open and no SFD has arrived (R291); an SFD arrived in it, so that the event runs to the end of
  CONN_WIN (R292). -/
  windowOpen : Bool
  engaged : Bool
  deriving DecidableEq, Repr

/-- A reception in progress: since when; the counter value at which the delimiter or SFD was detected, and the stamp (R193);
LENGTH and ZC_OFS once the PLC header is decoded; and the impulses counted meanwhile (R218, R229, R242). -/
structure Rx where
  since : Nat
  det : Option Nat
  stamp : Option Nat
  len : Option Nat
  zc : Option Nat
  imp : Nat
  deriving DecidableEq, Repr

/-- One field port. -/
structure Port where
  en : Bool
  draining : Bool
  /-- A radio transceiver is being initialised since this counter value (R261). -/
  initSince : Option Nat
  queue : List TxItem
  /-- Launch queue in launch-time order, at most 64 (R197). -/
  launch : List TxItem
  /-- The frame on the line or on the air, with the counter value of its end. -/
  onAir : Option (TxItem × Nat)
  /-- Counter value at which it started; on a PLC port its ZC_OFS where ZCV is 1 (R229). -/
  airFrom : Nat
  airZc : Option Nat
  /-- Preamble length last given to the transceiver by SET_PHY (R258). -/
  phyPre : Nat
  /-- Stamp of the last change of FPn_AUX to its active level on a radio port (R259), and of the last SFD_RX (R274). -/
  auxAt : Option Nat
  sfdAt : Option Nat
  /-- A sent frame awaiting its ACK, with the counter value at which ACK_WAIT ends. -/
  ackWait : Option (TxItem × Nat)
  /-- A frame whose retry backoff runs (R273). -/
  backoff : Option TxItem
  ackOwed : Option AckDue
  /-- Receiving. -/
  rx : Option Rx
  /-- The medium counts as busy until this counter value, or, after a failed header, until correlation is lost (R235). -/
  busyUntil : Nat
  badHdr : Bool
  gain : Nat
  /-- Counter value of the last step of GAIN outside frames (R218), and of the end of the last impulse (R244). -/
  gainAt : Nat
  impEnd : Option Nat
  afeFail : Bool
  zcLost : Bool
  xcvrFail : Bool
  /-- Counter value of the last initialisation of a failed transceiver (R260). -/
  reinitAt : Nat
  /-- Counter value since which the port is blocked under R249 or R296 by a condition that holds its queue. -/
  blockedSince : Option Nat
  /-- Sequence numbers last sent are in the neighbour table; the ports's beacon count (R326). -/
  bseq : Nat
  /-- Consecutive busy listens of the frame at the head (R275), and the counter value before which no further listen ends. -/
  busyListens : Nat
  listenWait : Nat
  /-- Transmit time of complete 1 s bins in us, newest first, at most 3,600, and of the present bin, which began at counter
  value `binAt` (R277). -/
  bins : List Nat
  bin : Nat
  binAt : Nat
  /-- The frame held under R277, with the counter value since which. -/
  dutyHeld : Option (TxItem × Nat)
  dutyAlarm : Bool
  /-- Transmissions in hopping mode: channel, and the counter values of start and end (R280). -/
  dwell : List (Nat × Nat × Nat)
  /-- Present channel. -/
  chan : Nat
  /-- Channel map in force for the hop schedule, and an accepted new map with its switch slot (R281). -/
  map : Nat
  newMap : Option (Nat × Nat)
  conns : List Conn
  rep : Option RepeatSeq
  /-- The endpoint that an ACK with PENDING was sent to, with the counter value of the ACK's end (R287). -/
  pendTo : Option (Nat × Nat)
  /-- Frames held until the endpoint's next uplink (R286, R287). -/
  held : List TxItem
  /-- The discovery round the port has open ends at this counter value (R336). -/
  roundEnd : Option Nat
  /-- Counter values of the port's last discovery round, last beacon and last MAP_UPDATE (R281, R326, R336). -/
  roundAt : Option Nat
  beaconAt : Option Nat
  mapAt : Option Nat
  deriving DecidableEq, Repr

/-- A port before it is enabled. (DESIGN CHOICE, log 12) -/
def Port.blank : Port :=
  { en := false, draining := false, initSince := none, queue := [], launch := [], onAir := none, airFrom := 0, airZc := none, phyPre := 0,
    auxAt := none, sfdAt := none, ackWait := none, backoff := none, ackOwed := none, rx := none, busyUntil := 0, badHdr := false, gain := 0, gainAt := 0, impEnd := none, afeFail := false, zcLost := false,
    xcvrFail := false, reinitAt := 0, blockedSince := none, bseq := 0, busyListens := 0, listenWait := 0, bins := [], bin := 0, binAt := 0,
    dutyHeld := none, dutyAlarm := false, dwell := [], chan := 0, map := 0, newMap := none, conns := [], rep := none,
    pendTo := none, held := [], roundEnd := none, roundAt := none, beaconAt := none,
    mapAt := none }

end Sys2Proof.Machine
end

