-- ==== Sys2Proof/Machine/SOut.lean ====
section
/-!
DEFINITION. What the part answers and sends: register answers, host-link datagrams, field frames, PTP messages, pair
frames, AVSBus writes, returned frames and lines of the maintenance UART.
-/

namespace Sys2Proof.Machine

/-- How a posted frame comes back to its producer (R199, R242, R249, R250, R273, R275, R277, R337). -/
inductive TxRes where
  | delivered
  | sent
  | noAck
  | noRoute
  | disabled
  | txBlocked
  | channelBusy
  | dutyLimit
  | launchLate
  | launchRange
  | queueFull
  | noClaim
  deriving DecidableEq, Repr

/-- Payloads of sealed datagrams to a host (R623). -/
inductive ToHost where
  | regRsp (reqId : Nat) (rs : List (Status × Word))
  | dpAck (bsn idx expect : Nat) (st : Status) (addr : Nat)
  | dpRData (bsn idx addr : Nat) (st : Status) (data : List Nat)
  /-- REQ_ID, STATUS, RFLAGS, PLACE, LEN, OUT_ADDR, DATA (R661). -/
  | objRsp (reqId : Nat) (st : Status) (flags place len addr : Nat) (data : List Nat)
  | notify (recs : List QRec)
  | hsConfirm
  | keepalive
  | close
  /-- Answer to a datagram larger than R625 allows. -/
  | tooLong (st : Status)
  deriving DecidableEq, Repr

/-- Things the part sends or shows outside. -/
inductive Out where
  /-- Answer to one register access. -/
  | access (r : Requester) (st : Status) (v : Word)
  /-- A core's access took a bus error (R11, R386, R409). -/
  | busError (core : Nat)
  /-- A sealed datagram: partition, slot, host port, SEQ. -/
  | dgram (part slot port seq : Nat) (d : ToHost)
  /-- A fragment of HS_DEVICE (R610, R623, R627): partition, slot, port, SID, nonce answered, ROLE, EUI-64. -/
  | hsDevice (part slot port sid nonce role eui : Nat) (f : Frag)
  | hsFail (port part : Nat) (st : Status)
  /-- A field frame leaves a radio port with a preamble of so many octets (R264), or a PLC port with ZC_OFS where ZCV is 1
  (R229, R232). -/
  | frame (p : Nat) (preamble : Nat) (f : Frame)
  | plcFrame (p : Nat) (zc : Option Nat) (f : Frame)
  /-- A posted frame comes back to its producer. -/
  | returned (o : Origin) (r : TxRes)
  /-- A queued frame leaves a host port at its launch time. -/
  | hostFrame (e tag : Nat)
  | ptpDelayReq (dom : Bool) (port : Nat) (p2p : Bool) (time : Nat)
  | ptpPdelayResp (dom : Bool) (port : Nat) (turnaround : Nat)
  | pair (lane : Nat) (f : PairFrame)
  /-- The maintenance UART prints the fail code and phase (R169). -/
  | uartReport (code phase : Nat)
  /-- An AVSBus voltage write to VDD_HI (true) or VDD_LO. -/
  | avs (hi : Bool) (mv : Nat)
  /-- The Vout transition rate in mV/us is written to the rail with that select (R118). -/
  | avsRate (sel rate : Nat)
  /-- The non-maskable clock-fail event at the supervisor core (R97). -/
  | clockFailNmi
  /-- An MDIO frame (R621). -/
  | mdio (w : Word)
  /-- An answer to ARP, neighbour discovery or echo (R619). -/
  | netReply (port : Nat)
  /-- Answers of Shuttle to a core: the status in SHT_POST or SHT_OP (R399). -/
  | coreStatus (core : Nat) (code : Nat)
  /-- A read of SHT_DISPATCH returns: KIND (0 TASK, 1 WITHDRAWN) and ID (R385, R404). -/
  | dispatched (core kind id : Nat)
  /-- BAD_ENTRY answered to an extension task's POST (R411). -/
  | badEntry (core : Nat)
  /-- A task ID answered to a post (R382). -/
  | taskId (core : Nat) (id : Nat)
  /-- A transfer of the frame link (R257, R258): the command byte, and the bytes on FPn_SDO after it. -/
  | xcvr (p cmd : Nat) (args : List Nat)
  /-- A legal output starts or ends its active level (R529). -/
  | legalOut (n : Nat) (active : Bool)
  deriving DecidableEq, Repr

end Sys2Proof.Machine
end

