-- ==== Sys2Proof/Machine/SSht.lean ====
section
/-!
DEFINITION. State of Shuttle: the descriptor pool, ready and delay lists, cores, spill rings and the holds of hardware
sources (10_shuttle_cores.md).
-/

namespace Sys2Proof.Machine

/-- Words 0 to 6 of a descriptor as a post supplies them (R382). -/
structure PostDesc where
  prio : Nat
  dlist : Nat
  ser : Bool
  src : Nat
  key : Nat
  affinity : Nat
  entry : Nat
  arg0 : Nat
  arg1 : Nat
  arg2 : Nat
  delay : Nat
  deriving DecidableEq, Repr

/-- A descriptor in use (R382); its ID is `gen` x 65,536 + `index`. -/
structure Task where
  d : PostDesc
  retries : Nat
  gen : Nat
  index : Nat
  /-- STRANDED was counted for it (R388). -/
  stranded : Bool
  /-- Consecutive EXT_BUDGET overruns (R412). -/
  overruns : Nat
  deriving DecidableEq, Repr

/-- The task's ID (R382). -/
def Task.id (t : Task) : Nat := t.gen * 65536 + t.index

/-- Words 2 to 5 of the core's SHT_DESC window, taken on REQUEUE, YIELD and DELAY (R391). -/
structure Cont where
  entry : Nat
  arg0 : Nat
  arg1 : Nat
  arg2 : Nat
  deriving DecidableEq, Repr

/-- A PMP entry that the firmware has programmed for user mode: a region of the core's map and what is allowed there (R410). -/
structure PmpEntry where
  lo : Nat
  len : Nat
  r : Bool
  w : Bool
  x : Bool
  deriving DecidableEq, Repr

/-- What application core keeps of its own (R407, R408, R410). (DESIGN CHOICE, log 145) -/
structure CoreMem where
  /-- CORE_WIN0 to CORE_WIN3, bits 5:0: the DRAM offset of a window in units of 512 MiB (R407). -/
  win : List Nat
  /-- Instruction and data TCM, by address 0x0_0000 to 0x1_FFFF. -/
  tcm : Store Nat
  /-- Bytes of DRAM held in the instruction cache and in the data cache, oldest first (R408). -/
  icache : List (Nat × Nat)
  dcache : List (Nat × Nat)
  /-- Writes through the windows that DRAM does not show yet, oldest first: DRAM offset and byte (R408). -/
  wbuf : List (Nat × Nat)
  /-- PMP entries 0 to 5 with their user permissions (R410). -/
  pmp : List PmpEntry
  deriving DecidableEq, Repr

/-- A core after reset. The spec gives CORE_WINn no reset value. (DESIGN CHOICE, log 145) -/
def CoreMem.blank : CoreMem := { win := [0, 0, 0, 0], tcm := [], icache := [], dcache := [], wbuf := [], pmp := [] }

/-- Shuttle. (DESIGN CHOICE, log 14) -/
structure Sht where
  /-- Posts are accepted since entry to phase 9 (R406). -/
  accepting : Bool
  /-- SHT_CORE_EN (R404). -/
  coreEn : Nat
  /-- Waiting cores, longest waiting first (R384). -/
  waiting : List Nat
  /-- The task each core holds, with the counter value of its dispatch (R386, R393). -/
  held : Store (Option (Task × Nat))
  /-- Ready lists by priority, first in first (R383). -/
  ready : Store (List Task)
  /-- Delay lists by number: due tick and task, in order of due tick and then of placing (R394, R395). -/
  delay : Store (List (Nat × Task))
  /-- Descriptors in use per source class (R378). -/
  used : Store Nat
  /-- Pool entries freed and not reused, last freed first, and the lowest entry never used. -/
  freed : List Nat
  fresh : Nat
  /-- Next generation per pool entry (R382). -/
  gens : Store Nat
  /-- Least FREE since reset (R414). -/
  low : Nat
  /-- Spill rings by priority (R400, R401). -/
  spill : Store (List PostDesc)
  /-- Items each hardware source holds after a refusal, oldest first (R381). -/
  hwHold : Store (List PostDesc)
  /-- Counter values of watchdog resets per core (R726). -/
  resets : Store (List Nat)
  /-- Cores clocked and running firmware (R405). -/
  running : Nat
  /-- Memory of the cores (R407, R408). -/
  cores : Store CoreMem
  /-- Cluster SRAM by cluster x 2^20 + offset (R407), and the bytes of DRAM that cores or islands have written (R35, R407). -/
  csram : Store Nat
  dram : Store Nat
  deriving DecidableEq, Repr

/-- Shuttle after reset: an empty pool (R406). (DESIGN CHOICE, log 12) -/
def Sht.reset : Sht :=
  { accepting := false, coreEn := 0, waiting := [], held := [], ready := [], delay := [], used := [], freed := [],
    fresh := 0, gens := [], low := 65536, spill := [], hwHold := [], resets := [], running := 0, cores := [], csram := [], dram := [] }

end Sys2Proof.Machine
end

