-- ==== Sys2Proof/Machine/Bits.lean ====
section
/-!
DEFINITION. Bit-field, byte-order and packing helpers (00_scope.md: a bit field h:l is bits h down to l; multi-byte
fields are little-endian unless a rule says otherwise; R755: an EUI-64 stored as bytes is most significant byte first).
-/

namespace Sys2Proof.Machine

/-- Bits `hi` down to `lo` of a word, as a number. -/
def field (w : Word) (hi lo : Nat) : Nat := w.toNat / 2 ^ lo % 2 ^ (hi + 1 - lo)

/-- Bit `i` of a word. -/
def bit (w : Word) (i : Nat) : Bool := field w i i = 1

/-- Bit `i` of a number. -/
def nbit (n i : Nat) : Bool := n / 2 ^ i % 2 = 1

/-- 1 for true and 0 for false. -/
def b2n (b : Bool) : Nat := if b then 1 else 0

/-- The number with bit `i` set to `b`. -/
def setNbit (n i : Nat) (b : Bool) : Nat :=
  if nbit n i then (if b then n else n - 2 ^ i) else (if b then n + 2 ^ i else n)

/-- A word built of fields, each given as its lowest bit, its width and its value. -/
def packWord (fs : List (Nat × Nat × Nat)) : Word :=
  BitVec.ofNat 32 (fs.foldl (fun a f => a + f.2.2 % 2 ^ f.2.1 * 2 ^ f.1) 0)

/-- The word with bits `hi` down to `lo` replaced by `v`. -/
def putField (w : Word) (hi lo v : Nat) : Word :=
  BitVec.ofNat 32 (w.toNat - field w hi lo * 2 ^ lo + v % 2 ^ (hi + 1 - lo) * 2 ^ lo)

/-- 32-bit word `i` of a wide value, the lowest-order word first (00_scope.md R10). -/
def wordOf (v i : Nat) : Word := BitVec.ofNat 32 (v / 2 ^ (32 * i))

/-- `n` bytes of a number, least significant first. -/
def leBytes : Nat → Nat → List Nat
  | 0, _ => []
  | n + 1, v => v % 256 :: leBytes n (v / 256)

/-- `n` bytes of a number, most significant first (R755). -/
def beBytes (n v : Nat) : List Nat := (leBytes n v).reverse

/-- The number a little-endian byte list spells. -/
def leNat : List Nat → Nat
  | [] => 0
  | b :: bs => b % 256 + 256 * leNat bs

/-- A signed number in `n` bits, two's complement, as a natural number. -/
def toTwos (n : Nat) (v : Int) : Nat := (v % (2 ^ n : Int)).toNat

/-- The signed number that the low `n` bits of `v` spell. -/
def ofTwos (n v : Nat) : Int :=
  let u := v % 2 ^ n
  if u < 2 ^ (n - 1) then (u : Int) else (u : Int) - (2 ^ n : Int)

/-- The numbers below `n`, in rising order. -/
def upTo : Nat → List Nat
  | 0 => []
  | n + 1 => upTo n ++ [n]

/-- How many bits of `n` below `w` are set. -/
def popCount (w n : Nat) : Nat := ((upTo w).filter (nbit n)).length

/-- `v` limited to `[lo, hi]`. -/
def clampNat (lo hi v : Nat) : Nat := max lo (min hi v)

/-- `a / b` rounded toward zero, as the spec's "truncated toward zero". -/
def tdivInt (a b : Int) : Int := Int.tdiv a b

/-- `v` saturated to `[-m, m]`. -/
def satInt (m v : Int) : Int := max (-m) (min m v)

/-- A timestamp's 80-bit form (R17, R18): nanoseconds in bits 31:0 and seconds above them. -/
def tsPack (ns : Nat) : Nat := ns % 1000000000 + ns / 1000000000 % 2 ^ 48 * 2 ^ 32

/-- The nanoseconds since the PTP epoch that an 80-bit timestamp spells. -/
def tsUnpack (v : Nat) : Nat := v % 2 ^ 32 + v / 2 ^ 32 % 2 ^ 48 * 1000000000

/-- One bit of a CRC with generator `poly`, reflected: the least significant bit goes out (R152, R230). -/
def crcBitR (poly c : Nat) : Nat := if c % 2 = 1 then Nat.xor (c / 2) poly else c / 2

/-- One byte of a reflected CRC. -/
def crcByteR (poly c b : Nat) : Nat := (upTo 8).foldl (fun c _ => crcBitR poly c) (Nat.xor c (b % 256))

/-- CRC-32 with the IEEE 802.3 polynomial: reflected, initial value and final complement all ones (R152, R230). (DEDUCED) -/
def crc32 (bs : List Nat) : Nat := Nat.xor (bs.foldl (crcByteR 0xEDB88320) 0xFFFFFFFF) 0xFFFFFFFF

/-- One second in nanoseconds. -/
def second : Nat := 1000000000

/-- One hour in counts of the 400 MHz counter (05_time_base.md R175: 2.5 ns per count). -/
def hourCounts : Nat := 3600 * 400000000

/-- Milliseconds in counts of the counter. -/
def msCounts (ms : Nat) : Nat := ms * 400000

/-- Microseconds in counts of the counter. -/
def usCounts (us : Nat) : Nat := us * 400

/-- Serial-number order modulo `2 ^ 32`: `a` is later than `b`. -/
def laterMod32 (a b : Nat) : Bool :=
  let d := (a + 2 ^ 32 - b % 2 ^ 32) % 2 ^ 32
  decide (0 < d ∧ d < 2 ^ 31)

end Sys2Proof.Machine
end

