-- ==== Sys2Proof/Machine/SPen.lean ====
section
/-!
DEFINITION. State of the Property Engine: pipes and recompute jobs; conversion records and results
(12_property_engine.md).
-/

namespace Sys2Proof.Machine

/-- A sealed conversion record (R460). -/
structure ConvRec where
  ctype : Nat
  flags : Nat
  zset : Nat
  /-- Output quantum 10^OE of the base unit. -/
  oe : Int
  /-- Volume of one meter quantum in uL. -/
  vq : Nat
  pAmb : Int
  hRef : Int
  satBand : Nat
  dev0 : Nat
  dev1 : Nat
  dev2 : Nat
  ebMax : Nat
  pSub : Int
  tSub : Int
  deriving DecidableEq, Repr

/-- What Selvedge gives PEN for a reading (R459). -/
structure PenIn where
  dvF : Nat
  dvR : Nat
  m0 : Int
  m1 : Int
  m2 : Int
  /-- SUBST or MEAS_INVALID. -/
  subst : Bool
  n : Nat
  fast : Bool
  deriving DecidableEq, Repr

/-- A PEN result (R471). `f` is the binary64 pattern of F; quantities count 2^-16 quanta. -/
structure PenOut where
  qF : Nat
  qR : Nat
  estimated : Bool
  nearSat : Bool
  avgBound : Bool
  span : Bool
  outOfRange : Bool
  substIn : Bool
  noConverge : Bool
  fallback : Bool
  negDh : Bool
  eb : Nat
  f : Nat
  tableVer : Nat
  deriving DecidableEq, Repr

/-- States of a recompute job (R483). -/
inductive JobSt where
  | idle
  | queued
  | running
  | done
  | aborted
  deriving DecidableEq, Repr

/-- Its code (R483). -/
def JobSt.code : JobSt → Nat
  | .idle => 0
  | .queued => 1
  | .running => 2
  | .done => 3
  | .aborted => 4

/-- A HOST record (R479). -/
structure HostRec where
  ch : Chid
  ridx : Nat
  dvF : Nat
  dvR : Nat
  m0 : Int
  m1 : Int
  m2 : Int
  cls : Nat
  n : Nat
  deriving DecidableEq, Repr

/-- Per-channel result of a job (R480, R680); `mode` 1 is interval-mean mode. -/
structure JobSum where
  ch : Chid
  mode : Nat
  recs : Nat
  qFM : Nat
  qRM : Nat
  qFE : Nat
  qRE : Nat
  oor : Nat
  mism : Nat
  firstMism : Nat
  deriving DecidableEq, Repr

/-- A partition's recompute job (R479 to R483). -/
structure Job where
  st : JobSt
  /-- SOURCE HOST; otherwise ARCHIVE. -/
  host : Bool
  code : Nat
  chans : List Chid
  fromT : Nat
  toT : Nat
  input : List HostRec
  recs : Nat
  mism : Nat
  skipped : Nat
  oor : Nat
  sums : List JobSum
  deriving DecidableEq, Repr

/-- No job since reset. -/
def Job.blank : Job := ⟨.idle, false, 0, [], 0, 0, [], 0, 0, 0, 0, []⟩

/-- The Property Engine. -/
structure Pen where
  pipeEn : Nat
  failed : Nat
  draining : Nat
  /-- Jobs by partition, and the order of submission of those not ended (R481). -/
  jobs : Store Job
  order : List Nat
  /-- Legal day close after which PEN_RANGE was last raised per channel, in ns (R473). -/
  rangeAt : Store Nat
  deriving DecidableEq, Repr

/-- The Property Engine after reset. (DESIGN CHOICE, log 12) -/
def Pen.reset : Pen := ⟨0, 0, 0, [], [], []⟩

end Sys2Proof.Machine
end

