-- ==== Sys2Proof/Machine/SImage.lean ====
section
/-!
DEFINITION. The configuration image as start-up reads it (04_startup_configuration.md R154 to R156): the header fields and
the outcomes of the checks over bytes, the register fields that the sections load (`regs`), and every other parameter that
a rule takes from a section. The spec gives no byte layout of the sections, so they are held decoded.
-/

namespace Sys2Proof.Machine

/-- States of TXEN and of the legal outputs (02_package_signals.md R70, R71). -/
inductive PadSt where
  | driveLow
  | driveHigh
  | release
  deriving DecidableEq, Repr

/-- A channel of an endpoint in the ENDPT section (R419, 18_host_objects_roles.md R664). -/
structure ChCfg where
  raw : Bool
  est : Nat
  n : Nat
  pset : Nat
  period : Nat
  /-- OBIS code of the profile column, 6 bytes. -/
  obis : List Nat
  deriving DecidableEq, Repr

/-- An endpoint of the ENDPT section (R308, R355, R283, R372). `cls`: 0 = POLLED, 1 = PUSHED, 2 = FAST. -/
structure EpCfg where
  idx : Nat
  eui : Nat
  cls : Nat
  /-- Interval in s. -/
  interval : Nat
  /-- Zone offset from UTC in minutes. -/
  zoneMin : Int
  /-- WAKE in ms; 0 for an endpoint that is not sleepy. -/
  wakeMs : Nat
  /-- It names an activity calendar. -/
  calendar : Bool
  /-- Channel number and configuration of each enabled channel. -/
  chans : List (Nat × ChCfg)
  deriving DecidableEq, Repr

/-- A VEE parameter set of the PROC section (R420). -/
structure PSet where
  type : Nat
  qmax : Nat
  rocX : Nat
  rocFloor : Nat
  min0 : Int
  min1 : Int
  min2 : Int
  max0 : Int
  max1 : Int
  max2 : Int
  sub0 : Int
  sub1 : Int
  sub2 : Int
  deriving DecidableEq, Repr

/-- Modes of a host port (R618). -/
inductive HostMode where
  | base1000
  | base2500
  | sgmii
  deriving DecidableEq, Repr

/-- A host port of the HOST section (R618 to R620). -/
structure HostPortCfg where
  mode : HostMode
  vlan : Option Nat
  jumbo : Bool
  ipv4 : Option Nat
  ipv6 : List Nat
  deriving DecidableEq, Repr

/-- A credential: the digest of a public key, and its role (R610). -/
structure Cred where
  digest : Nat
  role : Role
  deriving DecidableEq, Repr

/-- Scope of a partition (R657): all, or a list of contracts. -/
inductive Scope where
  | all
  | contracts (cs : List Nat)
  deriving DecidableEq, Repr

/-- A partition: what HOST defines (R626) and what LEGAL says of it (R15, R657). -/
structure PartCfg where
  num : Nat
  creds : List Cred
  portMask : Nat
  priv : Bool
  scope : Scope
  deriving DecidableEq, Repr

/-- A PTP domain of the TIME section as far as no register holds it (R182, R186). -/
structure DomCfg where
  announceTimeout : Nat
  logSync : Int
  logDelay : Int
  deriving DecidableEq, Repr

/-- Legal parameters of a channel in the LEGAL section: modulus exponent, raw selection and the quantum's base code and
exponent (R487, R460, 14_balance_engine.md R540), and the conversion record of a raw channel. -/
structure LegalChCfg where
  ch : Chid
  n : Nat
  raw : Bool
  base : Nat
  oe : Int
  rollLimit : Nat
  conv : Option ConvRec
  deriving DecidableEq, Repr

/-- A contract of the LEGAL section: number, digests of the supplier's and consumer's keys (R503). -/
structure ContractCfg where
  num : Nat
  supplier : Nat
  consumer : Nat
  deriving DecidableEq, Repr

/-- Modes of a legal output (R529). -/
inductive OutMode where
  | unused
  | pulse (ch : Chid) (rev : Bool) (mask qpp width : Nat)
  | alarm (device : Bool) (ch : Option Chid) (sealOpen : Bool)
  deriving DecidableEq, Repr

/-- A legal output: mode, inactive state and fault state (R70, R529). -/
structure OutCfg where
  mode : OutMode
  inactive : PadSt
  faultSt : PadSt
  deriving DecidableEq, Repr

/-- A field port of the PORTS section as far as no register holds it. -/
structure PortCfg where
  num : Nat
  radio : Bool
  txenInactive : PadSt
  auxHigh : Bool
  /-- CONN_WIN in ms and SUPERVISION in s of a radio port (R295). -/
  connWin : Nat
  supervision : Nat
  deriving DecidableEq, Repr

/-- An extension task section (R398, R410 to R412). -/
structure ExtCfg where
  num : Nat
  cap : Nat
  coreMask : Nat
  entries : List Nat
  budgetUs : Nat
  deriving DecidableEq, Repr

/-- NAND geometry and device data of the SYS section (R555, R577). -/
structure NandCfg where
  nCh : Nat
  chMask : Nat
  nTgt : Nat
  nLun : Nat
  nPlane : Nat
  page : Nat
  ppb : Nat
  bpp : Nat
  /-- T_MODE in MT/s. -/
  tMode : Nat
  eTlc : Nat
  eSlc : Nat
  /-- Program times in ns. -/
  tProgTlc : Nat
  tProgSlc : Nat
  deriving DecidableEq, Repr

/-- No NAND described. -/
def NandCfg.none : NandCfg :=
  { nCh := 0, chMask := 0, nTgt := 0, nLun := 0, nPlane := 0, page := 0, ppb := 0, bpp := 0, tMode := 0, eTlc := 0, eSlc := 0,
    tProgTlc := 0, tProgSlc := 0 }

/-- Bytes of a block in TLC mode, and in SLC mode (R555). -/
def NandCfg.tlcBytes (n : NandCfg) : Nat := n.ppb * n.page
/-- A block in SLC mode holds PPB / 3 pages. -/
def NandCfg.slcBytes (n : NandCfg) : Nat := n.ppb / 3 * n.page
/-- Planes programmed in parallel: N_PAR (R582). -/
def NandCfg.nPar (n : NandCfg) : Nat := n.nCh * n.nTgt * n.nLun * n.nPlane
/-- Blocks in all. -/
def NandCfg.nBlocks (n : NandCfg) : Nat := n.nPar * n.bpp

/-- A division rounded up. -/
def ceilDiv (a b : Nat) : Nat := (a + b - 1) / b

/-- T_FLUSH of R582 in ns: the transfer and program terms at 8 MiB. (DEDUCED, log 113; DESIGN CHOICE, log 141) -/
def NandCfg.tFlush (n : NandCfg) : Nat :=
  n.tProgTlc + 1000000 +
    max (ceilDiv (8388608 * 1000) (n.nCh * n.tMode)) (ceilDiv 8388608 (n.page * n.nPar) * n.tProgSlc)

/-! The image's header and section table (R154, R155), as bytes. -/

/-- The number that `n` bytes from offset `o` spell, least significant first; `get` gives the byte at an offset. -/
def leAt (get : Nat → Nat) (o n : Nat) : Nat := leNat ((upTo n).map (fun i => get (o + i)))

/-- The number that `n` bytes from offset `o` spell, most significant first. -/
def beAt (get : Nat → Nat) (o n : Nat) : Nat := leNat ((upTo n).map (fun i => get (o + (n - 1 - i))))

/-- An entry of the section table (R155). -/
structure SectEnt where
  type : Nat
  inst : Nat
  ofs : Nat
  len : Nat
  deriving DecidableEq, Repr

/-- The header of an image (R154). -/
structure ImgHdr where
  magic : Nat
  format : Nat
  target : Nat
  seq : Nat
  len : Nat
  sectCount : Nat
  signer : Nat
  /-- SIGNER_PK and LEGAL_DIGEST as numbers, most significant byte first. -/
  pk : Nat
  legalDigest : Nat
  /-- BUILD_TIME in ns since the PTP epoch. -/
  buildTime : Nat
  table : List SectEnt
  deriving DecidableEq, Repr

/-- The entry at index `k` of the section table (R155). -/
def SectEnt.parse (get : Nat → Nat) (k : Nat) : SectEnt :=
  let o := 0x100 + 16 * k
  ⟨leAt get o 2, leAt get (o + 2) 2, leAt get (o + 4) 4, leAt get (o + 8) 4⟩

/-- The header that the bytes of an image spell (R154); the table is read up to SECT_COUNT, at most 64 entries. -/
def ImgHdr.parse (get : Nat → Nat) : ImgHdr :=
  { magic := beAt get 0x000 8, format := leAt get 0x008 4, target := leAt get 0x00C 4, seq := leAt get 0x010 8,
    len := leAt get 0x018 4, sectCount := leAt get 0x01C 4, signer := leAt get 0x020 4, pk := beAt get 0x030 64,
    legalDigest := beAt get 0x070 32, buildTime := tsUnpack (leAt get 0x090 10),
    table := (upTo (min 64 (leAt get 0x01C 4))).map (SectEnt.parse get) }

/-- ASCII "KYORDIMG" and the FORMAT of R154 (R156 check 1). -/
def ImgHdr.magicOk (h : ImgHdr) : Bool := decide (h.magic = 0x4B594F5244494D47) && decide (h.format = 0x00020000)

/-- How often a section type may appear: least and most (R155). -/
def sectCounts : List (Nat × Nat × Nat) :=
  [(0x0001, 1, 1), (0x0002, 1, 1), (0x0003, 1, 1), (0x0004, 1, 1), (0x0005, 1, 1), (0x0006, 1, 16), (0x0007, 1, 1),
   (0x0008, 1, 1), (0x0009, 0, 16), (0x00FF, 1, 1)]

/-- A section lies behind the header, at a 4 KiB-aligned offset, within IMAGE_LEN (R154). -/
def SectEnt.inRange (e : SectEnt) (n : Nat) : Bool :=
  decide (e.ofs % 4096 = 0 ∧ 4096 ≤ e.ofs ∧ 0 < e.len ∧ e.ofs + e.len ≤ n)

/-- Two sections share no byte. -/
def SectEnt.apart (x y : SectEnt) : Bool := decide (x.ofs + x.len ≤ y.ofs ∨ y.ofs + y.len ≤ x.ofs)

/-- No two sections of a table share a byte. -/
def sectsApart : List SectEnt → Bool
  | [] => true
  | x :: l => l.all x.apart && sectsApart l

/-- Check 5 of R156: IMAGE_LEN and SECT_COUNT in range, each section of a known type in range, no overlap, and the counts of
R155. (DESIGN CHOICE, log 40) -/
def ImgHdr.tableOk (h : ImgHdr) : Bool :=
  decide (h.len % 4096 = 0 ∧ h.len + 29792 ≤ 67108864) && decide (1 ≤ h.sectCount ∧ h.sectCount ≤ 64) &&
  h.table.all (fun e => e.inRange h.len && sectCounts.any (fun c => decide (c.1 = e.type))) && sectsApart h.table &&
  sectCounts.all (fun c =>
    let n := (h.table.filter (fun e => e.type = c.1)).length
    decide (c.2.1 ≤ n ∧ n ≤ c.2.2))

/-- A configuration image: its header, and its sections decoded, since the spec gives them no byte layout.
(DESIGN CHOICE, log 40) -/
structure Image where
  hdr : ImgHdr
  /-- SHAKE256 of SIGNER_PK, and the digest computed over the LEGAL section. -/
  signerDigest : Nat
  legalComputed : Nat
  /-- Outcome of check 4 over the signed bytes (R156). -/
  sigOk : Bool
  /-- The limits of the chapters that bear on values this structure does not hold are kept (check 7). -/
  restOk : Bool
  /-- Register fields that the sections load, by S-view address (R173, R210, R342, R375, R414 and the like). -/
  regs : List (Nat × Word)
  /-- SYS. -/
  dramGiB : Nat
  nand : NandCfg
  /-- VDDIO_Gg at 3.3 V, bit g. -/
  vddio : Nat
  compat : Bool
  /-- AVSBus rail selects of VDD_HI and VDD_LO (R118). -/
  avsHi : Nat
  avsLo : Nat
  ringEntries : Nat
  peerEui : Nat
  peerDigest : Nat
  prio : Nat
  /-- PORTS. -/
  ports : List PortCfg
  /-- NET. -/
  fieldBase : Option Nat
  relays : List Nat
  meshCells : List Nat
  /-- HOST. -/
  hostPorts : List (Nat × HostPortCfg)
  parts : List PartCfg
  udpPort : Nat
  sessIdleS : Nat
  /-- TIME. -/
  domA : DomCfg
  domB : DomCfg
  timeWaitS : Nat
  /-- asymmetry_port by host port, in 2^-16 ns (R183). -/
  asym : List (Nat × Int)
  /-- ENDPT. -/
  eps : List EpCfg
  /-- PROC. -/
  psets : List (Nat × PSet)
  /-- Year, month, day. -/
  holidays : List (Nat × Nat × Nat)
  balNodes : List (Nat × BalNode)
  /-- FW: priorities of hardware source classes other than the defaults of R398. -/
  srcPrio : List (Nat × Nat)
  /-- EXT. -/
  exts : List ExtCfg
  /-- LEGAL. -/
  lchans : List LegalChCfg
  contracts : List ContractCfg
  /-- Contract of each listed endpoint. -/
  bindings : List (Nat × Nat)
  outputs : List (Nat × OutCfg)
  /-- Compressibility sets by number: six binary64 patterns each. -/
  zsets : List (Nat × List Nat)
  /-- SETBACK and hold parameters of SLV that the LEGAL section gives: SLV_CFG fields are in `regs`. -/
  ringOk : Bool
  deriving DecidableEq, Repr

/-- The header's fields, as of the image. -/
def Image.seq (im : Image) : Nat := im.hdr.seq
/-- LEGAL_DIGEST. -/
def Image.legalDigest (im : Image) : Nat := im.hdr.legalDigest
/-- BUILD_TIME in ns. -/
def Image.buildTime (im : Image) : Nat := im.hdr.buildTime

/-- A channel's identity (CHID): endpoint times 4 plus channel number. -/
def mkChid (ep c : Nat) : Chid := 4 * ep + c

/-- The endpoint of a channel. -/
def Chid.ep (c : Chid) : Nat := c / 4

/-- The channel number within its endpoint. -/
def Chid.num (c : Chid) : Nat := c % 4

/-- The ENDPT entry of an endpoint index. -/
def Image.ep (im : Image) (e : Nat) : Option EpCfg := im.eps.find? (fun c => c.idx = e)

/-- The endpoint whose EUI-64 is `eui`. -/
def Image.epOf (im : Image) (eui : Nat) : Option EpCfg := im.eps.find? (fun c => c.eui = eui)

/-- The ENDPT configuration of a channel. -/
def Image.chan (im : Image) (c : Chid) : Option ChCfg :=
  (im.ep (Chid.ep c)).bind (fun e => (e.chans.find? (fun x => x.1 = Chid.num c)).map Prod.snd)

/-- The channels that the image enables, in ascending order of listing. -/
def Image.chids (im : Image) : List Chid := im.eps.flatMap (fun e => e.chans.map (fun x => mkChid e.idx x.1))

/-- The LEGAL parameters of a channel. -/
def Image.legal (im : Image) (c : Chid) : Option LegalChCfg := im.lchans.find? (fun x => x.ch = c)

/-- The contract an endpoint is bound to; 0 without a binding (R657). -/
def Image.contractOf (im : Image) (e : Nat) : Nat :=
  ((im.bindings.find? (fun b => b.1 = e)).map Prod.snd).getD 0

/-- A partition's configuration. -/
def Image.part (im : Image) (j : Nat) : Option PartCfg := im.parts.find? (fun p => p.num = j)

/-- A field port's PORTS entry. -/
def Image.port (im : Image) (p : Nat) : Option PortCfg := im.ports.find? (fun c => c.num = p)

/-- A balance node's configuration. -/
def Image.balNode (im : Image) (n : Nat) : Option BalNode := (im.balNodes.find? (fun x => x.1 = n)).map Prod.snd

/-- A legal output's configuration. -/
def Image.output (im : Image) (n : Nat) : Option OutCfg := (im.outputs.find? (fun x => x.1 = n)).map Prod.snd

/-- A parameter set. -/
def Image.pset (im : Image) (i : Nat) : Option PSet := (im.psets.find? (fun x => x.1 = i)).map Prod.snd

/-- An endpoint is in a scope (R657). -/
def Scope.hasContract (sc : Scope) (c : Nat) : Bool :=
  match sc with
  | .all => true
  | .contracts cs => decide (c ∈ cs)

/-- An endpoint is in a partition's scope (R657): one without a binding belongs to contract 0. -/
def Image.inScope (im : Image) (sc : Scope) (e : Nat) : Bool := sc.hasContract (im.contractOf e)

/-- A balance node is in a scope: all of its member and segment channels belong to endpoints in it (R657). -/
def Image.nodeInScope (im : Image) (sc : Scope) (n : Nat) : Bool :=
  match sc with
  | .all => true
  | .contracts _ =>
    match im.balNode n with
    | none => false
    | some b => b.members.all (fun m => im.inScope sc (Chid.ep m.ch)) && b.segs.all (fun g => im.inScope sc (Chid.ep g.2))

end Sys2Proof.Machine
end

