-- ==== Sys2Proof/Machine/SStart.lean ====
section
/-!
DEFINITION. The OTP (R143), the configuration NOR (R151, R152) and the state of start-up and of the run-state machine
(04_startup_configuration.md R139 to R174, 02_package_signals.md R56 to R73).
-/

namespace Sys2Proof.Machine

/-- The OTP (R143). Masks have bit = 1 for a unit enabled at test. -/
structure Otp where
  root : Nat
  /-- The root passes its integrity check (R163). -/
  rootOk : Bool
  eui : Nat
  fuseCore : Nat
  fusePort : Nat
  fuseNand : Nat
  fusePen : Nat
  fuseLane : Nat
  /-- Signer digests 0 to 3 and the revocation bits. -/
  signers : List Nat
  revoked : Nat
  /-- Programmed seal entries, first programmed first (R525). -/
  seals : List Nat
  /-- Temple ratchet by island: OFFSET in mV (R133). -/
  ratchet : Store Nat
  recovery : Nat
  /-- V_trim in mV by 16 x island + step, and the sensor slope in 0.01 % per 10 mV by island (R115, R127). -/
  vtrim : Store Nat
  sigma : Store Nat
  deriving DecidableEq, Repr

/-- The content of a valid boot record copy (R152). -/
structure BootRec where
  count : Nat
  pref : Bool
  trial : Bool
  attempts : Nat
  deriving DecidableEq, Repr

/-- What holds where no copy is valid: PREF = A, TRIAL = 0 (R152). -/
def BootRec.blank : BootRec := ⟨0, false, false, 0⟩

/-- Bytes 0x00 to 0x0B of a boot record copy (R152). -/
def BootRec.head (b : BootRec) : List Nat :=
  leBytes 4 0x4B444252 ++ leBytes 4 b.count ++ [b2n b.pref, b2n b.trial, b.attempts % 256, 0]

/-- The 16 bytes of a boot record copy, with the CRC (R152). -/
def BootRec.bytes (b : BootRec) : List Nat := b.head ++ leBytes 4 (crc32 b.head)

/-- What 16 bytes of the NOR say as a boot record copy: none unless MAGIC and CRC are right (R152). -/
def BootRec.read (bs : List Nat) : Option BootRec :=
  let get := fun i => bs.getD i 0xFF
  if leAt get 0 4 = 0x4B444252 ∧ leAt get 12 4 = crc32 ((upTo 12).map get) then
    some ⟨leAt get 4 4, decide (get 8 = 1), decide (get 9 = 1), get 10⟩
  else none

/-- The NOR: both slots (none where a slot holds no readable image) and the bytes of both boot record copies, from offsets
0x800_0000 and 0x800_1000 (R151, R152); an empty list is an erased copy. -/
structure Nor where
  slotA : Option Image
  slotB : Option Image
  copy0 : List Nat
  copy1 : List Nat
  deriving DecidableEq, Repr

/-- STATUS of CFG_STAGE (R173). -/
inductive StageSt where
  | idle
  | verifying
  | writing
  | ready
  | refused
  deriving DecidableEq, Repr

/-- Its code (R173). -/
def StageSt.code : StageSt → Nat
  | .idle => 0
  | .verifying => 1
  | .writing => 2
  | .ready => 3
  | .refused => 4

/-- Start-up and the run-state machine. -/
structure Sys where
  st : RunSt
  /-- Present or last phase (R173). -/
  phase : Nat
  /-- ROLE: 0 none, 1 ACTIVE, 2 STANDBY. -/
  role : Nat
  cause : Nat
  /-- Levels latched at the rise of PORST_N (R56). -/
  dbgEn : Bool
  pairEn : Bool
  unitSel : Bool
  xspiSafe : Bool
  /-- TMODE was high at the rise of PORST_N, so that the part stays in reset (R46). -/
  tmode : Bool
  failCode : Nat
  codeA : Nat
  codeB : Nat
  /-- The slot being tried or run from, and whether the other slot has failed at this start (R153). -/
  slot : Bool
  otherFailed : Bool
  /-- CFG_START_MS. -/
  startMs : Nat
  stage : StageSt
  stageCode : Nat
  /-- The image being staged (R171). -/
  staged : Option Image
  /-- The running image; none before phase 2 has accepted one. -/
  image : Option Image
  /-- Usable units (R147). -/
  cores : Nat
  ports : Nat
  nands : Nat
  /-- NAND channels that OTP and BIST left usable in phase 1 (R42, R147). -/
  nandOk : Nat
  pens : Nat
  lanes : Nat
  /-- Counter value at which phase 9 or phase 10 began (R164, R165). -/
  phaseAt : Nat
  /-- A heartbeat or claim of the peer was seen in the watch of phase 10 (R165). -/
  peerSeen : Bool
  /-- DRAM capacities found by training, in GiB (R159). -/
  dramA : Nat
  dramB : Nat
  /-- The regions are placed, so that R35 applies. -/
  placed : Bool
  /-- Debounced SEAL input reads closed (R66). -/
  sealClosed : Bool
  /-- PFAIL_N reads low (R61). -/
  pfail : Bool
  /-- Heddle gates open (R61, R698). -/
  heddle : Bool
  /-- RSTOUT_N is driven low (R69). -/
  rstout : Bool
  /-- The first-start flag of R162: Beam formatted the NAND at this start. -/
  formatted : Bool
  /-- The legal partition could not be read at this start, so Beam writes nothing to it (R160). -/
  legalUnread : Bool
  /-- Legal outputs are at their fault or inactive state since t0 (R71). -/
  outsOff : Bool
  deriving DecidableEq, Repr

/-- What phase 1 finds (R144, R145): the OTP was read, BIST passed in every part that must work, and the cores, port groups,
ports, NAND channels, pipes and lanes that passed, as masks. -/
structure Bist where
  otpOk : Bool
  sysOk : Bool
  cores : Nat
  groups : Nat
  ports : Nat
  nands : Nat
  /-- NAND channels that OTP and BIST left usable in phase 1 (R42, R147). -/
  nandOk : Nat
  pens : Nat
  lanes : Nat
  deriving DecidableEq, Repr

/-- What Beam's mount finds (R160, R556): present targets by channel, targets whose parameter page differs from the image,
whether the legal and the archive partition can be read, and whether the Temple record is valid. -/
structure MountScan where
  targets : List (Nat × Nat)
  mismatch : List (Nat × Nat)
  legalOk : Bool
  archOk : Bool
  templeOk : Bool
  deriving DecidableEq, Repr

/-- The OTP of a part that left test with every unit enabled and nothing else programmed. (DESIGN CHOICE, log 11) -/
def Otp.blank : Otp :=
  { root := 0, rootOk := true, eui := 0, fuseCore := 2 ^ 32 - 1, fusePort := 2 ^ 64 - 1, fuseNand := 255, fusePen := 15,
    fuseLane := 65535,
    signers := [], revoked := 0, seals := [], ratchet := [], recovery := 0, vtrim := [], sigma := [] }

/-- A NOR that holds nothing. (DESIGN CHOICE, log 11) -/
def Nor.blank : Nor := ⟨none, none, [], []⟩

/-- Right after the rise of PORST_N with every strap low (R167: START, phase 0). (DESIGN CHOICE, log 11) -/
def Sys.reset : Sys :=
  { st := .start, phase := 0, role := 0, cause := 0, dbgEn := false, pairEn := false, unitSel := false, xspiSafe := false,
    tmode := false, failCode := 0, codeA := 0, codeB := 0, slot := false, otherFailed := false, startMs := 0,
    stage := .idle, stageCode := 0, staged := none, image := none, cores := 0, ports := 0, nands := 0, nandOk := 0, pens := 0,
    lanes := 0, phaseAt := 0, peerSeen := false, dramA := 0, dramB := 0, placed := false, sealClosed := false, pfail := false, heddle := false,
    rstout := true, formatted := false, legalUnread := false, outsOff := false }

end Sys2Proof.Machine
end

