-- ==== Sys2Proof/Machine/STime.lean ====
section
/-!
DEFINITION. State of the time unit: the counter, the two PTP domains, the continuity correction, the launch queues of
the host ports and the zero-crossing references (05_time_base.md R175 to R202). Times below a nanosecond are kept in
2^-16 ns, the unit of the domain offset.
-/

namespace Sys2Proof.Machine

/-- Servo states (R186). -/
inductive Servo where
  | freerun
  | acquire
  | locked
  | holdover
  deriving DecidableEq, Repr

/-- STATE in TIM_d_STAT (R210). -/
def Servo.code : Servo → Nat
  | .freerun => 0
  | .acquire => 1
  | .locked => 2
  | .holdover => 3

/-- What an Announce message says of its master, as far as best master selection uses it (R182, IEEE 1588-2019). -/
structure PtpMaster where
  priority1 : Nat
  clockClass : Nat
  accuracy : Nat
  variance : Nat
  priority2 : Nat
  identity : Nat
  stepsRemoved : Nat
  /-- Host port the master is received on. -/
  port : Nat
  /-- logMessageInterval of the latest Announce message. -/
  logInterval : Int
  deriving DecidableEq, Repr

/-- One PTP domain (R177 to R187). -/
structure Domain where
  /-- OFFSET_d in 2^-16 ns. -/
  offset : Int
  /-- C_epoch_d. -/
  epoch : Nat
  /-- What R180 adds to the counts since C_epoch_d for intervals on the IRC that have ended, in 2^-32 counts. -/
  lost : Int
  /-- RATE_d in 2^-48. -/
  rate : Int
  /-- I_d, the integrator, in 2^-48. -/
  integ : Int
  state : Servo
  everLocked : Bool
  sat : Bool
  samples : Nat
  discards : Nat
  /-- TIM_d_LAST: the last sample in ns, saturated (R183). -/
  last : Int
  /-- The previous sample beyond STEP_US, in 2^-16 ns, when the next one of its sign makes the step rule (R185). -/
  pendStep : Option Int
  /-- FREERUN: the previous sample was within STEP_US (R186). -/
  smallRun : Nat
  /-- Consecutive samples within LOCK_NS in ACQUIRE. -/
  lockRun : Nat
  /-- Consecutive samples beyond 4 x LOCK_NS in LOCKED. -/
  missRun : Nat
  /-- Counter value at which the domain last entered LOCKED without a break since (R188). -/
  lockedAt : Nat
  /-- meanPathDelay in 2^-16 ns. -/
  pathDelay : Int
  /-- Counter value of the last valid sample (R186). -/
  sampleAt : Nat
  /-- Host port and stamp at the PCS of the latest Delay_Req or Pdelay_Req sent on each port (R192). -/
  reqAt : List (Nat × Nat)
  /-- The best master, with the counter value of its latest Announce. -/
  master : Option (PtpMaster × Nat)
  /-- TIME_UNLOCK, TIME_HOLDOVER active (R213). -/
  unlockActive : Bool
  deriving DecidableEq, Repr

/-- A domain after reset. -/
def Domain.reset : Domain :=
  { offset := 0, epoch := 0, lost := 0, rate := 0, integ := 0, state := .freerun, everLocked := false, sat := false, samples := 0,
    discards := 0, last := 0, pendStep := none, smallRun := 0, lockRun := 0, missRun := 0, lockedAt := 0, pathDelay := 0,
    sampleAt := 0, reqAt := [], master := none, unlockActive := false }

/-- Zero-crossing reference of a port group (R200, R202). -/
structure ZcGroup where
  /-- Counter value of the latest edge of the reference port. -/
  edge : Nat
  /-- The last edges of the reference port, newest first, at most 65. -/
  edges : List Nat
  /-- Mean period over the last 64 edges, in counts. -/
  period : Nat
  valid : Bool
  refPort : Nat
  deriving DecidableEq, Repr

/-- A group before its first edge. -/
def ZcGroup.blank : ZcGroup := ⟨0, [], 0, false, 0⟩

/-- Latest edge of a PLC port's AUX input and its offset from the group reference (R200). -/
structure ZcPort where
  live : Bool
  edge : Nat
  offset : Int
  /-- Counter value of the first edge of the present run without a 50 ms gap (R255). -/
  since : Nat
  /-- The latest edges, newest first, at most 256: more than a frame's airtime (R246). (DESIGN CHOICE) -/
  past : List Nat
  deriving DecidableEq, Repr

/-- A port whose AUX input has shown no edge. -/
def ZcPort.blank : ZcPort := ⟨false, 0, 0, 0, []⟩

/-- A frame in a host port's launch queue (R197): its launch time, posting order and tag of its producer. -/
structure HostLaunch where
  at_ : Nat
  asap : Bool
  tag : Nat
  deriving DecidableEq, Repr

/-- What held from a counter value on: the selected domain, K in 2^-16 ns, and whether R180 applied (R194). -/
structure TimEra where
  from_ : Nat
  sel : Bool
  cont : Int
  irc : Bool
  deriving DecidableEq, Repr

/-- The time unit. -/
structure Tim where
  /-- TIM_CNT (R175). -/
  cnt : Nat
  domA : Domain
  domB : Domain
  /-- Selected domain: false = A, true = B (R188). -/
  sel : Bool
  /-- Continuity correction K in 2^-16 ns (R189). -/
  cont : Int
  /-- IRC-to-REFCLK ratio in 2^-32, as last measured (R180); none before the part has run on REFCLK. -/
  ratio : Option Nat
  /-- Counter value of the switch to the IRC while R180 applies. -/
  ircAt : Option Nat
  /-- Continuity slew ticks are counted from this counter value (R189). -/
  slewAt : Nat
  /-- The eras that have ended with a change of selection, K or source, newest first, at most 65,536 (the model's own record, so
  that a stamp is converted with what held at its counter value, R194). -/
  eras : List TimEra
  eraAt : Nat
  /-- TAI - UTC offsets announced by the selected domain's master, newest first: the TAI second from which each holds, and
  the offset in s (R353). -/
  utcOffs : List (Nat × Int)
  zcGroups : Store ZcGroup
  zcPorts : Store ZcPort
  /-- Launch queues of the host ports (R197). -/
  hostLaunch : Store (List HostLaunch)
  deriving DecidableEq, Repr

/-- The time unit after reset. (DESIGN CHOICE, log 12) -/
def Tim.reset : Tim :=
  { cnt := 0, domA := Domain.reset, domB := Domain.reset, sel := false, cont := 0,
    ratio := none, ircAt := some 0, slewAt := 0, eras := [], eraAt := 0, utcOffs := [], zcGroups := [], zcPorts := [], hostLaunch := [] }

end Sys2Proof.Machine
end

