-- ==== Sys2Proof/Syntax.lean ====
section
/-!
DEFINITION. The commands: one constructor per row of spec/opcode_table.json, in the table's order. A command that happens
at an instant carries it as `t`, a TIM_CNT value (05_time_base.md R175); register commands carry the requester `r`; what a
check of a signature, tag or checksum finds is an operand.
-/

namespace Sys2Proof
open Sys2Proof.Machine

/-- The commands of the table. -/
inductive Instr where
  /-- R13: A register write to a register without a row of its own sets the fields writable through the view used, after the
  refusal checks of R753. -/
  | registerWrite (r : Requester) (a bytes : Nat) (v : Word)
  /-- R10: A read of the lowest-order word of a multi-word value captures the higher words into the requester's snapshot. -/
  | wideValueLowWordRead (r : Requester) (a bytes : Nat)
  /-- R62: PORST_N falls: every island enters reset at once, with no flush, and the state becomes RESET. -/
  | porstNAssert
  /-- R139: PORST_N rises: the straps are latched, TMODE is checked, AON runs on the IRC and phase 0 starts. -/
  | porstNRelease (tmode dbgEn pairEn unitSel xspiSafe sealClosed : Bool)
  /-- R144: Phase 1 ends: the OTP is read, the Temple ratchet applied, BIST run and the unit masks loaded, or the part
  enters HALTED. -/
  | bistDone (b : Bist)
  /-- R159: Both DRAM channels are trained with up to three attempts each, or the part enters HALTED with DRAM_TRAIN. -/
  | dramTrainingDone (capA capB : Option Nat)
  /-- R156: The image read into DRAM completes checks 1 to 6, or falls back to the other slot or to RECOVERY. -/
  | imageVerifyDone (norMbit : Nat) (sfdpOk : Bool)
  /-- R156: Phase 3 runs checks 7 to 10, compares LEGAL_DIGEST with the seal record, fixes the SLV operating point and
  releases RSTOUT_N. -/
  | configCheck (vddio : Nat)
  /-- R159: Phase 4 checks the DRAM capacity against the SYS section and places the regions, after which R35 applies. -/
  | regionLayout
  /-- R160: Phase 5 mounts the NAND by map-journal replay, reads the Temple record and moves the islands to their effective
  steps. -/
  | beamMount (m : MountScan)
  /-- R161: Phase 6 loads the legal checkpoint, replays the legal journal and re-runs missing boundaries. -/
  | legalReplay
  /-- R451: Phase 7 loads the Warp checkpoint slices, replays the journal and raises the indices to Selvedge's copies. -/
  | warpRebuild (readable : Bool)
  /-- R592: Phase 8 derives and tests the key tree and loads the meter key table, or the part enters HALTED with KEY_ROOT. -/
  | keyRootDerivation (testOk tableOk : Bool) (xcvr t : Nat)
  /-- R164: Phase 9 ends after TIME_WAIT when no domain has locked. -/
  | timeWaitExpiry (t : Nat)
  /-- R165: The 40 ms watch of phase 10 ends and the role is decided as ACTIVE or STANDBY, or a claim is raised. -/
  | roleDecision (t : Nat)
  /-- R166: Phase 11 enters the run state: the Heddle gates open or stay closed, FAULT_N is released and the boot trial is
  confirmed. -/
  | runEntry (ms t : Nat)
  /-- R169: In HALTED with SEAL open, the maintenance UART prints the fail code and phase once a second. -/
  | haltedUartReport
  /-- R168: CFG_CTRL.RESTART with the key requests a restart: a flush from ACTIVE or STANDBY, or a reset from RECOVERY. -/
  | restart (r : Requester) (v : Word)
  /-- R64: PFAIL_N held low for 1 us is latched as t0; outputs go inactive, islands are gated and the flush begins. -/
  | powerFailLatch (t : Nat)
  /-- R581: The last flush page is programmed; WP_N goes low and the state becomes FLUSHED. -/
  | flushComplete (us : Nat)
  /-- R65: Once PFAIL_N has been high for 100 ms, or after a restart request, the flushed part resets as a PORST_N cycle. -/
  | flushedReset
  /-- R524: The debounced SEAL input changes; opening it sets LEGAL_HOLD with cause SEAL_OPEN and enables the UART console. -/
  | sealChange (closed : Bool) (t : Nat)
  /-- R93: REFCLK has stayed within 5 % for the qualification time, is declared good, and the clocks switch to it by the
  hold sequence. -/
  | refclkQualified (t : Nat)
  /-- R94: A missing REFCLK edge or a window out of range declares REFCLK lost, and every synthesiser switches to the IRC. -/
  | refclkLost (t ratio : Nat)
  /-- R105: A write clearing the EN bit of a gateable island sets BUSY, refuses new accesses and starts draining its
  functions. -/
  | islandClose (r : Requester) (i : Nat)
  /-- R105: Once the accesses in flight have completed, the island's clock is gated, its regulator turned off and its EN
  cleared. -/
  | islandCloseComplete (i ok t : Nat)
  /-- R107: A write setting the EN bit of a closed island powers it, holds it in reset and releases it at its effective
  step. -/
  | islandOpen (r : Requester) (i ok t : Nat)
  /-- R117: A write of CKV_STEP TGT starts an operating-point change in the order of R117. -/
  | stepTargetWrite (r : Requester) (i tgt : Nat)
  /-- R110: Every 2 us, a steppable island in transition moves one frequency step toward its target. -/
  | frequencyStepTick (i : Nat)
  /-- R114: The island regulator reaches its new voltage, settles after 5 us, and the transition continues. -/
  | regulatorSettled (i : Nat)
  /-- R118: The wait after an AVSBus rail write ends, and the new rail value is relied on. -/
  | avsWriteSettled (hi : Bool)
  /-- R119: A failed AVSBus write is retried after 100 us, up to three times, and then once a second with AVS_FAIL raised. -/
  | avsRetryTimer (hi ok : Bool)
  /-- R125: Every 6 h of powered time, a Temple measurement cycle starts. -/
  | templeCycleTimer (t : Nat)
  /-- R137: A write of 1 to TMP_CTRL.MEASURE starts a measurement cycle unless one is running. -/
  | templeMeasure (r : Requester)
  /-- R127: The 250 ms window of an island ends; Temple re-plans OFFSET and LIMIT and applies them through Treadle. -/
  | templeWindowEnd (slack t : Nat)
  /-- R130: A sensor's slack falls below 6 %, and Temple at once slows the island or raises its offset. -/
  | slackAlarm (i slack : Nat)
  /-- R183: A Sync message, with its Follow_Up where two-step, gives an offset sample that the servo applies or steps on. -/
  | ptpSync (d : Bool) (e t2 : Nat) (t1 corr : Int)
  /-- R182: An Announce message updates best master selection and restarts the announce receipt timeout. -/
  | ptpAnnounce (d : Bool) (m : PtpMaster) (ptpScale : Bool) (utc : Int) (t : Nat)
  /-- R195: A Delay_Req or Pdelay_Req falls due and leaves with its departure time inserted. -/
  | ptpDelayReqTimer (d : Bool) (e t : Nat)
  /-- R182: A Delay_Resp or Pdelay_Resp message updates the domain's meanPathDelay. -/
  | ptpDelayResp (d : Bool) (e c2 : Nat) (a b corr : Int)
  /-- R195: A received Pdelay_Req is answered with a one-step Pdelay_Resp. -/
  | ptpPdelayReq (d : Bool) (e c t : Nat)
  /-- R186: No valid sample for 16 Sync intervals moves the domain to HOLDOVER. -/
  | syncTimeout (d : Bool) (t : Nat)
  /-- R186: The announce receipt timeout expires and the domain enters HOLDOVER. -/
  | announceReceiptTimeout (d : Bool) (t : Nat)
  /-- R186: Clearing TIM_d_CFG.EN puts the domain servo in FREERUN, keeping I_d and RATE_d. -/
  | servoDisable (r : Requester) (d : Bool)
  /-- R210: Setting TIM_d_CFG.EN starts the domain servo. -/
  | servoEnable (r : Requester) (d : Bool)
  /-- R188: The preferred domain has been LOCKED for 60 s, and the selection returns to it with a continuity correction. -/
  | prefReturnTimer (t : Nat)
  /-- R189: Each 1 ms of counter time, K is reduced by up to 50 ns. -/
  | continuitySlewTick (t : Nat)
  /-- R203: Each 1 ms, SLV advances legal time L toward presented time by track, slew, hold or forward step. -/
  | legalTimeTick (t : Nat)
  /-- R200: A rising edge on a PLC AUX input updates the group's zero-crossing reference, period and port offset. -/
  | zcEdge (p t : Nat)
  /-- R49: No zero-crossing edge for 50 ms stops transmission on the port and raises ZC_LOSS. -/
  | zcLoss (p t : Nat)
  /-- R199: A frame with a launch time is posted to a launch queue, or refused with QUEUE_FULL or LAUNCH_RANGE. -/
  | launchPost (host : Bool) (p : Nat) (f : Frame) (tag at_ : Nat) (asap : Bool)
  /-- R197: A queued frame's launch time arrives; the frame leaves, or returns LAUNCH_LATE or NO_CLAIM. -/
  | launchTimeReached (host : Bool) (p t : Nat) (busy : Bool)
  /-- R236: A PLC half-cycle slot starts; Reed sends an owed ACK, a launch frame or the queued frame when the medium allows. -/
  | plcSlotStart (p t : Nat) (energy : Bool)
  /-- R243: A PLC frame ends; the header and FCS are checked, duplicates dropped, the phase computed and the frame handed to
  NET. -/
  | plcFrameReceived (p : Nat) (f : Frame) (fcsOk : Bool) (q t : Nat)
  /-- R241: ACK_WAIT expires without delivery; a retry is scheduled, or the frame returns NO_ACK. -/
  | plcAckWaitExpiry (p t : Nat)
  /-- R244: A run of saturated samples counts as an impulse and increments IMPULSE. -/
  | impulse (p : Nat) (ws : List Nat) (t : Nat)
  /-- R218: Outside frames, the receive GAIN follows the noise floor by at most one step per 10 ms. -/
  | plcGainTrack (p target t : Nat)
  /-- R217: AFE_OK reads 0 for 1 ms, and the port stops transmitting and receiving. -/
  | afeFail (p t : Nat)
  /-- R217: AFE_OK has read 1 for 10 ms, and the port resumes. -/
  | afeResume (p t : Nat)
  /-- R249: Queued frames of a port blocked for 2 s are returned TX_BLOCKED. -/
  | blockedQueueTimeout (p t : Nat)
  /-- R261: Setting RPT_p_CTRL.EN enables the port, initialising a radio transceiver first; it is refused while MODE is 0. -/
  | portEnable (r : Requester) (p t : Nat) (initOk : Bool)
  /-- R250: Clearing RPT_p_CTRL.EN starts DRAINING of the port. -/
  | portDisable (r : Requester) (p : Nat)
  /-- R340: The port's exchange in progress completes, EN reads 0, and NET frees its neighbour entries and re-homes its
  nodes. -/
  | portDrainDone (p t : Nat)
  /-- R269: An SFD_RX interrupt stamps an incoming radio frame. -/
  | radioSfdReceived (p t : Nat)
  /-- R269: An RX_DONE interrupt leads to RX_READ, FCS and address filtering, duplicate dropping and handing to NET. -/
  | radioFrameReceived (p : Nat) (f : Frame) (fcsOk : Bool) (rssi : Int) (t : Nat)
  /-- R271: A TX_DONE interrupt ends a transmission and starts its ACK_WAIT. -/
  | radioTxDone (p t : Nat)
  /-- R270: 1 ms after an accepted frame ends, the hardware ACK is sent without LBT. -/
  | radioAckTurnaround (p t : Nat)
  /-- R273: ACK_WAIT expires without delivery; a retry backoff is drawn, or the frame returns NO_ACK. -/
  | radioAckWaitExpiry (p t : Nat)
  /-- R273: The B x 5 ms retry backoff ends, and the frame is sent again under the port's medium access. -/
  | radioRetryBackoff (p t : Nat)
  /-- R275: An LBT listen ends; the frame starts, or waits further periods, or fails CHANNEL_BUSY after eight busy listens. -/
  | lbtListenEnd (p : Nat) (busy : Bool) (t : Nat)
  /-- R277: Each second, a duty bin closes and the duty used is recomputed. -/
  | dutyBinTick (p t : Nat)
  /-- R277: A frame held by the duty budget for 10 s is returned DUTY_LIMIT. -/
  | dutyHoldExpiry (p t : Nat)
  /-- R278: A hop slot starts, and the port retunes to the slot's channel, using the new map from the switch slot onward. -/
  | hopSlotStart (p t : Nat)
  /-- R281: A write to RPT_p_RAD_CHMAP is checked and scheduled for a switch slot and for connection events. -/
  | chmapWrite (r : Requester) (p : Nat) (lo : Word) (t : Nat)
  /-- R281: Every BEACON_S until the switch slot, NET sends a MAP_UPDATE flood. -/
  | mapUpdateTimer (p t : Nat)
  /-- R285: The gap after a copy of a repeated-frame sequence ends; the next copy is sent, or the sequence ends. -/
  | repeatCopyGap (p : Nat) (energy : Bool) (t : Nat)
  /-- R287: After an ACK with PENDING ends, the pending frame to the sleepy endpoint is sent, or falls back to R284 or R285. -/
  | pendingFrameSend (p : Nat) (busy : Bool) (t : Nat)
  /-- R291: A connection anchor arrives; the event counter advances and the receiver opens on the event's channel. -/
  | connEvent (p ep t : Nat)
  /-- R291: The event's receive window closes without an SFD, and EV_MISSED is counted. -/
  | connEventMissed (p ep t : Nat)
  /-- R294: No valid frame for the supervision time loses the connection, frees its record and raises CONN_LOST. -/
  | connSupervisionTimeout (p ep t : Nat)
  /-- R260: Status bytes invalid for 1 ms raise XCVR_FAIL and stop the radio port. -/
  | xcvrFail (p t : Nat)
  /-- R260: Once a second, a failed transceiver is initialised again, and the port resumes on success. -/
  | xcvrReinit (p : Nat) (ok : Bool) (t : Nat)
  /-- R261: Initialisation not complete within 10 ms leaves EN at 0 and raises XCVR_FAIL. -/
  | xcvrInitTimeout (p t : Nat)
  /-- R337: A JOIN_REQ copy is collected for the node's join decision. -/
  | joinReq (t : Nat)
  /-- R337: DISC_WIN + 10 s after the first copy, the node is joined to its cheapest cell or refused. -/
  | joinDecision (eui t : Nat)
  /-- R313: A neighbour report updates the reported link costs. -/
  | nbrReport (t : Nat)
  /-- R327: A RELAY_MISS with MISSES = 3 marks the relay DOWN. -/
  | relayMiss (t : Nat)
  /-- R360: A fast endpoint's connection request is answered with CONN_SET or CONN_REFUSE. -/
  | connReq (t : Nat)
  /-- R334: An ORPHAN flood sets its originator to REDISCOVER and starts a discovery round within 60 s. -/
  | floodOrphan (t : Nat)
  /-- R331: A flood of another kind received at a port is checked against the seen-message cache and dropped or processed. -/
  | floodEcho (t : Nat)
  /-- R326: Every BEACON_S, an enabled port sends a BEACON through its launch queue. -/
  | beaconTimer (p t : Nat)
  /-- R329: A relay beacon resets the miss count and returns a DOWN relay to UP. -/
  | beaconReceived (t : Nat)
  /-- R327: A beacon miss instant passes without a beacon; the third miss marks the relay DOWN. -/
  | beaconMiss (p eui t : Nat)
  /-- R316: A cell's routes are recomputed, and ROUTE_SET is sent to each node whose parent changed. -/
  | routeRecompute (p t : Nat)
  /-- R336: Every DISC_PERIOD, a port sends a DISCOVER flood, re-homes nodes and moves nodes without a route to UNREACHABLE. -/
  | discoveryRoundTimer (p t : Nat)
  /-- R342: A write of NET_CTRL.DISC opens a discovery round on every enabled port. -/
  | netCtrlDisc (r : Requester) (t : Nat)
  /-- R342: A write of NET_CTRL.RECOMPUTE recomputes every cell. -/
  | netCtrlRecompute (r : Requester) (t : Nat)
  /-- R342: A write of NET_NBR_IDX snapshots the neighbour entry into NET_NBR_DATA. -/
  | netNbrIdxWrite (r : Requester) (v : Word)
  /-- R606: A crypto lane loads a Bobbin, seals or opens one APDU or datagram, and clears the Bobbin. -/
  | cryptoLaneJob (l : Nat) (fast : Bool) (t : Nat)
  /-- R356: A POLLED endpoint's read falls due at its spread offset after the interval boundary. -/
  | pollDue (ep t : Nat)
  /-- R358: A due or held confirmed request starts when capacity allows, in class order. -/
  | requestStart (t : Nat)
  /-- R357: A request without a response is sent again, or ends with RESP_TIMEOUT. -/
  | respWaitExpiry (ep t : Nat)
  /-- R364: A channel lagging beyond its threshold gets a backfill read. -/
  | backfillStart (ch : Chid) (t : Nat)
  /-- R348: SESSION_LIFE without a valid APDU closes the association and expires block-transfer state. -/
  | sessionLifeExpiry (ep t : Nat)
  /-- R370: Every BLOCK_GAP, the next multicast block of a campaign round is flooded. -/
  | campaignBlock (p t : Nat)
  /-- R370: At the host's activation time, image_activate is sent and FW_CAMPAIGN_DONE raised. -/
  | campaignActivateTime (t : Nat)
  /-- R372: A calendar push not confirmed 24 h before the boundary raises TARIFF_PUSH_LATE. -/
  | tariffPushLate (ep slot t : Nat)
  /-- R375: A write of MSN_CTRL.FW_PAUSE holds or releases firmware distribution. -/
  | fwPause (r : Requester) (b : Bool)
  /-- R375: A write of MSN_CTRL.BF_PAUSE holds or releases backfill. -/
  | bfPause (r : Requester) (b : Bool)
  /-- R385: A core's read of SHT_DISPATCH stalls until a task or a withdrawal is handed to it. -/
  | shtDispatch (c : Nat)
  /-- R390: SHT_DONE with OP DONE frees the descriptor and refills from a spill ring. -/
  | shtDoneDone (c : Nat)
  /-- R390: SHT_DONE with OP REQUEUE returns the task to the tail of its ready list. -/
  | shtDoneRequeue (c : Nat) (k : Cont)
  /-- R390: SHT_DONE with OP YIELD returns the task to the head of its ready list. -/
  | shtDoneYield (c : Nat) (k : Cont)
  /-- R390: SHT_DONE with OP DELAY places the task on a delay list. -/
  | shtDoneDelay (c dlist ticks : Nat) (k : Cont)
  /-- R378: A read of SHT_POST posts the PDESC window, which is accepted, spilled or refused. -/
  | shtPost (c : Nat) (d : PostDesc)
  /-- R392: A read of SHT_CANCEL cancels the named task or reports RUNNING or NOT_FOUND. -/
  | shtCancel (c id : Nat)
  /-- R381: Every 1 us, a hardware source retries its oldest refused post. -/
  | hwPostRetry (src : Nat)
  /-- R393: A task held beyond TASK_WD raises CORE_HUNG; the core is reset and the task returned or killed. -/
  | taskWatchdog (c t : Nat)
  /-- R395: At a delay-list tick, due descriptors move to their ready lists. -/
  | delayListTick (k t : Nat)
  /-- R396: A write to SHT_TICK_k sets the tick, and is refused while the list holds descriptors. -/
  | shtTickWrite (r : Requester) (k : Nat) (v : Word)
  /-- R404: Clearing a core's SHT_CORE_EN bit withdraws the core. -/
  | coreWithdraw (r : Requester) (c : Nat)
  /-- R405: Setting a core's SHT_CORE_EN bit starts the core from its reset vector. -/
  | coreAdd (r : Requester) (c : Nat)
  /-- R411: An extension task ecall DONE ends the task. -/
  | extDone (c : Nat)
  /-- R411: An extension task ecall REQUEUE returns the task to the tail of its list. -/
  | extRequeue (c : Nat) (k : Cont)
  /-- R411: An extension task ecall YIELD returns the task to the head of its list. -/
  | extYield (c : Nat) (k : Cont)
  /-- R411: An extension task ecall DELAY delays the task. -/
  | extDelay (c dlist ticks : Nat) (k : Cont)
  /-- R411: An extension task ecall POST posts a task of its class, with the entry point checked. -/
  | extPost (c entry arg0 arg1 arg2 prio delay : Nat)
  /-- R411: An extension task ecall CANCEL cancels a task of its own class. -/
  | extCancel (c id : Nat)
  /-- R412: The core timer interrupts a run beyond EXT_BUDGET; the task is requeued or ended with EXT_OVERRUN. -/
  | extBudgetOverrun (c t : Nat)
  /-- R410: A PMP fault ends the extension task and raises EXT_FAULT. -/
  | extFault (c addr : Nat)
  /-- R423: A reading from MSN passes W1 to W7: duplicate and hold checks, VEE, estimation, journaling and queueing. -/
  | warpItem (i : Option WarpItem)
  /-- R426: A GAP report places markers for the missing indices in the held chain. -/
  | gapReport
  /-- R433: GAP_WAIT after the first held entry closes the gap and releases the chain. -/
  | gapWaitExpiry (ch : Chid) (t : Nat)
  /-- R437: Warp offers the oldest queued reading of a channel to Selvedge when the handoff conditions hold. -/
  | handoffOffer (ch : Chid)
  /-- R441: Selvedge's disposition of a reading clears IN_FLIGHT, and Warp acts on its code. -/
  | disposition
  /-- R443: Every HOLD_PROBE, Warp offers the newest entry of one held channel. -/
  | holdProbe
  /-- R440: WRP_CMD REANCHOR arms a channel in VEE_HOLD to take its next reading as a new base. -/
  | reanchor (r : Requester) (ch : Chid)
  /-- R447: WRP_CMD EDIT writes an EDIT entry for a channel index, journaled and archived. -/
  | edit (r : Requester) (ch : Chid)
  /-- R454: A write of WRP_CTRL.CKPT_NOW starts a new checkpoint cycle at slice 0. -/
  | ckptNow (r : Requester)
  /-- R450: A Warp checkpoint slice is copied under the endpoint locks and stamped. -/
  | warpCheckpointSlice
  /-- R454: A write of WRP_REC_IDX snapshots the endpoint record under its lock. -/
  | wrpRecIdxWrite (r : Requester) (v : Word)
  /-- R492: Selvedge decides a reading message: hold, index, window, base and monotonic checks, then PEN conversion and
  booking. -/
  | slvReading
  /-- R508: BOUNDARY(T) runs atomically when L reaches T: it settles, changes tariffs, activates and expires cards, and is
  journaled. -/
  | boundary
  /-- R517: The signature of a day's seal root returns, is verified and is journaled as a SEAL record. -/
  | sealSigned (ok : Bool)
  /-- R504: A STAGE message is checked and takes a card slot as STAGED. -/
  | cardStage
  /-- R504: A SIGN message advances a card to PARTLY or PENDING, or refuses it. -/
  | cardSign (sigOk : Bool)
  /-- R504: A WITHDRAW message withdraws a card that is not yet active. -/
  | cardWithdraw (sigOk : Bool)
  /-- R525: The authority command HOLD_DEVICE sets device cause AUTHORITY. -/
  | holdDevice (o : ObjReq)
  /-- R525: The authority command RELEASE_DEVICE clears device cause AUTHORITY. -/
  | releaseDevice (o : ObjReq)
  /-- R525: The authority command HOLD_CHANNEL holds a channel with cause AUTHORITY. -/
  | holdChannel (o : ObjReq)
  /-- R526: The authority command RELEASE_CHANNEL ends a channel hold and credits the held excess under ROLL_LIMIT. -/
  | releaseChannel (o : ObjReq)
  /-- R525: The authority command REANCHOR_CONSENT grants one re-anchor of a channel for 7 days. -/
  | reanchorConsent (o : ObjReq)
  /-- R525: A re-anchor consent lapses after 7 days. -/
  | reanchorConsentExpiry (ch : Chid)
  /-- R527: The authority command REVERIFY checks the seal, digests and PEN self-test and ends the seal hold causes. -/
  | reverify (o : ObjReq) (romOk penOk : Bool)
  /-- R525: The authority command SEAL_PROGRAM programs the running LEGAL_DIGEST into the next OTP seal entry. -/
  | sealProgram (o : ObjReq)
  /-- R525: The authority command LEGAL_UNLOCK lets the next staging change LEGAL_DIGEST. -/
  | legalUnlock (o : ObjReq)
  /-- R515: A legal checkpoint slice is copied and stamped, and PULSE records are journaled. -/
  | legalCheckpointSlice
  /-- R529: A pulse owed on a legal output starts, once the spacing and the standby's acknowledgement allow. -/
  | legalPulseStart (t n : Nat)
  /-- R529: A legal pulse ends after WIDTH. -/
  | legalPulseEnd (t n : Nat)
  /-- R476: Every 600 s, each pipe evaluates the self-test points and fails on a mismatch. -/
  | penSelfTest (k : Nat) (ok : Bool)
  /-- R477: Clearing a PIPE_EN bit drains the pipe and moves its queued evaluations. -/
  | pipeDisable (r : Requester) (k : Nat)
  /-- R477: Setting a PIPE_EN bit adds the pipe from the next slot. -/
  | pipeEnable (r : Requester) (k : Nat)
  /-- R480: A recompute job finishes its records and raises RECOMPUTE_DONE and any mismatch. -/
  | recomputeJobEnd (j : Nat)
  /-- R541: A Warp notification adds its contribution parts to the period bins of every member node. -/
  | balNotification
  /-- R542: Beam copies a raw channel's journaled factor to BAL. -/
  | balFactorCopy
  /-- R544: At E + 2 s, due periods are evaluated by CUSUM, and LOSS or GAIN alarms are raised or cleared. -/
  | balEvaluation (t : Nat)
  /-- R549: Once an hour, BAL writes its node state to the system area. -/
  | balStateSave
  /-- R550: A write of 0 to BAL_CTRL.EN starts DRAINING of the Balance Engine. -/
  | balDisable (r : Requester)
  /-- R550: Setting BAL_CTRL.EN restarts evaluation at the next period end. -/
  | balEnable (r : Requester)
  /-- R553: BAL_CMD RESET zeroes one node's sums and clears its alarms. -/
  | balReset (r : Requester) (n : Nat)
  /-- R553: BAL_CMD RESET_ALL resets every node. -/
  | balResetAll (r : Requester)
  /-- R553: A write of BAL_NODE_IDX snapshots a node and its latest record. -/
  | balNodeIdxWrite (r : Requester) (v : Word)
  /-- R514: Beam programs legal journal records into the legal partition in JSEQ order, advancing SLV_DJSEQ. -/
  | journalRecordWrite
  /-- R564: An archive record is packed into a chunk through the SLC cache, or refused with BEM_RO. -/
  | archiveWrite
  /-- R566: Cached data is folded into TLC when the cache is 75 % full or writes have been idle for 1 s. -/
  | cacheFold
  /-- R567: A victim block's valid units are copied, remapped durably, and the block is erased. -/
  | garbageCollection
  /-- R569: The lowest-count block's data is moved when the erase-count spread exceeds 5 %. -/
  | wearLevelMove (p : Pool)
  /-- R570: A failed program or erase retires the block, replacing it from the spare pool. -/
  | nandOperationFail (n : Nat) (readable : Bool)
  /-- R725: A codeword that fails every read retry raises NAND_UE and is handled by data kind. -/
  | nandReadUncorrectable (ch : Nat) (d : NandKind)
  /-- R578: Once a minute of FAST data is older than RET_FAST_H, a 1-min aggregate is written. -/
  | fastAggregation (ch : Chid) (m : Nat)
  /-- R576: BEM_CMD DISCARD removes the chunks of one stream over a range of legal days. -/
  | discard (r : Requester) (stream : Nat)
  /-- R584: Clearing a BEM_CTRL.CH_EN bit drains the channel, moving its valid units. -/
  | nandChannelDrain (r : Requester) (n : Nat)
  /-- R584: Setting a BEM_CTRL.CH_EN bit joins the channel after an erase-count scan. -/
  | nandChannelJoin (r : Requester) (n : Nat)
  /-- R584: A channel failing in service is removed, LEGAL_EXPOSED is raised, and two legal checkpoint cycles are requested. -/
  | nandChannelFail (n : Nat)
  /-- R593: A failed entropy health test raises TRNG_FAIL and stops key generation. -/
  | trngHealthFail
  /-- R604: A key table entry's system-area copy is written, releasing the requests that waited for the reservation. -/
  | keyCopyWritten (ep : Nat)
  /-- R608: Clearing a KEY_LANE_EN bit drains the lane and moves its waiting jobs. -/
  | laneDisable (r : Requester) (l : Nat)
  /-- R608: Setting a KEY_LANE_EN bit adds the lane. -/
  | laneEnable (r : Requester) (l : Nat)
  /-- R614: KEY_ZERO OP SESSIONS clears every host session slot. -/
  | zeroSessions (r : Requester)
  /-- R614: KEY_ZERO OP METER_KEYS erases the key table and the PKWK objects and raises KEYTABLE_FAIL. -/
  | zeroMeterKeys (r : Requester)
  /-- R614: KEY_ZERO OP ALL performs METER_KEYS, then SESSIONS. -/
  | zeroAll (r : Requester)
  /-- R628: An HS_HELLO opens a handshake and is answered with HS_DEVICE, or with HS_FAIL BUSY. -/
  | hsHello (e j cred nonce t : Nat)
  /-- R610: A complete HS_HOST is verified, the session keys derived, and HS_CONFIRM sent, or HS_FAIL DENIED. -/
  | hsHost (sid : Nat) (proof : Option Nat) (f : Frag) (t : Nat)
  /-- R628: HS_HOST not complete within 10 s ends the handshake and releases its slot. -/
  | handshakeTimeout (sid t : Nat)
  /-- R631: A REG_REQ executes its register operations in order and returns REG_RSP, or the kept response. -/
  | regReq (d : Dg) (reqId : Nat) (ops : List RegOp)
  /-- R639: A DP_DATA datagram opens or continues a burst and writes data, answered by DP_ACK. -/
  | dpData (d : Dg) (bsn idx : Nat) (start : Bool) (addr : Nat) (bs : List Nat)
  /-- R643: A DP_READ is answered with DP_RDATA datagrams in address order. -/
  | dpRead (d : Dg) (addr n : Nat)
  /-- R640: An open burst idle for HST_DP_IDLE_TIMEOUT is abandoned. -/
  | dpIdleTimeout (j t : Nat)
  /-- R641: A write of HST_DP_ADDR sets the check address, and is refused with BUSY while a burst is open. -/
  | hstDpAddrWrite (r : Requester) (lo : Word)
  /-- R171: A commit of the IMAGE region hands the staged image to staging checks. -/
  | dpCommitImage (r : Requester) (im : Image) (vddio : Nat)
  /-- R171: The inactive slot is erased, programmed and read back; the boot record is written and CFG_STAGE reads READY or
  REFUSED. -/
  | stageProgramDone (readOk : Bool)
  /-- R613: A commit of the KEY_IMPORT region checks and applies a meter key import batch. -/
  | dpCommitKeyImport (r : Requester) (opened : Option (List (Option Nat)))
  /-- R675: A commit of the METER_IMAGE region starts a meter firmware campaign, or is refused. -/
  | dpCommitMeterImage (r : Requester)
  /-- R679: A commit of the RECOMPUTE region submits a HOST-source recompute job. -/
  | dpCommitRecompute (r : Requester)
  /-- R671: A commit of the CARD region checks role and scope and hands a card message to Selvedge. -/
  | dpCommitCard (r : Requester)
  /-- R647: An EVT_ACK removes queued event records up to its QSEQ. -/
  | evtAck (d : Dg) (qseq : Nat)
  /-- R647: A SUBSCRIBE turns notifications for the session on or off. -/
  | subscribe (d : Dg) (on : Bool)
  /-- R629: A KEEPALIVE keeps the session from its idle timeout. -/
  | keepalive (d : Dg)
  /-- R629: A CLOSE ends the session. -/
  | close (d : Dg)
  /-- R629: SESS_IDLE without an accepted datagram ends the session. -/
  | sessionIdleTimeout (j k t : Nat)
  /-- R647: NOTIFY is sent to subscribed sessions when records are queued, and again every 1 s until they are acknowledged. -/
  | notifyTimer (j t : Nat)
  /-- R621: A write of HST_MDIO with BUSY = 1 starts an MDIO frame. -/
  | mdioStart (r : Requester) (v : Word)
  /-- R621: The MDIO frame completes, BUSY clears and the read data is stored. -/
  | mdioFrameDone (data : Nat)
  /-- R655: An enabled host port loses or regains link, raising HOST_LINK_DOWN or HOST_LINK_UP. -/
  | hostLinkChange (e : Nat) (up : Bool)
  /-- R619: An ARP, neighbour discovery or echo frame is answered in hardware. -/
  | hostArpNdEcho (e : Nat) (vlan : Option Nat)
  /-- R488: A GET of class LEGAL_TOTAL returns total objects in one Selvedge transaction. -/
  | getLegalTotal (o : ObjReq)
  /-- R664: A GET of class MAX_DEMAND returns maximum-demand records. -/
  | getMaxDemand (o : ObjReq)
  /-- R664: A GET of class LEGAL_BLOCK returns the channels' legal blocks with their status. -/
  | getLegalBlock (o : ObjReq)
  /-- R664: A GET of class WARP_RECORD returns the endpoint's 512-byte record. -/
  | getWarpRecord (o : ObjReq)
  /-- R668: A GET of class ARCHIVE returns the archived entries in a time range. -/
  | getArchive (o : ObjReq)
  /-- R668: A GET of class BALANCE returns the balance records of a node in a range. -/
  | getBalance (o : ObjReq)
  /-- R664: A GET of class DAY_RECORD returns the endpoint's day record. -/
  | getDayRecord (o : ObjReq)
  /-- R677: ACTION PROOF of class DAY_RECORD builds an inclusion proof into OUT. -/
  | proof (o : ObjReq)
  /-- R678: A GET of class SEAL returns the seal header and signature of a close. -/
  | getSeal (o : ObjReq)
  /-- R672: A GET of class CARD returns a card, or the partition's last card commit. -/
  | getCard (o : ObjReq)
  /-- R680: A GET of class RECOMPUTE_JOB returns the job state and per-channel sums. -/
  | getRecomputeJob (o : ObjReq)
  /-- R679: ACTION SUBMIT starts an ARCHIVE-source recompute job. -/
  | recomputeSubmit (o : ObjReq)
  /-- R679: ACTION CANCEL aborts the partition's recompute job. -/
  | recomputeCancel (o : ObjReq)
  /-- R681: ACTION ISSUE of class KEY_CERT signs a key certificate into OUT, after any waiting seal. -/
  | keyCertIssue (o : ObjReq)
  /-- R676: A GET of class FW_CAMPAIGN returns the campaign step and counts. -/
  | getFwCampaign (o : ObjReq)
  /-- R676: ACTION ACTIVATE schedules image activation at the given time. -/
  | fwCampaignActivate (o : ObjReq)
  /-- R676: ACTION ABORT ends the campaign after its action in progress. -/
  | fwCampaignAbort (o : ObjReq)
  /-- R682: ACTION READ_NOW queues a host read of an endpoint's load profile. -/
  | readNow (o : ObjReq)
  /-- R664: A GET of class NODE returns the node's NET state, home port and route. -/
  | getNode (o : ObjReq)
  /-- R690: Every 10 ms, each pair unit sends a HEARTBEAT on both lanes. -/
  | heartbeatSend (t : Nat)
  /-- R690: A valid heartbeat resets the miss count and updates the peer state; both units ACTIVE resolves a split. -/
  | heartbeatReceived (x : PairRx) (h : HeartBeat) (t : Nat)
  /-- R691: A heartbeat miss instant passes; the third makes the peer unheard. -/
  | heartbeatMiss (t : Nat)
  /-- R694: A 1 ms arbitration round on the claim bus reads the winning word, which drives the Heddle gates and claim
  faults. -/
  | claimRound (t : Nat) (word : Option Nat) (low : Bool)
  /-- R692: A HELLO frame starts the resynchronisation identity checks. -/
  | pairHello (x : PairRx) (eui unitSel idDigest : Nat)
  /-- R709: A RELINQUISH frame lets the standby claim after one absent round. -/
  | relinquishReceived (x : PairRx) (word : Nat)
  /-- R700: A MIRROR frame's legal records are re-checked and applied by the standby's Selvedge. -/
  | mirror (x : PairRx) (recs : List JRec) (romOk penOk : Bool)
  /-- R703: A KEYENT frame writes key table entries on the standby. -/
  | keyent (x : PairRx) (es : List (Nat × KeyEntry))
  /-- R675: A CAMPAIGN frame stores the meter-image campaign on the standby. -/
  | campaignFrame (x : PairRx) (c : Campaign)
  /-- R601: A KEY_REQ with the standby's transfer key and certificate is verified, and the PKWK is sent in KEY_XFER. -/
  | keyReq (x : PairRx) (certOk : Bool)
  /-- R602: A KEY_XFER is verified, and the standby adopts the PKWK and discards its own table. -/
  | keyXfer (x : PairRx) (k : Pkwk) (sigOk : Bool)
  /-- R706: A BULK_SLICE frame stages a legal slice for resynchronisation. -/
  | bulkSlice (x : PairRx) (i : Nat) (c : LegalSlice)
  /-- R706: BULK_DONE lets the standby load the staged slices, replay, checkpoint and become LIVE. -/
  | bulkDone (x : PairRx) (stamp : Nat)
  /-- R707: A RESYNC_REQ starts full resynchronisation on the active unit. -/
  | resyncReq (x : PairRx)
  /-- R687: An unacknowledged reliable frame is resent 1 ms after its last transmission. -/
  | pairRetransmit
  /-- R689: A lane without block lock for 1 ms moves all frames to the other lane. -/
  | pairLaneDown (l : Nat)
  /-- R715: PAR_CTRL.RESYNC on a standby requests full resynchronisation. -/
  | parResync (r : Requester)
  /-- R710: PAR_CTRL.RELINQUISH on the active unit sends RELINQUISH and goes to STANDBY. -/
  | parRelinquish (r : Requester)
  /-- R722: A parity error on a handshake channel repeats the message, and on the fourth failure fails the channel. -/
  | fabricParityError (c : Nat) (serves : Option (UnitKind × Nat)) (first : Bool)
  /-- R723: A detected SRAM parity error is handled by location and may fail the unit. -/
  | sramParityError (loc : SramLoc) (t : Nat)
  /-- R724: A single-bit DRAM error is corrected and written back. -/
  | dramCe (ch t : Nat)
  /-- R724: An uncorrectable DRAM error is handled by region. -/
  | dramUe (d : DramRegion)
  /-- R724: The patrol scrub reads every DRAM word once per 24 h. -/
  | patrolScrub
  /-- R719: A momentary FAULT event leaves the active table 1 s after it was raised. -/
  | faultHoldExpiry (t : Nat)
  /-- R732: A write of EVT_ACT_IDX snapshots an active event entry. -/
  | evtActIdxWrite (r : Requester) (v : Word)
  /-- R534: A write of JQD_CARD_IDX snapshots a card slot, subject to scope. -/
  | jqdCardIdxWrite (r : Requester) (v : Word)
  /-- R95: After a source switch the synthesisers relock within 50 us, ending the frozen HOLD state. -/
  | synthesiserRelock
  /-- R218: Reed detects a preamble, sets and holds GAIN and marks the medium busy. -/
  | plcPreambleDetected (p gain t : Nat)
  /-- R193: Reed detects the delimiter symbol and stamps the frame with the counter value. -/
  | plcDelimiterDetected (p t : Nat)
  /-- R243: The PHY header is decoded; a bad HCS, VER or LENGTH counts HDR_ERR and resumes preamble search, otherwise LENGTH
  sets the busy span. -/
  | plcHeaderDecoded (p hcs ver len zc t : Nat)
  /-- R243: Correlation is lost for 4 symbols before the frame's end, the frame is discarded as TRUNC and preamble search
  resumes. -/
  | plcCorrelationLost (p : Nat) (x : PlcLost)
  /-- R269: An RX_ERR interrupt from the transceiver is read and counted as HDR_ERR. -/
  | radioRxErr (p t : Nat)
  /-- R284: At S - U the long preamble or the first copy of a repeated-frame sequence to a sleepy endpoint starts. -/
  | sleepyCoverStart (p ep : Nat) (busy : Bool) (t : Nat)
  /-- R313: A reported link not refreshed within three times REPORT_H is dropped and may trigger a recompute. -/
  | reportedLinkDrop (t : Nat)
  /-- R517: The legal controller finishes the Merkle tree of a day close and sends the seal header to KEY for signing. -/
  | sealTreeBuilt
  /-- R584: The draining channel's valid units have all been moved; its mask bit clears and CH_EN reads 0. -/
  | nandChannelDrainDone (n : Nat)
  /-- R593: 1,024 consecutive entropy outputs pass, TRNG_FAIL ends and key generation resumes. -/
  | trngHealthPass
  /-- R613: A meter key import batch finishes its entries, KEY_IMP reads DONE, BATCH_NO is recorded and KEY_IMPORTED raised. -/
  | keyImportDone
  /-- R614: Beam completes the erase of the key table copy and PKWK objects, and ZEROISED is raised. -/
  | zeroiseEraseDone
  /-- R594: The IDS signature of a queued key certificate completes and the certificate is placed in OUT. -/
  | keyCertSigned
  /-- R689: A Pair Link lane regains block lock and PAIR_LANE_DOWN ends. -/
  | pairLaneUp (l : Nat)
  deriving DecidableEq, Repr

end Sys2Proof
end

