-- ==== Sys2Proof/Config.lean ====
section
/-!
DEFINITION. What the spec leaves open: constants without a body, so that no proof can rest on a value of theirs. Each is
named in the assumption log.
-/

namespace Sys2Proof.Config

/-- The `n`-th random draw of the part; every draw of the spec is this value modulo its range (R241, R273, R275).
(DESIGN CHOICE, log 5) -/
opaque freeNat : Nat → Nat

/-- SHAKE256 with 256-bit output over the given bytes (R154, R516, R517); the sponge itself is FIPS 202, outside the spec.
(DESIGN CHOICE, log 8) -/
opaque shake256 : List Nat → Nat

/-- KMAC256 of K over X, with L output bits and the customisation string S (R591); SP 800-185, outside the spec.
(DESIGN CHOICE, log 8) -/
opaque kmac256 : Nat → List Nat → Nat → List Nat → Nat

/-- The public key of the key pair of a type (KTYPE of R595) that a derived seed makes (R591); FIPS 203 and 205, outside the spec.
(DESIGN CHOICE, log 8) -/
opaque pubKey : Nat → Nat → List Nat

/-- An SLH-DSA signature by a key, under a context, of a message (R517, R594, R595); FIPS 205, outside the spec.
(DESIGN CHOICE, log 8) -/
opaque sign : Nat → List Nat → List Nat → Nat

/-- Entropy drawn by the Key Store (R593), by number of the draw. (DESIGN CHOICE, log 8) -/
opaque entropy : Nat → Nat

/-- The lower 32 bits of the SHA digest over the mask ROM (SLV_ROM_DIG, R532), fixed per chip revision and not given.
(DESIGN CHOICE, log 8) -/
opaque romDigest : Nat

/-- T_s(p) of IAPWS-IF97 region 4 for a pressure in Pa, in nK rounded up; the coefficients are not in the spec (R463).
(DESIGN CHOICE, log 9) -/
opaque tSat : Int → Int

/-- p_s(T) of IAPWS-IF97 region 4 for a temperature in nK, in uPa rounded down (R465). (DESIGN CHOICE, log 9) -/
opaque pSat : Int → Int

/-- p_B23(T) of IAPWS-IF97 for a temperature in nK, in uPa rounded down (R465). (DESIGN CHOICE, log 9) -/
opaque pB23 : Int → Int

/-- The IF97 region of a point given by pressure in Pa and specific enthalpy in J/kg: 1, 2 or another (R464).
(DESIGN CHOICE, log 9) -/
opaque regionPh : Int → Int → Nat

/-- T(p, h) in nK (R464). (DESIGN CHOICE, log 9) -/
opaque tPh : Int → Int → Int

/-- The region 3 iteration meets its stopping test for a pressure in Pa and a temperature in nK (R463). (DESIGN CHOICE, log 9) -/
opaque region3Converges : Int → Int → Bool

/-- p_s(T) of IAPWS-IF97 region 4 in Pa as a binary64 pattern, as PEN evaluates it for the humidity term of R468, for a temperature in
nK. (DESIGN CHOICE, log 9) -/
opaque pSatF : Int → Nat

/-- The specific volume in m3/kg as a binary64 pattern (R463, R467): on the vapour side of saturation, region, pressure in Pa,
temperature in nK. (DESIGN CHOICE, log 9) -/
opaque ifV : Bool → Nat → Int → Int → Nat

/-- The specific enthalpy in J/kg as a binary64 pattern (R463, R467), of the same point. (DESIGN CHOICE, log 9) -/
opaque ifH : Bool → Nat → Int → Int → Nat

/-- The units in the last place by which F differs from the rounded fraction of R467 or R468, since the fixed order of operations stands
in the mask ROM alone (R461): CTYPE, parameters (FLAGS, H_REF, region, saturated vapour, ZSET coefficients), and the point: pressure
in Pa, temperature in nK, third measurand. (DESIGN CHOICE, log 9) -/
opaque penUlp : Nat → List Int → Int → Int → Int → Int

/-- The magnitude of G_i of R469, the derivative of ln F to measurand i, as a binary64 pattern: i, CTYPE, parameters, and the point.
(DESIGN CHOICE, log 9) -/
opaque penG : Nat → Nat → List Int → Int → Int → Int → Nat

/-- The length in bytes of a ciphered DLMS APDU, by a list of numbers that says which APDU it is; DLMS encodings are outside
the spec (R347). (DESIGN CHOICE, log 10) -/
opaque apduLen : List Nat → Nat

/-- The length in bytes of the legal journal record with a JSEQ, from 32 on; the body encodings of R513 are not given.
(DESIGN CHOICE, log 10) -/
opaque recLen : Nat → Nat

/-- Byte `i` of the ciphered APDU sent under an invocation counter, by the list that says which APDU it is: AES-GCM over DLMS
encodings, both outside the spec (R347, R349). (DESIGN CHOICE, log 10) -/
opaque apduByte : List Nat → Nat → Nat → Nat

/-- Sample `k` of a PLC symbol in units of full scale / 2^11 (R220): band plan F or A, up- or down-chirp, shift, TX_LEVEL. The
starting phase, the taper's sampling and the rounding are not in the spec. (DESIGN CHOICE, log 146) -/
opaque chirp : Bool → Bool → Nat → Nat → Nat → Int

/-- The byte that memory holds where nothing has written it since the start, by space (0 DRAM, 1 + c the TCM of core c, 33 + c the
SRAM of cluster c) and offset: firmware and data that the model has no bytes of, or power-on content (R407).
(DESIGN CHOICE, log 145) -/
opaque memByte : Nat → Nat → Nat

/-- The region of DRAM that byte offset `a` belongs to, as R159 placed it (R34, R417, R536, R562, R603, R705, R724): 1 legal
register region, 2 legal working region, 3 Warp, 4 process balance, 5 map of the archive, 6 key table, 7 image copy, 8 backlog ring
of the pair, any other value none of these. The spec gives no addresses. (DESIGN CHOICE, log 145) -/
opaque dramRegion : Nat → Nat

end Sys2Proof.Config
end

