-- ==== Sys2Proof/Machine/RegMap.lean ====
section
/-!
DEFINITION. The register map: every register the spec defines, with its S-view address (or first address, stride and
count), the word it is of a value wider than 32 bits, whether it exists only in the P-view, its reset value and the bits
that a write through the P-view and through the S-view sets (the register tables of the chapters; R12, R13).
-/

namespace Sys2Proof.Machine

/-- One register, or one row of registers at a fixed stride. -/
structure RegDesc where
  /-- S-view address of the first register. -/
  base : Nat
  stride : Nat
  count : Nat
  /-- Which 32-bit word of a wide value this is (R10); 0 is the lowest-order word. -/
  pos : Nat
  /-- How many words the wide value has; 1 for a plain register. -/
  len : Nat
  /-- The register exists only in the P-view (R14). -/
  pOnly : Bool
  /-- Reset value (R6). -/
  reset : Nat
  /-- Bits a write through the P-view sets (R13). -/
  wp : Nat
  /-- Bits a write through the S-view sets (R13). -/
  ws : Nat
  deriving DecidableEq, Repr

/-! Register addresses, by the spec's names. -/

/-- GLB_STRAP (R60). -/
def R.GLB_STRAP : Nat := 0x000040
/-- GLB_PINSTAT (R61). -/
def R.GLB_PINSTAT : Nat := 0x000044
/-- GLB_UNIT_CORE (R147). -/
def R.GLB_UNIT_CORE : Nat := 0x000050
/-- GLB_UNIT_PORT_LO (R147). -/
def R.GLB_UNIT_PORT_LO : Nat := 0x000054
/-- GLB_UNIT_PORT_HI (R147). -/
def R.GLB_UNIT_PORT_HI : Nat := 0x000058
/-- GLB_UNIT_MISC (R147). -/
def R.GLB_UNIT_MISC : Nat := 0x00005C
/-- CKV_ISL_EN (R102). -/
def R.CKV_ISL_EN : Nat := 0x010000
/-- CKV_ISL_BUSY (R103). -/
def R.CKV_ISL_BUSY : Nat := 0x010004
/-- CKV_SRC (R101). -/
def R.CKV_SRC : Nat := 0x010010
/-- CKV_RAIL_HI (R120). -/
def R.CKV_RAIL_HI : Nat := 0x010020
/-- CKV_RAIL_LO (R120). -/
def R.CKV_RAIL_LO : Nat := 0x010024
/-- CKV_STEP_i (R113). -/
def R.CKV_STEP_i : Nat := 0x01010C
/-- CKV_STEP_i (R113). -/
def R.CKV_STEP_i_2 : Nat := 0x010140
/-- CKV_STEP_i (R113). -/
def R.CKV_STEP_i_3 : Nat := 0x010150
/-- CKV_VISL_i (R121). -/
def R.CKV_VISL_i : Nat := 0x010204
/-- TMP_CTRL (R137). -/
def R.TMP_CTRL : Nat := 0x020000
/-- TMP_STAT (R137). -/
def R.TMP_STAT : Nat := 0x020004
/-- TMP_HOURS (R137). -/
def R.TMP_HOURS : Nat := 0x020008
/-- TMP_FIRST[0] (R137). -/
def R.TMP_FIRST_0 : Nat := 0x020010
/-- TMP_FIRST[1] (R137). -/
def R.TMP_FIRST_1 : Nat := 0x020014
/-- TMP_FIRST[2] (R137). -/
def R.TMP_FIRST_2 : Nat := 0x020018
/-- TMP_MARGIN_i (R137). -/
def R.TMP_MARGIN_i : Nat := 0x020100
/-- TMP_PROJ_i[0] (R137). -/
def R.TMP_PROJ_i_0 : Nat := 0x020104
/-- TMP_PROJ_i[1] (R137). -/
def R.TMP_PROJ_i_1 : Nat := 0x020108
/-- TMP_PROJ_i[2] (R137). -/
def R.TMP_PROJ_i_2 : Nat := 0x02010C
/-- CFG_STATE (R173). -/
def R.CFG_STATE : Nat := 0x030000
/-- CFG_FAIL (R173). -/
def R.CFG_FAIL : Nat := 0x030004
/-- CFG_SLOT (R173). -/
def R.CFG_SLOT : Nat := 0x030008
/-- CFG_SEQ[0] (R173). -/
def R.CFG_SEQ_0 : Nat := 0x030010
/-- CFG_SEQ[1] (R173). -/
def R.CFG_SEQ_1 : Nat := 0x030014
/-- CFG_START_MS (R173). -/
def R.CFG_START_MS : Nat := 0x030018
/-- CFG_STAGE (R173). -/
def R.CFG_STAGE : Nat := 0x030020
/-- CFG_CTRL (R173). -/
def R.CFG_CTRL : Nat := 0x030030
/-- TIM_CNT[0] (R209). -/
def R.TIM_CNT_0 : Nat := 0x040000
/-- TIM_CNT[1] (R209). -/
def R.TIM_CNT_1 : Nat := 0x040004
/-- TIM_CTRL (R209). -/
def R.TIM_CTRL : Nat := 0x040010
/-- TIM_STAT (R209). -/
def R.TIM_STAT : Nat := 0x040014
/-- TIM_NOW[0] (R209). -/
def R.TIM_NOW_0 : Nat := 0x040020
/-- TIM_NOW[1] (R209). -/
def R.TIM_NOW_1 : Nat := 0x040024
/-- TIM_NOW[2] (R209). -/
def R.TIM_NOW_2 : Nat := 0x040028
/-- TIM_CONT[0] (R209). -/
def R.TIM_CONT_0 : Nat := 0x040030
/-- TIM_CONT[1] (R209). -/
def R.TIM_CONT_1 : Nat := 0x040034
/-- TIM_A_OFS[0] (R210). -/
def R.TIM_A_OFS_0 : Nat := 0x040100
/-- TIM_A_OFS[1] (R210). -/
def R.TIM_A_OFS_1 : Nat := 0x040104
/-- TIM_A_OFS[2] (R210). -/
def R.TIM_A_OFS_2 : Nat := 0x040108
/-- TIM_A_OFS[3] (R210). -/
def R.TIM_A_OFS_3 : Nat := 0x04010C
/-- TIM_A_RATE[0] (R210). -/
def R.TIM_A_RATE_0 : Nat := 0x040110
/-- TIM_A_RATE[1] (R210). -/
def R.TIM_A_RATE_1 : Nat := 0x040114
/-- TIM_A_CFG (R210). -/
def R.TIM_A_CFG : Nat := 0x040120
/-- TIM_A_STAT (R210). -/
def R.TIM_A_STAT : Nat := 0x040124
/-- TIM_A_LAST (R210). -/
def R.TIM_A_LAST : Nat := 0x040128
/-- TIM_A_LIM (R210). -/
def R.TIM_A_LIM : Nat := 0x04012C
/-- TIM_A_NOW[0] (R210). -/
def R.TIM_A_NOW_0 : Nat := 0x040130
/-- TIM_A_NOW[1] (R210). -/
def R.TIM_A_NOW_1 : Nat := 0x040134
/-- TIM_A_NOW[2] (R210). -/
def R.TIM_A_NOW_2 : Nat := 0x040138
/-- TIM_B_OFS[0] (R210). -/
def R.TIM_B_OFS_0 : Nat := 0x040200
/-- TIM_B_OFS[1] (R210). -/
def R.TIM_B_OFS_1 : Nat := 0x040204
/-- TIM_B_OFS[2] (R210). -/
def R.TIM_B_OFS_2 : Nat := 0x040208
/-- TIM_B_OFS[3] (R210). -/
def R.TIM_B_OFS_3 : Nat := 0x04020C
/-- TIM_B_RATE[0] (R210). -/
def R.TIM_B_RATE_0 : Nat := 0x040210
/-- TIM_B_RATE[1] (R210). -/
def R.TIM_B_RATE_1 : Nat := 0x040214
/-- TIM_B_CFG (R210). -/
def R.TIM_B_CFG : Nat := 0x040220
/-- TIM_B_STAT (R210). -/
def R.TIM_B_STAT : Nat := 0x040224
/-- TIM_B_LAST (R210). -/
def R.TIM_B_LAST : Nat := 0x040228
/-- TIM_B_LIM (R210). -/
def R.TIM_B_LIM : Nat := 0x04022C
/-- TIM_B_NOW[0] (R210). -/
def R.TIM_B_NOW_0 : Nat := 0x040230
/-- TIM_B_NOW[1] (R210). -/
def R.TIM_B_NOW_1 : Nat := 0x040234
/-- TIM_B_NOW[2] (R210). -/
def R.TIM_B_NOW_2 : Nat := 0x040238
/-- TIM_E_LAT_e.TX (R211). -/
def R.TIM_E_LAT_e_TX : Nat := 0x040300
/-- TIM_E_LAT_e.RX (R211). -/
def R.TIM_E_LAT_e_RX : Nat := 0x040304
/-- TIM_FP_LAT_p (R211). -/
def R.TIM_FP_LAT_p : Nat := 0x040400
/-- TIM_ZC_g (R211). -/
def R.TIM_ZC_g : Nat := 0x040600
/-- TIM_ZC_g+4 (R211). -/
def R.TIM_ZC_g_4 : Nat := 0x040604
/-- SHT_CTRL (R414). -/
def R.SHT_CTRL : Nat := 0x050000
/-- SHT_CORE_EN (R414). -/
def R.SHT_CORE_EN : Nat := 0x050004
/-- SHT_CORE_WAIT (R414). -/
def R.SHT_CORE_WAIT : Nat := 0x050008
/-- SHT_CORE_HOLD (R414). -/
def R.SHT_CORE_HOLD : Nat := 0x05000C
/-- SHT_POOL (R414). -/
def R.SHT_POOL : Nat := 0x050010
/-- SHT_POOL_LOW (R414). -/
def R.SHT_POOL_LOW : Nat := 0x050014
/-- SHT_WD (R414). -/
def R.SHT_WD : Nat := 0x050018
/-- SHT_TICK_k (R414). -/
def R.SHT_TICK_k : Nat := 0x050020
/-- SHT_CNT_k (R414). -/
def R.SHT_CNT_k : Nat := 0x050080
/-- SHT_RLEN_q (R414). -/
def R.SHT_RLEN_q : Nat := 0x050100
/-- SHT_DLEN_k (R414). -/
def R.SHT_DLEN_k : Nat := 0x050180
/-- SHT_SPILL_q (R414). -/
def R.SHT_SPILL_q : Nat := 0x050200
/-- SHT_SRC_s+0 (R414). -/
def R.SHT_SRC_s_0 : Nat := 0x050400
/-- SHT_SRC_s+4 (R414). -/
def R.SHT_SRC_s_4 : Nat := 0x050404
/-- SHT_SRC_s+8 (R414). -/
def R.SHT_SRC_s_8 : Nat := 0x050408
/-- SHT_SRC_s+12 (R414). -/
def R.SHT_SRC_s_12 : Nat := 0x05040C
/-- RPT_p_CTRL (R251). -/
def R.RPT_p_CTRL : Nat := 0x060000
/-- RPT_p_PLC_CFG (R252). -/
def R.RPT_p_PLC_CFG : Nat := 0x060100
/-- RPT_p_PLC_STAT (R253). -/
def R.RPT_p_PLC_STAT : Nat := 0x060104
/-- RPT_p_PLC_CNT_0 (R254). -/
def R.RPT_p_PLC_CNT_0 : Nat := 0x060120
/-- RPT_p_PLC_CNT_1 (R254). -/
def R.RPT_p_PLC_CNT_1 : Nat := 0x060124
/-- RPT_p_PLC_CNT_2 (R254). -/
def R.RPT_p_PLC_CNT_2 : Nat := 0x060128
/-- RPT_p_PLC_CNT_3 (R254). -/
def R.RPT_p_PLC_CNT_3 : Nat := 0x06012C
/-- RPT_p_PLC_CNT_4 (R254). -/
def R.RPT_p_PLC_CNT_4 : Nat := 0x060130
/-- RPT_p_PLC_CNT_5 (R254). -/
def R.RPT_p_PLC_CNT_5 : Nat := 0x060134
/-- RPT_p_PLC_CNT_6 (R254). -/
def R.RPT_p_PLC_CNT_6 : Nat := 0x060138
/-- RPT_p_PLC_CNT_7 (R254). -/
def R.RPT_p_PLC_CNT_7 : Nat := 0x06013C
/-- RPT_p_PLC_CNT_8 (R254). -/
def R.RPT_p_PLC_CNT_8 : Nat := 0x060140
/-- RPT_p_PLC_CNT_9 (R254). -/
def R.RPT_p_PLC_CNT_9 : Nat := 0x060144
/-- RPT_p_RAD_CFG (R298). -/
def R.RPT_p_RAD_CFG : Nat := 0x060200
/-- RPT_p_RAD_TIM (R299). -/
def R.RPT_p_RAD_TIM : Nat := 0x060204
/-- RPT_p_RAD_LBT (R300). -/
def R.RPT_p_RAD_LBT : Nat := 0x060208
/-- RPT_p_RAD_HOP (R301). -/
def R.RPT_p_RAD_HOP : Nat := 0x06020C
/-- RPT_p_RAD_CHMAP[0] (R302). -/
def R.RPT_p_RAD_CHMAP_0 : Nat := 0x060210
/-- RPT_p_RAD_CHMAP[1] (R302). -/
def R.RPT_p_RAD_CHMAP_1 : Nat := 0x060214
/-- RPT_p_RAD_STAT (R303). -/
def R.RPT_p_RAD_STAT : Nat := 0x060218
/-- RPT_p_RAD_CNT_0 (R304). -/
def R.RPT_p_RAD_CNT_0 : Nat := 0x060220
/-- RPT_p_RAD_CNT_1 (R304). -/
def R.RPT_p_RAD_CNT_1 : Nat := 0x060224
/-- RPT_p_RAD_CNT_2 (R304). -/
def R.RPT_p_RAD_CNT_2 : Nat := 0x060228
/-- RPT_p_RAD_CNT_3 (R304). -/
def R.RPT_p_RAD_CNT_3 : Nat := 0x06022C
/-- RPT_p_RAD_CNT_4 (R304). -/
def R.RPT_p_RAD_CNT_4 : Nat := 0x060230
/-- RPT_p_RAD_CNT_5 (R304). -/
def R.RPT_p_RAD_CNT_5 : Nat := 0x060234
/-- RPT_p_RAD_CNT_6 (R304). -/
def R.RPT_p_RAD_CNT_6 : Nat := 0x060238
/-- RPT_p_RAD_CNT_7 (R304). -/
def R.RPT_p_RAD_CNT_7 : Nat := 0x06023C
/-- RPT_p_RAD_CNT_8 (R304). -/
def R.RPT_p_RAD_CNT_8 : Nat := 0x060240
/-- RPT_p_RAD_CNT_9 (R304). -/
def R.RPT_p_RAD_CNT_9 : Nat := 0x060244
/-- RPT_p_RAD_CNT_10 (R304). -/
def R.RPT_p_RAD_CNT_10 : Nat := 0x060248
/-- RPT_p_RAD_CNT_11 (R304). -/
def R.RPT_p_RAD_CNT_11 : Nat := 0x06024C
/-- RPT_p_RAD_CNT_12 (R304). -/
def R.RPT_p_RAD_CNT_12 : Nat := 0x060250
/-- RPT_p_RAD_CNT_13 (R304). -/
def R.RPT_p_RAD_CNT_13 : Nat := 0x060254
/-- RPT_p_RAD_CNT_14 (R304). -/
def R.RPT_p_RAD_CNT_14 : Nat := 0x060258
/-- RPT_p_RAD_CNT_15 (R304). -/
def R.RPT_p_RAD_CNT_15 : Nat := 0x06025C
/-- NET_CTRL (R342). -/
def R.NET_CTRL : Nat := 0x080000
/-- NET_CFG (R342). -/
def R.NET_CFG : Nat := 0x080004
/-- NET_COST (R342). -/
def R.NET_COST : Nat := 0x080008
/-- NET_TIME (R342). -/
def R.NET_TIME : Nat := 0x08000C
/-- NET_REPORT (R342). -/
def R.NET_REPORT : Nat := 0x080010
/-- NET_STAT (R342). -/
def R.NET_STAT : Nat := 0x080014
/-- NET_UNREACH (R342). -/
def R.NET_UNREACH : Nat := 0x080018
/-- NET_NBR_IDX (R342). -/
def R.NET_NBR_IDX : Nat := 0x080020
/-- NET_NBR_DATA_k (R342). -/
def R.NET_NBR_DATA_k : Nat := 0x080040
/-- NET_CNT_k (R342). -/
def R.NET_CNT_k : Nat := 0x080080
/-- NET_CELL_p (R342). -/
def R.NET_CELL_p : Nat := 0x080100
/-- MSN_CTRL (R375). -/
def R.MSN_CTRL : Nat := 0x090000
/-- MSN_CFG (R375). -/
def R.MSN_CFG : Nat := 0x090004
/-- MSN_SCHED (R375). -/
def R.MSN_SCHED : Nat := 0x090008
/-- MSN_FW (R375). -/
def R.MSN_FW : Nat := 0x09000C
/-- MSN_STAT (R375). -/
def R.MSN_STAT : Nat := 0x090010
/-- MSN_CNT_k (R375). -/
def R.MSN_CNT_k : Nat := 0x090080
/-- WRP_CTRL (R454). -/
def R.WRP_CTRL : Nat := 0x0A0000
/-- WRP_CFG (R454). -/
def R.WRP_CFG : Nat := 0x0A0004
/-- WRP_CFG2 (R454). -/
def R.WRP_CFG2 : Nat := 0x0A0008
/-- WRP_STAT (R454). -/
def R.WRP_STAT : Nat := 0x0A0010
/-- WRP_HELD (R454). -/
def R.WRP_HELD : Nat := 0x0A0014
/-- WRP_CKPT (R454). -/
def R.WRP_CKPT : Nat := 0x0A0018
/-- WRP_OUTAGE_FROM[0] (R454). -/
def R.WRP_OUTAGE_FROM_0 : Nat := 0x0A0020
/-- WRP_OUTAGE_FROM[1] (R454). -/
def R.WRP_OUTAGE_FROM_1 : Nat := 0x0A0024
/-- WRP_OUTAGE_FROM[2] (R454). -/
def R.WRP_OUTAGE_FROM_2 : Nat := 0x0A0028
/-- WRP_OUTAGE_TO[0] (R454). -/
def R.WRP_OUTAGE_TO_0 : Nat := 0x0A0030
/-- WRP_OUTAGE_TO[1] (R454). -/
def R.WRP_OUTAGE_TO_1 : Nat := 0x0A0034
/-- WRP_OUTAGE_TO[2] (R454). -/
def R.WRP_OUTAGE_TO_2 : Nat := 0x0A0038
/-- WRP_CMD (R454). -/
def R.WRP_CMD : Nat := 0x0A0040
/-- WRP_CMD_RIDX (R454). -/
def R.WRP_CMD_RIDX : Nat := 0x0A0044
/-- WRP_CMD_TOT[0] (R454). -/
def R.WRP_CMD_TOT_0 : Nat := 0x0A0048
/-- WRP_CMD_TOT[1] (R454). -/
def R.WRP_CMD_TOT_1 : Nat := 0x0A004C
/-- WRP_CMD_TOTR[0] (R454). -/
def R.WRP_CMD_TOTR_0 : Nat := 0x0A0050
/-- WRP_CMD_TOTR[1] (R454). -/
def R.WRP_CMD_TOTR_1 : Nat := 0x0A0054
/-- WRP_CMD_STAT (R454). -/
def R.WRP_CMD_STAT : Nat := 0x0A0058
/-- WRP_REC_IDX (R454). -/
def R.WRP_REC_IDX : Nat := 0x0A0080
/-- WRP_CNT_k (R455). -/
def R.WRP_CNT_k : Nat := 0x0A0100
/-- WRP_REC_DATA_w (R454). -/
def R.WRP_REC_DATA_w : Nat := 0x0A0200
/-- PEN_ID (R483). -/
def R.PEN_ID : Nat := 0x0B0000
/-- PEN_CTRL (R483). -/
def R.PEN_CTRL : Nat := 0x0B0004
/-- PEN_STAT (R483). -/
def R.PEN_STAT : Nat := 0x0B0008
/-- PEN_CNT_k (R483). -/
def R.PEN_CNT_k : Nat := 0x0B0080
/-- PEN_JOB+0 (R483). -/
def R.PEN_JOB_0 : Nat := 0x0B0100
/-- PEN_JOB.REC[0] (R483). -/
def R.PEN_JOB_REC_0 : Nat := 0x0B0104
/-- PEN_JOB.REC[1] (R483). -/
def R.PEN_JOB_REC_1 : Nat := 0x0B0108
/-- PEN_JOB+0x0C (R483). -/
def R.PEN_JOB_0x0C : Nat := 0x0B010C
/-- PEN_JOB+0x10 (R483). -/
def R.PEN_JOB_0x10 : Nat := 0x0B0110
/-- PEN_JOB+0x14 (R483). -/
def R.PEN_JOB_0x14 : Nat := 0x0B0114
/-- PEN_JOB_j+0 (R483). -/
def R.PEN_JOB_j_0 : Nat := 0x0B0200
/-- PEN_JOB_j.REC[0] (R483). -/
def R.PEN_JOB_j_REC_0 : Nat := 0x0B0204
/-- PEN_JOB_j.REC[1] (R483). -/
def R.PEN_JOB_j_REC_1 : Nat := 0x0B0208
/-- PEN_JOB_j+0x0C (R483). -/
def R.PEN_JOB_j_0x0C : Nat := 0x0B020C
/-- PEN_JOB_j+0x10 (R483). -/
def R.PEN_JOB_j_0x10 : Nat := 0x0B0210
/-- PEN_JOB_j+0x14 (R483). -/
def R.PEN_JOB_j_0x14 : Nat := 0x0B0214
/-- SLV_ID (R532). -/
def R.SLV_ID : Nat := 0x0C0000
/-- SLV_ROM_DIG (R532). -/
def R.SLV_ROM_DIG : Nat := 0x0C0004
/-- SLV_HOLD (R532). -/
def R.SLV_HOLD : Nat := 0x0C0010
/-- SLV_SEAL (R532). -/
def R.SLV_SEAL : Nat := 0x0C0014
/-- SLV_CFG (R532). -/
def R.SLV_CFG : Nat := 0x0C0018
/-- SLV_JSEQ[0] (R532). -/
def R.SLV_JSEQ_0 : Nat := 0x0C0020
/-- SLV_JSEQ[1] (R532). -/
def R.SLV_JSEQ_1 : Nat := 0x0C0024
/-- SLV_DJSEQ[0] (R532). -/
def R.SLV_DJSEQ_0 : Nat := 0x0C0028
/-- SLV_DJSEQ[1] (R532). -/
def R.SLV_DJSEQ_1 : Nat := 0x0C002C
/-- SLV_OUT (R532). -/
def R.SLV_OUT : Nat := 0x0C0030
/-- SLV_OUT_OWED_n (R532). -/
def R.SLV_OUT_OWED_n : Nat := 0x0C0040
/-- SLV_SEAL_LAST[0] (R532). -/
def R.SLV_SEAL_LAST_0 : Nat := 0x0C0060
/-- SLV_SEAL_LAST[1] (R532). -/
def R.SLV_SEAL_LAST_1 : Nat := 0x0C0064
/-- SLV_SEAL_LAST[2] (R532). -/
def R.SLV_SEAL_LAST_2 : Nat := 0x0C0068
/-- SLV_CNT_k (R533). -/
def R.SLV_CNT_k : Nat := 0x0C0080
/-- SLV_LT[0] (R212). -/
def R.SLV_LT_0 : Nat := 0x0C0100
/-- SLV_LT[1] (R212). -/
def R.SLV_LT_1 : Nat := 0x0C0104
/-- SLV_LT[2] (R212). -/
def R.SLV_LT_2 : Nat := 0x0C0108
/-- SLV_LT_STAT (R212). -/
def R.SLV_LT_STAT : Nat := 0x0C010C
/-- SLV_LT_HSEQ (R212). -/
def R.SLV_LT_HSEQ : Nat := 0x0C0110
/-- JQD_STORE (R534). -/
def R.JQD_STORE : Nat := 0x0D0000
/-- JQD_CARD_IDX (R534). -/
def R.JQD_CARD_IDX : Nat := 0x0D0010
/-- JQD_CARD_INFO (R534). -/
def R.JQD_CARD_INFO : Nat := 0x0D0014
/-- JQD_CARD_ID (R534). -/
def R.JQD_CARD_ID : Nat := 0x0D0018
/-- JQD_CARD_ACT[0] (R534). -/
def R.JQD_CARD_ACT_0 : Nat := 0x0D0020
/-- JQD_CARD_ACT[1] (R534). -/
def R.JQD_CARD_ACT_1 : Nat := 0x0D0024
/-- JQD_CARD_ACT[2] (R534). -/
def R.JQD_CARD_ACT_2 : Nat := 0x0D0028
/-- BAL_CTRL (R553). -/
def R.BAL_CTRL : Nat := 0x0E0000
/-- BAL_CFG (R553). -/
def R.BAL_CFG : Nat := 0x0E0004
/-- BAL_STAT (R553). -/
def R.BAL_STAT : Nat := 0x0E0008
/-- BAL_CMD (R553). -/
def R.BAL_CMD : Nat := 0x0E0010
/-- BAL_ALARM (R553). -/
def R.BAL_ALARM : Nat := 0x0E0014
/-- BAL_THEFT (R553). -/
def R.BAL_THEFT : Nat := 0x0E0018
/-- BAL_NODE_IDX (R553). -/
def R.BAL_NODE_IDX : Nat := 0x0E0020
/-- BAL_CNT_k (R553). -/
def R.BAL_CNT_k : Nat := 0x0E0080
/-- BAL_NODE_DATA_w (R553). -/
def R.BAL_NODE_DATA_w : Nat := 0x0E0100
/-- BEM_CTRL (R586). -/
def R.BEM_CTRL : Nat := 0x0F0000
/-- BEM_CMD (R586). -/
def R.BEM_CMD : Nat := 0x0F0004
/-- BEM_CMD_FROM (R586). -/
def R.BEM_CMD_FROM : Nat := 0x0F0008
/-- BEM_CMD_TO (R586). -/
def R.BEM_CMD_TO : Nat := 0x0F000C
/-- BEM_STAT (R586). -/
def R.BEM_STAT : Nat := 0x0F0010
/-- BEM_LIFE (R586). -/
def R.BEM_LIFE : Nat := 0x0F0014
/-- BEM_SPARE (R586). -/
def R.BEM_SPARE : Nat := 0x0F0018
/-- BEM_CACHE (R586). -/
def R.BEM_CACHE : Nat := 0x0F001C
/-- BEM_CAP (R586). -/
def R.BEM_CAP : Nat := 0x0F0020
/-- BEM_FREE (R586). -/
def R.BEM_FREE : Nat := 0x0F0024
/-- BEM_RET (R586). -/
def R.BEM_RET : Nat := 0x0F0030
/-- BEM_RET2 (R586). -/
def R.BEM_RET2 : Nat := 0x0F0034
/-- BEM_FLUSH (R586). -/
def R.BEM_FLUSH : Nat := 0x0F0040
/-- BEM_CFG (R586). -/
def R.BEM_CFG : Nat := 0x0F0044
/-- BEM_CNT_k (R587). -/
def R.BEM_CNT_k : Nat := 0x0F0080
/-- BEM_CH_n+0x0 (R588). -/
def R.BEM_CH_n_0x0 : Nat := 0x0F0100
/-- BEM_CH_n+0x4 (R588). -/
def R.BEM_CH_n_0x4 : Nat := 0x0F0104
/-- BEM_CH_n+0x8 (R588). -/
def R.BEM_CH_n_0x8 : Nat := 0x0F0108
/-- KEY_STAT (R616). -/
def R.KEY_STAT : Nat := 0x100000
/-- KEY_PGEN (R616). -/
def R.KEY_PGEN : Nat := 0x100004
/-- KEY_LANE_EN (R616). -/
def R.KEY_LANE_EN : Nat := 0x100008
/-- KEY_LANE_STAT (R616). -/
def R.KEY_LANE_STAT : Nat := 0x10000C
/-- KEY_ZERO (R616). -/
def R.KEY_ZERO : Nat := 0x100010
/-- KEY_IMP (R616). -/
def R.KEY_IMP : Nat := 0x100014
/-- KEY_IMP_CNT (R616). -/
def R.KEY_IMP_CNT : Nat := 0x100018
/-- KEY_IDS_DIG_w (R616). -/
def R.KEY_IDS_DIG_w : Nat := 0x100020
/-- KEY_IDF_DIG_w (R616). -/
def R.KEY_IDF_DIG_w : Nat := 0x100040
/-- KEY_CNT_k (R616). -/
def R.KEY_CNT_k : Nat := 0x100080
/-- HST_CFG (R651). -/
def R.HST_CFG : Nat := 0x110000
/-- HST_PORT_e (R651). -/
def R.HST_PORT_e : Nat := 0x110010
/-- HST_PART (R651). -/
def R.HST_PART : Nat := 0x110020
/-- HST_PART_j (R651). -/
def R.HST_PART_j : Nat := 0x110040
/-- HST_DP_ADDR[0] (R652). -/
def R.HST_DP_ADDR_0 : Nat := 0x110100
/-- HST_DP_ADDR[1] (R652). -/
def R.HST_DP_ADDR_1 : Nat := 0x110104
/-- HST_DP_IDLE_TIMEOUT (R652). -/
def R.HST_DP_IDLE_TIMEOUT : Nat := 0x110108
/-- HST_DP_COMMIT_LEN (R652). -/
def R.HST_DP_COMMIT_LEN : Nat := 0x11010C
/-- HST_DP_COMMIT (R652). -/
def R.HST_DP_COMMIT : Nat := 0x110110
/-- HST_DP_STAT (R652). -/
def R.HST_DP_STAT : Nat := 0x110114
/-- HST_DP_BSN (R652). -/
def R.HST_DP_BSN : Nat := 0x110118
/-- HST_DP_EXPECT (R652). -/
def R.HST_DP_EXPECT : Nat := 0x11011C
/-- HST_EVQ (R652). -/
def R.HST_EVQ : Nat := 0x110120
/-- HST_EVQ_NEXT (R652). -/
def R.HST_EVQ_NEXT : Nat := 0x110124
/-- HST_CNT_k (R653). -/
def R.HST_CNT_k : Nat := 0x110180
/-- HST_MDIO (R651). -/
def R.HST_MDIO : Nat := 0x110200
/-- PAR_CTRL (R715). -/
def R.PAR_CTRL : Nat := 0x120000
/-- PAR_CFG (R715). -/
def R.PAR_CFG : Nat := 0x120004
/-- PAR_STAT (R715). -/
def R.PAR_STAT : Nat := 0x120008
/-- PAR_CLAIM (R715). -/
def R.PAR_CLAIM : Nat := 0x120010
/-- PAR_WIRE (R715). -/
def R.PAR_WIRE : Nat := 0x120014
/-- PAR_EPOCH (R715). -/
def R.PAR_EPOCH : Nat := 0x120018
/-- PAR_MJSEQ[0] (R715). -/
def R.PAR_MJSEQ_0 : Nat := 0x120020
/-- PAR_MJSEQ[1] (R715). -/
def R.PAR_MJSEQ_1 : Nat := 0x120024
/-- PAR_MACK[0] (R715). -/
def R.PAR_MACK_0 : Nat := 0x120028
/-- PAR_MACK[1] (R715). -/
def R.PAR_MACK_1 : Nat := 0x12002C
/-- PAR_BACKLOG (R715). -/
def R.PAR_BACKLOG : Nat := 0x120030
/-- PAR_CNT_k (R716). -/
def R.PAR_CNT_k : Nat := 0x120080
/-- EVT_STAT (R732). -/
def R.EVT_STAT : Nat := 0x130000
/-- EVT_SEQ (R732). -/
def R.EVT_SEQ : Nat := 0x130004
/-- EVT_ACT_IDX (R732). -/
def R.EVT_ACT_IDX : Nat := 0x130010
/-- EVT_ACT_DATA_w (R732). -/
def R.EVT_ACT_DATA_w : Nat := 0x130020
/-- EVT_CNT_k (R733). -/
def R.EVT_CNT_k : Nat := 0x130080

/-- The registers of the block at 0x00_0000. -/
def regsGlb : List RegDesc :=
  [⟨0x000040, 4, 1, 0, 1, false, 0x0, 0x0, 0x0⟩,
   ⟨0x000044, 4, 1, 0, 1, false, 0x0, 0x0, 0x0⟩,
   ⟨0x000050, 4, 1, 0, 1, false, 0x0, 0x0, 0x0⟩,
   ⟨0x000054, 4, 1, 0, 1, false, 0x0, 0x0, 0x0⟩,
   ⟨0x000058, 4, 1, 0, 1, false, 0x0, 0x0, 0x0⟩,
   ⟨0x00005C, 4, 1, 0, 1, false, 0x0, 0x0, 0x0⟩]

/-- The registers of the block at 0x01_0000. -/
def regsCkv : List RegDesc :=
  [⟨0x010000, 4, 1, 0, 1, false, 0x1, 0x3FFFFE, 0x0⟩,
   ⟨0x010004, 4, 1, 0, 1, false, 0x0, 0x0, 0x0⟩,
   ⟨0x010010, 4, 1, 0, 1, false, 0x1, 0x0, 0x0⟩,
   ⟨0x010020, 4, 1, 0, 1, false, 0x352, 0x0, 0x0⟩,
   ⟨0x010024, 4, 1, 0, 1, false, 0x320, 0x0, 0x0⟩,
   ⟨0x01010C, 4, 5, 0, 1, false, 0x0, 0xF00, 0x0⟩,
   ⟨0x010140, 4, 1, 0, 1, false, 0x0, 0xF00, 0x0⟩,
   ⟨0x010150, 4, 1, 0, 1, false, 0x0, 0xF00, 0x0⟩,
   ⟨0x010204, 4, 21, 0, 1, false, 0x0, 0x0, 0x0⟩]

/-- The registers of the block at 0x02_0000. -/
def regsTmp : List RegDesc :=
  [⟨0x020000, 4, 1, 0, 1, true, 0x0, 0x1, 0x0⟩,
   ⟨0x020004, 4, 1, 0, 1, false, 0x0, 0x0, 0x0⟩,
   ⟨0x020008, 4, 1, 0, 1, false, 0x0, 0x0, 0x0⟩,
   ⟨0x020010, 4, 1, 0, 3, false, 0x0, 0x0, 0x0⟩,
   ⟨0x020014, 4, 1, 1, 3, false, 0x0, 0x0, 0x0⟩,
   ⟨0x020018, 4, 1, 2, 3, false, 0x0, 0x0, 0x0⟩,
   ⟨0x020100, 16, 22, 0, 1, false, 0x0, 0x0, 0x0⟩,
   ⟨0x020104, 16, 22, 0, 3, false, 0x0, 0x0, 0x0⟩,
   ⟨0x020108, 16, 22, 1, 3, false, 0x0, 0x0, 0x0⟩,
   ⟨0x02010C, 16, 22, 2, 3, false, 0x0, 0x0, 0x0⟩]

/-- The registers of the block at 0x03_0000. -/
def regsCfg : List RegDesc :=
  [⟨0x030000, 4, 1, 0, 1, false, 0x1, 0x0, 0x0⟩,
   ⟨0x030004, 4, 1, 0, 1, false, 0x0, 0x0, 0x0⟩,
   ⟨0x030008, 4, 1, 0, 1, false, 0x0, 0x0, 0x0⟩,
   ⟨0x030010, 4, 1, 0, 2, false, 0x0, 0x0, 0x0⟩,
   ⟨0x030014, 4, 1, 1, 2, false, 0x0, 0x0, 0x0⟩,
   ⟨0x030018, 4, 1, 0, 1, false, 0x0, 0x0, 0x0⟩,
   ⟨0x030020, 4, 1, 0, 1, false, 0x0, 0x0, 0x0⟩,
   ⟨0x030030, 4, 1, 0, 1, true, 0x0, 0xFFFF0001, 0x0⟩]

/-- The registers of the block at 0x04_0000. -/
def regsTim : List RegDesc :=
  [⟨0x040000, 4, 1, 0, 2, false, 0x0, 0x0, 0x0⟩,
   ⟨0x040004, 4, 1, 1, 2, false, 0x0, 0x0, 0x0⟩,
   ⟨0x040010, 4, 1, 0, 1, false, 0x0, 0x301, 0x0⟩,
   ⟨0x040014, 4, 1, 0, 1, false, 0x0, 0x0, 0x0⟩,
   ⟨0x040020, 4, 1, 0, 3, false, 0x0, 0x0, 0x0⟩,
   ⟨0x040024, 4, 1, 1, 3, false, 0x0, 0x0, 0x0⟩,
   ⟨0x040028, 4, 1, 2, 3, false, 0x0, 0x0, 0x0⟩,
   ⟨0x040030, 4, 1, 0, 2, false, 0x0, 0x0, 0x0⟩,
   ⟨0x040034, 4, 1, 1, 2, false, 0x0, 0x0, 0x0⟩,
   ⟨0x040100, 4, 1, 0, 4, false, 0x0, 0x0, 0x0⟩,
   ⟨0x040104, 4, 1, 1, 4, false, 0x0, 0x0, 0x0⟩,
   ⟨0x040108, 4, 1, 2, 4, false, 0x0, 0x0, 0x0⟩,
   ⟨0x04010C, 4, 1, 3, 4, false, 0x0, 0x0, 0x0⟩,
   ⟨0x040110, 4, 1, 0, 2, false, 0x0, 0x0, 0x0⟩,
   ⟨0x040114, 4, 1, 1, 2, false, 0x0, 0x0, 0x0⟩,
   ⟨0x040120, 4, 1, 0, 1, false, 0x10160000, 0x9F1F0000, 0x0⟩,
   ⟨0x040124, 4, 1, 0, 1, false, 0x0, 0x0, 0x0⟩,
   ⟨0x040128, 4, 1, 0, 1, false, 0x0, 0x0, 0x0⟩,
   ⟨0x04012C, 4, 1, 0, 1, false, 0x3E803E8, 0xFFFFFFFF, 0x0⟩,
   ⟨0x040130, 4, 1, 0, 3, false, 0x0, 0x0, 0x0⟩,
   ⟨0x040134, 4, 1, 1, 3, false, 0x0, 0x0, 0x0⟩,
   ⟨0x040138, 4, 1, 2, 3, false, 0x0, 0x0, 0x0⟩,
   ⟨0x040200, 4, 1, 0, 4, false, 0x0, 0x0, 0x0⟩,
   ⟨0x040204, 4, 1, 1, 4, false, 0x0, 0x0, 0x0⟩,
   ⟨0x040208, 4, 1, 2, 4, false, 0x0, 0x0, 0x0⟩,
   ⟨0x04020C, 4, 1, 3, 4, false, 0x0, 0x0, 0x0⟩,
   ⟨0x040210, 4, 1, 0, 2, false, 0x0, 0x0, 0x0⟩,
   ⟨0x040214, 4, 1, 1, 2, false, 0x0, 0x0, 0x0⟩,
   ⟨0x040220, 4, 1, 0, 1, false, 0x10160000, 0x9F1F0000, 0x0⟩,
   ⟨0x040224, 4, 1, 0, 1, false, 0x0, 0x0, 0x0⟩,
   ⟨0x040228, 4, 1, 0, 1, false, 0x0, 0x0, 0x0⟩,
   ⟨0x04022C, 4, 1, 0, 1, false, 0x3E803E8, 0xFFFFFFFF, 0x0⟩,
   ⟨0x040230, 4, 1, 0, 3, false, 0x0, 0x0, 0x0⟩,
   ⟨0x040234, 4, 1, 1, 3, false, 0x0, 0x0, 0x0⟩,
   ⟨0x040238, 4, 1, 2, 3, false, 0x0, 0x0, 0x0⟩,
   ⟨0x040300, 8, 4, 0, 1, false, 0x0, 0xFFFFFFFF, 0x0⟩,
   ⟨0x040304, 8, 4, 0, 1, false, 0x0, 0xFFFFFFFF, 0x0⟩,
   ⟨0x040400, 4, 64, 0, 1, false, 0x0, 0xFFFFFFFF, 0x0⟩,
   ⟨0x040600, 8, 8, 0, 1, false, 0x0, 0x0, 0x0⟩,
   ⟨0x040604, 8, 8, 0, 1, false, 0x0, 0x0, 0x0⟩]

/-- The registers of the block at 0x05_0000. -/
def regsSht : List RegDesc :=
  [⟨0x050000, 4, 1, 0, 1, false, 0x0, 0x0, 0x0⟩,
   ⟨0x050004, 4, 1, 0, 1, false, 0x0, 0xFFFFFFFF, 0x0⟩,
   ⟨0x050008, 4, 1, 0, 1, false, 0x0, 0x0, 0x0⟩,
   ⟨0x05000C, 4, 1, 0, 1, false, 0x0, 0x0, 0x0⟩,
   ⟨0x050010, 4, 1, 0, 1, false, 0x10000, 0x0, 0x0⟩,
   ⟨0x050014, 4, 1, 0, 1, false, 0x10000, 0x0, 0x0⟩,
   ⟨0x050018, 4, 1, 0, 1, false, 0x64, 0x0, 0x0⟩,
   ⟨0x050020, 4, 8, 0, 1, false, 0x64, 0x1FFFF, 0x0⟩,
   ⟨0x050080, 4, 10, 0, 1, false, 0x0, 0x0, 0x0⟩,
   ⟨0x050100, 4, 32, 0, 1, false, 0x0, 0x0, 0x0⟩,
   ⟨0x050180, 4, 8, 0, 1, false, 0x0, 0x0, 0x0⟩,
   ⟨0x050200, 4, 32, 0, 1, false, 0x0, 0x0, 0x0⟩,
   ⟨0x050400, 16, 64, 0, 1, false, 0x0, 0x0, 0x0⟩,
   ⟨0x050404, 16, 64, 0, 1, false, 0x0, 0x0, 0x0⟩,
   ⟨0x050408, 16, 64, 0, 1, false, 0x0, 0x0, 0x0⟩,
   ⟨0x05040C, 16, 64, 0, 1, false, 0x0, 0x0, 0x0⟩]

/-- The registers of the block at 0x06_0000. -/
def regsRpt : List RegDesc :=
  [⟨0x060000, 1024, 64, 0, 1, false, 0x0, 0x80000000, 0x0⟩,
   ⟨0x060100, 1024, 64, 0, 1, false, 0x0, 0xFFFF0000, 0x0⟩,
   ⟨0x060104, 1024, 64, 0, 1, false, 0x0, 0x0, 0x0⟩,
   ⟨0x060120, 1024, 64, 0, 1, false, 0x0, 0x0, 0x0⟩,
   ⟨0x060124, 1024, 64, 0, 1, false, 0x0, 0x0, 0x0⟩,
   ⟨0x060128, 1024, 64, 0, 1, false, 0x0, 0x0, 0x0⟩,
   ⟨0x06012C, 1024, 64, 0, 1, false, 0x0, 0x0, 0x0⟩,
   ⟨0x060130, 1024, 64, 0, 1, false, 0x0, 0x0, 0x0⟩,
   ⟨0x060134, 1024, 64, 0, 1, false, 0x0, 0x0, 0x0⟩,
   ⟨0x060138, 1024, 64, 0, 1, false, 0x0, 0x0, 0x0⟩,
   ⟨0x06013C, 1024, 64, 0, 1, false, 0x0, 0x0, 0x0⟩,
   ⟨0x060140, 1024, 64, 0, 1, false, 0x0, 0x0, 0x0⟩,
   ⟨0x060144, 1024, 64, 0, 1, false, 0x0, 0x0, 0x0⟩,
   ⟨0x060200, 1024, 64, 0, 1, false, 0x0, 0x0, 0x0⟩,
   ⟨0x060204, 1024, 64, 0, 1, false, 0x8032, 0x0, 0x0⟩,
   ⟨0x060208, 1024, 64, 0, 1, false, 0xAB64000A, 0x0, 0x0⟩,
   ⟨0x06020C, 1024, 64, 0, 1, false, 0x1141432, 0x0, 0x0⟩,
   ⟨0x060210, 1024, 64, 0, 2, false, 0x0, 0xFFFFFFFF, 0x0⟩,
   ⟨0x060214, 1024, 64, 1, 2, false, 0x0, 0xFFFFFFFF, 0x0⟩,
   ⟨0x060218, 1024, 64, 0, 1, false, 0x0, 0x0, 0x0⟩,
   ⟨0x060220, 1024, 64, 0, 1, false, 0x0, 0x0, 0x0⟩,
   ⟨0x060224, 1024, 64, 0, 1, false, 0x0, 0x0, 0x0⟩,
   ⟨0x060228, 1024, 64, 0, 1, false, 0x0, 0x0, 0x0⟩,
   ⟨0x06022C, 1024, 64, 0, 1, false, 0x0, 0x0, 0x0⟩,
   ⟨0x060230, 1024, 64, 0, 1, false, 0x0, 0x0, 0x0⟩,
   ⟨0x060234, 1024, 64, 0, 1, false, 0x0, 0x0, 0x0⟩,
   ⟨0x060238, 1024, 64, 0, 1, false, 0x0, 0x0, 0x0⟩,
   ⟨0x06023C, 1024, 64, 0, 1, false, 0x0, 0x0, 0x0⟩,
   ⟨0x060240, 1024, 64, 0, 1, false, 0x0, 0x0, 0x0⟩,
   ⟨0x060244, 1024, 64, 0, 1, false, 0x0, 0x0, 0x0⟩,
   ⟨0x060248, 1024, 64, 0, 1, false, 0x0, 0x0, 0x0⟩,
   ⟨0x06024C, 1024, 64, 0, 1, false, 0x0, 0x0, 0x0⟩,
   ⟨0x060250, 1024, 64, 0, 1, false, 0x0, 0x0, 0x0⟩,
   ⟨0x060254, 1024, 64, 0, 1, false, 0x0, 0x0, 0x0⟩,
   ⟨0x060258, 1024, 64, 0, 1, false, 0x0, 0x0, 0x0⟩,
   ⟨0x06025C, 1024, 64, 0, 1, false, 0x0, 0x0, 0x0⟩]

/-- The registers of the block at 0x08_0000. -/
def regsNet : List RegDesc :=
  [⟨0x080000, 4, 1, 0, 1, true, 0x0, 0x3, 0x0⟩,
   ⟨0x080004, 4, 1, 0, 1, false, 0x1E3C0384, 0x0, 0x0⟩,
   ⟨0x080008, 4, 1, 0, 1, false, 0x40082040, 0x0, 0x0⟩,
   ⟨0x08000C, 4, 1, 0, 1, false, 0x12C0A380, 0x0, 0x0⟩,
   ⟨0x080010, 4, 1, 0, 1, false, 0x18, 0x0, 0x0⟩,
   ⟨0x080014, 4, 1, 0, 1, false, 0x0, 0x0, 0x0⟩,
   ⟨0x080018, 4, 1, 0, 1, false, 0x0, 0x0, 0x0⟩,
   ⟨0x080020, 4, 1, 0, 1, false, 0x0, 0xFFFF, 0xFFFF⟩,
   ⟨0x080040, 4, 8, 0, 1, false, 0x0, 0x0, 0x0⟩,
   ⟨0x080080, 4, 8, 0, 1, false, 0x0, 0x0, 0x0⟩,
   ⟨0x080100, 4, 64, 0, 1, false, 0x0, 0x0, 0x0⟩]

/-- The registers of the block at 0x09_0000. -/
def regsMsn : List RegDesc :=
  [⟨0x090000, 4, 1, 0, 1, true, 0x0, 0x3, 0x0⟩,
   ⟨0x090004, 4, 1, 0, 1, false, 0x1E30A168, 0x0, 0x0⟩,
   ⟨0x090008, 4, 1, 0, 1, false, 0x2581E0A, 0x0, 0x0⟩,
   ⟨0x09000C, 4, 1, 0, 1, false, 0x14300000, 0x0, 0x0⟩,
   ⟨0x090010, 4, 1, 0, 1, false, 0x0, 0x0, 0x0⟩,
   ⟨0x090080, 4, 10, 0, 1, false, 0x0, 0x0, 0x0⟩]

/-- The registers of the block at 0x0A_0000. -/
def regsWrp : List RegDesc :=
  [⟨0x0A0000, 4, 1, 0, 1, true, 0x0, 0x1, 0x0⟩,
   ⟨0x0A0004, 4, 1, 0, 1, false, 0x7800783C, 0x0, 0x0⟩,
   ⟨0x0A0008, 4, 1, 0, 1, false, 0x3C00005A, 0x0, 0x0⟩,
   ⟨0x0A0010, 4, 1, 0, 1, false, 0x0, 0x0, 0x0⟩,
   ⟨0x0A0014, 4, 1, 0, 1, false, 0x0, 0x0, 0x0⟩,
   ⟨0x0A0018, 4, 1, 0, 1, false, 0x0, 0x0, 0x0⟩,
   ⟨0x0A0020, 4, 1, 0, 3, false, 0x0, 0x0, 0x0⟩,
   ⟨0x0A0024, 4, 1, 1, 3, false, 0x0, 0x0, 0x0⟩,
   ⟨0x0A0028, 4, 1, 2, 3, false, 0x0, 0x0, 0x0⟩,
   ⟨0x0A0030, 4, 1, 0, 3, false, 0x0, 0x0, 0x0⟩,
   ⟨0x0A0034, 4, 1, 1, 3, false, 0x0, 0x0, 0x0⟩,
   ⟨0x0A0038, 4, 1, 2, 3, false, 0x0, 0x0, 0x0⟩,
   ⟨0x0A0040, 4, 1, 0, 1, true, 0x0, 0xF03FFFFF, 0x0⟩,
   ⟨0x0A0044, 4, 1, 0, 1, true, 0x0, 0xFFFFFFFF, 0x0⟩,
   ⟨0x0A0048, 4, 1, 0, 2, true, 0x0, 0xFFFFFFFF, 0x0⟩,
   ⟨0x0A004C, 4, 1, 1, 2, true, 0x0, 0xFFFFFFFF, 0x0⟩,
   ⟨0x0A0050, 4, 1, 0, 2, true, 0x0, 0xFFFFFFFF, 0x0⟩,
   ⟨0x0A0054, 4, 1, 1, 2, true, 0x0, 0xFFFFFFFF, 0x0⟩,
   ⟨0x0A0058, 4, 1, 0, 1, true, 0x0, 0x0, 0x0⟩,
   ⟨0x0A0080, 4, 1, 0, 1, true, 0x0, 0xFFFFF, 0x0⟩,
   ⟨0x0A0100, 4, 19, 0, 1, false, 0x0, 0x0, 0x0⟩,
   ⟨0x0A0200, 4, 128, 0, 1, true, 0x0, 0x0, 0x0⟩]

/-- The registers of the block at 0x0B_0000. -/
def regsPen : List RegDesc :=
  [⟨0x0B0000, 4, 1, 0, 1, false, 0x1000103, 0x0, 0x0⟩,
   ⟨0x0B0004, 4, 1, 0, 1, false, 0x0, 0xF, 0x0⟩,
   ⟨0x0B0008, 4, 1, 0, 1, false, 0x0, 0x0, 0x0⟩,
   ⟨0x0B0080, 4, 10, 0, 1, false, 0x0, 0x0, 0x0⟩,
   ⟨0x0B0100, 32, 1, 0, 1, false, 0x0, 0x0, 0x0⟩,
   ⟨0x0B0104, 32, 1, 0, 2, false, 0x0, 0x0, 0x0⟩,
   ⟨0x0B0108, 32, 1, 1, 2, false, 0x0, 0x0, 0x0⟩,
   ⟨0x0B010C, 32, 1, 0, 1, false, 0x0, 0x0, 0x0⟩,
   ⟨0x0B0110, 32, 1, 0, 1, false, 0x0, 0x0, 0x0⟩,
   ⟨0x0B0114, 32, 1, 0, 1, false, 0x0, 0x0, 0x0⟩,
   ⟨0x0B0200, 32, 8, 0, 1, true, 0x0, 0x0, 0x0⟩,
   ⟨0x0B0204, 32, 8, 0, 2, true, 0x0, 0x0, 0x0⟩,
   ⟨0x0B0208, 32, 8, 1, 2, true, 0x0, 0x0, 0x0⟩,
   ⟨0x0B020C, 32, 8, 0, 1, true, 0x0, 0x0, 0x0⟩,
   ⟨0x0B0210, 32, 8, 0, 1, true, 0x0, 0x0, 0x0⟩,
   ⟨0x0B0214, 32, 8, 0, 1, true, 0x0, 0x0, 0x0⟩]

/-- The registers of the block at 0x0C_0000. -/
def regsSlv : List RegDesc :=
  [⟨0x0C0000, 4, 1, 0, 1, false, 0x2010000, 0x0, 0x0⟩,
   ⟨0x0C0004, 4, 1, 0, 1, false, 0x0, 0x0, 0x0⟩,
   ⟨0x0C0010, 4, 1, 0, 1, false, 0x0, 0x0, 0x0⟩,
   ⟨0x0C0014, 4, 1, 0, 1, false, 0x0, 0x0, 0x0⟩,
   ⟨0x0C0018, 4, 1, 0, 1, false, 0x3C0078, 0x0, 0x0⟩,
   ⟨0x0C0020, 4, 1, 0, 2, false, 0x0, 0x0, 0x0⟩,
   ⟨0x0C0024, 4, 1, 1, 2, false, 0x0, 0x0, 0x0⟩,
   ⟨0x0C0028, 4, 1, 0, 2, false, 0x0, 0x0, 0x0⟩,
   ⟨0x0C002C, 4, 1, 1, 2, false, 0x0, 0x0, 0x0⟩,
   ⟨0x0C0030, 4, 1, 0, 1, false, 0x0, 0x0, 0x0⟩,
   ⟨0x0C0040, 4, 8, 0, 1, false, 0x0, 0x0, 0x0⟩,
   ⟨0x0C0060, 4, 1, 0, 3, false, 0x0, 0x0, 0x0⟩,
   ⟨0x0C0064, 4, 1, 1, 3, false, 0x0, 0x0, 0x0⟩,
   ⟨0x0C0068, 4, 1, 2, 3, false, 0x0, 0x0, 0x0⟩,
   ⟨0x0C0080, 4, 11, 0, 1, false, 0x0, 0x0, 0x0⟩,
   ⟨0x0C0100, 4, 1, 0, 3, false, 0x0, 0x0, 0x0⟩,
   ⟨0x0C0104, 4, 1, 1, 3, false, 0x0, 0x0, 0x0⟩,
   ⟨0x0C0108, 4, 1, 2, 3, false, 0x0, 0x0, 0x0⟩,
   ⟨0x0C010C, 4, 1, 0, 1, false, 0x0, 0x0, 0x0⟩,
   ⟨0x0C0110, 4, 1, 0, 1, false, 0x0, 0x0, 0x0⟩]

/-- The registers of the block at 0x0D_0000. -/
def regsJqd : List RegDesc :=
  [⟨0x0D0000, 4, 1, 0, 1, false, 0x0, 0x0, 0x0⟩,
   ⟨0x0D0010, 4, 1, 0, 1, false, 0x0, 0xFFF, 0xFFF⟩,
   ⟨0x0D0014, 4, 1, 0, 1, false, 0x0, 0x0, 0x0⟩,
   ⟨0x0D0018, 4, 1, 0, 1, false, 0x0, 0x0, 0x0⟩,
   ⟨0x0D0020, 4, 1, 0, 3, false, 0x0, 0x0, 0x0⟩,
   ⟨0x0D0024, 4, 1, 1, 3, false, 0x0, 0x0, 0x0⟩,
   ⟨0x0D0028, 4, 1, 2, 3, false, 0x0, 0x0, 0x0⟩]

/-- The registers of the block at 0x0E_0000. -/
def regsBal : List RegDesc :=
  [⟨0x0E0000, 4, 1, 0, 1, true, 0x0, 0x1, 0x0⟩,
   ⟨0x0E0004, 4, 1, 0, 1, false, 0x1E0A30, 0x0, 0x0⟩,
   ⟨0x0E0008, 4, 1, 0, 1, false, 0x0, 0x0, 0x0⟩,
   ⟨0x0E0010, 4, 1, 0, 1, true, 0x0, 0xF000FFFF, 0x0⟩,
   ⟨0x0E0014, 4, 1, 0, 1, false, 0x0, 0x0, 0x0⟩,
   ⟨0x0E0018, 4, 1, 0, 1, false, 0x0, 0x0, 0x0⟩,
   ⟨0x0E0020, 4, 1, 0, 1, false, 0x0, 0xFFFF, 0xFFFF⟩,
   ⟨0x0E0080, 4, 9, 0, 1, false, 0x0, 0x0, 0x0⟩,
   ⟨0x0E0100, 4, 28, 0, 1, false, 0x0, 0x0, 0x0⟩]

/-- The registers of the block at 0x0F_0000. -/
def regsBem : List RegDesc :=
  [⟨0x0F0000, 4, 1, 0, 1, true, 0x0, 0xFF, 0x0⟩,
   ⟨0x0F0004, 4, 1, 0, 1, true, 0x0, 0xFF000000, 0x0⟩,
   ⟨0x0F0008, 4, 1, 0, 1, true, 0x0, 0xFFFFFFFF, 0x0⟩,
   ⟨0x0F000C, 4, 1, 0, 1, true, 0x0, 0xFFFFFFFF, 0x0⟩,
   ⟨0x0F0010, 4, 1, 0, 1, false, 0x0, 0x0, 0x0⟩,
   ⟨0x0F0014, 4, 1, 0, 1, false, 0x0, 0x0, 0x0⟩,
   ⟨0x0F0018, 4, 1, 0, 1, false, 0x0, 0x0, 0x0⟩,
   ⟨0x0F001C, 4, 1, 0, 1, false, 0x0, 0x0, 0x0⟩,
   ⟨0x0F0020, 4, 1, 0, 1, false, 0x0, 0x0, 0x0⟩,
   ⟨0x0F0024, 4, 1, 0, 1, false, 0x0, 0x0, 0x0⟩,
   ⟨0x0F0030, 4, 1, 0, 1, false, 0x30190190, 0x0, 0x0⟩,
   ⟨0x0F0034, 4, 1, 0, 1, false, 0x320, 0x0, 0x0⟩,
   ⟨0x0F0040, 4, 1, 0, 1, false, 0x0, 0x0, 0x0⟩,
   ⟨0x0F0044, 4, 1, 0, 1, false, 0x4B, 0x0, 0x0⟩,
   ⟨0x0F0080, 4, 11, 0, 1, false, 0x0, 0x0, 0x0⟩,
   ⟨0x0F0100, 16, 8, 0, 1, false, 0x0, 0x0, 0x0⟩,
   ⟨0x0F0104, 16, 8, 0, 1, false, 0x0, 0x0, 0x0⟩,
   ⟨0x0F0108, 16, 8, 0, 1, false, 0x0, 0x0, 0x0⟩]

/-- The registers of the block at 0x10_0000. -/
def regsKey : List RegDesc :=
  [⟨0x100000, 4, 1, 0, 1, false, 0x0, 0x0, 0x0⟩,
   ⟨0x100004, 4, 1, 0, 1, false, 0x0, 0x0, 0x0⟩,
   ⟨0x100008, 4, 1, 0, 1, true, 0x0, 0xFFFF, 0x0⟩,
   ⟨0x10000C, 4, 1, 0, 1, false, 0x0, 0x0, 0x0⟩,
   ⟨0x100010, 4, 1, 0, 1, true, 0x0, 0xFFFF0003, 0x0⟩,
   ⟨0x100014, 4, 1, 0, 1, false, 0x0, 0x0, 0x0⟩,
   ⟨0x100018, 4, 1, 0, 1, false, 0x0, 0x0, 0x0⟩,
   ⟨0x100020, 4, 8, 0, 1, false, 0x0, 0x0, 0x0⟩,
   ⟨0x100040, 4, 8, 0, 1, false, 0x0, 0x0, 0x0⟩,
   ⟨0x100080, 4, 6, 0, 1, false, 0x0, 0x0, 0x0⟩]

/-- The registers of the block at 0x11_0000. -/
def regsHst : List RegDesc :=
  [⟨0x110000, 4, 1, 0, 1, false, 0xB7A3, 0x0, 0x0⟩,
   ⟨0x110010, 4, 4, 0, 1, false, 0x0, 0x0, 0x0⟩,
   ⟨0x110020, 4, 1, 0, 1, false, 0x0, 0x0, 0x0⟩,
   ⟨0x110040, 4, 8, 0, 1, true, 0x0, 0x0, 0x0⟩,
   ⟨0x110100, 4, 1, 0, 2, false, 0x0, 0xFFFFFFFF, 0xFFFFFFFF⟩,
   ⟨0x110104, 4, 1, 1, 2, false, 0x0, 0xFFFFFFFF, 0xFFFFFFFF⟩,
   ⟨0x110108, 4, 1, 0, 1, false, 0x1F4, 0xFFFF, 0xFFFF⟩,
   ⟨0x11010C, 4, 1, 0, 1, false, 0x0, 0xFFFFFFFF, 0xFFFFFFFF⟩,
   ⟨0x110110, 4, 1, 0, 1, false, 0x0, 0x800000FF, 0x800000FF⟩,
   ⟨0x110114, 4, 1, 0, 1, false, 0x0, 0x0, 0x0⟩,
   ⟨0x110118, 4, 1, 0, 1, false, 0x0, 0x0, 0x0⟩,
   ⟨0x11011C, 4, 1, 0, 1, false, 0x0, 0x0, 0x0⟩,
   ⟨0x110120, 4, 1, 0, 1, false, 0x0, 0x0, 0x0⟩,
   ⟨0x110124, 4, 1, 0, 1, false, 0x0, 0x0, 0x0⟩,
   ⟨0x110180, 4, 10, 0, 1, false, 0x0, 0x0, 0x0⟩,
   ⟨0x110200, 4, 1, 0, 1, true, 0x0, 0xFFFCFFFF, 0x0⟩]

/-- The registers of the block at 0x12_0000. -/
def regsPar : List RegDesc :=
  [⟨0x120000, 4, 1, 0, 1, true, 0x0, 0xFFFF0003, 0x0⟩,
   ⟨0x120004, 4, 1, 0, 1, false, 0x0, 0x0, 0x0⟩,
   ⟨0x120008, 4, 1, 0, 1, false, 0x0, 0x0, 0x0⟩,
   ⟨0x120010, 4, 1, 0, 1, false, 0x0, 0x0, 0x0⟩,
   ⟨0x120014, 4, 1, 0, 1, false, 0x0, 0x0, 0x0⟩,
   ⟨0x120018, 4, 1, 0, 1, false, 0x0, 0x0, 0x0⟩,
   ⟨0x120020, 4, 1, 0, 2, false, 0x0, 0x0, 0x0⟩,
   ⟨0x120024, 4, 1, 1, 2, false, 0x0, 0x0, 0x0⟩,
   ⟨0x120028, 4, 1, 0, 2, false, 0x0, 0x0, 0x0⟩,
   ⟨0x12002C, 4, 1, 1, 2, false, 0x0, 0x0, 0x0⟩,
   ⟨0x120030, 4, 1, 0, 1, false, 0x0, 0x0, 0x0⟩,
   ⟨0x120080, 4, 10, 0, 1, false, 0x0, 0x0, 0x0⟩]

/-- The registers of the block at 0x13_0000. -/
def regsEvt : List RegDesc :=
  [⟨0x130000, 4, 1, 0, 1, false, 0x0, 0x0, 0x0⟩,
   ⟨0x130004, 4, 1, 0, 1, false, 0x0, 0x0, 0x0⟩,
   ⟨0x130010, 4, 1, 0, 1, false, 0x0, 0xFF, 0xFF⟩,
   ⟨0x130020, 4, 8, 0, 1, false, 0x0, 0x0, 0x0⟩,
   ⟨0x130080, 4, 8, 0, 1, false, 0x0, 0x0, 0x0⟩]

/-- The registers of block `b`, where `b` is bits 23:16 of its S-view base (R650). -/
def blockRegs (b : Nat) : List RegDesc :=
  match b with
  | 0x00 => regsGlb
  | 0x01 => regsCkv
  | 0x02 => regsTmp
  | 0x03 => regsCfg
  | 0x04 => regsTim
  | 0x05 => regsSht
  | 0x06 => regsRpt
  | 0x08 => regsNet
  | 0x09 => regsMsn
  | 0x0A => regsWrp
  | 0x0B => regsPen
  | 0x0C => regsSlv
  | 0x0D => regsJqd
  | 0x0E => regsBal
  | 0x0F => regsBem
  | 0x10 => regsKey
  | 0x11 => regsHst
  | 0x12 => regsPar
  | 0x13 => regsEvt
  | _ => []

/-- The register row that holds S-view address `a`. -/
def RegDesc.has (d : RegDesc) (a : Nat) : Bool :=
  decide (d.base ≤ a ∧ (a - d.base) % d.stride = 0 ∧ (a - d.base) / d.stride < d.count)

/-- The register defined at S-view address `a`, if any (R4, R650). -/
def findReg (a : Nat) : Option RegDesc := (blockRegs (a / 0x10000)).find? (fun d => d.has a)

/-- What the register at S-view address `a` holds after its island leaves reset (R6). (DESIGN CHOICE, log 13) -/
def regReset (a : Nat) : Word :=
  match findReg a with
  | some d => BitVec.ofNat 32 d.reset
  | none => 0

end Sys2Proof.Machine
end

