-- ==== Sys2Proof/Machine/SNet.lean ====
section
/-!
DEFINITION. State of NET: the neighbour table, the routes, reported links, seen-message caches and node states
(08_field_network.md R309 to R341).
-/

namespace Sys2Proof.Machine

/-- One neighbour table entry (R311). -/
structure Nbr where
  eui : Nat
  port : Nat
  /-- PHASE code of R247. -/
  phase : Nat
  /-- The sector code that consecutive qualifying frames fell in, and how many (R248). -/
  phaseCand : Nat
  phaseRun : Nat
  kind : Nat
  inRoute : Bool
  down : Bool
  misses : Nat
  /-- Last accepted SEQ; none while no accepted frame is on record (R239). -/
  rxSeq : Option Nat
  txSeq : Nat
  etx : Nat
  /-- ETX16 at the last recompute (R316). -/
  etxRef : Nat
  qual : Nat
  /-- Counter value at which the node was last heard. -/
  heard : Nat
  impulses : Nat
  noAcks : Nat
  delivered : Nat
  /-- Counter value of the last beacon stamp (R327). -/
  beacon : Option Nat
  deriving DecidableEq, Repr

/-- Node states (R335). -/
inductive NodeSt where
  | unjoined
  | joined
  | rediscover
  | unreachable
  deriving DecidableEq, Repr

/-- What NET keeps of a listed node. -/
structure NodeRec where
  st : NodeSt
  /-- Home port. -/
  home : Nat
  /-- Present route: intermediate nodes from the port side; empty for a direct link. -/
  route : List Nat
  cost : Nat
  hasRoute : Bool
  /-- Discovery rounds since the route was lost (R339). -/
  tries : Nat
  /-- Relay marked DOWN (R328). -/
  down : Bool
  /-- Declared in JOIN_REQ: sleepy, ROUTER (R317, R324). -/
  sleepy : Bool
  router : Bool
  /-- SFD or delimiter stamp of the last uplink (R284). -/
  uplink : Nat
  deriving DecidableEq, Repr

/-- A node never heard since the run state began (R335). -/
def NodeRec.blank : NodeRec := ⟨.unjoined, 0, [], 0, false, 0, false, false, false, 0⟩

/-- A link that one node reported, with the counter value of the report (R313). -/
structure LinkRep where
  by_ : Nat
  to_ : Nat
  etx : Nat
  /-- Its cost at the last recompute (R316). -/
  etxRef : Nat
  qual : Nat
  at_ : Nat
  deriving DecidableEq, Repr

/-- A key of a seen-message cache (R331). -/
structure SeenKey where
  origin : Nat
  id : Nat
  at_ : Nat
  deriving DecidableEq, Repr

/-- JOIN_REQ copies of one node, collected since counter value `since` (R337). -/
structure JoinPend where
  eui : Nat
  since : Nat
  /-- Per copy: the port, the recorded route from the port side, its cost. -/
  copies : List (Nat × List Nat × Nat)
  sleepy : Bool
  router : Bool
  deriving DecidableEq, Repr

/-- A message handed to NET that it has not taken yet: the port, the frame, and its raw stamp. -/
structure NetMsg where
  port : Nat
  frame : Frame
  at_ : Nat
  deriving DecidableEq, Repr

/-- NET. (DESIGN CHOICE, log 14) -/
structure Net where
  /-- Neighbour entries by index, at most 65,536 (R309). -/
  nbrs : Store Nbr
  /-- Listed nodes by EUI-64. -/
  nodes : Store NodeRec
  links : List LinkRep
  /-- Seen-message cache by port group, oldest first, at most 4,096 keys each (R331). -/
  seen : Store (List SeenKey)
  floodId : Nat
  round : Nat
  joins : List JoinPend
  /-- Counter value of the last recompute by cell, and cells whose recompute waits (R316). -/
  recompAt : Store Nat
  recompDue : List Nat
  /-- Counter value of the last NBR_FULL event (R310). -/
  nbrFullAt : Option Nat
  /-- Commands, beacons and floods received and not yet taken, oldest first. -/
  inbox : List NetMsg
  /-- Snapshot of NET_NBR_IDX: the entry, and its age in seconds (R342). -/
  snap : Option (Nbr × Nat)
  deriving DecidableEq, Repr

/-- An unused neighbour index reads as this. -/
def Nbr.blank : Nbr :=
  ⟨0, 0, 0, 0, 0, 2, false, false, 0, none, 0, 0, 0, 0, 0, 0, 0, 0, none⟩

/-- NET after reset. (DESIGN CHOICE, log 12) -/
def Net.reset : Net := ⟨[], [], [], [], 0, 0, [], [], [], none, [], none⟩

end Sys2Proof.Machine
end

