-- ==== Sys2Proof/Machine/State.lean ====
section
/-!
DEFINITION. The state of the KD8064 as one block: every register, queue, table and mode the spec gives it, what its OTP,
NOR and NAND hold, the commands waiting, and what it has answered and sent. Plain data.
-/

namespace Sys2Proof.Machine
open Sys2Proof

/-- The state. -/
structure State where
  /-- The commands waiting, first in, first out. -/
  pending : List Instr
  /-- Register fields held as registers: configuration and counters, by S-view address; an unlisted register reads its
  reset value (R6). -/
  regs : Store Word
  /-- Snapshots of higher words, by requester key x 2^24 + S-view address (R10). -/
  snap : Store (Option Word)
  /-- Held higher words, by the same key (R10). -/
  heldW : Store (Option Word)
  sys : Sys
  clk : Clk
  tmp : Temple
  tim : Tim
  /-- Field ports by number. -/
  ports : Store Port
  net : Net
  msn : Msn
  sht : Sht
  wrp : Wrp
  pen : Pen
  slv : Slv
  bal : Bal
  bem : Bem
  key : Key
  hst : Hst
  par : Par
  evt : Evt
  otp : Otp
  nor : Nor
  nand : Nand
  /-- Number of the next free value (the model's own). -/
  fresh : Nat
  /-- What the part has answered and sent, oldest first (the model's own). -/
  out : List Out
  deriving DecidableEq, Repr

/-- Faults. No command of the table has an effect the spec leaves wholly undefined, so there is none. -/
inductive Fault : Type where
  deriving DecidableEq, Repr

/-- Refusals. -/
inductive Refusal where
  /-- Raised by a dispatch arm whose command has no meaning yet. Safe: the model stops. -/
  | notModelled (mnemonic : String)
  deriving DecidableEq, Repr

/-- The part right after the rise of PORST_N: START, phase 0, every strap low, every island but AON in reset, blank
non-volatile memories, and nothing waiting. (DESIGN CHOICE, log 11, 12, 144) -/
def State.reset : State :=
  { pending := [], regs := [], snap := [], heldW := [], sys := Sys.reset, clk := Clk.reset, tmp := Temple.reset,
    tim := Tim.reset, ports := [], net := Net.reset, msn := Msn.reset, sht := Sht.reset, wrp := Wrp.reset,
    pen := Pen.reset, slv := Slv.reset, bal := Bal.reset, bem := Bem.reset, key := Key.reset, hst := Hst.reset,
    par := Par.reset, evt := Evt.reset, otp := Otp.blank, nor := Nor.blank, nand := Nand.blank, fresh := 0, out := [] }

end Sys2Proof.Machine
end

