-- ==== Sys2Proof/Machine/Ops.lean ====
section
/-!
DEFINITION. The named operations every family uses: registers and counters, answers, free draws, the counter and domain
time (R175 to R194), and raising and ending events (R718 to R721, R645, R646, R669). Each is one update of the state, so
that what it leaves alone holds by definition.
-/

namespace Sys2Proof.Machine
open Sys2Proof

/-! Registers, answers and draws. -/

/-- The register field file at S-view address `a` (R6: its reset value until something sets it). (DESIGN CHOICE, log 13) -/
def State.rg (s : State) (a : Nat) : Word := Store.get regReset s.regs a

/-- A store of registers with `a` reading `w`. (DESIGN CHOICE, log 13) -/
def regPut (m : Store Word) (a : Nat) (w : Word) : Store Word := Store.put regReset m a w

/-- A counter that wraps. -/
def regBumpW (m : Store Word) (a : Nat) (n : Nat := 1) : Store Word :=
  regPut m a (BitVec.ofNat 32 ((Store.get regReset m a).toNat + n))

/-- A counter that sticks at 0xFFFF_FFFF. -/
def regBumpS (m : Store Word) (a : Nat) (n : Nat := 1) : Store Word :=
  regPut m a (BitVec.ofNat 32 (min 0xFFFFFFFF ((Store.get regReset m a).toNat + n)))

/-- The register at `a` reads `w`. -/
def State.setReg (s : State) (a : Nat) (w : Word) : State := { s with regs := regPut s.regs a w }

/-- A wrapping counter counts `n`. -/
def State.cntW (s : State) (a : Nat) (n : Nat := 1) : State := { s with regs := regBumpW s.regs a n }

/-- A sticking counter counts `n`. -/
def State.cntS (s : State) (a : Nat) (n : Nat := 1) : State := { s with regs := regBumpS s.regs a n }

/-- The part sends or shows `o`. (DESIGN CHOICE, log 6) -/
def State.emit (s : State) (o : Out) : State := { s with out := s.out ++ [o] }

/-- The part sends or shows each of `os`, in order. (DESIGN CHOICE, log 6) -/
def State.emitAll (s : State) (os : List Out) : State := { s with out := s.out ++ os }

/-- A free draw from 0 to `n` (Config.freeNat). (DESIGN CHOICE, log 5) -/
def State.drawn (s : State) (n : Nat) : Nat := Config.freeNat s.fresh % (n + 1)

/-- One free value has been used. (DESIGN CHOICE, log 5) -/
def State.used (s : State) : State := { s with fresh := s.fresh + 1 }

/-- The counter has reached `t` (R175: it counts without interruption). (DESIGN CHOICE, log 4, 141) -/
def State.reach (s : State) (t : Nat) : State := { s with tim := { s.tim with cnt := max s.tim.cnt t } }

/-! Islands and straps. -/

/-- Island `i` of Treadle (R88). -/
def State.isl (s : State) (i : Nat) : Island := Store.get (fun _ => Island.blank) s.clk.islands i

/-- Island `i` becomes `x`. -/
def State.setIsl (s : State) (i : Nat) (x : Island) : State :=
  { s with clk := { s.clk with islands := Store.put (fun _ => Island.blank) s.clk.islands i x } }

/-- The island of block `b`, bits 23:16 of its base (R19). -/
def blockIsland (b : Nat) : Nat :=
  match b with
  | 0x04 => 2
  | 0x05 => 7
  | 0x08 => 7
  | 0x09 => 7
  | 0x0A => 16
  | 0x0E => 16
  | 0x0B => 17
  | 0x0C => 17
  | 0x0D => 17
  | 0x0F => 18
  | 0x10 => 20
  | 0x11 => 1
  | 0x12 => 21
  | _ => 0

/-- Field port `p`. -/
def State.port (s : State) (p : Nat) : Port := Store.get (fun _ => Port.blank) s.ports p

/-- Field port `p` becomes `x`. -/
def State.setPort (s : State) (p : Nat) (x : Port) : State :=
  { s with ports := Store.put (fun _ => Port.blank) s.ports p x }

/-- The host partition `j`. -/
def State.part (s : State) (j : Nat) : Part := Store.get (fun _ => Part.blank) s.hst.parts j

/-- Host partition `j` becomes `x`. -/
def State.setPart (s : State) (j : Nat) (x : Part) : State :=
  { s with hst := { s.hst with parts := Store.put (fun _ => Part.blank) s.hst.parts j x } }

/-- The session in slot `k` of partition `j`. -/
def State.session (s : State) (j k : Nat) : Option Session := Store.get (fun _ => none) s.hst.sessions (4 * j + k)

/-- Slot `k` of partition `j` holds `x`. -/
def State.setSession (s : State) (j k : Nat) (x : Option Session) : State :=
  { s with hst := { s.hst with sessions := Store.put (fun _ => none) s.hst.sessions (4 * j + k) x } }

/-- The state is START, RUN or one of the others (R167). -/
def State.running (s : State) : Bool := decide (s.sys.st = .active ∨ s.sys.st = .standby)

/-- The archive and its system area accept writes (R572, R756); a full archive is found at the write (R573).
(DESIGN CHOICE, log 41) -/
def State.sysWrites (s : State) : Bool := s.bem.mounted && !s.nand.archRo && !s.bem.notMounted

/-! Time. -/

/-- Counts from `epoch` to `c` in 2^-32 counts, with the interval on the IRC scaled by the measured ratio (R180). -/
def Tim.elapsed (t : Tim) (epoch c : Nat) : Int :=
  match t.ircAt with
  | none => ((c : Int) - epoch) * 2 ^ 32
  | some a =>
    let b := max a epoch
    if c ≤ b then ((c : Int) - epoch) * 2 ^ 32
    else ((b : Int) - epoch) * 2 ^ 32 + ((c : Int) - b) * (t.ratio.getD (2 ^ 32) : Int)

/-- T_d at counter value `c` in 2^-16 ns (R177): the product is carried to 2^-16 ns and truncated toward zero. -/
def Tim.domTime (t : Tim) (d : Domain) (c : Nat) : Int :=
  d.offset + tdivInt ((t.elapsed d.epoch c + d.lost) * 5 * 2 ^ 15 * (2 ^ 48 + d.rate)) (2 ^ 80)

/-- Domain A (false) or B (true). -/
def Tim.dom (t : Tim) (b : Bool) : Domain := if b then t.domB else t.domA

/-- The time unit with domain `b` replaced. -/
def Tim.setDom (t : Tim) (b : Bool) (d : Domain) : Tim := if b then { t with domB := d } else { t with domA := d }

/-- Elapsed time folded into OFFSET_d at `c` (R178). -/
def Tim.fold (t : Tim) (d : Domain) (c : Nat) : Domain := { d with offset := t.domTime d c, epoch := c, lost := 0 }

/-- Presented time in 2^-16 ns at counter value `c` (R189, R191). -/
def Tim.presented (t : Tim) (c : Nat) : Int := t.domTime (t.dom t.sel) c + t.cont

/-- The present era. -/
def Tim.era (t : Tim) : TimEra := ⟨t.eraAt, t.sel, t.cont, t.ircAt.isSome⟩

/-- A new era begins at the present counter value; the one before is kept for stamps (R194). (DESIGN CHOICE, log 48) -/
def Tim.newEra (t : Tim) : Tim := { t with eras := (t.era :: t.eras).take 65536, eraAt := t.cnt }

/-- The era of counter value `c`: the newest that began by then (R194). (DESIGN CHOICE, log 48) -/
def Tim.eraOf (t : Tim) (c : Nat) : TimEra := ((t.era :: t.eras).find? (fun e => decide (e.from_ ≤ c))).getD t.era

/-- Presented time in 2^-16 ns as a stamp at counter value `c` is converted: through the domain that was selected, with the K in force
at `c` (R194). (DESIGN CHOICE, log 48) -/
def Tim.stamped (t : Tim) (c : Nat) : Int := t.domTime (t.dom (t.eraOf c).sel) c + (t.eraOf c).cont

/-- A stamp taken at counter value `c` as nanoseconds since the PTP epoch (R194). -/
def State.stampNs (s : State) (c : Nat) : Nat := (s.tim.stamped c / 2 ^ 16).toNat

/-- A stamp at counter value `c` carries the IRC flag (R194). -/
def State.stampIrc (s : State) (c : Nat) : Bool := (s.tim.eraOf c).irc

/-- Presented time now, in ns since the PTP epoch. -/
def State.nowNs (s : State) : Nat := s.stampNs s.tim.cnt

/-- TAI - UTC in s as the selected domain's master announced it (R353). Before any announcement: 37 s. (DESIGN CHOICE, log 48) -/
def State.utcOff (s : State) : Int :=
  match s.tim.utcOffs with
  | [] => 37
  | (_, o) :: _ => o

/-- The IRC flag of a stamp taken now (R194). -/
def State.ircFlag (s : State) : Bool := s.tim.ircAt.isSome

/-- Legal time in ns. -/
def State.legalNs (s : State) : Nat := s.slv.lt / 2 ^ 16

/-! Events. -/

/-- The parts of the state that events change, with what they read. -/
structure EvCtx where
  evt : Evt
  hst : Hst
  regs : Store Word
  img : Option Image
  now : Nat
  cnt : Nat

/-- The event context of a state. -/
def State.evCtx (s : State) : EvCtx := ⟨s.evt, s.hst, s.regs, s.sys.image, s.nowNs, s.tim.cnt⟩

/-- An event of a severity and scope enters partition `j`'s queue (R669). Without an image no scope is known: then every
queue takes FAULT and WARNING events. (DEDUCED, log 128) -/
def evCovers (im : Option Image) (j : Nat) (sev : Sev) (sc : EvScope) : Bool :=
  match im with
  | none => decide (sev ≠ .info)
  | some im =>
    match im.part j with
    | none => false
    | some pc =>
      match sc with
      | .general => decide (sev ≠ .info) || decide (pc.scope = .all)
      | .endpoint e => im.inScope pc.scope e
      | .fieldNode => decide (pc.scope = .all)
      | .balNode n => im.nodeInScope pc.scope n
      | .contract c => pc.scope.hasContract c

/-- The lowest severity code in a queue. -/
def lowestSev (q : List QRec) : Nat := q.foldl (fun m r => min m r.ev.sev.code) 3

/-- A queue without its oldest record of severity code `m`. -/
def dropOldest (m : Nat) : List QRec → List QRec
  | [] => []
  | r :: q => if r.ev.sev.code = m then q else r :: dropOldest m q

/-- A record arrives at a partition's queue (R645, R646): the partition, whether a record was discarded, and whether that
discard raises EVQ_OVERFLOW. -/
def Part.enqueue (p : Part) (e : EvRec) : Part × Bool × Bool :=
  if p.evq.length < 4096 then
    ({ p with evq := p.evq ++ [⟨p.nextQseq, p.lostMark, e⟩], nextQseq := (p.nextQseq + 1) % 2 ^ 32, lostMark := false },
      false, false)
  else
    let m := lowestSev p.evq
    let lost := min 0xFFFF (p.lostCnt + 1)
    if e.sev.code < m then
      ({ p with lostMark := true, lostCnt := lost, overRaised := true }, true, !p.overRaised)
    else
      ({ p with evq := dropOldest m p.evq ++ [⟨p.nextQseq, true, e⟩], nextQseq := (p.nextQseq + 1) % 2 ^ 32,
                lostMark := false, lostCnt := lost, overRaised := true }, true, !p.overRaised)

/-- A record enters partition `j`'s queue where its scope covers it; the partitions that overflow are collected.
(DEDUCED, log 128) -/
def EvCtx.queueOne (e : EvRec) (sc : EvScope) (x : EvCtx × List Nat) (j : Nat) : EvCtx × List Nat :=
  if evCovers x.1.img j e.sev sc then
    let r := (Store.get (fun _ => Part.blank) x.1.hst.parts j).enqueue e
    ({ x.1 with
        hst := { x.1.hst with parts := Store.put (fun _ => Part.blank) x.1.hst.parts j r.1 },
        regs := if r.2.1 then regBumpS x.1.regs (R.HST_CNT_k + 4 * 9) else x.1.regs },
      if r.2.2 then x.2 ++ [j] else x.2)
  else x

/-- The next event record: it takes the next value of the unit-wide sequence, and a raised event counts in EVT_CNT_0
(R721). -/
def EvCtx.mk' (c : EvCtx) (code : Nat) (sev : Sev) (unit : Nat) (args : List Arg) (isEnd : Bool) : EvCtx × EvRec :=
  ({ c with
      evt := { c.evt with seq := c.evt.seq + 1 },
      regs := if isEnd then c.regs else regBumpW c.regs (R.EVT_CNT_k + 0) },
    ⟨code, sev, unit, args, c.now, c.evt.seq + 1, isEnd⟩)

/-- A record reaches every queue that may see it; an overflow raises EVQ_OVERFLOW with the partition (R646, R655). -/
def EvCtx.push : Nat → EvCtx → EvRec → EvScope → EvCtx
  | 0, c, _, _ => c
  | n + 1, c, e, sc =>
    let x := (upTo 8).foldl (EvCtx.queueOne e sc) (c, [])
    x.2.foldl (fun c j =>
      let y := c.mk' Ev.EVQ_OVERFLOW .warning j [] false
      EvCtx.push n y.1 y.2 .general) x.1

/-- A record is made and queued. -/
def EvCtx.record (c : EvCtx) (code : Nat) (sev : Sev) (unit : Nat) (args : List Arg) (isEnd : Bool) (sc : EvScope) :
    EvCtx × EvRec :=
  let y := c.mk' code sev unit args isEnd
  (EvCtx.push 9 y.1 y.2 sc, y.2)

/-- The lowest free position of the active table. (DESIGN CHOICE, log 15) -/
def freePos (n : Nat) (act : List (Nat × ActEvt)) : Nat :=
  ((upTo n).find? (fun i => !act.any (fun x => x.1 = i))).getD n

/-- The active table with an entry placed in position order. (DESIGN CHOICE, log 15) -/
def placeAct (i : Nat) (a : ActEvt) (act : List (Nat × ActEvt)) : List (Nat × ActEvt) := Store.insert act i a

/-- The older of two INFO or WARNING entries, as position and sequence number; FAULT entries do not count. -/
def olderLesser (m : Option (Nat × Nat)) (x : Nat × ActEvt) : Option (Nat × Nat) :=
  if x.2.ev.sev = .fault then m
  else match m with
    | none => some (x.1, x.2.ev.seq)
    | some (i, q) => if x.2.ev.seq < q then some (x.1, x.2.ev.seq) else some (i, q)

/-- The position of the oldest INFO or WARNING entry. -/
def oldestLesser (act : List (Nat × ActEvt)) : Option Nat := (act.foldl olderLesser none).map Prod.fst

/-- ACTIVE_FULL is raised unless it is active (R721). (DEDUCED, log 138) -/
def EvCtx.full (c : EvCtx) : EvCtx :=
  if c.evt.fullActive then c
  else
    let y := c.record Ev.ACTIVE_FULL .warning 0xFF [] false .general
    { y.1 with evt := { y.1.evt with fullActive := true }, regs := regBumpS y.1.regs (R.EVT_CNT_k + 4 * 7) }

/-- An event takes its place in the active table (R719, R721). (DEDUCED, log 138) -/
def EvCtx.activate (c : EvCtx) (a : ActEvt) : EvCtx :=
  if c.evt.active.length < 256 then
    { c with evt := { c.evt with active := placeAct (freePos 256 c.evt.active) a c.evt.active } }
  else
    let c := c.full
    if a.ev.sev = .fault then
      match oldestLesser c.evt.active with
      | some i => { c with evt := { c.evt with active := placeAct i a c.evt.active } }
      | none => { c with evt := { c.evt with untracked := true } }
    else c

/-- The same event, source and arguments. -/
def EvRec.same (e : EvRec) (code unit : Nat) (args : List Arg) : Bool :=
  decide (e.code = code ∧ e.unit = unit ∧ e.args = args)

/-- An event is raised (R719, R721). (DEDUCED, log 138) -/
def EvCtx.raise (c : EvCtx) (code : Nat) (sev : Sev) (unit : Nat) (args : List Arg) (sc : EvScope) (lasting : Bool) :
    EvCtx :=
  if c.evt.active.any (fun x => x.2.ev.same code unit args) then c
  else
    let y := c.record code sev unit args false sc
    if lasting then y.1.activate ⟨y.2, sc, none⟩
    else if sev = .fault then y.1.activate ⟨y.2, sc, some (c.cnt + msCounts 1000)⟩
    else y.1

/-- ACTIVE_FULL ends once fewer than 192 entries are active (R721, R734). -/
def EvCtx.checkFull (c : EvCtx) : EvCtx :=
  if c.evt.fullActive && decide (c.evt.active.length < 192) then
    let y := c.record Ev.ACTIVE_FULL .warning 0xFF [] true .general
    { y.1 with evt := { y.1.evt with fullActive := false, untracked := false } }
  else c

/-- The active entries of a code that `p` selects end, each with an END record; entries held for 1 s are no such entries
(R719). -/
def EvCtx.endIf (c : EvCtx) (code : Nat) (p : EvRec → Bool) : EvCtx :=
  let hit := fun (x : Nat × ActEvt) => decide (x.2.ev.code = code) && x.2.expires.isNone && p x.2.ev
  let gone := c.evt.active.filter hit
  let c := { c with evt := { c.evt with active := c.evt.active.filter (fun x => !hit x) } }
  EvCtx.checkFull (gone.foldl (fun c x => (c.record code x.2.ev.sev x.2.ev.unit x.2.ev.args true x.2.scope).1) c)

/-- Entries held for 1 s that expire at `t` leave the table without an END record (R719). -/
def EvCtx.expire (c : EvCtx) (t : Nat) : EvCtx :=
  EvCtx.checkFull { c with
    evt := { c.evt with active := c.evt.active.filter (fun x =>
      match x.2.expires with
      | none => true
      | some d => decide (t < d)) } }

/-- The state after what events changed. -/
def State.withEv (s : State) (c : EvCtx) : State := { s with evt := c.evt, hst := c.hst, regs := c.regs }

/-- An event without a subject of its own in SRC and ARG beyond `unit` and `args` is raised: momentary unless `lasting`. -/
def State.raise (s : State) (code : Nat) (sev : Sev) (unit : Nat := 0xFF) (args : List Arg := [])
    (sc : EvScope := .general) (lasting : Bool := false) : State :=
  s.withEv (s.evCtx.raise code sev unit args sc lasting)

/-- Active events of a code that `p` selects end (R719). -/
def State.endEv (s : State) (code : Nat) (p : EvRec → Bool := fun _ => true) : State :=
  s.withEv (s.evCtx.endIf code p)

/-- An event of that code, source and arguments is active. -/
def State.active (s : State) (code : Nat) (p : EvRec → Bool := fun _ => true) : Bool :=
  s.evt.active.any (fun x => decide (x.2.ev.code = code) && p x.2.ev)

/-- How many active events have a severity. -/
def State.nActive (s : State) (sev : Sev) : Nat := (s.evt.active.filter (fun x => x.2.ev.sev = sev)).length

/-- FAULT_N is released (R68, R721). -/
def State.faultN (s : State) : Bool :=
  s.running && decide (s.nActive .fault = 0) && !s.evt.untracked

/-! Arguments of events (R754). -/

/-- A duration, offset or difference in ns. -/
def aNs (v : Int) : Arg := .i8 v
/-- An endpoint, channel, index, count, address, ENTRY or EPOCH. -/
def aIdx (v : Nat) : Arg := .n 4 v
/-- A node, card slot or ROLL. -/
def aHalf (v : Nat) : Arg := .n 2 v
/-- A code, cause, state, severity and the like. -/
def aCode (v : Nat) : Arg := .n 1 v
/-- An EUI-64. -/
def aEui (v : Nat) : Arg := .eui v

/-- The bytes of one argument. -/
def Arg.bytes : Arg → List Nat
  | .n w v => leBytes w v
  | .i8 v => leBytes 8 (toTwos 64 v)
  | .eui v => beBytes 8 v

/-- Arguments packed from byte 0; one that would not fit whole within 12 bytes is left out (R754). (DEDUCED, log 138) -/
def packArgs (as : List Arg) : List Nat :=
  let bs := as.foldl (fun (b : List Nat) a => if b.length + a.bytes.length ≤ 12 then b ++ a.bytes else b) []
  bs ++ List.replicate (12 - bs.length) 0

/-- The 32-byte record of R645 with `first` in word 0 and the given EFLAGS. -/
def EvRec.bytes (e : EvRec) (first flags : Nat) : List Nat :=
  leBytes 4 first ++ leBytes 2 e.code ++ [e.sev.code, flags] ++ leBytes 10 (tsPack e.time) ++ [e.unit % 256, e.code / 256]
    ++ packArgs e.args

/-- A step repeated `n` times. -/
def repeatN (f : State → State) : Nat → State → State
  | 0, s => s
  | n + 1, s => repeatN f n (f s)

end Sys2Proof.Machine
end

