-- ==== Sys2Proof/Machine/Flags.lean ====
section
/-!
DEFINITION. The checks a register access meets before it has any effect, in the order of R753 (00_scope.md), with the
states' answers of R142, R169, R170 and R752 (04_startup_configuration.md).
-/

namespace Sys2Proof.Machine
open Sys2Proof

/-- The requester is allowed the P-view (R15). -/
def privileged (s : State) (r : Requester) : Bool :=
  match r with
  | .slot j _ => match s.sys.image with
    | some im => match im.part j with
      | some pc => pc.priv
      | none => false
    | none => false
  | .uart => !s.sys.sealClosed
  | .recovery => decide (s.sys.st = .recovery)
  | .core _ => false

/-- The S-view address of an address in either view (R12). -/
def sView (a : Nat) : Nat := if 0x800000 ≤ a then a - 0x800000 else a

/-- The block number of an address: bits 23:16 of its base (R650). -/
def blockOf (a : Nat) : Nat := sView a / 0x10000

/-- Blocks that START answers reads of (R142): GLB, CFG, TIM and EVT. -/
def startBlock (b : Nat) : Bool := decide (b = 0x00 ∨ b = 0x03 ∨ b = 0x04 ∨ b = 0x13)

/-- Blocks that HALTED and RECOVERY answer reads of (R752, R170): GLB, CFG and EVT. -/
def haltBlock (b : Nat) : Bool := decide (b = 0x00 ∨ b = 0x03 ∨ b = 0x13)

/-- Registers through which the recovery session moves and commits its IMAGE region and reads HST_PART (R170).
(DEDUCED, log 24) -/
def recoveryReg (write : Bool) (a : Nat) : Bool :=
  (!write && decide (a = R.HST_PART)) || decide (R.HST_DP_ADDR_0 ≤ a ∧ a ≤ R.HST_DP_EXPECT)

/-- The answer the part's state allows: none, NOT_READY, or OK where the access goes on (R142, R752). (DEDUCED, log 24) -/
def stateAnswer (s : State) (r : Requester) (write : Bool) (a : Nat) : Option Status :=
  let uartDead := decide (r = .uart) && s.sys.sealClosed
  match r with
  | .core _ => if s.sys.st = .reset ∨ s.sys.st = .flush ∨ s.sys.st = .flushed then none else some .ok
  | _ =>
    if uartDead then none
    else match s.sys.st with
      | .reset => none
      | .flush => none
      | .flushed => none
      | .start =>
        if r = .recovery then none
        else if r ≠ .uart ∧ s.sys.phase < 9 then none
        else if !write && startBlock (blockOf a) then some .ok else some .notReady
      | .halted => if r ≠ .uart then none else if !write && haltBlock (blockOf a) then some .ok else some .notReady
      | .recovery =>
        if r ≠ .uart ∧ r ≠ .recovery then none
        else if !write && haltBlock (blockOf a) then some .ok
        else if write && decide (a = 0x800000 + R.CFG_CTRL) then some .ok
        else if recoveryReg write (sView a) then some .ok
        else some .notReady
      | .active => if r = .recovery then none else some .ok
      | .standby => if r = .recovery then none else some .ok

/-- A port's register exists on a port of its kind: PLC registers on PLC ports, radio registers on radio ports
(07_radio_ports.md). MODE: 1 PLC, 2 radio, 0 unused. -/
def portRegOk (s : State) (a : Nat) : Bool :=
  let p := (a - 0x060000) / 0x400
  let o := (a - 0x060000) % 0x400
  let mode := field (s.rg (R.RPT_p_CTRL + 0x400 * p)) 1 0
  if 0x100 ≤ o ∧ o < 0x200 then decide (mode = 1) else if 0x200 ≤ o ∧ o < 0x300 then decide (mode = 2) else true

/-- A register is defined at an S-view address (R4, R650). -/
def regDefined (s : State) (a : Nat) : Bool :=
  (findReg a).isSome && (if a / 0x10000 = 0x06 then portRegOk s a else true)

/-- The block that holds S-view address `a` is gated, closing, fused or failed (R11, R42, R106), or is a NAND channel that is
not present (R588). -/
def regGated (s : State) (a : Nat) : Bool :=
  let b := a / 0x10000
  let down := fun i => let x := s.isl i; !x.en || x.closing
  if b = 0x06 then
    let p := (a - 0x060000) / 0x400
    down (8 + p / 8) || !nbit s.sys.ports p
  else if b = 0x0F && decide (R.BEM_CH_n_0x0 ≤ a ∧ a < R.BEM_CH_n_0x0 + 0x80) then
    let n := (a - R.BEM_CH_n_0x0) / 16
    down (blockIsland b) || !nbit s.sys.nands n || !nbit ((s.sys.image.map (fun im => im.nand.chMask)).getD 0) n
  else down (blockIsland b)

/-- A core's write to a register of SLV, JQD, PEN or KEY takes a bus error (R409, R616). (DEDUCED, log 25) -/
def coreBarred (r : Requester) (b : Nat) : Bool :=
  match r with
  | .core _ => decide (b = 0x0B ∨ b = 0x0C ∨ b = 0x0D ∨ b = 0x10)
  | _ => false

/-- The first refusing condition of R753 up to row 7, or OK; none where the access is not answered at all. (DEDUCED, log 28) -/
def accessCheck (s : State) (r : Requester) (write : Bool) (a bytes : Nat) : Option Status :=
  match stateAnswer s r write a with
  | none => none
  | some st =>
    some (
      if bytes ≠ 4 ∨ a % 4 ≠ 0 then .align
      else if st ≠ .ok then st
      else if 0x800000 ≤ a ∧ !privileged s r then .denied
      else if !regDefined s (sView a) then .unmapped
      else match findReg (sView a) with
        | none => .unmapped
        | some d =>
          if a < 0x800000 ∧ d.pOnly then .denied
          else if regGated s (sView a) then .gated
          else if write ∧ (if 0x800000 ≤ a then d.wp else d.ws) = 0 then .denied
          else if write ∧ coreBarred r (blockOf a) then .denied
          else .ok)

/-- The register after a write through either view: fields writable there take the value, every other bit stays (R13). -/
def mergeWrite (old v : Word) (mask : Nat) : Word :=
  (old &&& ~~~(BitVec.ofNat 32 mask)) ||| (v &&& BitVec.ofNat 32 mask)

/-- The bits a write through the view of address `a` sets (R13). -/
def writeMask (a : Nat) : Nat :=
  match findReg (sView a) with
  | none => 0
  | some d => if 0x800000 ≤ a then d.wp else d.ws

/-- A register write: the refusing conditions of R753, then `eff` on the value written; none where the part does not answer
at all. -/
def State.tryWrite (s : State) (r : Requester) (a bytes : Nat) (v : Word) (eff : State → Word → State × Status) :
    State × Option Status :=
  match accessCheck s r true a bytes with
  | none => (s, none)
  | some .ok =>
    let x := eff s v
    (x.1, some x.2)
  | some st => (s, some st)

/-- The access is answered to its requester; a core takes a bus error where it is refused (R11, R409).
(DESIGN CHOICE, log 6; DEDUCED, log 25) -/
def State.answered (s : State) (r : Requester) (st : Option Status) (v : Word) : State :=
  match st with
  | none => s
  | some st =>
    match r with
    | .core c => if st = .ok then s.emit (.access r st v) else s.emit (.busError c)
    | _ => s.emit (.access r st v)

/-- A write command to a register with an effect of its own. -/
def State.writeRow (s : State) (r : Requester) (a : Nat) (v : Word) (eff : State → Word → State × Status) : State :=
  let x := s.tryWrite r a 4 v eff
  x.1.answered r x.2 0

/-- The key of a requester's snapshot or held word at an address (R10). -/
def heldKey (r : Requester) (a : Nat) : Nat := r.key * 2 ^ 24 + sView a

/-- The word a requester holds for a higher-order address, or the present one (R10). -/
def State.heldOr (s : State) (r : Requester) (a : Nat) (old : Word) : Word :=
  (Store.get (fun _ => none) s.heldW (heldKey r a)).getD old

/-- A held word has taken effect (R10). -/
def State.dropHeld (s : State) (r : Requester) (a : Nat) : State :=
  { s with heldW := Store.put (fun _ => none) s.heldW (heldKey r a) none }

/-- The lanes that take jobs: usable, enabled, not draining, not failed (R607, R608). -/
def State.lanesOn (s : State) : List Nat :=
  (upTo 16).filter (fun l => nbit s.sys.lanes l && nbit s.key.laneEn l && !nbit s.key.laneFailed l)

/-- A crypto lane takes host jobs (R606, R608, R614). (DESIGN CHOICE, log 118) -/
def State.laneUp (s : State) : Bool := !s.lanesOn.isEmpty && !s.key.noLoads

/-- An effect that always succeeds. -/
def okEff (f : State → Word → State) (s : State) (v : Word) : State × Status := (f s v, .ok)

end Sys2Proof.Machine
end

