-- ==== Sys2Proof/Machine/CardTime.lean ====
section
/-!
DEFINITION. Jacquard: evaluation of a card body in local civil time (13_selvedge_tariffs.md R499 to R502). Instants are
TAI seconds since the PTP epoch; every instant of a card lies on a whole minute of its local standard time.
-/

namespace Sys2Proof.Machine

/-- TAI - UTC offsets, newest first, each with the TAI second from which it holds (R353). -/
abbrev Offs := List (Nat × Int)

/-- TAI - UTC in force at a TAI second: before any announcement 37 s, the value of the spec's conversions at the PTP epoch's
convention; before the oldest announcement, the oldest announced. (DESIGN CHOICE, log 48) -/
def utcAt (o : Offs) (t : Nat) : Int :=
  match o.find? (fun e => e.1 ≤ t) with
  | some e => e.2
  | none => match o.getLast? with
    | some e => e.2
    | none => 37

/-- Local standard time of a card in seconds since 1970-01-01T00:00 local (R500). -/
def localStd (o : Offs) (c : CardBody) (t : Nat) : Nat := ((t : Int) - utcAt o t + c.stdOfs * 60).toNat

/-- Year, month and day of a day count since 1970-01-01. -/
def civil (d : Nat) : Nat × Nat × Nat :=
  let z := d + 719468
  let era := z / 146097
  let doe := z % 146097
  let yoe := (doe - doe / 1460 + doe / 36524 - doe / 146096) / 365
  let doy := doe - (365 * yoe + yoe / 4 - yoe / 100)
  let mp := (5 * doy + 2) / 153
  let day := doy - (153 * mp + 2) / 5 + 1
  let m := if mp < 10 then mp + 3 else mp - 9
  (yoe + era * 400 + (if m ≤ 2 then 1 else 0), m, day)

/-- Day count since 1970-01-01 of a date. -/
def dayCount (y m d : Nat) : Nat :=
  let y' := if m ≤ 2 then y - 1 else y
  let era := y' / 400
  let yoe := y' % 400
  let mp := if 2 < m then m - 3 else m + 9
  let doy := (153 * mp + 2) / 5 + d - 1
  era * 146097 + (yoe * 365 + yoe / 4 - yoe / 100 + doy) - 719468

/-- Weekday of a day count, 0 = Sunday. -/
def weekday (d : Nat) : Nat := (d + 4) % 7

/-- Day count of a rule's date in a year: the WEEK-th, or for 5 the last, WEEKDAY of the month (R499, R500). -/
def ruleDay (r : DstRule) (y : Nat) : Nat :=
  if r.week < 5 then
    let first := dayCount y r.month 1
    first + (r.weekday + 7 - weekday first) % 7 + 7 * (r.week - 1)
  else
    let next := if r.month = 12 then dayCount (y + 1) 1 1 else dayCount y (r.month + 1) 1
    let last := next - 1
    last - (weekday last + 7 - r.weekday) % 7

/-- Daylight time is in force at a local standard second (R500): from DST_START to DST_END of each year. -/
def inDst (c : CardBody) (std : Nat) : Bool :=
  if c.dstOfs = 0 then false
  else
    let y := (civil (std / 86400)).1
    let s := ruleDay c.dstStart y * 86400 + c.dstStart.minute * 60
    let e := ruleDay c.dstEnd y * 86400 + c.dstEnd.minute * 60 - c.dstOfs * 60
    if s ≤ e then decide (s ≤ std ∧ std < e) else decide (s ≤ std ∨ std < e)

/-- Local time of a card in seconds since 1970-01-01T00:00 local (R500). -/
def localSec (o : Offs) (c : CardBody) (t : Nat) : Nat :=
  let std := localStd o c t
  std + (if inDst c std then c.dstOfs * 60 else 0)

/-- Local date as a day count. -/
def localDay (o : Offs) (c : CardBody) (t : Nat) : Nat := localSec o c t / 86400

/-- The index of the season in force on a month and day (R500): the latest start on or before it, else the latest start. -/
def seasonAt (c : CardBody) (m d : Nat) : Nat :=
  let ss := (c.seasons.take c.nseasons).zipIdx
  let key := fun (s : Season × Nat) => s.1.month * 32 + s.1.day
  let pick := fun (l : List (Season × Nat)) =>
    (l.foldl (fun (b : Option (Season × Nat)) s => match b with
      | none => some s
      | some x => if key x ≤ key s then some s else some x) none).map Prod.snd
  match pick (ss.filter (fun s => key s ≤ m * 32 + d)) with
  | some i => i
  | none => (pick ss).getD 0

/-- The day type of a local date (R500). -/
def dayType (c : CardBody) (day : Nat) : Nat :=
  let ymd := civil day
  if (c.holidays.take c.nhol).any (fun h => h = ymd) then c.holDt
  else
    match c.seasons[seasonAt c ymd.2.1 ymd.2.2]? with
    | some s => s.types.getD (weekday day) 0
    | none => 0

/-- The rate that a card puts in force at a TAI second (R500). -/
def rateAt (o : Offs) (c : CardBody) (t : Nat) : Nat :=
  let l := localSec o c t
  let ymd := civil (l / 86400)
  let prof := c.profiles.getD (4 * seasonAt c ymd.2.1 ymd.2.2 + dayType c (l / 86400)) []
  prof.foldl (fun r e => if e.1 * 60 ≤ l % 86400 then e.2 else r) 0

/-- A demand interval of a card ends at a TAI second (R501). -/
def isDemandEnd (o : Offs) (c : CardBody) (t : Nat) : Bool := decide (localStd o c t % (60 * c.demandMin) = 0)

/-- A legal day of a card closes at a TAI second (R501): the first instant whose local date is reached. -/
def isDayClose (o : Offs) (c : CardBody) (t : Nat) : Bool :=
  let d := localDay o c t
  decide (localStd o c t % 60 = 0) && decide (60 ≤ t) && decide (localDay o c (t - 60) < d) &&
    (upTo c.dstOfs).all (fun k => decide (localDay o c (t - 60 * (k + 1)) < d))

/-- The rate changes at a TAI second. -/
def isSwitch (o : Offs) (c : CardBody) (t : Nat) : Bool :=
  decide (1 ≤ t) && decide (rateAt o c t ≠ rateAt o c (t - 1))

/-- The first end of a demand interval at or after a TAI second. -/
def nextDemandEnd (o : Offs) (c : CardBody) (t : Nat) : Nat :=
  let p := 60 * c.demandMin
  let x := localStd o c t % p
  let u := t + (p - x)
  if x = 0 then t else ((u : Int) + utcAt o u - utcAt o t).toNat

/-- The start of the demand interval that ends at a TAI second; a leap second lengthens an interval by 1 s (R500, R501). -/
def intervalStart (o : Offs) (c : CardBody) (e : Nat) : Nat :=
  let st := e - 60 * c.demandMin
  ((st : Int) - (utcAt o e - utcAt o st)).toNat

/-- Cards in force by contract history, newest first: the body in force for instants after the one given (R502, R506). -/
def cardAfter (h : List (Nat × CardBody)) (t : Nat) : CardBody :=
  match h.find? (fun e => e.1 ≤ t) with
  | some e => e.2
  | none => CardBody.default

/-- The body in force just before an instant. -/
def cardBefore (h : List (Nat × CardBody)) (t : Nat) : CardBody :=
  match h.find? (fun e => e.1 < t) with
  | some e => e.2
  | none => CardBody.default

/-- What happens at an instant under a contract's cards (R501, R506, R508). -/
structure Kinds where
  demandEnd : Bool
  switch : Bool
  dayClose : Bool
  activation : Bool
  deriving DecidableEq, Repr

/-- Something happens. -/
def Kinds.any (k : Kinds) : Bool := k.demandEnd || k.switch || k.dayClose || k.activation

/-- The instant settles something (R496): a demand end or a day close; an activation closes the superseded card's day. -/
def Kinds.settles (k : Kinds) : Bool := k.demandEnd || k.dayClose

/-- The kinds of a TAI second under a contract's history; `act` says that a card activates at it (R506). -/
def kindsAt (o : Offs) (h : List (Nat × CardBody)) (act : Bool) (t : Nat) : Kinds :=
  let c := cardBefore h t
  let a := act || h.any (fun e => e.1 = t)
  ⟨isDemandEnd o c t, isSwitch o c t, isDayClose o c t || a, a⟩

/-- A profile is in use (R504). -/
def profileInUse (c : CardBody) (i : Nat) : Bool :=
  let s := i / 4
  let d := i % 4
  decide (s < c.nseasons) &&
    (((c.seasons[s]?).map (fun x => x.types.any (fun t => t = d))).getD false || (decide (0 < c.nhol) && decide (c.holDt = d)))

/-- A daylight-saving rule is in range (R499). -/
def ruleOk (r : DstRule) : Bool :=
  decide (1 ≤ r.month ∧ r.month ≤ 12 ∧ 1 ≤ r.week ∧ r.week ≤ 5 ∧ r.weekday ≤ 6 ∧ r.minute < 1440)

/-- The days of a month of a year. -/
def monthDays (y m : Nat) : Nat :=
  (if m = 12 then dayCount (y + 1) 1 1 else dayCount y (m + 1) 1) - dayCount y m 1

/-- Minutes rise strictly, the first is 0, and rates are below NRATES. -/
def profileOk (n : Nat) (p : List (Nat × Nat)) : Bool :=
  decide (1 ≤ p.length ∧ p.length ≤ 16) && decide ((p.head?).map Prod.fst = some 0) &&
    (p.zip (p.drop 1)).all (fun x => decide (x.1.1 < x.2.1)) && p.all (fun e => decide (e.1 < 1440 ∧ e.2 < n))

/-- Check CARD_FORMAT (R499, R504). -/
def cardFormat (c : CardBody) : Bool :=
  decide (c.cver = 1) && decide (1 ≤ c.contract ∧ c.contract ≤ 4095) && decide (c.demandMin ∈ [1, 5, 10, 15, 30, 60]) &&
    decide (1 ≤ c.nrates ∧ c.nrates ≤ 8) && decide (c.mdReset ≤ 28) && decide (1 ≤ c.nseasons ∧ c.nseasons ≤ 4) &&
    decide (-720 ≤ c.stdOfs ∧ c.stdOfs ≤ 840) && decide (c.dstOfs ≤ 120) && decide (c.nhol ≤ 32) && decide (c.holDt ≤ 3) &&
    (decide (c.dstOfs = 0) || (ruleOk c.dstStart && ruleOk c.dstEnd)) &&
    decide (c.nseasons ≤ c.seasons.length) && decide (c.nhol ≤ c.holidays.length) &&
    (c.seasons.take c.nseasons).all (fun s => decide (1 ≤ s.month ∧ s.month ≤ 12 ∧ 1 ≤ s.day ∧ s.day ≤ 31) &&
      decide (s.types.length = 7) && s.types.all (fun t => decide (t ≤ 3))) &&
    (c.holidays.take c.nhol).all (fun h => decide (1 ≤ h.2.1 ∧ h.2.1 ≤ 12 ∧ 1 ≤ h.2.2 ∧ h.2.2 ≤ 31)) &&
    (upTo 16).all (fun i => !profileInUse c i || profileOk c.nrates (c.profiles.getD i []))

/-- Check CARD_ALIGN (R504). -/
def cardAlign (c : CardBody) : Bool :=
  decide (c.dstOfs % c.demandMin = 0) &&
    (upTo 16).all (fun i => !profileInUse c i || (c.profiles.getD i []).all (fun e => decide (e.1 % c.demandMin = 0)))

end Sys2Proof.Machine
end

