-- ==== Sys2Proof/Machine/PairOps.lean ====
section
/-!
DEFINITION. Shared operations of the Pair Link (19_redundant_pair.md): sending frames (R685 to R688), and mirroring legal
journal records (R699, R705).
-/

namespace Sys2Proof.Machine
open Sys2Proof

/-- The frame type is reliable (R686). -/
def PairBody.reliable : PairBody → Bool
  | .hello _ _ _ => false
  | .heartbeat _ => false
  | .relinquish _ => false
  | _ => true

/-- The frame type is sealed once both units hold one PKWK (R688). -/
def PairBody.sealable : PairBody → Bool
  | .hello _ _ _ => false
  | .keyReq => false
  | .keyXfer _ => false
  | _ => true

/-- The peer can be sent to: a lane has block lock, with the pair enabled (R689) and the lanes not idle on the IRC (R98). -/
def State.pairUp (s : State) : Bool := s.sys.pairEn && !s.clk.irc && (s.par.lane0 || s.par.lane1)

/-- Both units hold a PKWK of one generation (R688). -/
def State.pairKeyed (s : State) : Bool :=
  match s.key.pkwk with
  | some k => decide (k.pgen = s.par.peerPgen)
  | none => false

/-- A frame as it leaves (R685). -/
def State.pairFrame (s : State) (fseq : Nat) (b : PairBody) : PairFrame :=
  ⟨b.sealable && s.pairKeyed, fseq, s.par.fack, b⟩

/-- The lane frames go on: lane 0 while it has lock (R689). -/
def State.pairLane (s : State) : Nat := if s.par.lane0 then 0 else 1

/-- Frames that may be unacknowledged at once (R687). -/
def pairWindow : Nat := 1024

/-- A frame is sent on one lane; a reliable one takes the next FSEQ and is kept until acknowledged, and waits while 1,024 are
unacknowledged (R687). (DESIGN CHOICE, log 132) -/
def State.pairSend (s : State) (b : PairBody) : State :=
  if !s.sys.pairEn then s
  else
    let n := if b.reliable then s.par.fseq + 1 else 0
    let f := s.pairFrame n b
    let go := s.pairUp && (!b.reliable || decide (s.par.unacked.length < pairWindow))
    let par := if b.reliable then { s.par with fseq := n, unacked := s.par.unacked ++ [f] } else s.par
    { s with par := par, out := if go then s.out ++ [.pair s.pairLane f] else s.out }

/-- A content of `len` bytes leaves in as many consecutive frames as its parts of 8,192 bytes take (R685, R686).
(DESIGN CHOICE, log 132) -/
def State.pairParts (s : State) (len : Nat) (mk : Piece → PairBody) : State :=
  let n := max 1 ((len + 8191) / 8192)
  (upTo n).foldl (fun s i => s.pairSend (mk ⟨i, n⟩)) s

/-- Parts held once part `p` has arrived over `got` of them, and whether the content is then complete; parts arrive in order, and part
0 starts a content (R686, R687). (DESIGN CHOICE, log 132) -/
def Piece.arrive (p : Piece) (got : Nat) : Nat × Bool :=
  if p.no ≠ 0 ∧ p.no ≠ got then (0, false)
  else if p.of_ ≤ p.no + 1 then (0, true)
  else (p.no + 1, false)

/-- A frame is sent on both lanes (R690, R710). -/
def State.pairBoth (s : State) (b : PairBody) : State :=
  if !s.pairUp then s
  else
    let f := s.pairFrame 0 b
    let l0 := if s.par.lane0 then [Out.pair 0 f] else []
    let l1 := if s.par.lane1 then [Out.pair 1 f] else []
    { s with out := s.out ++ l0 ++ l1 }

/-- Record types that are mirrored (R699). -/
def JBody.mirrored : JBody → Bool
  | .ckpt _ _ => false
  | .start _ _ _ _ => false
  | .event _ _ => false
  | _ => true

/-- Bytes of a record in the backlog ring. (DESIGN CHOICE, log 10) -/
def JRec.len (r : JRec) : Nat := 32 + Config.recLen r.jseq

/-- Bytes in the backlog ring (R705, R715). -/
def ringBytes (rs : List JRec) : Nat := rs.foldl (fun n r => n + r.len) 0

/-- A record leaves in MIRROR frames: one, or one for each part of a longer record (R686). -/
def State.mirrorSend (s : State) (r : JRec) : State := s.pairParts r.len (PairBody.mirror [r])

/-- The peer takes mirrored records: it is LIVE, or a resynchronisation is being served (R699, R706). -/
def State.mirrors (s : State) : Bool :=
  s.sys.pairEn && decide (s.sys.st = .active) && (decide (s.par.peerSync = .live) || s.par.serving.isSome)

/-- A record that the active unit journals goes to the standby, or to the ring while the link is down; a ring that overflows
sets the standby's SYNC to NONE (R699, R705). -/
def State.mirrorOut (s : State) (r : JRec) : State :=
  let stale := s.sys.pairEn && decide (s.sys.st = .active) && decide (s.par.peerSync = .stale)
  if !r.body.mirrored || !(s.mirrors || stale) then s
  else
    let ring := s.par.ring ++ [r]
    if 268435456 < ringBytes ring then { s with par := { s.par with ring := [], peerSync := .none_, serving := none } }
    else
      let s := { s with par := { s.par with ring := ring } }
      if stale then s else { s with par := { s.par with mjseq := r.jseq } }.mirrorSend r

/-- A campaign's descriptor and image leave in CAMPAIGN frames (R674, R675, R686). -/
def State.campSend (s : State) (c : Campaign) : State :=
  s.pairParts (64 + 4 * c.targets.length + c.size) (PairBody.campaign c)

/-- A changed key table entry goes to the standby before its new content is used (R703). (DEDUCED, log 116) -/
def State.sendKey (s : State) (ep : Nat) : State :=
  if s.sys.pairEn && decide (s.sys.st = .active) && decide (s.par.peerSync ≠ .none_) then
    s.pairSend (.keyent [(ep, Store.get (fun _ => KeyEntry.blank) s.key.table ep)])
  else s

end Sys2Proof.Machine
end

