-- ==== Sys2Proof/Machine/Legal.lean ====
section
/-!
DEFINITION. Shared operations of Selvedge (13_selvedge_tariffs.md): journaling a record (R512 to R514), the audit log
(R520), device and channel holds (R521 to R523), what a contract's cards say, and the pure bookkeeping of a channel:
crediting (R489, R490), settling (R496 to R498) and booking a span (R494, R495).
-/

namespace Sys2Proof.Machine
open Sys2Proof

/-! Channels, cards and the image's legal section. -/

/-- Legal state of a channel. -/
def State.lch (s : State) (ch : Chid) : LChan := Store.get (fun _ => LChan.blank) s.slv.chans ch

/-- A channel's legal state becomes `c`. -/
def State.setLch (s : State) (ch : Chid) (c : LChan) : State :=
  { s with slv := { s.slv with chans := Store.put (fun _ => LChan.blank) s.slv.chans ch c } }

/-- Card slot `i`. -/
def State.card (s : State) (i : Nat) : CardSlot := Store.get (fun _ => CardSlot.blank) s.slv.cards i

/-- Card slot `i` becomes `c`. -/
def State.setCard (s : State) (i : Nat) (c : CardSlot) : State :=
  { s with slv := { s.slv with cards := Store.put (fun _ => CardSlot.blank) s.slv.cards i c } }

/-- The contract of a channel's endpoint; 0 without an image. -/
def State.contractOf (s : State) (e : Nat) : Nat :=
  match s.sys.image with
  | some im => im.contractOf e
  | none => 0

/-- Every contract that forms boundaries: contract 0 and those of the LEGAL section (R502). -/
def State.contracts (s : State) : List Nat :=
  match s.sys.image with
  | some im => 0 :: (im.contracts.map ContractCfg.num).filter (fun c => c ≠ 0)
  | none => [0]

/-- The history of cards in force of a contract, newest first. -/
def State.cardHist (s : State) (c : Nat) : List (Nat × CardBody) := Store.get (fun _ => []) s.slv.force c

/-- Every channel the image enables. -/
def State.chids (s : State) : List Chid :=
  match s.sys.image with
  | some im => im.chids
  | none => []

/-- LEGAL_WIN in seconds (R532). -/
def State.legalWin (s : State) : Nat := field (s.rg R.SLV_CFG) 31 16 * 60

/-- The modulus M of a channel (R487). -/
def State.modulus (s : State) (ch : Chid) : Nat :=
  match s.sys.image with
  | some im => match im.legal ch with
    | some l => 10 ^ l.n
    | none => 10 ^ 9
  | none => 10 ^ 9

/-! Journal. -/

/-- Device-level legal state as a record's after-image. -/
def Slv.glob (v : Slv) : LGlob :=
  { cards := v.cards, force := v.force, bound := v.lastB, days := v.days, dayOpen := v.dayOpen, seals := v.seals,
    sealNo := v.sealNo, sealLast := v.sealLast, outs := v.outs.map (fun o => (o.1, o.2.acc, o.2.emitted)),
    causes := v.causes, devHolds := v.devHolds, outsFor := v.outsFor }

/-- The next hold sequence number (R204): 1 for the first record of a hold, then +1, sticking. -/
def nextHseq (v : Slv) : Nat := if v.hNew then 1 else min 0xFFFFFFFF (v.hseq + 1)

/-- The record that the next journaled body makes (R512). -/
def State.jrec (s : State) (b : JBody) (post : List LPost) : JRec :=
  let hold := decide (s.slv.ltSt = .hold)
  { jseq := s.slv.jseq + 1, time := s.legalNs, hseq := if hold then nextHseq s.slv else 0, setback := hold,
    irc := s.ircFlag, debug := s.sys.dbgEn, body := b, post := post }

/-- A record is journaled: it enters the legal journal buffer (R512, R514), and on the active unit of a pair it is mirrored
(R699). (DESIGN CHOICE, log 96) -/
def State.journal (s : State) (b : JBody) (post : List LPost := []) : State :=
  let r := s.jrec b post
  State.mirrorOut { s with
    slv := { s.slv with
      jseq := s.slv.jseq + 1
      jbuf := s.slv.jbuf ++ [r]
      hseq := if s.slv.ltSt = LtSt.hold then nextHseq s.slv else s.slv.hseq
      hNew := if s.slv.ltSt = LtSt.hold then false else s.slv.hNew } } r

/-- The legal journal buffer's 4 MiB hold no further record (R34, R514): Selvedge takes no reading while it is full.
(DESIGN CHOICE, log 96) -/
def State.jbufFull (s : State) : Bool := decide (4194304 ≤ (s.slv.jbuf.map JRec.len).sum)

/-- Selvedge journals from phase 6 onward (R161, R168), and a standby's Selvedge only books mirrored records (R700). -/
def State.journals (s : State) : Bool :=
  decide (s.sys.st = .active) || (decide (s.sys.st = .start) && decide (6 ≤ s.sys.phase))

/-- A record of the unit's own is journaled: from phase 6 onward, and on a standby too (R522, R701). -/
def State.journalIf (s : State) (b : JBody) (post : List LPost := []) : State :=
  if s.journals || decide (s.sys.st = .standby) then s.journal b post else s

/-- The capacity of the audit log (R520). -/
def auditMax : Nat := 8388608

/-- An audit record is taken; a full log takes none (R520). At 90 % AUDIT_NEAR_FULL is raised. (DEDUCED, log 97) -/
def State.auditRaw (s : State) (a : Audit) : State :=
  if auditMax ≤ s.slv.auditUsed then s
  else
    let s := { s with slv := { s.slv with auditUsed := s.slv.auditUsed + 1 }, nand := { s.nand with audit := s.nand.audit ++ [a] } }
    let s := s.cntS (R.SLV_CNT_k + 4 * 10)
    if 9 * auditMax ≤ 10 * s.slv.auditUsed && !s.slv.nearFull then
      let s := { s with slv := { s.slv with nearFull := true } }
      (s.journalIf (.event Ev.AUDIT_NEAR_FULL 0) []).raise Ev.AUDIT_NEAR_FULL .warning (lasting := true)
    else s

/-! Holds. -/

/-- Device-wide LEGAL_HOLD is in force. -/
def State.devHold (s : State) : Bool := decide (s.slv.causes ≠ 0)

/-- A cause of the unit's own that stops mirroring on a standby (R701); JOURNAL_LOST and NAND_FOREIGN end by resynchronisation
(R522), and AUTHORITY is mirrored. -/
def ownCause (bit : Nat) : Bool := !decide (bit = 4 ∨ bit = 5 ∨ bit = 10)

/-- A device-wide cause is set without an audit record (R522). On a standby, a cause of its own makes SYNC read HELD (R701). -/
def State.setCauseRaw (s : State) (bit : Nat) : State :=
  if nbit s.slv.causes bit then s
  else
    let s := { s with slv := { s.slv with
      causes := setNbit s.slv.causes bit true, devHolds := (bit, s.legalNs, none) :: s.slv.devHolds } }
    let s := s.journalIf (.hold none bit true none) [.glob s.slv.glob]
    let s := if ownCause bit && decide (s.sys.st = .standby) then
        { s with par := { s.par with sync := .held } }
      else s
    s.raise Ev.LEGAL_HOLD_DEV .fault (args := [aCode bit]) (lasting := true)

/-- An audit record; a log that becomes full starts the device-wide hold AUDIT_FULL (R520). (DEDUCED, log 97) -/
def State.audit (s : State) (a : Audit) : State :=
  let s := s.auditRaw a
  if auditMax ≤ s.slv.auditUsed then s.setCauseRaw 9 else s

/-- A device-wide cause is set (R522): journaled, audited, and LEGAL_HOLD_DEV raised. -/
def State.setCause (s : State) (bit : Nat) : State :=
  if nbit s.slv.causes bit then s else (s.setCauseRaw bit).audit (.hold bit true)

/-- A device-wide cause ends (R522). -/
def State.clearCause (s : State) (bit : Nat) : State :=
  if !nbit s.slv.causes bit then s
  else
    let now := s.legalNs
    let s := { s with slv := { s.slv with
      causes := setNbit s.slv.causes bit false,
      devHolds := s.slv.devHolds.map (fun (h : Nat × Nat × Option Nat) => if h.1 = bit ∧ h.2.2 = none then (h.1, h.2.1, some now) else h) } }
    let s := s.journalIf (.hold none bit false none) [.glob s.slv.glob]
    let s := s.audit (.hold bit false)
    let s := s.endEv Ev.LEGAL_HOLD_DEV (fun e => decide (e.args = [aCode bit]))
    let s := if bit = 0 then s.endEv Ev.UNSEALED else s
    if bit = 1 then s.endEv Ev.SEAL_MISMATCH else s

/-- A channel is in LEGAL_HOLD (R523). -/
def LChan.held (c : LChan) : Bool := c.holdRoll || c.holdAuth

/-- A channel enters LEGAL_HOLD with cause ROLL_LIMIT (0) or AUTHORITY (1) (R523). -/
def State.holdChan (s : State) (ch : Chid) (cause : Nat) (ex : Option Excess := none) : State :=
  let c := s.lch ch
  let fresh := if cause = 0 then !c.holdRoll else !c.holdAuth
  let c' := { c with
    holdRoll := c.holdRoll || decide (cause = 0), holdAuth := c.holdAuth || decide (cause = 1),
    holds := if c.held then c.holds else (s.legalNs, none) :: c.holds }
  let s := s.setLch ch c'
  let s := s.journalIf (.hold (some ch) cause true ex) [.chan ch c']
  let s := if fresh then s.audit (.hold cause true) else s
  s.raise Ev.LEGAL_HOLD_CH .warning (args := [aIdx ch]) (sc := .endpoint (Chid.ep ch)) (lasting := true)

/-! Bookkeeping of one channel. -/

/-- What bookkeeping reports beside the channel's new state. -/
inductive Note where
  | rollover (obj roll : Nat)
  | estSat (obj : Nat)
  | rollLimit (ex : Excess)
  | mdSat (obj : Nat)
  | booked (obj q : Nat)
  deriving DecidableEq, Repr

/-- A channel being booked or settled. -/
structure Book where
  c : LChan
  notes : List Note
  parts : List Part'
  mds : List (Nat × MaxDem)
  excluded : Nat
  settles : Nat
  deriving DecidableEq, Repr

/-- What booking reads beside the channel (spans of L in ns; boundary instants in TAI seconds). -/
structure BookCtx where
  offs : Offs
  hist : List (Nat × CardBody)
  m : Nat
  outage : Option (Nat × Nat)
  devHolds : List (Nat × Nat × Option Nat)
  held : Bool

/-- The largest EST (R487). -/
def estMax : Nat := 2 ^ 52 - 1

/-- A total of the channel. -/
def LChan.total (c : LChan) (obj : Nat) : Total := Store.get (fun _ => Total.zero) c.totals obj

/-- A maximum-demand record of the channel. -/
def LChan.md (c : LChan) (obj : Nat) : MaxDem := Store.get (fun _ => MaxDem.zero) c.mds obj

/-- `booked` quanta of a credit enter VALUE's companion EST where the credit is estimated (R489). -/
def addEst (c : LChan) (obj booked : Nat) (est : Bool) : LChan × List Note :=
  if !est ∨ booked = 0 then (c, [])
  else
    let t := c.total obj
    let past := decide (estMax < t.est + booked)
    let c' := { c with
      totals := Store.put (fun _ => Total.zero) c.totals obj { t with est := min estMax (t.est + booked) },
      estSat := if past then setNbit c.estSat obj true else c.estSat }
    (c', if past && !nbit c.estSat obj then [.estSat obj] else [])

/-- Crediting q quanta to a total (R489, R490). (DEDUCED, log 91) -/
def creditOne (m : Nat) (c : LChan) (obj q : Nat) (est : Bool) : LChan × List Note :=
  if q = 0 then (c, [])
  else
    let t := c.total obj
    if 0xFFFF ≤ t.roll then ({ c with excess := c.excess ++ [⟨obj, q, est⟩] }, [.rollLimit ⟨obj, q, est⟩])
    else
      let v := t.value + q
      let k := v / m
      if t.roll + k < 0xFFFF then
        let c' := { c with totals := Store.put (fun _ => Total.zero) c.totals obj { t with value := v % m, roll := t.roll + k } }
        let e := addEst c' obj q est
        (e.1, (upTo k).map (fun i => Note.rollover obj (t.roll + 1 + i)) ++ e.2 ++ [.booked obj q])
      else
        let kk := 0xFFFE - t.roll
        let left := v - kk * m - (m - 1)
        let ex : Excess := ⟨obj, left, est⟩
        let c' := { c with
          totals := Store.put (fun _ => Total.zero) c.totals obj { t with value := m - 1, roll := 0xFFFF },
          excess := c.excess ++ [ex] }
        let e := addEst c' obj (q - left) est
        (e.1, (upTo kk).map (fun i => Note.rollover obj (t.roll + 1 + i)) ++ e.2 ++ [.booked obj (q - left), .rollLimit ex])

/-- Two spans (a, b] and [f, g) meet, in ns; a span without an end is open. -/
def spanMeets (a b f : Nat) (g : Option Nat) : Bool :=
  decide (f < b) && (match g with
    | none => true
    | some g => decide (a < g))

/-- The span (a, b] in TAI seconds meets the outage span (R495). -/
def BookCtx.inOutage (x : BookCtx) (a b : Nat) : Bool :=
  match x.outage with
  | none => false
  | some o => spanMeets (a * second) (b * second) o.1 (some o.2)

/-- The span (a, b] in TAI seconds meets a device-wide or channel hold (R497). (DEDUCED, log 92) -/
def BookCtx.inHold (x : BookCtx) (c : LChan) (a b : Nat) : Bool :=
  x.devHolds.any (fun h => spanMeets (a * second) (b * second) h.2.1 h.2.2) ||
    c.holds.any (fun h => spanMeets (a * second) (b * second) h.1 h.2)

/-- The demand settlement of the interval that ends at e (R497). (DEDUCED, log 92) -/
def settleDemand (x : BookCtx) (w : Book) (e : Nat) (expired : Bool) : Book :=
  let card := cardBefore x.hist e
  let st := intervalStart x.offs card e
  let acc := (w.c.acc.find? (fun a => a.e = e)).getD ⟨e, 0, 0, true⟩
  let c := { w.c with acc := w.c.acc.filter (fun a => a.e ≠ e) }
  let ok := !expired && acc.ok && decide (w.c.anchorAt ≤ st) && !x.inOutage st e && !x.inHold w.c st e && !x.held
  if !ok then { w with c := c, excluded := w.excluded + 1, settles := w.settles + 1 }
  else
    let tar := rateAt x.offs card st
    let upd := fun (w : Book) (obj q : Nat) =>
      if (w.c.md obj).value < q then
        let md : MaxDem := ⟨min 0xFFFFFFFF q, decide (0xFFFFFFFF < q), st / 60 % 2 ^ 31⟩
        { w with
          c := { w.c with mds := Store.put (fun _ => MaxDem.zero) w.c.mds obj md },
          mds := w.mds ++ [(obj, md)],
          notes := if 0xFFFFFFFF < q then w.notes ++ [.mdSat obj] else w.notes }
      else w
    let w := { w with c := c, settles := w.settles + 1 }
    upd (upd w (2 * tar) acc.f) (2 * tar + 1) acc.r

/-- The day-close settlement at e (R498): the block is taken, and on the MD_RESET day the maximum-demand records are reset,
unless a hold keeps the registers from changing (R521, R523). (DEDUCED, log 92) -/
def settleDay (x : BookCtx) (w : Book) (e : Nat) (expired : Bool) : Book :=
  let card := cardBefore x.hist e
  let blk : DayBlock := ⟨e, w.c.totals, w.c.mds, false, expired⟩
  let reset := decide (card.mdReset ≠ 0) && decide ((civil (localDay x.offs card e)).2.2 = card.mdReset) && !x.held && !w.c.held
  { w with
    c := { w.c with blocks := w.c.blocks ++ [blk], mds := if reset then [] else w.c.mds },
    settles := w.settles + 1 }

/-- The channel settles at e (R496): the demand interval first, then the day close. -/
def settleOne (x : BookCtx) (w : Book) (e : Nat) (k : Kinds) (expired : Bool) : Book :=
  let w := if k.demandEnd then settleDemand x w e expired else w
  let w := if k.dayClose then settleDay x w e expired else w
  { w with c := { w.c with settled := e } }

/-- The whole-minute instants after t, in TAI seconds: the next one. -/
def nextMinute (o : Offs) (t : Nat) : Nat :=
  let x := (((t : Int) - utcAt o t) % 60).toNat
  t + (60 - x)

/-- The whole-minute instants strictly between t and stop. -/
def minutesFrom (o : Offs) : Nat → Nat → Nat → List Nat
  | 0, _, _ => []
  | n + 1, t, stop =>
    let u := nextMinute o t
    if u < stop then u :: minutesFrom o n u stop else []

/-- The instants in (a, b) at which something of the card happens. -/
def cutsIn (x : BookCtx) (a b : Nat) : List Nat :=
  (minutesFrom x.offs ((b - a) / 60 + 2) a b).filter (fun t => (kindsAt x.offs x.hist false t).any)

/-- The channel settles at every settlement instant after `settled` and up to `lim` (R496). -/
def settleUpTo (x : BookCtx) (w : Book) (lim : Nat) (expired : Bool) : Book :=
  (minutesFrom x.offs ((lim - w.c.settled) / 60 + 2) w.c.settled (lim + 1)).foldl (fun w e =>
    let k := kindsAt x.offs x.hist false e
    if k.settles then settleOne x w e k expired else w) w

/-- One part (a, b] of a span is credited (R494, R495), and the channel settles at b where b settles. -/
def bookPart (x : BookCtx) (from_ to_ : Nat) (est : Bool) (w : Book) (a b qF qR : Nat) : Book :=
  let card := cardAfter x.hist a
  let tar := rateAt x.offs card a
  let out := x.inOutage a b
  let e' := est || out
  let r1 := creditOne x.m w.c (2 * tar) qF e'
  let r2 := creditOne x.m r1.1 (2 * tar + 1) qR e'
  let dEnd := nextDemandEnd x.offs card b
  let old := (r2.1.acc.find? (fun d => d.e = dEnd)).getD ⟨dEnd, 0, 0, true⟩
  let ok := old.ok && !e' && decide (intervalStart x.offs card dEnd ≤ from_) && decide (to_ ≤ dEnd)
  let c := { r2.1 with acc := r2.1.acc.filter (fun d => d.e ≠ dEnd) ++ [⟨dEnd, old.f + qF, old.r + qR, ok⟩] }
  let w := { w with c := c, notes := w.notes ++ r1.2 ++ r2.2,
                    parts := w.parts ++ [⟨tar, 0, qF, e', out⟩, ⟨tar, 1, qR, e', out⟩] }
  let k := kindsAt x.offs x.hist false b
  if k.settles && decide (w.c.settled < b) then settleOne x w b k false else w

/-- A span (a, b] with quantities per direction is booked in parts (R494), after the instants up to its start that a re-anchored
reading passed over have settled (R492 step 6, R496). (DEDUCED, log 92) -/
def bookSpan (x : BookCtx) (c : LChan) (a b qF qR : Nat) (est : Bool) : Book :=
  let t := b - a
  let cuts := cutsIn x a b ++ [b]
  let starts := a :: cuts
  (starts.zip cuts).foldl (fun (w : Book) p =>
    let f := fun q => q * (p.2 - a) / t - q * (p.1 - a) / t
    bookPart x a b est w p.1 p.2 (f qF) (f qR)) (settleUpTo x ⟨c, [], [], [], 0, 0⟩ a false)

/-- The cards that Jacquard evaluates for a contract, newest first: those in force and the PENDING one from its activation on, which a
reading may reach up to 120 s before L does (R492, R505). (DEDUCED, log 92) -/
def State.cardPlan (s : State) (c : Nat) : List (Nat × CardBody) :=
  let pend := s.slv.cards.filter (fun (x : Nat × CardSlot) => x.2.st = .pending ∧ x.2.body.contract = c)
  pend.map (fun (x : Nat × CardSlot) => (x.2.body.actAt / second, x.2.body)) ++ s.cardHist c

/-- The booking context of a channel. -/
def State.bookCtx (s : State) (ch : Chid) : BookCtx :=
  { offs := s.tim.utcOffs, hist := s.cardPlan (s.contractOf (Chid.ep ch)), m := s.modulus ch, outage := s.slv.outage,
    devHolds := s.slv.devHolds, held := s.devHold }

/-- The advance of a total by R430's monotonic rule, none where it fails. -/
def monoDelta (m last t : Nat) : Option Nat :=
  if m ≤ t then none
  else if last ≤ t then some (t - last)
  else if m / 2 < last - t then some (t + m - last)
  else none

end Sys2Proof.Machine
end

