-- ==== Sys2Proof/Machine/HostOps.lean ====
section
/-!
DEFINITION. Shared operations of the host link (17_host_link_registers.md, 18_host_objects_roles.md): accepting and sending
datagrams (R622 to R629), data-space regions and their pages (R635 to R637), rights and scope (R656 to R659), and taking
and answering object requests (R660 to R667).
-/

namespace Sys2Proof.Machine
open Sys2Proof

/-! Datagrams. -/

/-- The IPv6 link-local address that an EUI-64 gives: fe80::/64 with the EUI-64 as interface identifier, its universal bit inverted
(R170; RFC 4291). (PRESUMED, log 152) -/
def linkLocal (eui : Nat) : Nat := 0xFE80 * 2 ^ 112 + setNbit (eui % 2 ^ 64) 57 (!nbit eui 57)

/-- E0 in RECOVERY: 1000BASE-X with the link-local address formed from the EUI-64 (R170). -/
def recoveryPort (eui : Nat) : HostPortCfg := ⟨.base1000, none, false, none, [linkLocal eui]⟩

/-- Host port `e`'s configuration; in RECOVERY only E0 has one (R170). (DEDUCED, log 24) -/
def State.hostPort (s : State) (e : Nat) : Option HostPortCfg :=
  if s.sys.st = .recovery then (if e = 0 then some (recoveryPort s.otp.eui) else none)
  else match s.sys.image with
  | some im => (im.hostPorts.find? (fun (x : Nat × HostPortCfg) => x.1 = e)).map Prod.snd
  | none => none

/-- The UDP port of the host link: 47,011 in RECOVERY (R170), else as HOST gives it (R155). -/
def State.udpPort (s : State) : Nat :=
  if s.sys.st = .recovery then 47011 else (s.sys.image.map Image.udpPort).getD 47011

/-- The largest sealed payload on a port (R625). -/
def State.dgLimit (s : State) (e : Nat) : Nat :=
  if ((s.hostPort e).map HostPortCfg.jumbo).getD false then 8216 else 1048

/-- Partition `j` is in use and takes datagrams from port `e` (R626); in RECOVERY only H0 on E0 (R170). -/
def State.partTakes (s : State) (j e : Nat) : Bool :=
  if s.sys.st = .recovery then decide (j = 0 ∧ e = 0)
  else match s.sys.image with
    | none => false
    | some im => match im.part j with
      | none => false
      | some pc => nbit pc.portMask e

/-- The requester a session acts as (R10, R170). (DEDUCED, log 24) -/
def State.requester (s : State) (j k : Nat) : Requester := if s.sys.st = .recovery then .recovery else .slot j k

/-- A session ends (R629): its slot is free; the partition's data port and event queue stay. -/
def State.endSession (s : State) (j k : Nat) : State := s.setSession j k none

/-- Every session ends (R98, R614, R629). -/
def State.endSessions (s : State) : State := { s with hst := { s.hst with sessions := [] } }

/-- Every MAINTENANCE session ends, as the seal closes (R656). (DEDUCED, log 33) -/
def State.endMaintenance (s : State) : State :=
  let keep := fun (_ : Nat) (x : Option Session) => if x.map Session.role = some .maintenance then none else x
  { s with hst := { s.hst with sessions := Store.mapAll (fun _ => none) keep s.hst.sessions } }

/-- Every link goes down, with HOST_LINK_DOWN for each that was up (R98, R655). -/
def State.linksDown (s : State) : State :=
  let up := (upTo 4).filter (Store.get (fun _ => false) s.hst.link)
  up.foldl (fun s e => s.raise Ev.HOST_LINK_DOWN .warning (unit := e) (lasting := true)) { s with hst := { s.hst with link := [] } }

/-- A sealed datagram leaves on the port of the session's latest accepted datagram (R624, R626); the sequence limit of R611
ends the session. Without a crypto lane nothing can be sealed (R606, R608). (DESIGN CHOICE, log 118, 142) -/
def State.send (s : State) (j k : Nat) (d : ToHost) : State :=
  if !s.laneUp then s
  else match s.session j k with
  | none => s
  | some x =>
    let s := ((s.emit (.dgram j k x.port x.txSeq d)).cntW (R.HST_CNT_k + 4)).cntW (R.KEY_CNT_k + 4)
    s.setSession j k (if x.txSeq + 1 < 2 ^ 40 then some { x with txSeq := x.txSeq + 1 } else none)

/-- Whether a session has not accepted a sequence number yet and it is not too old (R624). -/
def Session.fresh (x : Session) (seq : Nat) : Bool :=
  !x.seen.contains seq && (match x.high with
    | none => true
    | some h => decide (h < seq + 64))

/-- The session after accepting a datagram (R624, R626). -/
def Session.took (x : Session) (d : Dg) (now : Nat) : Session :=
  let h := match x.high with
    | none => d.seq
    | some h => max h d.seq
  { x with high := some h, seen := d.seq :: x.seen.filter (fun q => decide (h < q + 64)), port := d.port, heard := now }

/-- A sealed datagram arrives: the state after its acceptance or its discard, and whether its payload is to be acted on
(R624 to R626). (DESIGN CHOICE, log 118) -/
def State.takeDgram (s : State) (d : Dg) : State × Bool :=
  let s := s.cntW (R.HST_CNT_k + 0)
  if !s.partTakes d.part d.port then (s.cntW (R.HST_CNT_k + 16), false)
  else match s.session d.part d.slot with
    | none => (s.cntW (R.HST_CNT_k + 16), false)
    | some x =>
      if x.sid ≠ d.sid then (s.cntW (R.HST_CNT_k + 16), false)
      else if !s.laneUp then (s, false)
      else if !d.tagOk then (((s.cntW (R.KEY_CNT_k + 4)).cntW (R.KEY_CNT_k + 8)).cntW (R.HST_CNT_k + 8), false)
      else if !x.fresh d.seq then (s.cntW (R.HST_CNT_k + 12), false)
      else if 2 ^ 40 ≤ d.seq + 1 then (s.endSession d.part d.slot, false)
      else
        let s := (s.setSession d.part d.slot (some (x.took d s.tim.cnt))).cntW (R.KEY_CNT_k + 4)
        if s.dgLimit d.port < d.len then (s.send d.part d.slot (.tooLong .length), false) else (s, true)

/-! Regions of the data space. -/

/-- Region `code` of partition `j`. -/
def Part.region (p : Part) (code : Nat) : Region := Store.get (fun _ => Region.blank) p.regions code

/-- The partition with a region replaced. -/
def Part.setRegion (p : Part) (code : Nat) (r : Region) : Part :=
  { p with regions := Store.put (fun _ => Region.blank) p.regions code r }

/-- The size of a region in bytes; none for a code that names no region (R635). -/
def State.regionSize (s : State) (code : Nat) : Option Nat :=
  let mib := 1048576
  if s.sys.st = .recovery then (if code = 0x01 then some (64 * mib) else none)
  else match code with
    | 0x01 => some (64 * mib)
    | 0x02 => some (4 * mib)
    | 0x03 => some (32 * mib)
    | 0x04 => some (256 * mib)
    | 0x05 => some 65536
    | 0x20 => some (256 * mib)
    | _ => none

/-- Partition `j` is privileged; in RECOVERY H0 is (R15, R170). -/
def State.privPart (s : State) (j : Nat) : Bool :=
  if s.sys.st = .recovery then decide (j = 0)
  else match s.sys.image with
    | none => false
    | some im => ((im.part j).map PartCfg.priv).getD false

/-- A session of role `r` of partition `j` may write a region (R635, R658). -/
def State.mayWrite (s : State) (j : Nat) (r : Role) (code : Nat) : Bool :=
  match code with
  | 0x01 => s.privPart j && decide (r = .operator ∨ r = .maintenance)
  | 0x02 => s.privPart j && decide (r = .operator ∨ r = .maintenance)
  | 0x03 => s.privPart j && decide (r = .operator)
  | 0x04 => decide (r ≠ .maintenance)
  | 0x05 => decide (r = .operator ∨ r = .supplier ∨ r = .consumer)
  | _ => false

/-- A session may read a region it may write, and the OUT region (R635, R643). (DEDUCED, log 124) -/
def State.mayRead (s : State) (j : Nat) (r : Role) (code : Nat) : Bool := decide (code = 0x20) || s.mayWrite j r code

/-- The bytes of a region from `a` on; unwritten ones read 0 (R643). -/
def Region.read (r : Region) (a n : Nat) : List Nat :=
  (upTo n).map (fun i => (Store.get (fun _ => (0 : Byte)) r.data (a + i)).toNat)

/-- Bytes stored from `a` on. -/
def storeBytes (m : Store Byte) (a : Nat) : List Nat → Store Byte
  | [] => m
  | b :: bs => storeBytes (Store.put (fun _ => (0 : Byte)) m a (BitVec.ofNat 8 b)) (a + 1) bs

/-- An extent [a, b) joins a list of disjoint extents in rising order. -/
def extAdd : List (Nat × Nat) → Nat → Nat → List (Nat × Nat)
  | [], a, b => [(a, b)]
  | (c, d) :: r, a, b =>
    if b < c then (a, b) :: (c, d) :: r
    else if d < a then (c, d) :: extAdd r a b
    else extAdd r (min a c) (max b d)

/-- Every byte from 0 to n - 1 lies in an extent (R642 step 5). -/
def extCovers (e : List (Nat × Nat)) (n : Nat) : Bool :=
  decide (n = 0) || e.any (fun x => decide (x.1 = 0 ∧ n ≤ x.2))

/-- The 64 KiB pages that [a, b) touches (R637). -/
def pagesOf (a b : Nat) : List Nat := if b ≤ a then [] else (upTo ((b - 1) / 65536 + 1 - a / 65536)).map (fun i => a / 65536 + i)

/-- How many pages a partition has taken. -/
def Part.pages (p : Part) : Nat := p.regions.foldl (fun n r => n + r.2.pages.length) 0

/-- Pages of the data-port pool: the DRAM less the fixed regions' 4,608 MiB (R637). (DEDUCED, log 125) -/
def State.poolPages (s : State) : Nat := (s.sys.dramA + s.sys.dramB) * 16384 - 4608 * 16

/-- `n` more pages are free for partition `j`: its guaranteed 256 MiB, then the shared rest (R637). -/
def State.pagesFree (s : State) (j n : Nat) : Bool :=
  let own := (s.part j).pages
  let defined := match s.sys.image with
    | some im => im.parts.length
    | none => 1
  let shared := s.poolPages - 4096 * defined
  let extra := s.hst.parts.foldl (fun m (p : Nat × Part) => if p.1 = j then m else m + (p.2.pages - 4096)) 0
  decide (own + n ≤ 4096) || decide (extra + (own + n - 4096) ≤ shared)

/-- Pages among `ps` that a region has not taken. -/
def Region.newPages (r : Region) (ps : List Nat) : List Nat := ps.filter (fun p => !r.pages.contains p)

/-! Rights and scope. -/

/-- What an object request touches, the rows of R658. -/
inductive Item where
  | legal
  | dayRecord
  | data
  | balance
  | cardRead
  | recompute
  | hostRead
  | authority
  | cert
  | campaign
  deriving DecidableEq, Repr

/-- A role's right to an item (R658), scope apart. (DEDUCED, log 124) -/
def State.right (s : State) (j : Nat) (r : Role) (i : Item) : Bool :=
  match i with
  | .legal => decide (r ≠ .maintenance)
  | .dayRecord => decide (r ≠ .maintenance)
  | .data => true
  | .balance => true
  | .cardRead => decide (r ≠ .maintenance)
  | .recompute => decide (r ≠ .maintenance)
  | .hostRead => decide (r = .operator ∨ r = .supplier ∨ r = .consumer)
  | .authority => decide (r = .authority)
  | .cert => true
  | .campaign => s.privPart j && decide (r = .operator)

/-- What scope says of a request that names an endpoint (R659): OK, DENIED, or, for an endpoint that does not exist in a
partition of scope ALL, UNMAPPED. (DEDUCED, log 100) -/
def State.epScope (s : State) (j e : Nat) : Status :=
  match s.sys.image with
  | none => .denied
  | some im => match im.part j with
    | none => .denied
    | some pc => match im.ep e with
      | none => if pc.scope = .all then .unmapped else .denied
      | some _ => if im.inScope pc.scope e then .ok else .denied

/-- What scope says of a request that names a balance node (R659). (DEDUCED, log 100) -/
def State.nodeScope (s : State) (j n : Nat) : Status :=
  match s.sys.image with
  | none => .denied
  | some im => match im.part j with
    | none => .denied
    | some pc => match im.balNode n with
      | none => if pc.scope = .all then .unmapped else .denied
      | some _ => if im.nodeInScope pc.scope n then .ok else .denied

/-- Contract `c` is in partition `j`'s scope (R657). (DEDUCED, log 100) -/
def State.contractScope (s : State) (j c : Nat) : Bool :=
  match s.sys.image with
  | none => false
  | some im => ((im.part j).map (fun (p : PartCfg) => p.scope.hasContract c)).getD false

/-! Object requests. -/

/-- The answer enters the kept ones, newest first, at most 16 (R633, R663). (DEDUCED, log 123) -/
def Session.keep (x : Session) (q : Nat) (a : Kept) : Session :=
  { x with kept := ((q, a) :: x.kept).take 16, outstanding := x.outstanding.filter (fun y => y ≠ q) }

/-- RFLAGS of an answer (R661). -/
def State.rflags (s : State) : Nat := b2n (decide (s.sys.st = .standby)) + 2 * b2n s.key.debug

/-- A result is placed in OUT (R662): its data-space address, or none when it cannot get its pages. (DEDUCED, log 123) -/
def State.place (s : State) (j : Nat) (bytes : List Nat) : State × Option Nat :=
  let p := s.part j
  let r := p.region 0x20
  let n := bytes.length
  let a0 := (p.outEnd + 4095) / 4096 * 4096
  let a := if 256 * 1048576 < a0 + n then 0 else a0
  let live := r.ext.filter (fun x => decide (x.2 ≤ a ∨ a + n ≤ x.1))
  let old := (live.flatMap (fun x => pagesOf x.1 x.2)).eraseDups
  let add := (pagesOf a (a + n)).filter (fun q => !old.contains q)
  let r0 := { r with pages := old, ext := live }
  if s.pagesFree j (add.length - (r.pages.length - old.length)) then
    let r1 := { r0 with data := storeBytes r0.data a bytes, ext := live ++ [(a, a + n)], pages := old ++ add }
    let bad := p.outBad.filter (fun x => decide (x.2 ≤ a ∨ a + n ≤ x.1))
    (s.setPart j { p.setRegion 0x20 r1 with outEnd := a + n, outBad := bad }, some (0x20 * 2 ^ 56 + a))
  else (s, none)

/-- An object request of slot `k` of partition `j` completes (R661 to R663). (DEDUCED, log 123) -/
def State.objAnswer (s : State) (j k q : Nat) (st : Status) (bytes : List Nat) : State :=
  match s.session j k with
  | none => s
  | some x =>
    let fl := s.rflags
    let fin := fun (s : State) (st : Status) (place len addr : Nat) (bs : List Nat) =>
      (s.setSession j k (some (x.keep q (.obj st fl place len addr bs)))).send j k (.objRsp q st fl place len addr bs)
    if st ≠ .ok then fin s st 0 0 0 []
    else if bytes.length + 24 ≤ s.dgLimit x.port then fin s .ok 0 bytes.length 0 bytes
    else if 256 * 1048576 < bytes.length then fin s .length 0 0 0 []
    else
      let r := s.place j bytes
      match r.2 with
      | none => fin s .busy 0 0 0 []
      | some a => fin r.1 .ok 1 bytes.length a []

/-- The argument of a request: inline, or the bytes of the RECOMPUTE region that ARG_REF names (R660); none where the role
may not use that region or the reference leaves it. -/
def State.objArg (s : State) (j : Nat) (r : Role) (o : ObjReq) : Option (List Nat) :=
  if !o.argRef then some o.arg
  else
    let a := leNat (o.arg.take 8)
    let n := leNat ((o.arg.drop 8).take 4)
    if a / 2 ^ 56 = 0x04 ∧ s.mayWrite j r 0x04 ∧ a % 2 ^ 56 + n ≤ 256 * 1048576 then
      some (((s.part j).region 0x04).read (a % 2 ^ 56) n)
    else none

/-- Byte `i` of OBJ_ID. -/
def ObjReq.b (o : ObjReq) (i : Nat) : Nat := o.oid.getD i 0

/-- An object request is taken (R633, R660, R663): a repeated REQ_ID is answered again, a stale one with BAD_REQUEST, a 17th
outstanding one with BUSY; otherwise `f` decides it. `f` answers none where the request completes later. -/
def State.objRun (s : State) (o : ObjReq) (cls : Nat) (right : Item)
    (f : State → Session → List Nat → State × Option (Status × List Nat)) : State :=
  let a := s.takeDgram o.dg
  if !a.2 then a.1
  else
    let s := a.1
    let j := o.dg.part
    let k := o.dg.slot
    match s.session j k with
    | none => s
    | some x =>
      match x.kept.find? (fun (y : Nat × Kept) => y.1 = o.reqId) with
      | some (_, .obj st fl place len addr bs) => s.send j k (.objRsp o.reqId st fl place len addr bs)
      | some (_, .regs _) => s.send j k (.objRsp o.reqId .badRequest s.rflags 0 0 0 [])
      | none =>
        if (match x.reqHigh with
            | none => false
            | some h => decide (o.reqId ≤ h)) then s.send j k (.objRsp o.reqId .badRequest s.rflags 0 0 0 [])
        else
          let x := { x with reqHigh := some o.reqId }
          let s := s.setSession j k (some x)
          if 16 ≤ x.outstanding.length then s.objAnswer j k o.reqId .busy []
          else if !s.running then s.objAnswer j k o.reqId .notReady []
          else if o.b 0 ≠ 0x80 ∨ o.b 2 ≠ cls then s.objAnswer j k o.reqId .unmapped []
          else if !s.right j x.role right then s.objAnswer j k o.reqId .denied []
          else match s.objArg j x.role o with
            | none => s.objAnswer j k o.reqId .denied []
            | some arg =>
              let r := f s x arg
              match r.2 with
              | some (st, bytes) => r.1.objAnswer j k o.reqId st bytes
              | none => r.1.setSession j k (some { x with outstanding := o.reqId :: x.outstanding })

/-- A commit's consumer has decided (R642): HST_DP_STAT reads DONE or REFUSED with the consumer's status. -/
def State.decided (s : State) (j code : Nat) (st : Status) : State :=
  let p := s.part j
  let p := p.setRegion code { p.region code with busy := false, taken := false, data := [], pages := [] }
  s.setPart j { p with commitSt := if st = .ok then .done else .refused, commitCode := st.code }

end Sys2Proof.Machine
end

