-- ==== Sys2Proof/Machine/PenEval.lean ====
section
/-!
DEFINITION. The conversion that a PEN pipe evaluates (12_property_engine.md R457 to R472), as a function of the inputs of
R459, the conversion record, the compressibility set and the channel's last factor (R461). The IF97 properties are free
functions (Config), since their tables are not in the spec; the region decision, the formulas of F, the flags, the averaging rules
and the quantity formula are the spec's.
-/

namespace Sys2Proof.Machine
open Sys2Proof

/-- What evaluating one point yields. -/
structure PtRes where
  oor : Bool
  noConv : Bool
  nearSat : Bool
  /-- F as a binary64 pattern. -/
  f : Nat
  deriving DecidableEq, Repr

/-- An out-of-range point. -/
def PtRes.out : PtRes := ⟨true, false, false, 0⟩

/-- Millikelvin in nK. -/
def nK (mk : Int) : Int := mk * 1000000

/-- The region of a point (p in Pa, T in nK), none for OUT_OF_RANGE (R465). -/
def regionPT (p t : Int) : Option Nat :=
  if p ≤ 0 ∨ 100000000 < p ∨ t < nK 273150 ∨ nK 1073150 < t then none
  else if t ≤ nK 623150 then some (if Config.pSat t < p * 1000000 then 1 else 2)
  else if t ≤ nK 863150 then some (if Config.pB23 t < p * 1000000 then 3 else 2)
  else some 2

/-- T_s is evaluated for this pressure: 611.213 Pa to 22.064 MPa (R466). -/
def tsDefined (p : Int) : Bool := decide (612 ≤ p ∧ p ≤ 22064000)

/-- Numerator and denominator rounded to nearest, ties to even. (DEDUCED, log 85) -/
def roundDiv (a b : Nat) : Nat :=
  let q := a / b
  let m := a % b
  if 2 * m < b then q else if b < 2 * m then q + 1 else if q % 2 = 0 then q else q + 1

/-- The reference pressure in Pa and temperature in nK of AIR_NORM (R468). -/
def airRef (r : ConvRec) : Int × Int := if nbit r.flags 5 then (101325, nK 273150) else (100000, nK 293150)

/-- A binary64 pattern as numerator and power of two: value = num x 2^exp; infinities and NaN are not told apart. -/
def f64 (w : Nat) : Int × Int :=
  let e : Nat := w / 2 ^ 52 % 2 ^ 11
  let m : Nat := w % 2 ^ 52
  let sgn : Int := if nbit w 63 then -1 else 1
  if e = 0 then (sgn * m, -1074) else (sgn * ((m : Int) + 2 ^ 52), (e : Int) - 1075)

/-- A binary64 pattern times 2^1074, an integer. -/
def f64Scaled (w : Nat) : Int := (f64 w).1 * 2 ^ ((f64 w).2 + 1074).toNat

/-- The sign of Z(p, T) of R468 for T > 0 in nK: Z x T^2 x 10^18 scaled by 2^1074, computed exactly. -/
def airZ (z : List Nat) (p t : Int) : Int :=
  let c := fun (i : Nat) => f64Scaled (z.getD i 0)
  let u : Int := 1000000000
  2 ^ 1074 * t * t + (c 0 * t * t + c 1 * t * u + c 2 * u * u) * p + (c 3 * t * t + c 4 * t * u + c 5 * u * u) * p * p

/-- The binary64 pattern nearest to num/den, ties to even, for den > 0 (R461). -/
def toF64 (num : Int) (den : Nat) : Nat :=
  if num = 0 then 0
  else
    let a := num.natAbs
    let e0 : Int := (Nat.log2 a : Int) - (Nat.log2 den : Int) - 52
    let scaled := fun (e : Int) => (a * 2 ^ (-e).toNat, den * 2 ^ e.toNat)
    let e1 := if (scaled e0).1 / (scaled e0).2 < 2 ^ 52 then e0 - 1 else e0
    let e := max e1 (-1074)
    let m := roundDiv (scaled e).1 (scaled e).2
    let w := if m < 2 ^ 52 then m else (e + 1075).toNat * 2 ^ 52 + (m - 2 ^ 52)
    min w (0x7FF * 2 ^ 52) + if num < 0 then 2 ^ 63 else 0

/-- The parameters of a conversion that F depends on beside the point. -/
def convParams (r : ConvRec) (z : List Nat) (region : Nat) (sat : Bool) : List Int :=
  [(r.flags : Int), r.hRef, (region : Int), if sat then 1 else 0] ++ z.map Int.ofNat

/-- F of the IF97 types as a fraction (R467): 1/v, (h - H_REF)/v, or the enthalpy difference of supply and return over v, with COLD
negated. Volumes and enthalpies are times 2^1074. -/
def steamF (r : ConvRec) (region : Nat) (sat : Bool) (p t m2 : Int) : Int × Nat :=
  let v := fun (x : Int) => (f64Scaled (Config.ifV sat region p x)).natAbs
  let h := fun (x : Int) => f64Scaled (Config.ifH sat region p x)
  match r.ctype with
  | 0x02 | 0x04 => (h t - r.hRef * 2 ^ 1074, v t)
  | 0x06 =>
    let d := h t - h m2
    (if nbit r.flags 3 then -d else d, v (if nbit r.flags 2 then m2 else t))
  | _ => (2 ^ 1074, v t)

/-- p_dry of R468 times 10^5 x 2^1074, in Pa. -/
def pDry (p t m2 : Int) : Int :=
  p * 100000 * 2 ^ 1074 - if m2 = 0 then 0 else m2 * f64Scaled (Config.pSatF t)

/-- F of AIR_NORM as a fraction (R468). -/
def airF (r : ConvRec) (z : List Nat) (p t m2 : Int) : Int × Nat :=
  let ref := airRef r
  (pDry p t m2 * airZ z ref.1 ref.2 * t, (100000 * 2 ^ 1074 * ref.1 * ref.2 * airZ z p t).toNat)

/-- F as a binary64 pattern (R461, R467, R468): the fraction rounded, and moved by the few units in the last place that the fixed order
of operations, which stands in the mask ROM alone, may leave; sign and zero stay. (DESIGN CHOICE, log 9) -/
def penF (ctype : Nat) (params : List Int) (p t m2 : Int) (x : Int × Nat) : Nat :=
  let w := if x.2 = 0 then 0 else toF64 x.1 x.2
  if w % 2 ^ 63 = 0 then 0
  else
    let d := max (-1024) (min 1024 (Config.penUlp ctype params p t m2))
    let m := max 1 (min (0x7FF * 2 ^ 52) (((w % 2 ^ 63 : Nat) : Int) + d)).toNat
    w / 2 ^ 63 * 2 ^ 63 + m

/-- F at a point of a region, with the convergence test of region 3 (R463, R471). -/
def evalAt (r : ConvRec) (z : List Nat) (region : Nat) (sat near : Bool) (p t m2 : Int) : PtRes :=
  if region = 3 ∧ !Config.region3Converges p t then ⟨true, true, near, 0⟩
  else ⟨false, false, near, penF r.ctype (convParams r z region sat) p t m2 (steamF r region sat p t m2)⟩

/-- A steam point (R466): p, T, and the region found. -/
def evalSteam (r : ConvRec) (z : List Nat) (p t : Int) (region : Nat) : PtRes :=
  let band := nK r.satBand
  if region = 2 then evalAt r z 2 false (tsDefined p && decide (t < Config.tSat p + band)) p t 0
  else if region = 3 then evalAt r z 3 false false p t 0
  else if tsDefined p && decide (Config.tSat p - band ≤ t) then
    evalAt r z (if p ≤ 16529000 then 2 else 3) true true p (Config.tSat p) 0
  else PtRes.out

/-- The AIR_NORM point (R468). -/
def evalAir (r : ConvRec) (z : List Nat) (p t m2 : Int) : PtRes :=
  let ref := airRef r
  if p ≤ 0 ∨ t ≤ 0 ∨ m2 < 0 ∨ 100000 < m2 then PtRes.out
  else if 0 < m2 ∧ (t < nK 273150 ∨ nK 647096 < t) then PtRes.out
  else if pDry p t m2 ≤ 0 then PtRes.out
  else if airZ z p t ≤ 0 ∨ airZ z ref.1 ref.2 ≤ 0 then PtRes.out
  else ⟨false, false, false, penF r.ctype (convParams r z 0 false) p t m2 (airF r z p t m2)⟩

/-- A point with absolute pressure p in Pa, second measurand (mK, or J/kg with `hin`) and third measurand (R465 to R468). -/
def evalPoint (r : ConvRec) (z : List Nat) (hin : Bool) (p m1 m2 : Int) : PtRes :=
  match r.ctype with
  | 0x01 | 0x02 =>
    if hin then
      let g := Config.regionPh p m1
      let t := Config.tPh p m1
      if (g = 1 ∨ g = 2) ∧ 0 < p ∧ p ≤ 100000000 ∧ nK 273150 ≤ t ∧ t ≤ nK 1073150 then evalSteam r z p t g else PtRes.out
    else match regionPT p (nK m1) with
      | none => PtRes.out
      | some g => evalSteam r z p (nK m1) g
  | 0x03 | 0x04 =>
    if 612 ≤ p ∧ p ≤ 16529000 then evalAt r z 2 true false p (Config.tSat p) 0 else PtRes.out
  | 0x05 => if regionPT p (nK m1) = some 1 then evalAt r z 1 false false p (nK m1) 0 else PtRes.out
  | 0x06 =>
    if regionPT p (nK m1) = some 1 ∧ regionPT p (nK m2) = some 1 then evalAt r z 1 false false p (nK m1) (nK m2)
    else PtRes.out
  | 0x07 => evalAir r z p (nK m1) m2
  | _ => PtRes.out

/-- F at the sealed fallback point (R472): P_SUB as it stands, T_SUB, no humidity, the return at the same point. -/
def fallbackF (r : ConvRec) (z : List Nat) : Nat :=
  let x := evalPoint r z false r.pSub r.tSub (if r.ctype = 0x06 then r.tSub else 0)
  if x.oor then 0 else x.f

/-- Absolute pressure of a reading (R467). -/
def absP (r : ConvRec) (m0 : Int) : Int := if nbit r.flags 1 then m0 + r.pAmb else m0

/-- F is 0 or negative. -/
def fNotPos (f : Nat) : Bool := nbit f 63 || decide (f % 2 ^ 63 = 0)

/-- DEV0 is within 5 % of p and each temperature DEV within 5 K (R469). -/
def devOk (r : ConvRec) (p : Int) : Bool :=
  decide ((r.dev0 : Int) * 20 ≤ p) &&
  (match r.ctype with
   | 0x01 | 0x02 => nbit r.flags 0 || decide (r.dev1 ≤ 5000)
   | 0x05 => decide (r.dev1 ≤ 5000)
   | 0x06 => decide (r.dev1 ≤ 5000 ∧ r.dev2 ≤ 5000)
   | 0x07 => decide (r.dev1 ≤ 5000)
   | _ => true)

/-- Q_d in 2^-16 quanta: V_d x F x 10^-OE with V_d = dV x VQ x 10^-9 m3, rounded to nearest (R467, R471); zero for a
negative F. (DEDUCED, log 85) -/
def penQ (r : ConvRec) (f dv : Nat) : Nat :=
  if nbit f 63 then 0
  else
    let num := dv * r.vq * (f64 f).1.toNat * 2 ^ 16 * 10 ^ (-r.oe).toNat * 2 ^ (f64 f).2.toNat
    let den := 10 ^ 9 * 10 ^ r.oe.toNat * 2 ^ (-(f64 f).2).toNat
    roundDiv num den

/-- Measurands that a conversion type uses (R457, R469), each with its DEV. -/
def usedDevs (r : ConvRec) : List Nat :=
  match r.ctype with
  | 0x03 | 0x04 => [r.dev0]
  | 0x06 | 0x07 => [r.dev0, r.dev1, r.dev2]
  | _ => [r.dev0, r.dev1]

/-- The averaging bound of R469: 1.1 times the sum of G_i x DEV_i, in ppm, rounded up, within its 32 bits.
(DESIGN CHOICE, log 9) -/
def ebSum (r : ConvRec) (z : List Nat) (p m1 m2 : Int) : Nat :=
  let ds := usedDevs r
  let sum := ((upTo ds.length).zip ds).foldl (fun n (x : Nat × Nat) =>
    n + (f64Scaled (Config.penG x.1 r.ctype (convParams r z 0 false) p m1 m2)).natAbs * x.2) 0
  min 0xFFFFFFFF ((sum * 1100000 + (2 ^ 1074 - 1)) / 2 ^ 1074)

/-- EB of a result (R469, R470). -/
def penBound (r : ConvRec) (z : List Nat) (i : PenIn) (pt : PtRes) (own : Bool) : Nat :=
  if 1 < i.n then 0xFFFFFFFF
  else if i.fast then 0
  else if !own || pt.nearSat || fNotPos pt.f || !devOk r (absP r i.m0) then 0xFFFFFFFF
  else ebSum r z (absP r i.m0) i.m1 i.m2

/-- The result of an evaluation (R471, R472). -/
def penEval (r : ConvRec) (z : List Nat) (ver : Nat) (lastFac : Option Nat) (i : PenIn) : PenOut :=
  let pt := evalPoint r z (nbit r.flags 0) (absP r i.m0) i.m1 i.m2
  let own := !(i.subst || pt.oor)
  let f := if own then pt.f else match lastFac with
    | some l => l
    | none => fallbackF r z
  let eb := penBound r z i pt own
  let avg := own && decide (i.n = 1) && !i.fast && decide (r.ebMax < eb)
  let span := decide (1 < i.n)
  { qF := penQ r f i.dvF, qR := penQ r f i.dvR,
    estimated := !own || (avg && nbit r.flags 4) || span,
    nearSat := pt.nearSat, avgBound := avg, span := span, outOfRange := pt.oor, substIn := i.subst,
    noConverge := pt.noConv, fallback := !own && lastFac.isNone, negDh := nbit f 63, eb := eb, f := f,
    tableVer := ver }

/-- A MEASURED result without flags, whose factor Selvedge keeps (R472). -/
def PenOut.clean (o : PenOut) : Bool :=
  !(o.estimated || o.nearSat || o.avgBound || o.span || o.outOfRange || o.substIn || o.noConverge || o.fallback || o.negDh)

/-- The measurands that offend in an OUT_OF_RANGE result, bit i for MEASi (R473, R754). -/
def penOffend (r : ConvRec) (i : PenIn) : Nat :=
  let p := absP r i.m0
  let b0 := decide (p ≤ 0 ∨ 100000000 < p)
  let b1 := decide (i.m1 < 273150 ∨ 1073150 < i.m1)
  let b2 := decide (r.ctype = 0x07 ∧ (i.m2 < 0 ∨ 100000 < i.m2))
  let v := b2n b0 + 2 * b2n b1 + 4 * b2n b2
  let used := match r.ctype with
    | 0x03 | 0x04 => 1
    | 0x06 | 0x07 => 7
    | _ => 3
  if v &&& used = 0 then used else v &&& used

end Sys2Proof.Machine
end

