-- ==== Sys2Proof/Machine/Selvedge.lean ====
section
/-!
DEFINITION. Selvedge at work (13_selvedge_tariffs.md): deciding a reading (R492 to R495), day records (R516), the boundary
transaction (R508 to R511), closing a leaf set and making a seal (R517 to R519).
-/

namespace Sys2Proof.Machine
open Sys2Proof

/-! Notes of bookkeeping become records, events, holds and pulses owed. -/

/-- Quanta credited to a total grow the accumulators of the pulse outputs that select it (R529). -/
def State.creditOuts (s : State) (ch : Chid) (obj q : Nat) : State :=
  match s.sys.image with
  | none => s
  | some im =>
    { s with slv := { s.slv with
      outs := im.outputs.foldl (fun (m : Store OutSt) o => match o.2.mode with
        | .pulse c rev mask _ _ =>
          if c = ch ∧ (rev = decide (obj % 2 = 1)) ∧ nbit mask (obj / 2) then
            let x := Store.get (fun _ => OutSt.blank) m o.1
            Store.put (fun _ => OutSt.blank) m o.1 { x with acc := x.acc + q }
          else m
        | _ => m) s.slv.outs } }

/-- One note of channel `ch` (R489 to R491, R523, R529, R535). -/
def State.note (s : State) (ch : Chid) (n : Note) : State :=
  let sc := EvScope.endpoint (Chid.ep ch)
  match n with
  | .rollover obj roll =>
    ((s.journalIf (.rollover ch (obj / 2) (obj % 2) roll)).raise Ev.ROLLOVER .info
      (args := [aIdx ch, aCode (obj / 2), aCode (obj % 2), aHalf roll]) (sc := sc)).cntW (R.SLV_CNT_k + 4 * 7)
  | .estSat _ => (s.journalIf (.event Ev.EST_SAT ch)).raise Ev.EST_SAT .warning (args := [aIdx ch]) (sc := sc)
  | .rollLimit ex => s.holdChan ch 0 (some ex)
  | .mdSat obj =>
    (s.journalIf (.event Ev.MD_SATURATED ch)).raise Ev.MD_SATURATED .warning
      (args := [aIdx ch, aCode (obj / 2), aCode (obj % 2)]) (sc := sc)
  | .booked obj q => s.creditOuts ch obj q

/-- Every note, in order. -/
def State.notes (s : State) (ch : Chid) (ns : List Note) : State := ns.foldl (fun s n => s.note ch n) s

/-! Day records. -/

/-- A total object as 16 bytes (R487). -/
def Total.bytes (t : Total) : List Nat := leBytes 16 (t.value + t.est * 2 ^ 60 + t.roll * 2 ^ 112)

/-- A maximum-demand record as 8 bytes (R491). -/
def MaxDem.bytes (d : MaxDem) : List Nat := leBytes 8 (d.start % 2 ^ 31 + b2n d.sat * 2 ^ 31 + d.value * 2 ^ 32)

/-- A channel's 384-byte register block (R486). -/
def blockBytes (totals : Store Total) (mds : Store MaxDem) : List Nat :=
  (upTo 16).flatMap (fun o => (Store.get (fun _ => Total.zero) totals o).bytes) ++
    (upTo 16).flatMap (fun o => (Store.get (fun _ => MaxDem.zero) mds o).bytes)

/-- The bytes of a day record (R516). -/
def DayRec.bytes (d : DayRec) : List Nat :=
  leBytes 4 d.ep ++ leBytes 10 (tsPack (d.close * second)) ++ leBytes 2 d.contract ++ leBytes 4 d.cardId ++
    [(d.chans.foldl (fun m c => m + 2 ^ c.1) 0), b2n d.incomplete + 2 * b2n d.hold, 0, 0] ++
    d.chans.flatMap (fun c => leBytes 4 (b2n c.2.held + 2 * b2n c.2.expired) ++ blockBytes c.2.totals c.2.mds)

/-- The leaf hash of a day record (R516). -/
def DayRec.leaf (d : DayRec) : Nat := Config.shake256 (0 :: d.bytes)

/-- The enabled channels of an endpoint for which a close is a settlement instant (R496). -/
def State.dayChans (s : State) (ep close : Nat) : List Chid :=
  (s.chids.filter (fun ch => Chid.ep ch = ep)).filter (fun ch => (s.lch ch).hasBase && decide ((s.lch ch).baseAt < close))

/-- The day record of an endpoint at a close, once every channel concerned has settled there (R516). -/
def State.dayRecord (s : State) (ds : DaySet) (ep : Nat) : Option DayRec :=
  let chs := s.dayChans ep ds.close
  if chs.isEmpty || !chs.all (fun ch => decide (ds.close ≤ (s.lch ch).settled)) then none
  else
    let a := ds.opened * second
    let b := ds.close * second
    let blks := chs.filterMap (fun ch =>
      ((s.lch ch).blocks.find? (fun k => k.close = ds.close)).map (fun k =>
        (Chid.num ch, { k with held := (s.lch ch).holds.any (fun h => spanMeets a b h.1 h.2) })))
    some { ep := ep, close := ds.close, contract := ds.contract, cardId := ds.cardId,
           incomplete := blks.any (fun k => k.2.expired),
           hold := s.slv.devHolds.any (fun h => spanMeets a b h.2.1 h.2.2) || blks.any (fun k => k.2.held),
           chans := blks }

/-- The legal day, in days since the PTP epoch, that a TAI second lies in under a contract's cards (R501, R564, R586). -/
def State.legalDay (s : State) (c t : Nat) : Nat := localDay s.tim.utcOffs (cardAfter (s.cardHist c) t) t

/-- The day under which an entry is archived: the legal day of its capture (R564). -/
def State.entryDay (s : State) (e : Entry) : Nat := s.legalDay (s.contractOf (Chid.ep e.ch)) (e.capture / second)

/-- The present legal day of every contract (R576). -/
def State.legalDays (s : State) : List Nat := s.contracts.map (fun c => s.legalDay c (s.legalNs / second))

/-- An archive record goes to Beam (15_beam_archive.md R564): it waits in the archive buffer, or is refused with BEM_RO and
counted (R572, R756). (DESIGN CHOICE, log 96) -/
def State.archive (s : State) (st : Stream) (day : Nat) (d : ArchData) : State :=
  if !s.sysWrites then s.cntW (R.BEM_CNT_k + 28)
  else { s with bem := { s.bem with archBuf := s.bem.archBuf ++ [⟨st, day, d, false, false, 0⟩] } }

/-- WARP_NOJOURNAL follows whether Beam accepts writes (R445). -/
def State.journalState (s : State) : State :=
  if s.sysWrites then
    if s.wrp.noJournal then { s with wrp := { s.wrp with noJournal := false } }.endEv Ev.WARP_NOJOURNAL else s
  else if s.wrp.noJournal then s
  else { s with wrp := { s.wrp with noJournal := true } }.raise Ev.WARP_NOJOURNAL .warning (lasting := true)

/-- The day record of an endpoint is built for a day set, where it can be: the leaf is journaled, the record goes to Beam,
and the channels' blocks are released (R498, R516). (DEDUCED, log 92) -/
def State.buildDay (s : State) (close contract ep : Nat) : State :=
  match s.slv.days.find? (fun d => d.close = close ∧ d.contract = contract) with
  | none => s
  | some ds =>
    if ds.leaves.any (fun l => l.1 = ep) then s
    else match s.dayRecord ds ep with
      | none => s
      | some d =>
        let leaf := d.leaf
        let s := (s.dayChans ep close).foldl (fun s ch =>
          let c := s.lch ch
          s.setLch ch { c with blocks := c.blocks.filter (fun k => k.close ≠ close) }) s
        let s := { s with slv := { s.slv with days := s.slv.days.map (fun (x : DaySet) =>
          if x.close = close ∧ x.contract = contract then { x with leaves := x.leaves ++ [(ep, leaf)] } else x) } }
        let s := s.journal (.dayLeaf close ep leaf)
          ((s.dayChans ep close).map (fun ch => LPost.chan ch (s.lch ch)) ++ [LPost.glob s.slv.glob])
        s.archive .day (s.legalDay contract (close - 1)) (.day d)

/-- Every open day set of an endpoint's contract. -/
def State.buildDaysOf (s : State) (ep : Nat) : State :=
  let c := s.contractOf ep
  ((s.slv.days.filter (fun d => d.contract = c)).map DaySet.close).foldl (fun s close => s.buildDay close c ep) s

/-! Readings. -/

/-- A disposition goes to Warp and is counted (R441, R533). -/
def State.dispose (s : State) (e : Entry) (code : Nat) : State :=
  { s with
    slv := { s.slv with dispo := s.slv.dispo ++ [(e.ch, e.ridx, code)] },
    regs := regBumpW s.regs (R.SLV_CNT_k + 4 * (match code with
      | 0 => 0
      | 1 => 1
      | 2 => 2
      | 3 => 3
      | 4 => 4
      | _ => 5)) }

/-- TABLE_VER (R462). -/
def tableVer : Nat := field (regReset R.PEN_ID) 15 0

/-- The index instant of a reading in TAI seconds (R492). -/
def State.indexInstant (s : State) (ch : Chid) (ridx : Nat) : Nat :=
  let period := match s.sys.image with
    | some im => ((im.chan ch).map ChCfg.period).getD 1
    | none => 1
  ((ridx * period : Nat) + utcAt s.tim.utcOffs (ridx * period)).toNat

/-- The PEN counters of one live evaluation (R483). -/
def penCounts (m : Store Word) (o : PenOut) : Store Word :=
  let at_ := fun (k : Nat) => R.PEN_CNT_k + 4 * k
  let inc := fun (m : Store Word) (b : Bool) (k : Nat) => if b then regBumpW m (at_ k) else m
  let m := regBumpW m (at_ 0)
  let m := inc m o.outOfRange 2
  let m := inc m o.substIn 3
  let m := inc m o.nearSat 4
  let m := inc m o.avgBound 5
  let m := inc m o.span 6
  if o.noConverge then regBumpS m (at_ 7) else m

/-- The first OUT_OF_RANGE result of a channel in a legal day raises PEN_RANGE (R473). -/
def State.penRange (s : State) (ch : Chid) (r : ConvRec) (i : PenIn) (o : PenOut) : State :=
  if !o.outOfRange then s
  else
    let card := cardAfter (s.cardHist (s.contractOf (Chid.ep ch))) (s.legalNs / second)
    let day := localDay s.tim.utcOffs card (s.legalNs / second) + 1
    if Store.get (fun _ => 0) s.pen.rangeAt ch = day then s
    else
      let s := { s with pen := { s.pen with rangeAt := Store.put (fun _ => 0) s.pen.rangeAt ch day } }
      s.raise Ev.PEN_RANGE .warning (args := [aIdx ch, .n 1 (penOffend r i)]) (sc := .endpoint (Chid.ep ch))

/-- Beam copies the factor of a raw channel's READING record to BAL (14_balance_engine.md R542). (DEDUCED, log 103) -/
def State.copyFactor (s : State) (ch : Chid) (ridx : Nat) (o : PenOut) : State :=
  { s with bal := { s.bal with factorIn := s.bal.factorIn ++ [(ch, ridx, o.f, o.fallback)] } }

/-- Quantities of a reading in legal quanta, whether PEN estimates it, the carried fractions, the kept factor, the counters
and F (R493, R471, R472). -/
structure Conv where
  qF : Nat
  qR : Nat
  est : Bool
  fracF : Nat
  fracR : Nat
  lastFac : Option Nat
  f : Nat
  out : Option (ConvRec × PenIn × PenOut)

/-- The conversion of a reading's advances (R493). (DEDUCED, log 103) -/
def State.convert (s : State) (e : Entry) (c : LChan) (dF dR n : Nat) : Conv :=
  let plain : Conv := ⟨dF, dR, false, c.fracF, c.fracR, c.lastFac, 0, none⟩
  match s.sys.image with
  | none => plain
  | some im => match im.legal e.ch with
    | none => plain
    | some l => match l.raw, l.conv with
      | true, some r =>
        let fast := decide (((im.ep (Chid.ep e.ch)).map EpCfg.cls) = some 2)
        let i : PenIn := ⟨dF, dR, e.m0, e.m1, e.m2, nbit e.flags 1 || nbit e.flags 2, n, fast⟩
        let z := ((im.zsets.find? (fun x => x.1 = r.zset)).map Prod.snd).getD []
        let o := penEval r z tableVer c.lastFac i
        let aF := c.fracF + o.qF
        let aR := c.fracR + o.qR
        ⟨aF / 2 ^ 16, aR / 2 ^ 16, o.estimated, aF % 2 ^ 16, aR % 2 ^ 16, if o.clean then some o.f else c.lastFac, o.f,
          some (r, i, o)⟩
      | _, _ => plain

/-- The reading becomes the channel's base (R492 steps 5 and 6). -/
def rebase (c : LChan) (e : Entry) (i : Nat) (first : Bool) : LChan :=
  { c with hasBase := true, lastIdx := e.ridx, baseAt := if first then i else c.baseAt, lastAt := i, anchorAt := i,
           mF := e.totF, mR := e.totR, settled := if first then i else c.settled,
           consent := if first then c.consent else none }

/-- Selvedge decides a reading message (R492). -/
def State.decideReading (s : State) (e : Entry) : State :=
  let c := s.lch e.ch
  let i := s.indexInstant e.ch e.ridx
  let l := s.legalNs
  if s.devHold then s.dispose e 0x05
  else if c.held then s.dispose e 0x04
  else if c.hasBase ∧ e.ridx ≤ c.lastIdx then s.dispose e 0x01
  else if i * second + s.legalWin * second < l ∨ l + 120 * second < i * second then s.dispose e 0x03
  else if !c.hasBase then
    let c' := rebase c e i true
    ((s.setLch e.ch c').journal (.reading e.ch e.ridx 0 0 e.flags 0 0 [] []) [.chan e.ch c']).dispose e 0x00
  else
    let m := s.modulus e.ch
    match monoDelta m c.mF e.totF, monoDelta m c.mR e.totR with
    | some dF, some dR =>
      let n := max (e.ridx - c.lastIdx) (e.gaplen + 1)
      let v := s.convert e c dF dR n
      let c1 := { c with fracF := v.fracF, fracR := v.fracR, lastFac := v.lastFac }
      let w := bookSpan (s.bookCtx e.ch) c1 c.lastAt i v.qF v.qR (decide (1 < n) || v.est)
      let c2 := { w.c with lastIdx := e.ridx, lastAt := i, mF := e.totF, mR := e.totR }
      let s := s.setLch e.ch c2
      let s := { s with regs := match v.out with
        | some x => penCounts s.regs x.2.2
        | none => s.regs }
      let s := s.cntW (R.SLV_CNT_k + 4 * 8) w.excluded
      let s := (s.notes e.ch w.notes)
      let s := s.journal (.reading e.ch e.ridx n 0 e.flags (if v.out.isSome then tableVer else 0) v.f w.parts w.mds)
        [.chan e.ch (s.lch e.ch), .glob s.slv.glob]
      let s := match v.out with
        | some x => (s.penRange e.ch x.1 x.2.1 x.2.2).copyFactor e.ch e.ridx x.2.2
        | none => s
      (s.buildDaysOf (Chid.ep e.ch)).dispose e 0x00
    | _, _ =>
      let consent := match c.consent with
        | some t => decide (l ≤ t)
        | none => false
      if nbit e.flags 9 && consent then
        let c' := rebase c e i false
        let s := (s.setLch e.ch c').journal (.reanchor e.ch c.mF c.mR e.totF e.totR) [.chan e.ch c']
        s.dispose e 0x00
      else s.dispose e 0x02

/-- SLV_READING (R492): Selvedge decides the oldest reading message on the handoff; with the legal journal buffer full it takes
none. (DESIGN CHOICE, log 96) -/
def execSlvReading (s : State) : Host.Outcome State Fault Refusal :=
  match s.slv.inbox with
  | [] => .next s
  | e :: rest => .next (if s.jbufFull then s else State.decideReading { s with slv := { s.slv with inbox := rest } } e)

/-! The boundary transaction. -/

/-- A PENDING card activates at t under contract c (R505). -/
def State.activates (s : State) (c t : Nat) : Bool :=
  s.slv.cards.any (fun x => decide (x.2.st = .pending ∧ x.2.body.contract = c ∧ x.2.body.actAt = t * second))

/-- What happens at an instant under a contract. -/
def State.kinds (s : State) (c t : Nat) : Kinds := kindsAt s.tim.utcOffs (s.cardHist c) (s.activates c t) t

/-- An instant forms a boundary (R502, R508). -/
def State.isBoundary (s : State) (t : Nat) : Bool := s.contracts.any (fun c => (s.kinds c t).any)

/-- The earliest boundary after the last one processed that L has reached (R205). (DEDUCED, log 94) -/
def State.dueBoundary (s : State) : Option Nat :=
  let l := s.legalNs / second
  (minutesFrom s.tim.utcOffs ((l - s.slv.lastB) / 60 + 2) s.slv.lastB (l + 1)).find? s.isBoundary

/-- A channel's bookkeeping is taken back into the state. -/
def State.takeBook (s : State) (ch : Chid) (w : Book) : State :=
  ((s.setLch ch w.c).cntW (R.SLV_CNT_k + 4 * 8) w.excluded).notes ch w.notes

/-- Steps 1 and 2 for one channel (R508): settling where its coverage reaches T, then expiring what is due. -/
def State.settleBook (s : State) (t : Nat) (ch : Chid) : Book × Nat :=
  let c := s.lch ch
  let w0 : Book := ⟨c, [], [], [], 0, 0⟩
  if !c.hasBase then (w0, 0)
  else
    let x := s.bookCtx ch
    let w1 := if t ≤ c.lastAt ∧ c.settled < t then settleUpTo x w0 t false else w0
    let lim := t - s.legalWin
    let w2 := if w1.c.settled < lim then settleUpTo x w1 lim true else w1
    (w2, w2.settles - w1.settles)

/-- What steps 1 and 2 make of one channel is taken back into the state. -/
def State.boundarySettle (s : State) (t : Nat) (ch : Chid) : State :=
  let w := (s.settleBook t ch).1
  if w.settles = 0 then s else s.takeBook ch w

/-- Step 3 for one contract whose day closes at T: freed slots and the day-record set (R507, R508). -/
def State.openDay (s : State) (t c : Nat) : State :=
  let card := cardBefore (s.cardHist c) t
  let opened := Store.get (fun _ => t - 86400) s.slv.dayOpen c
  { s with slv := { s.slv with
    days := s.slv.days ++ [⟨t, c, card.cardId, opened, []⟩],
    dayOpen := Store.put (fun _ => 0) s.slv.dayOpen c t,
    cards := Store.mapAll (fun _ => CardSlot.blank) (fun _ x =>
      if x.body.contract = c ∧ (x.st = .expired ∨ x.st = .withdrawn ∨ x.st = .superseded) then { x with st := .free }
      else x) s.slv.cards } }

/-- A card changes state: journaled, audited, and CARD_STATE raised (R505, R520, R535). -/
def State.cardState (s : State) (i : Nat) (st : CardSt) : State :=
  let c := s.card i
  let s := s.setCard i { c with st := st }
  let s := s.journalIf (.card i st c.body c.supMsg c.conMsg) [.glob s.slv.glob]
  let s := s.audit (.card i st)
  s.raise Ev.CARD_STATE .info (args := [aHalf i, aCode st.code]) (sc := .contract c.body.contract)

/-- A PENDING card becomes ACTIVE at T, and the ACTIVE card of its contract SUPERSEDED (R505, R506). -/
def State.activateCard (s : State) (t i : Nat) : State :=
  let b := (s.card i).body
  let old := s.slv.cards.filter (fun x => x.2.st = .active ∧ x.2.body.contract = b.contract)
  let s := old.foldl (fun s x => s.cardState x.1 .superseded) s
  let s := { s with slv := { s.slv with
    force := Store.put (fun _ => []) s.slv.force b.contract ((t, b) :: s.cardHist b.contract) } }
  s.cardState i .active

/-- The legal time after which a STAGED or PARTLY card expires, in ns (R505). -/
def CardSlot.expiry (c : CardSlot) : Nat := c.stagedAt + 30 * 86400 * second

/-- The hold causes in force at any time in (a, b], as bits (R517). -/
def causesIn (hs : List (Nat × Nat × Option Nat)) (a b : Nat) : Nat :=
  hs.foldl (fun m h => if spanMeets (a * second) (b * second) h.2.1 h.2.2 then setNbit m h.1 true else m) 0

/-- Leaves in endpoint order. -/
def sortLeaves (ls : List (Nat × Nat)) : List (Nat × Nat) := ls.foldl (fun m l => Store.insert m l.1 l.2) []

/-- The leaf set of one close is closed (R517). (DEDUCED, log 94) -/
def State.closeSet (s : State) (close : Nat) : State :=
  let ds := s.slv.days.filter (fun d => d.close = close)
  let opened := ds.foldl (fun m d => min m d.opened) close
  { s with slv := { s.slv with
    days := s.slv.days.filter (fun d => d.close ≠ close),
    seals := s.slv.seals ++ [⟨close, s.legalNs, sortLeaves (ds.flatMap DaySet.leaves), s.slv.sealNo + 1,
      causesIn s.slv.devHolds opened close, none⟩],
    sealNo := s.slv.sealNo + 1 } }

/-- BOUNDARY(T) (R508). (DEDUCED, log 94) -/
def State.boundary (s : State) (t : Nat) : State :=
  let cs := s.contracts
  let ks := cs.map (fun c => (c, s.kinds c t))
  let chs := s.chids
  let acts := (s.slv.cards.filter (fun x => x.2.st = .pending ∧ x.2.body.actAt = t * second)).map Prod.fst
  let exps := (s.slv.cards.filter (fun x => (x.2.st = .staged ∨ x.2.st = .partly) ∧ x.2.expiry ≤ t * second)).map Prod.fst
  let expired := chs.foldl (fun n ch => n + (s.settleBook t ch).2) 0
  let settled := chs.foldl (fun n ch => n + (s.settleBook t ch).1.settles) 0 - expired
  let s := chs.foldl (fun s ch => s.boundarySettle t ch) s
  let s := (ks.filter (fun k => k.2.dayClose)).foldl (fun s k => s.openDay t k.1) s
  let eps := match s.sys.image with
    | some im => im.eps.map EpCfg.idx
    | none => []
  let s := eps.foldl (fun s e => s.buildDaysOf e) s
  let s := acts.foldl (fun s i => s.activateCard t i) s
  let s := exps.foldl (fun s i => s.cardState i .expired) s
  let due := ((s.slv.days.filter (fun d => d.close + s.legalWin ≤ t)).map DaySet.close).eraseDups
  let s := due.foldl (fun s c => s.closeSet c) s
  let s := { s with slv := { s.slv with lastB := t } }
  let s := s.journal (.boundary t (ks.any (fun k => k.2.demandEnd)) (ks.any (fun k => k.2.switch))
      (ks.any (fun k => k.2.dayClose)) (!acts.isEmpty) settled expired acts.length)
    (chs.map (fun ch => LPost.chan ch (s.lch ch)) ++ [LPost.glob s.slv.glob])
  s.cntW (R.SLV_CNT_k + 4 * 6)

/-- Every due boundary, in time order, and how many (R206). -/
def State.boundaries : Nat → State → State × Nat
  | 0, s => (s, 0)
  | n + 1, s =>
    match s.dueBoundary with
    | none => (s, 0)
    | some t =>
      let r := State.boundaries n (s.boundary t)
      (r.1, r.2 + 1)

/-- BOUNDARY (R508): the earliest boundary that L has reached is processed as one transaction. -/
def execBoundary (s : State) : Host.Outcome State Fault Refusal :=
  if s.journals && s.slv.ltRun then
    match s.dueBoundary with
    | none => .next s
    | some t => .next (s.boundary t)
  else .next s

/-! Seals. -/

/-- One level of the tree: neighbours are hashed under 0x01, an unpaired node moves up unchanged (R517). -/
def treeLevel : List Nat → List Nat
  | [] => []
  | [a] => [a]
  | a :: b :: r => Config.shake256 (1 :: (beBytes 32 a ++ beBytes 32 b)) :: treeLevel r

/-- The root over leaf hashes; 0 where there is no leaf (R517). -/
def treeRoot : Nat → List Nat → Nat
  | _, [] => 0
  | _, [a] => a
  | 0, a :: _ => a
  | n + 1, ls => treeRoot n (treeLevel ls)

/-- The seal header's bytes (R517). -/
def SealHdr.bytes (h : SealHdr) : List Nat :=
  [0x4B, 0x59, 0x53, 0x45, 0x41, 0x4C, 0x30, 0x31] ++ leBytes 10 (tsPack (h.close * second)) ++
    leBytes 10 (tsPack h.sealedAt) ++ leBytes 4 h.leaves ++ beBytes 32 h.root ++ beBytes 32 h.legalDigest ++
    leBytes 4 h.romDig ++ leBytes 2 h.tableVer ++ leBytes 2 h.holds ++ beBytes 8 h.eui ++ leBytes 8 h.number ++
    List.replicate 8 0

/-- A seal header goes ahead of every waiting key certificate (R594). -/
def addSeal (h : SealHdr) : List SignReq → List SignReq
  | .seal_ x :: r => .seal_ x :: addSeal h r
  | r => .seal_ h :: r

/-- SEAL_TREE_BUILT (R517): the tree of the oldest seal without a header is built and the header goes to KEY. -/
def execSealTreeBuilt (s : State) : Host.Outcome State Fault Refusal :=
  match if s.journals then s.slv.seals.find? (fun j => j.hdr.isNone) else none with
  | none => .next s
  | some j =>
    let h : SealHdr :=
      { close := j.close, sealedAt := j.sealedAt, leaves := j.leaves.length,
        root := treeRoot j.leaves.length (j.leaves.map Prod.snd),
        legalDigest := (s.sys.image.map Image.legalDigest).getD 0, romDig := Config.romDigest % 2 ^ 32,
        tableVer := tableVer, holds := j.holds, eui := s.otp.eui, number := j.number }
    .next { s with
      slv := { s.slv with seals := s.slv.seals.map (fun x => if x.number = j.number then { x with hdr := some h } else x) },
      key := { s.key with signs := addSeal h s.key.signs } }

/-- "KYORD-KDF-1" in ASCII (R591). -/
def kdfName : List Nat := [0x4B, 0x59, 0x4F, 0x52, 0x44, 0x2D, 0x4B, 0x44, 0x46, 0x2D, 0x31]

/-- "KYORD-SEAL" in ASCII (R517). -/
def sealContext : List Nat := [0x4B, 0x59, 0x4F, 0x52, 0x44, 0x2D, 0x53, 0x45, 0x41, 0x4C]

/-- "TEST-ROOT" in ASCII (R597). -/
def testRoot : List Nat := [0x54, 0x45, 0x53, 0x54, 0x2D, 0x52, 0x4F, 0x4F, 0x54]

/-- The root in use (R591, R597): DRK, or TRK under DBG_EN. (DEDUCED, log 117) -/
def State.root (s : State) : Nat :=
  if s.key.debug then Config.kmac256 0 (testRoot ++ beBytes 8 s.otp.eui) 256 kdfName else s.otp.root

/-- IDS, the key under which seals and key certificates are signed (R591, R594). -/
def State.idsKey (s : State) : Nat := Config.kmac256 s.root [0x49, 0x44, 0x2D, 0x32, 0x35, 0x36, 0x53] 768 kdfName

/-- SEAL_SIGNED (R517 step 3): the signature of the oldest seal request returns; `ok` is what SLV's check of it gives.
(DEDUCED, log 93) -/
def execSealSigned (ok : Bool) (s : State) : Host.Outcome State Fault Refusal :=
  match s.key.signs with
  | .seal_ h :: rest =>
    if !ok then .next { s with key := { s.key with signs := addSeal h rest } }
    else
      let sig := Config.sign s.idsKey sealContext h.bytes
      let s := { s with
        key := { s.key with signs := rest },
        slv := { s.slv with seals := s.slv.seals.filter (fun j => j.number ≠ h.number), sealLast := h.close },
        nand := { s.nand with seals := s.nand.seals ++ [(h, sig)] } }
      let s := s.journalIf (.seal_ h sig) [.glob s.slv.glob]
      .next ((s.raise Ev.SEAL_DONE .info).cntS (R.SLV_CNT_k + 4 * 9))
  | _ => .next s

end Sys2Proof.Machine
end

