-- ==== Sys2Proof/Machine/Outputs.lean ====
section
/-!
DEFINITION. Legal outputs (13_selvedge_tariffs.md R529, 02_package_signals.md R71, R72, 19_redundant_pair.md R704) and the
legal checkpoint (R515).
-/

namespace Sys2Proof.Machine
open Sys2Proof

/-- Output `n`'s configuration. -/
def State.outCfg (s : State) (n : Nat) : Option OutCfg :=
  match s.sys.image with
  | some im => im.output n
  | none => none

/-- Output `n`'s accumulator and pulses. -/
def State.outSt (s : State) (n : Nat) : OutSt := Store.get (fun _ => OutSt.blank) s.slv.outs n

/-- Output `n` becomes `x`. -/
def State.setOut (s : State) (n : Nat) (x : OutSt) : State :=
  { s with slv := { s.slv with outs := Store.put (fun _ => OutSt.blank) s.slv.outs n x } }

/-- The active level of an output (R529). -/
def OutCfg.activeLevel (c : OutCfg) : PadSt := if c.inactive = .driveLow then .driveHigh else .driveLow

/-- An ALARM output's condition holds, or a pulse is driven (R529). -/
def State.outWants (s : State) (n : Nat) (c : OutCfg) : Bool :=
  match c.mode with
  | .unused => false
  | .pulse _ _ _ _ _ => (s.outSt n).pulsing
  | .alarm dev ch open_ =>
    (dev && s.devHold) || (match ch with
      | some c => (s.lch c).held
      | none => false) || (open_ && !s.sys.sealClosed)

/-- What output `n` drives (R71): high impedance before Selvedge drives it, the inactive state from t0 on and while the
gate is closed, the fault state in device-wide LEGAL_HOLD. A closed gate goes before LEGAL_HOLD, and an output in mode Unused is
high impedance throughout. (DESIGN CHOICE, log 147) -/
def State.legalPad (s : State) (n : Nat) : PadSt :=
  match s.outCfg n with
  | none => .release
  | some c =>
    if c.mode = .unused then .release
    else if s.sys.outsOff then c.inactive
    else if !s.running then .release
    else if !s.sys.heddle then c.inactive
    else if s.devHold then c.faultSt
    else if s.outWants n c then c.activeLevel
    else c.inactive

/-- Bit n of SLV_OUT.LEVEL: GPIOn drives its active level (R529). -/
def State.outLevel (s : State) (n : Nat) : Bool :=
  match s.outCfg n with
  | none => false
  | some c => decide (c.mode ≠ .unused) && decide (s.legalPad n = c.activeLevel)

/-- Quanta per pulse of a pulse output. -/
def OutMode.qpp : OutMode → Option (Nat × Nat)
  | .pulse _ _ _ q w => some (q, w)
  | _ => none

/-- Pulses owed on output `n` (R529, R532). -/
def State.owed (s : State) (n : Nat) : Nat :=
  match (s.outCfg n).bind (fun c => c.mode.qpp) with
  | none => 0
  | some (q, _) => (s.outSt n).acc / q - (s.outSt n).emitted

/-- Pulses emitted per output, with `extra` counting one more. (DEDUCED, log 102) -/
def State.emittedList (s : State) (extra : Option Nat) : List Nat :=
  (upTo 8).map (fun n => (s.outSt n).emitted + b2n (decide (extra = some n)))

/-- The standby is LIVE (R704): a PULSE record precedes each pulse. -/
def State.standbyLive (s : State) : Bool :=
  s.sys.pairEn && s.par.heard && decide (s.par.peerSync = .live)

/-- LEGAL_PULSE_START (R529, R704): at counter value `t` a pulse owed on output `n` starts, 2 x WIDTH after the last one at the
earliest. While the standby is LIVE, the PULSE record is journaled first, and the pulse starts once it is acknowledged.
(DEDUCED, log 102) -/
def execLegalPulseStart (t n : Nat) (s : State) : Host.Outcome State Fault Refusal :=
  let s := s.reach t
  match (s.outCfg n).bind (fun c => c.mode.qpp) with
  | none => .next s
  | some (_, w) =>
    let x := s.outSt n
    let spaced := match x.last with
      | none => true
      | some a => decide (a + 2 * msCounts w ≤ s.tim.cnt)
    if !(decide (s.sys.st = .active) && s.sys.heddle && !s.sys.outsOff && !s.devHold && decide (0 < s.owed n) && !x.pulsing && spaced) then
      .next s
    else if s.standbyLive && x.waits.isNone then
      let s := s.journal (.pulse (s.emittedList (some n)))
      .next (s.setOut n { s.outSt n with waits := some s.slv.jseq })
    else if s.standbyLive && decide (s.par.mack < x.waits.getD 0) then .next s
    else .next ((s.setOut n { x with pulsing := true, last := some s.tim.cnt, waits := none }).emit (.legalOut n true))

/-- LEGAL_PULSE_END (R529): WIDTH after its start, the pulse ends and counts as emitted. -/
def execLegalPulseEnd (t n : Nat) (s : State) : Host.Outcome State Fault Refusal :=
  let s := s.reach t
  match (s.outCfg n).bind (fun c => c.mode.qpp) with
  | none => .next s
  | some (_, w) =>
    let x := s.outSt n
    if x.pulsing && decide (x.last.getD 0 + msCounts w ≤ s.tim.cnt) then
      .next ((s.setOut n { x with pulsing := false, emitted := x.emitted + 1 }).emit (.legalOut n false))
    else .next s

/-- Pulses in progress are cut (R72): they count as not emitted. -/
def State.cutPulses (s : State) : State :=
  { s with slv := { s.slv with outs := Store.mapAll (fun _ => OutSt.blank) (fun _ o => { o with pulsing := false, waits := none }) s.slv.outs } }

/-- At t0 a pulse in progress is cut and counts as not emitted (R72); where it was cut, a PULSE record in the journal buffer takes
back the one that was journaled before it started (R704), so that it is owed after the restart. (DEDUCED, log 102) -/
def State.cutAtT0 (s : State) : State :=
  let cut := s.slv.outs.any (fun (x : Nat × OutSt) => x.2.pulsing)
  let t := s.cutPulses
  if cut && t.journals then t.journal (.pulse (t.emittedList none)) else t

/-- A LEGAL section takes legal effect: where it is another one than the outputs count under, every accumulator starts at 0 (R529).
(DEDUCED, log 102) -/
def State.legalEffect (s : State) : State :=
  match s.sys.image with
  | none => s
  | some im =>
    if nbit s.slv.causes 0 || nbit s.slv.causes 1 || decide (s.slv.outsFor = some im.legalDigest) then s
    else { s with slv := { s.slv with outs := [], outsFor := some im.legalDigest } }

/-- The legal checkpoint slice that an endpoint's channels belong to; how 1,024 slices divide the region is the model's
choice. (DEDUCED, log 95) -/
def legalSliceOf (ch : Chid) : Nat := Chid.ep ch % 1024

/-- Legal checkpoint slice `i` as it stands. -/
def State.legalSlice (s : State) (i : Nat) : LegalSlice :=
  { chans := s.slv.chans.filter (fun (c : Nat × LChan) => legalSliceOf c.1 = i),
    glob := if i = 0 then some s.slv.glob else none, stamp := s.slv.jseq }

/-- A legal checkpoint cycle completes: what Beam waits for ends (15_beam_archive.md R583, R584). (DEDUCED, log 113) -/
def State.ckptCycleDone (s : State) : State :=
  let e := s.bem.exposedLeft
  let f := s.bem.shortLeft
  let s := { s with bem := { s.bem with exposedLeft := e - 1, shortLeft := f - 1, exposed := if e = 1 then false else s.bem.exposed } }
  let s := if e = 1 then s.endEv Ev.LEGAL_EXPOSED else s
  if f = 1 then s.endEv Ev.FLUSH_SHORT else s

/-- While a resynchronisation is served, each slice goes to the standby as it is copied, and BULK_DONE after the last (R706 step
4). -/
def State.serveSlice (s : State) (i : Nat) (x : LegalSlice) : State :=
  match s.par.serving with
  | none => s
  | some (n, hi) =>
    let hi := max hi x.stamp
    if 1024 ≤ n then s
    else
    let s := s.pairSend (.bulkSlice i x)
    if n + 1 < 1024 then { s with par := { s.par with serving := some (n + 1, hi) } }
    else { s with par := { s.par with serving := some (n + 1, hi) } }.pairSend (.bulkDone hi)

/-- Selvedge copies its next legal checkpoint slice (R515). -/
def State.copySlice (s : State) : State :=
  let i := s.slv.ckptSlice
  let x := s.legalSlice i
  let old := Store.get (fun _ => []) s.nand.slices i
  let s := { s with
    nand := { s.nand with slices := Store.put (fun _ => []) s.nand.slices i (x :: old.take 1) },
    slv := { s.slv with ckptSlice := (i + 1) % 1024 } }
  let s := s.journal (.ckpt i x.stamp)
  let s := if s.slv.outs.isEmpty then s else s.journal (.pulse (s.emittedList none)) [.glob s.slv.glob]
  let s := s.serveSlice i x
  if i = 1023 then s.ckptCycleDone else s

/-- LEGAL_CHECKPOINT_SLICE (R515): the next slice is copied and stamped, CKPT and PULSE records are journaled. -/
def execLegalCheckpointSlice (s : State) : Host.Outcome State Fault Refusal :=
  if s.running && s.bem.mounted && !s.sys.legalUnread then .next s.copySlice else .next s

end Sys2Proof.Machine
end

