-- ==== Sys2Proof/Machine/Authority.lean ====
section
/-!
DEFINITION. Authority commands (13_selvedge_tariffs.md R525 to R527). They arrive as ACTION 1 of object class 0x0190
(18_host_objects_roles.md R664, R665): byte D is the command's code; a channel command names the endpoint in TARGET and
the channel in byte B (DESIGN CHOICE, the spec gives the class no TARGET).
-/

namespace Sys2Proof.Machine
open Sys2Proof

/-- An authority command is journaled and audited with its outcome (R520, R525). -/
def State.authRecord (s : State) (cmd arg : Nat) (st : Status) (post : List LPost) : State :=
  (s.journalIf (.authority cmd arg st) post).audit (.authority cmd st)

/-- RELEASE_CHANNEL (R526): its outcome is BAD_REQUEST where the channel is not in hold, BUSY where both causes hold.
(DEDUCED, log 99) -/
def State.releaseChannel (s : State) (ch : Chid) : State × Status :=
  let c := s.lch ch
  if !c.held then (s, .badRequest)
  else if c.holdRoll && c.holdAuth then (s, .busy)
  else
    let now := s.legalNs
    let stuck := if c.holdRoll then c.totals.filter (fun (t : Nat × Total) => t.2.roll = 0xFFFF) else []
    let ex := if c.holdRoll then c.excess else []
    let c1 := { c with
      holdRoll := false, holdAuth := false, excess := if c.holdRoll then [] else c.excess,
      totals := stuck.foldl (fun (m : Store Total) t => Store.put (fun _ => Total.zero) m t.1 { t.2 with value := 0, roll := 0 }) c.totals,
      holds := c.holds.map (fun (h : Nat × Option Nat) => if h.2.isNone then (h.1, some now) else h) }
    let m := s.modulus ch
    let r := ex.foldl (fun (x : LChan × List Note) e =>
      let y := creditOne m x.1 e.obj e.q e.est
      (y.1, x.2 ++ y.2)) (c1, [])
    let s := (s.setLch ch r.1).journalIf (.hold (some ch) (if c.holdRoll then 0 else 1) false none stuck) [.chan ch r.1]
    let s := s.audit (.hold (if c.holdRoll then 0 else 1) false)
    let s := s.endEv Ev.LEGAL_HOLD_CH (fun e => decide (e.args = [aIdx ch]))
    (s.notes ch r.2, .ok)

/-- The first check of R527 that REVERIFY fails; `romOk` and `penOk` are the outcomes of checks 3 and 4. (DEDUCED, log 99) -/
def State.reverifyFail (s : State) (romOk penOk : Bool) : Option Nat :=
  if !s.sys.sealClosed then some 1
  else if s.otp.seals.getLast? ≠ s.sys.image.map Image.legalComputed ∨ s.otp.seals = [] then some 2
  else if !romOk then some 3
  else if !penOk then some 4
  else none

/-- REVERIFY (R527). (DEDUCED, log 99) -/
def State.reverify (s : State) (romOk penOk : Bool) : State × Status :=
  match s.reverifyFail romOk penOk with
  | some n =>
    let s := { s with slv := { s.slv with verified := false } }
    let s := (s.journalIf (.event Ev.REVERIFY_FAIL n)).audit (.reverify false)
    (s.raise Ev.REVERIFY_FAIL .warning (args := [aCode n]), .refused)
  | none =>
    let s := ((s.clearCause 0).clearCause 1).clearCause 2
    let s := { s with slv := { s.slv with verified := true } }
    (((s.audit (.reverify true)).endEv Ev.SEAL_OPEN).legalEffect, .ok)

/-- SEAL_PROGRAM (R525): the running LEGAL_DIGEST goes into the next OTP seal entry. -/
def State.sealProgram (s : State) : State × Status :=
  if s.sys.sealClosed ∨ s.sys.dbgEn then (s, .denied)
  else if 32 ≤ s.otp.seals.length then (s, .otpFull)
  else match s.sys.image with
    | none => (s, .denied)
    | some im => ({ s with otp := { s.otp with seals := s.otp.seals ++ [im.legalDigest] } }, .ok)

/-- LEGAL_UNLOCK (R525). -/
def State.legalUnlock (s : State) : State × Status :=
  if s.sys.sealClosed then (s, .denied) else ({ s with slv := { s.slv with unlock := true } }, .ok)

/-- A request carries the authority command `cmd`: its body `f` runs on the ACTIVE unit, is journaled and audited, and the
request completes with the outcome (R525, R664, R667). (DESIGN CHOICE, log 98) -/
def State.authRun (s : State) (o : ObjReq) (cmd arg : Nat) (f : State → State × Status) : State :=
  s.objRun o 0x90 .authority (fun s _ _ =>
    if o.b 3 ≠ cmd then (s, some (.unmapped, []))
    else if s.sys.st = .standby then (s, some (.notActive, []))
    else
      let r := f s
      (r.1.authRecord cmd arg r.2 [.glob r.1.slv.glob], some (r.2, [r.2.code])))

/-- The same for a command that names a channel: TARGET must lie in the partition's scope (R659), byte B be an enabled
channel. (DESIGN CHOICE, log 98) -/
def State.authChan (s : State) (o : ObjReq) (cmd : Nat) (f : State → Chid → State × Status) : State :=
  s.objRun o 0x90 .authority (fun s _ _ =>
    let ch := mkChid o.target (o.b 1)
    if o.b 3 ≠ cmd then (s, some (.unmapped, []))
    else if s.sys.st = .standby then (s, some (.notActive, []))
    else if s.epScope o.dg.part o.target ≠ .ok then (s, some (s.epScope o.dg.part o.target, []))
    else if !s.chids.contains ch then (s, some (.unmapped, []))
    else
      let r := f s ch
      (r.1.authRecord cmd ch r.2 [.chan ch (r.1.lch ch), .glob r.1.slv.glob], some (r.2, [r.2.code])))

/-- HOLD_DEVICE (R525). -/
def execHoldDevice (o : ObjReq) (s : State) : Host.Outcome State Fault Refusal :=
  .next (s.authRun o 0x01 0 (fun s => (s.setCause 10, .ok)))

/-- RELEASE_DEVICE (R525). -/
def execReleaseDevice (o : ObjReq) (s : State) : Host.Outcome State Fault Refusal :=
  .next (s.authRun o 0x02 0 (fun s => (s.clearCause 10, .ok)))

/-- HOLD_CHANNEL (R525, R523). -/
def execHoldChannel (o : ObjReq) (s : State) : Host.Outcome State Fault Refusal :=
  .next (s.authChan o 0x03 (fun s ch => (if (s.lch ch).holdAuth then s else s.holdChan ch 1, .ok)))

/-- RELEASE_CHANNEL (R526). -/
def execReleaseChannel (o : ObjReq) (s : State) : Host.Outcome State Fault Refusal :=
  .next (s.authChan o 0x04 (fun s ch => s.releaseChannel ch))

/-- REANCHOR_CONSENT (R525): consent for one REANCHOR of the channel, valid 7 days. -/
def execReanchorConsent (o : ObjReq) (s : State) : Host.Outcome State Fault Refusal :=
  .next (s.authChan o 0x05 (fun s ch =>
    (s.setLch ch { s.lch ch with consent := some (s.legalNs + 7 * 86400 * second) }, .ok)))

/-- REANCHOR_CONSENT_EXPIRY (R525): once L is past its 7 days, a channel's consent lapses. -/
def execReanchorConsentExpiry (ch : Chid) (s : State) : Host.Outcome State Fault Refusal :=
  match (s.lch ch).consent with
  | none => .next s
  | some t => if t < s.legalNs then .next (s.setLch ch { s.lch ch with consent := none }) else .next s

/-- REVERIFY (R527). (DESIGN CHOICE, log 7) -/
def execReverify (o : ObjReq) (romOk penOk : Bool) (s : State) : Host.Outcome State Fault Refusal :=
  .next (s.authRun o 0x06 0 (fun s => s.reverify romOk penOk))

/-- SEAL_PROGRAM (R525). -/
def execSealProgram (o : ObjReq) (s : State) : Host.Outcome State Fault Refusal :=
  .next (s.authRun o 0x07 0 State.sealProgram)

/-- LEGAL_UNLOCK (R525). -/
def execLegalUnlock (o : ObjReq) (s : State) : Host.Outcome State Fault Refusal :=
  .next (s.authRun o 0x08 0 State.legalUnlock)

end Sys2Proof.Machine
end

