-- ==== Sys2Proof/Machine/Units.lean ====
section
/-!
DEFINITION. Replicated units and their masks (01_architecture.md R41 to R43; 20_faults_degradation.md R723, R726).
-/

namespace Sys2Proof.Machine
open Sys2Proof

/-- The mask of usable units of a kind (R147). -/
def State.mask (s : State) (k : UnitKind) : Nat :=
  match k with
  | .core => s.sys.cores
  | .port => s.sys.ports
  | .group => s.sys.ports
  | .lane => s.sys.lanes
  | .pipe => s.sys.pens
  | .nand => s.sys.nands

/-- The bits of the mask that a unit has: a port group has eight. -/
def unitBits (k : UnitKind) (n : Nat) : List Nat := if k = .group then (upTo 8).map (fun i => 8 * n + i) else [n]

/-- The unit is usable. -/
def State.usable (s : State) (k : UnitKind) (n : Nat) : Bool := (unitBits k n).any (nbit (s.mask k))

/-- The mask without a unit. -/
def maskDown (m : Nat) (k : UnitKind) (n : Nat) : Nat := (unitBits k n).foldl (fun m i => setNbit m i false) m

/-- The unit's bit leaves the masks and UNIT_FAILED is raised (R726): WARNING while a usable unit of the kind remains, else
FAULT. -/
def State.unitDown (s : State) (k : UnitKind) (n : Nat) : State :=
  if !s.usable k n then s
  else
    let m := maskDown (s.mask k) k n
    let sys := match k with
      | .core => { s.sys with cores := m }
      | .port => { s.sys with ports := m }
      | .group => { s.sys with ports := m }
      | .lane => { s.sys with lanes := m }
      | .pipe => { s.sys with pens := m }
      | .nand => { s.sys with nands := m }
    let s := { s with sys := sys, evt := { s.evt with failed := s.evt.failed ++ [(k, n)] } }
    (s.cntS (R.EVT_CNT_k + 24)).raise Ev.UNIT_FAILED (if m = 0 then .fault else .warning) (unit := n)
      (args := [aCode k.code]) (lasting := true)

/-- A day in counts of the counter. -/
def dayCounts : Nat := 24 * hourCounts

/-- A detected error of a unit at `t` (R723, R726): the state that records it, and whether it is the third within 24 h. -/
def State.unitError (s : State) (k : UnitKind) (n t : Nat) : State × Bool :=
  let old := ((s.evt.errs.find? (fun (e : UnitErrs) => e.kind = k ∧ e.num = n)).map UnitErrs.times).getD []
  let ts := t :: old.filter (fun x => decide (t < x + dayCounts))
  let rest := s.evt.errs.filter (fun (e : UnitErrs) => !(e.kind = k ∧ e.num = n))
  ({ s with evt := { s.evt with errs := rest ++ [⟨k, n, ts⟩] } }, decide (3 ≤ ts.length))

end Sys2Proof.Machine
end

