-- ==== Sys2Proof/Machine/Pen.lean ====
section
/-!
DEFINITION. The Property Engine's pipes and recompute service (12_property_engine.md R474 to R484).
-/

namespace Sys2Proof.Machine
open Sys2Proof

/-! Recompute jobs (R479 to R481). -/

/-- The recompute job of partition `j`. -/
def State.job (s : State) (j : Nat) : Job := Store.get (fun _ => Job.blank) s.pen.jobs j

/-- Partition `j`'s job becomes `x`. -/
def State.setJob (s : State) (j : Nat) (x : Job) : State :=
  { s with pen := { s.pen with jobs := Store.put (fun _ => Job.blank) s.pen.jobs j x } }

/-- The job is waiting or running. -/
def Job.busy (x : Job) : Bool := decide (x.st = .queued ∨ x.st = .running)

/-- A job ends (R480): it leaves the order, the next one runs, and RECOMPUTE_DONE is raised. (DEDUCED, log 86) -/
def State.jobEnds (s : State) (j : Nat) (x : Job) : State :=
  let rest := s.pen.order.filter (· ≠ j)
  let s := (State.setJob { s with pen := { s.pen with order := rest } } j x)
  let s := match rest with
    | [] => s
    | k :: _ => s.setJob k { s.job k with st := .running }
  s.raise Ev.RECOMPUTE_DONE .info (unit := j) (args := [aCode x.st.code])

/-- A job is aborted with a cause (R481): 1 RESET, 2 TAKEOVER, 3 PEN_LOST, 4 CANCELLED. -/
def State.abortJob (s : State) (j cause : Nat) : State :=
  if (s.job j).busy then s.jobEnds j { s.job j with st := .aborted, code := cause } else s

/-- Every job is aborted. -/
def State.abortJobs (s : State) (cause : Nat) : State := (upTo 8).foldl (fun s j => s.abortJob j cause) s

/-- A job is submitted (R479, R481): it runs at once when no other does. -/
def State.submitJob (s : State) (j : Nat) (x : Job) : State :=
  let st : JobSt := if s.pen.order = [] then .running else .queued
  State.setJob { s with pen := { s.pen with order := s.pen.order ++ [j] } } j { x with st := st }

/-- A sum in 2^-16 quanta, sticking (R680). -/
def stickSum (a b : Nat) : Nat := min (2 ^ 64 - 1) (a + b)

/-- The sums of a channel and mode with one more result. -/
def JobSum.add (x : JobSum) (o : PenOut) (mism : Bool) (ridx : Nat) : JobSum :=
  { x with
    recs := x.recs + 1,
    qFM := if o.estimated then x.qFM else stickSum x.qFM o.qF, qRM := if o.estimated then x.qRM else stickSum x.qRM o.qR,
    qFE := if o.estimated then stickSum x.qFE o.qF else x.qFE, qRE := if o.estimated then stickSum x.qRE o.qR else x.qRE,
    oor := x.oor + b2n o.outOfRange,
    mism := x.mism + b2n mism, firstMism := if mism ∧ x.firstMism = 0 then ridx else x.firstMism }

/-- A job with one more record evaluated. -/
def Job.take (x : Job) (ch : Chid) (mode ridx : Nat) (o : PenOut) (mism : Bool) : Job :=
  let hit := fun (y : JobSum) => decide (y.ch = ch ∧ y.mode = mode)
  let sums := if x.sums.any hit then x.sums.map (fun y => if hit y then y.add o mism ridx else y)
    else x.sums ++ [JobSum.add ⟨ch, mode, 0, 0, 0, 0, 0, 0, 0, 0⟩ o mism ridx]
  { x with recs := x.recs + 1, mism := min 0xFFFFFFFF (x.mism + b2n mism), oor := min 0xFFFFFFFF (x.oor + b2n o.outOfRange), sums := sums }

/-- A skipped record (R479). (DESIGN CHOICE, log 87) -/
def Job.skip (x : Job) : Job := { x with skipped := min 0xFFFFFFFF (x.skipped + 1) }

/-- A raw channel's conversion record and compressibility set. -/
def State.convOf (s : State) (ch : Chid) : Option (ConvRec × List Nat) :=
  match s.sys.image with
  | none => none
  | some im => match im.legal ch with
    | none => none
    | some l => match l.raw, l.conv with
      | true, some r => some (r, ((im.zsets.find? (fun x => x.1 = r.zset)).map Prod.snd).getD [])
      | _, _ => none

/-- Records of a HOST job are evaluated in order (R479). The channel's last factor serves a record out of range.
(DEDUCED, log 86) -/
def State.runHost (s : State) (j : Nat) (x : Job) : Job :=
  let inScope := fun (ch : Chid) => decide (s.sys.image.bind (fun im => (im.part j).map (fun (p : PartCfg) =>
    im.inScope p.scope (Chid.ep ch))) = some true)
  x.input.foldl (fun (x : Job) (r : HostRec) =>
    match s.convOf r.ch with
    | none => x.skip
    | some (c, z) =>
      if !inScope r.ch then x.skip
      else
        let o := penEval c z tableVer (s.lch r.ch).lastFac ⟨r.dvF, r.dvR, r.m0, r.m1, r.m2, false, r.n, decide (r.cls = 2)⟩
        x.take r.ch 0 r.ridx o false) x

/-- Archived entries of a channel, oldest first, with whether each is a 1-min aggregate (R564, R578). -/
def State.archived (s : State) (ch : Chid) : List (Bool × Entry) :=
  (s.nand.archive ++ s.bem.archBuf).filterMap (fun (r : ArchRec) =>
    match r.data with
    | .entry e => if e.ch = ch ∧ e.kind = .actual ∧ !r.lost ∧ !r.dropped then some (decide (r.stream = .fastMin), e) else none
    | _ => none)

/-- The legal journal that the unit holds, in JSEQ order. -/
def State.wholeJournal (s : State) : List JRec := s.nand.journal ++ s.nand.flushLegal ++ s.slv.jbuf

/-- The LEGAL_DIGEST under which record `q` was journaled: that of the last START record up to it. (DEDUCED, log 86) -/
def digestAt (js : List JRec) (q : Nat) : Option Nat :=
  js.foldl (fun (d : Option Nat) (r : JRec) => match r.body with
    | .start _ _ g _ => if r.jseq ≤ q then some g else d
    | _ => d) none

/-- The journaled legal result of a channel's index: JSEQ, n, table version and F (R513). -/
def journaled (js : List JRec) (ch : Chid) (ridx : Nat) : Option (Nat × Nat × Nat × Nat) :=
  js.findSome? (fun (r : JRec) => match r.body with
    | .reading c k n _ _ v f _ _ => if c = ch ∧ k = ridx then some (r.jseq, n, v, f) else none
    | _ => none)

/-- Records of an ARCHIVE job for one channel (R479): each ACTUAL entry in range, its advance from the entry before it that
Selvedge accepted, compared with the journal at the same resolution. (DEDUCED, log 86; DESIGN CHOICE, log 87) -/
def State.runArchive (s : State) (x : Job) (ch : Chid) : Job :=
  match s.convOf ch with
  | none => x
  | some (c, z) =>
    let es := s.archived ch
    let js := s.wholeJournal
    let now := s.sys.image.map Image.legalDigest
    let m := s.modulus ch
    let fast := decide ((s.sys.image.bind (fun im => (im.ep (Chid.ep ch)).map EpCfg.cls)) = some 2)
    let rng := es.filter (fun (y : Bool × Entry) => decide (x.fromT ≤ y.2.capture ∧ y.2.capture ≤ x.toT))
    (rng.foldl (fun (a : Job × Option Nat) (y : Bool × Entry) =>
      let e := y.2
      let before := (es.filter (fun (b : Bool × Entry) => decide (b.1 = y.1 ∧ b.2.ridx < e.ridx ∧ b.2.disp = 0))).getLast?
      let j := if y.1 then none else journaled js ch e.ridx
      let old := match j with
        | some q => decide (digestAt js q.1 ≠ now ∧ digestAt js q.1 ≠ none)
        | none => false
      match before with
      | none => (a.1.skip, a.2)
      | some b =>
        if old then (a.1.skip, a.2)
        else
          let dF := (e.totF + m - b.2.totF) % m
          let dR := (e.totR + m - b.2.totR) % m
          let n := match j with
            | some q => q.2.1
            | none => e.ridx - b.2.ridx
          let o := penEval c z tableVer a.2 ⟨dF, dR, e.m0, e.m1, e.m2, nbit e.flags 1 || nbit e.flags 2, n, fast && !y.1⟩
          let mism := match j with
            | some q => decide (q.2.2.1 ≠ o.tableVer ∨ q.2.2.2 ≠ o.f)
            | none => false
          (a.1.take ch (b2n y.1) e.ridx o mism, if o.clean then some o.f else a.2)) (x, (s.lch ch).lastFac)).1

/-- RECOMPUTE_JOB_END (R479, R480): the running job of partition `j` has evaluated its records. (DEDUCED, log 86) -/
def execRecomputeJobEnd (j : Nat) (s : State) : Host.Outcome State Fault Refusal :=
  .next (
    let x := s.job j
    if x.st ≠ .running then s
    else
      let y := if x.host then s.runHost j x else x.chans.foldl (fun y ch => s.runArchive y ch) x
      let s := (s.cntW (R.PEN_CNT_k + 4) (y.recs - x.recs)).jobEnds j { y with st := .done }
      match y.sums.find? (fun (z : JobSum) => z.mism ≠ 0) with
      | some z => s.raise Ev.RECOMPUTE_MISMATCH .warning (args := [aIdx z.ch, aIdx z.firstMism]) (sc := .endpoint (Chid.ep z.ch))
      | none => s)

/-! Pipes (R476 to R478). -/

/-- Usable pipes. -/
def State.pipes (s : State) : List Nat := (upTo 4).filter (nbit s.sys.pens)

/-- No pipe that is usable is enabled: the others are enabled, or the engine is lost (R478). -/
def State.penCheck (s : State) : State :=
  if s.pipes.any (nbit s.pen.pipeEn) then s
  else if s.pipes ≠ [] then { s with pen := { s.pen with pipeEn := s.pipes.foldl (fun m k => setNbit m k true) s.pen.pipeEn } }
  else
    let s := (s.setCause 8).raise Ev.PEN_LOST .fault (lasting := true)
    s.abortJobs 3

/-- Pipe `k` fails (R476, R726): its work runs again on another. -/
def State.failPipe (s : State) (k : Nat) : State :=
  if !s.usable .pipe k then s
  else
    let s := s.unitDown .pipe k
    let s := { s with pen := { s.pen with failed := setNbit s.pen.failed k true, pipeEn := setNbit s.pen.pipeEn k false } }
    (s.raise Ev.PEN_PIPE_FAIL .fault (unit := k) (lasting := true)).penCheck

/-- PEN_SELF_TEST (R476): pipe `k`'s self-test ends; `ok`: every point matched. -/
def execPenSelfTest (k : Nat) (ok : Bool) (s : State) : Host.Outcome State Fault Refusal :=
  .next (
    if ok || !s.usable .pipe k || !nbit s.pen.pipeEn k || !s.running then s
    else (s.cntS (R.PEN_CNT_k + 32)).failPipe k)

/-- The effect of a write of PEN_CTRL (R477, R483): bits of pipes that are not usable stay 0; a write that would leave none is
refused. -/
def State.penCtrlEff (s : State) (v : Word) : State × Status :=
  let en := (upTo 4).foldl (fun m k => setNbit m k (bit v k && nbit s.sys.pens k)) 0
  if en = 0 then (s, .denied) else ({ s with pen := { s.pen with pipeEn := en } }, .ok)

/-- A PEN_CTRL word with pipe `k`'s bit changed. -/
def State.penCtrlWord (s : State) (k : Nat) (b : Bool) : Word := BitVec.ofNat 32 (setNbit s.pen.pipeEn k b)

/-- PIPE_DISABLE (R477): a write of PEN_CTRL that clears pipe `k`'s bit. -/
def execPipeDisable (r : Requester) (k : Nat) (s : State) : Host.Outcome State Fault Refusal :=
  .next (s.writeRow r (0x800000 + R.PEN_CTRL) (s.penCtrlWord (k % 4) false) State.penCtrlEff)

/-- PIPE_ENABLE (R477): a write of PEN_CTRL that sets pipe `k`'s bit. -/
def execPipeEnable (r : Requester) (k : Nat) (s : State) : Host.Outcome State Fault Refusal :=
  .next (s.writeRow r (0x800000 + R.PEN_CTRL) (s.penCtrlWord (k % 4) true) State.penCtrlEff)

end Sys2Proof.Machine
end

