-- ==== Sys2Proof/Machine/Cards.lean ====
section
/-!
DEFINITION. Dual control of tariff cards (13_selvedge_tariffs.md R503 to R505, R534): Selvedge decides the oldest message of
the card-staging channel. Whether a signature is valid is the command's operand, the outcome of FIPS 205 verification.
-/

namespace Sys2Proof.Machine
open Sys2Proof

/-- A commit's message has been decided: the partition's last card commit (R672) and HST_DP_STAT (R642). -/
def State.cardDecided (s : State) (j type code slot : Nat) : State :=
  (s.setPart j { s.part j with lastCard := some (type, code, slot) }).decided j 0x05 (if code = 0 then .ok else .refused)

/-- A message is refused with a code (R504, R535); the slot keeps the code of its last refusal (R534). -/
def State.cardRefused (s : State) (j type code contract : Nat) (slot : Option Nat) : State :=
  let s := match slot with
    | none => s
    | some i => s.setCard i { s.card i with lastCode := code }
  (s.raise Ev.CARD_REFUSED .warning (args := [aCode code]) (sc := .contract contract)).cardDecided j type code (slot.getD 0)

/-- The contract's entry of the LEGAL section. -/
def State.contractCfg (s : State) (c : Nat) : Option ContractCfg :=
  match s.sys.image with
  | some im => im.contracts.find? (fun (x : ContractCfg) => x.num = c)
  | none => none

/-- Cards of a contract held in the store (R504). -/
def State.cardsOf (s : State) (c : Nat) : List (Nat × CardSlot) :=
  s.slv.cards.filter (fun (x : Nat × CardSlot) => x.2.body.contract = c ∧ x.2.st ≠ .free)

/-- The lowest free slot of the 4,096. (DESIGN CHOICE, log 101) -/
def State.freeSlot (s : State) : Option Nat :=
  (upTo 4096).find? (fun i => !s.slv.cards.any (fun (x : Nat × CardSlot) => x.1 = i ∧ x.2.st ≠ .free))

/-- The first check of R504 that a STAGE fails, by its code. -/
def State.stageCode (s : State) (b : CardBody) : Option Nat :=
  if !cardFormat b then some 0x01
  else if b.contract = 0 ∨ (s.contractCfg b.contract).isNone then some 0x02
  else if !cardAlign b then some 0x03
  else if (s.cardsOf b.contract).any (fun x => b.cardId ≤ x.2.body.cardId) then some 0x04
  else if s.freeSlot.isNone then some 0x05
  else none

/-- Selvedge decides a STAGE message (R504, R505). (DESIGN CHOICE, log 101) -/
def State.stageCard (s : State) (j : Nat) (b : CardBody) : State :=
  match s.stageCode b, s.freeSlot with
  | some c, _ => s.cardRefused j 1 c b.contract none
  | none, none => s.cardRefused j 1 0x05 b.contract none
  | none, some i =>
    ((s.setCard i ⟨.free, b, s.legalNs, false, false, [], [], 0⟩).cardState i .staged).cardDecided j 1 0 i

/-- MSN queues the calendar pushes of a card that has become PENDING (09_meter_sessions.md R372). -/
def State.pushCalendars (s : State) (slot : Nat) : State :=
  match s.sys.image with
  | none => s
  | some im =>
    let b := (s.card slot).body
    let eps := im.eps.filter (fun (e : EpCfg) => e.calendar && decide (im.contractOf e.idx = b.contract))
    let add : List (Nat × Req) := eps.map (fun (e : EpCfg) =>
      (e.idx, ⟨.push slot b.actAt, decide (e.cls = 2), s.tim.cnt, 0, none, false, none⟩))
    { s with msn := { s.msn with
      held := s.msn.held ++ add, late := s.msn.late.filter (fun (x : Nat × Nat) => x.2 ≠ slot) } }

/-- The digest the contract's sealed entry gives for a role: 0 supplier, 1 consumer (R503). -/
def ContractCfg.digest (c : ContractCfg) (role : Nat) : Option Nat :=
  match role with
  | 0 => some c.supplier
  | 1 => some c.consumer
  | _ => none

/-- The key of a message is the contract's for its role (R504). -/
def State.keyIs (s : State) (contract role dig : Nat) : Bool :=
  match s.contractCfg contract with
  | none => false
  | some c => decide (c.digest role = some dig)

/-- The checks that complete a card (R504): its code, or none. -/
def State.completeCode (s : State) (i : Nat) : Option Nat :=
  let b := (s.card i).body
  if !(decide (b.actAt % second = 0) && isDayClose s.tim.utcOffs b (b.actAt / second)
      && decide (s.legalNs + 3600 * second ≤ b.actAt)) then some 0x07
  else if (s.cardsOf b.contract).any (fun x => x.1 ≠ i ∧ x.2.st = .pending) then some 0x08
  else none

/-- Selvedge decides a SIGN message (R504, R505). -/
def State.signCard (s : State) (j i role dig : Nat) (msg : List Nat) (sigOk : Bool) : State :=
  let c := s.card i
  let k := c.body.contract
  let signed := if role = 0 then c.sigSup else c.sigCon
  if !(decide (c.st = .staged ∨ c.st = .partly) && s.keyIs k role dig && !signed && sigOk) then
    s.cardRefused j 2 0x06 k (some i)
  else
    let c' := if role = 0 then { c with sigSup := true, supMsg := msg } else { c with sigCon := true, conMsg := msg }
    let s := s.setCard i c'
    if c.st = .staged then (s.cardState i .partly).cardDecided j 2 0 i
    else match s.completeCode i with
      | some code => (s.cardState i .free).cardRefused j 2 code k (some i)
      | none => ((s.cardState i .pending).pushCalendars i).cardDecided j 2 0 i

/-- Selvedge decides a WITHDRAW message (R504, R505). -/
def State.withdrawCard (s : State) (j i role dig : Nat) (sigOk : Bool) : State :=
  let c := s.card i
  let k := c.body.contract
  if !(decide (c.st = .staged ∨ c.st = .partly ∨ c.st = .pending) && s.keyIs k role dig && sigOk) then
    s.cardRefused j 3 0x06 k (some i)
  else (s.cardState i .withdrawn).cardDecided j 3 0 i

/-- CARD_STAGE (R504): the oldest card message is a STAGE. -/
def execCardStage (s : State) : Host.Outcome State Fault Refusal :=
  match s.slv.cardIn with
  | .stage j b :: rest => .next (State.stageCard { s with slv := { s.slv with cardIn := rest } } j b)
  | _ => .next s

/-- CARD_SIGN (R504): the oldest card message is a SIGN. -/
def execCardSign (sigOk : Bool) (s : State) : Host.Outcome State Fault Refusal :=
  match s.slv.cardIn with
  | .sign j i role dig msg :: rest =>
    .next (State.signCard { s with slv := { s.slv with cardIn := rest } } j i role dig msg sigOk)
  | _ => .next s

/-- CARD_WITHDRAW (R504): the oldest card message is a WITHDRAW. -/
def execCardWithdraw (sigOk : Bool) (s : State) : Host.Outcome State Fault Refusal :=
  match s.slv.cardIn with
  | .withdraw j i role dig :: rest =>
    .next (State.withdrawCard { s with slv := { s.slv with cardIn := rest } } j i role dig sigOk)
  | _ => .next s

end Sys2Proof.Machine
end

