-- ==== Sys2Proof/Machine/FrameBytes.lean ====
section
/-!
DEFINITION. The bytes of a link frame: FC, SEQ, addresses, payload and FCS (06_plc_ports.md R230, R231), and the payloads of
COMMAND, BEACON and FLOOD frames and the headers of DATA frames (08_field_network.md R319, R324, R326, R330;
09_meter_sessions.md R345, R361, R369). Multi-byte fields are little-endian, EUI-64 fields most significant byte first.
-/

namespace Sys2Proof.Machine
open Sys2Proof

/-- TYPE in FC (R231). -/
def FrameType.code : FrameType → Nat
  | .data => 0
  | .ack => 1
  | .beacon => 2
  | .command => 3
  | .flood => 4
  | .reserved v => v % 8

/-- FC (R231). ACK_REQ is taken as 0 without a DST. -/
def Frame.fc (f : Frame) : Nat :=
  8192 * f.type.code + 4096 * b2n (f.ackReq && f.dst.isSome) + 2048 * b2n f.pending + 1024 * b2n f.dst.isSome

/-- The frame requests an acknowledgement: ACK_REQ = 1 with a DST (R231). -/
def Frame.wantsAck (f : Frame) : Bool := f.ackReq && f.dst.isSome

/-- An EUI-64 as bytes (R230, R755). -/
def euiBytes (e : Nat) : List Nat := beBytes 8 e

/-- The network header (R319): NH, HOPS, COST, END, ROUTE, and the target of an up frame with XFER = 1 (R323). -/
def NetHdr.enc (h : NetHdr) : List Nat :=
  [128 * b2n h.down + 16 * (h.ridx % 8) + 8 * b2n h.xfer + h.route.length % 8, h.hops % 256] ++ leBytes 2 h.cost ++
    euiBytes h.node ++ h.route.flatMap euiBytes ++ (if h.xfer then euiBytes h.target else [])

/-- A neighbour item (R324). -/
def NbrItem.enc (i : NbrItem) : List Nat := euiBytes i.eui ++ leBytes 2 i.etx ++ [i.qual % 256]

/-- CMD byte and body of a COMMAND (R324, R361). CONN_SET's anchor is in the form of R17. -/
def Cmd.enc : Cmd → List Nat
  | .joinReq relay sleepy router wake items =>
    [0x01, b2n relay + 2 * b2n sleepy + 4 * b2n router, wake % 256, items.length % 256] ++ items.flatMap NbrItem.enc
  | .joinAck parent hopPen beaconS reportH map hopC =>
    0x02 :: euiBytes parent ++ [hopPen % 256, beaconS % 256, reportH % 256] ++ leBytes 8 map ++ [hopC % 256]
  | .joinRefuse reason => [0x03, reason % 256]
  | .nbrReport items => [0x04, items.length % 256] ++ items.flatMap NbrItem.enc
  | .routeSet parent => 0x05 :: euiBytes parent
  | .relayMiss relay misses => 0x06 :: euiBytes relay ++ [misses % 256]
  | .leave reason => [0x07, reason % 256]
  | .mapSet map hopC nSw => 0x08 :: leBytes 8 map ++ [hopC % 256] ++ leBytes 8 nSw
  | .connReq connInt batch => [0x40, connInt % 256, batch % 256]
  | .connSet event0 anchor connInt hop chOfs map supervision connWin =>
    0x41 :: leBytes 2 event0 ++ leBytes 10 (tsPack anchor) ++ [connInt % 256, hop % 256, chOfs % 256] ++ leBytes 8 map ++
      leBytes 2 supervision ++ leBytes 2 connWin
  | .connRefuse reason => [0x42, reason % 256]
  | .connMap map hop atEvent => 0x43 :: leBytes 8 map ++ [hop % 256] ++ leBytes 2 atEvent
  | .connEnd reason => [0x44, reason % 256]
  | .other code => [code % 256]

/-- KIND and body of a FLOOD (R330, R369). -/
def FloodBody.enc : FloodBody → List Nat
  | .discover win round => [0x01, win % 256, round % 256]
  | .multicast campaign block data =>
    0x02 :: leBytes 2 campaign ++ leBytes 4 block ++ leBytes 2 data.length ++ data.map (· % 256)
  | .orphan parent => 0x03 :: euiBytes parent
  | .mapUpdate map hopC nSw => 0x04 :: leBytes 8 map ++ [hopC % 256] ++ leBytes 8 nSw
  | .other kind => [kind % 256]

/-- A beacon's payload (R326). -/
def BeaconBody.enc (b : BeaconBody) : List Nat :=
  [0x01, b.port % 256] ++ euiBytes b.cell ++ leBytes 10 (tsPack b.time) ++ [b2n b.sync, b.bseq % 256] ++ leBytes 2 b.cost ++
    [b.hops % 256, b.period % 256, b2n b.accepts + 2 * b2n b.round]

/-- What tells APDUs of different length apart, for Config.apduLen. -/
def Apdu.key : Apdu → List Nat
  | .getProfile f t => [0, f, t]
  | .getNext b => [1, b]
  | .aarq => [2]
  | .rlrq => [3]
  | .setClock t => [4, t]
  | .setCalendar sl a => [5, sl, a]
  | .imageInitiate i z => 6 :: z :: i
  | .imageSizeGet => [22]
  | .pblock b l k => 23 :: b :: b2n l :: k
  | .blockAck b => [24, b]
  | .imageBlockTransfer b d => [7, b, d.length]
  | .imageStatusGet => [8]
  | .imageVerify => [9]
  | .imageActivate => [10]
  | .notification es _ => [11, es.length]
  | .getResp es _ => [12, es.length]
  | .getBlock b _ es => [13, b, es.length]
  | .respErr => [14]
  | .aare _ m => [15, m]
  | .rlre => [16]
  | .done => [17]
  | .imageBlockSize b => [18, b]
  | .imageStatus m => [19, m.length]
  | .imageVerified _ => [20]
  | .unlisted => [21]

/-- The session header and the ciphered APDU (R345, R347). -/
def SessPayload.enc (p : SessPayload) : List Nat :=
  [p.mver % 256, p.mtype % 256, p.csap % 256, p.ssap % 256] ++
    (upTo (Config.apduLen p.apdu.key)).map (fun i => Config.apduByte p.apdu.key p.ic i % 256)

/-- A frame's payload. -/
def Payload.enc : Payload → List Nat
  | .empty => []
  | .data h p => h.enc ++ p.enc
  | .command h c => h.enc ++ c.enc
  | .beacon b => b.enc
  | .flood origin id ttl b => euiBytes origin ++ leBytes 2 id ++ [ttl % 256] ++ b.enc

/-- A link frame before its FCS (R230): FC bits 15:8 first; an ACK carries no SRC. -/
def Frame.head (f : Frame) : List Nat :=
  [f.fc / 256, f.fc % 256, f.seq % 256] ++ (match f.dst with
    | some d => euiBytes d
    | none => []) ++ (if f.type = .ack then [] else euiBytes f.src ++ f.payload.enc)

/-- A link frame as it is sent (R230): the FCS is the CRC-32 of the preceding bytes, least significant byte first. -/
def Frame.bytes (f : Frame) : List Nat := f.head ++ leBytes 4 (crc32 f.head)

/-- The FCS of received bytes holds (R230): the last four are the CRC-32 of those before. -/
def fcsHolds (bs : List Nat) : Bool :=
  decide (4 ≤ bs.length ∧ bs.drop (bs.length - 4) = leBytes 4 (crc32 (bs.take (bs.length - 4))))

end Sys2Proof.Machine
end

