-- ==== Sys2Proof/Machine/PlcPhy.lean ====
section
/-!
DEFINITION. The physical layer of PLC ports (06_plc_ports.md R214 to R229): band plans, the words of the sample link, the PHY
header, the information stream, the convolutional code, the interleaver, and the symbols of a frame.
-/

namespace Sys2Proof.Machine
open Sys2Proof

/-! Band plans (R219). -/

/-- One column of the table of R219. Frequencies in Hz; times in units of 0.1 us. -/
structure BandPlan where
  low : Nat
  high : Nat
  symbol : Nat
  samples : Nat
  preamble : Nat
  delimiter : Nat
  groups : Nat
  rows : Nat
  cols : Nat
  block : Nat
  demod : Nat
  ackWait : Nat
  deriving DecidableEq, Repr

/-- Band plan F, or A (R219, R226). -/
def bandPlan (f : Bool) : BandPlan :=
  if f then
    { low := 154700, high := 487500, symbol := 500, samples := 60, preamble := 16, delimiter := 2, groups := 18, rows := 36,
      cols := 36, block := 225000, demod := 1125, ackWait := 137000 }
  else
    { low := 35900, high := 90600, symbol := 3000, samples := 360, preamble := 8, delimiter := 2, groups := 3, rows := 12,
      cols := 18, block := 225000, demod := 6200, ackWait := 158000 }

/-- Times of 0.1 us in counts. -/
def tenthUs (n : Nat) : Nat := 40 * n

/-- Sweep width in Hz. -/
def BandPlan.sweep (b : BandPlan) : Nat := b.high - b.low

/-- Data symbols of a block: 24 in each group (R221). -/
def BandPlan.dataSymbols (b : BandPlan) : Nat := 24 * b.groups

/-- Coded bits of a block: 3 in each data symbol (R227). -/
def BandPlan.codedBits (b : BandPlan) : Nat := 3 * b.dataSymbols

/-- Information bits of a block: half of the coded bits (R224). -/
def BandPlan.infoBits (b : BandPlan) : Nat := b.codedBits / 2

/-- Blocks of a body with a link frame of `len` bytes (R225). -/
def plcBlocks (f : Bool) (len : Nat) : Nat := (38 + 8 * len + (bandPlan f).infoBits - 1) / (bandPlan f).infoBits

/-- The preamble's duration in counts. -/
def plcPreamble (f : Bool) : Nat := tenthUs ((bandPlan f).preamble * (bandPlan f).symbol)

/-- The delimiter's duration in counts. -/
def plcDelimiter (f : Bool) : Nat := tenthUs ((bandPlan f).delimiter * (bandPlan f).symbol)

/-- The body's duration in counts. -/
def plcBody (f : Bool) (len : Nat) : Nat := tenthUs ((bandPlan f).block * plcBlocks f len)

/-- Airtime of a PLC frame (R228). -/
def plcAir (f : Bool) (len : Nat) : Nat := plcPreamble f + plcDelimiter f + plcBody f len

/-- ACK_WAIT on a PLC port (R219). -/
def plcAckWait (f : Bool) : Nat := tenthUs (bandPlan f).ackWait

/-! Words of the sample link (R215, R216). -/

/-- The word on FPn_SDO: DAC in bits 19:8, GAIN in bits 7:4. -/
def sdoWord (dac : Int) (gain : Nat) : Nat := 256 * toTwos 12 dac + 16 * (gain % 16)

/-- ADC of a word on FPn_SDI. -/
def sdiAdc (w : Nat) : Int := ofTwos 12 (w / 256)

/-- SAT of a word on FPn_SDI. -/
def sdiSat (w : Nat) : Bool := nbit w 7

/-- AFE_OK of a word on FPn_SDI. -/
def sdiOk (w : Nat) : Bool := nbit w 6

/-- How many words from the first on have SAT = 1 (R244). -/
def satRun (ws : List Nat) : Nat := (ws.takeWhile sdiSat).length

/-! The PHY header (R229). -/

/-- One bit of CRC-8 with polynomial x^8 + x^2 + x + 1, most significant bit first. -/
def crc8Bit (c : Nat) (b : Bool) : Nat :=
  let x := if nbit c 7 != b then 0x07 else 0
  Nat.xor (2 * c % 256) x

/-- The low `n` bits of a number, most significant first. -/
def bitsOf (n v : Nat) : List Bool := (upTo n).map (fun i => nbit v (n - 1 - i))

/-- HCS over the header's bits 31:8, given as a 24-bit number (R229). -/
def hcs (v : Nat) : Nat := (bitsOf 24 v).foldl crc8Bit 0

/-- The 32-bit PHY header of a frame of `len` bytes; ZC_OFS where the port's zero crossing is valid (R229, R232). -/
def phyHeader (zc : Option Nat) (len : Nat) : Nat :=
  let v := 2 ^ 21 * b2n zc.isSome + 2 ^ 10 * (len % 2048) + zc.getD 0 % 1024
  256 * v + hcs v

/-- A header word by its fields (R229): `zc` is ZCV (bit 10) over ZC_OFS. -/
def hdrWord (hcs ver len zc : Nat) : Nat :=
  2 ^ 30 * (ver % 4) + 2 ^ 29 * (zc / 1024 % 2) + 2 ^ 18 * (len % 2048) + 2 ^ 8 * (zc % 1024) + hcs % 256

/-- HCS of a received header word holds. -/
def hcsHolds (w : Nat) : Bool := decide (hcs (w / 256 % 2 ^ 24) = w % 256)

/-- VER of a header word. -/
def hdrVer (w : Nat) : Nat := w / 2 ^ 30 % 4

/-- LENGTH of a header word. -/
def hdrLen (w : Nat) : Nat := w / 2 ^ 18 % 2 ^ 11

/-- ZC_OFS of a header word while its ZCV is 1. -/
def hdrZc (w : Nat) : Option Nat := if nbit w 29 then some (w / 2 ^ 8 % 1024) else none

/-! Coding and interleaving (R224 to R227). -/

/-- The information stream (R225): header bit 31 first, each byte bit 7 first, 6 tail bits, padding to whole blocks. -/
def infoStream (f : Bool) (zc : Option Nat) (bs : List Nat) : List Bool :=
  let b := bitsOf 32 (phyHeader zc bs.length) ++ bs.flatMap (bitsOf 8)
  b ++ List.replicate ((bandPlan f).infoBits * plcBlocks f bs.length - b.length) false

/-- A generator's output over a window of 7 bits, the newest in bit 6 (R224). (PRESUMED, log 153) -/
def parity (g w : Nat) : Bool := decide ((upTo 7).foldl (fun a i => a + b2n (nbit g i && nbit w i)) 0 % 2 = 1)

/-- The rate-1/2 code of constraint length 7 (R224): for each bit the output of generator 133, then that of 171, both octal,
from the all-zero state. `st` holds the last six bits, the newest in bit 5. -/
def encodeFrom : Nat → List Bool → List Bool
  | _, [] => []
  | st, b :: r =>
    let w := 64 * b2n b + st
    parity 0x5B w :: parity 0x79 w :: encodeFrom (w / 2) r

/-- A body's coded bits. -/
def convEncode (bs : List Bool) : List Bool := encodeFrom 0 bs

/-- One block through the interleaver (R226): written row by row, read column by column. -/
def interleave (rows cols : Nat) (c : List Bool) : List Bool :=
  (upTo cols).flatMap (fun k => (upTo rows).map (fun r => c.getD (r * cols + k) false))

/-- A list in pieces of `n`, the last perhaps shorter; `k` bounds the number of pieces. -/
def pieces {α : Type} (n : Nat) : Nat → List α → List (List α)
  | 0, _ => []
  | k + 1, l => if l.isEmpty then [] else l.take n :: pieces n k (l.drop n)

/-- A triple as a data value, the first bit most significant (R227). -/
def triple (l : List Bool) : Nat := l.foldl (fun a b => 2 * a + b2n b) 0

/-- The shifts of a group's data symbols from the shift before (R221). -/
def shiftsFrom : Nat → List Nat → List Nat
  | _, [] => []
  | s, d :: r => ((s + d) % 8) :: shiftsFrom ((s + d) % 8) r

/-- One group (R221): the reference symbol of shift 0, and the data symbols, the first from shift 0. -/
def groupShifts (ds : List Nat) : List Nat := 0 :: shiftsFrom 0 ds

/-- The shifts of one block's symbols (R226, R227). -/
def blockShifts (f : Bool) (c : List Bool) : List Nat :=
  let b := bandPlan f
  let ds := (pieces 3 b.dataSymbols (interleave b.rows b.cols c)).map triple
  (pieces 24 b.groups ds).flatMap groupShifts

/-- A symbol (R220): an up-chirp or a down-chirp, with its shift. -/
structure Symbol where
  up : Bool
  shift : Nat
  deriving DecidableEq, Repr

/-- The preamble (R222): up-chirps of shift 0. -/
def preambleSyms (f : Bool) : List Symbol := List.replicate (bandPlan f).preamble ⟨true, 0⟩

/-- The delimiter (R222): two down-chirps of shift 0. -/
def delimiterSyms (f : Bool) : List Symbol := List.replicate (bandPlan f).delimiter ⟨false, 0⟩

/-- The body's symbols: up-chirps (R221, R228). -/
def bodySyms (f : Bool) (zc : Option Nat) (bs : List Nat) : List Symbol :=
  let cs := pieces (bandPlan f).codedBits (plcBlocks f bs.length) (convEncode (infoStream f zc bs))
  (cs.flatMap (blockShifts f)).map (fun m => ⟨true, m⟩)

/-- A frame on the line (R228). -/
def plcSymbols (f : Bool) (zc : Option Nat) (bs : List Nat) : List Symbol :=
  preambleSyms f ++ delimiterSyms f ++ bodySyms f zc bs

/-- The transmit sample `k` samples after a frame's start (R215, R220); 0 after its last symbol. -/
def plcSample (f : Bool) (level : Nat) (zc : Option Nat) (bs : List Nat) (k : Nat) : Int :=
  let n := (bandPlan f).samples
  match (plcSymbols f zc bs)[k / n]? with
  | some y => Config.chirp f y.up y.shift level (k % n)
  | none => 0

end Sys2Proof.Machine
end

