-- ==== Sys2Proof/Machine/PortOps.lean ====
section
/-!
DEFINITION. Shared operations of the field ports: addresses and lengths of frames (R230, R306), airtimes (R228, R265), the
neighbour table (R309 to R312), posting and giving back frames (R199, R242, R249, R250, R273, R296), and owed
acknowledgements (R238 to R240).
-/

namespace Sys2Proof.Machine
open Sys2Proof

/-! Addresses and registers. -/

/-- The base of port `p`'s registers (R251); a port number has six bits. -/
def portBase (p : Nat) : Nat := 0x060000 + 0x400 * (p % 64)

/-- MODE of port `p`: 1 PLC, 2 radio (R251). -/
def State.portMode (s : State) (p : Nat) : Nat := field (s.rg (portBase p)) 1 0

/-- Port `p` is a PLC port. -/
def State.isPlc (s : State) (p : Nat) : Bool := decide (p < 64 ∧ s.portMode p = 1)

/-- Port `p` is a radio port. -/
def State.isRadio (s : State) (p : Nat) : Bool := decide (p < 64 ∧ s.portMode p = 2)

/-- Port `p`'s group is open and the port is enabled. -/
def State.portOn (s : State) (p : Nat) : Bool := (s.isl (8 + p / 8)).en && (s.port p).en

/-- The field port numbers. -/
def fieldPorts : List Nat := upTo 64

/-- FIELD_BASE (R306). -/
def State.fieldBase (s : State) : Nat :=
  match s.sys.image with
  | some im => im.fieldBase.getD s.otp.eui
  | none => s.otp.eui

/-- The field address of port `p` (R306). -/
def State.portAddr (s : State) (p : Nat) : Nat := s.fieldBase + p

/-- The address that floods of the part carry, and its system title (R306, R349). -/
def State.partAddr (s : State) : Nat := s.fieldBase + 0x40

/-- PLC counter `k` of port `p` counts (R254). -/
def State.plcCnt (s : State) (p k : Nat) : State := s.cntW (portBase p + 0x120 + 4 * (k % 16))

/-- Radio counter `k` of port `p` counts (R304). -/
def State.radCnt (s : State) (p k : Nat) : State := s.cntW (portBase p + 0x220 + 4 * (k % 16))

/-- Both kinds of port number TX_FRAMES 0, TX_RETRIES 1, NO_ACK 2, RX_FRAMES 3, HDR_ERR 4, FCS_ERR 5 and DUP 7 alike. -/
def State.portCnt (s : State) (p k : Nat) : State := if s.isPlc p then s.plcCnt p k else s.radCnt p k

/-! Lengths. -/

/-- Length of a network header (R319). -/
def NetHdr.bytes (h : NetHdr) : Nat := 12 + 8 * h.route.length + (if h.xfer then 8 else 0)

/-- Length of a COMMAND's code and body (R324, R361). -/
def Cmd.bytes : Cmd → Nat
  | .joinReq _ _ _ _ items => 4 + 11 * items.length
  | .joinAck _ _ _ _ _ _ => 21
  | .joinRefuse _ => 2
  | .nbrReport items => 2 + 11 * items.length
  | .routeSet _ => 9
  | .relayMiss _ _ => 10
  | .leave _ => 2
  | .mapSet _ _ _ => 18
  | .connReq _ _ => 3
  | .connSet _ _ _ _ _ _ _ _ => 28
  | .connRefuse _ => 2
  | .connMap _ _ _ => 12
  | .connEnd _ => 2
  | .other _ => 1

/-- Length of a FLOOD's body (R330, R369). -/
def FloodBody.bytes : FloodBody → Nat
  | .discover _ _ => 2
  | .multicast _ _ d => 8 + d.length
  | .orphan _ => 8
  | .mapUpdate _ _ _ => 17
  | .other _ => 0

/-- Length of a frame's payload. -/
def Payload.bytes : Payload → Nat
  | .empty => 0
  | .data h p => h.bytes + 4 + Config.apduLen p.apdu.key
  | .command h c => h.bytes + c.bytes
  | .beacon _ => 27
  | .flood _ _ _ b => 12 + b.bytes

/-- A link frame of the part from port address `src` (R230): unicast frames ask for an ACK; SEQ is given at posting.
(DESIGN CHOICE, log 142) -/
def linkFrame (ty : FrameType) (dst : Option Nat) (src : Nat) (pl : Payload) : Frame :=
  { type := ty, ackReq := dst.isSome, pending := false, dst := dst, seq := 0, src := src,
    len := (if dst.isSome then 23 else 15) + pl.bytes, payload := pl }

/-- An ACK (R231, R238): 15 bytes. -/
def ackFrame (a : AckDue) (pending : Bool) (src : Nat) : Frame :=
  { type := .ack, ackReq := false, pending := pending, dst := some a.dst, seq := a.seq, src := src, len := 15,
    payload := .empty }

/-- A frame to be sent once, from a producer. -/
def txItem (f : Frame) (o : Origin) : TxItem :=
  { frame := f, origin := o, launch := none, asap := false, sent := 0, backoff := 0, sleepy := none, since := 0 }

/-! Times on the medium, in counts of 2.5 ns. -/

/-- Seconds in counts. -/
def sec (n : Nat) : Nat := msCounts (1000 * n)

/-- Band plan F (R252). -/
def State.bandF (s : State) (p : Nat) : Bool := bit (s.rg (portBase p + 0x100)) 0

/-- PHY_MODE of a radio port as the divisor of 64,000 counts that gives its octet time (R263, R298). -/
def State.radDiv (s : State) (p : Nat) : Nat := field (s.rg (portBase p + 0x200)) 20 19 + 1

/-- `n` octets on the air (R265), rounded up to a count. -/
def State.octets (s : State) (p n : Nat) : Nat := (n * 64000 + s.radDiv p - 1) / s.radDiv p

/-- PREAMBLE (R299). -/
def State.preamble (s : State) (p : Nat) : Nat := field (s.rg (portBase p + 0x204)) 21 12

/-- Airtime of a radio frame with `pre` preamble octets (R265). -/
def State.radAir (s : State) (p pre len : Nat) : Nat := s.octets p (pre + 4 + len)

/-- ACK_WAIT on a radio port (R271). -/
def State.radAckWait (s : State) (p : Nat) : Nat := usCounts 1500 + s.octets p (s.preamble p + 2)

/-- ACK_WAIT of a port. -/
def State.ackWaitOf (s : State) (p : Nat) : Nat := if s.isPlc p then plcAckWait (s.bandF p) else s.radAckWait p

/-- The counter value at which a delimiter or SFD passed the coupler or antenna (R193): the raw value less RX_NS and the
demodulator delay of R219 and R267. (DEDUCED, log 55) -/
def State.portStamp (s : State) (p raw : Nat) : Nat :=
  let rx := field (s.rg (R.TIM_FP_LAT_p + 4 * p)) 15 0 * 2 / 5
  let dem := if s.isPlc p then tenthUs (bandPlan (s.bandF p)).demod else 16000 / s.radDiv p
  raw - (rx + dem)

/-! The neighbour table. -/

/-- The entry of a node at a port (R309). -/
def Net.find (n : Net) (p eui : Nat) : Option (Nat × Nbr) :=
  n.nbrs.find? (fun (x : Nat × Nbr) => decide (x.2.port = p ∧ x.2.eui = eui ∧ x.2 ≠ Nbr.blank))

/-- Entry `i` becomes `x`. -/
def State.setNbr (s : State) (i : Nat) (x : Nbr) : State :=
  { s with net := { s.net with nbrs := Store.put (fun _ => Nbr.blank) s.net.nbrs i x } }

/-- KIND of a node (R311). -/
def State.kindOf (s : State) (eui : Nat) : Nat :=
  match s.sys.image with
  | none => 2
  | some im => if (im.epOf eui).isSome then 0 else if im.relays.contains eui then 1 else 2

/-- The lowest index of the table that lists no entry, below 65,536. (DESIGN CHOICE, log 65) -/
def freeNbr (m : Store Nbr) : Option Nat :=
  let ks := m.map Prod.fst
  let rec go : Nat → List Nat → Nat
    | n, [] => n
    | n, k :: r => if k = n then go (n + 1) r else n
  let n := go 0 ks
  if n < 65536 then some n else none

/-- The entry heard least recently among those not in a route (R310). (DESIGN CHOICE, log 65) -/
def staleNbr (m : Store Nbr) : Option Nat :=
  (m.foldl (fun (b : Option (Nat × Nat)) (x : Nat × Nbr) =>
    if x.2.inRoute then b
    else match b with
      | none => some (x.1, x.2.heard)
      | some (i, h) => if x.2.heard < h then some (x.1, x.2.heard) else some (i, h)) none).map Prod.fst

/-- `a + (b - a) / n` in integer arithmetic, the quotient truncated toward zero (R312). (DEDUCED, log 51) -/
def drift (a b : Int) (n : Int) : Nat := (a + tdivInt (b - a) n).toNat

/-- A node is heard on a port with a quality at counter value `t` (R309, R310, R312): the entry's index, or none where the
table holds only entries in routes. (DEDUCED, log 51) -/
def State.hear (s : State) (p eui q t : Nat) : State × Option Nat :=
  match s.net.find p eui with
  | some (i, x) => (s.setNbr i { x with qual := drift x.qual q 8, heard := t }, some i)
  | none =>
    let x : Nbr := { Nbr.blank with
      eui := eui, port := p, kind := s.kindOf eui, down := (Store.get (fun _ => NodeRec.blank) s.net.nodes eui).down,
      etx := min 1023 (16 + (255 - q) / 4), qual := q, heard := t }
    match (freeNbr s.net.nbrs).orElse (fun _ => staleNbr s.net.nbrs) with
    | some i => (s.setNbr i x, some i)
    | none =>
      let s := s.cntW (R.NET_CNT_k + 4)
      let due := match s.net.nbrFullAt with
        | none => true
        | some a => decide (a + hourCounts ≤ t)
      (if due then { s with net := { s.net with nbrFullAt := some t } }.raise Ev.NBR_FULL .warning else s, none)

/-- The entry of a node at a port changes. -/
def State.onNbr (s : State) (p eui : Nat) (f : Nbr → Nbr) : State :=
  match s.net.find p eui with
  | some (i, x) => s.setNbr i (f x)
  | none => s

/-- The outcome of a unicast frame in its neighbour's entry (R242, R312). (DEDUCED, log 54) -/
def State.tally (s : State) (p : Nat) (f : Frame) (r : TxRes) (n : Nat) : State :=
  match f.dst with
  | none => s
  | some d =>
    match r with
    | .delivered => s.onNbr p d (fun x =>
        { x with etx := min 1023 (drift x.etx (16 * n : Nat) 8), delivered := (x.delivered + 1) % 2 ^ 32 })
    | .noAck => s.onNbr p d (fun x =>
        { x with etx := min 1023 (drift x.etx 256 8), noAcks := min 0xFFFF (x.noAcks + 1) })
    | _ => s

/-! Channels and the transceiver of a radio port (R258, R263, R276, R278). -/

/-- RPT_p_RAD_CFG (R298). -/
def State.radCfg (s : State) (p : Nat) : Word := s.rg (portBase p + 0x200)

/-- The port works in hopping mode (R298). -/
def State.hopping (s : State) (p : Nat) : Bool := bit (s.radCfg p) 17

/-- The channels a map enables, ascending (R278, R302). -/
def chansOf (base map : Nat) : List Nat := ((upTo 64).filter (nbit map)).map (fun k => base + k)

/-- CH_BASE (R298). -/
def State.chBase (s : State) (p : Nat) : Nat := field (s.radCfg p) 15 8

/-- HOP_SLOT in ns of presented time (R301). -/
def State.hopSlotNs (s : State) (p : Nat) : Nat := max 1 (field (s.rg (portBase p + 0x20C)) 15 8) * 10000000

/-- The hop slot at counter value `t` (R278). -/
def State.hopSlot (s : State) (p t : Nat) : Nat := s.stampNs t / s.hopSlotNs p

/-- The channel of hop slot `n` (R278). -/
def State.hopChan (s : State) (p n : Nat) : Nat :=
  let l := chansOf (s.chBase p) (s.port p).map
  (l[(n * field (s.rg (portBase p + 0x20C)) 31 24 + p) % l.length]?).getD 0

/-- The channel outside connection events (R276, R278). -/
def State.baseChan (s : State) (p t : Nat) : Nat :=
  if s.hopping p then s.hopChan p (s.hopSlot p t) else field (s.radCfg p) 7 0

/-- F0 and spacing in kHz of a band and mode (R263); none for a combination the table does not list. -/
def chanPlan (band mode : Nat) : Option (Nat × Nat) :=
  match band, mode with
  | 0, 0 => some (863125, 200)
  | 0, 1 => some (863225, 400)
  | 1, 0 => some (902200, 200)
  | 1, 2 => some (902400, 400)
  | _, _ => none

/-- The centre of channel `c` of port `p` in kHz: F0 + n x spacing (R263). -/
def State.centre (s : State) (p c : Nat) : Nat :=
  match chanPlan (field (s.radCfg p) 18 18) (field (s.radCfg p) 20 19) with
  | some (f0, sp) => f0 + c * sp
  | none => 0

/-- SET_CHAN (R258): three bytes of kHz, the most significant first. (DESIGN CHOICE, log 146) -/
def State.setChan (s : State) (p c : Nat) : Out := .xcvr p 0x11 (beBytes 3 (s.centre p c))

/-- SET_PHY (R258): the mode, and the preamble length in two bytes, the most significant first. (DESIGN CHOICE, log 146) -/
def State.setPhy (s : State) (p pre : Nat) : Out := .xcvr p 0x10 (field (s.radCfg p) 20 19 :: beBytes 2 pre)

/-- The initialisation of R261: IDLE, SET_PHY, SET_CHAN, SET_POWER and RX_ON. -/
def State.initXfers (s : State) (p c : Nat) : List Out :=
  [.xcvr p 0x3F [], s.setPhy p (s.preamble p), s.setChan p c, .xcvr p 0x12 [field (s.radCfg p) 31 24], .xcvr p 0x30 []]

/-- An interrupt of the transceiver at `t` (R259): Reed stamps FPn_AUX's change to its active level and reads the causes with
IRQ_READ, which releases the ball. -/
def State.irq (s : State) (p t : Nat) : State :=
  (s.setPort p { s.port p with auxAt := some t }).emit (.xcvr p 0x40 [])

/-! Giving frames back. -/

/-- What a request's outcome at Reed does to the endpoint's outstanding request (R357): RESP_WAIT runs from delivery; any
other outcome makes it due again. -/
def State.reqBack (s : State) (ep : Nat) (r : TxRes) : State :=
  let x := Store.get (fun _ => Sess.blank) s.msn.sess ep
  match x.outReq with
  | none => s
  | some q =>
    let q := if r = .delivered ∨ r = .sent then { q with delivered := some s.tim.cnt, back := false, uplink := none }
      else { q with back := true }
    { s with msn := { s.msn with
        sess := Store.put (fun _ => Sess.blank) s.msn.sess ep { x with outReq := some q } } }

/-- A frame comes back to its producer with its outcome (R199, R242, R273). (DEDUCED, log 59) -/
def State.giveBack (s : State) (p : Nat) (i : TxItem) (r : TxRes) : State :=
  let s := s.tally p i.frame r i.sent
  let s := if r = .noAck then s.portCnt p 2 else s
  let s := if r = .txBlocked ∧ s.isPlc p then s.plcCnt p 9 else s
  let s := s.emit (.returned i.origin r)
  match i.origin with
  | .request ep => s.reqBack ep r
  | _ => s

/-- Every frame of a list comes back with the same outcome. -/
def State.giveAll (s : State) (p : Nat) (l : List TxItem) (r : TxRes) : State :=
  l.foldl (fun s i => s.giveBack p i r) s

/-- Port `p` with `f` applied. -/
def State.onPort (s : State) (p : Nat) (f : Port → Port) : State := s.setPort p (f (s.port p))

/-! Blocking (R249, R296). -/

/-- A condition other than the Heddle gate blocks the port. -/
def State.portHeld (s : State) (p : Nat) : Bool :=
  let x := s.port p
  if s.isPlc p then x.zcLost || x.afeFail || s.clk.irc else x.xcvrFail

/-- The port may not transmit. -/
def State.portBlocked (s : State) (p : Nat) : Bool := !s.sys.heddle || s.portHeld p

/-- The port receives (R249, R296). (DEDUCED, log 149) -/
def State.portHears (s : State) (p : Nat) : Bool :=
  let x := s.port p
  s.portOn p && (if s.isPlc p then !x.afeFail else s.sys.heddle && !x.xcvrFail)

/-- The frames of a port that has not handed them to the line. -/
def Port.waiting (x : Port) : List TxItem :=
  x.queue ++ x.launch ++ x.held ++ x.backoff.toList ++ (x.rep.map (fun (r : RepeatSeq) => r.item)).toList

/-- The time that FPn_TXEN has been high for the frame on the air, until `t`: in LBT mode it joins the present bin, in hopping
mode the channel's record (R277, R280). -/
def Port.airtime (x : Port) (hop : Bool) (t : Nat) : Port :=
  if x.onAir.isNone then x
  else if hop then { x with dwell := x.dwell ++ [(x.chan, x.airFrom, t)] }
  else { x with bin := x.bin + (t - max x.airFrom x.binAt + 399) / 400 }

/-- The frame on the medium ends or is cut at `t`. -/
def State.offAir (s : State) (p t : Nat) : State :=
  s.onPort p (fun x => { x.airtime (s.isRadio p && s.hopping p) t with onAir := none })

/-- The frame on the medium has ended at `e`: its ACK_WAIT runs, or it comes back as sent (R240, R271). -/
def State.txEnd (s : State) (p e : Nat) : State :=
  match (s.port p).onAir with
  | none => s
  | some (i, _) =>
    let s := s.offAir p e
    if i.frame.type = .ack then s.onPort p (fun x => { x with pendTo := x.pendTo.map (fun (d : Nat × Nat) => (d.1, e)) })
    else if i.frame.wantsAck then s.onPort p (fun x => { x with ackWait := some (i, e + s.ackWaitOf p) })
    else s.giveBack p i .sent

/-- A PLC frame whose airtime has passed at `t` has ended. -/
def State.settle (s : State) (p t : Nat) : State :=
  match (s.port p).onAir with
  | some (_, e) => if e ≤ t then s.txEnd p e else s
  | none => s

/-- A blocking condition has begun or ended at `t`: what is on the line is cut, an owed ACK is not sent, and with the gate
closed every queued frame comes back (R249, R296). (DEDUCED, log 50) -/
def State.blockCheck (s : State) (p t : Nat) : State :=
  let s := if s.isPlc p then s.settle p t else s
  let x := s.port p
  if !s.portBlocked p then s.onPort p (fun x => { x with blockedSince := none })
  else
    let cut := match x.onAir with
      | some (i, _) => if i.frame.type = .ack then [] else [i]
      | none => []
    let cut := cut ++ (x.rep.map (fun (r : RepeatSeq) => r.item)).toList
    let deaf := !s.portHears p
    let s := (s.offAir p t).onPort p (fun x =>
      { x with ackOwed := none, rep := none, rx := if deaf then none else x.rx,
               blockedSince := some (x.blockedSince.getD t) })
    if s.sys.heddle then s.giveAll p cut .txBlocked
    else
      let q := x.queue ++ x.held ++ x.backoff.toList ++ (x.ackWait.map Prod.fst).toList
      let s := s.onPort p (fun x =>
        { x with queue := [], held := [], backoff := none, ackWait := none, pendTo := none, dutyHeld := none,
                 conns := if s.isPlc p then x.conns else [] })
      s.giveAll p (cut ++ q) .noClaim

/-- `blockCheck` for every enabled port. -/
def State.blockAll (s : State) (t : Nat) : State :=
  fieldPorts.foldl (fun s p => if s.portOn p then s.blockCheck p t else s) s

/-! Posting. -/

/-- A frame waits for the node at the port (R238). -/
def State.holdsFor (s : State) (p eui : Nat) : Bool :=
  (s.port p).waiting.any (fun (i : TxItem) => decide (i.frame.dst = some eui))

/-- A frame takes its SEQ: one above the last sent to the neighbour (R239); a free value where the spec counts none.
(DESIGN CHOICE, log 52) -/
def State.numbered (s : State) (p : Nat) (f : Frame) : State × Frame :=
  match f.dst.bind (fun d => s.net.find p d) with
  | some (i, x) =>
    let q := (x.txSeq + 1) % 256
    (s.setNbr i { x with txSeq := q }, { f with seq := q })
  | none => (s.used, { f with seq := s.drawn 255 })

/-- The endpoint index of a sleepy node on a radio port (R283). -/
def State.sleepyAt (s : State) (p : Nat) (dst : Option Nat) : Option Nat :=
  if !s.isRadio p then none
  else match dst, s.sys.image with
    | some d, some im => match im.epOf d with
      | some c => if 0 < c.wakeMs then some c.idx else none
      | none => none
    | _, _ => none

/-- The node is an endpoint with a connection at the port, whose frames go as pending frames at its events (R292, R364). -/
def State.connected (s : State) (p : Nat) (dst : Option Nat) : Bool :=
  match dst, s.sys.image with
  | some d, some im => match im.epOf d with
    | some c => (s.port p).conns.any (fun (r : Conn) => r.ep = c.idx)
    | none => false
  | _, _ => false

/-- A request to a sleepy endpoint of class PUSHED goes only as a pending frame (R287, R355). -/
def State.uplinkOnly (s : State) (i : TxItem) : Bool :=
  i.sleepy.isSome && (match i.origin with
    | .request ep => decide ((s.sys.image.bind (fun im => im.ep ep)).map EpCfg.cls = some 1)
    | _ => false)

/-- A frame is posted to port `p` (R249, R250, R296): it joins the transmit queue, or comes back. -/
def State.post (s : State) (p : Nat) (i : TxItem) : State :=
  if !s.portOn p || (s.port p).draining then s.giveBack p i .disabled
  else if !s.sys.heddle then s.giveBack p i .noClaim
  else
    let y := s.numbered p i.frame
    let i := { i with frame := y.2, sleepy := y.1.sleepyAt p i.frame.dst, since := s.tim.cnt }
    if y.1.connected p i.frame.dst || y.1.uplinkOnly i then y.1.onPort p (fun x => { x with held := x.held ++ [i] })
    else y.1.onPort p (fun x => { x with queue := x.queue ++ [i] })

/-- An item enters a launch queue in launch-time order, after those of equal time (R197). -/
def insertLaunch (i : TxItem) : List TxItem → List TxItem
  | [] => [i]
  | j :: r => if i.launch.getD 0 < j.launch.getD 0 then i :: j :: r else j :: insertLaunch i r

/-- How late a frame may reach the head of its launch queue: 1 us (R199). (DEDUCED, log 59) -/
def lateBy : Nat := usCounts 1

/-- A frame that missed its launch time comes back LAUNCH_LATE or, marked ASAP, goes out at the next opportunity (R199). -/
def State.launchMiss (s : State) (p : Nat) (i : TxItem) : State :=
  if i.asap then s.onPort p (fun x => { x with queue := { i with launch := none } :: x.queue })
  else s.giveBack p i .launchLate

/-- The frames that reach the head of port `p`'s launch queue at `now`: those whose launch time is more than 1 us past are too
late (R199). -/
def State.lateHeads (p now : Nat) : List TxItem → State → State
  | [], s => s
  | i :: r, s =>
    if i.launch.getD 0 + lateBy < now then
      State.lateHeads p now r ((s.onPort p (fun x => { x with launch := x.launch.drop 1 })).launchMiss p i)
    else s

/-- The head of port `p`'s launch queue leaves it at `now`, and the next frame reaches the head. -/
def State.popLaunch (s : State) (p now : Nat) : State :=
  let s := s.onPort p (fun x => { x with launch := x.launch.drop 1 })
  State.lateHeads p now (s.port p).launch s

/-- A frame with a launch time is posted to a field port's launch queue, or refused (R197, R199, R250). (DEDUCED, log 59) -/
def State.postLaunch (s : State) (p : Nat) (i : TxItem) (at_ : Nat) : State :=
  let i := { i with launch := some at_ }
  if !s.portOn p || (s.port p).draining then s.giveBack p i .disabled
  else if 64 ≤ (s.port p).launch.length then s.giveBack p i .queueFull
  else if s.tim.cnt + 10 * 400000000 < at_ then s.giveBack p i .launchRange
  else
    let y := s.numbered p i.frame
    let s := y.1.onPort p (fun x => { x with launch := insertLaunch { i with frame := y.2 } x.launch })
    State.lateHeads p s.tim.cnt (s.port p).launch s

/-! Beacons as they leave. -/

/-- TX_NS of a port (R211). (DEDUCED, log 55) -/
def State.txNs (s : State) (p : Nat) : Nat := field (s.rg (R.TIM_FP_LAT_p + 4 * p)) 31 16

/-- A beacon's TIME and SYNC as it leaves (R196): the presented time at counter value `d` plus `lat` ns. (DEDUCED, log 55) -/
def State.stampBeacon (s : State) (d lat : Nat) (f : Frame) : Frame :=
  match f.payload with
  | .beacon b =>
    let st := (s.tim.dom s.tim.sel).state
    { f with payload := .beacon { b with time := s.stampNs d + lat, sync := decide (st = .locked ∨ st = .holdover) } }
  | _ => f

/-! Acknowledgement. -/

/-- A valid frame of node `e` came to port `p` directly, stamped `st` and ended at `t`: an endpoint's sampling is predicted from it
(R284), and its connection's supervision starts again (R294). -/
def State.heardFrom (s : State) (p e st t : Nat) : State :=
  let x := Store.get (fun _ => NodeRec.blank) s.net.nodes e
  let s := if s.kindOf e = 2 then s
    else { s with net := { s.net with nodes := Store.put (fun _ => NodeRec.blank) s.net.nodes e { x with uplink := st } } }
  match s.sys.image.bind (fun im => im.epOf e) with
  | some c => s.onPort p (fun x => { x with
      conns := x.conns.map (fun (r : Conn) => if r.ep = c.idx then { r with heard := t } else r) })
  | none => s

/-- The frame that an ACK from the medium confirms is delivered (R240, R271): the ACK names the port and carries the frame's
SEQ, and its delimiter or SFD was detected within ACK_WAIT. Its quality `q` counts for the neighbour that sent it (R242). -/
def State.takeAck (s : State) (p : Nat) (f : Frame) (q stamp det t : Nat) : State :=
  match (s.port p).ackWait with
  | none => s
  | some (i, d) =>
    if f.dst = some (s.portAddr p) ∧ f.seq = i.frame.seq ∧ det ≤ d then
      let s := (s.onPort p (fun x => { x with ackWait := none, rep := none })).giveBack p i .delivered
      match i.frame.dst with
      | some e => (s.hear p e q t).1.heardFrom p e stamp t
      | none => s
    else s

/-- Whether a delimiter or SFD detected by the deadline may still turn out to be the ACK. -/
def Port.ackPossible (x : Port) (d : Nat) : Bool :=
  match x.rx.bind (fun (r : Rx) => r.det) with
  | some t => decide (t ≤ d)
  | none => false

/-- The eight transmissions of R241 and R273 are spent. -/
def TxItem.spent (i : TxItem) : Bool := decide (8 ≤ i.sent)

/-- A retry's backoff draw, from 0 to 2^min(n,3) - 1 for retry `n` (R241, R273). (DEDUCED, log 53) -/
def State.retryDraw (s : State) (n : Nat) : Nat := s.drawn (2 ^ min n 3 - 1)

/-- The port has nothing under way any more, so that a drain can end (R250, R297). -/
def Port.quiet (x : Port) : Bool :=
  x.onAir.isNone && x.ackWait.isNone && x.ackOwed.isNone && x.rep.isNone

/-- CONN_WIN of the port in counts (R295). -/
def State.connWin (s : State) (p : Nat) : Nat :=
  match s.sys.image.bind (fun im => im.port p) with
  | some c => msCounts c.connWin
  | none => 0

/-- The window of a connection's present event runs at `t`: its receiver waits for an SFD, or an SFD arrived in it and CONN_WIN has
not passed (R291, R292). -/
def State.runs (s : State) (p t : Nat) (c : Conn) : Bool :=
  c.windowOpen || (c.engaged && decide (t < c.anchor + s.connWin p))

/-- A connection event of the port is in progress at `t`. -/
def State.inEvent (s : State) (p t : Nat) : Bool := (s.port p).conns.any (s.runs p t)

end Sys2Proof.Machine
end

