-- ==== Sys2Proof/Machine/NetOps.lean ====
section
/-!
DEFINITION. Shared operations of NET: link and route costs (R312 to R316), recomputing a cell (R315 to R318), sending over
routes (R319, R320), floods (R330 to R332), joining and re-homing (R335 to R340), relays DOWN and UP (R328, R329), and taking
a received frame (R319 to R331, R344, R345).
-/

namespace Sys2Proof.Machine
open Sys2Proof

/-! Parameters and records. -/

/-- BEACON_S in counts (R342). -/
def State.beaconS (s : State) : Nat := field (s.rg R.NET_CFG) 31 24
/-- DISC_WIN in s. -/
def State.discWin (s : State) : Nat := field (s.rg R.NET_CFG) 23 16
/-- COST_MAX. -/
def State.costMax (s : State) : Nat := field (s.rg R.NET_COST) 31 22
/-- HOP_PEN. -/
def State.hopPen (s : State) : Nat := field (s.rg R.NET_COST) 21 16
/-- HYST. -/
def State.hyst (s : State) : Nat := field (s.rg R.NET_COST) 15 8
/-- REPORT_H. -/
def State.reportH (s : State) : Nat := field (s.rg R.NET_REPORT) 7 0

/-- What NET keeps of node `e`. -/
def State.node (s : State) (e : Nat) : NodeRec := Store.get (fun _ => NodeRec.blank) s.net.nodes e

/-- Node `e`'s record becomes `x`. -/
def State.setNode (s : State) (e : Nat) (x : NodeRec) : State :=
  { s with net := { s.net with nodes := Store.put (fun _ => NodeRec.blank) s.net.nodes e x } }

/-- The node is joined with a home port and a route (R335). -/
def NodeRec.up (n : NodeRec) : Bool := decide (n.st = .joined) && n.hasRoute

/-- Joined nodes homed on port `p`. -/
def State.cell (s : State) (p : Nat) : List (Nat × NodeRec) :=
  s.net.nodes.filter (fun (x : Nat × NodeRec) => x.2.up && decide (x.2.home = p))

/-- Cell `p` is a MESH cell (R317). -/
def State.mesh (s : State) (p : Nat) : Bool :=
  match s.sys.image with
  | some im => im.meshCells.contains p
  | none => false

/-- The cell's node limit, and of these the relays (R317). -/
def State.cellLimit (s : State) (p : Nat) : Nat := if s.mesh p then 2048 else 32768

/-- A node may forward in cell `p` (R317). -/
def State.forwards (s : State) (p e : Nat) (n : NodeRec) : Bool :=
  decide (s.kindOf e = 1) || (s.mesh p && n.router && !n.sleepy)

/-! Links. -/

/-- The cost of the direct link of node `e` to port `p` while it is usable (R313): the port's own entry, else what the node reports of
the port's address (R340). (DEDUCED, log 63) -/
def State.direct (s : State) (p e : Nat) : Option Nat :=
  match s.net.find p e with
  | some (_, x) => if x.etx < s.costMax ∧ !(s.node e).down ∧ !x.down then some x.etx else none
  | none =>
    match s.net.links.find? (fun (l : LinkRep) => decide (l.by_ = e ∧ l.to_ = s.portAddr p)) with
    | some l => if l.etx < s.costMax ∧ !(s.node e).down then some l.etx else none
    | none => none

/-- The cost of the link between two nodes while it is usable: the higher of what its ends report (R313). -/
def State.between (s : State) (a b : Nat) : Option Nat :=
  let l := s.net.links.filter (fun (l : LinkRep) => decide ((l.by_ = a ∧ l.to_ = b) ∨ (l.by_ = b ∧ l.to_ = a)))
  match l with
  | [] => none
  | _ =>
    let c := l.foldl (fun m (x : LinkRep) => max m x.etx) 0
    if c < s.costMax ∧ !(s.node a).down ∧ !(s.node b).down then some c else none

/-! Routes. -/

/-- A route: its cost and its intermediate nodes from the port side. -/
structure Rt where
  cost : Nat
  path : List Nat
  deriving DecidableEq, Repr

/-- The node's first hop on a route of port address `pa`: its parent. -/
def parentOn (pa : Nat) (path : List Nat) : Nat := path.getLast?.getD pa

/-- The better of two routes (R314): lower cost, fewer hops, lower parent. -/
def Rt.better (pa : Nat) (a b : Rt) : Rt :=
  if a.cost < b.cost then a
  else if b.cost < a.cost then b
  else if a.path.length < b.path.length then a
  else if b.path.length < a.path.length then b
  else if parentOn pa a.path ≤ parentOn pa b.path then a else b

/-- The better of two possible routes. -/
def Rt.best (pa : Nat) (a b : Option Rt) : Option Rt :=
  match a, b with
  | some x, some y => some (Rt.better pa x y)
  | some x, none => some x
  | none, y => y

/-- The least-cost route of node `e` in cell `p` over the direct link or one of the routes in `tbl` (R314, R317).
(DEDUCED, log 63) -/
def State.bestVia (s : State) (p e : Nat) (tbl : List (Nat × Rt)) : Option Rt :=
  let pa := s.portAddr p
  let d : Option Rt := (s.direct p e).map (fun c => ⟨c + s.hopPen, []⟩)
  tbl.foldl (fun b (x : Nat × Rt) =>
    if x.1 = e ∨ x.2.path.contains e ∨ 7 ≤ x.2.path.length then b
    else match s.between x.1 e with
      | some c => Rt.best pa b (some ⟨x.2.cost + c + s.hopPen, x.2.path ++ [x.1]⟩)
      | none => b) d

/-- One round over the forwarders of cell `p`. -/
def State.relax (s : State) (p : Nat) (fs : List Nat) (tbl : List (Nat × Rt)) : List (Nat × Rt) :=
  fs.filterMap (fun e => (s.bestVia p e tbl).map (fun r => (e, r)))

/-- Least-cost routes, of at most 8 hops, of the forwarders of cell `p` (R314, R317). -/
def State.backbone (s : State) (p : Nat) : List (Nat × Rt) :=
  let fs := ((s.cell p).filter (fun (x : Nat × NodeRec) => s.forwards p x.1 x.2)).map Prod.fst
  (upTo 8).foldl (fun tbl _ => s.relax p fs tbl) []

/-- The cost of a route to node `e` at present links; none when a hop of it is not usable (R313, R314). -/
def State.routeCost (s : State) (p e : Nat) (path : List Nat) : Option Nat :=
  match path with
  | [] => (s.direct p e).map (fun c => c + s.hopPen)
  | f :: r =>
    let first := (s.direct p f).map (fun c => c + s.hopPen)
    let pairs := (f :: r).zip (r ++ [e])
    pairs.foldl (fun (a : Option Nat) (x : Nat × Nat) =>
      match a, s.between x.1 x.2 with
      | some c, some d => some (c + d + s.hopPen)
      | _, _ => none) first

/-- The hop a port hands frames of a route to. -/
def firstHop (path : List Nat) (e : Nat) : Nat := path.headD e

/-! Sending. -/

/-- A frame to node `dst` over a route of port `p`, its header naming `endN` (R319, R320). -/
def State.sendOn (s : State) (p : Nat) (path : List Nat) (dst endN : Nat) (ty : FrameType) (mk : NetHdr → Payload)
    (o : Origin) : State :=
  let h : NetHdr :=
    { down := true, ridx := if path = [] then 0 else 1, xfer := false, hops := path.length + 1, cost := 0, node := endN,
      route := path, target := 0 }
  s.post p (txItem (linkFrame ty (some (firstHop path dst)) (s.portAddr p) (mk h)) o)

/-- A frame to node `dst` on its present route, or back with NO_ROUTE (R335). -/
def State.netSend (s : State) (dst endN : Nat) (ty : FrameType) (mk : NetHdr → Payload) (o : Origin) : State :=
  let n := s.node dst
  if n.up then s.sendOn n.home n.route dst endN ty mk o
  else (s.cntW R.NET_CNT_k).giveBack 64 (txItem (linkFrame ty (some dst) s.partAddr .empty) o) .noRoute

/-- A COMMAND to node `dst` over a given route. -/
def State.cmdOn (s : State) (p : Nat) (path : List Nat) (dst : Nat) (c : Cmd) : State :=
  s.sendOn p path dst dst .command (fun h => .command h c) .net

/-- A COMMAND to node `dst` on its present route. -/
def State.cmdTo (s : State) (dst : Nat) (c : Cmd) : State :=
  s.netSend dst dst .command (fun h => .command h c) .net

/-! Floods (R331, R332). -/

/-- A flood's key is looked up in group `g`'s cache at `t`, and inserted when it is new: the state, and whether the flood is to
be dropped (R331). -/
def State.seen (s : State) (g origin id t : Nat) : State × Bool :=
  let life := sec (field (s.rg R.NET_TIME) 31 20)
  let l := Store.get (fun _ => ([] : List SeenKey)) s.net.seen g
  let same := fun (k : SeenKey) => decide (k.origin = origin ∧ k.id = id)
  if l.any (fun k => same k && decide (t < k.at_ + life)) then (s.cntW (R.NET_CNT_k + 8), true)
  else
    let l := l.filter (fun k => !same k)
    let young := match l with
      | k :: _ => decide (4096 ≤ l.length ∧ t < k.at_ + life)
      | [] => false
    let s := if young then s.cntW (R.NET_CNT_k + 12) else s
    let l := (if 4096 ≤ l.length then l.drop 1 else l) ++ [⟨origin, id, t⟩]
    ({ s with net := { s.net with seen := Store.put (fun _ => ([] : List SeenKey)) s.net.seen g l } }, false)

/-- The part sends a flood on some ports (R332). -/
def State.flood (s : State) (ps : List Nat) (b : FloodBody) (t : Nat) : State :=
  let id := (s.net.floodId + 1) % 65536
  let s := { s with net := { s.net with floodId := id } }
  let ttl := field (s.rg R.NET_TIME) 7 4
  let gs := (upTo 8).filter (fun g => ps.any (fun p => decide (p / 8 = g)))
  let s := gs.foldl (fun s g => (s.seen g s.partAddr id t).1) s
  ps.foldl (fun s p => s.post p (txItem (linkFrame .flood none (s.portAddr p) (.flood s.partAddr id ttl b)) .net)) s

/-! Recomputing (R315, R316, R318). -/

/-- The link flags of R311 after a change of routes: an entry is in a route while it is the first hop of a present one. -/
def State.markRoutes (s : State) : State :=
  let hops := (s.net.nodes.filter (fun (x : Nat × NodeRec) => x.2.up)).map
    (fun (x : Nat × NodeRec) => (x.2.home, firstHop x.2.route x.1))
  { s with net := { s.net with
      nbrs := Store.mapAll (fun _ => Nbr.blank) (fun _ (x : Nbr) =>
        { x with inRoute := decide (x ≠ Nbr.blank) && hops.contains (x.port, x.eui) }) s.net.nbrs } }

/-- The route a node of cell `p` takes at a recompute (R315): its present one while it is usable and no other is cheaper by
more than HYST, else the least-cost one. (DEDUCED, log 63) -/
def State.decideRoute (s : State) (p e : Nat) (n : NodeRec) (tbl : List (Nat × Rt)) : Option Rt :=
  let b := s.bestVia p e tbl
  match s.routeCost p e n.route, b with
  | some c, some r => if r.cost + s.hyst < c then some r else some ⟨c, n.route⟩
  | some c, none => some ⟨c, n.route⟩
  | none, b => b

/-- The down route as the chain of parents (R318), over the decisions of a recompute; none where the chain does not reach
the port within 8 hops. (DEDUCED, log 63) -/
def chainOf (ds : List (Nat × Rt)) : Nat → Nat → List Nat → Option (List Nat)
  | 0, _, _ => none
  | k + 1, e, acc =>
    match ds.find? (fun (x : Nat × Rt) => x.1 = e) with
    | none => none
    | some (_, r) => match r.path.getLast? with
      | none => some acc
      | some q => chainOf ds k q (q :: acc)

/-- A node loses its route (R328, R335). -/
def State.lose (s : State) (e : Nat) : State :=
  s.setNode e { s.node e with st := .rediscover, hasRoute := false, route := [], cost := 0, tries := 0 }

/-- A node takes a route of port `p`. -/
def State.takeRoute (s : State) (p e : Nat) (r : Rt) : State :=
  s.setNode e { s.node e with st := .joined, home := p, hasRoute := true, route := r.path, cost := r.cost, tries := 0 }

/-- Cell `p` is recomputed at `t` (R315, R316, R318): nodes without a usable route go to REDISCOVER, and a node whose parent
changed is told over its new route. -/
def State.recompute (s : State) (p t : Nat) : State :=
  let tbl := s.backbone p
  let pa := s.portAddr p
  let nodes := s.cell p
  let ds := nodes.filterMap (fun (x : Nat × NodeRec) => (s.decideRoute p x.1 x.2 tbl).map (fun r => (x.1, r)))
  let fin := ds.map (fun (x : Nat × Rt) =>
    match chainOf ds 8 x.1 [] with
    | some path => (x.1, (⟨(s.routeCost p x.1 path).getD x.2.cost, path⟩ : Rt))
    | none => (x.1, (s.bestVia p x.1 tbl).getD x.2))
  let s := s.cntW (R.NET_CNT_k + 28)
  let s := { s with net := { s.net with
      recompAt := Store.put (fun _ => 0) s.net.recompAt p (t + 1),
      recompDue := s.net.recompDue.filter (· ≠ p),
      links := s.net.links.map (fun (l : LinkRep) =>
        if (s.node l.by_).home = p ∨ (s.node l.to_).home = p then { l with etxRef := l.etx } else l),
      nbrs := Store.mapAll (fun _ => Nbr.blank) (fun _ (x : Nbr) => if x.port = p then { x with etxRef := x.etx } else x)
        s.net.nbrs } }
  let lost := nodes.filter (fun (x : Nat × NodeRec) => !fin.any (fun y => decide (y.1 = x.1)))
  let s := lost.foldl (fun s (x : Nat × NodeRec) => s.lose x.1) s
  let s := fin.foldl (fun s (x : Nat × Rt) => s.takeRoute p x.1 x.2) s
  let moved := fin.filter (fun (x : Nat × Rt) =>
    nodes.any (fun (y : Nat × NodeRec) => decide (y.1 = x.1 ∧ parentOn pa y.2.route ≠ parentOn pa x.2.path)))
  let s := s.markRoutes
  moved.foldl (fun s (x : Nat × Rt) => s.cmdOn p x.2.path x.1 (.routeSet (parentOn pa x.2.path))) s

/-- A hop of a present route of cell `p` is no longer usable. -/
def State.routeBroken (s : State) (p : Nat) : Bool :=
  (s.cell p).any (fun (x : Nat × NodeRec) => (s.routeCost p x.1 x.2.route).isNone)

/-- Every cell with a hop in use that is no longer usable is recomputed at once (R316). -/
def State.repairCells (s : State) (t : Nat) : State :=
  fieldPorts.foldl (fun s p => if s.routeBroken p then s.recompute p t else s) s

/-- Two costs differ by more than HYST. -/
def State.moved (s : State) (a b : Nat) : Bool := decide (a + s.hyst < b ∨ b + s.hyst < a)

/-- A link cost of cell `p` has moved by more than HYST since its last recompute (R316). -/
def State.linkMoved (s : State) (p : Nat) : Bool :=
  s.net.nbrs.any (fun (x : Nat × Nbr) => decide (x.2.port = p) && s.moved x.2.etxRef x.2.etx) ||
    s.net.links.any (fun (l : LinkRep) => s.moved l.etxRef l.etx &&
      decide ((s.node l.by_).home = p ∨ (s.node l.to_).home = p))

/-- A cell becomes due for a recompute (R316). -/
def State.dueCell (s : State) (p : Nat) : State :=
  if s.net.recompDue.contains p then s else { s with net := { s.net with recompDue := s.net.recompDue ++ [p] } }

/-- After link costs may have changed: a cell is recomputed at once when a hop in use became unusable, and becomes due when a cost of
it moved by more than HYST (R316). (DEDUCED, log 63) -/
def State.netCheck (s : State) (t : Nat) : State :=
  let s := s.repairCells t
  (fieldPorts.filter s.linkMoved).foldl State.dueCell s

/-! Relays (R328, R329). -/

/-- DOWN of every entry of a node. -/
def State.downFlag (s : State) (e : Nat) (b : Bool) : State :=
  { s with net := { s.net with
      nbrs := Store.mapAll (fun _ => Nbr.blank) (fun _ (x : Nbr) =>
        if x.eui = e ∧ x ≠ Nbr.blank then { x with down := b, misses := if b then x.misses else 0 } else x) s.net.nbrs } }

/-- A relay is marked DOWN at port `p` (R328): its cell, and every other whose routes it carried, is recomputed at once. -/
def State.relayDown (s : State) (p e t : Nat) : State :=
  if (s.node e).down then s
  else
    let s := (s.setNode e { s.node e with down := true }).downFlag e true
    let s := s.raise Ev.RELAY_DOWN .warning (unit := p) (args := [aEui e]) (sc := .fieldNode)
    (s.recompute p t).repairCells t

/-- A DOWN relay returns to UP (R329). -/
def State.relayUp (s : State) (p e : Nat) : State :=
  if !(s.node e).down then s
  else
    let s := (s.setNode e { s.node e with down := false }).downFlag e false
    let s := (s.raise Ev.RELAY_UP .info (unit := p) (args := [aEui e]) (sc := .fieldNode)).dueCell p
    if (s.node e).up then s.dueCell (s.node e).home else s

/-! Joining and re-homing. -/

/-- The hop schedule a JOIN_ACK carries: channel map and HOP_C in a hopping cell, otherwise 0 (R324). -/
def State.hopInfo (s : State) (p : Nat) : Nat × Nat :=
  if s.isRadio p && bit (s.rg (portBase p + 0x200)) 17 then ((s.port p).map, field (s.rg (portBase p + 0x20C)) 31 24)
  else (0, 0)

/-- JOIN_ACK over a route of port `p`, followed by MAP_SET while a new channel map waits (R281, R322, R337). -/
def State.joinAck (s : State) (p : Nat) (path : List Nat) (e : Nat) : State :=
  let h := s.hopInfo p
  let s := s.cmdOn p path e (.joinAck (parentOn (s.portAddr p) path) s.hopPen s.beaconS s.reportH h.1 h.2)
  match (s.port p).newMap with
  | some (m, sw) => s.cmdOn p path e (.mapSet m h.2 sw)
  | none => s

/-- The connection records of an endpoint at port `p` are freed, with CONN_END (R361, R374). (DEDUCED, log 61) -/
def State.endConn (s : State) (p ep reason : Nat) : State :=
  if (s.port p).conns.any (fun (c : Conn) => decide (c.ep = ep)) then
    let s := s.onPort p (fun x => { x with conns := x.conns.filter (fun (c : Conn) => c.ep ≠ ep) })
    match s.sys.image.bind (fun im => im.ep ep) with
    | some c => s.cmdTo c.eui (.connEnd reason)
    | none => s
  else s

/-- The endpoint index of a node. -/
def State.epIdx (s : State) (e : Nat) : Option Nat :=
  match s.sys.image with
  | some im => (im.epOf e).map EpCfg.idx
  | none => none

/-- A joined node moves to another cell (R338): JOIN_ACK there, then LEAVE over the old route while that is usable. -/
def State.rehome (s : State) (e p : Nat) (r : Rt) (reason : Nat) : State :=
  let n := s.node e
  let s := match s.epIdx e with
    | some ep => s.endConn n.home ep 2
    | none => s
  let old := n.up && (s.routeCost n.home e n.route).isSome
  let s := s.takeRoute p e r
  let s := (s.joinAck p r.path e).markRoutes
  if old then s.cmdOn n.home n.route e (.leave reason) else s

/-- How many joined nodes other than `e` are homed on port `p`. -/
def State.cellSize (s : State) (p e : Nat) : Nat :=
  ((s.cell p).filter (fun (x : Nat × NodeRec) => decide (x.1 ≠ e))).length

/-- Cell `p` has room for node `e` (R317, R337): below its node limit, and for a relay below 2,048 relays. -/
def State.cellRoom (s : State) (p e : Nat) : Bool :=
  decide (s.cellSize p e < s.cellLimit p) &&
    (decide (s.kindOf e ≠ 1) ||
      decide (((s.cell p).filter (fun (x : Nat × NodeRec) => decide (x.1 ≠ e ∧ s.kindOf x.1 = 1))).length < 2048))

/-- At a discovery round of port `p`, joined nodes of other cells that it offers a route cheaper by more than REHOME_HYST move
to it (R338). (DEDUCED, log 61) -/
def State.rehomeRound (s : State) (p : Nat) : State :=
  let margin := field (s.rg R.NET_COST) 7 0
  let tbl := s.backbone p
  (s.net.nodes.filter (fun (x : Nat × NodeRec) => x.2.up && decide (x.2.home ≠ p))).foldl
    (fun s (x : Nat × NodeRec) =>
      match s.bestVia p x.1 tbl with
      | some r =>
        let now := (s.routeCost x.2.home x.1 x.2.route).getD x.2.cost
        if r.cost + margin < now ∧ s.cellRoom p x.1 then s.rehome x.1 p r 1 else s
      | none => s) s

/-- The nodes that a round of their home port includes as REDISCOVER: after DISC_TRIES rounds they become UNREACHABLE
(R339). (DEDUCED, log 61) -/
def State.triesRound (s : State) (p : Nat) : State :=
  let lim := field (s.rg R.NET_TIME) 11 8
  (s.net.nodes.filter (fun (x : Nat × NodeRec) => decide (x.2.st = .rediscover ∧ x.2.home = p))).foldl
    (fun s (x : Nat × NodeRec) =>
      if x.2.tries < lim then s.setNode x.1 { x.2 with tries := x.2.tries + 1 }
      else (s.setNode x.1 { x.2 with st := .unreachable }).raise Ev.UNREACHABLE .warning (args := [aEui x.1])
        (sc := match s.epIdx x.1 with
          | some ep => .endpoint ep
          | none => .fieldNode)) s

/-- Discovery rounds open on some ports (R336). (DEDUCED, log 61) -/
def State.openRounds (s : State) (ps : List Nat) (t : Nat) : State :=
  let ps := ps.filter (fun p => s.portOn p && !(s.port p).draining)
  if ps = [] then s
  else
    let r := (s.net.round + 1) % 256
    let s := { s with net := { s.net with round := r } }
    let s := ps.foldl (fun s p => (s.triesRound p).rehomeRound p) s
    let s := ps.foldl (fun s p => s.onPort p (fun x =>
      { x with roundEnd := some (t + sec s.discWin), roundAt := some t })) s
    s.flood ps (.discover s.discWin r) t

/-- A port no longer serves: its neighbour entries are freed, and its nodes move to another cell with a usable route or become
UNREACHABLE (R340). -/
def State.dropPort (s : State) (p : Nat) : State :=
  let nodes := s.net.nodes.filter (fun (x : Nat × NodeRec) => decide (x.2.home = p ∧ x.2.st = .joined))
  let s := { s with net := { s.net with nbrs := s.net.nbrs.filter (fun (x : Nat × Nbr) => x.2.port ≠ p) } }
  let qs := fieldPorts.filter (fun q => decide (q ≠ p) && s.portOn q && !(s.port q).draining)
  let x := nodes.foldl (fun (a : State × Nat × Nat) (x : Nat × NodeRec) =>
    let s := a.1
    let best := qs.foldl (fun (b : Option (Nat × Rt)) q =>
      if !s.cellRoom q x.1 then b
      else match s.bestVia q x.1 (s.backbone q), b with
        | some r, some (q', r') => if r.cost < r'.cost then some (q, r) else some (q', r')
        | some r, none => some (q, r)
        | none, b => b) none
    match best with
    | some (q, r) => (s.rehome x.1 q r 2, a.2.1 + 1, a.2.2)
    | none => (s.setNode x.1 { x.2 with st := .unreachable, hasRoute := false, route := [], cost := 0 },
        a.2.1, a.2.2 + 1)) (s, 0, 0)
  x.1.markRoutes.raise Ev.PORT_REHOME .info (unit := p) (args := [aIdx x.2.1, aIdx x.2.2]) (sc := .fieldNode)

/-! Jobs for the crypto lanes (16_keys_security.md R606, R607). -/

/-- Jobs waiting for lane `l`. -/
def Key.waiting (k : Key) (l : Nat) : List LaneJob := Store.get (fun _ => ([] : List LaneJob)) k.jobs l

/-- A job joins the usable lane with the fewest jobs waiting, the lowest of equals (R607); with no lane or with loads refused
it does not start. -/
def State.queueJob (s : State) (j : LaneJob) : State :=
  let best := s.lanesOn.foldl (fun (b : Option Nat) l =>
    match b with
    | none => some l
    | some m => if (s.key.waiting l).length < (s.key.waiting m).length then some l else some m) none
  match best with
  | none => s
  | some l =>
    if s.key.noLoads then s
    else { s with key := { s.key with
      jobs := Store.put (fun _ => ([] : List LaneJob)) s.key.jobs l (s.key.waiting l ++ [j]) } }

/-! Taking a frame that Reed accepted. -/

/-- Reported links of a node, one item each (R313, R324). -/
def State.report (s : State) (e : Nat) (items : List NbrItem) (t : Nat) : State :=
  { s with net := { s.net with links := items.foldl (fun l (i : NbrItem) =>
      match l.find? (fun (x : LinkRep) => decide (x.by_ = e ∧ x.to_ = i.eui)) with
      | some x => l.map (fun (y : LinkRep) =>
          if y.by_ = e ∧ y.to_ = i.eui then { x with etx := i.etx, qual := i.qual, at_ := t } else y)
      | none => l ++ [⟨e, i.eui, i.etx, i.etx, i.qual, t⟩]) s.net.links } }

/-- What an up frame does to its originator's route (R322, R329). JOIN_REQ frames are left to the join decision of R337.
(DEDUCED, log 62) -/
def State.upRoute (s : State) (p : Nat) (h : NetHdr) (isJoin : Bool) (t : Nat) : State :=
  let e := h.node
  let path := h.route.reverse
  let s := s.relayUp p e
  if s.kindOf e = 2 then s
  else if (s.node e).up ∨ isJoin then
    (path ++ [e]).foldl (fun s x => s.onNbr p x (fun y => { y with heard := t })) s
  else ((s.takeRoute p e ⟨h.cost, path⟩).joinAck p path e).markRoutes

/-- A message is kept for NET's own steps. -/
def State.toInbox (s : State) (p : Nat) (f : Frame) (t : Nat) : State :=
  { s with net := { s.net with inbox := s.net.inbox ++ [⟨p, f, t⟩] } }

/-- An endpoint's session record is open (R344). -/
def State.sessOpen (s : State) (e : Nat) : Option Nat :=
  match s.epIdx e with
  | none => none
  | some ep =>
    let k := Store.get (fun _ => KeyEntry.blank) s.key.table ep
    let live := s.key.tableOk && k.valid && k.good && decide (s.key.pkwk.map Pkwk.pgen = some k.pgen)
    if decide ((s.node e).st = .joined) && live then some ep else none

/-- A DATA payload for Meter Sessions (R344, R345): dropped and counted, or an opening job for the lanes. -/
def State.msnData (s : State) (h : NetHdr) (d : SessPayload) (t : Nat) : State :=
  match s.sessOpen h.node with
  | none => s.cntW R.MSN_CNT_k
  | some ep =>
    if d.mver ≠ 1 ∨ d.mtype ≠ 1 then s.cntW (R.MSN_CNT_k + 4)
    else s.queueJob (.openApdu ep d t (s.stampIrc t))

/-- A frame of XFER = 1 goes down to its target (R323). -/
def State.transfer (s : State) (h : NetHdr) (ty : FrameType) (mk : NetHdr → Payload) : State :=
  if (s.node h.target).up then s.netSend h.target h.node ty mk .net else s.cntW R.NET_CNT_k

/-- An uplink of an endpoint, from which RESP_WAIT of a PUSHED endpoint's delivered request counts (R357). -/
def State.noteUplink (s : State) (e t : Nat) : State :=
  match s.epIdx e with
  | none => s
  | some ep =>
    let x := Store.get (fun _ => Sess.blank) s.msn.sess ep
    match x.outReq with
    | none => s
    | some q =>
      if q.delivered.isSome ∧ q.uplink.isNone then
        { s with msn := { s.msn with
            sess := Store.put (fun _ => Sess.blank) s.msn.sess ep { x with outReq := some { q with uplink := some t } } } }
      else s

/-- The node at the far end of a DATA or COMMAND payload: END of its header (R319). -/
def Payload.endNode : Payload → Option Nat
  | .data h _ => some h.node
  | .command h _ => some h.node
  | _ => none

/-- An uplink of node `e` that a relay brought to port `p`: what the port holds for the node goes out on its route (R281). -/
def State.releaseHeld (s : State) (p e : Nat) : State :=
  let mine := fun (i : TxItem) => decide (i.frame.payload.endNode = some e ∧ i.frame.dst ≠ some e)
  s.onPort p (fun x => { x with queue := x.queue ++ x.held.filter mine, held := x.held.filter (fun i => !mine i) })

/-- NET takes a frame of port `p` with stamp `t` that Reed accepted (R319 to R331). -/
def State.netTake (s : State) (p : Nat) (f : Frame) (t : Nat) : State :=
  let s := if s.kindOf f.src = 2 then s else (s.setNode f.src { s.node f.src with uplink := t }).noteUplink f.src t
  match f.payload with
  | .data h d =>
    if h.down then s
    else if 7 < h.route.length then s.cntW (R.NET_CNT_k + 24)
    else
      let s := s.upRoute p h false t
      if h.xfer then s.transfer h .data (fun g => .data g d) else s.msnData h d t
  | .command h c =>
    if h.down then s
    else if 7 < h.route.length then s.cntW (R.NET_CNT_k + 24)
    else
      let join := match c with
        | .joinReq _ _ _ _ _ => true
        | _ => false
      let s := s.upRoute p h join t
      if h.xfer then s.transfer h .command (fun g => .command g c)
      else match c with
        | .joinReq _ _ _ _ _ => s.toInbox p f t
        | .nbrReport _ => s.toInbox p f t
        | .relayMiss _ _ => s.toInbox p f t
        | .connReq _ _ => s.toInbox p f t
        | .other code => if 0x40 ≤ code ∧ code ≤ 0x7F then s else s.cntW (R.NET_CNT_k + 20)
        | _ => s
  | .beacon _ => s.toInbox p f t
  | .flood _ _ _ _ => s.toInbox p f t
  | .empty => s

/-- The oldest message that `sel` picks leaves NET's inbox. -/
def State.takeMsg {α : Type} (s : State) (sel : NetMsg → Option α) : Option (NetMsg × α × State) :=
  match s.net.inbox.find? (fun m => (sel m).isSome) with
  | none => none
  | some m => match sel m with
    | none => none
    | some a => some (m, a, { s with net := { s.net with inbox := s.net.inbox.erase m } })

end Sys2Proof.Machine
end

