-- ==== Sys2Proof/Machine/Reed.lean ====
section
/-!
DEFINITION. What PLC and radio ports share in Reed: taking a frame (R238 to R240, R269 to R272, R309), the end of a
transmission and of ACK_WAIT (R240, R241, R271, R273), draining (R250, R297), enabling, and the commands about a port as such.
-/

namespace Sys2Proof.Machine
open Sys2Proof

/-! Taking a frame. -/

/-- A unicast or broadcast frame with a valid FCS reaches the port, its delimiter stamped `stamp`, ended at `fin`, with quality
`q`: the neighbour table, the duplicate rule and the owed ACK, then NET (R238, R239, R242, R270, R309). `f` is no ACK.
(DEDUCED, log 54) -/
def State.accept (s : State) (p : Nat) (f : Frame) (q stamp fin : Nat) : State :=
  let own := decide (f.dst = some (s.portAddr p))
  let y := s.hear p f.src q fin
  let s := y.1
  let s := if own && f.ackReq then s.onPort p (fun x => { x with ackOwed := some ⟨f.src, f.seq, fin + msCounts 1⟩ }) else s
  match y.2 with
  | none => s
  | some i =>
    let s := s.heardFrom p f.src stamp fin
    let x := Store.get (fun _ => Nbr.blank) s.net.nbrs i
    if own && decide (x.rxSeq = some f.seq) then s.portCnt p 7
    else
      let s := if own then s.setNbr i { x with rxSeq := some f.seq } else s
      if own || f.dst.isNone then
        let s := s.netTake p f stamp
        let s := match f.payload.endNode with
          | some e => if e = f.src then s else s.releaseHeld p e
          | none => s
        s.netCheck fin
      else s

/-! The end of ACK_WAIT. -/

/-- ACK_WAIT has passed at `t` without delivery: a retry is drawn, a frame for a connected endpoint or of a PUSHED one's request waits
for the next event or uplink (R292, R355), or the frame comes back NO_ACK (R241, R250, R273). (DEDUCED, log 53) -/
def State.ackExpire (s : State) (p t : Nat) : State :=
  let x := s.port p
  match x.ackWait with
  | none => s
  | some (i, d) =>
    if t < d ∨ x.ackPossible d ∨ x.rep.isSome then s
    else
      let s := s.onPort p (fun x => { x with ackWait := none })
      let s :=
        if x.draining || i.spent then s.giveBack p i .noAck
        else if s.connected p i.frame.dst || s.uplinkOnly i then s.onPort p (fun x => { x with held := { i with since := t } :: x.held })
        else
          let b := s.retryDraw i.sent
          let j := { i with backoff := b, since := t }
          let s := s.used
          if s.isPlc p then s.onPort p (fun x => { x with queue := j :: x.queue })
          else s.onPort p (fun x => { x with backoff := some j })
      s.netCheck t

/-! Draining and enabling. -/

/-- DRAINING begins (R250, R297): new frames are refused, queued frames come back DISABLED, and no further retry is made. -/
def State.drainPort (s : State) (p : Nat) : State :=
  let x := s.port p
  if !x.en || x.draining then s
  else
    let q := x.queue ++ x.launch ++ x.held
    let s := s.onPort p (fun x =>
      { x with draining := true, queue := [], launch := [], held := [], backoff := none, pendTo := none, dutyHeld := none,
               rep := x.rep.map (fun (r : RepeatSeq) => { r with until_ := 0 }) })
    let fresh := q.filter (fun (i : TxItem) => i.sent = 0)
    let tried := q.filter (fun (i : TxItem) => decide (i.sent ≠ 0)) ++ x.backoff.toList
    (s.giveAll p fresh .disabled).giveAll p tried .noAck

/-- A port as it stands while it is disabled: what concerns the line, the air time already used and the hop schedule of the cell
stays (R217, R255, R277, R280, R281); the rest starts afresh. -/
def Port.idle (x : Port) : Port :=
  { Port.blank with
    bseq := x.bseq, bins := x.bins, bin := x.bin, binAt := x.binAt, dutyAlarm := x.dutyAlarm, dwell := x.dwell, chan := x.chan,
    map := x.map, newMap := x.newMap, mapAt := x.mapAt, afeFail := x.afeFail, zcLost := x.zcLost }

/-- The drain has ended (R250, R297, R340): connection records are freed without CONN_LOST, EN reads 0, the neighbour entries
go and the nodes move. -/
def State.drained (s : State) (p : Nat) : State :=
  let x := s.port p
  let eps := x.conns.map (fun (c : Conn) => c.ep)
  let s := if s.isRadio p then s.emit (.xcvr p 0x3F []) else s
  let s := s.setPort p x.idle
  let s := s.dropPort p
  eps.foldl (fun s ep => match s.sys.image.bind (fun im => im.ep ep) with
    | some c => s.cmdTo c.eui (.connEnd 1)
    | none => s) s

/-- The channel map register of a radio port (R302). -/
def State.chmapReg (s : State) (p : Nat) : Nat :=
  (s.rg (portBase p + 0x210)).toNat + 2 ^ 32 * (s.rg (portBase p + 0x214)).toNat

/-- The hop schedule's map at `t` as a port starts: the one in force until a switch slot still to come, else the register's (R281,
R302). -/
def State.mapAtStart (s : State) (p t : Nat) : Nat × Option (Nat × Nat) :=
  match (s.port p).newMap with
  | some (m, sw) => if s.hopSlot p t < sw then ((s.port p).map, some (m, sw)) else (m, none)
  | none => (s.chmapReg p, none)

/-- EN of a port reads 1 from `t` on: it starts afresh on its channel and opens a discovery round (R251, R276, R278, R336). -/
def State.enableAt (s : State) (p t : Nat) : State :=
  let m := s.mapAtStart p t
  let s := s.setPort p { (s.port p).idle with en := true, map := m.1, newMap := m.2, phyPre := s.preamble p }
  let s := s.setPort p { s.port p with chan := s.baseChan p t }
  let s := s.blockCheck p t
  if s.running then s.openRounds [p] t else s

/-- A port the image enables starts with its group, or is set enabled: a PLC port at once, a radio port once its transceiver
has taken IDLE, SET_PHY, SET_CHAN, SET_POWER and RX_ON with READY = 1 and ERR = 0, which `ok` says (R261). (DEDUCED, log 58) -/
def State.startPort (s : State) (p t : Nat) (ok : Bool) : State :=
  if s.isPlc p then s.enableAt p t
  else
    let m := s.mapAtStart p t
    let s := s.setPort p { s.port p with map := m.1, newMap := m.2 }
    let s := s.emitAll (s.initXfers p (s.baseChan p t))
    if ok then (s.enableAt p t).endEv Ev.XCVR_FAIL (fun e => e.unit = p)
    else s.onPort p (fun x => { x with initSince := some t })

/-- The effect of a write of RPT_p_CTRL (R250, R251): 1 in EN enables the port, 0 starts DRAINING. `ok`: a radio port's
transceiver initialises (R261). (DESIGN CHOICE, log 23) -/
def State.portCtrlEff (p t : Nat) (ok : Bool) (s : State) (v : Word) : State × Status :=
  if !bit v 31 then (s.drainPort p, .ok)
  else if s.portMode p = 0 then (s, .denied)
  else if (s.port p).en then (s, .ok)
  else (s.startPort p t ok, .ok)

/-- PORT_ENABLE (R251, R261): a write of 1 to RPT_p_CTRL.EN. -/
def execPortEnable (r : Requester) (p t : Nat) (initOk : Bool) (s : State) : Host.Outcome State Fault Refusal :=
  let s := s.reach t
  .next (s.writeRow r (0x800000 + portBase p) 0x80000000 (State.portCtrlEff p t initOk))

/-- PORT_DISABLE (R250): a write of 0 to RPT_p_CTRL.EN. -/
def execPortDisable (r : Requester) (p : Nat) (s : State) : Host.Outcome State Fault Refusal :=
  .next (s.writeRow r (0x800000 + portBase p) 0 (State.portCtrlEff p s.tim.cnt false))

/-- PORT_DRAIN_DONE (R250, R340): the exchange in progress has completed. -/
def execPortDrainDone (p t : Nat) (s : State) : Host.Outcome State Fault Refusal :=
  let s := s.reach t
  let s := if s.isPlc p then s.settle p t else s
  .next (if (s.port p).draining && (s.port p).quiet && !s.inEvent p t then s.drained p else s)

/-- BLOCKED_QUEUE_TIMEOUT (R249, R296): queued frames of a port blocked for 2 s come back. -/
def execBlockedQueueTimeout (p t : Nat) (s : State) : Host.Outcome State Fault Refusal :=
  let s := s.reach t
  let x := s.port p
  .next (match x.blockedSince with
    | none => s
    | some b =>
      if t < b + sec 2 then s
      else
        let q := x.queue ++ x.held ++ x.backoff.toList
        (s.onPort p (fun x => { x with queue := [], held := [], backoff := none })).giveAll p q .txBlocked)

/-- XCVR_FAIL (R260): status bytes invalid for 1 ms. -/
def execXcvrFail (p t : Nat) (s : State) : Host.Outcome State Fault Refusal :=
  let s := s.reach t
  .next (
    if !s.isRadio p || !s.portOn p || (s.port p).xcvrFail then s
    else
      let s := s.onPort p (fun x => { x with xcvrFail := true, reinitAt := t })
      (s.raise Ev.XCVR_FAIL .warning (unit := p) (lasting := true)).blockCheck p t)

/-- XCVR_REINIT (R260): once a second a failed transceiver is initialised again; `ok` says whether that succeeds. -/
def execXcvrReinit (p : Nat) (ok : Bool) (t : Nat) (s : State) : Host.Outcome State Fault Refusal :=
  let s := s.reach t
  let x := s.port p
  .next (
    if !s.portOn p || !x.xcvrFail || decide (t < x.reinitAt + sec 1) then s
    else
      let s := s.emitAll (s.initXfers p x.chan)
      if ok then
        ((s.onPort p (fun x => { x with xcvrFail := false })).endEv Ev.XCVR_FAIL (fun e => e.unit = p)).blockCheck p t
      else s.onPort p (fun x => { x with reinitAt := t }))

/-- XCVR_INIT_TIMEOUT (R261): initialisation has not completed within 10 ms; EN stays 0. (DEDUCED, log 58) -/
def execXcvrInitTimeout (p t : Nat) (s : State) : Host.Outcome State Fault Refusal :=
  let s := s.reach t
  .next (match (s.port p).initSince with
    | none => s
    | some a =>
      if t < a + msCounts 10 then s
      else (s.onPort p (fun x => { x with initSince := none })).raise Ev.XCVR_FAIL .warning (unit := p) (lasting := true))

end Sys2Proof.Machine
end

