-- ==== Sys2Proof/Machine/Zc.lean ====
section
/-!
DEFINITION. Zero crossings of PLC ports (02_package_signals.md R49, 05_time_base.md R200 to R202, R255) and the launch queues
(R197 to R199, R237, R268).
-/

namespace Sys2Proof.Machine
open Sys2Proof

/-- ZC_MODE: 0 or 3 OFF, 1 REF, 2 TEST (R201, R208). -/
def State.zcMode (s : State) : Nat := field (s.rg R.TIM_CTRL) 9 8

/-- Measurement runs. -/
def State.zcRuns (s : State) : Bool := decide (s.zcMode = 1 ∨ s.zcMode = 2)

/-- What is known of port `p`'s AUX input. -/
def State.zcPort (s : State) (p : Nat) : ZcPort := Store.get (fun _ => ZcPort.blank) s.tim.zcPorts p

/-- What is known of group `g`. -/
def State.zcGroup (s : State) (g : Nat) : ZcGroup := Store.get (fun _ => ZcGroup.blank) s.tim.zcGroups g

/-- Port `p`'s crossing record becomes `x`. -/
def State.setZcPort (s : State) (p : Nat) (x : ZcPort) : State :=
  { s with tim := { s.tim with zcPorts := Store.put (fun _ => ZcPort.blank) s.tim.zcPorts p x } }

/-- Group `g`'s reference becomes `x`. -/
def State.setZcGroup (s : State) (g : Nat) (x : ZcGroup) : State :=
  { s with tim := { s.tim with zcGroups := Store.put (fun _ => ZcGroup.blank) s.tim.zcGroups g x } }

/-- The lowest-numbered PLC port of group `g` with a live input (R200, R202). -/
def State.zcRef (s : State) (g : Nat) : Option Nat :=
  ((upTo 8).map (fun i => 8 * g + i)).find? (fun p => s.isPlc p && (s.zcPort p).live)

/-- The edges of a group's reference port with one more, newest first, at most 65. -/
def ZcGroup.push (x : ZcGroup) (p t : Nat) : ZcGroup :=
  let es := t :: (if x.refPort = p then x.edges.take 64 else [])
  let n := es.length - 1
  let per := if n = 0 then x.period else (t - es.getLast?.getD t) / n
  { edge := t, edges := es, period := per, valid := true, refPort := p }

/-- 50 ms in counts (R49). -/
def zcGap : Nat := msCounts 50

/-- ZC_EDGE (R200, R201, R255): a rising edge on the AUX input of PLC port `p` at counter value `t`. (DEDUCED, log 50) -/
def execZcEdge (p t : Nat) (s : State) : Host.Outcome State Fault Refusal :=
  let s := s.reach t
  .next (
    if !s.isPlc p then s
    else
      let g := p / 8
      let z := s.zcPort p
      let since := if z.live ∧ t < z.edge + zcGap then z.since else t
      let s := s.setZcPort p { live := true, edge := t, offset := (t : Int) - (s.zcGroup g).edge, since := since, past := t :: z.past.take 255 }
      let s :=
        if s.zcRuns && decide (s.zcRef g = some p) then
          let s := s.setZcGroup g ((s.zcGroup g).push p t)
          s.setZcPort p { s.zcPort p with offset := 0 }
        else s
      let s := if s.zcMode = 2 then s.raise Ev.ZC_SAMPLE .info (unit := p) (args := [.n 8 t]) else s
      if (s.port p).zcLost ∧ since + sec 1 ≤ t then
        ((s.onPort p (fun x => { x with zcLost := false })).endEv Ev.ZC_LOSS (fun e => e.unit = p)).blockCheck p t
      else s)

/-- ZC_LOSS (R49, R202, R255): no edge for 50 ms on PLC port `p`; the group's reference moves to the next live port.
(DEDUCED, log 50) -/
def execZcLoss (p t : Nat) (s : State) : Host.Outcome State Fault Refusal :=
  let s := s.reach t
  .next (
    let z := s.zcPort p
    if !s.isPlc p || (z.live && decide (t < z.edge + zcGap)) then s
    else
      let g := p / 8
      let s := s.setZcPort p { z with live := false }
      let s := match s.zcRef g with
        | none => s.setZcGroup g { s.zcGroup g with valid := false, edges := [] }
        | some q =>
          if (s.zcGroup g).refPort = q then s
          else s.setZcGroup g { s.zcGroup g with refPort := q, edge := (s.zcPort q).edge, edges := [(s.zcPort q).edge] }
      if s.portOn p ∧ !(s.port p).zcLost then
        let s := s.onPort p (fun x => { x with zcLost := true })
        (s.raise Ev.ZC_LOSS .warning (unit := p) (lasting := true)).blockCheck p t
      else s)

/-! Launch queues. -/

/-- The launch queue of host port `e`. -/
def State.hostQueue (s : State) (e : Nat) : List HostLaunch :=
  Store.get (fun _ => ([] : List HostLaunch)) s.tim.hostLaunch e

/-- The launch queue of host port `e` becomes `l`. -/
def State.setHostQueue (s : State) (e : Nat) (l : List HostLaunch) : State :=
  { s with tim := { s.tim with hostLaunch := Store.put (fun _ => ([] : List HostLaunch)) s.tim.hostLaunch e l } }

/-- A frame enters a host port's launch queue in launch-time order. -/
def insertHost (x : HostLaunch) : List HostLaunch → List HostLaunch
  | [] => [x]
  | y :: r => if x.at_ < y.at_ then x :: y :: r else y :: insertHost x r

/-- LAUNCH_POST (R197, R199) on a field port: a producer's frame with a launch time. (DEDUCED, log 59) -/
def execLaunchPost (host : Bool) (p : Nat) (f : Frame) (tag at_ : Nat) (asap : Bool) (s : State) :
    Host.Outcome State Fault Refusal :=
  .next (
    if host then
      if 16 ≤ (s.hostQueue p).length then s.emit (.returned (.producer tag) .queueFull)
      else if s.tim.cnt + 10 * 400000000 < at_ then s.emit (.returned (.producer tag) .launchRange)
      else s.setHostQueue p (insertHost ⟨at_, asap, tag⟩ (s.hostQueue p))
    else s.postLaunch p { txItem f (.producer tag) with asap := asap } at_)

end Sys2Proof.Machine
end

