-- ==== Sys2Proof/Machine/Plc.lean ====
section
/-!
DEFINITION. PLC ports (06_plc_ports.md R214 to R255): half-cycle slots and medium access, reception, phase, gain, impulses and
the front end.
-/

namespace Sys2Proof.Machine
open Sys2Proof

/-! Sending. -/

/-- The latest positive crossing of the port as Reed knows it: its AUX edge less ZC_DLY (R233), in counts. -/
def State.zcAt (s : State) (p : Nat) : Int :=
  ((s.zcPort p).edge : Int) - (field (s.rg (portBase p + 0x100)) 31 16 * 40 : Nat)

/-- The port's zero crossing is valid (R232). -/
def State.zcValid (s : State) (p : Nat) : Bool := (s.zcPort p).live && !(s.port p).zcLost

/-- The mean period of the port's group in counts (R200). -/
def State.zcPeriod (s : State) (p : Nat) : Nat := (s.zcGroup (p / 8)).period

/-- A slot of port `p` starts at counter value `t` (R233): a positive crossing, or one half-cycle or more of the group's PERIOD after
it while the next edge has not come yet. (DEDUCED, log 54) -/
def State.slotAt (s : State) (p t : Nat) : Bool :=
  let d := (t : Int) - s.zcAt p
  let per := s.zcPeriod p
  s.zcValid p && (decide (d = 0) ||
    (decide (0 < per) && (upTo 4).any (fun k => decide (d = (k * per / 2 : Nat)))))

/-- ZC_OFS of a frame whose delimiter starts at counter value `d` (R229, R232): from the last positive crossing to the delimiter at
the coupler, TX_NS later, in units of 25 us, rounded to nearest. -/
def State.zcOfs (s : State) (p d : Nat) : Option Nat :=
  let per := s.zcPeriod p
  let m := ((d + s.txNs p * 2 / 5 : Nat) - s.zcAt p : Int).toNat
  if s.zcValid p then some (((if per = 0 then m else m % per) + 5000) / 10000 % 1024) else none

/-- A frame starts at transmit instant `inst` (R228, R232, R196). -/
def State.plcSend (s : State) (p : Nat) (i : TxItem) (inst : Nat) : State :=
  let f := s.bandF p
  let d := inst + plcPreamble f
  let fr := s.stampBeacon d (s.txNs p) i.frame
  let zc := s.zcOfs p d
  let s := (s.plcCnt p 0).emit (.plcFrame p zc fr)
  let s := if 0 < i.sent ∧ i.frame.type ≠ .ack then s.plcCnt p 1 else s
  s.onPort p (fun x =>
    { x with onAir := some ({ i with frame := fr, sent := i.sent + 1 }, inst + plcAir f fr.len), airFrom := inst, airZc := zc })

/-- The medium counts as busy at `t` (R235), leaving the listen window's energy aside. -/
def Port.mediumBusy (x : Port) (t : Nat) : Bool :=
  x.rx.isSome || x.badHdr || decide (t < x.busyUntil) || x.onAir.isSome || x.ackWait.isSome

/-- The launch-time frames due by transmit instant `inst` (R237): the first that may go leaves; one that meets a busy medium comes
back LAUNCH_LATE or, marked ASAP, joins the queue's head. The state, and whether a frame left. -/
def State.launchSlot (p inst : Nat) (busy : Bool) : List TxItem → State → State × Bool
  | [], s => (s, false)
  | i :: r, s =>
    if inst < i.launch.getD 0 then (s, false)
    else if busy then
      State.launchSlot p inst busy r ((s.onPort p (fun x => { x with launch := x.launch.drop 1 })).launchMiss p i)
    else ((s.popLaunch p inst).plcSend p i inst, true)

/-- Launch-time frames whose instant passes while the port is blocked (R199, R249). -/
def State.launchBlocked (s : State) (p inst : Nat) : State :=
  let due := (s.port p).launch.filter (fun (i : TxItem) => decide (i.launch.getD 0 ≤ inst))
  let gone := if s.sys.heddle then due.filter (fun (i : TxItem) => !i.asap) else due
  let s := s.onPort p (fun x => { x with launch := x.launch.filter (fun (i : TxItem) => !gone.contains i) })
  s.giveAll p gone (if s.sys.heddle then .launchLate else .noClaim)

/-- The queued frame at a slot (R236, R241): it goes after its idle slots; a frame that is ready and meets a busy slot draws
how many idle slots it lets pass. -/
def State.queueSlot (s : State) (p inst : Nat) (busy : Bool) : State :=
  match (s.port p).queue with
  | [] => s
  | i :: r =>
    if busy then
      if i.backoff = 0 then
        (s.onPort p (fun x => { x with queue := { i with backoff := s.drawn 3 } :: r })).used
      else s
    else if 0 < i.backoff then s.onPort p (fun x => { x with queue := { i with backoff := i.backoff - 1 } :: r })
    else (s.onPort p (fun x => { x with queue := r })).plcSend p i inst

/-- What goes at a slot that an owed ACK does not take (R236, R237). -/
def State.slotFrame (s : State) (p inst : Nat) (busy : Bool) : State :=
  let y := State.launchSlot p inst busy (s.port p).launch s
  if y.2 then y.1 else y.1.queueSlot p inst busy

/-- PLC_SLOT_START (R233, R236 to R238): the slot of PLC port `p` that starts at `t` reaches its transmit instant, 200 us later, at
which the row acts; `energy` says whether in-band energy during the listen window was more than 6 dB above the noise floor.
An owed ACK goes without carrier sense, else a launch-time frame or the queued frame while the medium was busy neither at the
slot start nor in the listen window. (DEDUCED, log 54) -/
def execPlcSlotStart (p t : Nat) (energy : Bool) (s : State) : Host.Outcome State Fault Refusal :=
  let inst := t + usCounts 200
  let s := s.reach inst
  .next (
    if !s.isPlc p || !s.portOn p then s
    else
      let s := s.settle p t
      if s.portBlocked p then (s.blockCheck p inst).launchBlocked p inst
      else if !s.slotAt p t then s
      else
        let busy := energy || (s.port p).mediumBusy t
        let s := s.settle p inst
        match (s.port p).ackOwed, (s.port p).onAir with
        | some a, none =>
          if a.notBefore ≤ t then
            (s.onPort p (fun x => { x with ackOwed := none })).plcSend p
              (txItem (ackFrame a (s.holdsFor p a.dst) (s.portAddr p)) .net) inst
          else s.slotFrame p inst busy
        | _, _ => s.slotFrame p inst busy)

/-! Receiving. -/

/-- PLC_PREAMBLE_DETECTED (R218, R235): GAIN is set from the preamble energy and held; the medium is busy. -/
def execPlcPreambleDetected (p gain t : Nat) (s : State) : Host.Outcome State Fault Refusal :=
  let s := s.reach t
  .next (
    if !s.isPlc p || !s.portHears p then s
    else
      let s := s.settle p t
      if (s.port p).onAir.isSome || (s.port p).rx.isSome then s
      else s.onPort p (fun x => { x with gain := gain % 16, rx := some ⟨t, none, none, none, none, 0⟩, badHdr := false }))

/-- PLC_DELIMITER_DETECTED (R193, R194, R222): the frame is stamped. -/
def execPlcDelimiterDetected (p t : Nat) (s : State) : Host.Outcome State Fault Refusal :=
  let s := s.reach t
  .next (
    if !s.isPlc p then s
    else match (s.port p).rx with
      | some r => if r.stamp.isSome then s
        else s.onPort p (fun x => { x with rx := some { r with det := some t, stamp := some (s.portStamp p t) } })
      | none => s)

/-- When a frame ends at the coupler whose delimiter was stamped `st` and whose LENGTH is `len` (R228). -/
def State.plcEnd (s : State) (p st len : Nat) : Nat := st + plcDelimiter (s.bandF p) + plcBody (s.bandF p) len

/-- PLC_HEADER_DECODED (R229, R235, R243): the header word of the given fields is decoded; HCS, VER and LENGTH are checked, and a
good header gives the frame's end. (DESIGN CHOICE, log 7) -/
def execPlcHeaderDecoded (p hcs ver len zc t : Nat) (s : State) : Host.Outcome State Fault Refusal :=
  let s := s.reach t
  let w := hdrWord hcs ver len zc
  .next (
    if !s.isPlc p then s
    else match (s.port p).rx with
      | none => s
      | some r => match r.stamp with
        | none => s
        | some st =>
          if hcsHolds w && decide (hdrVer w = 0 ∧ 15 ≤ hdrLen w ∧ hdrLen w ≤ 1280) then
            s.onPort p (fun x =>
              { x with rx := some { r with len := some (hdrLen w), zc := hdrZc w }, busyUntil := s.plcEnd p st (hdrLen w) })
          else
            let s := (s.plcCnt p 4).onPort p (fun x => { x with rx := none, badHdr := true })
            s.ackExpire p t)

/-- A frame that failed counts its impulses for its sender (R242). -/
def State.failedFrame (s : State) (p src imp : Nat) : State :=
  s.onNbr p src (fun x => { x with impulses := min 0xFFFF (x.impulses + imp) })

/-- PLC_CORRELATION_LOST (R235, R242, R243): correlation is lost for 4 symbols before the frame's end. The medium stays busy to the
end that LENGTH gave, and for ACK_WAIT after it where the frame showed ACK_REQ = 1; after a failed header it is free now.
`x`: what the decoded part of the link frame showed. (DEDUCED, log 54) -/
def execPlcCorrelationLost (p : Nat) (x : PlcLost) (s : State) : Host.Outcome State Fault Refusal :=
  let s := s.reach x.time
  let t := x.time
  .next (
    if !s.isPlc p then s
    else match (s.port p).rx with
      | none => if (s.port p).badHdr then s.onPort p (fun x => { x with badHdr := false, busyUntil := max x.busyUntil t }) else s
      | some r =>
        let s := s.plcCnt p 6
        let s := match x.src with
          | some e => s.failedFrame p e r.imp
          | none => s
        let s := s.onPort p (fun y =>
          { y with rx := none, badHdr := false,
                   busyUntil := if r.len.isNone then max y.busyUntil t
                     else if x.ackReq then y.busyUntil + plcAckWait (s.bandF p) else y.busyUntil })
        s.ackExpire p t)

/-- The sector code of a neighbour's phase (R247): `m` counts after the crossing of a port with PHASE `own` and mean period
`per`. -/
def phaseCode (own m per : Nat) : Nat :=
  if own = 0 ∨ per = 0 then 0
  else
    let lab := fun k => (own - 1 + k) % 3 + 1
    match (12 * m + per) / (2 * per) % 6 with
    | 0 => lab 0
    | 1 => lab 2 + 4
    | 2 => lab 1
    | 3 => lab 0 + 4
    | 4 => lab 2
    | _ => lab 1 + 4

/-- The latest positive crossing of the port at or before `ts` (R246), from the edges it has seen. -/
def State.crossingBefore (s : State) (p : Nat) (ts : Int) : Int :=
  let dly : Nat := field (s.rg (portBase p + 0x100)) 31 16 * 40
  match (s.zcPort p).past.find? (fun e => decide ((e : Int) - dly ≤ ts)) with
  | some e => (e : Int) - dly
  | none => s.zcAt p

/-- The phase measured for a frame (R246): with a stamp and ZC_OFS, while the port's zero crossing is valid. -/
def State.phaseOf (s : State) (p stamp zc : Nat) : Nat :=
  let per := s.zcPeriod p
  let ts : Int := (stamp : Int) - (zc * 10000 : Nat)
  let m := if per = 0 then 0 else ((ts - s.crossingBefore p ts) % (per : Int)).toNat
  phaseCode (field (s.rg (portBase p + 0x100)) 5 4) m per

/-- A neighbour's PHASE follows four consecutive frames in one sector (R248). -/
def State.phaseNote (s : State) (p eui code : Nat) : State :=
  match s.net.find p eui with
  | none => s
  | some (i, x) =>
    if code = x.phase then s.setNbr i { x with phaseRun := 0 }
    else
      let run := if x.phaseCand = code then x.phaseRun + 1 else 1
      if run < 4 then s.setNbr i { x with phaseCand := code, phaseRun := run }
      else
        let s := s.setNbr i { x with phase := code, phaseCand := code, phaseRun := 0 }
        if x.phase = 0 then s
        else s.raise Ev.PHASE_CHANGE .info (unit := p) (args := [aEui eui, aCode x.phase, aCode code]) (sc := .fieldNode)

/-- The phase of the neighbour that sent a frame with ZCV = 1 (R246 to R248). -/
def State.phaseFrom (s : State) (p e stamp : Nat) (zc : Option Nat) : State :=
  match zc with
  | some z => if s.zcValid p ∧ field (s.rg (portBase p + 0x100)) 5 4 ≠ 0 then s.phaseNote p e (s.phaseOf p stamp z) else s
  | none => s

/-- PLC_FRAME_RECEIVED (R235, R238 to R248, R309 to R331): a frame whose header was decoded ends. `f` is the frame as decoded,
`fcsOk` whether its FCS holds over the received bytes (R230), `q` its quality value. (DEDUCED, log 54; DESIGN CHOICE, log 142) -/
def execPlcFrameReceived (p : Nat) (f : Frame) (fcsOk : Bool) (q t : Nat) (s : State) :
    Host.Outcome State Fault Refusal :=
  let s := s.reach t
  .next (
    if !s.isPlc p || !s.portHears p then s
    else match (s.port p).rx with
      | none => s
      | some r => match r.det, r.stamp, r.len with
        | some det, some st, some len =>
          let fin := s.plcEnd p st len
          let s := s.settle p t
          let s := s.onPort p (fun x =>
            { x with rx := none, busyUntil := if f.wantsAck then fin + plcAckWait (s.bandF p) else fin })
          let s :=
            if !fcsOk then (s.plcCnt p 5).failedFrame p f.src r.imp
            else
              let s := s.plcCnt p 3
              match f.type with
              | .reserved _ => (s.plcCnt p 4).failedFrame p f.src r.imp
              | .ack =>
                let waits := ((s.port p).ackWait.bind (fun w => w.1.frame.dst))
                let u := s.takeAck p f (q % 256) st det fin
                match waits with
                | some e => if (u.port p).ackWait.isNone then u.phaseFrom p e st r.zc else u
                | none => u
              | _ => (s.accept p f (q % 256) st fin).phaseFrom p f.src st r.zc
          s.ackExpire p t
        | _, _, _ => s)

/-- PLC_ACK_WAIT_EXPIRY (R240, R241). -/
def execPlcAckWaitExpiry (p t : Nat) (s : State) : Host.Outcome State Fault Refusal :=
  let s := s.reach t
  .next (if s.isPlc p then (s.settle p t).ackExpire p t else s)

/-- IMPULSE (R216, R244): the words `ws` arrive on FPn_SDI from `t` on; a run of at least 3 with SAT = 1 is an impulse, runs closer
than 120 words count once, and SAT is ignored while the port transmits. -/
def execImpulse (p : Nat) (ws : List Nat) (t : Nat) (s : State) : Host.Outcome State Fault Refusal :=
  let s := s.reach t
  let s := if s.isPlc p then s.settle p t else s
  let n := satRun ws
  .next (
    if !s.isPlc p || !s.portOn p || decide (n < 3) || (s.port p).onAir.isSome then s
    else
      let fin := t + n * 1000 / 3
      let near := match (s.port p).impEnd with
        | some e => decide (t < e + usCounts 100)
        | none => false
      let s := s.onPort p (fun x => { x with
        impEnd := some fin,
        rx := if near then x.rx else x.rx.map (fun (r : Rx) => { r with imp := r.imp + 1 }) })
      if near then s else s.plcCnt p 8)

/-- PLC_GAIN_TRACK (R218): outside frames GAIN moves one step, at most once in 10 ms, toward the code that the noise floor
gives. -/
def execPlcGainTrack (p target t : Nat) (s : State) : Host.Outcome State Fault Refusal :=
  let s := s.reach t
  .next (
    let x := s.port p
    if !s.isPlc p || !s.portHears p || x.rx.isSome || decide (t < x.gainAt + msCounts 10) then s
    else
      let g := if x.gain < target % 16 then x.gain + 1 else if target % 16 < x.gain then x.gain - 1 else x.gain
      if g = x.gain then s else s.onPort p (fun x => { x with gain := g, gainAt := t }))

/-- AFE_FAIL (R217): AFE_OK has read 0 for 1 ms. -/
def execAfeFail (p t : Nat) (s : State) : Host.Outcome State Fault Refusal :=
  let s := s.reach t
  .next (
    if !s.isPlc p || !s.portOn p || (s.port p).afeFail then s
    else
      let s := s.onPort p (fun x => { x with afeFail := true, rx := none })
      (s.raise Ev.AFE_FAIL .warning (unit := p) (lasting := true)).blockCheck p t)

/-- AFE_RESUME (R217): AFE_OK has read 1 for 10 ms. -/
def execAfeResume (p t : Nat) (s : State) : Host.Outcome State Fault Refusal :=
  let s := s.reach t
  .next (
    if !(s.port p).afeFail then s
    else ((s.onPort p (fun x => { x with afeFail := false })).endEv Ev.AFE_FAIL (fun e => e.unit = p)).blockCheck p t)

end Sys2Proof.Machine
end

