-- ==== Sys2Proof/Machine/Radio.lean ====
section
/-!
DEFINITION. Radio ports (07_radio_ports.md R256 to R305): channels, medium access, duty and dwell accounting, sleepy endpoints,
connections, and reception.
-/

namespace Sys2Proof.Machine
open Sys2Proof

/-! Configuration. -/

/-- LISTEN in counts (R300). -/
def State.listen (s : State) (p : Nat) : Nat := max 1 (field (s.rg (portBase p + 0x208)) 23 16) * usCounts 50

/-- The port retunes (R258). -/
def State.tune (s : State) (p c : Nat) : State :=
  if (s.port p).chan = c then s else (s.onPort p (fun x => { x with chan := c })).emit (s.setChan p c)

/-! Duty and dwell (R277, R280). -/

/-- Microseconds of an airtime in counts, rounded up. -/
def airUs (c : Nat) : Nat := (c + 399) / 400

/-- Transmit time of the last 3,600 complete bins and the present one, in us. (DEDUCED, log 56) -/
def Port.dutyUs (x : Port) : Nat := x.bins.foldl (· + ·) 0 + x.bin

/-- A tenth of a per cent of 3,600 s in us, times DUTY_PM (R300). (DEDUCED, log 56) -/
def State.dutyBudget (s : State) (p : Nat) : Nat := field (s.rg (portBase p + 0x208)) 9 0 * 3600000

/-- In LBT mode a transmission of `air` us would take the duty used above `pct` % of DUTY_PM (R277). -/
def State.dutyOver (s : State) (p air pct : Nat) : Bool :=
  !s.hopping p && decide (s.dutyBudget p * pct < ((s.port p).dutyUs + air) * 100)

/-- DWELL_WIN in counts (R301). -/
def State.dwellWin (s : State) (p : Nat) : Nat := sec (field (s.rg (portBase p + 0x20C)) 23 16)

/-- Transmit time on a channel within the DWELL_WIN seconds before `t`, in us (R280): of each transmission the part that lies in
them. -/
def State.dwellUs (s : State) (p c t : Nat) : Nat :=
  ((s.port p).dwell.filter (fun (d : Nat × Nat × Nat) => decide (d.1 = c))).foldl
    (fun a (d : Nat × Nat × Nat) => a + airUs (d.2.2 - max d.2.1 (t - s.dwellWin p))) 0

/-- In hopping mode a transmission of `air` us from `t` on would take the present channel above 400 ms within the DWELL_WIN that ends
with it (R280). -/
def State.dwellOver (s : State) (p air t : Nat) : Bool :=
  s.hopping p && decide (400000 < s.dwellUs p (s.port p).chan (t + usCounts air) + air)

/-- DUTY_LIMIT begins at 90 % of DUTY_PM and ends below 80 % (R305). -/
def State.dutyAlarm (s : State) (p : Nat) : State :=
  let x := s.port p
  let u := x.dutyUs * 100
  let b := s.dutyBudget p
  if s.hopping p then s
  else if !x.dutyAlarm && decide (b * 90 ≤ u) then
    (s.onPort p (fun x => { x with dutyAlarm := true })).raise Ev.DUTY_LIMIT .warning (unit := p) (lasting := true)
  else if x.dutyAlarm && decide (u < b * 80) then
    (s.onPort p (fun x => { x with dutyAlarm := false })).endEv Ev.DUTY_LIMIT (fun e => e.unit = p)
  else s

/-! Sending. -/

/-- A frame held under R277 is held no longer when it starts or comes back. -/
def Port.unhold (x : Port) (i : TxItem) : Option (TxItem × Nat) :=
  x.dutyHeld.filter (fun (h : TxItem × Nat) => !decide (h.1.frame.dst = i.frame.dst ∧ h.1.frame.seq = i.frame.seq))

/-- A transmission of `pre` preamble octets starts at `t` (R258, R262, R264): SET_PHY where the preamble changes, TX_LOAD and TX_ARM,
and FPn_TXEN rises. A reception in progress is lost (R274). -/
def State.radSend (s : State) (p : Nat) (i : TxItem) (pre t : Nat) : State :=
  let fr := s.stampBeacon (t + s.octets p (pre + 2)) (s.txNs p) i.frame
  let set := if (s.port p).phyPre = pre then [] else [s.setPhy p pre]
  let s := (s.radCnt p 0).emitAll
    (set ++ [.xcvr p 0x20 (beBytes 2 fr.len ++ fr.bytes), .xcvr p 0x21 [], .frame p pre fr])
  s.onPort p (fun x =>
    { x with
      onAir := some ({ i with frame := fr }, t + s.radAir p pre fr.len), airFrom := t, phyPre := pre, rx := none, busyListens := 0,
      listenWait := 0, dutyHeld := x.unhold i,
      dwell := x.dwell.filter (fun (d : Nat × Nat × Nat) => decide (t < d.2.2 + s.dwellWin p)) })

/-- A frame counts as one more transmission as it starts (R273). -/
def State.radFirst (s : State) (p : Nat) (i : TxItem) (pre t : Nat) : State :=
  let s := if 0 < i.sent then s.radCnt p 1 else s
  s.radSend p { i with sent := i.sent + 1 } pre t

/-- W of a connection (R291): SLEEPY_PPM x CONN_INT x (1 + missed) + 0.2 ms, capped at CONN_WIN / 4. -/
def State.connW (s : State) (p : Nat) (c : Conn) : Nat :=
  let ppm := field (s.rg (portBase p + 0x204)) 7 0
  min ((ppm * sec c.connInt * (1 + c.missed) + 999999) / 1000000 + usCounts 200) (s.connWin p / 4)

/-- A transmission from `t` to `e` would reach into a connection event window, the running one or the next (R282). -/
def State.connClash (s : State) (p t e : Nat) : Bool :=
  (s.port p).conns.any (fun (c : Conn) =>
    let a := c.anchor + sec c.connInt
    s.runs p t c || decide (t < a + s.connWin p ∧ a < e + s.connW p c))

/-- Nothing of higher precedence holds the transceiver, and it is neither sending nor waiting (R274, R282). -/
def Port.free (x : Port) : Bool :=
  x.onAir.isNone && x.ackWait.isNone && x.ackOwed.isNone && x.rep.isNone && x.rx.isNone && x.pendTo.isNone

/-- The first queued frame that the port sends by its medium access alone: not to a sleepy endpoint (R284). -/
def Port.next (x : Port) : Option TxItem := x.queue.find? (fun (i : TxItem) => i.sleepy.isNone)

/-- A frame leaves the transmit queue. -/
def State.unqueue (s : State) (p : Nat) (i : TxItem) : State := s.onPort p (fun x => { x with queue := x.queue.erase i })

/-- A frame waits for the duty budget (R277). -/
def State.dutyHold (s : State) (p : Nat) (i : TxItem) (t : Nat) : State :=
  s.onPort p (fun x => { x with dutyHeld := some (x.dutyHeld.getD (i, t)) })

/-- The next queued frame starts at `t` on the port's channel unless a connection window, the duty budget or the dwell limit holds it
(R276 to R278, R280, R282). -/
def State.radStart (s : State) (p t : Nat) : State :=
  match (s.port p).next with
  | none => s
  | some i =>
    let x := s.port p
    let pre := s.preamble p
    let air := s.radAir p pre i.frame.len
    if !x.free || x.draining || x.backoff.isSome || s.connClash p t (t + air) then s
    else if s.dutyOver p (airUs air) 90 then s.dutyHold p i t
    else
      let s := s.tune p (s.baseChan p t)
      if s.dwellOver p (airUs air) t then s.radCnt p 10 else (s.unqueue p i).radFirst p i pre t

/-- In hopping mode a frame starts as soon as the port is free (R278). -/
def State.radKick (s : State) (p t : Nat) : State :=
  if s.isRadio p && s.portOn p && !s.portBlocked p && s.hopping p then s.radStart p t else s

/-- Outside transmissions, receptions and connection events the port is on its channel (R276, R278). -/
def State.rest (s : State) (p t : Nat) : State :=
  let s := if s.isRadio p && s.portOn p && !s.portBlocked p && (s.port p).free && !s.inEvent p t then
      s.tune p (s.baseChan p t) else s
  s.radKick p t

/-- RADIO_TX_DONE (R259, R271, R277): a transmission ends at `t`. -/
def execRadioTxDone (p t : Nat) (s : State) : Host.Outcome State Fault Refusal :=
  let s := s.reach t
  .next (
    if !s.isRadio p || (s.port p).onAir.isNone then s
    else (((s.irq p t).txEnd p t).dutyAlarm p).rest p t)

/-- A listen that ends at `t` was busy: a sample at or above LBT_DBM, or a frame whose SFD arrived in it (R274, R275). -/
def State.listenBusy (s : State) (p : Nat) (busy : Bool) (t : Nat) : Bool :=
  busy || (s.port p).rx.isSome || (match (s.port p).sfdAt with
    | some a => decide (t < a + s.listen p)
    | none => false)

/-- A busy listen (R275): the port waits 1 to 8 LISTEN and listens again, and after the eighth in a row frame `i`, which `drop` takes
from where it waits, fails with CHANNEL_BUSY. -/
def State.busyListen (s : State) (p : Nat) (i : TxItem) (t : Nat) (drop : Port → Port) : State :=
  let n := (s.port p).busyListens + 1
  if n < 8 then
    (s.onPort p (fun x => { x with busyListens := n, listenWait := t + (s.drawn 7 + 2) * s.listen p })).used
  else
    ((s.onPort p (fun x => { drop x with busyListens := 0, listenWait := 0, dutyHeld := x.unhold i })).radCnt p 8).giveBack p i
      .channelBusy

/-- LBT_LISTEN_END (R274, R275, R277, R282): an LBT listen ends at `t`; `busy` says whether a sample was at or above LBT_DBM. -/
def execLbtListenEnd (p : Nat) (busy : Bool) (t : Nat) (s : State) : Host.Outcome State Fault Refusal :=
  let s := s.reach t
  .next (
    let x := s.port p
    if !s.isRadio p || !s.portOn p || s.portBlocked p || s.hopping p || decide (t < x.listenWait) then s
    else match x.next with
      | none => s
      | some i =>
        let s := s.emit (.xcvr p 0x32 [])
        if s.listenBusy p busy t then s.busyListen p i t (fun x => { x with queue := x.queue.erase i })
        else s.radStart p t)

/-- RADIO_ACK_WAIT_EXPIRY (R271, R273). -/
def execRadioAckWaitExpiry (p t : Nat) (s : State) : Host.Outcome State Fault Refusal :=
  let s := s.reach t
  .next (if s.isRadio p then (s.ackExpire p t).rest p t else s)

/-- RADIO_RETRY_BACKOFF (R273): B x 5 ms have passed; the frame is sent again under the port's medium access. -/
def execRadioRetryBackoff (p t : Nat) (s : State) : Host.Outcome State Fault Refusal :=
  let s := s.reach t
  .next (
    match (s.port p).backoff with
    | none => s
    | some i =>
      if !s.isRadio p || decide (t < i.since + msCounts (5 * i.backoff)) then s
      else (s.onPort p (fun x => { x with backoff := none, queue := { i with backoff := 0 } :: x.queue })).radKick p t)

/-- DUTY_BIN_TICK (R277, R305): 1 s bins close, as many as seconds have passed; a transmission in progress has counted in them so
far. (DEDUCED, log 56) -/
def execDutyBinTick (p t : Nat) (s : State) : Host.Outcome State Fault Refusal :=
  let s := s.reach t
  let k := (t - (s.port p).binAt) / sec 1
  .next (
    if !s.isRadio p || s.hopping p || decide (k = 0) then s
    else
      (s.onPort p (fun x =>
        let at_ := x.binAt + k * sec 1
        let y := x.airtime false at_
        { y with bins := (List.replicate (min 3600 (k - 1)) 0 ++ y.bin :: x.bins).take 3600, bin := 0, binAt := at_ })).dutyAlarm p)

/-- DUTY_HOLD_EXPIRY (R277): a frame held for 10 s comes back. -/
def execDutyHoldExpiry (p t : Nat) (s : State) : Host.Outcome State Fault Refusal :=
  let s := s.reach t
  .next (
    match (s.port p).dutyHeld with
    | some (h, a) =>
      if t < a + sec 10 then s
      else
        let done := s.onPort p (fun x => { x with dutyHeld := none })
        match (s.port p).queue.find? (fun (i : TxItem) => decide (i.frame.dst = h.frame.dst ∧ i.frame.seq = h.frame.seq)) with
        | some i => (done.unqueue p i).giveBack p i .dutyLimit
        | none => done
    | none => s)

/-- A launch-time frame skips the connection events that it overlaps (R282). -/
def State.skipEvents (s : State) (p t : Nat) : State :=
  let n := ((s.port p).conns.filter (s.runs p t)).length
  let s := s.onPort p (fun x => { x with
    conns := x.conns.map (fun (c : Conn) => if s.runs p t c then { c with windowOpen := false, engaged := false } else c) })
  (upTo n).foldl (fun s _ => s.radCnt p 12) s

/-- LAUNCH_TIME_REACHED (R197, R199, R237, R268, R274, R275, R277, R280, R282) at a radio port. `busy`: the LBT listen before it was
busy. (DEDUCED, log 59) -/
def State.radLaunch (s : State) (p t : Nat) (busy : Bool) : State :=
  let x := s.port p
  match x.launch with
  | [] => s
  | i :: _ =>
    let at_ := i.launch.getD 0
    if t < at_ then s
    else
      let gone := s.popLaunch p t
      let miss := gone.launchMiss p i
      if !s.sys.heddle then gone.giveBack p i .noClaim
      else if at_ + lateBy < t ∨ s.portBlocked p then miss
      else
        let pre := s.preamble p
        let air := airUs (s.radAir p pre i.frame.len)
        let from_ := at_ - s.octets p (pre + 2) - s.txNs p * 2 / 5
        if !(x.onAir.isNone && x.ackOwed.isNone && x.rx.isNone && x.ackWait.isNone) ||
            (s.listenBusy p busy from_ && !s.hopping p) then miss
        else if s.dutyOver p air 90 then miss
        else
          let gone := (gone.skipEvents p t).tune p (s.baseChan p t)
          if gone.dwellOver p air t then (gone.launchMiss p i).radCnt p 10 else gone.radFirst p i pre from_

/-- LAUNCH_TIME_REACHED (R197, R199): on a host port, a field port whose gate is closed, or a radio port; a PLC port's frame
waits for its transmit instant unless the port is blocked (R237, R249). -/
def execLaunchTimeReached (host : Bool) (p t : Nat) (busy : Bool) (s : State) : Host.Outcome State Fault Refusal :=
  let s := s.reach t
  .next (
    if host then
      match s.hostQueue p with
      | [] => s
      | x :: r =>
        if t < x.at_ then s
        else if x.at_ + lateBy < t ∧ !x.asap then (s.setHostQueue p r).emit (.returned (.producer x.tag) .launchLate)
        else (s.setHostQueue p r).emit (.hostFrame p x.tag)
    else if s.isRadio p then s.radLaunch p t busy
    else if s.isPlc p && s.portBlocked p then s.launchBlocked p t
    else s)

/-! Hopping. -/

/-- HOP_SLOT_START (R278, R280, R281): the port takes the new map from the switch slot on, and retunes unless it is sending,
receiving or in a connection event. -/
def execHopSlotStart (p t : Nat) (s : State) : Host.Outcome State Fault Refusal :=
  let s := s.reach t
  .next (
    if !s.isRadio p || !s.portOn p || !s.hopping p then s
    else
      let s := match (s.port p).newMap with
        | some (m, sw) => if sw ≤ s.hopSlot p t then s.onPort p (fun x => { x with map := m, newMap := none }) else s
        | none => s
      s.rest p t)

/-- The channels of R263 by band and mode: the highest channel number. -/
def planTop (band mode : Nat) : Option Nat :=
  match band, mode with
  | 0, 0 => some 33
  | 0, 1 => some 16
  | 1, 0 => some 128
  | 1, 2 => some 63
  | _, _ => none

/-- The numbers from 1 to n - 1 coprime with n. (DESIGN CHOICE, log 57) -/
def coprimes (n : Nat) : List Nat := (upTo n).filter (fun h => decide (1 ≤ h ∧ Nat.gcd h n = 1))

/-- HOP as the port chooses it (R290): any number from 1 to N_used - 1 coprime with N_used (a free choice); 0 for one channel.
(DESIGN CHOICE, log 57) -/
def State.chooseHop (s : State) (n : Nat) : Nat :=
  let l := coprimes n
  if n ≤ 1 then 0 else (l[s.drawn (l.length - 1)]?).getD 1

/-- Each connection of the port learns a new map, in force at its event 6 events later (R293). (DESIGN CHOICE, log 57) -/
def State.mapConns (s : State) (p m : Nat) : State :=
  let n := (chansOf (s.chBase p) m).length
  (s.port p).conns.foldl (fun s (c : Conn) =>
    let h := s.chooseHop n
    let ev := (c.event + 6) % 65536
    let s := s.used.onPort p (fun x => { x with
      conns := x.conns.map (fun (d : Conn) => if d.ep = c.ep then { d with newMaps := d.newMaps.filter (fun y => y.2.2 ≠ ev) ++ [(m, h, ev)] } else d) })
    match s.sys.image.bind (fun im => im.ep c.ep) with
    | some e => s.cmdTo e.eui (.connMap m h ev)
    | none => s) s

/-- A frame is held for an endpoint's next uplink (R281, R286). -/
def State.holdFrame (s : State) (p : Nat) (i : TxItem) : State :=
  let y := s.numbered p i.frame
  y.1.onPort p (fun x => { x with held := x.held ++ [{ i with frame := y.2, sleepy := y.1.sleepyAt p i.frame.dst }] })

/-- MAP_SET for each sleepy endpoint of the cell, as a pending frame at its next uplink (R281). -/
def State.mapSets (s : State) (p m sw : Nat) : State :=
  let h := field (s.rg (portBase p + 0x20C)) 31 24
  ((s.cell p).filter (fun (x : Nat × NodeRec) => x.2.sleepy)).foldl (fun s (x : Nat × NodeRec) =>
    let hd : NetHdr :=
      { down := true, ridx := if x.2.route = [] then 0 else 1, xfer := false, hops := x.2.route.length + 1, cost := 0,
        node := x.1, route := x.2.route, target := 0 }
    s.holdFrame p (txItem (linkFrame .command (some (firstHop x.2.route x.1)) (s.portAddr p)
      (.command hd (.mapSet m h sw))) .net)) s

/-- The effect of a write of a port's channel map (R279, R281, R293, R302). -/
def State.chmapEff (p t : Nat) (r : Requester) (s : State) (lo : Word) : State × Status :=
  let hi := s.heldOr r (portBase p + 0x214) (s.rg (portBase p + 0x214))
  let m := lo.toNat + 2 ^ 32 * hi.toNat
  let cfg := s.radCfg p
  let cs := chansOf (s.chBase p) m
  let h := s.rg (portBase p + 0x20C)
  let inPlan := match planTop (field cfg 18 18) (field cfg 20 19) with
    | some top => cs.all (fun c => decide (c ≤ top))
    | none => false
  if !inPlan || cs.isEmpty then (s, .denied)
  else if s.hopping p && decide (cs.length < field h 7 0 ∨ Nat.gcd cs.length (field h 31 24) ≠ 1) then (s, .denied)
  else if s.hopping p && (s.port p).newMap.isSome then (s, .busy)
  else
    let s := ((s.setReg (portBase p + 0x210) lo).setReg (portBase p + 0x214) hi).dropHeld r (portBase p + 0x214)
    let s := s.mapConns p m
    if s.hopping p then
      let sw := (s.stampNs (t + sec 600) + s.hopSlotNs p - 1) / s.hopSlotNs p
      let s := s.onPort p (fun x => { x with newMap := some (m, sw), mapAt := some t })
      let s := s.flood [p] (.mapUpdate m (field h 31 24) sw) t
      (s.mapSets p m sw, .ok)
    else (s.onPort p (fun x => { x with map := m }), .ok)

/-- CHMAP_WRITE (R302): a write of the low word of RPT_p_RAD_CHMAP at counter value `t`. -/
def execChmapWrite (r : Requester) (p : Nat) (lo : Word) (t : Nat) (s : State) : Host.Outcome State Fault Refusal :=
  let s := s.reach t
  .next (s.writeRow r (0x800000 + portBase p + 0x210) lo (State.chmapEff p t r))

/-- MAP_UPDATE_TIMER (R281): every BEACON_S until the switch slot, another MAP_UPDATE flood. -/
def execMapUpdateTimer (p t : Nat) (s : State) : Host.Outcome State Fault Refusal :=
  let s := s.reach t
  let x := s.port p
  .next (match x.newMap, x.mapAt with
    | some (m, sw), some a =>
      if !s.portOn p || decide (t < a + sec s.beaconS) || decide (sw ≤ s.hopSlot p t) then s
      else (s.onPort p (fun x => { x with mapAt := some t })).flood [p]
        (.mapUpdate m (field (s.rg (portBase p + 0x20C)) 31 24) sw) t
    | _, _ => s)

/-! Sleepy endpoints (R283 to R288). -/

/-- The predicted sample of a sleepy endpoint that a cover started at `t` is for, and its uncertainty, in counts: the first
sample after `t`, at least 20 ms after the frame became ready. -/
def State.sample_ (s : State) (p : Nat) (i : TxItem) (eui wakeMs t : Nat) : Nat × Nat :=
  let last := (s.node eui).uplink
  let w := msCounts wakeMs
  let from_ := max (t + 1) (i.since + msCounts 20)
  let k := if w = 0 then 0 else (from_ - last + w - 1) / w
  let at_ := last + k * w
  let ppm := field (s.rg (portBase p + 0x204)) 7 0
  let u := if s.ircFlag then w / 2 else min ((ppm * (at_ - last) + 999999) / 1000000 + msCounts 1) (w / 2)
  (at_, u)

/-- A frame goes to the head of the transmit queue again, ready from `t` on. -/
def State.requeue (s : State) (p : Nat) (i : TxItem) (t : Nat) : State :=
  s.onPort p (fun x => { x with queue := { i with since := t } :: x.queue })

/-- SLEEPY_COVER_START (R274, R275, R277, R280, R282, R284 to R286): the time S - U of the first queued frame to sleepy endpoint `ep`
has come; `busy`: the LBT listen before it was busy. -/
def execSleepyCoverStart (p ep : Nat) (busy : Bool) (t : Nat) (s : State) : Host.Outcome State Fault Refusal :=
  let s := s.reach t
  .next (
    let x := s.port p
    match x.queue.find? (fun (i : TxItem) => i.sleepy = some ep), s.sys.image.bind (fun im => im.ep ep) with
    | some i, some c =>
      let su := s.sample_ p i c.eui c.wakeMs t
      if !s.isRadio p || !s.portOn p || s.portBlocked p || x.draining || !({ x with rx := none } : Port).free ||
          decide (t + su.2 < su.1) || decide (t < x.listenWait) then s
      else if !s.hopping p && s.listenBusy p busy t then s.busyListen p i t (fun x => { x with queue := x.queue.erase i })
      else if x.rx.isSome then s
      else
        let pre := s.preamble p
        let long := 2 * su.2 * s.radDiv p ≤ (1000 - pre) * 64000
        if !long ∧ 127 < i.frame.len then (s.unqueue p i).onPort p (fun x => { x with held := x.held ++ [i] })
        else
          let n := if long then (2 * su.2 * s.radDiv p + 63999) / 64000 + pre else pre
          let air := s.radAir p n i.frame.len
          if s.connClash p t (t + air) then s
          else if s.dutyOver p (airUs air) 90 then s.dutyHold p i t
          else
            let s := s.tune p (s.baseChan p su.1)
            if s.dwellOver p (airUs air) t then s.radCnt p 10
            else if long then (s.unqueue p i).radFirst p i n t
            else
              let j := { i with sent := i.sent + 1 }
              let s := if 0 < i.sent then s.radCnt p 1 else s
              let s := (s.unqueue p i).onPort p (fun x => { x with rep := some ⟨j, 1, su.1 + su.2⟩ })
              (s.radCnt p 15).radSend p j pre t
    | _, _ => s)

/-- REPEAT_COPY_GAP (R282, R285): the gap after a copy ends at `t` without delivery; `energy`: energy reached LBT_DBM in it without an
ACK SFD. -/
def execRepeatCopyGap (p : Nat) (energy : Bool) (t : Nat) (s : State) : Host.Outcome State Fault Refusal :=
  let s := s.reach t
  .next (
    let x := s.port p
    match x.rep, x.ackWait with
    | some r, some (_, d) =>
      if t < d ∨ x.ackPossible d then s
      else
        let s := s.onPort p (fun x => { x with ackWait := none })
        let stop := s.onPort p (fun x => { x with rep := none })
        let air := s.radAir p (s.preamble p) r.item.frame.len
        if x.draining then stop.giveBack p r.item .noAck
        else if energy then stop.requeue p { r.item with sent := r.item.sent - 1 } t
        else if r.until_ + s.radAckWait p < d then
          if r.item.spent then (stop.giveBack p r.item .noAck).netCheck t
          else
            (stop.onPort p (fun x =>
              { x with backoff := some { r.item with backoff := s.retryDraw r.item.sent, since := t } })).used
        else if s.connClash p t (t + air) then stop.requeue p r.item t
        else if s.dutyOver p (airUs air) 90 then (stop.requeue p r.item t).dutyHold p r.item t
        else if s.dwellOver p (airUs air) t then (stop.requeue p r.item t).radCnt p 10
        else
          let s := s.onPort p (fun x => { x with rep := some { r with copies := r.copies + 1 } })
          (s.radCnt p 15).radSend p r.item (s.preamble p) t
    | _, _ => s)

/-- The first frame that waits for a node at a port, wherever it waits (R270, R287). -/
def Port.pendingFor (x : Port) (eui : Nat) : Option TxItem :=
  (x.held ++ x.queue ++ x.backoff.toList ++ (x.rep.map (fun (r : RepeatSeq) => r.item)).toList).find?
    (fun (i : TxItem) => decide (i.frame.dst = some eui))

/-- A frame leaves the place where it waits. -/
def Port.without (x : Port) (i : TxItem) : Port :=
  { x with
    held := x.held.erase i, queue := x.queue.erase i, backoff := if x.backoff = some i then none else x.backoff,
    rep := if (x.rep.map (fun (r : RepeatSeq) => r.item)) = some i then none else x.rep }

/-- The connection of a node at a port whose window is running at `t`. -/
def State.connNow (s : State) (p eui t : Nat) : Option Conn :=
  match s.epIdx eui with
  | none => none
  | some ep => (s.port p).conns.find? (fun (c : Conn) => decide (c.ep = ep ∧ t < c.anchor + s.connWin p) && s.runs p t c)

/-- PENDING_FRAME_SEND (R274, R275, R282, R287, R292): after the ACK with PENDING ended, the pending frame goes with PREAMBLE octets:
inside a connection event without LBT while it ends in the window, else after one LISTEN; after 40 ms it falls back to R284 and
R285, and a connected endpoint's frame waits for its next event. `busy`: the LISTEN in LBT mode was busy. -/
def execPendingFrameSend (p : Nat) (busy : Bool) (t : Nat) (s : State) : Host.Outcome State Fault Refusal :=
  let s := s.reach t
  .next (
    let x := s.port p
    match x.pendTo with
    | none => s
    | some (d, e) =>
      if !s.isRadio p || !s.portOn p || x.onAir.isSome || decide (t < e) then s
      else
        let done := s.onPort p (fun x => { x with pendTo := none })
        match x.pendingFor d with
        | none => done.rest p t
        | some i =>
          let pre := s.preamble p
          let air := s.radAir p pre i.frame.len
          let out := done.onPort p (fun x => x.without i)
          let wait := out.onPort p (fun x => { x with held := i :: x.held })
          let go := out.radFirst p i pre t
          match s.connNow p d t with
          | some c =>
            if s.portBlocked p || decide (c.anchor + s.connWin p < t + air) then wait
            else if x.ackOwed.isSome || x.rx.isSome then s
            else if s.dutyOver p (airUs air) 90 then wait
            else if s.dwellOver p (airUs air) t then wait.radCnt p 10
            else go
          | none =>
            let back := if s.connected p (some d) then wait else out.requeue p i t
            if e + msCounts 40 ≤ t ∨ s.portBlocked p then back.rest p t
            else if x.ackOwed.isSome || decide (t < max (if s.hopping p then e else e + s.listen p) x.listenWait) then s
            else if !s.hopping p && s.listenBusy p busy t then s.busyListen p i t (fun x => { x.without i with pendTo := none })
            else if x.rx.isSome || s.connClash p t (t + air) || s.dutyOver p (airUs air) 90 then s
            else if s.dwellOver p (airUs air) t then s.radCnt p 10
            else go)

/-! Connections (R289 to R294). -/

/-- The channel of a connection's present event (R290). -/
def State.connChan (s : State) (p : Nat) (c : Conn) : Nat :=
  let l := chansOf (s.chBase p) c.map
  (l[(c.chOfs + c.event * c.hop) % l.length]?).getD 0

/-- A connection record changes. -/
def State.onConn (s : State) (p ep : Nat) (f : Conn → Conn) : State :=
  s.onPort p (fun x => { x with conns := x.conns.map (fun (c : Conn) => if c.ep = ep then f c else c) })

/-- A connection record as its event number `n` with its anchor at `a` comes: a new map takes effect at the event it names (R290,
R293). -/
def Conn.toEvent (c : Conn) (a n : Nat) : Conn :=
  let c := { c with anchor := a, event := n, windowOpen := false, engaged := false }
  match c.newMaps with
  | (m, h, ev) :: r => if ev = n then { c with map := m, hop := h, newMaps := r } else c
  | [] => c

/-- CONN_EVENT (R282, R290 to R293): the next event of an endpoint's connection comes: the receiver opens on the event's channel W
before the anchor, and the event counter advances. A reception on another channel is abandoned, with IDLE and RX_ON.
(DESIGN CHOICE, log 57) -/
def execConnEvent (p ep t : Nat) (s : State) : Host.Outcome State Fault Refusal :=
  let s := s.reach t
  .next (
    match (s.port p).conns.find? (fun (c : Conn) => decide (c.ep = ep)) with
    | none => s
    | some c =>
      let a := c.anchor + sec c.connInt
      if !s.isRadio p || !s.portOn p || decide (t + s.connW p c < a) then s
      else
        let c := c.toEvent a ((c.event + 1) % 65536)
        let s := s.onConn p ep (fun _ => c)
        let x := s.port p
        if s.portBlocked p then (s.radCnt p 11).onConn p ep (fun c => { c with missed := c.missed + 1 })
        else if x.onAir.isSome then s.radCnt p 12
        else
          let ch := s.connChan p c
          let cut := x.rx.isSome && decide (x.chan ≠ ch)
          let s := if cut then ((s.onPort p (fun x => { x with rx := none })).radCnt p 13).emit (.xcvr p 0x3F []) else s
          let s := (s.onConn p ep (fun c => { c with windowOpen := true })).tune p ch
          if cut then s.emit (.xcvr p 0x30 []) else s)

/-- CONN_EVENT_MISSED (R291): the receive window closes without an SFD. -/
def execConnEventMissed (p ep t : Nat) (s : State) : Host.Outcome State Fault Refusal :=
  let s := s.reach t
  .next (
    match (s.port p).conns.find? (fun (c : Conn) => decide (c.ep = ep)) with
    | none => s
    | some c =>
      if !c.windowOpen || decide (t < c.anchor + s.connW p c + s.octets p (s.preamble p + 2)) then s
      else ((s.radCnt p 11).onConn p ep (fun c => { c with windowOpen := false, missed := c.missed + 1 })).rest p t)

/-- CONN_SUPERVISION_TIMEOUT (R294): no valid frame from the endpoint for its supervision time. -/
def execConnSupervisionTimeout (p ep t : Nat) (s : State) : Host.Outcome State Fault Refusal :=
  let s := s.reach t
  .next (
    match (s.port p).conns.find? (fun (c : Conn) => decide (c.ep = ep)) with
    | none => s
    | some c =>
      if t < c.heard + sec c.supervision then s
      else
        let s := s.onPort p (fun x => { x with conns := x.conns.filter (fun (c : Conn) => c.ep ≠ ep) })
        (s.radCnt p 14).raise Ev.CONN_LOST .info (unit := p) (args := [aIdx ep]) (sc := .endpoint ep))

/-! Receiving. -/

/-- RADIO_SFD_RECEIVED (R193, R259, R267, R269, R274, R291): an SFD interrupt stamps an incoming frame; none is received while
sending. An SFD in an open connection window ends the wait, and the event runs. -/
def execRadioSfdReceived (p t : Nat) (s : State) : Host.Outcome State Fault Refusal :=
  let s := s.reach t
  .next (
    if !s.isRadio p || !s.portHears p || (s.port p).onAir.isSome then s
    else (s.irq p t).onPort p (fun x => { x with
      rx := some ⟨t, some t, some (s.portStamp p t), none, none, 0⟩, sfdAt := some t,
      conns := x.conns.map (fun (c : Conn) =>
        if c.windowOpen then { c with windowOpen := false, engaged := true, missed := 0 } else c) }))

/-- The quality value of an RSSI in dBm: linear from -120 dBm to -35 dBm (R273). -/
def rssiQuality (rssi : Int) : Nat := (min 255 (max 0 (3 * (rssi + 120)))).toNat

/-- RADIO_FRAME_RECEIVED (R259, R264, R267, R269 to R273, R286, R294, R309 to R331): an RX_DONE interrupt; RX_READ gives the frame
`f` with its RSSI; `fcsOk` whether its FCS holds. Its end is the stamp plus 2 + L octets. (DEDUCED, log 54; DESIGN CHOICE,
log 142) (DEDUCED, log 54; DESIGN CHOICE, log 142) -/
def execRadioFrameReceived (p : Nat) (f : Frame) (fcsOk : Bool) (rssi : Int) (t : Nat) (s : State) :
    Host.Outcome State Fault Refusal :=
  let s := s.reach t
  .next (
    if !s.isRadio p || !s.portHears p then s
    else match (s.port p).rx.bind (fun (r : Rx) => r.det.bind (fun d => r.stamp.map (fun st => (d, st)))) with
      | none => s
      | some (det, st) =>
        let s := ((s.irq p t).onPort p (fun x => { x with rx := none })).emit (.xcvr p 0x31 [])
        let fin := st + s.octets p (2 + f.len)
        let s :=
          if f.len < 15 ∨ 1280 < f.len then s.radCnt p 4
          else if !fcsOk then s.radCnt p 5
          else if f.dst.isSome && decide (f.dst ≠ some (s.portAddr p)) then s.radCnt p 6
          else match f.type with
            | .reserved _ => s
            | .ack => (s.radCnt p 3).takeAck p f (rssiQuality rssi) st det fin
            | _ => (s.radCnt p 3).accept p f (rssiQuality rssi) st fin
        (s.ackExpire p t).rest p t)

/-- RADIO_RX_ERR (R259, R269). -/
def execRadioRxErr (p t : Nat) (s : State) : Host.Outcome State Fault Refusal :=
  let s := s.reach t
  .next (
    if !s.isRadio p || !s.portHears p then s
    else ((((s.irq p t).onPort p (fun x => { x with rx := none })).radCnt p 4).ackExpire p t).rest p t)

/-- RADIO_ACK_TURNAROUND (R270, R277, R280, R287, R292): 1 ms after an accepted frame ended, its ACK is sent, inside a connection
event only where it ends in the window. -/
def execRadioAckTurnaround (p t : Nat) (s : State) : Host.Outcome State Fault Refusal :=
  let s := s.reach t
  .next (
    let x := s.port p
    match x.ackOwed with
    | none => s
    | some a =>
      if !s.isRadio p || decide (t < a.notBefore) || x.onAir.isSome then s
      else
        let s := s.onPort p (fun x => { x with ackOwed := none })
        let pend := s.holdsFor p a.dst
        let f := ackFrame a pend (s.portAddr p)
        let e := t + s.radAir p (s.preamble p) f.len
        let air := airUs (e - t)
        let late := match s.connNow p a.dst t with
          | some c => decide (c.anchor + s.connWin p < e)
          | none => false
        if !s.portOn p || s.portBlocked p then s
        else if late then s.rest p t
        else if s.dutyOver p air 100 then s.radCnt p 9
        else if s.dwellOver p air t then s.radCnt p 10
        else
          let waits := (s.sleepyAt p (some a.dst)).isSome || s.connected p (some a.dst)
          let s := s.radSend p (txItem f .net) (s.preamble p) t
          if pend && waits then s.onPort p (fun x => { x with pendTo := some (a.dst, e) }) else s)

end Sys2Proof.Machine
end

