-- ==== Sys2Proof/Machine/NetRows.lean ====
section
/-!
DEFINITION. NET (08_field_network.md R306 to R343) and the connection requests of fast endpoints (09_meter_sessions.md R360 to
R362).
-/

namespace Sys2Proof.Machine
open Sys2Proof

/-! Joining. -/

/-- JOIN_REQ (R313, R337): the oldest JOIN_REQ copy received is collected for the node's join decision. (DEDUCED, log 62) -/
def execJoinReq (t : Nat) (s : State) : Host.Outcome State Fault Refusal :=
  let s := s.reach t
  .next (
    match s.takeMsg (fun m => match m.frame.payload with
        | .command h (.joinReq _ sl ro _ items) => some (h, sl, ro, items)
        | _ => none) with
    | none => s
    | some (m, (h, sl, ro, items), s) =>
      let s := s.report h.node items t
      let copy := (m.port, h.route.reverse, h.cost)
      let js := if s.net.joins.any (fun (j : JoinPend) => j.eui = h.node) then
          s.net.joins.map (fun (j : JoinPend) =>
            if j.eui = h.node then { j with copies := j.copies ++ [copy], sleepy := sl, router := ro } else j)
        else s.net.joins ++ [⟨h.node, t, [copy], sl, ro⟩]
      { s with net := { s.net with joins := js } })

/-- What a collected copy offers: its recorded route, or a cheaper one over reported links (R337). -/
def State.offer (s : State) (e : Nat) (c : Nat × List Nat × Nat) : Nat × Rt :=
  let r : Rt := ⟨c.2.2, c.2.1⟩
  (c.1, (Rt.best (s.portAddr c.1) (some r) (s.bestVia c.1 e (s.backbone c.1))).getD r)

/-- The cheapest of the offers, the lower port number among equals (R337). -/
def bestOffer : List (Nat × Rt) → Option (Nat × Rt)
  | [] => none
  | x :: l => match bestOffer l with
    | none => some x
    | some y => if x.2.cost < y.2.cost ∨ (x.2.cost = y.2.cost ∧ x.1 ≤ y.1) then some x else some y

/-- JOIN_DECISION (R281, R337, R339): DISC_WIN + 10 s after its first copy a node is joined to its cheapest cell or refused.
(DEDUCED, log 62) -/
def execJoinDecision (eui t : Nat) (s : State) : Host.Outcome State Fault Refusal :=
  let s := s.reach t
  .next (
    match s.net.joins.find? (fun (j : JoinPend) => j.eui = eui) with
    | none => s
    | some j =>
      if t < j.since + sec (s.discWin + 10) then s
      else
        let s := { s with net := { s.net with joins := s.net.joins.erase j } }
        let all := j.copies.map (s.offer eui)
        let refuse := fun (reason : Nat) => match bestOffer all with
          | some (p, r) => s.cmdOn p r.path eui (.joinRefuse reason)
          | none => s
        if s.kindOf eui = 2 then (refuse 1).cntW (R.NET_CNT_k + 16)
        else match bestOffer (all.filter (fun (x : Nat × Rt) => s.cellRoom x.1 eui)) with
          | none => refuse 2
          | some (p, r) =>
            let n := s.node eui
            let s := if n.up ∧ n.home ≠ p then
                match s.epIdx eui with
                | some ep => s.endConn n.home ep 2
                | none => s
              else s
            let s := s.takeRoute p eui r
            let s := s.setNode eui { s.node eui with sleepy := j.sleepy, router := j.router }
            (s.joinAck p r.path eui).markRoutes)

/-! Reports, relays and beacons. -/

/-- NBR_REPORT (R313, R316, R324): the oldest report received updates the reported links. -/
def execNbrReport (t : Nat) (s : State) : Host.Outcome State Fault Refusal :=
  let s := s.reach t
  .next (
    match s.takeMsg (fun m => match m.frame.payload with
        | .command h (.nbrReport items) => some (h.node, items)
        | _ => none) with
    | none => s
    | some (_, (e, items), s) => (s.report e items t).netCheck t)

/-- REPORTED_LINK_DROP (R313, R316): links not refreshed within three times REPORT_H are dropped. -/
def execReportedLinkDrop (t : Nat) (s : State) : Host.Outcome State Fault Refusal :=
  let s := s.reach t
  .next (
    let life := 3 * s.reportH * hourCounts
    let s := { s with net := { s.net with
      links := s.net.links.filter (fun (l : LinkRep) => decide (t < l.at_ + life)) } }
    s.repairCells t)

/-- RELAY_MISS (R327, R328): the oldest one received; with MISSES = 3 its relay is DOWN. -/
def execRelayMiss (t : Nat) (s : State) : Host.Outcome State Fault Refusal :=
  let s := s.reach t
  .next (
    match s.takeMsg (fun m => match m.frame.payload with
        | .command _ (.relayMiss relay n) => some (relay, n)
        | _ => none) with
    | none => s
    | some (m, (relay, n), s) => if n = 3 ∧ s.kindOf relay = 1 then s.relayDown m.port relay t else s)

/-- BEACON_RECEIVED (R327, R329): the oldest beacon received; a relay's beacon resets its misses and ends its DOWN. -/
def execBeaconReceived (t : Nat) (s : State) : Host.Outcome State Fault Refusal :=
  let s := s.reach t
  .next (
    match s.takeMsg (fun m => match m.frame.payload with
        | .beacon _ => some ()
        | _ => none) with
    | none => s
    | some (m, _, s) =>
      let e := m.frame.src
      if s.kindOf e ≠ 1 then s
      else (s.onNbr m.port e (fun x => { x with beacon := some m.at_, misses := 0 })).relayUp m.port e)

/-- BEACON_MISS (R327, R328): the miss instant of a relay that port `p` watches passes without a beacon. -/
def execBeaconMiss (p eui t : Nat) (s : State) : Host.Outcome State Fault Refusal :=
  let s := s.reach t
  .next (
    match s.net.find p eui with
    | none => s
    | some (i, x) =>
      let n := s.node eui
      match x.beacon with
      | none => s
      | some b =>
        let k := x.misses + 1
        if x.kind ≠ 1 ∨ !n.up ∨ n.home ≠ p ∨ n.route ≠ [] ∨ 3 < k ∨
            t < b + k * sec s.beaconS + sec s.beaconS / 4 then s
        else
          let s := s.setNbr i { x with misses := k }
          if k = 3 then s.relayDown p eui t else s)

/-- The beacon schedule and the slot grid of port `p` are taken from zero crossings: ZC_MODE is REF, the selected domain is in FREERUN
or ACQUIRE, and the port's group has a reference (R201). (DESIGN CHOICE, log 154) -/
def State.zcGrid (s : State) (p : Nat) : Bool :=
  let st := (s.tim.dom s.tim.sel).state
  let g := s.zcGroup (p / 8)
  decide (s.zcMode = 1) && decide (st = .freerun ∨ st = .acquire) && g.valid && decide (0 < g.period)

/-- The launch time of a beacon that falls due at counter value `t` (R197, R201, R237): the first transmit instant of a half-cycle of the
group at or after `t`, or `t` itself on presented time. (DESIGN CHOICE, log 154) -/
def State.beaconLaunch (s : State) (p t : Nat) : Nat :=
  if s.zcGrid p then
    let per := (s.zcGroup (p / 8)).period
    let z : Int := (if s.isPlc p then s.zcAt p else ((s.zcGroup (p / 8)).edge : Int)) + (usCounts 200 : Nat)
    let k := (2 * ((t : Int) - z) + per - 1) / per
    (z + (max k 0 * per + 1) / 2).toNat
  else t

/-- A beacon falls due BEACON_S after the last one: in counter time while zero crossings give the schedule, else in presented time
(R201, R326). (DESIGN CHOICE, log 154) -/
def State.beaconDue (s : State) (p t : Nat) : Bool :=
  match (s.port p).beaconAt with
  | none => true
  | some a =>
    if s.zcGrid p then decide (a + sec s.beaconS ≤ t)
    else decide (s.stampNs a + s.beaconS * second ≤ s.stampNs t)

/-- BEACON_TIMER (R196, R201, R326): every BEACON_S an enabled port posts its beacon to its launch queue. -/
def execBeaconTimer (p t : Nat) (s : State) : Host.Outcome State Fault Refusal :=
  let s := s.reach t
  let x := s.port p
  .next (
    if !s.running || !s.portOn p || x.draining || !s.beaconDue p t then s
    else
      let n := (x.bseq + 1) % 256
      let s := s.onPort p (fun x => { x with bseq := n, beaconAt := some t })
      let openRound := match x.roundEnd with
        | some e => decide (t < e)
        | none => false
      let b : BeaconBody :=
        { port := p, cell := s.portAddr p, time := 0, sync := false, bseq := n, cost := 0, hops := 0, period := s.beaconS,
          accepts := decide (s.cellSize p 0 < s.cellLimit p), round := openRound }
      s.postLaunch p (txItem (linkFrame .beacon none (s.portAddr p) (.beacon b)) .net) (s.beaconLaunch p t))

/-! Recomputes and rounds. -/

/-- ROUTE_RECOMPUTE (R315 to R318): a cell that is due is recomputed, not sooner than RECOMP_MIN after its last recompute. -/
def execRouteRecompute (p t : Nat) (s : State) : Host.Outcome State Fault Refusal :=
  let s := s.reach t
  let last := Store.get (fun _ => 0) s.net.recompAt p
  .next (
    if s.routeBroken p then s.recompute p t
    else if s.net.recompDue.contains p ∧ (last = 0 ∨ last - 1 + sec (field (s.rg R.NET_TIME) 19 12) ≤ t) then
      s.recompute p t
    else s)

/-- DISCOVERY_ROUND_TIMER (R332, R336, R338, R339): every DISC_PERIOD a port opens a discovery round. -/
def execDiscoveryRoundTimer (p t : Nat) (s : State) : Host.Outcome State Fault Refusal :=
  let s := s.reach t
  let due := match (s.port p).roundAt with
    | none => true
    | some a => decide (a + sec (field (s.rg R.NET_CFG) 15 0) ≤ t)
  .next (if s.running && due then s.openRounds [p] t else s)

/-- The effect of a write of NET_CTRL (R316, R336, R342): RECOMPUTE recomputes every cell, DISC opens a round on every enabled
port. -/
def State.netCtrlEff (t : Nat) (s : State) (v : Word) : State :=
  let s := if bit v 1 then (fieldPorts.filter s.portOn).foldl (fun s p => s.recompute p t) s else s
  if bit v 0 then s.openRounds fieldPorts t else s

/-- NET_CTRL_DISC (R336, R342): a write of 1 to NET_CTRL.DISC. -/
def execNetCtrlDisc (r : Requester) (t : Nat) (s : State) : Host.Outcome State Fault Refusal :=
  let s := s.reach t
  .next (s.writeRow r (0x800000 + R.NET_CTRL) 1 (okEff (State.netCtrlEff t)))

/-- NET_CTRL_RECOMPUTE (R316, R342): a write of 1 to NET_CTRL.RECOMPUTE. -/
def execNetCtrlRecompute (r : Requester) (t : Nat) (s : State) : Host.Outcome State Fault Refusal :=
  let s := s.reach t
  .next (s.writeRow r (0x800000 + R.NET_CTRL) 2 (okEff (State.netCtrlEff t)))

/-- The effect of a write of NET_NBR_IDX (R342): the entry and its age in seconds are kept as the snapshot. -/
def State.nbrSnap (s : State) (v : Word) : State :=
  let i := field v 15 0
  let x := Store.get (fun _ => Nbr.blank) s.net.nbrs i
  let s := s.setReg R.NET_NBR_IDX (BitVec.ofNat 32 i)
  { s with net := { s.net with snap := some (x, min 0xFFFFFFFF ((s.tim.cnt - x.heard) / 400000000)) } }

/-- NET_NBR_IDX_WRITE (R342). -/
def execNetNbrIdxWrite (r : Requester) (v : Word) (s : State) : Host.Outcome State Fault Refusal :=
  .next (s.writeRow r R.NET_NBR_IDX v (okEff State.nbrSnap))

/-! Floods. -/

/-- FLOOD_ORPHAN (R331, R334): the oldest ORPHAN flood received, unless it has been seen, sets its originator to REDISCOVER and
starts a discovery round on its port unless one is open there. (DEDUCED, log 61) -/
def execFloodOrphan (t : Nat) (s : State) : Host.Outcome State Fault Refusal :=
  let s := s.reach t
  .next (
    match s.takeMsg (fun m => match m.frame.payload with
        | .flood o id _ (.orphan _) => some (o, id)
        | _ => none) with
    | none => s
    | some (m, (o, id), s) =>
      let y := s.seen (m.port / 8) o id t
      if y.2 then y.1
      else
        let s := y.1
        let s := if s.kindOf o = 2 then s else (s.lose o).markRoutes
        let running := match (s.port m.port).roundEnd with
          | some e => decide (t < e)
          | none => false
        if running then s else s.openRounds [m.port] t)

/-- FLOOD_ECHO (R330, R331): the oldest flood of another kind received is checked against its group's cache; the part takes no
further action on it and never rebroadcasts it. -/
def execFloodEcho (t : Nat) (s : State) : Host.Outcome State Fault Refusal :=
  let s := s.reach t
  .next (
    match s.takeMsg (fun m => match m.frame.payload with
        | .flood _ _ _ (.orphan _) => none
        | .flood o id _ _ => some (o, id)
        | _ => none) with
    | none => s
    | some (m, (o, id), s) => (s.seen (m.port / 8) o id t).1)

/-! Connection requests (R289, R290, R360 to R362). -/

/-- Values CONN_INT may take (R289). -/
def connInts : List Nat := [1, 2, 4, 5, 10, 15, 20, 30, 60]

/-- Two periodic windows of length `w` ms at offsets `a`, `b` ms with periods `pa`, `pb` s overlap (R289). -/
def windowsMeet (w a pa b pb : Nat) : Bool :=
  let g := Nat.gcd (1000 * pa) (1000 * pb)
  let d := ((a : Int) - b) % (g : Int)
  decide (d.toNat < w ∨ g < d.toNat + w)

/-- The offset of a connection's anchors on the 60 s schedule in ms of counter time. (DESIGN CHOICE, log 57) -/
def Conn.offset (c : Conn) : Nat := c.anchor / 400000 % (1000 * c.connInt)

/-- The ends, on the schedule of interval `k` s, of the windows of a connection in the 60 s schedule (R289), in ms. -/
def Conn.ends (c : Conn) (w k : Nat) : List Nat :=
  (upTo (60 / c.connInt)).map (fun j => (c.offset + 1000 * c.connInt * j + w) % (1000 * k))

/-- An offset for a new connection of interval `k` s that no window of the port overlaps (R289): where one exists, one that starts at 0
or at the end of a window does. (DESIGN CHOICE, log 57) -/
def State.placeConn (s : State) (p k : Nat) (cs : List Conn) : Option Nat :=
  let w := s.connWin p / 400000
  let share := cs.foldl (fun (a : Nat) (c : Conn) => a + w * (60 / c.connInt)) (w * (60 / k))
  if 512 ≤ cs.length ∨ 48000 < share then none
  else (0 :: cs.flatMap (fun (c : Conn) => c.ends w k)).find?
    (fun o => cs.all (fun (c : Conn) => !windowsMeet w o k c.offset c.connInt))

/-- CONN_REQ (R289 to R294, R360 to R362): the oldest connection request received is answered with CONN_SET or CONN_REFUSE.
(DEDUCED, log 64) -/
def execConnReq (t : Nat) (s : State) : Host.Outcome State Fault Refusal :=
  let s := s.reach t
  .next (
    match s.takeMsg (fun m => match m.frame.payload with
        | .command h (.connReq k _) => some (h.node, k)
        | _ => none) with
    | none => s
    | some (_, (e, k), s) =>
      let n := s.node e
      let p := n.home
      let no := fun (reason : Nat) => (s.cntW (R.MSN_CNT_k + 36)).cmdTo e (.connRefuse reason)
      match s.sys.image.bind (fun im => im.epOf e) with
      | none => no 3
      | some c =>
        if c.cls ≠ 2 then no 3
        else if s.isPlc p then no 4
        else if n.route ≠ [] then no 2
        else
          let old := (s.port p).conns.filter (fun (x : Conn) => x.ep ≠ c.idx)
          match (connInts.filter (fun i => decide (k ≤ i))).findSome? (fun i =>
              (s.placeConn p i old).map (fun o => (i, o))) with
          | none => no 1
          | some (i, o) =>
            let s := s.onPort p (fun x => { x with conns := old })
            let map := s.chmapReg p
            let nUsed := (chansOf (s.chBase p) map).length
            let h := s.chooseHop nUsed
            let s := s.used
            let ofs := if nUsed = 0 then 0 else s.drawn (nUsed - 1)
            let s := s.used
            let per := 1000 * i
            let ms := t / 400000 + 1
            let first := (ms + (o + per - ms % per) % per) * 400000
            let sup := match s.sys.image.bind (fun im => im.port p) with
              | some pc => max pc.supervision (3 * i)
              | none => 3 * i
            let s := s.cmdTo e (.connSet 0 (s.stampNs first) i h ofs map sup (s.connWin p / 400000))
            s.onPort p (fun x => { x with conns := x.conns ++
              [{ ep := c.idx, connInt := i, anchor := first - sec i, event := 0xFFFF, hop := h, chOfs := ofs,
                 supervision := sup, missed := 0, heard := t, map := map, newMaps := [], windowOpen := false,
                 engaged := false }] }))

end Sys2Proof.Machine
end

