-- ==== Sys2Proof/Machine/Guards.lean ====
section
/-!
DEFINITION. What the DRAM controllers and Beam let through (R35, R36, R409, R417, R536, R560, R562, R603, R705, R724), and an application
core's own view of memory: its map, its caches, its DRAM windows and its user mode (R407 to R410). No row of the command table is a
core's load or store; SHT_POST and SHT_DISPATCH act on what is held here.
-/

namespace Sys2Proof.Machine
open Sys2Proof

/-! Who reaches a region of DRAM. -/

/-- Who accesses DRAM: an island's hardware, or an application core; the supervisor core counts as a core outside SLV (R413). -/
inductive Initiator where
  | island (i : Nat)
  | core (c : Nat)
  | supervisor
  deriving DecidableEq, Repr

/-- The guarded regions of DRAM. -/
inductive Guarded where
  | legalRegs
  | legalWork
  | warp
  | balance
  | beamMap
  | keyTable
  | imageCopy
  | pairRing
  | other
  deriving DecidableEq, Repr

/-- The region a DRAM offset belongs to, once the regions are placed (R159). (DESIGN CHOICE, log 145) -/
def State.regionAt (s : State) (a : Nat) : Guarded :=
  if !s.sys.placed then .other
  else match Config.dramRegion a with
    | 1 => .legalRegs
    | 2 => .legalWork
    | 3 => .warp
    | 4 => .balance
    | 5 => .beamMap
    | 6 => .keyTable
    | 7 => .imageCopy
    | 8 => .pairRing
    | _ => .other

/-- The one island whose writes a region accepts (R35, R417, R536, R562, R603, R705, R724). -/
def Guarded.owner : Guarded → Option Nat
  | .legalRegs => some 17
  | .legalWork => some 17
  | .warp => some 16
  | .balance => some 16
  | .beamMap => some 18
  | .keyTable => some 20
  | .imageCopy => some 0
  | .pairRing => some 21
  | .other => none

/-- The FOREIGN_WRITE counter of a region, where it has one (R417, R536, R562, R603). -/
def Guarded.counter : Guarded → Option Nat
  | .warp => some (R.WRP_CNT_k + 4 * 18)
  | .balance => some (R.BAL_CNT_k + 4 * 8)
  | .beamMap => some (R.BEM_CNT_k + 4 * 10)
  | .keyTable => some (R.KEY_CNT_k + 4 * 5)
  | _ => none

/-- A region of the legal boundary (R34, R35). -/
def Guarded.legal (g : Guarded) : Bool := decide (g = .legalRegs ∨ g = .legalWork)

/-- Only the owner may read the region (R35, R603). -/
def Guarded.shut (g : Guarded) : Bool := g.legal || decide (g = .keyTable)

/-- The initiator is the region's owner, or the region has none. -/
def Guarded.mine (g : Guarded) (w : Initiator) : Bool :=
  match g.owner with
  | none => true
  | some i => decide (w = .island i)

/-- A write that the controllers discard: a FAULT event for the legal regions, FOREIGN_WRITE for the others that count it. The spec
names no event for R35, so its code is free. (DESIGN CHOICE, log 145) -/
def State.foreignWrite (s : State) (g : Guarded) : State :=
  if g.legal then (s.raise (s.drawn 0xFFFF) .fault).used
  else match g.counter with
    | some a => s.cntS a
    | none => s

/-- A byte of DRAM as it stands. -/
def State.dramByte (s : State) (a : Nat) : Nat := Store.get (Config.memByte 0) s.sht.dram a

/-- A write by `w` of one byte of DRAM that lies in the region `g` (R35, R417, R536, R562, R603, R724). -/
def State.writeIn (s : State) (g : Guarded) (w : Initiator) (a v : Nat) : State :=
  if g.mine w then { s with sht := { s.sht with dram := Store.put (Config.memByte 0) s.sht.dram a (v % 256) } }
  else s.foreignWrite g

/-- A read by `w` of one byte of DRAM that lies in the region `g`; none: it is refused (R35, R603). -/
def State.readIn (s : State) (g : Guarded) (w : Initiator) (a : Nat) : Option Nat :=
  if g.mine w || !g.shut then some (s.dramByte a) else none

/-- A write of one byte of DRAM by `w`. (DESIGN CHOICE, log 145) -/
def State.dramWrite (s : State) (w : Initiator) (a v : Nat) : State := s.writeIn (s.regionAt a) w a v

/-- A read of one byte of DRAM by `w`; none: it is refused. (DESIGN CHOICE, log 145) -/
def State.dramRead (s : State) (w : Initiator) (a : Nat) : Option Nat := s.readIn (s.regionAt a) w a

/-! The legal partition (R36, R560). -/

/-- Where a write to the legal partition comes from. -/
inductive PartSource where
  | journal
  | core (c : Nat)
  | host (r : Requester)
  | internal
  deriving DecidableEq, Repr

/-- A write to the legal partition: the journal channel's is programmed by Beam (JOURNAL_RECORD_WRITE); a core takes a bus error, a
host completes with DENIED, and any other is discarded and counted (R36, R560). (DESIGN CHOICE, log 145) -/
def State.partWrite (s : State) (w : PartSource) : State :=
  match w with
  | .journal => s
  | .core c => s.emit (.busError c)
  | .host r => s.emit (.access r .denied 0)
  | .internal => s.cntS (R.BEM_CNT_k + 4 * 10)

/-! An application core's memory (R407, R408). -/

/-- The memory of core `c`. -/
def State.coreMem (s : State) (c : Nat) : CoreMem := Store.get (fun _ => CoreMem.blank) s.sht.cores c

/-- The memory of core `c` becomes `m`. -/
def State.setCoreMem (s : State) (c : Nat) (m : CoreMem) : State :=
  { s with sht := { s.sht with cores := Store.put (fun _ => CoreMem.blank) s.sht.cores c m } }

/-- What a core's physical address names (R407). -/
inductive CoreArea where
  | tcm (off : Nat)
  | csram (off : Nat)
  | port (off : Nat)
  | win (n : Nat)
  | regs (a : Nat)
  | dram (off : Nat)
  deriving DecidableEq, Repr

/-- The core memory map (R407); none: a bus error. -/
def CoreMem.area (m : CoreMem) (a : Nat) : Option CoreArea :=
  if a < 0x20000 then some (.tcm a)
  else if 0x08000000 ≤ a ∧ a < 0x08100000 then some (.csram (a - 0x08000000))
  else if 0x10000000 ≤ a ∧ a < 0x10000100 then some (.port (a - 0x10000000))
  else if 0x10001000 ≤ a ∧ a < 0x10001010 then some (.win ((a - 0x10001000) / 4))
  else if 0x40000000 ≤ a ∧ a < 0x41000000 then some (.regs (a - 0x40000000))
  else if 0x80000000 ≤ a ∧ a < 0x100000000 then
    let k := (a - 0x80000000) / 0x20000000
    some (.dram ((m.win.getD k 0 % 64) * 0x20000000 + (a - 0x80000000) % 0x20000000))
  else none

/-- How a core uses an address. -/
inductive CoreUse where
  | read
  | write
  | fetch
  deriving DecidableEq, Repr

/-- User mode may use the address so (R407, R410): it lies in TCM, cluster SRAM or a window and a PMP entry allows it. -/
def CoreMem.userMay (m : CoreMem) (a : Nat) (u : CoreUse) : Bool :=
  (match m.area a with
    | some (.tcm _) => true
    | some (.csram _) => true
    | some (.dram _) => true
    | _ => false) &&
  m.pmp.any (fun e => decide (e.lo ≤ a ∧ a < e.lo + e.len) &&
    (match u with
      | .read => e.r
      | .write => e.w
      | .fetch => e.x))

/-- One byte as a core gets it. -/
inductive CoreAns where
  | byte (v : Nat)
  | busError
  /-- A user-mode access outside its PMP entries (R410); the task then ends by EXT_FAULT. -/
  | fault
  /-- The Shuttle core port, CORE_WINn or a register: the accesses of R415, `setWin` and the register rows. -/
  | register (a : Nat)
  deriving DecidableEq, Repr

/-- A cache of 16 KiB takes a byte; the oldest leaves where it is full. Which bytes leave, and when, is the model's choice.
(DESIGN CHOICE, log 145) -/
def cacheTake (m : List (Nat × Nat)) (a v : Nat) : List (Nat × Nat) :=
  let m := m.filter (fun x => x.1 ≠ a) ++ [(a, v)]
  m.drop (m.length - 16384)

/-- The newest value that a list of address and byte pairs gives an address. -/
def newest (m : List (Nat × Nat)) (a : Nat) : Option Nat := (m.reverse.find? (fun x => x.1 = a)).map Prod.snd

/-- The oldest `n` writes of core `c` reach DRAM, each through the guard of its region (R35, R408, R409).
(DESIGN CHOICE, log 145) -/
def State.drainCore (s : State) (c n : Nat) : State :=
  let m := s.coreMem c
  let s := s.setCoreMem c { m with wbuf := m.wbuf.drop n }
  (m.wbuf.take n).foldl (fun (s : State) x => s.dramWrite (.core c) x.1 x.2) s

/-- Every earlier write of core `c` is visible in DRAM (R408: before its read of SHT_POST completes). -/
def State.coreVisible (s : State) (c : Nat) : State := s.drainCore c (s.coreMem c).wbuf.length

/-- The data cache of core `c` holds nothing (R408: before its read of SHT_DISPATCH returns). -/
def State.coreInvalidate (s : State) (c : Nat) : State :=
  let m := s.coreMem c
  s.setCoreMem c { m with dcache := [] }

/-- A byte read through a window (R408): the core's own write that DRAM does not show yet, the cached byte, or DRAM. Whether a cached
byte is still held is a free draw. (DESIGN CHOICE, log 145) -/
def State.windowRead (s : State) (c : Nat) (data : Bool) (a : Nat) : State × CoreAns :=
  let m := s.coreMem c
  match s.dramRead (.core c) a with
  | none => (s.emit (.busError c), .busError)
  | some d =>
    let hit := newest (if data then m.dcache else m.icache) a
    match newest m.wbuf a, hit with
    | some v, _ => (s, .byte v)
    | none, some v => if s.drawn 1 = 0 then (s.used, .byte v)
      else (s.used.setCoreMem c (if data then { m with dcache := cacheTake m.dcache a d }
        else { m with icache := cacheTake m.icache a d }), .byte d)
    | none, none => (s.setCoreMem c (if data then { m with dcache := cacheTake m.dcache a d }
        else { m with icache := cacheTake m.icache a d }), .byte d)

/-- Core `c` reads the byte at `a` or fetches it as code, in machine or user mode (R407 to R410). (DESIGN CHOICE, log 145) -/
def State.coreRead (s : State) (c : Nat) (user : Bool) (u : CoreUse) (a : Nat) : State × CoreAns :=
  let m := s.coreMem c
  match m.area a with
  | none => (s.emit (.busError c), .busError)
  | some g =>
    if user && !m.userMay a u then (s, .fault)
    else match g with
      | .tcm o => (s, .byte (Store.get (Config.memByte (1 + c)) m.tcm o))
      | .csram o => (s, .byte (Store.get (fun k => Config.memByte (33 + k / 0x100000) (k % 0x100000)) s.sht.csram
          (c / 8 * 0x100000 + o)))
      | .dram o => s.windowRead c (decide (u = .read)) o
      | .port o => (s, .register (0x10000000 + o))
      | .win n => (s, .byte (m.win.getD n 0))
      | .regs r => (s, .register r)

/-- Core `c` writes the byte `v` at `a` (R407 to R410). A write through a window also writes the cached byte (write-through), and how
many earlier writes DRAM shows after it is a free draw. (DESIGN CHOICE, log 145) -/
def State.coreWrite (s : State) (c : Nat) (user : Bool) (a v : Nat) : State × CoreAns :=
  let m := s.coreMem c
  match m.area a with
  | none => (s.emit (.busError c), .busError)
  | some g =>
    if user && !m.userMay a .write then (s, .fault)
    else match g with
      | .tcm o => (s.setCoreMem c { m with tcm := Store.put (Config.memByte (1 + c)) m.tcm o (v % 256) }, .byte (v % 256))
      | .csram o =>
        ({ s with sht := { s.sht with
            csram := Store.put (fun k => Config.memByte (33 + k / 0x100000) (k % 0x100000)) s.sht.csram
              (c / 8 * 0x100000 + o) (v % 256) } }, .byte (v % 256))
      | .dram o =>
        let held := m.dcache.any (fun x => decide (x.1 = o))
        let m := { m with wbuf := m.wbuf ++ [(o, v % 256)],
                          dcache := if held then m.dcache.map (fun x => if x.1 = o then (o, v % 256) else x) else m.dcache }
        ((s.setCoreMem c m).used.drainCore c (s.drawn m.wbuf.length), .byte (v % 256))
      | .port o => (s, .register (0x10000000 + o))
      | .win n => (s.setCoreMem c { m with win := m.win.set n (v % 64) }, .byte (v % 64))
      | .regs r => (s, .register r)

/-- The firmware programs PMP entries 0 to 5 before an extension task runs (R410). -/
def State.setPmp (s : State) (c : Nat) (es : List PmpEntry) : State :=
  let m := s.coreMem c
  s.setCoreMem c { m with pmp := es.take 6 }

/-- Their user permissions are cleared when the task ends (R410). -/
def State.clearPmp (s : State) (c : Nat) : State := s.setPmp c []

/-- Core `c` starts from its reset vector (R405): its earlier writes have reached DRAM, and its caches, windows and PMP entries are as
after reset. (DESIGN CHOICE, log 145) -/
def State.coreFresh (s : State) (c : Nat) : State :=
  let s := s.coreVisible c
  s.setCoreMem c { CoreMem.blank with tcm := (s.coreMem c).tcm }

end Sys2Proof.Machine
end

