-- ==== Sys2Proof/Machine/Shuttle.lean ====
section
/-!
DEFINITION. Shuttle (10_shuttle_cores.md R377 to R416): the pool, posts, dispatch, completion, delay lists, spill rings, cores,
and extension tasks.
-/

namespace Sys2Proof.Machine
open Sys2Proof

/-! The pool. -/

/-- U_s (R378). -/
def State.usedOf (s : State) (c : Nat) : Nat := Store.get (fun _ => 0) s.sht.used c

/-- RSV_s and CAP_s (R378, R414). -/
def State.rsv (s : State) (c : Nat) : Nat := field (s.rg (R.SHT_SRC_s_4 + 0x10 * c)) 16 0
/-- CAP_s. -/
def State.cap (s : State) (c : Nat) : Nat := field (s.rg (R.SHT_SRC_s_8 + 0x10 * c)) 16 0

/-- The classes of R398 with their default RSV and CAP. -/
def srcDefaults : List (Nat × Nat × Nat) :=
  [(0x01, 8192, 32768), (0x02, 4096, 16384), (0x03, 1024, 4096), (0x04, 1024, 8192), (0x05, 512, 2048), (0x06, 1024, 8192),
   (0x07, 256, 1024), (0x10, 2048, 32768)]

/-- The Shuttle registers that the image's sections load where it lists no value of its own: RSV and CAP of the classes (R398), and
COMPAT (R400). -/
def Image.shtRegs (im : Image) : List (Nat × Word) :=
  (R.SHT_CTRL, BitVec.ofNat 32 (b2n im.compat)) ::
    (srcDefaults.flatMap (fun x => [(R.SHT_SRC_s_4 + 0x10 * x.1, BitVec.ofNat 32 x.2.1), (R.SHT_SRC_s_8 + 0x10 * x.1, BitVec.ofNat 32 x.2.2)]) ++
      im.exts.map (fun e => (R.SHT_SRC_s_8 + 0x10 * (0x20 + e.num), BitVec.ofNat 32 e.cap)))

/-- The source classes. -/
def srcClasses : List Nat := upTo 64

/-- Descriptors in use. -/
def State.inUse (s : State) : Nat := srcClasses.foldl (fun a c => a + s.usedOf c) 0

/-- FREE (R378). (DESIGN CHOICE, log 15) -/
def State.free (s : State) : Nat := 65536 - s.inUse

/-- The unmet reserves of the classes other than `c` (R378). -/
def State.unmet (s : State) (c : Nat) : Nat :=
  srcClasses.foldl (fun a t => if t = c then a else a + (s.rsv t - s.usedOf t)) 0

/-- Decisions on a post (R378). -/
inductive PostDec where
  | accept
  | full
  | cap
  deriving DecidableEq, Repr

/-- Shuttle's decision on a post of class `c` (R378). -/
def State.decidePost (s : State) (c : Nat) : PostDec :=
  if s.cap c ≤ s.usedOf c then .cap
  else if s.usedOf c < s.rsv c then .accept
  else if s.unmet c + 1 ≤ s.free then .accept
  else .full

/-- The ready list of a priority. -/
def State.readyList (s : State) (q : Nat) : List Task := Store.get (fun _ => ([] : List Task)) s.sht.ready q

/-- The ready list of a priority becomes `l`. -/
def State.setReady (s : State) (q : Nat) (l : List Task) : State :=
  { s with sht := { s.sht with ready := Store.put (fun _ => ([] : List Task)) s.sht.ready q l } }

/-- A task goes to the tail of its ready list. -/
def State.toTail (s : State) (x : Task) : State := s.setReady x.d.prio (s.readyList x.d.prio ++ [x])

/-- A task goes to the head of its ready list. -/
def State.toHead (s : State) (x : Task) : State := s.setReady x.d.prio (x :: s.readyList x.d.prio)

/-- TICK_k in counts (R394, R414). -/
def State.tickOf (s : State) (k : Nat) : Nat := clampNat 1 100000 (field (s.rg (R.SHT_TICK_k + 4 * k)) 16 0) * 4000

/-- Delay list `k`. -/
def State.delayList (s : State) (k : Nat) : List (Nat × Task) := Store.get (fun _ => ([] : List (Nat × Task))) s.sht.delay k

/-- Delay list `k` becomes `l`. -/
def State.setDelay (s : State) (k : Nat) (l : List (Nat × Task)) : State :=
  { s with sht := { s.sht with delay := Store.put (fun _ => ([] : List (Nat × Task))) s.sht.delay k l } }

/-- A task enters a delay list in order of due tick, behind those placed before it (R395). -/
def insertDue (due : Nat) (x : Task) : List (Nat × Task) → List (Nat × Task)
  | [] => [(due, x)]
  | y :: r => if due < y.1 then (due, x) :: y :: r else y :: insertDue due x r

/-- A task becomes due `d` ticks after the most recent tick of delay list `k` (R394). -/
def State.toDelay (s : State) (k d : Nat) (x : Task) : State :=
  s.setDelay k (insertDue (s.tim.cnt / s.tickOf k + d) x (s.delayList k))

/-- POOL_LOW begins below 4,096 free descriptors and ends above 8,192 (R416). -/
def State.poolLow (s : State) : State :=
  if s.free < 4096 then s.raise Ev.POOL_LOW .warning (lasting := true)
  else if 8192 < s.free then s.endEv Ev.POOL_LOW
  else s

/-- An accepted post takes a descriptor (R377, R382, R383, R394): the state and the task. (DEDUCED, log 77) -/
def State.take (s : State) (d : PostDesc) : State × Task :=
  let i := match s.sht.freed with
    | x :: _ => x
    | [] => s.sht.fresh
  let g := Store.get (fun _ => 0) s.sht.gens i
  let x : Task := { d := d, retries := 0, gen := g, index := i, stranded := false, overruns := 0 }
  let s := { s with sht := { s.sht with
      freed := s.sht.freed.drop 1,
      fresh := if s.sht.freed = [] then s.sht.fresh + 1 else s.sht.fresh,
      gens := Store.put (fun _ => 0) s.sht.gens i ((g + 1) % 256),
      used := Store.put (fun _ => 0) s.sht.used d.src (s.usedOf d.src + 1) } }
  let s := { s with sht := { s.sht with low := min s.sht.low s.free } }
  let s := (s.cntW R.SHT_CNT_k).poolLow
  (if d.delay = 0 then s.toTail x else s.toDelay d.dlist d.delay x, x)

/-- The highest-priority spill ring that holds an entry, with its entries. -/
def State.spillHead (s : State) : Option (Nat × List PostDesc) :=
  (upTo 32).findSome? (fun q =>
    let l := Store.get (fun _ => ([] : List PostDesc)) s.sht.spill q
    if l = [] then none else some (q, l))

/-- Entries of a spill ring at most (R400). -/
def State.ringSize (s : State) : Nat :=
  match s.sys.image with
  | some im => im.ringEntries
  | none => 0

/-- A descriptor has been freed: the head of the highest-priority ring is tested (R402). -/
def State.refill (s : State) : State :=
  match s.spillHead with
  | none => s
  | some (q, l) => match l with
    | [] => s
    | d :: r =>
      if s.decidePost d.src = .accept then
        let s := { s with sht := { s.sht with spill := Store.put (fun _ => ([] : List PostDesc)) s.sht.spill q r } }
        let s := (s.take d).1
        if 2 * r.length < s.ringSize then s.endEv Ev.SPILL_FULL (fun e => decide (e.args = [aCode q])) else s
      else s

/-- A task's descriptor is freed (R377, R402). (DESIGN CHOICE, log 15) -/
def State.freeTask (s : State) (x : Task) : State :=
  let s := { s with sht := { s.sht with
      freed := x.index :: s.sht.freed,
      used := Store.put (fun _ => 0) s.sht.used x.d.src (s.usedOf x.d.src - 1) } }
  s.poolLow.refill

/-! Dispatch (R384 to R389). -/

/-- The task core `c` holds. -/
def State.holds (s : State) (c : Nat) : Option (Task × Nat) := Store.get (fun _ => none) s.sht.held c

/-- Core `c` holds `x`. -/
def State.setHolds (s : State) (c : Nat) (x : Option (Task × Nat)) : State :=
  { s with sht := { s.sht with held := Store.put (fun _ => none) s.sht.held c x } }

/-- A serial key is busy (R387). -/
def State.keyBusy (s : State) (k : Nat) : Bool :=
  s.sht.held.any (fun (x : Nat × Option (Task × Nat)) => match x.2 with
    | some (t, _) => t.d.ser && decide (t.d.key = k)
    | none => false)

/-- The descriptor's affinity names no enabled core (R388). -/
def State.strays (s : State) (x : Task) : Bool := !(upTo 32).any (fun c => nbit x.d.affinity c && nbit s.sht.coreEn c)

/-- A descriptor is eligible for core `c` (R384, R388). -/
def State.eligible (s : State) (c : Nat) (x : Task) : Bool :=
  nbit s.sht.coreEn c && (nbit x.d.affinity c || s.strays x) && !(x.d.ser && s.keyBusy x.d.key)

/-- The first eligible descriptor of the highest-priority list that holds one (R384). -/
def State.pick (s : State) (c : Nat) : Option Task :=
  (upTo 32).findSome? (fun q => (s.readyList q).find? (s.eligible c))

/-- Waiting core `c` is given a descriptor where one is eligible (R384, R385). -/
def State.serveOne (s : State) (c : Nat) : State :=
  match s.pick c with
  | none => s
  | some x =>
    let s := s.setReady x.d.prio ((s.readyList x.d.prio).erase x)
    let s := { s.setHolds c (some (x, s.tim.cnt)) with
      sht := { (s.setHolds c (some (x, s.tim.cnt))).sht with waiting := s.sht.waiting.filter (· ≠ c) } }
    (s.cntW (R.SHT_CNT_k + 4)).emit (.dispatched c 0 x.id)

/-- STRANDED counts once for each ready descriptor whose affinity names no enabled core (R388). -/
def State.countStrays (s : State) : State :=
  (upTo 32).foldl (fun s q =>
    let l := s.readyList q
    let n := (l.filter (fun x => s.strays x && !x.stranded)).length
    if n = 0 then s
    else (s.setReady q (l.map (fun x => if s.strays x then { x with stranded := true } else x))).cntS (R.SHT_CNT_k + 28) n) s

/-- Every waiting core is served, the longest waiting first (R384). -/
def State.serve (s : State) : State :=
  let s := s.countStrays
  s.sht.waiting.foldl (fun s c => s.serveOne c) s

/-- Core `c` runs firmware. -/
def State.coreRuns (s : State) (c : Nat) : Bool := nbit s.sht.running c && nbit s.sys.cores c

/-- Core `c` stops: its clock is gated (R404). -/
def State.parkCore (s : State) (c : Nat) : State :=
  { s with sht := { s.sht with running := setNbit s.sht.running c false, waiting := s.sht.waiting.filter (· ≠ c) } }

/-- SHT_DISPATCH (R385, R386, R404, R408): a read by core `c`, which invalidates its data cache. (DESIGN CHOICE, log 143) -/
def execShtDispatch (c : Nat) (s : State) : Host.Outcome State Fault Refusal :=
  .next (
    if !s.coreRuns c || s.sht.waiting.contains c then s
    else
    let s := s.coreInvalidate c
    if (s.holds c).isSome then s.emit (.busError c)
    else if !nbit s.sht.coreEn c then (s.parkCore c).emit (.dispatched c 1 0)
    else State.serve { s with sht := { s.sht with waiting := s.sht.waiting ++ [c] } })

/-! Posting. -/

/-- A post from a hardware source (R378, R381): accepted, or kept in the source's hold and counted; an item stays behind those the
source holds already. (DEDUCED, log 77) -/
def State.hwPost (s : State) (d : PostDesc) : State :=
  let l := Store.get (fun _ => ([] : List PostDesc)) s.sht.hwHold d.src
  if !s.sht.accepting then s
  else if s.decidePost d.src = .accept && l.isEmpty then (s.take d).1.serve
  else
    let s := match s.decidePost d.src with
      | .accept => s
      | .cap => s.cntW (R.SHT_CNT_k + 12)
      | .full => s.cntW (R.SHT_CNT_k + 8)
    let s := s.cntW (R.SHT_CNT_k + 20)
    { s with sht := { s.sht with hwHold := Store.put (fun _ => ([] : List PostDesc)) s.sht.hwHold d.src (l ++ [d]) } }

/-- HW_POST_RETRY (R381): a hardware source retries its oldest refused post. -/
def execHwPostRetry (src : Nat) (s : State) : Host.Outcome State Fault Refusal :=
  .next (match Store.get (fun _ => ([] : List PostDesc)) s.sht.hwHold src with
    | [] => s
    | d :: r =>
      if s.sht.accepting && decide (s.decidePost d.src = .accept) then
        let s := { s with sht := { s.sht with hwHold := Store.put (fun _ => ([] : List PostDesc)) s.sht.hwHold src r } }
        (s.take d).1.serve
      else s)

/-- A core's post is answered with a status and an ID (R399). -/
def State.postAns (s : State) (c code id : Nat) : State := (s.emit (.coreStatus c code)).emit (.taskId c id)

/-- A core post (R378, R398, R399, R401, R403). -/
def State.corePost (s : State) (c : Nat) (d : PostDesc) : State :=
  if !(decide (d.src = 0x10) || decide (0x20 ≤ d.src ∧ d.src ≤ 0x2F)) then s.postAns c 0x12 0xFFFFFF
  else
    let dec := s.decidePost d.src
    let ring := Store.get (fun _ => ([] : List PostDesc)) s.sht.spill d.prio
    let compat := bit (s.rg R.SHT_CTRL) 0
    let refuse := fun (s : State) => match dec with
      | .cap => (s.cntW (R.SHT_CNT_k + 12)).postAns c 0x11 0xFFFFFF
      | _ => (s.cntW (R.SHT_CNT_k + 8)).postAns c 0x10 0xFFFFFF
    if compat && decide (d.delay = 0) && (decide (dec ≠ .accept) || decide (ring ≠ [])) then
      if ring.length < s.ringSize then
        let s := { s with sht := { s.sht with
          spill := Store.put (fun _ => ([] : List PostDesc)) s.sht.spill d.prio (ring ++ [d]) } }
        (s.cntW (R.SHT_CNT_k + 16)).postAns c 0x01 0xFFFFFF
      else (refuse s).raise Ev.SPILL_FULL .warning (args := [aCode d.prio]) (lasting := true)
    else if dec = .accept then
      let r := s.take d
      (r.1.postAns c 0x00 r.2.id).serve
    else refuse s

/-- SHT_POST (R378, R399, R408): core `c` posts its SHT_PDESC window, after every earlier write
of it is visible in DRAM. (DESIGN CHOICE, log 143) -/
def execShtPost (c : Nat) (d : PostDesc) (s : State) : Host.Outcome State Fault Refusal :=
  .next (if s.coreRuns c && s.sht.accepting then (s.coreVisible c).corePost c d else s)

/-! Completion (R390, R391). -/

/-- A task with the continuation words of the core's window (R391). -/
def Task.cont (x : Task) (k : Cont) : Task :=
  { x with d := { x.d with entry := k.entry, arg0 := k.arg0, arg1 := k.arg1, arg2 := k.arg2 } }

/-- Core `c`, which holds `x`, gives it up and its user permissions are cleared (R410); a core withdrawn meanwhile is gated (R404).
(DEDUCED, log 78) -/
def State.letGo (s : State) (c : Nat) : State :=
  let s := (s.setHolds c none).clearPmp c
  if nbit s.sht.coreEn c then s else s.parkCore c

/-- A write of SHT_DONE by core `c` (R390): a core without a task takes a bus error. -/
def State.shtDone (s : State) (c : Nat) (f : State → Task → State) : State :=
  if !s.coreRuns c then s
  else match s.holds c with
    | none => s.emit (.busError c)
    | some (x, _) => (f (s.letGo c) x).serve

/-- A task that extracts an APDU's readings has ended: they go on to Warp (R359, R398), or are lost with a task that was killed or
cancelled. (DEDUCED, log 67) -/
def State.extracted (s : State) (x : Task) (ok : Bool) : State :=
  if x.d.src ≠ 0x01 then s
  else match s.msn.atCore.find? (fun (a : Nat × List WarpItem) => decide (a.1 % 65536 = x.d.key)) with
    | none => s
    | some a => { s with msn := { s.msn with
        atCore := s.msn.atCore.erase a, toWarp := if ok then s.msn.toWarp ++ a.2 else s.msn.toWarp } }

/-- SHT_DONE_DONE (R390). -/
def execShtDoneDone (c : Nat) (s : State) : Host.Outcome State Fault Refusal :=
  .next (s.shtDone c (fun s x => (s.freeTask x).extracted x true))

/-- SHT_DONE_REQUEUE (R390, R391). -/
def execShtDoneRequeue (c : Nat) (k : Cont) (s : State) : Host.Outcome State Fault Refusal :=
  .next (s.shtDone c (fun s x => s.toTail { x.cont k with overruns := 0 }))

/-- SHT_DONE_YIELD (R390, R391). -/
def execShtDoneYield (c : Nat) (k : Cont) (s : State) : Host.Outcome State Fault Refusal :=
  .next (s.shtDone c (fun s x => s.toHead { x.cont k with overruns := 0 }))

/-- SHT_DONE_DELAY (R390, R391, R394): DELAY 0 is taken as 1. -/
def execShtDoneDelay (c dlist ticks : Nat) (k : Cont) (s : State) : Host.Outcome State Fault Refusal :=
  .next (s.shtDone c (fun s x => s.toDelay (dlist % 8) (max 1 (ticks % 2 ^ 24)) { x.cont k with overruns := 0 }))

/-! Cancelling (R392). -/

/-- A task that waits with a given ID, in a ready or a delay list. -/
def State.waitingTask (s : State) (id : Nat) : Option Task :=
  ((s.sht.ready.flatMap (fun (x : Nat × List Task) => x.2)) ++
    (s.sht.delay.flatMap (fun (x : Nat × List (Nat × Task)) => x.2.map Prod.snd))).find? (fun x => x.id = id)

/-- A task leaves every list. -/
def State.dropTask (s : State) (x : Task) : State :=
  { s with sht := { s.sht with
      ready := Store.mapAll (fun _ => ([] : List Task)) (fun _ (l : List Task) => l.filter (fun y => y.id ≠ x.id)) s.sht.ready,
      delay := Store.mapAll (fun _ => ([] : List (Nat × Task)))
        (fun _ (l : List (Nat × Task)) => l.filter (fun y => y.2.id ≠ x.id)) s.sht.delay } }

/-- A task is cancelled where `p` allows it: the state and the result code (R392). -/
def State.cancel (s : State) (id : Nat) (p : Task → Bool) : State × Nat :=
  match s.waitingTask id with
  | some x => if p x then (((s.dropTask x).freeTask x).extracted x false, 0) else (s, 2)
  | none =>
    if s.sht.held.any (fun (y : Nat × Option (Task × Nat)) => match y.2 with
        | some (x, _) => decide (x.id = id) && p x
        | none => false) then (s, 1)
    else (s, 2)

/-- SHT_CANCEL (R392): core `c` cancels the task whose ID is in SHT_CANCEL_ID. -/
def execShtCancel (c id : Nat) (s : State) : Host.Outcome State Fault Refusal :=
  .next (
    if !s.coreRuns c then s
    else
      let r := s.cancel id (fun _ => true)
      (r.1.emit (.coreStatus c r.2)).serve)

/-! Delay lists. -/

/-- DELAY_LIST_TICK (R394, R395): at counter value `t`, the due descriptors of list `k` move to their ready lists. -/
def execDelayListTick (k t : Nat) (s : State) : Host.Outcome State Fault Refusal :=
  let s := s.reach t
  .next (
    let n := t / s.tickOf k
    let due := (s.delayList k).filter (fun x => decide (x.1 ≤ n))
    let s := s.setDelay k ((s.delayList k).filter (fun x => decide (n < x.1)))
    (due.foldl (fun s (x : Nat × Task) => s.toTail x.2) s).serve)

/-- The effect of a write of SHT_TICK_k (R396). -/
def State.tickEff (k : Nat) (s : State) (v : Word) : State × Status :=
  if s.delayList k ≠ [] then (s, .denied)
  else (s.setReg (R.SHT_TICK_k + 4 * (k % 8)) (BitVec.ofNat 32 (field v 16 0)), .ok)

/-- SHT_TICK_WRITE (R396). -/
def execShtTickWrite (r : Requester) (k : Nat) (v : Word) (s : State) : Host.Outcome State Fault Refusal :=
  .next (if k < 8 then s.writeRow r (0x800000 + R.SHT_TICK_k + 4 * k) v (State.tickEff k) else s)

/-! Cores. -/

/-- The core's snapshots and held words are cleared as it is reset (R10). -/
def State.dropRequester (s : State) (r : Requester) : State :=
  let k := r.key
  { s with
      snap := s.snap.filter (fun (x : Nat × Option Word) => x.1 / 2 ^ 24 ≠ k),
      heldW := s.heldW.filter (fun (x : Nat × Option Word) => x.1 / 2 ^ 24 ≠ k) }

/-- Core `c` is withdrawn (R404). (DEDUCED, log 78) -/
def State.withdrawCore (s : State) (c : Nat) : State :=
  let s := { s with sht := { s.sht with coreEn := setNbit s.sht.coreEn c false } }
  if s.sht.waiting.contains c then (s.parkCore c).emit (.dispatched c 1 0) else s

/-- Core `c` is set enabled and starts from its reset vector (R405). -/
def State.addCore (s : State) (c : Nat) : State :=
  let s := s.coreFresh c
  State.dropRequester { s with sht := { s.sht with
    coreEn := setNbit s.sht.coreEn c true, running := setNbit s.sht.running c true } } (.core c)

/-- The cluster of core `c` is open (R105, R404). -/
def State.clusterOn (s : State) (c : Nat) : Bool := let x := s.isl (3 + c / 8); x.en && !x.closing

/-- A write of SHT_CORE_EN (R42, R404, R405): cores whose bit changes are withdrawn or start; a core that is not usable, or whose
cluster is closed, keeps 0. (DEDUCED, log 78) -/
def State.coreEnEff (s : State) (v : Word) : State :=
  ((upTo 32).foldl (fun s c =>
    let b := bit v c && nbit s.sys.cores c && s.clusterOn c
    if b = nbit s.sht.coreEn c then s else if b then s.addCore c else s.withdrawCore c) s).serve

/-- CORE_WITHDRAW (R404): a write of SHT_CORE_EN with the bit of core `c` cleared. -/
def execCoreWithdraw (r : Requester) (c : Nat) (s : State) : Host.Outcome State Fault Refusal :=
  .next (s.writeRow r (0x800000 + R.SHT_CORE_EN) (BitVec.ofNat 32 (setNbit s.sht.coreEn (c % 32) false))
    (okEff State.coreEnEff))

/-- CORE_ADD (R405): a write of SHT_CORE_EN with the bit of core `c` set. -/
def execCoreAdd (r : Requester) (c : Nat) (s : State) : Host.Outcome State Fault Refusal :=
  .next (s.writeRow r (0x800000 + R.SHT_CORE_EN) (BitVec.ofNat 32 (setNbit s.sht.coreEn (c % 32) true))
    (okEff State.coreEnEff))

/-- A core is reset; its task returns to the head of its list with RETRIES increased, or is freed at its fourth return (R393,
R723). (DEDUCED, log 76) -/
def State.resetCore (s : State) (c : Nat) : State :=
  let s := (s.dropRequester (.core c)).coreFresh c
  let s := { s with sht := { s.sht with waiting := s.sht.waiting.filter (· ≠ c) } }
  match s.holds c with
  | none => s
  | some (x, _) =>
    let s := s.letGo c
    if x.retries < 3 then s.toHead { x with retries := x.retries + 1 }
    else
      (((s.freeTask x).extracted x false).cntS (R.SHT_CNT_k + 36)).raise Ev.TASK_KILLED .warning
        (args := [aCode x.d.src, aIdx x.d.entry])

/-- Core `c` fails (R404, R726, R727): its task returns to the head of its list. -/
def State.failCore (s : State) (c : Nat) : State :=
  let s := s.unitDown .core c
  let s := match s.holds c with
    | none => if s.sht.waiting.contains c then s.emit (.dispatched c 1 0) else s
    | some (x, _) => (s.setHolds c none).toHead x
  State.parkCore { s with sht := { s.sht with coreEn := setNbit s.sht.coreEn c false } } c

/-- A core is reset under R393 at `t`; at the third time within an hour it fails (R726). (DEDUCED, log 76) -/
def State.watchReset (s : State) (c t : Nat) : State :=
  let s := s.resetCore c
  let ts := t :: (Store.get (fun _ => ([] : List Nat)) s.sht.resets c).filter (fun u => decide (t < u + hourCounts))
  let s := { s with sht := { s.sht with resets := Store.put (fun _ => ([] : List Nat)) s.sht.resets c ts } }
  if 3 ≤ ts.length then s.failCore c else s

/-- TASK_WATCHDOG (R393, R404, R726): core `c` has held its task for longer than TASK_WD at `t`. -/
def execTaskWatchdog (c t : Nat) (s : State) : Host.Outcome State Fault Refusal :=
  let s := s.reach t
  .next (match s.holds c with
    | none => s
    | some (x, since) =>
      if t ≤ since + msCounts (s.rg R.SHT_WD).toNat then s
      else
        let s := (s.cntS (R.SHT_CNT_k + 32)).raise Ev.CORE_HUNG .warning (unit := c)
          (args := [aCode x.d.src, aIdx x.d.entry])
        (s.watchReset c t).serve)

/-! Extension tasks (R410 to R412). -/

/-- The task core `c` holds when it is an extension task. -/
def State.extTask (s : State) (c : Nat) : Option (Task × Nat) :=
  match s.holds c with
  | some (x, t) => if s.coreRuns c && decide (0x20 ≤ x.d.src ∧ x.d.src ≤ 0x2F) then some (x, t) else none
  | none => none

/-- The EXT section of a class. -/
def State.extCfg (s : State) (src : Nat) : Option ExtCfg :=
  match s.sys.image with
  | some im => im.exts.find? (fun (e : ExtCfg) => e.num + 0x20 = src)
  | none => none

/-- An environment call of an extension task that gives its task up. -/
def State.extEnd (s : State) (c : Nat) (f : State → Task → State) : State :=
  match s.extTask c with
  | none => s
  | some (x, _) => (f (s.letGo c) x).serve

/-- EXT_DONE (R411). (DESIGN CHOICE, log 143) -/
def execExtDone (c : Nat) (s : State) : Host.Outcome State Fault Refusal := .next (s.extEnd c State.freeTask)

/-- EXT_REQUEUE (R411). -/
def execExtRequeue (c : Nat) (k : Cont) (s : State) : Host.Outcome State Fault Refusal :=
  .next (s.extEnd c (fun s x => s.toTail { x.cont k with overruns := 0 }))

/-- EXT_YIELD (R411). -/
def execExtYield (c : Nat) (k : Cont) (s : State) : Host.Outcome State Fault Refusal :=
  .next (s.extEnd c (fun s x => s.toHead { x.cont k with overruns := 0 }))

/-- EXT_DELAY (R411): a0 the list, a1 the ticks. -/
def execExtDelay (c dlist ticks : Nat) (k : Cont) (s : State) : Host.Outcome State Fault Refusal :=
  .next (s.extEnd c (fun s x => s.toDelay (dlist % 8) (max 1 (ticks % 2 ^ 24)) { x.cont k with overruns := 0 }))

/-- EXT_POST (R411): ENTRY, ARG0 to ARG2, PRIO and DELAY. KEY and the delay list, which the call does not name, are free.
(DEDUCED, log 77) -/
def execExtPost (c entry arg0 arg1 arg2 prio delay : Nat) (s : State) : Host.Outcome State Fault Refusal :=
  .next (match s.extTask c with
    | none => s
    | some (x, _) => match s.extCfg x.d.src with
      | none => s.emit (.badEntry c)
      | some e =>
        let s := s.coreVisible c
        if !s.sht.accepting then s
        else if !e.entries.contains entry then s.emit (.badEntry c)
        else
          let d : PostDesc :=
            { prio := clampNat 16 31 prio, dlist := s.drawn 7, ser := false, src := x.d.src, key := s.used.drawn 65535,
              affinity := e.coreMask, entry := entry, arg0 := arg0, arg1 := arg1, arg2 := arg2, delay := delay % 2 ^ 24 }
          s.used.used.corePost c d)

/-- EXT_CANCEL (R411): for tasks of the caller's own class only. -/
def execExtCancel (c id : Nat) (s : State) : Host.Outcome State Fault Refusal :=
  .next (match s.extTask c with
    | none => s
    | some (x, _) =>
      let r := s.cancel id (fun y => decide (y.d.src = x.d.src))
      (r.1.emit (.coreStatus c r.2)).serve)

/-- EXT_BUDGET_OVERRUN (R412): a run exceeds EXT_BUDGET at `t`; the fourth consecutive overrun ends the task. -/
def execExtBudgetOverrun (c t : Nat) (s : State) : Host.Outcome State Fault Refusal :=
  let s := s.reach t
  .next (match s.extTask c with
    | none => s
    | some (x, since) =>
      let lim := match s.extCfg x.d.src with
        | some e => usCounts e.budgetUs
        | none => 0
      if t ≤ since + lim then s
      else if x.overruns < 3 then (State.toTail (s.letGo c) { x with overruns := x.overruns + 1 }).serve
      else (((s.letGo c).freeTask x).raise Ev.EXT_OVERRUN .warning).serve)

/-- EXT_FAULT (R410): a PMP fault at an address ends the extension task. -/
def execExtFault (c addr : Nat) (s : State) : Host.Outcome State Fault Refusal :=
  .next (match s.extTask c with
    | none => s
    | some (x, _) =>
      (((s.letGo c).freeTask x).raise Ev.EXT_FAULT .warning
        (args := [aCode x.d.src, aIdx x.d.entry, aIdx addr])).serve)

end Sys2Proof.Machine
end

