-- ==== Sys2Proof/Machine/MsnOps.lean ====
section
/-!
DEFINITION. Shared operations of Meter Sessions (09_meter_sessions.md R346 to R372): meter time and reading indices, sending
requests within a reservation, closing associations, campaign steps, and handling an accepted APDU.
-/

namespace Sys2Proof.Machine
open Sys2Proof

/-! Parameters and records. -/

/-- RESP_WAIT in counts (R375). -/
def State.respWait (s : State) : Nat := sec (field (s.rg R.MSN_CFG) 31 24)
/-- REQ_TRIES; 0 is taken as 1. -/
def State.reqTries (s : State) : Nat := max 1 (field (s.rg R.MSN_CFG) 23 20)
/-- CLOCK_TOL in s. (DEDUCED, log 71) -/
def State.clockTol (s : State) : Nat := field (s.rg R.MSN_CFG) 19 12
/-- SESSION_LIFE in counts. -/
def State.sessLife (s : State) : Nat := sec (10 * field (s.rg R.MSN_CFG) 11 0)
/-- SPREAD in s. -/
def State.spread (s : State) : Nat := field (s.rg R.MSN_SCHED) 31 16
/-- POLL_DELAY in s. -/
def State.pollDelay (s : State) : Nat := field (s.rg R.MSN_SCHED) 15 8

/-- The session record of endpoint `ep`. -/
def State.sess (s : State) (ep : Nat) : Sess := Store.get (fun _ => Sess.blank) s.msn.sess ep

/-- Endpoint `ep`'s session record becomes `x`. -/
def State.setSess (s : State) (ep : Nat) (x : Sess) : State :=
  { s with msn := { s.msn with sess := Store.put (fun _ => Sess.blank) s.msn.sess ep x } }

/-- The key table entry of endpoint `ep`. -/
def State.keyOf (s : State) (ep : Nat) : KeyEntry := Store.get (fun _ => KeyEntry.blank) s.key.table ep

/-- Endpoint `ep`'s key table entry becomes `k`. -/
def State.setKey (s : State) (ep : Nat) (k : KeyEntry) : State :=
  { s with key := { s.key with table := Store.put (fun _ => KeyEntry.blank) s.key.table ep k } }

/-- Endpoint `ep`'s key table entry is copied to the system area (R604); under the test root nothing is written (R598). -/
def State.copyKey (s : State) (ep : Nat) : State :=
  if s.sysWrites && !s.key.debug then
    { s with nand := { s.nand with keyCopy := Store.put (fun _ => KeyEntry.blank) s.nand.keyCopy ep (s.keyOf ep) } }
  else s

/-- The endpoint's configuration. -/
def State.epCfg (s : State) (ep : Nat) : Option EpCfg := s.sys.image.bind (fun im => im.ep ep)

/-- Confirmed requests outstanding (R358, R375). -/
def State.openReqs (s : State) : Nat := (s.msn.sess.filter (fun (x : Nat × Sess) => x.2.outReq.isSome)).length

/-! Meter time (R352, R353). -/

/-- A meter date-time as a TAI second: to UTC by the deviation, or by the endpoint's zone offset, then TAI - UTC (R353).
(PRESUMED, log 70) -/
def State.meterTai (s : State) (zoneMin : Int) (localSec : Int) (dev : Option Int) : Int :=
  (match dev with
    | some d => localSec + d * 60
    | none => localSec - zoneMin * 60) + s.utcOff

/-- The reading index of a capture time, given as a TAI second (R352). -/
def State.ridxOf (s : State) (tai : Int) (period : Nat) : Nat :=
  let utc := tai - utcAt s.tim.utcOffs tai.toNat
  ((utc + (period / 2 : Nat)) / (max 1 period : Nat)).toNat % 2 ^ 32

/-- The capture time in ns of a channel's reading index (R352, R492). -/
def State.captureNs (s : State) (period ridx : Nat) : Nat :=
  ((ridx * period : Nat) + utcAt s.tim.utcOffs (ridx * period)).toNat * second

/-- The first capture time that Warp has not accepted, over the channels of an endpoint (R355, R367). -/
def State.nextCapture (s : State) (c : EpCfg) : Nat :=
  let ts := c.chans.map (fun (x : Nat × ChCfg) =>
    s.captureNs x.2.period ((Store.get (fun _ => Chan.blank) s.wrp.chans (mkChid c.idx x.1)).lastIdx + 1))
  ts.foldl (fun m t => min m t) (ts.headD 0)

/-- A profile entry as a reading for Warp (R359); none for a channel that the image does not enable. -/
def State.readingOf (s : State) (c : EpCfg) (irc back : Bool) (e : MeterEntry) : Option WarpItem :=
  match c.chans.find? (fun (x : Nat × ChCfg) => x.1 = e.ch) with
  | none => none
  | some (_, cc) =>
    let tai := s.meterTai c.zoneMin e.localSec e.deviation
    let fl := 32 * b2n (s.sess c.idx).clockSuspect + 64 * b2n irc + e.flags / 2048 % 8 * 2048 + 32768 * b2n back
    some (.reading ⟨mkChid c.idx e.ch, s.ridxOf tai cc.period, tai.toNat * second, fl, 0, e.totF, e.totR, e.m0, e.m1, e.m2,
      0, .actual, 0⟩)

/-! Requests. -/

/-- A request becomes due (R358): it is held until it starts, counting MSN_BUSY when it cannot start now. -/
def State.due (s : State) (ep : Nat) (k : ReqKind) : State :=
  let fast := decide ((s.epCfg ep).map EpCfg.cls = some 2)
  let busy := (s.sess ep).outReq.isSome || decide (65536 ≤ s.openReqs) || decide (s.decidePost 0x02 ≠ .accept)
  let s := { s with msn := { s.msn with held := s.msn.held ++ [(ep, ⟨k, fast, s.tim.cnt, 0, none, false, none⟩)] } }
  if busy then s.cntW (R.MSN_CNT_k + 24) else s

/-- A task descriptor of a hardware source of Shuttle. What the spec does not give of it is free. (DEDUCED, log 77) -/
def State.hwDesc (s : State) (src prio : Nat) (ser : Bool) (key : Nat) : State × PostDesc :=
  let p := match s.sys.image with
    | some im => ((im.srcPrio.find? (fun (x : Nat × Nat) => x.1 = src)).map Prod.snd).getD prio
    | none => prio
  let w := 2 ^ 32 - 1
  let s1 := s.used
  let s2 := s1.used
  let s3 := s2.used
  let s4 := s3.used
  (s4.used, ⟨p, 0, ser, src, key % 65536, s.drawn w, s1.drawn w, s2.drawn w, s3.drawn w, s4.drawn w, 0⟩)

/-- A schedule entry that fell due is posted as a task (R398). -/
def State.postSched (s : State) : State :=
  let x := s.hwDesc 0x02 8 false 0
  x.1.hwPost x.2

/-- The APDU of a read request. (DESIGN CHOICE, log 75) -/
def ReqKind.apdu : ReqKind → Apdu
  | .poll a b => .getProfile a b
  | .hostRead _ _ _ a b => .getProfile a b
  | .push slot act => .setCalendar slot act
  | .backfill _ _ a => .getProfile a (2 ^ 80 - 1)
  | .firmware a => a
  | .clock t => .setClock t

/-- The request reads a load profile. -/
def ReqKind.reads : ReqKind → Bool
  | .poll _ _ => true
  | .hostRead _ _ _ _ _ => true
  | .backfill _ _ _ => true
  | _ => false

/-- The request with its range starting at `a` (R367). -/
def ReqKind.from_ (k : ReqKind) (a : Nat) : ReqKind :=
  match k with
  | .poll _ b => .poll a b
  | .hostRead p q i _ b => .hostRead p q i a b
  | .backfill c f _ => .backfill c f a
  | k => k

/-- A SET or ACTION that may need more than one APDU. -/
def Apdu.long : Apdu → Bool
  | .setCalendar _ _ => true
  | .imageBlockTransfer _ _ => true
  | _ => false

/-- The blocks in which the service `a` goes to endpoint `ep`: 1 while it fits the smaller of 1,185 and the meter's
server-max-receive-pdu-size (R346). How much of a block its header takes is the model's choice. (DESIGN CHOICE, log 75) -/
def State.blocksOf (s : State) (ep : Nat) (a : Apdu) : Nat :=
  if !a.long then 1
  else
    let m := (s.sess ep).maxPdu
    let lim := if m = 0 then 1185 else min 1185 m
    ceilDiv (Config.apduLen a.key) lim

/-- The service `a`, or the block of it that is under way where it needs several (R346, R347). (DESIGN CHOICE, log 75) -/
def State.reqBlock (s : State) (ep : Nat) (a : Apdu) : Apdu :=
  let n := s.blocksOf ep a
  if n ≤ 1 then a else .pblock (max 1 (s.sess ep).sendBlk) (decide (n ≤ (s.sess ep).sendBlk)) a.key

/-- The next APDU of endpoint `ep`'s outstanding request goes to a lane for sealing: the AARQ first while no association is
open (R348), GET-Request-Next while a transfer stands (R366). (DEDUCED, log 68) -/
def State.resend (s : State) (ep : Nat) : State :=
  let x := s.sess ep
  match x.outReq with
  | none => s
  | some q =>
    let x1 := { x with
      outReq := some { q with back := false, delivered := none, uplink := none }
      sendBlk := if x.assoc && decide (1 < s.blocksOf ep q.kind.apdu) then max 1 x.sendBlk else x.sendBlk }
    if !x.assoc then (s.setSess ep { x1 with aarqSent := true }).queueJob (.sealApdu ep .aarq)
    else match x.transfer with
      | some tr => if q.kind.reads then (s.setSess ep x1).queueJob (.sealApdu ep (.getNext tr.block))
          else (s.setSess ep x1).queueJob (.sealApdu ep ((s.setSess ep x1).reqBlock ep q.kind.apdu))
      | none => (s.setSess ep x1).queueJob (.sealApdu ep ((s.setSess ep x1).reqBlock ep q.kind.apdu))

/-- A stalled transfer is restarted with a new GET from the first capture time that Warp has not accepted (R367).
(DEDUCED, log 68) -/
def State.restartTransfer (s : State) (ep : Nat) : State :=
  let x := s.sess ep
  match x.transfer, x.outReq, s.epCfg ep with
  | some _, some q, some c =>
    (s.setSess ep { x with transfer := none, outReq := some { q with kind := q.kind.from_ (s.nextCapture c) } }).cntW
      (R.MSN_CNT_k + 32)
  | _, _, _ => s

/-- The transfer of endpoint `ep` is no longer to be resumed at `t` (R366, R367). (DEDUCED, log 68) -/
def State.transferOut (s : State) (ep t : Nat) : Bool :=
  match (s.sess ep).transfer with
  | none => false
  | some tr => !(s.sess ep).assoc || decide (tr.at_ + s.sessLife ≤ t)

/-- An association closes (R348); the receive floor is recorded in the key table entry and its copy (R604). -/
def State.closeAssoc (s : State) (ep : Nat) : State :=
  let x := s.sess ep
  let k := s.keyOf ep
  let s := if k = KeyEntry.blank then s else (s.setKey ep { k with rxFloor := x.icRx.getD k.rxFloor }).copyKey ep
  s.setSess ep { x with assoc := false, aarqSent := false }

/-- A host read completes (R682): the count of entries returned, or BUSY. (DEDUCED, log 69) -/
def State.hostReadDone (s : State) (h : HostRead) (ok : Bool) : State :=
  s.objAnswer h.part h.slot h.reqId (if ok then .ok else .busy) (leBytes 4 h.total)

/-- The host read under way for endpoint `ep`. -/
def State.hostReadOf (s : State) (ep : Nat) (p k q : Nat) : HostRead :=
  (s.msn.hostReads.find? (fun (h : HostRead) => decide (h.ep = ep ∧ h.part = p ∧ h.slot = k ∧ h.reqId = q))).getD
    ⟨ep, p, k, q, 0, 0, false⟩

/-- Host reads of which every entry has reached Warp are answered (R682). -/
def State.hostReadsOut (s : State) : State :=
  let done := s.msn.hostReads.filter (fun (h : HostRead) => h.closed && decide (h.left = 0))
  let s := { s with msn := { s.msn with
    hostReads := s.msn.hostReads.filter (fun (h : HostRead) => !(h.closed && decide (h.left = 0))) } }
  done.foldl (fun s (h : HostRead) => s.hostReadDone h true) s

/-- A host read's response brings `n` more entries; `last`: it is complete. -/
def State.hostReadMore (s : State) (ep : Nat) (k : ReqKind) (n : Nat) (last : Bool) : State :=
  match k with
  | .hostRead p sl q _ _ =>
    let h := s.hostReadOf ep p sl q
    let h' := { h with total := h.total + n, left := h.left + n, closed := last }
    State.hostReadsOut { s with msn := { s.msn with hostReads := s.msn.hostReads.filter (· ≠ h) ++ [h'] } }
  | _ => s

/-- One reading of endpoint `ep` has reached Warp. -/
def State.hostReadTaken (s : State) (ep : Nat) : State :=
  match s.msn.hostReads.find? (fun (h : HostRead) => decide (h.ep = ep ∧ 0 < h.left)) with
  | none => s
  | some h => State.hostReadsOut { s with msn := { s.msn with
      hostReads := s.msn.hostReads.map (fun (g : HostRead) => if g = h then { g with left := g.left - 1 } else g) } }

/-! Firmware campaigns (R369 to R371). -/

/-- Blocks of an image at a block size. -/
def Campaign.blocks (c : Campaign) (bs : Nat) : List Nat := upTo ((c.size + max 1 bs - 1) / max 1 bs)

/-- The bytes of block `b` at a block size. -/
def Campaign.data (c : Campaign) (bs b : Nat) : List Nat := (c.image.drop (b * bs)).take bs

/-- A target that multicast rounds serve (R370): not sleepy. -/
def State.awake (s : State) (ep : Nat) : Bool := decide ((s.epCfg ep).map EpCfg.wakeMs = some 0)

/-- The block size at which a target takes part in multicast rounds. -/
def mcBlock : Nat := 1024

/-- The target waits for its first bitmap and is served by multicast (R370 steps 2 to 4). -/
def State.mcTarget (s : State) (x : Target) : Bool :=
  s.awake x.ep && (match x.st with
    | .initiated bs => decide (bs = mcBlock)
    | .missing bs _ => decide (bs = mcBlock)
    | .complete => true
    | _ => false)

/-- A target's next action at its port's step (R370); none while it has none of its own. -/
def State.campWant (s : State) (c : Campaign) (step : Nat) (x : Target) : Option Apdu :=
  match x.st with
  | .pending => some (.imageInitiate c.ident c.size)
  | .started => some .imageSizeGet
  | .initiated _ => if (s.mcTarget x || c.resumed) && decide (4 ≤ step) then some .imageStatusGet else none
  | .missing bs bl => if step = 6 then bl.head?.map (fun b => .imageBlockTransfer b (c.data bs b)) else none
  | .complete => if step = 7 then some .imageVerify else none
  | _ => none

/-- The target has not reached INITIATED (R370 step 1). -/
def TargetSt.early (x : TargetSt) : Bool := decide (x = .pending ∨ x = .started)

/-- The blocks that more than REPAIR_SHARE % of a port's multicast targets miss (R370 step 5). -/
def State.repairBlocks (s : State) (c : Campaign) (p : Nat) : List Nat :=
  let mc := c.targets.filter (fun (x : Target) => decide (x.port = p) && s.mcTarget x)
  let share := field (s.rg R.MSN_SCHED) 7 0
  (c.blocks mcBlock).filter (fun b =>
    let n := (mc.filter (fun (x : Target) => match x.st with
      | .missing _ bl => bl.contains b
      | _ => false)).length
    decide (share * mc.length < 100 * n))

/-- A port's campaign moves on by one step where the step's condition holds (R370). -/
def State.campPort (s : State) (c : Campaign) (x : CampPort) : Campaign :=
  let ts := c.targets.filter (fun (y : Target) => y.port = x.port)
  let mc := ts.filter s.mcTarget
  let put := fun (c : Campaign) (y : CampPort) =>
    { c with ports := c.ports.map (fun (z : CampPort) => if z.port = x.port then y else z) }
  let stTo := fun (f : Target → TargetSt) =>
    { c with targets := c.targets.map (fun (y : Target) => if y.port = x.port then { y with st := f y } else y) }
  match x.step with
  | 1 =>
    if ts.any (fun (y : Target) => y.st.early) then c
    else if mc.isEmpty then put c { x with step := 4 } else put c { x with step := 3, todo := c.blocks mcBlock }
  | 3 =>
    if x.todo.isEmpty then
      put (stTo (fun (y : Target) => if s.mcTarget y && y.st ≠ .complete then .initiated mcBlock else y.st))
        { x with step := 4, rounds := x.rounds + 1 }
    else c
  | 4 =>
    if ts.any (fun (y : Target) => y.st.early ||
        ((s.mcTarget y || c.resumed) && (match y.st with
          | .initiated _ => true
          | _ => false))) then c
    else
      let rep := s.repairBlocks c x.port
      if rep ≠ [] ∧ x.rounds < field (s.rg R.MSN_FW) 23 20 then put c { x with step := 3, todo := rep }
      else put (stTo (fun (y : Target) => match y.st with
        | .initiated bs => .missing bs (c.blocks bs)
        | .missing bs [] => if bs = 0 then .failed else .complete
        | st => st)) { x with step := 6 }
  | 6 =>
    if ts.all (fun (y : Target) => decide (y.st = .complete ∨ y.st = .verified ∨ y.st = .failed)) then
      put c { x with step := 7 }
    else c
  | 7 => if ts.all (fun (y : Target) => decide (y.st = .verified ∨ y.st = .failed)) then put c { x with step := 8 } else c
  | _ => c

/-- Targets whose home port changed continue on the new one from step 4 (R371). -/
def State.campRehome (s : State) (c : Campaign) : Campaign :=
  c.targets.foldl (fun (c : Campaign) (x : Target) =>
    match s.epCfg x.ep with
    | none => c
    | some e =>
      let p := (s.node e.eui).home
      if p = x.port then c
      else
        let st := match x.st with
          | .missing bs _ => .initiated bs
          | st => st
        let ps := if c.ports.any (fun (y : CampPort) => y.port = p) then
            c.ports.map (fun (y : CampPort) => if y.port = p then { y with step := if y.step = 1 then 1 else min y.step 4 } else y)
          else c.ports ++ [⟨p, if x.st.early then 1 else 4, 0, [], none⟩]
        { c with targets := c.targets.map (fun (y : Target) => if y = x then { y with port := p, st := st } else y), ports := ps }) c

/-- A campaign's request is held or outstanding for endpoint `ep`. -/
def State.fwBusy (s : State) (ep : Nat) : Bool :=
  let fw := fun (k : ReqKind) => match k with
    | .firmware _ => true
    | _ => false
  s.msn.held.any (fun (x : Nat × Req) => decide (x.1 = ep) && fw x.2.kind) ||
    (match (s.sess ep).outReq with
      | some q => fw q.kind
      | none => false)

/-- The campaign goes as far as it can: ports move on, and each target's next action becomes due (R370). FW_PAUSE holds it at its
next step (R375). -/
def State.campKick (s : State) : State :=
  match s.msn.campaign with
  | none => s
  | some c =>
    if bit (s.rg R.MSN_CTRL) 1 then s
    else
      let c := s.campRehome c
      let c := (upTo 5).foldl (fun (c : Campaign) _ => c.ports.foldl (fun (c : Campaign) (x : CampPort) =>
        match c.ports.find? (fun (y : CampPort) => y.port = x.port) with
        | some y => s.campPort c y
        | none => c) c) c
      let s := { s with msn := { s.msn with campaign := some c } }
      c.targets.foldl (fun (s : State) (x : Target) =>
        let step := ((c.ports.find? (fun (y : CampPort) => y.port = x.port)).map CampPort.step).getD 1
        match s.campWant c step x with
        | some a => if s.fwBusy x.ep then s else (s.due x.ep (.firmware a)).postSched
        | none => s) s

/-- Where a target stands changes. -/
def State.campTarget (s : State) (ep : Nat) (f : TargetSt → TargetSt) : State :=
  match s.msn.campaign with
  | none => s
  | some c =>
    { s with msn := { s.msn with campaign := some { c with
      targets := c.targets.map (fun (x : Target) => if x.ep = ep then { x with st := f x.st } else x) } } }

/-- How many targets are VERIFIED and FAILED. -/
def Campaign.counts (c : Campaign) : Nat × Nat :=
  ((c.targets.filter (fun (x : Target) => x.st = .verified)).length, (c.targets.filter (fun (x : Target) => x.st = .failed)).length)

/-- The campaign ends with FW_CAMPAIGN_DONE (R370, R676). -/
def State.campEnd (s : State) : State :=
  match s.msn.campaign with
  | none => s
  | some c =>
    let s := { s with msn := { s.msn with campaign := none }, nand := { s.nand with campaign := none } }
    s.raise Ev.FW_CAMPAIGN_DONE .info (args := [aIdx c.counts.1, aIdx c.counts.2])

/-- Step of MSN_FW: the lowest step of its ports (R375). (DEDUCED, log 69) -/
def Campaign.step (c : Campaign) : Nat := c.ports.foldl (fun m (x : CampPort) => min m x.step) 8

/-! The end of a request. -/

/-- Endpoint `ep` has no outstanding request any more. (DEDUCED, log 69) -/
def State.reqEnds (s : State) (ep : Nat) : State := s.setSess ep { s.sess ep with outReq := none, aarqSent := false, sendBlk := 0 }

/-- A request ends without success: a host read is answered, a push is held again until its boundary, a campaign target fails
(R357, R372, R682). (DEDUCED, log 68) -/
def State.reqFails (s : State) (ep : Nat) : State :=
  match (s.sess ep).outReq with
  | none => s
  | some q =>
    let s := s.reqEnds ep
    match q.kind with
    | .hostRead p k i _ _ =>
      let h := s.hostReadOf ep p k i
      State.hostReadDone { s with msn := { s.msn with hostReads := s.msn.hostReads.filter (· ≠ h) } } h false
    | .push slot act => if s.nowNs < act then s.due ep (.push slot act) else s
    | .firmware a => if a = .imageActivate then s else (s.campTarget ep (fun _ => .failed)).campKick
    | _ => s

/-! An accepted APDU. -/

/-- The meter's clock is compared with presented time (R354). (DEDUCED, log 71) -/
def State.meterClock (s : State) (ep : Nat) (clock : Option Int) (stamp : Nat) : State :=
  match clock with
  | none => s
  | some c =>
    let now := (s.stampNs stamp : Int)
    let diff := (c + s.utcOff) * second - now
    let off := decide ((s.clockTol * second : Nat) < diff.natAbs)
    let s := s.setSess ep { s.sess ep with clockSuspect := off }
    let st := (s.tim.dom s.tim.sel).state
    if off && decide (st = .locked ∨ st = .holdover) then
      let setting := fun (k : ReqKind) => match k with
        | .clock _ => true
        | _ => false
      let s := s.raise Ev.METER_CLOCK .warning (args := [aIdx ep, aNs diff]) (sc := .endpoint ep)
      if s.msn.held.any (fun (x : Nat × Req) => decide (x.1 = ep) && setting x.2.kind) then s
      else (s.due ep (.clock s.nowNs)).postSched
    else s

/-- Readings of an APDU go to Warp in profile order, or, where it matches no fast-path template, a core extracts them
(R359, R398). (DEDUCED, log 67) -/
def State.readings (s : State) (ep : Nat) (es : List MeterEntry) (irc back fast : Bool) : State :=
  match s.epCfg ep with
  | none => s
  | some c =>
    if es = [] then s
    else if fast then
      { s with msn := { s.msn with toWarp := s.msn.toWarp ++ es.filterMap (s.readingOf c irc back) } }
    else
      let x := s.hwDesc 0x01 4 true ep
      let s := x.1
      State.hwPost { s with msn := { s.msn with atCore := s.msn.atCore ++ [(ep, es.filterMap (s.readingOf c irc back))] } } x.2

/-- The gap of a backfill whose oldest returned entry is later than the first missing index (R365). (DEDUCED, log 74) -/
def State.backfillGap (s : State) (ep : Nat) (k : ReqKind) (es : List MeterEntry) : State :=
  match k, s.epCfg ep with
  | .backfill ch first _, some c =>
    match (es.filterMap (s.readingOf c false true)).find? (fun (i : WarpItem) => match i with
        | .reading e => decide (e.ch = ch)
        | _ => false) with
    | some (.reading e) =>
      if first < e.ridx then
        let s := { s with msn := { s.msn with toWarp := s.msn.toWarp ++ [WarpItem.gap ch first (e.ridx - 1)] } }
        s.raise Ev.BACKFILL_GAP .warning (args := [aIdx ep]) (sc := .endpoint ep)
      else s
    | _ => s
  | _, _ => s

/-- The request is a backfill. -/
def ReqKind.isBackfill : ReqKind → Bool
  | .backfill _ _ _ => true
  | _ => false

/-- A response with profile entries to the outstanding read `q`, complete where `last` holds (R364 to R366). (DEDUCED, log 74) -/
def State.readResp (s : State) (ep : Nat) (q : Req) (es : List MeterEntry) (irc fast last : Bool) : State :=
  let s := if (s.sess ep).transfer.isNone then s.backfillGap ep q.kind es else s
  let n := match s.epCfg ep with
    | some c => (es.filterMap (s.readingOf c irc false)).length
    | none => 0
  (s.readings ep es irc q.kind.isBackfill fast).hostReadMore ep q.kind n last

/-- A response to a campaign's action (R370). (DEDUCED, log 69) -/
def State.campResp (s : State) (ep : Nat) (a : Apdu) (x : Apdu) : State :=
  let s := s.reqEnds ep
  (match a, x with
    | .imageInitiate _ _, .done => s.campTarget ep (fun _ => .started)
    | .imageSizeGet, .imageBlockSize bs => s.campTarget ep (fun _ => .initiated bs)
    | .imageStatusGet, .imageStatus bl => s.campTarget ep (fun st => match st with
        | .initiated bs => .missing bs bl
        | .missing bs _ => .missing bs bl
        | _ => .missing mcBlock bl)
    | .imageBlockTransfer b _, .done => s.campTarget ep (fun st => match st with
        | .missing bs bl => if bl.filter (· ≠ b) = [] then .complete else .missing bs (bl.filter (· ≠ b))
        | st => st)
    | .imageVerify, .imageVerified ok => s.campTarget ep (fun _ => if ok then .verified else .failed)
    | _, _ => s).campKick

/-- An accepted APDU of endpoint `ep` is acted on (R347 to R370): `fast` says that it matches a fast-path template.
(DEDUCED, log 67) -/
def State.takeApdu (s : State) (ep : Nat) (a : Apdu) (irc fast : Bool) (stamp t : Nat) : State :=
  let x := s.sess ep
  match a with
  | .notification es clk => (s.meterClock ep clk stamp).readings ep es irc false fast
  | .getResp es clk =>
    let s := s.meterClock ep clk stamp
    match x.outReq with
    | some q =>
      if q.kind.reads then
        let s := s.readResp ep q es irc fast true
        (s.setSess ep { s.sess ep with transfer := none }).reqEnds ep
      else s.readings ep es irc false fast
    | none => s.readings ep es irc false fast
  | .getBlock b last es =>
    match x.outReq with
    | some q =>
      if !q.kind.reads then s
      else
        let want := match x.transfer with
          | some tr => tr.block + 1
          | none => 1
        if b ≠ want then
          if x.transfer.isSome then (s.restartTransfer ep).resend ep else s
        else
          let s := s.readResp ep q es irc fast last
          if last then (s.setSess ep { s.sess ep with transfer := none }).reqEnds ep
          else
            let q' := { q with tries := 0 }
            (s.setSess ep { s.sess ep with transfer := some ⟨b, t, q.kind⟩, outReq := some q' }).resend ep
    | none => s
  | .respErr =>
    if x.transfer.isSome && (match x.outReq with
        | some q => q.kind.reads
        | none => false) then (s.restartTransfer ep).resend ep
    else s.reqFails ep
  | .aare ok mx =>
    if !x.aarqSent then s
    else if ok then
      let q' := x.outReq.map (fun (q : Req) => { q with tries := 0 })
      (s.setSess ep { x with assoc := true, aarqSent := false, maxPdu := mx, outReq := q' }).resend ep
    else s.reqFails ep
  | .rlre => s.closeAssoc ep
  | .done => match x.outReq with
    | some q => match q.kind with
      | .push _ _ => s.reqEnds ep
      | .clock _ => s.reqEnds ep
      | .firmware y => s.campResp ep y .done
      | _ => s
    | none => s
  | .imageBlockSize bs => match x.outReq with
    | some q => match q.kind with
      | .firmware y => s.campResp ep y (.imageBlockSize bs)
      | _ => s
    | none => s
  | .blockAck b => match x.outReq with
    | some q =>
      if b = x.sendBlk ∧ b < s.blocksOf ep q.kind.apdu then
        (s.setSess ep { x with sendBlk := b + 1, outReq := some { q with tries := 0 } }).resend ep
      else s
    | none => s
  | .imageStatus bl => match x.outReq with
    | some q => match q.kind with
      | .firmware y => s.campResp ep y (.imageStatus bl)
      | _ => s
    | none => s
  | .imageVerified ok => match x.outReq with
    | some q => match q.kind with
      | .firmware y => s.campResp ep y (.imageVerified ok)
      | _ => s
    | none => s
  | _ => s.cntW (R.MSN_CNT_k + 8)

end Sys2Proof.Machine
end

