-- ==== Sys2Proof/Machine/Msn.lean ====
section
/-!
DEFINITION. Meter Sessions (09_meter_sessions.md R344 to R376) and the meter jobs of the crypto lanes (16_keys_security.md R605
to R607).
-/

namespace Sys2Proof.Machine
open Sys2Proof

/-! Lane jobs. -/

/-- The oldest job waiting for lane `l` leaves it. -/
def State.popJob (s : State) (l : Nat) : Option (LaneJob × State) :=
  match s.key.waiting l with
  | [] => none
  | j :: r =>
    some (j, { s with key := { s.key with jobs := Store.put (fun _ => ([] : List LaneJob)) s.key.jobs l r } })

/-- An entry is usable (R605): CRC and unwrap good, valid, of the unit's PKWK generation. -/
def State.keyGood (s : State) (k : KeyEntry) : Bool :=
  k.good && k.valid && decide (s.key.pkwk.map Pkwk.pgen = some k.pgen)

/-- A bad entry is reloaded once from the system area copy; when that fails too, KEY_ENTRY_BAD is raised (R605). The state, and
whether the entry is good. -/
def State.reloadKey (s : State) (ep : Nat) : State × Bool :=
  let s := s.cntW (R.KEY_CNT_k + 16)
  let c := Store.get (fun _ => KeyEntry.blank) s.nand.keyCopy ep
  if s.keyGood c then (s.setKey ep c, true)
  else ((s.setKey ep { s.keyOf ep with good := false }).raise Ev.KEY_ENTRY_BAD .warning (args := [aIdx ep]) (sc := .endpoint ep),
    false)

/-- A lane loads endpoint `ep`'s entry (R605, R606): a bad one is reloaded once from the system area copy; when that fails too,
KEY_ENTRY_BAD is raised. The state, and whether the keys are loaded. -/
def State.loadKey (s : State) (ep : Nat) : State × Bool :=
  let s := s.cntW R.KEY_CNT_k
  if s.keyGood (s.keyOf ep) then (s, true)
  else
    s.reloadKey ep

/-- An APDU of endpoint `ep` is opened (R347, R350). (DEDUCED, log 66) -/
def State.openApdu (s : State) (ep : Nat) (p : SessPayload) (stamp : Nat) (irc fast : Bool) (t : Nat) : State :=
  let x := s.sess ep
  let floor := x.icRx.getD (s.keyOf ep).rxFloor
  if p.ic ≤ floor then s.cntW (R.MSN_CNT_k + 16)
  else if !p.tagOk then
    let s := ((s.setSess ep { x with tagFails := x.tagFails + 1 }).cntW (R.MSN_CNT_k + 12)).cntW (R.KEY_CNT_k + 8)
    if x.tagFails + 1 = 16 then s.raise Ev.KEY_MISMATCH .warning (args := [aIdx ep]) (sc := .endpoint ep) else s
  else (s.setSess ep { x with icRx := some p.ic, tagFails := 0, lastApdu := t }).takeApdu ep p.apdu irc fast stamp t

/-- The endpoint's confirmed requests wait for a reservation (R351, R604); KEYSTORE_RO while the system area refuses writes. -/
def State.waitResv (s : State) (ep : Nat) : State :=
  let s := if s.key.waitResv.contains ep then s
    else { s with key := { s.key with waitResv := s.key.waitResv ++ [ep] } }
  if s.sysWrites || s.key.debug then s
  else { s with key := { s.key with storeRo := true } }.raise Ev.KEYSTORE_RO .warning (lasting := true)

/-- An APDU to endpoint `ep` is sealed with the next transmit counter and handed to NET (R345, R351). (DESIGN CHOICE, log 72) -/
def State.sealApdu (s : State) (ep : Nat) (a : Apdu) (t : Nat) : State :=
  let x := s.sess ep
  match x.icTx, s.epCfg ep with
  | some (n, e), some c =>
    if 2 ^ 32 ≤ n then
      (s.setSess ep { x with icOut := true }).raise Ev.IC_EXHAUSTED .warning (args := [aIdx ep]) (sc := .endpoint ep)
        (lasting := true)
    else if e ≤ n then s.waitResv ep
    else
      let q := x.outReq.map (fun (q : Req) => { q with tries := q.tries + 1 })
      let s1 := s.setSess ep { x with icTx := some (n + 1, e), lastApdu := t, outReq := q }
      let d : SessPayload := ⟨1, 1, s1.drawn 255, s1.used.drawn 255, n, true, a⟩
      s1.used.used.netSend c.eui c.eui .data (fun h => .data h d) (.request ep)
  | none, some _ => s.waitResv ep
  | _, none => s

/-- CRYPTO_LANE_JOB (R350, R398, R606): lane `l` runs its oldest waiting job; `fast` says that the APDU opened matches a
fast-path template. (DEDUCED, log 66) -/
def execCryptoLaneJob (l : Nat) (fast : Bool) (t : Nat) (s : State) : Host.Outcome State Fault Refusal :=
  let s := s.reach t
  .next (
    if !s.lanesOn.contains l then s
    else match s.popJob l with
      | none => s
      | some (.openApdu ep p stamp irc, s) =>
        let full := decide (4096 ≤ (Store.get (fun _ => ([] : List PostDesc)) s.sht.hwHold 0x01).length)
        if full && !fast then s.cntW (R.SHT_CNT_k + 24)
        else
          let r := s.loadKey ep
          if r.2 then r.1.openApdu ep p stamp irc fast t else r.1
      | some (.sealApdu ep a, s) =>
        let r := s.loadKey ep
        if r.2 then r.1.sealApdu ep a t else r.1)

/-! Requests. -/

/-- The spread offset of an endpoint in s (R356). -/
def State.pollOffset (s : State) (ep : Nat) : Nat := s.pollDelay + ep * 2654435761 % 2 ^ 32 % max 1 s.spread

/-- POLL_DUE (R355, R356): at `t` the read of a POLLED endpoint falls due at its offset after an interval boundary, once
per interval. -/
def execPollDue (ep t : Nat) (s : State) : Host.Outcome State Fault Refusal :=
  let s := s.reach t
  .next (
    match s.epCfg ep with
    | none => s
    | some c =>
      let utc := ((s.nowNs / second : Nat) - s.utcOff).toNat
      let n := utc / max 1 c.interval + 1
      if s.running && decide (c.cls = 0 ∧ 0 < c.interval ∧ (s.sess ep).polled ≠ n) &&
          decide (utc % c.interval = s.pollOffset ep % c.interval) then
        ((s.setSess ep { s.sess ep with polled := n }).due ep (.poll (s.nextCapture c) s.nowNs)).postSched
      else s)

/-- A held request may start now (R344, R351, R358, R372, R375). -/
def State.startable (s : State) (x : Nat × Req) : Bool :=
  let se := s.sess x.1
  let paused := match x.2.kind with
    | .backfill _ _ _ => bit (s.rg R.MSN_CTRL) 0
    | .firmware _ => bit (s.rg R.MSN_CTRL) 1
    | _ => false
  let isOpen := match s.epCfg x.1 with
    | some c => decide (s.sessOpen c.eui = some x.1)
    | none => false
  let past := match x.2.kind with
    | .push _ act => decide (act ≤ s.nowNs)
    | _ => false
  isOpen && se.outReq.isNone && !se.icOut && !paused && !past && !s.key.waitResv.contains x.1

/-- The held request that starts next: the lowest class, then the earliest due (R358). -/
def State.nextStart (s : State) : Option (Nat × Req) :=
  s.msn.held.foldl (fun (b : Option (Nat × Req)) x =>
    if !s.startable x then b
    else match b with
      | none => some x
      | some y => if x.2.cls < y.2.cls ∨ (x.2.cls = y.2.cls ∧ x.2.due < y.2.due) then some x else b) none

/-- REQUEST_START (R348, R358, R366, R367): the first startable request starts; a read resumes or restarts a stalled transfer.
Pushes past their boundary are given up (R372). -/
def execRequestStart (t : Nat) (s : State) : Host.Outcome State Fault Refusal :=
  let s := s.reach t
  let live := fun (x : Nat × Req) => match x.2.kind with
    | .push _ act => decide (s.nowNs < act)
    | _ => true
  let s := { s with msn := { s.msn with held := s.msn.held.filter live } }
  .next (
    if !s.running || decide (65536 ≤ s.openReqs) then s
    else match s.nextStart with
      | none => s
      | some (ep, q) =>
        let s := { s with msn := { s.msn with held := s.msn.held.erase (ep, q) } }
        let s := s.setSess ep { s.sess ep with outReq := some { q with tries := 0 } }
        if q.kind.reads && (s.sess ep).transfer.isSome then
          if s.transferOut ep t then (s.restartTransfer ep).resend ep else (s.cntW (R.MSN_CNT_k + 28)).resend ep
        else s.resend ep)

/-- The response wait of a request is over at `t`, or it came back undelivered (R357). -/
def State.waitOver (s : State) (ep : Nat) (q : Req) (t : Nat) : Bool :=
  let pushed := decide ((s.epCfg ep).map EpCfg.cls = some 1)
  q.back || (match q.delivered, q.uplink with
    | some d, u => if pushed then (match u with
        | some v => decide (v + s.respWait ≤ t)
        | none => false) else decide (d + s.respWait ≤ t)
    | none, _ => false)

/-- RESP_WAIT_EXPIRY (R357, R366, R367): a request without a response is sent again, or ends with RESP_TIMEOUT. -/
def execRespWaitExpiry (ep t : Nat) (s : State) : Host.Outcome State Fault Refusal :=
  let s := s.reach t
  .next (
    match (s.sess ep).outReq with
    | none => s
    | some q =>
      if !s.waitOver ep q t then s
      else if s.reqTries ≤ q.tries then (s.cntW (R.MSN_CNT_k + 20)).reqFails ep
      else if s.transferOut ep t then (s.restartTransfer ep).resend ep
      else s.resend ep)

/-- How far a channel may lag before a backfill starts, in s (R364). (DESIGN CHOICE, log 72) -/
def State.lagLimit (s : State) (c : EpCfg) (period : Nat) : Nat :=
  match c.cls with
  | 0 => period + s.spread
  | 1 => 2 * c.interval
  | _ =>
    let p := (s.node c.eui).home
    3 * (((s.port p).conns.find? (fun (x : Conn) => x.ep = c.idx)).map Conn.connInt).getD 1

/-- BACKFILL_START (R364): a channel that lags beyond its limit gets a backfill read from its first missing index. -/
def execBackfillStart (ch : Chid) (t : Nat) (s : State) : Host.Outcome State Fault Refusal :=
  let s := s.reach t
  let ep := Chid.ep ch
  .next (
    match s.epCfg ep, s.sys.image.bind (fun im => im.chan ch) with
    | some c, some cc =>
      let w := Store.get (fun _ => Chan.blank) s.wrp.chans ch
      let utc := ((s.nowNs / second : Nat) - s.utcOff).toNat
      let lag := (utc / max 1 cc.period - w.lastIdx) * cc.period
      let mine := fun (k : ReqKind) => match k with
        | .backfill x _ _ => decide (x = ch)
        | _ => false
      let have_ := s.msn.held.any (fun (x : Nat × Req) => mine x.2.kind) || (match (s.sess ep).outReq with
        | some q => mine q.kind
        | none => false)
      if s.running && decide (w.lastIdx ≠ 0) && decide (s.lagLimit c cc.period < lag) && !have_ then
        (s.due ep (.backfill ch (w.lastIdx + 1) (s.captureNs cc.period (w.lastIdx + 1)))).postSched
      else s
    | _, _ => s)

/-- SESSION_LIFE_EXPIRY (R348, R366): SESSION_LIFE without a valid APDU closes the association. Block-transfer state of that
age is expired: the next attempt restarts the transfer (R367). -/
def execSessionLifeExpiry (ep t : Nat) (s : State) : Host.Outcome State Fault Refusal :=
  let s := s.reach t
  .next (if (s.sess ep).assoc && decide ((s.sess ep).lastApdu + s.sessLife ≤ t) then s.closeAssoc ep else s)

/-! Campaigns and pushes. -/

/-- BLOCK_GAP in counts (R370, R375). -/
def State.blockGap (s : State) : Nat := msCounts (100 * field (s.rg R.MSN_FW) 31 24)

/-- The next block of a port's round may leave at `t`: BLOCK_GAP has passed since the last one (R370). -/
def State.gapOver (s : State) (x : CampPort) (t : Nat) : Bool :=
  match x.sentAt with
  | none => true
  | some a => decide (a + s.blockGap ≤ t)

/-- CAMPAIGN_BLOCK (R369, R370): the next multicast block of port `p`'s round is flooded, one per BLOCK_GAP. -/
def execCampaignBlock (p t : Nat) (s : State) : Host.Outcome State Fault Refusal :=
  let s := s.reach t
  .next (
    match s.msn.campaign with
    | none => s
    | some c =>
      match c.ports.find? (fun (x : CampPort) => x.port = p ∧ x.step = 3) with
      | some x => match x.todo with
        | [] => s
        | b :: r =>
          if bit (s.rg R.MSN_CTRL) 1 || !s.running || !s.gapOver x t then s
          else
            let ps := c.ports.map (fun (y : CampPort) => if y.port = p then { y with todo := r, sentAt := some t } else y)
            let s := { s with msn := { s.msn with campaign := some { c with ports := ps } } }
            (s.flood [p] (.multicast c.num b (c.data mcBlock b)) t).campKick
      | none => s)

/-- CAMPAIGN_ACTIVATE_TIME (R370 step 8, R676): at the host's time image_activate goes to every verified target. -/
def execCampaignActivateTime (t : Nat) (s : State) : Host.Outcome State Fault Refusal :=
  let s := s.reach t
  .next (
    match s.msn.campaign with
    | none => s
    | some c => match c.activate with
      | none => s
      | some at_ =>
        if c.step = 8 ∧ at_ ≤ s.nowNs then
          let ok := c.targets.filter (fun (x : Target) => x.st = .verified)
          (ok.foldl (fun s (x : Target) => (s.due x.ep (.firmware .imageActivate)).postSched) s).campEnd
        else s)

/-- TARIFF_PUSH_LATE (R372): endpoint `ep`'s push of a card slot is not confirmed 24 h before its boundary; reported once for
each push. -/
def execTariffPushLate (ep slot t : Nat) (s : State) : Host.Outcome State Fault Refusal :=
  let s := s.reach t
  let due := fun (k : ReqKind) => match k with
    | .push x act => decide (x = slot ∧ act ≤ s.nowNs + 86400 * second ∧ s.nowNs < act)
    | _ => false
  .next (
    if !s.msn.late.contains (ep, slot) && (s.msn.held.any (fun (x : Nat × Req) => decide (x.1 = ep) && due x.2.kind) ||
        (match (s.sess ep).outReq with
          | some q => due q.kind
          | none => false)) then
      State.raise { s with msn := { s.msn with late := s.msn.late ++ [(ep, slot)] } }
        Ev.TARIFF_PUSH_LATE .warning (args := [aIdx ep]) (sc := .endpoint ep)
    else s)

/-! MSN_CTRL. -/

/-- The effect of a write of MSN_CTRL (R375): releasing firmware distribution lets its next step start. -/
def State.msnCtrlEff (s : State) (v : Word) : State :=
  (s.setReg R.MSN_CTRL (mergeWrite (s.rg R.MSN_CTRL) v 3)).campKick

/-- FW_PAUSE (R375): a write of MSN_CTRL that sets FW_PAUSE to `b`. -/
def execFwPause (r : Requester) (b : Bool) (s : State) : Host.Outcome State Fault Refusal :=
  .next (s.writeRow r (0x800000 + R.MSN_CTRL) (putField (s.rg R.MSN_CTRL) 1 1 (b2n b)) (okEff State.msnCtrlEff))

/-- BF_PAUSE (R375): a write of MSN_CTRL that sets BF_PAUSE to `b`. -/
def execBfPause (r : Requester) (b : Bool) (s : State) : Host.Outcome State Fault Refusal :=
  .next (s.writeRow r (0x800000 + R.MSN_CTRL) (putField (s.rg R.MSN_CTRL) 0 0 (b2n b)) (okEff State.msnCtrlEff))

end Sys2Proof.Machine
end

