-- ==== Sys2Proof/Machine/Warp.lean ====
section
/-!
DEFINITION. Warp (11_warp_validation.md R417 to R456): validation, estimation and editing, held chains, the handoff, checkpoint
and rebuild.
-/

namespace Sys2Proof.Machine
open Sys2Proof

/-! Parameters, records and counters. -/

/-- Channel `ch` of Warp. -/
def State.wch (s : State) (ch : Chid) : Chan := Store.get (fun _ => Chan.blank) s.wrp.chans ch

/-- Channel `ch` of Warp becomes `c`. -/
def State.setWch (s : State) (ch : Chid) (c : Chan) : State :=
  { s with wrp := { s.wrp with chans := Store.put (fun _ => Chan.blank) s.wrp.chans ch c } }

/-- The record header of endpoint `ep`. -/
def State.epRec (s : State) (ep : Nat) : EpRec := Store.get (fun _ => EpRec.blank) s.wrp.eps ep

/-- The record header of endpoint `ep` becomes `x`. -/
def State.setEpRec (s : State) (ep : Nat) (x : EpRec) : State :=
  { s with wrp := { s.wrp with eps := Store.put (fun _ => EpRec.blank) s.wrp.eps ep x } }

/-- Warp counter `k` counts (R455). -/
def State.wcnt (s : State) (k : Nat) : State := s.cntW (R.WRP_CNT_k + 4 * (k % 32))

/-- FUT_TOL in s. -/
def State.futTol (s : State) : Nat := field (s.rg R.WRP_CFG) 31 24
/-- GAP_WAIT in counts. -/
def State.gapWait (s : State) : Nat := sec (60 * field (s.rg R.WRP_CFG) 23 8)
/-- PAST_MAX in ns. -/
def State.pastMax (s : State) : Nat := field (s.rg R.WRP_CFG2) 15 0 * 86400 * second

/-- The zone offset of a channel's endpoint in minutes. -/
def State.zoneOf (s : State) (ch : Chid) : Int := ((s.epCfg (Chid.ep ch)).map EpCfg.zoneMin).getD 0

/-- The parameter set of a channel; one that tests nothing where the image gives none. -/
def State.psetOf (s : State) (c : Chan) : PSet :=
  ((s.sys.image.bind (fun im => im.pset c.pset))).getD ⟨0, 2 ^ 32 - 1, 255, 2 ^ 32 - 1, 0, 0, 0, 0, 0, 0, 0, 0, 0⟩

/-- A domain has locked since t_r (R429). -/
def State.everLocked (s : State) : Bool := s.tim.domA.everLocked || s.tim.domB.everLocked

/-- An entry's archive record goes to Beam; while Beam refuses writes it is dropped and counted (R442, R445). -/
def State.wArchive (s : State) (e : Entry) : State :=
  let st : Stream :=
    if e.kind = .edit then .edit
    else if (s.epCfg (Chid.ep e.ch)).map EpCfg.cls = some 2 then .fastRaw else .interval
  let s1 := s.archive st (s.entryDay e) (.entry e)
  if s.sysWrites then s1 else s1.wcnt 14

/-- An entry takes the next JSEQ and goes to the Warp journal (R449): the state and the entry with its JSEQ.
(DESIGN CHOICE, log 84) -/
def State.wJournal (s : State) (e : Entry) : State × Entry :=
  let e' := { e with jseq := s.wrp.jseq + 1 }
  let s := State.journalState { s with wrp := { s.wrp with jseq := s.wrp.jseq + 1 } }
  (if s.wrp.noJournal then s else { s with bem := { s.bem with warpBuf := s.bem.warpBuf ++ [e'] } }, e')

/-! The profile (R434, R435). -/

/-- The local hour, counted from the epoch, in which period `k` starts. -/
def localHour (zoneMin : Int) (period k : Nat) : Nat := ((((k - 1) * period : Nat) : Int) + zoneMin * 60).toNat / 3600

/-- The profile slot of a local hour: 24 x day type + hour (R434). -/
def profSlot (hols : List (Nat × Nat × Nat)) (h : Nat) : Nat :=
  let d := h / 24
  let ty := if weekday d = 0 ∨ hols.contains (civil d) then 2 else if weekday d = 6 then 1 else 0
  24 * ty + h % 24

/-- weight(v) in 2^-20 (R434): 2^((v - 1)/8). (DESIGN CHOICE, log 83) -/
def weight (v : Nat) : Nat :=
  if v = 0 then 0
  else 2 ^ ((v - 1) / 8) * (match (v - 1) % 8 with
    | 0 => 1048576
    | 1 => 1143480
    | 2 => 1246974
    | 3 => 1359834
    | 4 => 1482910
    | 5 => 1617125
    | 6 => 1763488
    | _ => 1923098)

/-- enc of R435: 0 for no consumption, otherwise min(255, 1 + round(8 x log2 x)). (DESIGN CHOICE, log 83) -/
def profEnc (x : Nat) : Nat := if x = 0 then 0 else min 255 (1 + (Nat.log2 (x ^ 16) + 1) / 2)

/-- P + round((enc - P) / 8), half away from zero. -/
def profStep (p enc : Nat) : Nat := if p ≤ enc then p + (enc - p + 4) / 8 else p - (p - enc + 4) / 8

/-- The channel as an entry of local hour `h` begins to be applied (R435): the finished hour is learnt when a new one starts.
(DEDUCED, log 81) -/
def Chan.hour (c : Chan) (slot : Nat → Nat) (old h : Nat) : Chan :=
  if c.lastIdx = 0 ∨ h ≤ old then c
  else
    let k := slot old
    let p := Store.get (fun _ => 0) c.profile k
    { c with
      profile := if c.hourDirty then c.profile else Store.put (fun _ => 0) c.profile k (profStep p (profEnc c.hourAcc)),
      profDays := if old % 24 = 23 then min 0xFFFF (c.profDays + 1) else c.profDays,
      hourAcc := 0, hourDirty := false }

/-- The advance of a total modulo M. -/
def advMod (m old new : Nat) : Nat := if old ≤ new then new - old else new + m - old

/-- A channel block after an entry is applied (R427, R428, R431, R435, R541). (DEDUCED, log 81) -/
def Chan.applied (c : Chan) (slot : Nat → Nat) (hr : Nat → Nat) (e : Entry) : Chan :=
  let m := 10 ^ c.n
  let base := decide (c.lastTime = 0) || nbit e.flags 9
  let carries := decide (e.kind = .actual ∨ e.kind = .estimated)
  let inc := if carries && !base && decide (c.appTime ≠ 0) then advMod m c.appF e.totF else 0
  let c := c.hour slot (hr c.lastIdx) (hr e.ridx)
  let c := { c with
    lastIdx := max c.lastIdx e.ridx, lastFlags := e.flags, hourAcc := min 0xFFFFFFFF (c.hourAcc + inc),
    hourDirty := c.hourDirty || decide (e.kind = .estimated ∨ e.kind = .rejected) || nbit e.flags 1 }
  let c := if carries then { c with appTime := e.capture, appF := e.totF, appR := e.totR } else c
  match e.kind with
  | .actual =>
    let rate := if base then c.rate else some (min 0xFFFFFFFF (advMod m c.totF e.totF / max 1 (e.ridx - c.baseIdx)))
    { c with totF := e.totF, totR := e.totR, lastTime := e.capture, baseIdx := e.ridx, rate := rate, rejs := [], rejRun := 0 }
  | .rejected => { c with rejs := c.rejs ++ [e.ridx] }
  | _ => c

/-- Holidays of the PROC section. -/
def State.holidays (s : State) : List (Nat × Nat × Nat) := (s.sys.image.map Image.holidays).getD []

/-- An entry is applied to its record, journaled, and made known to BAL (W6, W7 of R423): the state and the entry with its
JSEQ. -/
def State.applyEntry (s : State) (e : Entry) : State × Entry :=
  let c := s.wch e.ch
  let m := 10 ^ c.n
  let base := decide (c.lastTime = 0) || nbit e.flags 9
  let note : BalNote := ⟨e.ch, e.ridx, c.appTime, e.capture, advMod m c.appF e.totF, advMod m c.appR e.totR,
    base || decide (c.appTime = 0), e.flags, decide (e.kind = .actual)⟩
  let r := s.wJournal e
  let s := r.1.setWch e.ch (c.applied (profSlot s.holidays) (localHour (s.zoneOf e.ch) c.period) r.2)
  let s := if e.kind = .actual ∨ e.kind = .estimated then
    { s with bal := { s.bal with inbox := s.bal.inbox ++ [note] } } else s
  (s, r.2)

/-- Meter status of an actual reading in EFLAGS (R418). -/
def eflagsOf (old flags : Nat) : Nat := flags / 2048 % 8 + 8 * b2n (nbit flags 5) + old / 16 * 16

/-! The handoff queue (R442 to R444). -/

/-- Channel `ch` is in LEGAL_HOLD or the device is paused (R443). -/
def State.onProbe (s : State) (ch : Chid) : Bool := s.wrp.paused || (s.wch ch).legalHold

/-- An entry leaves channel `ch`'s queue with NOT_OFFERED (R440, R443, R444). -/
def State.notOffered (s : State) (ch : Chid) (e : Entry) : State :=
  let c := s.wch ch
  let q := c.queue.filter (fun (x : Entry) => x.ridx ≠ e.ridx)
  ((s.setWch ch { c with queue := q, anchorIdx := if c.anchorIdx = some e.ridx then none else c.anchorIdx }).wcnt 12).wArchive
    { e with flags := e.flags + if nbit e.flags 14 then 0 else 16384 }

/-- The entry of a channel in flight. -/
def Chan.flying (c : Chan) (e : Entry) : Bool := c.inFlight && decide (c.offered = some e.ridx)

/-- Every queued entry older than the newest leaves, but for one in flight (R443). -/
def State.trim (s : State) (ch : Chid) : State :=
  let c := s.wch ch
  (c.queue.dropLast.filter (fun e => !c.flying e)).foldl (fun s e => s.notOffered ch e) s

/-- Channels of Warp that are enabled. -/
def State.wchans (s : State) : List Chid := (s.wrp.chans.filter (fun (x : Nat × Chan) => x.2.en)).map Prod.fst

/-- Entries in the queue region (R417, R454). -/
def State.queueUsed (s : State) : Nat :=
  s.wrp.chans.foldl (fun n (x : Nat × Chan) =>
    n + x.2.queue.length + (x.2.held.filter (fun (h : Nat × Entry) => h.2.kind ≠ .gap)).length) 0

/-! The pipeline (R423 to R436). -/

/-- An entry is REJECTED (R428, R429, R430, R440): `run` for MONO and RATE_HIGH, three of which in a row bring VEE_HOLD.
(DEDUCED, log 82) -/
def State.rejectEntry (s : State) (e : Entry) (cnt : Nat) (run : Bool) : State :=
  let s := s.wcnt cnt
  let r := s.applyEntry { e with kind := .rejected, flags := e.flags + if nbit e.flags 7 then 0 else 128 }
  let c := r.1.wch e.ch
  let n := if run then min 3 (c.rejRun + 1) else 0
  let enter := decide (n = 3) && !c.veeHold
  let s := (r.1.setWch e.ch { c with rejRun := n, veeHold := c.veeHold || enter }).wArchive r.2
  if enter then
    s.raise Ev.VEE_HOLD .warning (args := [aIdx e.ch]) (sc := .endpoint (Chid.ep e.ch)) (lasting := true)
  else s

/-- Measurands that a reading of a TYPE has (R420, R457): MEAS0 to the number less 1. -/
def measurands (type : Nat) : Nat :=
  match type with
  | 0x00 => 0
  | 0x03 | 0x04 => 1
  | 0x01 | 0x02 | 0x05 => 2
  | _ => 3

/-- Measurands out of range take their substitutes (R430): the entry, and whether any was. -/
def substitute (p : PSet) (e : Entry) : Entry × Bool :=
  let k := measurands p.type
  let b0 := decide (0 < k) && decide (e.m0 < p.min0 ∨ p.max0 < e.m0)
  let b1 := decide (1 < k) && decide (e.m1 < p.min1 ∨ p.max1 < e.m1)
  let b2 := decide (2 < k) && decide (e.m2 < p.min2 ∨ p.max2 < e.m2)
  if !(b0 || b1 || b2) then (e, false)
  else
    let fl := setNbit (setNbit e.flags 1 true) 2 true
    ({ e with m0 := if b0 then p.sub0 else e.m0, m1 := if b1 then p.sub1 else e.m1, m2 := if b2 then p.sub2 else e.m2,
              flags := fl }, true)

/-- The delta of a direction (R430): none for MONO. -/
def wDelta (m last t : Nat) : Option Nat :=
  if m ≤ t then none
  else if last ≤ t then some (t - last)
  else if m < 2 * (last - t) then some (t + m - last)
  else none

/-- Index `k` of a channel lies inside the outage span (R436). -/
def State.inOutage (s : State) (c : Chan) (k : Nat) : Bool :=
  match s.wrp.outage with
  | some (x, y) => decide (x ≤ s.captureNs c.period k ∧ s.captureNs c.period k ≤ y)
  | none => false

/-- ESTIMATED entries for the indices between the base index and `e` that hold no entry (R434, R436). (DEDUCED, log 80) -/
def State.estimates (s : State) (c : Chan) (e : Entry) (dF dR : Nat) : List Entry :=
  let a := c.baseIdx
  let m := 10 ^ c.n
  let len := e.ridx - a
  let ks := (upTo len).map (fun i => a + 1 + i)
  let inSpan := s.inOutage c
  let linear := decide (c.est = 1) || decide (c.profDays < 56) || ks.any inSpan
  let slot := fun k => profSlot s.holidays (localHour (s.zoneOf e.ch) c.period k)
  let w0 := fun (k : Nat) => if linear then 1 else weight (Store.get (fun _ => 0) c.profile (slot k))
  let zero := decide (ks.foldl (fun n k => n + w0 k) 0 = 0)
  let w := fun k => if zero then 1 else w0 k
  let sb := ks.foldl (fun n k => n + w k) 0
  let mk := fun (k sk : Nat) => (⟨e.ch, k, s.captureNs c.period k, 1 + 256 * b2n (inSpan k), 0,
    (c.totF + dF * sk / sb) % m, (c.totR + dR * (k - a) / len) % m, 0, 0, 0, 0xFF, .estimated, 0⟩ : Entry)
  (ks.dropLast.foldl (fun (x : Nat × List Entry) k =>
    let sk := x.1 + w k
    (sk, if c.rejs.contains k then x.2 else x.2 ++ [mk k sk])) (0, [])).2

/-- An ACTUAL entry is applied and joins the handoff queue (W6, W7 of R423). (DEDUCED, log 82) -/
def State.acceptEntry (s : State) (e : Entry) : State :=
  let r := s.applyEntry e
  let s := r.1
  let ep := Chid.ep e.ch
  let x := s.epRec ep
  let s := s.setEpRec ep { x with eflags := eflagsOf x.eflags e.flags }
  let c := s.wch e.ch
  let s := (s.setWch e.ch { c with queue := c.queue ++ [r.2] }).wcnt 0
  if s.onProbe e.ch then s.trim e.ch else s

/-- W5 and W6 for a base entry (R427, R440): the first of a channel, or the re-anchored one. -/
def State.baseEntry (s : State) (e : Entry) (anchor : Bool) : State :=
  let c := s.wch e.ch
  let m := 10 ^ c.n
  if m ≤ e.totF ∨ m ≤ e.totR then s.rejectEntry e 2 true
  else
    let x := substitute (s.psetOf c) e
    let s := if x.2 then s.wcnt 6 else s
    if anchor then
      let s := (c.queue.filter (fun q => !c.flying q)).foldl (fun s q => s.notOffered e.ch q) s
      let s := s.setWch e.ch { s.wch e.ch with anchorIdx := some e.ridx }
      s.acceptEntry { x.1 with flags := setNbit x.1.flags 9 true }
    else s.acceptEntry x.1

/-- W4 to W6 for an entry whose indices are covered (R423, R429 to R434). (DEDUCED, log 80) -/
def State.vee (s : State) (e : Entry) : State :=
  let c := s.wch e.ch
  let p := s.nowNs
  if s.everLocked ∧ p + s.futTol * second < e.capture then s.rejectEntry e 4 false
  else if e.capture + s.pastMax < p then s.rejectEntry e 5 false
  else if c.armed && c.anchorIdx.isNone then s.baseEntry e true
  else if c.lastTime = 0 then s.baseEntry e false
  else
    let m := 10 ^ c.n
    let n := e.ridx - c.baseIdx
    let ps := s.psetOf c
    match wDelta m c.totF e.totF, wDelta m c.totR e.totR with
    | some dF, some dR =>
      if ps.qmax * n < dF ∨ ps.qmax * n < dR then s.rejectEntry e 3 true
      else
        let x := substitute ps e
        let s := if x.2 then s.wcnt 6 else s
        let sus := match c.rate with
          | some r => decide (ps.rocX * r + ps.rocFloor < dF / n)
          | none => false
        let s := if sus then s.wcnt 7 else s
        let e := { x.1 with flags := setNbit x.1.flags 3 (sus || nbit x.1.flags 3) }
        let hit := (upTo n).any (fun i => s.inOutage c (c.baseIdx + 1 + i))
        let es := if n ≤ 1 ∨ (c.est = 0 ∧ !hit) then [] else s.estimates c e dF dR
        let s := es.foldl (fun s k =>
          let r := s.applyEntry k
          (r.1.wArchive r.2).wcnt 8) s
        s.acceptEntry e
    | _, _ => s.rejectEntry e 2 true

/-- The held chain in RIDX order with one more item, behind those of its index (R432). -/
def insertHeld (h : Nat × Entry) : List (Nat × Entry) → List (Nat × Entry)
  | [] => [h]
  | x :: r => if h.2.ridx < x.2.ridx then h :: x :: r else x :: insertHeld h r

/-- Every index between the last applied one and `k` holds a marker (R432). -/
def Chan.covered (c : Chan) (k : Nat) : Bool :=
  (upTo (k - c.lastIdx - 1)).all (fun i =>
    c.held.any (fun (h : Nat × Entry) => decide (h.2.kind = .gap ∧ h.2.ridx = c.lastIdx + 1 + i)))

/-- The lowest held entry that is no marker. -/
def Chan.lowest (c : Chan) : Option (Nat × Entry) := c.held.find? (fun (h : Nat × Entry) => h.2.kind ≠ .gap)

/-- Held entry `h` leaves the chain for W3, and markers it passes with it (R432). -/
def State.releaseOne (s : State) (ch : Chid) (h : Nat × Entry) : State :=
  let c := s.wch ch
  let s := s.setWch ch { c with held := c.held.erase h }
  let s := if h.2.ridx ≤ c.lastIdx then s.wcnt 1 else s.vee h.2
  let c := s.wch ch
  s.setWch ch { c with held := c.held.filter (fun (x : Nat × Entry) => !(decide (x.2.kind = .gap ∧ x.2.ridx ≤ c.lastIdx))) }

/-- Held entries are released while their indices are covered (R432). -/
def State.release : Nat → State → Chid → State
  | 0, s, _ => s
  | n + 1, s, ch =>
    let c := s.wch ch
    match c.lowest with
    | none => s
    | some h => if c.covered h.2.ridx || decide (h.2.ridx ≤ c.lastIdx) then State.release n (s.releaseOne ch h) ch else s

/-- Held entries are released as far as they are covered. -/
def State.releaseAll (s : State) (ch : Chid) : State := State.release ((s.wch ch).held.length + 1) s ch

/-- A gap closes (R433): the lowest held entry is released whatever is missing below it, then what follows. (DEDUCED, log 82) -/
def State.closeGap (s : State) (ch : Chid) : State :=
  match (s.wch ch).lowest with
  | none => s
  | some h => (s.releaseOne ch h).releaseAll ch

/-- Every open gap of channel `ch` closes (R433, R444). -/
def State.closeGaps (s : State) (ch : Chid) : State := repeatN (fun s => s.closeGap ch) ((s.wch ch).held.length) s

/-- Channels by queued entries, the one with most first; the lower channel among equals. (DESIGN CHOICE, log 83) -/
def State.fullest (s : State) : Option Chid :=
  (s.wrp.chans.foldl (fun (b : Option (Chid × Nat)) (x : Nat × Chan) =>
    let h := (x.2.held.filter (fun (h : Nat × Entry) => h.2.kind ≠ .gap)).length
    let k := x.2.queue.length + h
    if k ≤ 1 ∨ (h = 0 ∧ (x.2.queue.dropLast.all x.2.flying)) then b
    else match b with
      | none => some (x.1, k)
      | some (_, m) => if m < k then some (x.1, k) else b) none).map Prod.fst

/-- Channels are collapsed until the queue region has come down (R444). (DESIGN CHOICE, log 83) -/
def State.collapseLoop : Nat → State → State
  | 0, s => s
  | n + 1, s =>
    if s.queueUsed < 6291456 then s
    else match s.fullest with
      | none => s
      | some ch => State.collapseLoop n ((s.closeGaps ch).trim ch)

/-- A full queue region is collapsed (R444). -/
def State.collapse (s : State) : State :=
  if s.queueUsed ≤ 7864320 then s
  else
    let s := State.collapseLoop s.wrp.chans.length s
    (s.cntS (R.WRP_CNT_k + 60)).raise Ev.QUEUE_COLLAPSE .warning

/-- A reading passes W1 to W7 (R423). -/
def State.wReading (s : State) (e : Entry) : State :=
  let c := s.wch e.ch
  if !c.en then s.wcnt 13
  else
    let x := s.epRec (Chid.ep e.ch)
    let s := s.setEpRec (Chid.ep e.ch) { x with lastRx := s.nowNs }
    if e.ridx ≤ c.lastIdx then s.wcnt 1
    else if c.covered e.ridx then ((s.vee e).releaseAll e.ch).collapse
    else (s.setWch e.ch { c with held := insertHeld (s.tim.cnt, e) c.held }).collapse

/-- GAP markers for the indices `x` to `y` that are neither applied nor marked (R426, R453). -/
def State.wGap (s : State) (ch : Chid) (x y : Nat) : State :=
  let c := s.wch ch
  if !c.en then s.wcnt 13
  else
    let lo := max x (c.lastIdx + 1)
    let ks := ((upTo (y + 1 - lo)).map (fun i => lo + i)).filter (fun k =>
      !c.held.any (fun (h : Nat × Entry) => decide (h.2.kind = .gap ∧ h.2.ridx = k)))
    let mk := fun (k : Nat) => (⟨ch, k, 0, 0, 0, 0, 0, 0, 0, 0, 0xFF, .gap, 0⟩ : Entry)
    let s := s.setWch ch { c with held := ks.foldl (fun l k => insertHeld (s.tim.cnt, mk k) l) c.held }
    s.releaseAll ch

/-- The flags a reading may bring from MSN (R421). -/
def msnFlags (f : Nat) : Nat := f / 32 % 4 * 32 + f / 2048 % 8 * 2048 + f / 32768 % 2 * 32768

/-- WARP_ITEM (R423): the oldest item from MSN, or one that a core extracted (R398). A GAP report is GAP_REPORT's.
(DESIGN CHOICE, log 143) -/
def execWarpItem (i : Option WarpItem) (s : State) : Host.Outcome State Fault Refusal :=
  .next (
    if s.sys.st ≠ .active ∧ s.sys.st ≠ .start then s
    else match i with
      | some (.reading e) =>
        (s.wReading { e with kind := .actual, disp := 0xFF, jseq := 0, flags := msnFlags e.flags }).hostReadTaken (Chid.ep e.ch)
      | some (.gap _ _ _) => s
      | none => match s.msn.toWarp with
        | .reading e :: r =>
          let s := { s with msn := { s.msn with toWarp := r } }
          (s.wReading { e with disp := 0xFF }).hostReadTaken (Chid.ep e.ch)
        | _ => s)

/-- GAP_REPORT (R365, R426): the oldest item from MSN is a GAP report. -/
def execGapReport (s : State) : Host.Outcome State Fault Refusal :=
  .next (match s.msn.toWarp with
    | .gap ch x y :: r => State.wGap { s with msn := { s.msn with toWarp := r } } ch x y
    | _ => s)

/-- GAP_WAIT_EXPIRY (R433): at `t` GAP_WAIT has passed since the first held entry of channel `ch`'s chain. -/
def execGapWaitExpiry (ch : Chid) (t : Nat) (s : State) : Host.Outcome State Fault Refusal :=
  let s := s.reach t
  let hs := (s.wch ch).held.filter (fun (h : Nat × Entry) => h.2.kind ≠ .gap)
  .next (match hs with
    | [] => s
    | h :: r =>
      let first := r.foldl (fun m (x : Nat × Entry) => min m x.1) h.1
      if first + s.gapWait ≤ t then s.closeGap ch else s)

/-! The handoff (R437 to R443). -/

/-- Messages outstanding on the handoff. -/
def State.outstanding (s : State) : Nat := (s.wrp.chans.filter (fun (x : Nat × Chan) => x.2.inFlight)).length

/-- An entry of channel `ch` is offered (R437, R438). -/
def State.handOver (s : State) (ch : Chid) (e : Entry) : State :=
  let c := s.wch ch
  let g := match c.offered with
    | some p => if p = e.ridx then e.gaplen else min 0xFFFFFFFF (e.ridx - p - 1)
    | none => 0
  let e' := { e with gaplen := g, flags := if g = 0 then e.flags else setNbit e.flags 4 true }
  let c' := { c with inFlight := true, probe := s.onProbe ch, offered := some e.ridx,
                     queue := c.queue.map (fun (x : Entry) => if x.ridx = e.ridx then e' else x) }
  let s := (s.setWch ch c').wcnt 9
  { s with slv := { s.slv with inbox := s.slv.inbox ++ [e'] } }

/-- VEE_HOLD does not keep the entry back (R437, R440). -/
def Chan.mayOffer (c : Chan) (e : Entry) : Bool := !c.inFlight && (!c.veeHold || decide (c.anchorIdx = some e.ridx))

/-- HANDOFF_OFFER (R437): Warp offers channel `ch`'s oldest queued reading when the handoff conditions hold. -/
def execHandoffOffer (ch : Chid) (s : State) : Host.Outcome State Fault Refusal :=
  .next (match (s.wch ch).queue with
    | [] => s
    | e :: _ =>
      if s.slv.handoff && !s.onProbe ch && (s.wch ch).mayOffer e && decide (s.outstanding < 256) then s.handOver ch e else s)

/-- Warp acts on a disposition (R440, R441, R443). -/
def State.disposed (s : State) (ch : Chid) (ridx code : Nat) : State :=
  let c := s.wch ch
  let s := if code = 0 then s else if code = 1 then s.wcnt 10 else s.wcnt 11
  match c.queue.find? (fun (e : Entry) => e.ridx = ridx) with
  | none => s.setWch ch { c with inFlight := false, probe := false, disp := code, handIdx := ridx }
  | some e =>
    let sc := EvScope.endpoint (Chid.ep ch)
    let anchor := decide (c.anchorIdx = some ridx)
    let ends := c.probe
    let c := { c with inFlight := false, probe := false, disp := code, handIdx := ridx }
    let out := { c with queue := c.queue.filter (fun (x : Entry) => x.ridx ≠ ridx) }
    let gone := fun (s : State) (c : Chan) => (s.setWch ch c).wArchive { e with disp := code }
    match code with
    | 4 => (s.setWch ch { c with legalHold := true }).trim ch
    | 5 =>
      let s := { s.setWch ch c with wrp := { (s.setWch ch c).wrp with paused := true } }
      s.wchans.foldl (fun s k => s.trim k) s
    | 2 =>
      let s := gone s { out with veeHold := true, armed := out.armed && !anchor, anchorIdx := if anchor then none else out.anchorIdx }
      let s := if anchor then s.raise Ev.REANCHOR_REFUSED .warning (args := [aIdx ch]) (sc := sc) else s
      if c.veeHold then s else s.raise Ev.VEE_HOLD .warning (args := [aIdx ch]) (sc := sc) (lasting := true)
    | k =>
      if 2 ≤ k then gone s { out with anchorIdx := if anchor then none else out.anchorIdx }
      else
        let out := { out with legalHold := out.legalHold && !ends }
        let s := { s with wrp := { s.wrp with paused := s.wrp.paused && !ends } }
        if anchor then
          (gone s { out with veeHold := false, armed := false, anchorIdx := none, rejRun := 0 }).endEv Ev.VEE_HOLD
            (fun x => decide (x.args = [aIdx ch]))
        else gone s out

/-- DISPOSITION (R441): the oldest disposition from Selvedge reaches Warp. -/
def execDisposition (s : State) : Host.Outcome State Fault Refusal :=
  .next (match s.slv.dispo with
    | [] => s
    | (ch, ridx, code) :: r => State.disposed { s with slv := { s.slv with dispo := r } } ch ridx code)

/-- The affected channel probed next, in turn after the last one (R443). -/
def State.probeNext (s : State) : Option (Chid × Entry) :=
  let cs := s.wchans.filterMap (fun ch =>
    match (s.wch ch).queue.getLast? with
    | some e => if s.onProbe ch && (s.wch ch).mayOffer e then some (ch, e) else none
    | none => none)
  match cs.find? (fun (x : Chid × Entry) => s.wrp.probeAt < x.1) with
  | some x => some x
  | none => cs.head?

/-- HOLD_PROBE (R443): Warp offers the newest entry of one affected channel. -/
def execHoldProbe (s : State) : Host.Outcome State Fault Refusal :=
  .next (match s.probeNext with
    | none => s
    | some (ch, e) =>
      if s.slv.handoff && decide (s.outstanding < 256) then
        State.handOver { s with wrp := { s.wrp with probeAt := ch } } ch e
      else s)

/-! Commands (R440, R447, R450, R454). -/

/-- The result of a command in WRP_CMD_STAT. -/
def State.cmdResult (s : State) (k : Nat) : State := { s with wrp := { s.wrp with cmdResult := k } }

/-- REANCHOR (R440). -/
def State.reanchor (s : State) (ch : Chid) : State :=
  let c := s.wch ch
  if !c.en then s.cmdResult 1
  else if !c.veeHold then s.cmdResult 3
  else (s.setWch ch { c with armed := true }).cmdResult 0

/-- A 64-bit value of two registers. -/
def State.rg64 (s : State) (a : Nat) : Nat := (s.rg a).toNat + 2 ^ 32 * (s.rg (a + 4)).toNat

/-- EDIT (R447). -/
def State.edit (s : State) (ch : Chid) : State :=
  let c := s.wch ch
  let k := (s.rg R.WRP_CMD_RIDX).toNat
  let cap := s.captureNs c.period k
  if !c.en then s.cmdResult 1
  else if c.lastIdx < k ∨ cap + s.pastMax < s.nowNs then s.cmdResult 2
  else
    let e : Entry := ⟨ch, k, cap, 1024, 0, s.rg64 R.WRP_CMD_TOT_0, s.rg64 R.WRP_CMD_TOTR_0, 0, 0, 0, 0xFF, .edit, 0⟩
    let r := s.wJournal e
    (r.1.wArchive r.2).cmdResult 0

/-- The effect of a write of WRP_CMD (R454). -/
def State.wrpCmdEff (s : State) (v : Word) : State × Status :=
  match field v 31 28 with
  | 1 => (s.reanchor (field v 21 0), .ok)
  | 2 => (s.edit (field v 21 0), .ok)
  | _ => (s, .denied)

/-- A WRP_CMD word. -/
def wrpCmd (op ch : Nat) : Word := packWord [(28, 4, op), (0, 22, ch)]

/-- REANCHOR (R440, R454): a write of WRP_CMD with OP 1. -/
def execReanchor (r : Requester) (ch : Chid) (s : State) : Host.Outcome State Fault Refusal :=
  .next (s.writeRow r (0x800000 + R.WRP_CMD) (wrpCmd 1 ch) State.wrpCmdEff)

/-- EDIT (R447, R454): a write of WRP_CMD with OP 2; index and totals stand in their registers. -/
def execEdit (r : Requester) (ch : Chid) (s : State) : Host.Outcome State Fault Refusal :=
  .next (s.writeRow r (0x800000 + R.WRP_CMD) (wrpCmd 2 ch) State.wrpCmdEff)

/-- The effect of a write of WRP_CTRL (R454). -/
def State.wrpCtrlEff (s : State) (v : Word) : State :=
  if bit v 0 then { s with wrp := { s.wrp with ckptSlice := 0 } } else s

/-- CKPT_NOW (R454): a write of WRP_CTRL with CKPT_NOW set. -/
def execCkptNow (r : Requester) (s : State) : Host.Outcome State Fault Refusal :=
  .next (s.writeRow r (0x800000 + R.WRP_CTRL) 1 (okEff State.wrpCtrlEff))

/-- What slice `i` holds (R450): 256 records. -/
def State.warpSlice (s : State) (i : Nat) : WarpSlice :=
  { eps := s.wrp.eps.filter (fun (x : Nat × EpRec) => x.1 / 256 = i),
    chans := s.wrp.chans.filter (fun (x : Nat × Chan) => Chid.ep x.1 / 256 = i), stamp := s.wrp.jseq }

/-- WARP_CHECKPOINT_SLICE (R445, R450): the present slice is copied and stamped. -/
def execWarpCheckpointSlice (s : State) : Host.Outcome State Fault Refusal :=
  let s := s.journalState
  .next (
    if s.wrp.noJournal || !s.running then s
    else
      let i := s.wrp.ckptSlice
      let s := { s with nand := { s.nand with
        warpSlices := Store.put (fun _ => none) s.nand.warpSlices i (some (s.warpSlice i)) } }
      { s with wrp := { s.wrp with
        ckptSlice := (i + 1) % 4096, ckptCycles := if i = 4095 then (s.wrp.ckptCycles + 1) % 65536 else s.wrp.ckptCycles } })

/-- The effect of a write of WRP_REC_IDX (R454): the record is snapshotted. -/
def State.recIdxEff (s : State) (v : Word) : State :=
  let i := field v 19 0
  let s := s.setReg R.WRP_REC_IDX (mergeWrite (s.rg R.WRP_REC_IDX) v 0xFFFFF)
  { s with wrp := { s.wrp with snap := some (s.epRec i, i, (upTo 4).map (fun c => s.wch (mkChid i c))) } }

/-- WRP_REC_IDX_WRITE (R454). -/
def execWrpRecIdxWrite (r : Requester) (v : Word) (s : State) : Host.Outcome State Fault Refusal :=
  .next (s.writeRow r (0x800000 + R.WRP_REC_IDX) v (okEff State.recIdxEff))

/-! Phase 7 (R162, R451). -/

/-- The records of the ENDPT section with empty channel state (R419, R448). -/
def Image.freshEps (im : Image) : Store EpRec :=
  im.eps.foldl (fun m (e : EpCfg) => Store.put (fun _ => EpRec.blank) m e.idx ⟨true, e.cls, e.chans.length, 0, 0⟩) []

/-- The channel blocks of the ENDPT section with empty state. -/
def Image.freshChans (im : Image) : Store Chan :=
  im.eps.foldl (fun m (e : EpCfg) => e.chans.foldl (fun m (x : Nat × ChCfg) =>
    Store.put (fun _ => Chan.blank) m (mkChid e.idx x.1)
      { Chan.blank with en := true, raw := x.2.raw, est := x.2.est, n := x.2.n, pset := x.2.pset, period := x.2.period }) m) []

/-- A checkpointed block with the configuration the image gives now; held chain, queue and HAND_IDX start empty (R451). -/
def Chan.reload (c old : Chan) : Chan :=
  { old with en := c.en, raw := c.raw, est := c.est, n := c.n, pset := c.pset, period := c.period, held := [], queue := [],
             handIdx := 0, inFlight := false, probe := false, offered := none, anchorIdx := none }

/-- Slices of the checkpoint are loaded into records of the image (R451 step 1). -/
def State.loadSlices (s : State) : State :=
  s.nand.warpSlices.foldl (fun s (x : Nat × Option WarpSlice) =>
    match x.2 with
    | none => s
    | some w =>
      let s := w.eps.foldl (fun s (y : Nat × EpRec) =>
        let cur := s.epRec y.1
        if cur.valid then s.setEpRec y.1 { cur with eflags := y.2.eflags, lastRx := y.2.lastRx } else s) s
      w.chans.foldl (fun s (y : Nat × Chan) =>
        let cur := s.wch y.1
        if cur.en then s.setWch y.1 (cur.reload y.2) else s) s) s

/-- The stamp of the slice that holds a channel. -/
def State.stampOf (s : State) (ch : Chid) : Nat :=
  match Store.get (fun _ => none) s.nand.warpSlices (Chid.ep ch / 256) with
  | some w => w.stamp
  | none => 0

/-- Journal entries above their slices' stamps are replayed in JSEQ order (R451 step 2). -/
def State.replayWarp (s : State) : State :=
  (s.nand.warpJournal ++ s.nand.flushWarp).foldl (fun s (e : Entry) =>
    let c := s.wch e.ch
    let s := { s with wrp := { s.wrp with jseq := max s.wrp.jseq e.jseq } }
    if !c.en ∨ e.jseq ≤ s.stampOf e.ch ∨ e.kind = .edit then s
    else
      let s := s.setWch e.ch (c.applied (profSlot s.holidays) (localHour (s.zoneOf e.ch) c.period) e)
      if e.kind = .actual then
        let x := s.epRec (Chid.ep e.ch)
        s.setEpRec (Chid.ep e.ch) { x with eflags := eflagsOf x.eflags e.flags }
      else s) s

/-- Each channel's index is raised to Selvedge's copy where that is higher, and its base given up (R451 step 4). -/
def State.raiseIdx (s : State) : State :=
  s.wchans.foldl (fun s ch =>
    let c := s.wch ch
    let k : Nat := (s.lch ch).lastIdx
    if c.lastIdx < k then s.setWch ch { c with lastIdx := k, lastTime := 0, appTime := 0 } else s) s

/-- Warp rebuilds its records (R162, R451); `readable`: the system area and the checkpoint in it can be read. -/
def State.warpRebuild (s : State) (readable : Bool) : State :=
  match s.sys.image with
  | none => s
  | some im =>
    let high : Nat := s.nand.warpSlices.foldl (fun m (x : Nat × Option WarpSlice) => match x.2 with
      | some w => max m w.stamp
      | none => m) s.wrp.jseq
    let s := { s with wrp := { s.wrp with eps := im.freshEps, chans := im.freshChans, jseq := high } }
    let first := s.sys.formatted || (readable && s.nand.warpSlices.isEmpty)
    if first then s.raiseIdx
    else if readable then (s.loadSlices.replayWarp).raiseIdx
    else
      let s := s.raiseIdx
      let cold := Store.mapAll (fun _ => EpRec.blank) (fun _ (x : EpRec) => { x with eflags := setNbit x.eflags 4 true }) s.wrp.eps
      let s := { s with wrp := { s.wrp with eps := cold } }
      s.raise Ev.WARP_COLD .warning

/-- A record is rebuilt after an uncorrectable DRAM error (R448). -/
def State.eccReset (s : State) (ep : Nat) : State :=
  match s.sys.image with
  | none => s
  | some im =>
    let fresh := im.freshChans
    let s := (upTo 4).foldl (fun s i =>
      let ch := mkChid ep i
      let c := Store.get (fun _ => Chan.blank) fresh ch
      let w := s.wch ch
      let k : Nat := (s.lch ch).lastIdx
      s.setWch ch (if c.en then
        { c with lastIdx := k, held := w.held, queue := w.queue, inFlight := w.inFlight, probe := w.probe, offered := w.offered }
        else c)) s
    let x := Store.get (fun _ => EpRec.blank) im.freshEps ep
    let s := s.setEpRec ep { x with eflags := 32 }
    (s.cntS (R.WRP_CNT_k + 64)).raise Ev.WARP_ECC_RESET .warning (args := [aIdx ep]) (sc := .endpoint ep)

end Sys2Proof.Machine
end

