-- ==== Sys2Proof/Machine/Balance.lean ====
section
/-!
DEFINITION. The Balance Engine (14_balance_engine.md R536 to R554).
-/

namespace Sys2Proof.Machine
open Sys2Proof

/-! Records and parameters. -/

/-- The configured nodes in ascending order. -/
def State.balNodes (s : State) : List (Nat × BalNode) := (s.sys.image.map Image.balNodes).getD []

/-- The state of node `n`. -/
def State.balSt (s : State) (n : Nat) : BalSt := Store.get (fun _ => BalSt.blank) s.bal.nodes n

/-- Node `n`'s state becomes `x`. -/
def State.setBal (s : State) (n : Nat) (x : BalSt) : State :=
  { s with bal := { s.bal with nodes := Store.put (fun _ => BalSt.blank) s.bal.nodes n x } }

/-- What BAL knows of a channel. -/
def State.balCh (s : State) (ch : Chid) : BalChan := Store.get (fun _ => BalChan.blank) s.bal.chans ch

/-- What BAL knows of a channel becomes `x`. -/
def State.setBalCh (s : State) (ch : Chid) (x : BalChan) : State :=
  { s with bal := { s.bal with chans := Store.put (fun _ => BalChan.blank) s.bal.chans ch x } }

/-- BAL counter `k` counts (R553). -/
def State.bcnt (s : State) (k : Nat) (n : Nat := 1) : State := s.cntW (R.BAL_CNT_k + 4 * (k % 16)) n

/-- COVER_WAIT in min. -/
def State.coverWait (s : State) : Nat := field (s.rg R.BAL_CFG) 31 16
/-- EST_MAX in %. -/
def State.estMaxPct (s : State) : Nat := field (s.rg R.BAL_CFG) 15 8
/-- THEFT_CLEAR. -/
def State.theftClear (s : State) : Nat := field (s.rg R.BAL_CFG) 7 0

/-- One minute in ns. -/
def minute : Nat := 60 * second

/-- BAL runs (R549, R550). -/
def State.balOn (s : State) : Bool := decide (s.sys.st = .active) && s.bal.en

/-! Notifications (R541 to R543, R547). -/

/-- The parts of a span cut at every period end strictly inside it, as (end of the period in min, from, to) (R543). -/
def balCuts (period a b : Nat) : List (Nat × Nat × Nat) :=
  let p := max 1 period
  let k0 := a / (p * minute) + 1
  let k1 := (b + p * minute - 1) / (p * minute)
  (upTo (k1 + 1 - k0)).map (fun i =>
    let e := (k0 + i) * p
    (e, max a ((e - p) * minute), min b (e * minute)))

/-- A part joins its period's bin, in order of end. -/
def binAdd (e : Nat) (x : BalPart) : List BalBin → List BalBin
  | [] => [⟨e, [x]⟩]
  | y :: r => if y.e = e then { y with parts := y.parts ++ [x] } :: r
    else if e < y.e then ⟨e, [x]⟩ :: y :: r else y :: binAdd e x r

/-- A contribution is added to the bins of a member's node; parts of evaluated periods count LATE (R543). (DEDUCED, log 81, 88) -/
def State.contribute (s : State) (n : Nat) (b : BalNode) (m : BalMember) (x : BalNote) : State :=
  (balCuts b.period x.prev x.capture).foldl (fun s (c : Nat × Nat × Nat) =>
    let st := s.balSt n
    if c.1 < st.next then s.bcnt 3
    else
      let p : BalPart := ⟨x.ch, x.ridx, m.out, (x.dF : Int) - x.dR, x.prev, x.capture, c.2.1, c.2.2, !x.actual, nbit x.flags 6⟩
      s.setBal n { st with bins := binAdd c.1 p st.bins }) s

/-- LOSS is active on a node or on a node of its PARENT chain (R547). -/
def State.corroborated (s : State) : Nat → Nat → Bool
  | 0, _ => false
  | k + 1, n =>
    (s.balSt n).loss || (match (s.balNodes.find? (fun (x : Nat × BalNode) => x.1 = n)).bind (fun x => x.2.parent) with
      | some p => s.corroborated k p
      | none => false)

/-- The indication of a notification, numbered TAMPER 1, MAGNETIC 2, REVERSE_FLOW 3, reverse quantity 4; 0 for none.
(DEDUCED, log 90) -/
def indication (x : BalNote) (dir : Bool) : Nat :=
  if nbit x.flags 11 then 1 else if nbit x.flags 12 then 2 else if nbit x.flags 13 then 3
  else if dir ∧ !x.base ∧ 0 < x.dR then 4 else 0

/-- A tamper indication counts against node `n` (R547). (DEDUCED, log 90) -/
def State.tamper (s : State) (n ind : Nat) (ch : Chid) : State :=
  let st := s.balSt n
  if st.theft then (s.setBal n { st with quiet := 0 }).bcnt 5
  else
    let s := s.setBal n { st with quiet := 0, theft := true }
    s.raise Ev.THEFT_SUSPECT .warning
      (args := [aHalf n, aIdx (Chid.ep ch), aCode ind, aCode (b2n (s.corroborated 17 n))]) (sc := .balNode n) (lasting := true)

/-- BAL_NOTIFICATION (R541 to R543, R547): the oldest notification is applied to every member entry that names its channel. -/
def execBalNotification (s : State) : Host.Outcome State Fault Refusal :=
  .next (match s.bal.inbox with
    | [] => s
    | x :: r =>
      let s := { s with bal := { s.bal with inbox := r } }
      if s.sys.st ≠ .active then s
      else if !s.bal.en then s.bcnt 7
      else
        let s := s.bcnt 0
        let bc := s.balCh x.ch
        let es := if x.actual then (x.capture, x.ridx) :: bc.entries else bc.entries
        let s := s.setBalCh x.ch { bc with covered := x.capture, entries := es }
        let mem := s.balNodes.flatMap (fun (n : Nat × BalNode) =>
          (n.2.members.filter (fun m => m.ch = x.ch)).map (fun m => (n.1, n.2, m)))
        let s := if x.base then s
          else mem.foldl (fun s (y : Nat × BalNode × BalMember) => s.contribute y.1 y.2.1 y.2.2 x) s
        let ind := indication x (mem.any (fun (y : Nat × BalNode × BalMember) => y.2.2.dirCheck))
        let outs := mem.filter (fun (y : Nat × BalNode × BalMember) => y.2.2.out)
        let hit := ((if outs = [] then mem else outs).map Prod.fst).eraseDups
        if ind = 0 then s else hit.foldl (fun s n => s.tamper n ind x.ch) s)

/-- BAL_FACTOR_COPY (R542): the oldest factor copied from the journal is taken. -/
def execBalFactorCopy (s : State) : Host.Outcome State Fault Refusal :=
  .next (match s.bal.factorIn with
    | [] => s
    | (ch, ridx, f, fb) :: r =>
      let s := { s with bal := { s.bal with factorIn := r } }
      if !s.balOn then s
      else
        let x := s.balCh ch
        s.setBalCh ch { x with factors := (ridx, f, fb) :: x.factors })

/-! Evaluation (R544 to R548). -/

/-- `a / b` to nearest, ties to even. (DEDUCED, log 88) -/
def roundInt (a : Int) (b : Nat) : Int :=
  let q : Int := roundDiv a.natAbs b
  if a < 0 then -q else q

/-- The factor of a channel's index, and whether the period is FACTOR_STALE for it (R542). -/
def BalChan.factor (x : BalChan) (ridx : Option Nat) : Option Nat × Bool :=
  let own := ridx.bind (fun k => x.factors.find? (fun (f : Nat × Nat × Bool) => f.1 = k ∧ !f.2.2))
  match own with
  | some f => (some f.2.1, false)
  | none => ((x.factors.find? (fun (f : Nat × Nat × Bool) => !f.2.2)).map (fun f => f.2.1), true)

/-- Ten to the power -oe as numerator and denominator. -/
def tenPow (oe : Int) : Nat × Nat := (10 ^ (-oe).toNat, 10 ^ oe.toNat)

/-- A contribution in 2^-16 of the node's quantum, and whether it is FACTOR_STALE (R542). An estimated entry has no factor of
its own. -/
def State.convert' (s : State) (x : BalPart) : Int × Bool :=
  match s.convOf x.ch with
  | none => (x.c * 65536, false)
  | some (r, _) =>
    match (s.balCh x.ch).factor (if x.est then none else some x.ridx) with
    | (some f, st) =>
      let t := tenPow r.oe
      (roundInt (x.c * r.vq * f64Scaled f * 65536 * t.1) (10 ^ 9 * 2 ^ 1074 * t.2), st)
    | (none, _) => (0, true)

/-- The part's share of the contribution by the floor rule (R494, R543). -/
def BalPart.share (x : BalPart) (v : Int) : Int :=
  let n := v.natAbs
  let t := max 1 (x.b - x.a)
  let q : Int := n * (x.hi - x.a) / t
  let q' : Int := n * (x.lo - x.a) / t
  if v < 0 then -(q - q') else q - q'

/-- The factor of a STATE channel at a period end (R545), and whether it is stale. -/
def BalChan.stateFactor (x : BalChan) (e : Nat) : Option Nat × Bool :=
  x.factor ((x.entries.filter (fun y => e * minute ≤ y.1)).getLast?.map Prod.snd)

/-- The line-pack change of a period in 2^-16 quanta (R545), and whether a factor was missing. -/
def State.dInv (s : State) (b : BalNode) (e : Nat) : Int × Bool :=
  b.segs.foldl (fun (a : Int × Bool) (g : Nat × Chid) =>
    let x := s.balCh g.2
    let f1 := x.stateFactor e
    let f0 := x.stateFactor (e - b.period)
    let t := tenPow b.oe
    match f1.1, f0.1 with
    | some p, some q =>
      (a.1 + roundInt (g.1 * (f64Scaled p - f64Scaled q) * 65536 * t.1) (1000 * 2 ^ 1074 * t.2), a.2 || f1.2 || f0.2)
    | _, _ => (a.1, true)) (0, false)

/-- The coverage of a node in ns (R544): the least of its members and segments. -/
def State.coverage (s : State) (b : BalNode) : Nat :=
  let cs := (b.members.map BalMember.ch ++ b.segs.map Prod.snd).map (fun ch => (s.balCh ch).covered)
  cs.foldl min (cs.headD 0)

/-- A node has a descendant with THEFT (R547). -/
def State.theftBelow (s : State) : Nat → Nat → Bool
  | 0, _ => false
  | k + 1, n => s.balNodes.any (fun (x : Nat × BalNode) =>
      decide (x.2.parent = some n) && ((s.balSt x.1).theft || s.theftBelow k x.1))

/-- The event of a node's alarm is active no more. (DEDUCED, log 88) -/
def State.endNode (s : State) (code n : Nat) : State := s.endEv code (fun e => decide (e.args.head? = some (aHalf n)))

/-- A balance record goes to Beam, or is dropped and counted (R548). (DEDUCED, log 88) -/
def State.balRecord (s : State) (r : BalRec) : State :=
  let s1 := s.archive .balance (r.e / 1440) (.balance r)
  if s.sysWrites then s1 else s1.bcnt 6

/-- Steps 3 to 6 of R546 on a node's state, with the GROSS flag. -/
def balCusum (b : BalNode) (st : BalSt) (x : Int) : BalSt × Bool :=
  let u := x - b.bias
  let cap := fun (v : Int) => min (2 * b.h) v.toNat
  let sp := cap ((st.sPos : Int) + u - b.k)
  let sn := cap ((st.sNeg : Int) - u - b.k)
  let gross := decide (b.gross ≠ 0 ∧ b.gross ≤ u.natAbs)
  let sp := if gross ∧ 0 < u then max sp b.h else sp
  let sn := if gross ∧ u < 0 then max sn b.h else sn
  let loss := decide (b.h ≤ sp) && !st.loss
  let gain := decide (b.h ≤ sn) && !st.gain
  let st := { st with sPos := sp, sNeg := sn, loss := st.loss || loss, gain := st.gain || gain,
                      clearRun := if loss || gain then 0 else st.clearRun }
  let zero := (!st.loss || decide (st.sPos = 0)) && (!st.gain || decide (st.sNeg = 0))
  let run := if st.loss || st.gain then (if zero then min 255 (st.clearRun + 1) else 0) else st.clearRun
  let clear := (st.loss || st.gain) && decide (b.clearN ≤ run)
  ({ st with clearRun := run, loss := st.loss && !clear, gain := st.gain && !clear }, gross)

/-- Events of a node whose alarms changed (R546, R547, R554). (DEDUCED, log 90) -/
def State.balEvents (s : State) (n : Nat) (old new : BalSt) (gross : Bool) : State :=
  let sc := EvScope.balNode n
  let s := if new.loss ∧ !old.loss then
      s.raise Ev.LOSS .warning (args := [aHalf n, aCode (b2n (new.theft || s.theftBelow 17 n)), aCode (b2n gross)]) (sc := sc)
        (lasting := true) else s
  let s := if new.gain ∧ !old.gain then s.raise Ev.GAIN .warning (args := [aHalf n]) (sc := sc) (lasting := true) else s
  let s := if old.loss ∧ !new.loss then (s.endNode Ev.LOSS n).raise Ev.LOSS_CLEAR .info (args := [aHalf n]) (sc := sc) else s
  let s := if old.gain ∧ !new.gain then (s.endNode Ev.GAIN n).raise Ev.GAIN_CLEAR .info (args := [aHalf n]) (sc := sc) else s
  if old.theft ∧ !new.theft then (s.endNode Ev.THEFT_SUSPECT n).raise Ev.THEFT_CLEAR .info (args := [aHalf n]) (sc := sc) else s

/-- The period of node `n` that ends at minute `e` is evaluated (R546, R548). -/
def State.evalPeriod (s : State) (n : Nat) (b : BalNode) (e : Nat) (covered : Bool) : State :=
  let st := s.balSt n
  let parts := (st.bins.filter (fun (x : BalBin) => x.e = e)).flatMap BalBin.parts
  let vs := parts.map (fun (x : BalPart) =>
    let v := s.convert' x
    (x, x.share v.1, v.2))
  let sumOf := fun (p : BalPart → Bool) => vs.foldl (fun (a : Int) (x : BalPart × Int × Bool) => if p x.1 then a + x.2.1 else a) 0
  let inp := sumOf (fun x => !x.out)
  let out := sumOf (fun x => x.out)
  let est := vs.foldl (fun (a : Nat) (x : BalPart × Int × Bool) => if x.1.est then a + x.2.1.natAbs else a) 0
  let di := s.dInv b e
  let stale := di.2 || vs.any (fun (x : BalPart × Int × Bool) => x.2.2)
  let r := inp - out - di.1
  let x := roundInt (1000000 * r) (max inp.toNat (b.qFloor * 65536))
  let den : Int := inp.natAbs + out
  let pct := if den ≤ 0 then 0 else 100 * est / den.toNat
  let incomplete := !covered || decide (e ≤ st.firstBad)
  let high := decide (s.estMaxPct < pct)
  let excl := incomplete || stale || high
  let y := if excl then (st, false) else balCusum b st x
  let quiet := min 0xFFFF (y.1.quiet + 1)
  let st' := { y.1 with
    quiet := quiet, theft := y.1.theft && decide (quiet < s.theftClear), lastEnd := e, next := e + b.period,
    bins := y.1.bins.filter (fun (x : BalBin) => x.e ≠ e) }
  let fl := b2n incomplete + 2 * b2n stale + 4 * b2n high + 8 * b2n excl + 16 * b2n y.2 +
    32 * b2n (parts.any BalPart.irc) + 64 * b2n st'.loss + 128 * b2n st'.gain + 256 * b2n st'.theft
  let q := fun (v : Int) => roundInt v 65536
  let rec_ : BalRec := ⟨n, fl, e, q inp, q out, q di.1, q r, x, min 0xFFFF pct⟩
  let s := (s.setBal n { st' with last := some rec_ }).bcnt 1
  let s := if excl then s.bcnt 2 else s
  (s.balRecord rec_).balEvents n st st' y.2

/-- Node `n` evaluates its due periods up to the instant of minute `e`, in ascending order (R544). (DEDUCED, log 89) -/
def State.evalNode : Nat → State → Nat → BalNode → Nat → State
  | 0, s, _, _, _ => s
  | k + 1, s, n, b, e =>
    let x := (s.balSt n).next
    let cov := decide (x * minute ≤ s.coverage b)
    if x ≤ e ∧ (cov ∨ x + s.coverWait ≤ e) then State.evalNode k (s.evalPeriod n b x cov) n b e else s

/-- BAL_EVALUATION (R544): at `t`, the instants E + 2 s have come of the period ends E since the last evaluation; a node none of whose
period ends is among them evaluates nothing. (DEDUCED, log 89) -/
def execBalEvaluation (t : Nat) (s : State) : Host.Outcome State Fault Refusal :=
  let s := s.reach t
  .next (
    if !s.balOn then s
    else
      let m := (s.nowNs - 2 * second) / minute
      if m ≤ s.bal.taken then s
      else
        let old := s.bal.taken
        let s := { s with bal := { s.bal with taken := m } }
        s.balNodes.foldl (fun s (x : Nat × BalNode) =>
          let e := m / max 1 x.2.period * x.2.period
          if e ≤ old then s
          else State.evalNode ((e - (s.balSt x.1).next) / max 1 x.2.period + 1) s x.1 x.2 e) s)

/-! Persistence and commands (R549, R550, R553). -/

/-- The first period end after now. (DEDUCED, log 89) -/
def State.nextEnd (s : State) (b : BalNode) : Nat := (s.nowNs / minute / max 1 b.period + 1) * b.period

/-- BAL loads its saved state on entry to ACTIVE (R549): alarms found active are raised again. -/
def State.balEnter (s : State) : State :=
  let s := { s with bal := { s.bal with nodes := [], chans := [], inbox := [], factorIn := [], taken := s.nowNs / minute - 1 } }
  s.balNodes.foldl (fun s (x : Nat × BalNode) =>
    let nx := s.nextEnd x.2
    let st := match s.nand.balSave.find? (fun (y : BalSave) => y.node = x.1) with
      | some y => { BalSt.blank with sPos := y.sPos, sNeg := y.sNeg, loss := y.loss, gain := y.gain, theft := y.theft,
                                     clearRun := y.clearRun, quiet := y.quiet, lastEnd := y.lastEnd, next := nx }
      | none => { BalSt.blank with next := nx }
    let s := if st.lastEnd = 0 then s else s.bcnt 4 ((nx - st.lastEnd) / max 1 x.2.period - 1)
    let s := (s.setBal x.1 st).balEvents x.1 { st with loss := false, gain := false } st false
    if st.theft then
      s.raise Ev.THEFT_SUSPECT .warning (args := [aHalf x.1]) (sc := .balNode x.1) (lasting := true)
    else s) s

/-- BAL_STATE_SAVE (R549): the words 11 to 15 of every node go to the system area. -/
def execBalStateSave (s : State) : Host.Outcome State Fault Refusal :=
  .next (
    if s.sys.st ≠ .active ∨ !s.sysWrites then s
    else { s with nand := { s.nand with balSave := s.balNodes.map (fun (x : Nat × BalNode) =>
      let st := s.balSt x.1
      ⟨x.1, st.sPos, st.sNeg, st.loss, st.gain, st.theft, st.clearRun, st.quiet, st.lastEnd⟩) } })

/-- The effect of a write of BAL_CTRL (R550). -/
def State.balCtrlEff (s : State) (v : Word) : State :=
  if bit v 0 = s.bal.en then s
  else if bit v 0 then
    let s := { s with bal := { s.bal with en := true } }
    s.balNodes.foldl (fun s (x : Nat × BalNode) =>
      let nx := s.nextEnd x.2
      s.setBal x.1 { s.balSt x.1 with next := nx, firstBad := nx, bins := [] }) s
  else
    let ns := Store.mapAll (fun _ => BalSt.blank) (fun _ (x : BalSt) => { x with bins := [] }) s.bal.nodes
    { s with bal := { s.bal with en := false, nodes := ns } }

/-- BAL_DISABLE (R550): a write of BAL_CTRL that clears EN. -/
def execBalDisable (r : Requester) (s : State) : Host.Outcome State Fault Refusal :=
  .next (s.writeRow r (0x800000 + R.BAL_CTRL) 0 (okEff State.balCtrlEff))

/-- BAL_ENABLE (R550): a write of BAL_CTRL that sets EN. -/
def execBalEnable (r : Requester) (s : State) : Host.Outcome State Fault Refusal :=
  .next (s.writeRow r (0x800000 + R.BAL_CTRL) 1 (okEff State.balCtrlEff))

/-- A node's sums are zeroed and its LOSS and GAIN cleared (R553). (DEDUCED, log 90) -/
def State.balReset (s : State) (n : Nat) : State :=
  let s := s.setBal n { s.balSt n with sPos := 0, sNeg := 0, clearRun := 0, loss := false, gain := false }
  (s.endNode Ev.LOSS n).endNode Ev.GAIN n

/-- The effect of a write of BAL_CMD (R553). -/
def State.balCmdEff (s : State) (v : Word) : State × Status :=
  match field v 31 28 with
  | 1 => (if s.balNodes.any (fun (x : Nat × BalNode) => x.1 = field v 15 0) then s.balReset (field v 15 0) else s, .ok)
  | 2 => (s.balNodes.foldl (fun s (x : Nat × BalNode) => s.balReset x.1) s, .ok)
  | _ => (s, .denied)

/-- BAL_RESET (R553): a write of BAL_CMD with OP 1. -/
def execBalReset (r : Requester) (n : Nat) (s : State) : Host.Outcome State Fault Refusal :=
  .next (s.writeRow r (0x800000 + R.BAL_CMD) (packWord [(28, 4, 1), (0, 16, n)]) State.balCmdEff)

/-- BAL_RESET_ALL (R553): a write of BAL_CMD with OP 2. -/
def execBalResetAll (r : Requester) (s : State) : Host.Outcome State Fault Refusal :=
  .next (s.writeRow r (0x800000 + R.BAL_CMD) (packWord [(28, 4, 2)]) State.balCmdEff)

/-- The effect of a write of BAL_NODE_IDX (R553): the node is snapshotted. -/
def State.nodeIdxEff (s : State) (v : Word) : State :=
  let n := field v 15 0
  let s := s.setReg R.BAL_NODE_IDX (mergeWrite (s.rg R.BAL_NODE_IDX) v 0xFFFF)
  { s with bal := { s.bal with snap := some (n, s.balSt n) } }

/-- BAL_NODE_IDX_WRITE (R553). -/
def execBalNodeIdxWrite (r : Requester) (v : Word) (s : State) : Host.Outcome State Fault Refusal :=
  .next (s.writeRow r R.BAL_NODE_IDX v (okEff State.nodeIdxEff))

end Sys2Proof.Machine
end

