-- ==== Sys2Proof/Machine/Beam.lean ====
section
/-!
DEFINITION. Beam (15_beam_archive.md): pools and free capacity (R558, R565), programming and moving map units (R562 to R570),
life (R571), what happens when spares or space run out (R572 to R575), discard (R576), 1-min aggregates (R578), NAND channels
(R584), and uncorrectable reads (20_faults_degradation.md R725).
-/

namespace Sys2Proof.Machine
open Sys2Proof

/-- The NAND of the running image. -/
def State.nandCfg (s : State) : NandCfg :=
  match s.sys.image with
  | some im => im.nand
  | none => NandCfg.none

/-- Beam is mounted and takes writes in this state (R108, R581). -/
def State.beamUp (s : State) : Bool :=
  s.bem.mounted && decide (s.sys.st = .active ∨ s.sys.st = .standby ∨ s.sys.st = .start)

/-- A NAND channel is in use. -/
def State.nandOn (s : State) (n : Nat) : Bool := nbit s.bem.chEn n && nbit s.sys.nands n

/-- The channels in use. -/
def State.nandList (s : State) : List Nat := (upTo 8).filter s.nandOn

/-- A BEM counter that wraps. -/
def State.bemW (s : State) (k : Nat) (n : Nat := 1) : State := s.cntW (R.BEM_CNT_k + 4 * (k % 16)) n

/-- A BEM counter that sticks. -/
def State.bemS (s : State) (k : Nat) (n : Nat := 1) : State := s.cntS (R.BEM_CNT_k + 4 * (k % 16)) n

/-! Pools and capacity (R558, R562, R565). -/

/-- One GiB and one MiB. -/
def gib : Nat := 2 ^ 30
/-- One MiB. -/
def mib : Nat := 2 ^ 20

/-- The map unit of a pool in bytes (R562). -/
def Pool.unit : Pool → Nat
  | .legal => 4096
  | .map => 4096
  | .archive => 65536

/-- Map units that a block holds. -/
def Block.cap (n : NandCfg) (b : Block) : Nat := (if b.slc then n.slcBytes else n.tlcBytes) / b.pool.unit

/-- Blocks of a pool without its spare (R558). -/
def State.poolSize (s : State) (p : Pool) : Nat :=
  match p with
  | .legal => ceilDiv (128 * gib) s.nandCfg.slcBytes
  | .map => ceilDiv (4 * gib) s.nandCfg.slcBytes
  | .archive => s.nand.archBlocks

/-- The blocks in use of a pool. -/
def State.poolBlocks (s : State) (p : Pool) : List (Nat × Block) := s.nand.blocks.filter (fun x => x.2.pool = p)

/-- Rated cycles of a pool's blocks (R569). -/
def State.rated (s : State) (p : Pool) : Nat := if p = .archive then s.nandCfg.eTlc else s.nandCfg.eSlc

/-- G of R558 in bytes. -/
def State.gcReserve (s : State) : Nat := s.nand.archBlocks * s.nandCfg.tlcBytes * 2 / 100

/-- S_min and S_max (R565). -/
def State.sMin (s : State) : Nat := 256 * mib * s.nandCfg.nCh
/-- S_max. -/
def State.sMax (s : State) : Nat := 8 * gib * s.nandCfg.nCh

/-- The archive's user capacity in bytes: BEM_CAP, as the worked example of 15_beam_archive.md computes it. (DEDUCED, log 104) -/
def State.userCap (s : State) : Nat := s.nand.archBlocks * s.nandCfg.tlcBytes - s.gcReserve - 3 * s.sMin

/-- Map units in archive blocks of one mode. -/
def State.archUnits (s : State) (slc : Bool) : Nat :=
  ((s.poolBlocks .archive).filter (fun x => x.2.slc = slc)).foldl (fun n x => n + x.2.units.length) 0

/-- The SLC cache in use, in bytes. -/
def State.cacheBytes (s : State) : Nat := 65536 * s.archUnits true

/-- F of R565 in bytes. (DEDUCED, log 104) -/
def State.freeF (s : State) : Nat := s.userCap - 65536 * s.archUnits false - 3 * (s.cacheBytes - s.sMin)

/-- S_cache in bytes, from F at its last recomputation (R565). (DEDUCED, log 104) -/
def State.sCache (s : State) : Nat := s.sMin + min (s.sMax - s.sMin) ((s.bem.cacheF - s.gcReserve) / 6)

/-- S_cache is recomputed once F has changed by 1 GiB (R565). -/
def State.recache (s : State) : State :=
  let f := s.freeF
  if gib ≤ f - s.bem.cacheF ∨ gib ≤ s.bem.cacheF - f then { s with bem := { s.bem with cacheF := f } } else s

/-- The mean erase count of the archive's blocks, times their number: the sum (R571). -/
def State.archErases (s : State) : Nat := (s.poolBlocks .archive).foldl (fun n x => n + x.2.erases) 0

/-- BEM_LIFE.LIFE (R571). -/
def State.life (s : State) : Nat :=
  if !s.sysWrites then 0
  else
    let full := s.nandCfg.eTlc * s.nand.archBlocks
    let wear := (100 * full - 100 * s.archErases) / max 1 full
    let spare := 100 * s.nand.spareArch / max 1 s.nand.spareArch0
    max 1 (min wear spare)

/-- LIFE_LOW is raised when LIFE first falls to 10 (R571). -/
def State.lifeCheck (s : State) : State :=
  if s.bem.mounted && !s.bem.lifeLow && decide (0 < s.nand.archBlocks) && decide (s.life ≤ 10) then
    { s with bem := { s.bem with lifeLow := true } }.raise Ev.LIFE_LOW .warning
  else s

/-! Programming one map unit. -/

/-- Block `n` becomes `b`. (DESIGN CHOICE, log 107) -/
def State.setBlock (s : State) (n : Nat) (b : Block) : State :=
  { s with nand := { s.nand with blocks := Store.put (fun _ => Block.blank) s.nand.blocks n b } }

/-- A block is the victim of a move. -/
def State.isVictim (s : State) (n : Nat) : Bool := s.bem.moves.any (fun m => m.victim = n)

/-- The erased block with the lowest erase count of a pool (R569). -/
def State.erased (s : State) (p : Pool) : Option (Nat × Block) :=
  ((s.poolBlocks p).filter (fun x => x.2.fill = 0 && s.nandOn x.2.ch && !s.isVictim x.1)).foldl (fun m x =>
    match m with
    | none => some x
    | some y => if x.2.erases < y.2.erases then some x else m) none

/-- Space for one unit in a pool: the block programmed next, with one more unit filled; none where the pool has none. A block
never used comes first, since its erase count is 0. -/
def State.space (s : State) (p : Pool) (slc : Bool) : Option (State × Nat) :=
  let open_ := (s.poolBlocks p).find? (fun x =>
    x.2.slc = slc && decide (0 < x.2.fill) && decide (x.2.fill < x.2.cap s.nandCfg) && s.nandOn x.2.ch && !s.isVictim x.1)
  match open_ with
  | some x => some (s.setBlock x.1 { x.2 with fill := x.2.fill + 1 }, x.1)
  | none =>
    let chs := s.nandList
    if (s.poolBlocks p).length < s.poolSize p && !chs.isEmpty then
      let n := s.nand.nextBlock + 1
      let b : Block := { pool := p, ch := (chs[n % chs.length]?).getD 0, erases := 0, units := [], fill := 1, slc := slc,
                         listed := false }
      some ({ s with nand := { s.nand with nextBlock := n } }.setBlock n b, n)
    else match s.erased p with
      | some x => some (s.setBlock x.1 { x.2 with fill := 1, slc := slc }, x.1)
      | none => none

/-- A new map unit is programmed in a pool and its mapping made durable (R562, R563): the state and the unit.
(DESIGN CHOICE, log 107) -/
def State.program (s : State) (p : Pool) (slc : Bool) : Option (State × Nat) :=
  match s.space p slc with
  | none => none
  | some (s', n) =>
    let u := s'.nand.lastUnit + 1
    let b := Store.get (fun _ => Block.blank) s'.nand.blocks n
    let s' := s'.setBlock n { b with units := b.units ++ [u] }
    some (({ s' with nand := { s'.nand with lastUnit := u, mapSeq := s'.nand.mapSeq + 1 } }.bemW 0), u)

/-- A unit is unmapped. -/
def State.unmap (s : State) (u : Nat) : State :=
  let bs := Store.mapAll (fun _ => Block.blank) (fun _ (b : Block) => { b with units := b.units.filter (fun x => x ≠ u) })
    s.nand.blocks
  { s with nand := { s.nand with blocks := bs, mapSeq := s.nand.mapSeq + 1 } }

/-! The archive (R564, R566, R572, R573, R577). -/

/-- RET_FAST_H, and the retention of a stream in days (R577, R586). (DEDUCED, log 110) -/
def State.retFast (s : State) : Nat := field (s.rg R.BEM_RET) 31 24
/-- Retention in days; FAST_RAW keeps hours instead. (DEDUCED, log 110) -/
def State.retDays (s : State) (st : Stream) : Nat :=
  match st with
  | .interval => field (s.rg R.BEM_RET) 11 0
  | .fastRaw => 0
  | .fastMin => field (s.rg R.BEM_RET) 11 0
  | .day => field (s.rg R.BEM_RET2) 12 0
  | .balance => field (s.rg R.BEM_RET) 23 12
  | .edit => field (s.rg R.BEM_RET) 11 0

/-- The minute of a fast entry, numbered as a reading of 60 s that ends with it (R352, R578). (DESIGN CHOICE, log 111) -/
def minuteOf (e : Entry) : Nat := (e.ridx + 59) / 60

/-- The end of a minute by its index (R352, R578), in ns. -/
def State.minuteEnd (s : State) (m : Nat) : Nat := ((m * 60 : Nat) + utcAt s.tim.utcOffs (m * 60)).toNat * second

/-- An aggregate of a channel's minute is durable (R578). -/
def State.aggregated (s : State) (ch : Chid) (m : Nat) : Bool :=
  s.nand.archive.any (fun r => match r.stream, r.data with
    | .fastMin, .entry e => decide (e.ch = ch ∧ e.ridx = m)
    | _, _ => false)

/-- The retention of an archived record has passed (R577, R578). -/
def State.retained (s : State) (r : ArchRec) : Bool :=
  match r.stream, r.data with
  | .fastRaw, .entry e => decide (s.nowNs < e.capture + s.retFast * 3600 * second) || !s.aggregated e.ch (minuteOf e)
  | st, _ => s.legalDays.any (fun d => decide (d ≤ r.day + s.retDays st))

/-- The chunk with the oldest legal day whose retention has passed (R573). (DESIGN CHOICE, log 105) -/
def State.oldestChunk (s : State) : Option Nat :=
  let ok := fun (u : Nat) => !s.nand.archive.any (fun r => decide (r.unit = u) && s.retained r)
  ((s.nand.archive.filter (fun r => decide (r.unit ≠ 0) && ok r.unit)).foldl (fun (m : Option (Nat × Nat)) r =>
    match m with
    | none => some (r.day, r.unit)
    | some (d, _) => if r.day < d then some (r.day, r.unit) else m) none).map Prod.snd

/-- A chunk leaves the archive: out of the catalogue and unmapped. -/
def State.dropChunk (s : State) (u : Nat) : State :=
  let listed := s.nand.archive.any (fun r => decide (r.unit = u) && !r.dropped)
  ({ s with nand := { s.nand with archive := s.nand.archive.filter (fun r => r.unit ≠ u) } }.unmap u).bemW 8 (b2n listed)

/-- Chunks past their retention go until one more unit fits (R573). -/
def State.makeRoom : Nat → State → State
  | 0, s => s
  | n + 1, s =>
    if 65536 ≤ s.freeF then s
    else match s.oldestChunk with
      | none => s
      | some u => State.makeRoom n (s.dropChunk u)

/-- A write finds no space: BEM_RO for each record, FULL and BEM_FULL (R573). -/
def State.archFull (s : State) (n : Nat) : State :=
  let s := s.bemW 7 n
  if s.bem.full then s
  else { s with bem := { s.bem with full := true } }.raise Ev.BEM_FULL .warning (lasting := true)

/-- A write fits: FULL clears (R573). -/
def State.archFits (s : State) : State :=
  if s.bem.full then { s with bem := { s.bem with full := false } }.endEv Ev.BEM_FULL else s

/-- One chunk of records is programmed, through the SLC cache where it has room (R565, R566); none where it does not fit.
(DESIGN CHOICE, log 105) -/
def State.chunkOut (s : State) (rs : List ArchRec) : Option State :=
  let s := State.makeRoom (s.nand.archive.length + 1) s
  if s.freeF < 65536 then none
  else
    let slc := decide (s.cacheBytes + 65536 ≤ s.sCache)
    match s.program .archive slc with
    | none => none
    | some (s, u) =>
      let out := rs.map (fun (r : ArchRec) => { r with unit := u })
      some { s with nand := { s.nand with archive := s.nand.archive ++ out } }

/-- The oldest waiting records of one stream and legal day, up to the 1,024 that one map unit holds (R564), and the rest.
(DESIGN CHOICE, log 105) -/
def nextChunk (rs : List ArchRec) : List ArchRec × List ArchRec :=
  match rs with
  | [] => ([], [])
  | r :: _ =>
    let mine := rs.filter (fun x => x.stream = r.stream ∧ x.day = r.day)
    (mine.take 1024, rs.filter (fun x => !(x.stream = r.stream ∧ x.day = r.day)) ++ mine.drop 1024)

/-- The Warp journal entries waiting in the buffer become durable in the system area (R449, R558). (DESIGN CHOICE, log 84) -/
def State.warpOut (s : State) : State :=
  if s.bem.warpBuf.isEmpty then s
  else
    let slc := decide (s.cacheBytes + 65536 ≤ s.sCache)
    let s := match s.program .archive slc with
      | some (s', _) => s'
      | none => s
    { s with nand := { s.nand with warpJournal := s.nand.warpJournal ++ s.bem.warpBuf },
             bem := { s.bem with warpBuf := [], waitAt := s.tim.cnt } }

/-- The waiting Warp journal entries become durable, and the oldest waiting records of one stream and day, as a chunk (R564). -/
def State.archiveOut (s : State) : State :=
  let s := s.warpOut
  match nextChunk s.bem.archBuf with
  | ([], _) => s
  | (rs, rest) =>
    let s := { s with bem := { s.bem with archBuf := rest, waitAt := s.tim.cnt } }
    match s.chunkOut rs with
    | some s' => s'.archFits
    | none => s.archFull rs.length

/-! Retiring a block (R570 to R575). -/

/-- The archive becomes read-only until the part is replaced (R572). -/
def State.archReadOnly (s : State) : State :=
  if s.nand.archRo then s
  else
    let rs := s.bem.archBuf.length + s.bem.warpBuf.length
    { s with nand := { s.nand with archRo := true }, bem := { s.bem with archBuf := [], warpBuf := [] } }
      |>.bemW 7 rs |>.raise Ev.BEM_RO .warning (lasting := true) |>.journalState

/-- A legal block is retired: a spare, then the device-wide hold LEGAL_SPARE, then read-only (R574, R575). -/
def State.legalSpare (s : State) : State :=
  if s.nand.spareLegal = 0 then
    if s.nand.legalSpareOut then { s with nand := { s.nand with legalRo := true } }
    else { s with nand := { s.nand with legalSpareOut := true } }.setCause 6
  else
    let s := { s with nand := { s.nand with spareLegal := s.nand.spareLegal - 1 } }
    if s.nand.spareLegal * 4 < s.nand.spareLegal0 && !s.bem.spareLow then
      { s with bem := { s.bem with spareLow := true } }.raise Ev.LEGAL_SPARE_LOW .warning
    else s

/-- Block `n` leaves its pool and a spare takes its place (R570). -/
def State.retire (s : State) (n : Nat) : State :=
  let b := Store.get (fun _ => Block.blank) s.nand.blocks n
  let old := Store.get (fun _ => 0) s.nand.bad b.ch
  let s := { s with
    nand := { s.nand with blocks := Store.erase s.nand.blocks n, bad := Store.put (fun _ => 0) s.nand.bad b.ch (old + 1) } }
  match b.pool with
  | .archive =>
    let s := s.bemS 5
    if s.nand.spareArch = 0 then s.archReadOnly
    else State.lifeCheck { s with nand := { s.nand with spareArch := s.nand.spareArch - 1 } }
  | .legal => (s.bemS 6).legalSpare
  | .map => s

/-! Moving data (R567 to R569). -/

/-- A unit still holds something a read may return: dropped chunks are not copied (R576). -/
def State.liveUnit (s : State) (u : Nat) : Bool :=
  let rs := s.nand.archive.filter (fun r => r.unit = u)
  rs.isEmpty || rs.any (fun r => !r.dropped)

/-- One more unit copied to a block of the pool with space. -/
def copyUnit (p : Pool) (slc : Bool) (m : Option (State × List (Nat × Nat))) (u : Nat) : Option (State × List (Nat × Nat)) :=
  match m with
  | none => none
  | some (s, cs) => match s.space p slc with
    | none => none
    | some (s', n) => some (s', cs ++ [(u, n)])

/-- Copies of units, each to a block of the pool with space; none where space runs out. -/
def State.copyUnits (s : State) (p : Pool) (slc : Bool) (us : List Nat) : Option (State × List (Nat × Nat)) :=
  us.foldl (copyUnit p slc) (some (s, []))

/-- The copies become the mapping: the victim holds no valid unit any more (R567 step 3). -/
def State.remap (s : State) (victim : Nat) (copies : List (Nat × Nat)) : State :=
  let v := Store.get (fun _ => Block.blank) s.nand.blocks victim
  let gone := v.units.filter (fun u => !copies.any (fun c => c.1 = u))
  let s := s.setBlock victim { v with units := [] }
  let s := copies.foldl (fun s c =>
    let b := Store.get (fun _ => Block.blank) s.nand.blocks c.2
    s.setBlock c.2 { b with units := b.units ++ [c.1] }) s
  let keep := s.nand.archive.filter (fun r => !(r.unit ≠ 0 ∧ r.unit ∈ gone))
  { s with nand := { s.nand with archive := keep, mapSeq := s.nand.mapSeq + v.units.length } }

/-- The victim is erased and returns to its pool, or is retired (R567 step 4, R570). -/
def State.eraseBlock (s : State) (n : Nat) : State :=
  let b := Store.get (fun _ => Block.blank) s.nand.blocks n
  let s := if b.listed then s.bemW 4 else s
  let s := s.setBlock n { b with erases := b.erases + 1, fill := 0, units := [], slc := false, listed := false }
  State.lifeCheck (if 3 * s.rated b.pool ≤ b.erases + 1 then s.retire n else s)

/-- The next step of a move: the victim's live units are copied (R567 step 2), then the map records made durable (3), then
the victim erased (4). (DESIGN CHOICE, log 108) -/
def State.moveStep (s : State) (k : MoveKind) (victim : Option Nat) : State :=
  let rest := s.bem.moves.filter (fun m => m.kind ≠ k)
  match s.bem.moves.find? (fun m => m.kind = k) with
  | none =>
    match victim with
    | none => s
    | some n =>
      let b := Store.get (fun _ => Block.blank) s.nand.blocks n
      let slc := b.pool ≠ .archive
      let us := b.units.filter s.liveUnit
      let s0 := { s with bem := { s.bem with moves := rest ++ [Move.mk k n [] false] } }
      match s0.copyUnits b.pool slc us with
      | none => s
      | some (s1, cs) =>
        { s1 with bem := { s1.bem with moves := rest ++ [Move.mk k n cs false] } }.bemW 1 cs.length
  | some m =>
    if m.mapped then { s with bem := { s.bem with moves := rest } }.eraseBlock m.victim
    else { s with bem := { s.bem with moves := rest ++ [{ m with mapped := true }] } }.remap m.victim m.copies

/-- Of the blocks that `p` selects: a listed one first, else the one with the fewest valid units (R567 step 1). -/
def State.victimOf (s : State) (p : Nat × Block → Bool) : Option Nat :=
  let bs := s.nand.blocks.filter (fun x => p x && !s.isVictim x.1 && decide (0 < x.2.fill) && s.nandOn x.2.ch)
  match bs.find? (fun x => x.2.listed) with
  | some x => some x.1
  | none => (bs.foldl (fun (m : Option (Nat × Nat)) x => match m with
    | none => some (x.1, x.2.units.length)
    | some (_, k) => if x.2.units.length < k then some (x.1, x.2.units.length) else m) none).map Prod.fst

/-- CACHE_FOLD (R566): while the cache is at least 75 % full, or no archive write has been waiting for 1 s, a block of the cache folds
into TLC. (DESIGN CHOICE, log 108) -/
def execCacheFold (s : State) : Host.Outcome State Fault Refusal :=
  .next (
    if !s.beamUp || !s.sysWrites then s
    else if 3 * s.sCache ≤ 4 * s.cacheBytes ∨ (s.bem.archBuf = [] ∧ s.bem.warpBuf = [] ∧ s.bem.waitAt + msCounts 1000 ≤ s.tim.cnt) then
      (s.moveStep .fold (s.victimOf (fun x => x.2.pool = .archive ∧ x.2.slc))).recache
    else s)

/-- The next step of garbage collection (R567): it starts below 2 x G, or for a block listed for refresh, which may be of any pool.
(DESIGN CHOICE, log 108) -/
def State.gcStep (s : State) : State :=
  let low := decide (s.freeF < 2 * s.gcReserve)
  (s.moveStep .gc (s.victimOf (fun x => x.2.listed || (low && decide (x.2.pool = .archive) && !x.2.slc)))).recache

/-- Block `n` is listed for refresh: a decode of it needed more than REFRESH_PCT of the code's capability, after `k` retries (R557).
(DESIGN CHOICE, log 108) -/
def State.listBlock (s : State) (n k : Nat) : State :=
  if !s.nand.blocks.any (fun x => x.1 = n) then s
  else
    let b := Store.get (fun _ => Block.blank) s.nand.blocks n
    (s.setBlock n { b with listed := true }).bemW 2 (min k 8)

/-- GARBAGE_COLLECTION (R557, R567): which block, if any, a decode finds weak, and after how many retries, are free draws.
(DESIGN CHOICE, log 108) -/
def execGarbageCollection (s : State) : Host.Outcome State Fault Refusal :=
  .next (
    if !s.beamUp then s
    else
      let s := s.used.used.listBlock (s.drawn 0xFFFFFFFF) (s.used.drawn 8)
      if !s.sysWrites then s else s.gcStep)

/-- ARCHIVE_WRITE (R564, R567, R572): the next write from the archive buffer, behind garbage collection while free capacity is below G;
a read-only archive refuses what waits. (DESIGN CHOICE, log 96) -/
def execArchiveWrite (s : State) : Host.Outcome State Fault Refusal :=
  .next (
    if !s.beamUp then s
    else if !s.sysWrites then
      { s with bem := { s.bem with archBuf := [], warpBuf := [] } }.bemW 7 (s.bem.archBuf.length + s.bem.warpBuf.length)
    else
      let s := if s.freeF < s.gcReserve then s.gcStep else s
      s.archiveOut.recache)

/-- A pool's blocks with the lowest and the highest erase count. -/
def State.wearSpread (s : State) (p : Pool) : Option (Nat × Nat × Nat) :=
  (s.poolBlocks p).foldl (fun (m : Option (Nat × Nat × Nat)) x => match m with
    | none => some (x.1, x.2.erases, x.2.erases)
    | some (n, lo, hi) =>
      if x.2.erases < lo then some (x.1, x.2.erases, hi) else some (n, lo, max hi x.2.erases)) none

/-- WEAR_LEVEL_MOVE (R569): the block with a pool's lowest count moves once the spread exceeds 5 % of the rated cycles.
(DESIGN CHOICE, log 108) -/
def execWearLevelMove (p : Pool) (s : State) : Host.Outcome State Fault Refusal :=
  .next (
    if !s.beamUp then s
    else match s.wearSpread p with
      | none => s
      | some (n, lo, hi) => s.moveStep .wear (if s.rated p * 5 < 100 * (hi - lo) then some n else none))

/-! Legal partition. -/

/-- The units of the journal ring (R559): 121 GiB. (DESIGN CHOICE, log 106) -/
def ringUnits : Nat := 121 * gib / 4096

/-- The stamp below which journal records may be overwritten: the least, over all slices, of the older of its two latest copies
(R559). (DESIGN CHOICE, log 106) -/
def State.ringFloor (s : State) : Nat :=
  if (upTo 1024).any (fun i => decide ((Store.get (fun _ => []) s.nand.slices i).length < 2)) then 0
  else s.nand.slices.foldl (fun m x => match x.2 with
    | [_, b] => min m b.stamp
    | _ => 0) (2 ^ 64)

/-- The oldest unit of a full ring is overwritten, unless a slice's copies still need it (R559). (DESIGN CHOICE, log 106) -/
def State.ringTrim (s : State) : State :=
  match s.nand.ring with
  | [] => s
  | (u, q) :: r =>
    if s.nand.ring.length ≤ ringUnits ∨ s.ringFloor < q then s
    else { s with nand := { s.nand with ring := r, journal := s.nand.journal.filter (fun x => q < x.jseq) } }.unmap u

/-- Up to 16 records of the legal journal buffer are programmed in JSEQ order and SLV_DJSEQ advances (R514).
(DESIGN CHOICE, log 106) -/
def State.journalOut (s : State) : State :=
  let rs := s.slv.jbuf.take 16
  match rs.getLast? with
  | none => s
  | some last =>
    match s.program .legal true with
    | none => s
    | some (s', u) =>
      State.ringTrim { s' with
        slv := { s'.slv with jbuf := s'.slv.jbuf.drop 16, djseq := last.jseq },
        nand := { s'.nand with journal := s'.nand.journal ++ rs, ring := s'.nand.ring ++ [(u, last.jseq)] } }

/-- JOURNAL_RECORD_WRITE (R514): the next records of the legal journal buffer become durable; a legal partition that is read-only
(R574) or could not be read takes none. (DESIGN CHOICE, log 96) -/
def execJournalRecordWrite (s : State) : Host.Outcome State Fault Refusal :=
  .next (if !s.beamUp || s.nand.legalRo || s.sys.legalUnread then s else s.journalOut)

/-- NAND_OPERATION_FAIL (R570): a failed program or erase of block `n` retires it; while it still reads, its valid units move to
other blocks. -/
def execNandOperationFail (n : Nat) (readable : Bool) (s : State) : Host.Outcome State Fault Refusal :=
  .next (
    if !s.beamUp || !s.nand.blocks.any (fun x => x.1 = n) then s
    else
      let b := Store.get (fun _ => Block.blank) s.nand.blocks n
      let s := { s with bem := { s.bem with moves := s.bem.moves.filter (fun m => m.victim ≠ n) } }
      let guard := { s with bem := { s.bem with moves := s.bem.moves ++ [Move.mk .gc n [] false] } }
      let s := if !readable then
          { s with nand := { s.nand with archive := s.nand.archive.map (fun (r : ArchRec) =>
            if r.unit ≠ 0 ∧ r.unit ∈ b.units then { r with lost := true } else r) } }
        else match guard.copyUnits b.pool b.slc (b.units.filter s.liveUnit) with
          | some (s', cs) => ({ s' with bem := { s'.bem with moves := s.bem.moves } }.remap n cs).bemW 1 cs.length
          | none => s
      s.retire n)

/-! Uncorrectable reads (R557, R725). -/

/-- What is unreadable from now on (R725). The second copies of the seal store, the audit log and the map journal are read and
rewritten. -/
def State.nandLost (s : State) (d : NandKind) : State :=
  match d with
  | .archive u => { s with nand := { s.nand with archive := s.nand.archive.map (fun (r : ArchRec) =>
      if r.unit ≠ 0 ∧ r.unit = u then { r with lost := true } else r) } }
  | .sealStore => s
  | .audit => s
  | .mapJournal => s
  | .legalSlice i =>
    let older := (Store.get (fun _ => []) s.nand.slices i).drop 1
    { s with nand := { s.nand with slices := Store.put (fun _ => []) s.nand.slices i older } }
  | .legalRecord q => { s with nand := { s.nand with lostJ := q :: s.nand.lostJ } }
  | .warpSlice i => { s with nand := { s.nand with warpSlices := Store.put (fun _ => none) s.nand.warpSlices i none } }
  | .templeRecord => { s with nand := { s.nand with temple := none } }
  | .pkwk =>
    if s.nand.pkwkOne then { s with nand := { s.nand with pkwk := none } }
    else { s with nand := { s.nand with pkwkOne := true } }
  | .keyTable ep =>
    let k := Store.get (fun _ => KeyEntry.blank) s.nand.keyCopy ep
    { s with nand := { s.nand with keyCopy := Store.put (fun _ => KeyEntry.blank) s.nand.keyCopy ep { k with good := false } } }

/-- NAND_READ_UNCORRECTABLE (R725): a codeword on channel `ch` that fails all eight retries of R557. (DESIGN CHOICE, log 112) -/
def execNandReadUncorrectable (ch : Nat) (d : NandKind) (s : State) : Host.Outcome State Fault Refusal :=
  .next (
    if !s.nandOn ch then s
    else
      let s := ((s.nandLost d).bemW 2 8).bemS 3
      let sev : Sev := match d with
        | .legalRecord _ => .fault
        | _ => .warning
      (s.cntS (R.EVT_CNT_k + 20)).raise Ev.NAND_UE sev (unit := ch) (args := [aCode d.code]))

/-! Aggregates (R578). -/

/-- The mean of a measurement over the seconds without MEAS_INVALID; a mean that is no whole number is one of its two neighbours,
and with no such second it is any value: `w` decides. (DESIGN CHOICE, log 111) -/
def meanOf (vs : List Int) (w : Nat) : Int :=
  match vs with
  | [] => ofTwos 32 w
  | _ =>
    let sum := vs.foldl (· + ·) 0
    let n : Int := vs.length
    if sum % n = 0 then sum / n else sum / n + (w % 2 : Nat)

/-- The aggregate of a channel's minute (R578). (DESIGN CHOICE, log 111) -/
def aggregate (ch : Chid) (m endNs : Nat) (es : List Entry) (last : Entry) (w0 w1 w2 : Nat) : Entry :=
  let ok := es.filter (fun e => !nbit e.flags 2)
  let bad := (es.filter (fun e => e.disp ≠ 0)).foldl (fun (b : Option Entry) e => match b with
    | none => some e
    | some x => if e.ridx < x.ridx then some e else b) none
  { ch := ch, ridx := m, capture := endNs, flags := es.foldl (fun f e => f ||| e.flags) 0,
    gaplen := 60 - es.length, totF := last.totF, totR := last.totR,
    m0 := meanOf (ok.map Entry.m0) w0, m1 := meanOf (ok.map Entry.m1) w1, m2 := meanOf (ok.map Entry.m2) w2,
    disp := (bad.map Entry.disp).getD 0, kind := last.kind, jseq := last.jseq }

/-- The archived 1-s entries of a channel's minute. -/
def State.fastSeconds (s : State) (ch : Chid) (m : Nat) : List Entry :=
  s.nand.archive.filterMap (fun r => match r.stream, r.data with
    | .fastRaw, .entry e => if e.ch = ch ∧ minuteOf e = m ∧ !r.lost then some e else none
    | _, _ => none)

/-- FAST_AGGREGATION (R578): once every second of minute `m` of a FAST channel is older than RET_FAST_H, one aggregate is
written for it. -/
def execFastAggregation (ch : Chid) (m : Nat) (s : State) : Host.Outcome State Fault Refusal :=
  .next (
    let es := s.fastSeconds ch m
    match es.foldl (fun (l : Option Entry) e => match l with
      | none => some e
      | some x => if x.ridx < e.ridx then some e else l) none with
    | none => s
    | some last =>
      if !s.beamUp || s.aggregated ch m || decide (s.nowNs < s.minuteEnd m + s.retFast * 3600 * second) then s
      else
        let draw := fun (i : Nat) => Config.freeNat (s.fresh + i) % 2 ^ 32
        let a := aggregate ch m (s.minuteEnd m) es last (draw 0) (draw 1) (draw 2)
        let s := { s with fresh := s.fresh + 3 }
        if s.sysWrites then (s.archive .fastMin (s.entryDay a) (.entry a)).bemW 9
        else s.archive .fastMin (s.entryDay a) (.entry a))

/-! Commands and channels (R576, R584, R586). -/

/-- The stream of a code. -/
def streamOf (c : Nat) : Option Stream :=
  match c with
  | 0 => some .interval
  | 1 => some .fastRaw
  | 2 => some .fastMin
  | 3 => some .day
  | 4 => some .balance
  | 5 => some .edit
  | _ => none

/-- The effect of a write of BEM_CMD (R576, R586): the chunks of a stream over a range of legal days leave the catalogue.
(DEDUCED, log 28; DESIGN CHOICE, log 109) -/
def State.bemCmdEff (s : State) (v : Word) : State × Status :=
  let a := (s.rg R.BEM_CMD_FROM).toNat
  let b := (s.rg R.BEM_CMD_TO).toNat
  match streamOf (field v 27 24) with
  | none => (s, .denied)
  | some st =>
    if field v 31 28 ≠ 1 ∨ s.legalDays.any (fun d => decide (a ≤ d ∧ d ≤ b)) then (s, .denied)
    else if !s.sysWrites then (s.bemW 7, .bemRo)
    else
      let hit := fun (r : ArchRec) => decide (r.stream = st ∧ a ≤ r.day ∧ r.day ≤ b) && !r.dropped
      let n := ((s.nand.archive.filter hit).map ArchRec.unit).eraseDups.length
      let recs := s.nand.archive.map (fun (r : ArchRec) => if hit r then { r with dropped := true } else r)
      ({ s with nand := { s.nand with archive := recs } }.bemW 8 n, .ok)

/-- DISCARD (R576): a write of BEM_CMD with OP 1. (DESIGN CHOICE, log 109) -/
def execDiscard (r : Requester) (stream : Nat) (s : State) : Host.Outcome State Fault Refusal :=
  .next (s.writeRow r (0x800000 + R.BEM_CMD) (packWord [(28, 4, 1), (24, 4, stream)]) State.bemCmdEff)

/-- The map units valid on a channel, of one pool. -/
def State.chUnits (s : State) (n : Nat) (p : Pool) : List Nat :=
  ((s.poolBlocks p).filter (fun x => x.2.ch = n)).flatMap (fun x => x.2.units)

/-- The state of a NAND channel. -/
def State.chSt (s : State) (n : Nat) : ChSt := Store.get (fun _ => .absent) s.bem.chans n

/-- A NAND channel's state becomes `x`. -/
def State.setChSt (s : State) (n : Nat) (x : ChSt) : State :=
  { s with bem := { s.bem with chans := Store.put (fun _ => .absent) s.bem.chans n x } }

/-- The other channels can take a channel's valid data: the archive's units fit the free capacity, the legal ones the legal
blocks left (R584). -/
def State.drainFits (s : State) (n : Nat) : Bool :=
  let others := fun (p : Pool) => (s.poolBlocks p).filter (fun x => x.2.ch ≠ n)
  let room := (others .legal).foldl (fun k x => k + (x.2.cap s.nandCfg - x.2.fill)) 0 +
    (s.poolSize .legal - (s.poolBlocks .legal).length) * (s.nandCfg.slcBytes / 4096)
  decide (65536 * (s.chUnits n .archive).length ≤ s.freeF) && decide ((s.chUnits n .legal).length ≤ room)

/-- CH_EN bit `n` is cleared: the channel drains, or the write is refused (R584). -/
def State.drainNand (s : State) (n : Nat) : State × Status :=
  if (s.nandList.filter (fun k => k ≠ n)).isEmpty || !s.drainFits n then (s, .denied)
  else ({ s with bem := { s.bem with chEn := setNbit s.bem.chEn n false } }.setChSt n .draining, .ok)

/-- CH_EN bit `n` is set: the channel joins the pools (R584); a channel that is not there, is fused off, failed BIST or has failed
since does not (R42, R147). -/
def State.joinNand (s : State) (n : Nat) : State :=
  let failed := s.evt.failed.any (fun f => f = (UnitKind.nand, n))
  if failed || !nbit s.nandCfg.chMask n || !nbit s.sys.nandOk n then s
  else
    let s := { s with
      sys := { s.sys with nands := setNbit s.sys.nands n true }, bem := { s.bem with chEn := setNbit s.bem.chEn n true } }
    s.setChSt n .active

/-- The effect of a write of BEM_CTRL: the bits that change, lowest first; the first refusal refuses the write (R584). A draining
channel goes on draining whatever is written. (DEDUCED, log 18) -/
def State.bemCtrlEff (s : State) (v : Word) : State × Status :=
  let x := (upTo 8).foldl (fun (x : State × Status) n =>
    if x.2 ≠ .ok then x
    else if nbit x.1.bem.chEn n && !bit v n then x.1.drainNand n
    else if x.1.chSt n = .draining then x
    else if !nbit x.1.bem.chEn n && bit v n then (x.1.joinNand n, .ok)
    else x) (s, Status.ok)
  if x.2 = .ok then x else (s, x.2)

/-- CH_EN as it reads: a channel that drains reads 1 until step 4 (R584). -/
def State.chEnView (s : State) : Nat :=
  (upTo 8).foldl (fun v n => if s.chSt n = .draining then setNbit v n true else v) s.bem.chEn

/-- CH_EN with one bit changed. -/
def State.chEnWith (s : State) (n : Nat) (b : Bool) : Word := BitVec.ofNat 32 (setNbit s.chEnView n b)

/-- NAND_CHANNEL_DRAIN (R584): a write of BEM_CTRL that clears the bit of channel `n`. -/
def execNandChannelDrain (r : Requester) (n : Nat) (s : State) : Host.Outcome State Fault Refusal :=
  .next (s.writeRow r (0x800000 + R.BEM_CTRL) (s.chEnWith n false) State.bemCtrlEff)

/-- NAND_CHANNEL_JOIN (R584): a write of BEM_CTRL that sets the bit of channel `n`. -/
def execNandChannelJoin (r : Requester) (n : Nat) (s : State) : Host.Outcome State Fault Refusal :=
  .next (s.writeRow r (0x800000 + R.BEM_CTRL) (s.chEnWith n true) State.bemCtrlEff)

/-- The valid data of a channel moves to the others, block by block, and the emptied blocks leave with the channel (R584 step
3). -/
def State.moveOff (s : State) (n : Nat) : State :=
  let bs := s.nand.blocks.filter (fun x => x.2.ch = n)
  let s := bs.foldl (fun s x =>
    match s.copyUnits x.2.pool x.2.slc (x.2.units.filter s.liveUnit) with
    | some (s', cs) => (s'.remap x.1 cs).bemW 1 cs.length
    | none => s) s
  let left := s.nand.blocks.filter (fun x => !(x.2.ch = n ∧ x.2.units = []))
  { s with nand := { s.nand with blocks := left },
           bem := { s.bem with moves := s.bem.moves.filter (fun m => left.any (fun x => x.1 = m.victim)) } }

/-- NAND_CHANNEL_DRAIN_DONE (R584): every valid unit of the draining channel has moved; its mask bit clears. -/
def execNandChannelDrainDone (n : Nat) (s : State) : Host.Outcome State Fault Refusal :=
  .next (
    if !s.beamUp || s.chSt n ≠ .draining then s
    else
      let s := s.moveOff n
      { s with sys := { s.sys with nands := setNbit s.sys.nands n false } }.setChSt n .absent)

/-- A channel fails in service (R584, R726): its units are unreadable; LEGAL_EXPOSED where they held legal data, and Selvedge is
asked for two checkpoint cycles. -/
def State.failNand (s : State) (n : Nat) : State :=
  let legal := s.chUnits n .legal
  let gone := legal ++ s.chUnits n .archive
  let spans := ((0 :: s.nand.ring.map Prod.snd).zip s.nand.ring).filter (fun x => x.2.1 ∈ legal)
  let lostJ := s.nand.journal.filterMap (fun (x : JRec) =>
    if spans.any (fun y => y.1 < x.jseq ∧ x.jseq ≤ y.2.2) then some x.jseq else none)
  let recs := s.nand.archive.map (fun (r : ArchRec) => if r.unit ≠ 0 ∧ r.unit ∈ gone then { r with lost := true } else r)
  let blocks := s.nand.blocks.filter (fun x => x.2.ch ≠ n)
  let here := fun (k : Nat) => blocks.any (fun (x : Nat × Block) => x.1 = k)
  let mv := s.bem.moves.filter (fun (m : Move) => here m.victim && m.copies.all (fun c => here c.2))
  let s := { s with
    nand := { s.nand with archive := recs, blocks := blocks, lostJ := s.nand.lostJ ++ lostJ },
    bem := { s.bem with chEn := setNbit s.bem.chEn n false, moves := mv } }
  let s := (s.setChSt n .failed).unitDown .nand n
  if legal.isEmpty then s
  else
    { s with bem := { s.bem with exposed := true, exposedLeft := 2 }, slv := { s.slv with ckptSlice := 0 } }.raise
      Ev.LEGAL_EXPOSED .fault (unit := n) (lasting := true)

/-- NAND_CHANNEL_FAIL (R584): a channel in use, or one that drains, fails. -/
def execNandChannelFail (n : Nat) (s : State) : Host.Outcome State Fault Refusal :=
  .next (if s.beamUp && (s.nandOn n || decide (s.chSt n = .draining)) then s.failNand n else s)

end Sys2Proof.Machine
end

