-- ==== Sys2Proof/Machine/Clock.lean ====
section
/-!
DEFINITION. Treadle: operating points and rails (03_clocks_islands_ageing.md R88, R109 to R123), and Temple: slack, offsets,
limits, history and projection (R124 to R137).
-/

namespace Sys2Proof.Machine
open Sys2Proof

/-! Limits of the islands (R88, R109). -/

/-- The island draws from VDD_HI. -/
def onHi (i : Nat) : Bool := decide (3 ≤ i ∧ i ≤ 7) || decide (i = 16)

/-- The island has frequency steps. -/
def steppable (i : Nat) : Bool := decide (3 ≤ i ∧ i ≤ 7) || decide (i = 16) || decide (i = 20)

/-- The voltage ceiling in mV; AON's is its rail. -/
def ceilMv (i : Nat) : Nat := if i = 0 then 800 else if onHi i then 900 else 850

/-- Initial planned voltages by step in mV (R109). -/
def stepMv (i k : Nat) : Nat :=
  if i = 20 then [760, 745, 730, 715, 700, 685, 670, 660, 650, 640, 630, 625, 625].getD k 625
  else if i = 7 ∨ i = 16 then [780, 765, 750, 735, 720, 705, 690, 680, 670, 660, 650, 650, 650].getD k 650
  else [800, 785, 770, 755, 740, 725, 710, 700, 690, 680, 670, 650, 650].getD k 650

/-- The initial voltage, at most, in mV (R88). -/
def initMv (i k : Nat) : Nat :=
  if steppable i then stepMv i k
  else match i with
    | 0 => 800
    | 1 => 740
    | 2 => 700
    | 17 => 750
    | 18 => 720
    | 19 => 750
    | 21 => 740
    | _ => 700

/-- V_trim of the OTP, never above the table's value (R115). (DEDUCED, log 46) -/
def State.vtrim (s : State) (i k : Nat) : Nat :=
  min (Store.get (fun n => initMv (n / 16) (n % 16)) s.otp.vtrim (16 * i + k)) (initMv i k)

/-- The planned voltage with an offset, held to the ceiling (R115, R131). -/
def State.vplan (s : State) (i k ofs : Nat) : Nat := min (ceilMv i) (s.vtrim i k + ofs)

/-- The voltage a regulator gives for a planned one: the next value of its 5 mV grid, and never below its least output (R114). AON
has no regulator. (DEDUCED, log 45) -/
def regOut (i v : Nat) : Nat := if i = 0 then v else max (if onHi i then 650 else 625) ((v + 4) / 5 * 5)

/-- Where the regulator of island `i` stands at step `k` (R114, R115). -/
def State.vset (s : State) (i k ofs : Nat) : Nat := regOut i (s.vplan i k ofs)

/-- The effective step (R111); during a measurement window it is LIMIT (R126). -/
def Island.eff (x : Island) : Nat := if x.forWindow then x.limit else max x.tgt x.limit

/-- The step that the plan in force has the island head for (R111, R122). -/
def Island.aim (x : Island) : Nat := if x.forWindow then x.lim else max x.tgt x.lim

/-- The voltage an island counts with for its rail (R116). -/
def State.railShare (s : State) (i : Nat) (x : Island) : Nat :=
  if x.trans = .idle then s.vplan i x.cur x.applied
  else max (s.vplan i x.cur x.applied) (s.vplan i x.goal x.applied)

/-- The voltage of a rail that R116 asks for. -/
def State.railNeed (s : State) (hi : Bool) : Nat :=
  let top := s.clk.islands.foldl (fun (m : Nat) (e : Nat × Island) =>
    if e.1 ≠ 0 ∧ onHi e.1 = hi ∧ e.2.en then max m (s.railShare e.1 e.2) else m) 0
  max (if hi then 675 else 650) ((top + 25 + 4) / 5 * 5)

/-- A rail. -/
def Clk.rail (c : Clk) (hi : Bool) : Rail := if hi then c.hi else c.lo

/-- The clock unit with a rail replaced. -/
def Clk.setRail (c : Clk) (hi : Bool) (r : Rail) : Clk := if hi then { c with hi := r } else { c with lo := r }

/-- The voltage a rail has once every write requested of it is done (R123). -/
def Rail.final (r : Rail) : Nat := r.queue.getLast?.getD r.mv

/-- A rail is settled at or above a voltage, and no write that is still queued takes it below (R116, R123). -/
def Rail.holds (r : Rail) (mv : Nat) : Bool := (r.mv :: r.queue).all (fun v => decide (mv ≤ v))

/-- An AVSBus voltage write is requested; writes to one rail go in request order, and none before the rail selects are known
(R118, R123). -/
def State.pushRail (s : State) (hi : Bool) (mv : Nat) : State :=
  let r := s.clk.rail hi
  if r.final = mv then s
  else
    { s with
      clk := s.clk.setRail hi { r with queue := r.queue ++ [mv] },
      out := if r.queue.isEmpty && s.clk.avsOn then s.out ++ [.avs hi mv] else s.out }

/-- The rail is lowered to what R116 asks for. -/
def State.trimRail (s : State) (hi : Bool) : State :=
  let need := s.railNeed hi
  if need < (s.clk.rail hi).final && !(s.clk.rail hi).fail then s.pushRail hi need else s

/-- The island of the present window: one that an alarm has Temple measure, else the cycle's next one. (DESIGN CHOICE, log 151) -/
def Temple.window (t : Temple) : Option Nat :=
  match t.alarms with
  | i :: _ => some i
  | [] => t.todo.bind List.head?

/-- The next part of a change of operating point of island `i`, in the order of R117, under the plan in force: it ends where the
step and the planned voltage are reached and, where step 6 belongs to it, the rail is as R116 sets it. Outside a transition the
plan in force is Temple's present one (R122). (DEDUCED, log 45) -/
def State.advanceOnce (s : State) (i : Nat) : State :=
  let x0 := s.isl i
  if !x0.en || x0.closing || decide (i = 0) then s
  else
    let x := if x0.trans = .idle then { x0 with applied := x0.offset, lim := x0.limit, fell := false } else x0
    let goal := if steppable i then x.aim else 0
    let hi := onHi i
    let here := s.vset i x.cur x.applied
    let there := s.vset i goal x.applied
    let stop := { x with trans := .idle, busy := false, goal := x.cur, fell := false }
    let go := fun (t : Trans) => { x with trans := t, busy := true, goal := goal }
    let raise := fun (s : State) =>
      let s1 := s.setIsl i (go .railUp)
      let need := s1.railNeed hi
      let r := s.clk.rail hi
      if r.holds need then s.setIsl i { go .voltUp with ramp := true }
      else if r.fail then s.setIsl i stop
      else s1.pushRail hi need
    if x.cur < goal then s.setIsl i { go .stepping with fell := true }
    else if goal < x.cur then
      if there ≤ x.mv && !x.ramp then s.setIsl i (go .stepping) else raise s
    else if x.mv < here then raise s
    else if decide (here < x.mv) || x.ramp then s.setIsl i { go .voltDown with ramp := true, fell := true }
    else
      let done := s.setIsl i stop
      let need := done.railNeed hi
      let r := s.clk.rail hi
      if x.fell && !r.fail && decide (need < r.mv) then (s.setIsl i (go .railDown)).trimRail hi else done

/-- A change of operating point goes on; where it ends, a plan that Temple changed meanwhile is taken up at once (R122), and a window
of Temple at the LIMIT step begins (R126, R130). -/
def State.advance (s : State) (i : Nat) : State :=
  let t := s.advanceOnce i
  let x := t.isl i
  if x.trans ≠ .idle then t
  else if x.offset ≠ x.applied ∨ x.limit ≠ x.lim then t.advanceOnce i
  else if s.tmp.window = some i ∧ (s.isl i).trans ≠ .idle then { t with tmp := { t.tmp with winAt := t.tim.cnt } }
  else t

/-- A change of operating point of island `i` starts where none runs (R117, R122). -/
def State.retarget (s : State) (i : Nat) : State := if (s.isl i).trans = .idle then s.advance i else s

/-- An island is headed elsewhere during a transition: the 2 us step in progress is completed first, anything else is given up at
once (R122). -/
def State.reaim (s : State) (i : Nat) : State := if (s.isl i).trans = .stepping then s else s.advance i

/-- The TGT field a write of CKV_STEP_i gives: 13 to 15 are taken as 12 (R113). (DEDUCED, log 45) -/
def tgtOf (v : Word) : Nat := min 12 (field v 11 8)

/-- The transition has raised the rail or the voltage, so that it lowers them where it is headed elsewhere (R117, R122). -/
def Island.raised (x : Island) : Bool := decide (x.trans = .railUp ∨ x.trans = .voltUp)

/-- A write of CKV_STEP_i (R113, R117, R122). (DEDUCED, log 45) -/
def State.setTgt (s : State) (i : Nat) (v : Word) : State :=
  let x := s.isl i
  (s.setIsl i { x with tgt := tgtOf v, fell := x.fell || x.raised }).reaim i

/-- Where CKV_STEP_i is. -/
def stepAddr (i : Nat) : Nat := 0x010100 + 4 * i

/-- STEP_TARGET_WRITE (R117): requester `r` writes TGT of island `i` through the P-view. -/
def execStepTargetWrite (r : Requester) (i tgt : Nat) (s : State) : Host.Outcome State Fault Refusal :=
  .next (s.writeRow r (0x800000 + stepAddr i) (packWord [(8, 4, tgt)]) (okEff (fun s v => s.setTgt i v)))

/-- Power is on and no flush runs, so that Treadle works (R108). -/
def State.treadle (s : State) : Bool :=
  decide (s.sys.st ≠ .reset ∧ s.sys.st ≠ .flush ∧ s.sys.st ≠ .flushed)

/-- FREQUENCY_STEP_TICK (R110): an island in transition moves one step toward its goal. While the synthesisers are frozen for a
switch of source, no step is made (R95). -/
def execFrequencyStepTick (i : Nat) (s : State) : Host.Outcome State Fault Refusal :=
  let x := s.isl i
  if s.treadle && !s.clk.hold && steppable i && x.en && decide (x.trans = .stepping) then
    let c := if x.cur < x.goal then x.cur + 1 else if x.goal < x.cur then x.cur - 1 else x.cur
    .next ((s.setIsl i { x with cur := c }).advance i)
  else .next s

/-- REGULATOR_SETTLED (R114): the island's voltage is settled, and the transition continues. -/
def execRegulatorSettled (i : Nat) (s : State) : Host.Outcome State Fault Refusal :=
  let x := s.isl i
  if s.treadle && x.en && decide (x.trans = .voltUp ∨ x.trans = .voltDown) then
    .next ((s.setIsl i { x with mv := s.vset i x.goal x.applied, ramp := false }).advance i)
  else .next s

/-- The islands of a rail that Treadle goes on with once the rail has changed: those that wait for it, and those without a
transition. -/
def State.waitsOnRail (s : State) (hi : Bool) (i : Nat) : Bool :=
  let x := s.isl i
  decide (onHi i = hi) && x.en && decide (x.trans = .railUp ∨ x.trans = .railDown ∨ x.trans = .idle)

/-- Every island of a rail goes on. -/
def State.advanceRail (s : State) (hi : Bool) : State :=
  (upTo 22).foldl (fun (s : State) i => if s.waitsOnRail hi i then s.advance i else s) s

/-- A rail write has failed its third retry (R119): FAIL is set, every change that needs the rail higher is given up, and changes
that lower frequency go on. AVS_FAIL names no island, so SRC is 0xFF; its argument is 1 for VDD_HI and 0 for VDD_LO.
(DESIGN CHOICE, log 150) -/
def State.railFails (s : State) (hi : Bool) : State :=
  let r := s.clk.rail hi
  let s := { s with clk := s.clk.setRail hi { r with fail := true, queue := r.queue.take 1, retries := r.retries + 1 } }
  (s.advanceRail hi).raise Ev.AVS_FAIL .fault (args := [aCode (b2n hi)]) (lasting := true)

/-- AVS_FAIL of a rail ends. (DESIGN CHOICE, log 150) -/
def State.railBack (s : State) (hi : Bool) : State :=
  s.endEv Ev.AVS_FAIL (fun e => decide (e.args = [aCode (b2n hi)]))

/-- AVS_RETRY_TIMER (R119): a failed write is sent again; `ok` says whether the slave acknowledged it. -/
def execAvsRetryTimer (hi ok : Bool) (s : State) : Host.Outcome State Fault Refusal :=
  let r := s.clk.rail hi
  match r.queue with
  | [] => .next s
  | mv :: _ =>
    if !s.treadle || !s.clk.avsOn then .next s
    else
      let s := s.emit (.avs hi mv)
      if ok then
        let s := { s with clk := s.clk.setRail hi { r with fail := false, retries := 0 } }
        .next (if r.fail then s.railBack hi else s)
      else if r.fail then .next s
      else if 2 ≤ r.retries then .next (s.railFails hi)
      else .next { s with clk := s.clk.setRail hi { r with retries := r.retries + 1 } }

/-! Temple. -/

/-- Powered hours now (R133). -/
def State.poweredHours (s : State) : Nat := min 0xFFFFFFFF (s.tmp.hours + (s.tim.cnt - s.tmp.hourBase) / hourCounts)

/-- The largest r with r^5 ≤ n, built bit by bit from the top. -/
def fifthRoot (n : Nat) : Nat :=
  (List.range 64).reverse.foldl (fun (r : Nat) b => if (r + 2 ^ b) ^ 5 ≤ n then r + 2 ^ b else r) 0

/-- t^0.2 in units of 10^-4, rounded down. (DESIGN CHOICE, log 151) -/
def root5 (t : Nat) : Nat := fifthRoot (t * 10 ^ 20)

/-- The projected date of island `i` in ns since the PTP epoch; 0 before 720 h and while A is 0 (R134). A date beyond 48 bits of
seconds wraps in TMP_PROJ. (DEDUCED, log 46; DESIGN CHOICE, log 151) -/
def State.project (s : State) (i : Nat) (x : Island) : Nat :=
  let h := s.poweredHours
  let num := x.history.foldl (fun (m : Nat) (p : Nat × Nat) => m + p.2 * root5 p.1) 0
  let den := x.history.foldl (fun (m : Nat) (p : Nat × Nat) => m + root5 p.1 * root5 p.1) 0
  if i = 0 ∨ h < 720 ∨ num = 0 then 0
  else
    let room := ceilMv i - s.vtrim i (if steppable i then 3 else 0)
    let te : Nat := (room * den) ^ 5 / (10000 * num) ^ 5
    let now : Int := s.nowNs
    (now + ((te : Int) - h) * 3600 * second).toNat

/-- OFFSET and LIMIT of R127 for a lowest slack S in %; sigma is in 0.01 % per 10 mV. (DESIGN CHOICE, log 151) -/
def State.planIsland (s : State) (i : Nat) (x : Island) (slack : Nat) : Island :=
  let sg := max 1 (Store.get (fun _ => 100) s.otp.sigma i)
  let need := if slack < 12 then (((12 - slack) * 1000 + sg - 1) / sg + 4) / 5 * 5 else 0
  let ofs := min 255 (x.offset + need)
  let lim := if steppable i then max x.limit (((upTo 13).find? (fun k => s.vtrim i k + ofs ≤ ceilMv i)).getD 12) else 0
  { x with offset := ofs, limit := lim, slack := min 255 slack }

/-- The OTP ratchet of an island in mV. (DESIGN CHOICE, log 140) -/
def Otp.ratchetOf (o : Otp) (i : Nat) : Nat := Store.get (fun _ => 0) o.ratchet i

/-- An OFFSET that passes a multiple of 10 mV is burnt into the OTP ratchet, which only rises (R133): the whole new OFFSET, not
the multiple. (DESIGN CHOICE, log 140) -/
def State.burn (s : State) (i old new : Nat) : State :=
  if old / 10 < new / 10 then
    { s with otp := { s.otp with ratchet := Store.insert s.otp.ratchet i (max (s.otp.ratchetOf i) new) } }
  else s

/-- The voltage of a fixed island cannot rise any more: it stands at its ceiling; AON's is fixed (R131).
(DESIGN CHOICE, log 151) -/
def atCeil (i : Nat) (x : Island) : Bool := decide (i = 0) || decide (ceilMv i ≤ x.mv)

/-- MARGIN_EXHAUSTED where R131 gives it, with the hold of R132 for SLV; `old` is the island as it was measured. -/
def State.exhausted (s : State) (i : Nat) (old x : Island) : State :=
  let bad := if steppable i then decide (3 < x.limit) else decide (x.slack < 6) && atCeil i old
  if !bad then s
  else
    let s := s.raise Ev.MARGIN_EXHAUSTED .fault (unit := i) (lasting := true)
    if i = 17 then s.setCause 7 else s

/-- An island has new margins: the ratchet, MARGIN_STEP and MARGIN_EXHAUSTED (R127 to R132). (DEDUCED, log 46) -/
def State.newMargins (s : State) (i : Nat) (x : Island) (step : Bool) : State :=
  let old := s.isl i
  let s := (s.setIsl i x).burn i old.offset x.offset
  let s := if step ∨ old.limit < x.limit then s.raise Ev.MARGIN_STEP .warning (unit := i) (args := [aCode x.limit]) else s
  s.exhausted i old x

/-- The new margins of a measured island go through Treadle (R117, R122, R127). (DEDUCED, log 46) -/
def State.setMargins (s : State) (i : Nat) (x : Island) (step : Bool) : State := (s.newMargins i x step).retarget i

/-- The islands a running cycle still has to measure, after those skipped under R125 and R126: a closed island is left out; a
steppable one that TGT holds slower than LIMIT is left out four times and then taken to LIMIT for its window. -/
def State.templeSkip : Nat → State → State
  | 0, s => s
  | n + 1, s =>
    match s.tmp.todo with
    | some (i :: rest) =>
      let x := s.isl i
      if !x.en || x.closing then State.templeSkip n { s with tmp := { s.tmp with todo := some rest } }
      else if steppable i && decide (x.limit < x.tgt) && !x.forWindow then
        if x.skips < 4 then
          State.templeSkip n ({ s with tmp := { s.tmp with todo := some rest } }.setIsl i { x with skips := x.skips + 1 })
        else (s.setIsl i { x with forWindow := true }).retarget i
      else s
    | _ => s

/-- The island's daily history point and projection after a cycle (R133 to R135). A day is 24 powered hours, and MARGIN_LOW is
raised once per island since the last reset. (DESIGN CHOICE, log 151) -/
def State.templeDaily (s : State) (i : Nat) : State :=
  let x := s.isl i
  let h := s.poweredHours
  let due := match x.history.getLast? with
    | none => true
    | some p => decide (p.1 / 24 < h / 24)
  let x := if due then { x with history := x.history ++ [(h, x.offset)] } else x
  let p := s.project i x
  let low := decide (p ≠ 0 ∧ s.tmp.first ≠ 0 ∧ p < s.tmp.first + 20 * 31557600 * second) && !x.lowRaised
  let s := s.setIsl i { x with proj := p, lowRaised := x.lowRaised || low }
  if low then s.raise Ev.MARGIN_LOW .warning (unit := i) else s

/-- Temple's record as it stands (R133). (DEDUCED, log 46) -/
def State.templeRecord (s : State) : TempleRecord :=
  { offsets := (upTo 22).map (fun i => (i, (s.isl i).offset)), limits := (upTo 22).map (fun i => (i, (s.isl i).limit)),
    hours := s.poweredHours, first := s.tmp.first, history := (upTo 22).map (fun i => (i, (s.isl i).history)),
    exhausted := (upTo 22).filter (fun i => s.active Ev.MARGIN_EXHAUSTED (fun e => decide (e.unit = i))) }

/-- The record goes to Beam's system area, and TMP_HOURS shows its powered hours (R133, R137). -/
def State.writeTemple (s : State) : State :=
  let h := s.poweredHours
  { s with
    nand := { s.nand with temple := some s.templeRecord },
    tmp := { s.tmp with hours := h, hourBase := s.tmp.hourBase + (h - s.tmp.hours) * hourCounts } }

/-- A cycle that has measured its last island ends: history, projections, and the record to Beam's system area. -/
def State.templeEnd (s : State) : State :=
  match s.tmp.todo with
  | some [] =>
    let known := s.tim.domA.everLocked || s.tim.domB.everLocked
    let s := { s with tmp := { s.tmp with
      todo := none, cycles := (s.tmp.cycles + 1) % 65536,
      first := if s.tmp.first = 0 && known then s.nowNs else s.tmp.first } }
    let s := (upTo 22).foldl (fun (s : State) i => s.templeDaily i) s
    if s.sysWrites then s.writeTemple else s
  | _ => s

/-- A measurement cycle starts unless one is running (R125). -/
def State.templeStart (s : State) : State :=
  match s.tmp.todo with
  | some _ => s
  | none =>
    (State.templeSkip 22 { s with tmp := { s.tmp with todo := some (upTo 22), cycleAt := s.tim.cnt, winAt := s.tim.cnt } }).templeEnd

/-- TEMPLE_CYCLE_TIMER (R125): 6 h of powered time, counted on the TIM counter, have passed since the last cycle began. -/
def execTempleCycleTimer (t : Nat) (s : State) : Host.Outcome State Fault Refusal :=
  let s := s.reach t
  if s.treadle && decide (s.tmp.cycleAt + 6 * hourCounts ≤ s.tim.cnt) then .next s.templeStart else .next s

/-- TEMPLE_MEASURE (R137): a write of 1 to TMP_CTRL.MEASURE through the P-view. -/
def execTempleMeasure (r : Requester) (s : State) : Host.Outcome State Fault Refusal :=
  .next (s.writeRow r (0x800000 + R.TMP_CTRL) 1 (okEff (fun s _ => s.templeStart)))

/-- The window of island `i` gives its lowest slack: R127, unless the island has closed or has been taken off its LIMIT step, which
skips it (R125, R126). (DEDUCED, log 46) -/
def State.measure (s : State) (i slack : Nat) : State :=
  let x := s.isl i
  if !x.en || x.closing then s
  else if steppable i && decide (x.cur ≠ x.limit) then
    (s.setIsl i { x with skips := x.skips + 1, forWindow := false }).retarget i
  else s.setMargins i { s.planIsland i x slack with skips := 0, forWindow := false } false

/-- The present window is over, and the next one begins at counter value `now`. -/
def Temple.passed (t : Temple) (now : Nat) : Temple :=
  match t.alarms with
  | _ :: rest => { t with alarms := rest, winAt := now }
  | [] => { t with todo := t.todo.map List.tail, winAt := now }

/-- TEMPLE_WINDOW_END (R125 to R127): the 250 ms window of the present island ends with the lowest slack of its sensors in %. While
the island is still on its way to its LIMIT step, no window has begun. -/
def execTempleWindowEnd (slack t : Nat) (s : State) : Host.Outcome State Fault Refusal :=
  let s := s.reach t
  match s.tmp.window with
  | none => .next s
  | some i =>
    if !s.treadle || decide ((s.isl i).trans ≠ .idle) || decide (s.tim.cnt < s.tmp.winAt + msCounts 250) then .next s
    else
      let s := s.measure i slack
      .next (State.templeSkip 22 { s with tmp := s.tmp.passed s.tim.cnt }).templeEnd

/-- A steppable island whose sensor raised an alarm: LIMIT moves one step slower, which takes precedence over any transition, and
Temple measures the island at its new LIMIT step (R122, R130). (DEDUCED, log 46) -/
def State.stepDown (s : State) (i slack : Nat) : State :=
  let x := s.isl i
  let k := min 12 (x.limit + 1)
  let y := { x with limit := k, lim := k, slack := slack, fell := x.fell || x.raised }
  let s := (s.newMargins i y true).reaim i
  if y.tgt ≤ k then
    { s with tmp := { s.tmp with alarms := s.tmp.alarms ++ [i], winAt := s.tim.cnt } }
  else s

/-- SLACK_ALARM (R130): a sensor of island `i` falls below 6 % between cycles. SLACK takes the alarming sensor's value, on a fixed
island too. (DESIGN CHOICE, log 151) -/
def execSlackAlarm (i slack : Nat) (s : State) : Host.Outcome State Fault Refusal :=
  let x := s.isl i
  if !s.treadle || !x.en || s.tmp.todo.isSome || decide (6 ≤ slack) || decide (21 < i) then .next s
  else if steppable i then .next (s.stepDown i slack)
  else
    let room := ceilMv i - s.vtrim i 0
    let y := { x with offset := if i = 0 then x.offset else max x.offset (min room (x.offset + 10)), slack := slack }
    .next (s.setMargins i y true)

end Sys2Proof.Machine
end

