-- ==== Sys2Proof/Machine/DataPort.lean ====
section
/-!
DEFINITION. The data port (17_host_link_registers.md): bursts (R638 to R641), reads (R643), and commits up to the handover to
the consumer (R642).
-/

namespace Sys2Proof.Machine
open Sys2Proof

/-- The partition and role a requester writes its own registers as (R651, R170); none for the UART and for cores. -/
def State.ownPart (s : State) (r : Requester) : Option (Nat × Role) :=
  match r with
  | .slot j k => (s.session j k).map (fun x => (j, x.role))
  | .recovery => some (0, .operator)
  | .uart => none
  | .core _ => none

/-- The role a session of partition `j` in slot `k` acts in. -/
def State.roleOf (s : State) (j k : Nat) : Role := ((s.session j k).map Session.role).getD .maintenance

/-! Bursts (R639). -/

/-- What R639 steps 1 to 3 say: the port as opened for a new burst where step 1 holds, or a refusal. (DEDUCED, log 120) -/
def Part.burstStep (p : Part) (bsn idx : Nat) (start : Bool) (addr now : Nat) : Part × Status :=
  let later := match p.bsn with
    | none => true
    | some b => laterMod32 bsn b
  let isOpen := p.burstOpen && decide (p.bsn = some bsn)
  if start && decide (idx = 0) && later then
    ({ p with burstOpen := true, bsn := some bsn, expect := 0, addr := addr, burstAt := now }, .ok)
  else if !start && isOpen then
    (p, if idx < p.expect then .dup else if p.expect < idx then .seqGap else .ok)
  else if !later && !isOpen then (p, .seqStale)
  else (p, .badRequest)

/-- What R639 step 4 says of `n` bytes at a data-space address written by role `r` of partition `j`. -/
def State.dpTarget (s : State) (j : Nat) (r : Role) (addr n : Nat) : Status :=
  let code := addr / 2 ^ 56
  if s.sys.st = .recovery ∧ code ≠ 0x01 then .notReady
  else match s.regionSize code with
  | none => .unmapped
  | some size =>
    if !s.mayWrite j r code then .denied
    else if n = 0 ∨ size < addr % 2 ^ 56 + n then .length
    else if ((s.part j).region code).busy then .busy
    else if s.pagesFree j (((s.part j).region code).newPages (pagesOf (addr % 2 ^ 56) (addr % 2 ^ 56 + n))).length then .ok
    else .busy

/-- Bytes are written to a region (R636, R637, R642 step 5). -/
def Region.write (x : Region) (a : Nat) (bs : List Nat) : Region :=
  { x with data := storeBytes x.data a bs, ext := extAdd x.ext a (a + bs.length),
           pages := x.pages ++ x.newPages (pagesOf a (a + bs.length)) }

/-- The decision on one DP_DATA (R639): the state and its STATUS. (DEDUCED, log 120) -/
def State.dpData (s : State) (j : Nat) (r : Role) (bsn idx : Nat) (start : Bool) (addr : Nat) (bs : List Nat) :
    State × Status :=
  let x := (s.part j).burstStep bsn idx start addr s.tim.cnt
  let s := s.setPart j x.1
  if x.2 ≠ .ok then (s, x.2)
  else
    let a := x.1.addr
    match s.dpTarget j r a bs.length with
    | .ok =>
      let code := a / 2 ^ 56
      let p := x.1.setRegion code ((x.1.region code).write (a % 2 ^ 56) bs)
      (s.setPart j { p with addr := a + bs.length, expect := x.1.expect + 1, burstAt := s.tim.cnt }, .ok)
    | st => (s, st)

/-- DP_DATA (R639): every datagram is answered with one DP_ACK. -/
def execDpData (d : Dg) (bsn idx : Nat) (start : Bool) (addr : Nat) (bs : List Nat) (s : State) :
    Host.Outcome State Fault Refusal :=
  let a := s.takeDgram d
  .next (
    if !a.2 then a.1
    else
      let r := a.1.roleOf d.part d.slot
      let x := a.1.dpData d.part r bsn idx start addr bs
      let s := match x.2 with
        | .seqStale => x.1.cntW (R.HST_CNT_k + 28)
        | .badRequest => x.1.cntW (R.HST_CNT_k + 20)
        | _ => x.1
      s.send d.part d.slot (.dpAck bsn idx (s.part d.part).expect x.2 (s.part d.part).addr))

/-- An open burst idle for HST_DP_IDLE_TIMEOUT is abandoned (R640, R652). -/
def State.abandon (s : State) (j : Nat) : State :=
  (s.setPart j { s.part j with burstOpen := false }).cntW (R.HST_CNT_k + 24)

/-- DP_IDLE_TIMEOUT (R640). -/
def execDpIdleTimeout (j t : Nat) (s : State) : Host.Outcome State Fault Refusal :=
  let s := s.reach t
  let p := s.part j
  .next (if p.burstOpen && decide (p.burstAt + msCounts (clampNat 10 60000 p.idleMs) ≤ s.tim.cnt) then s.abandon j else s)

/-! Reads (R643). -/

/-- One DP_RDATA after another, each of at most `m` bytes. -/
def State.dpChunks (j k bsn : Nat) (rg : Region) (m : Nat) : Nat → State → Nat → Nat → Nat → State
  | 0, s, _, _, _ => s
  | fuel + 1, s, idx, addr, n =>
    if n = 0 then s
    else
      let c := min m n
      let s := s.send j k (.dpRData bsn idx addr .ok (rg.read (addr % 2 ^ 56) c))
      State.dpChunks j k bsn rg m fuel s (idx + 1) (addr + c) (n - c)

/-- What R643 and R724 say of a read of `n` bytes; in RECOVERY every region but IMAGE is NOT_READY (R170). -/
def State.dpReadable (s : State) (j : Nat) (r : Role) (addr n : Nat) : Status :=
  let code := addr / 2 ^ 56
  let a := addr % 2 ^ 56
  if s.sys.st = .recovery ∧ code ≠ 0x01 then .notReady
  else match s.regionSize code with
  | none => .unmapped
  | some size =>
    if !s.mayRead j r code then .denied
    else if size < a + n then .unmapped
    else if n = 0 ∨ 16777216 < n then .length
    else if code = 0x20 ∧ (s.part j).outBad.any (fun x => decide (x.1 < a + n ∧ a < x.2)) then .unmapped
    else .ok

/-- DP_READ (R643): answered with DP_RDATA in address order; BSN is bits 31:0 of the datagram's SEQ. -/
def execDpRead (d : Dg) (addr n : Nat) (s : State) : Host.Outcome State Fault Refusal :=
  let a := s.takeDgram d
  .next (
    if !a.2 then a.1
    else
      let s := a.1
      let bsn := d.seq % 2 ^ 32
      match s.dpReadable d.part (s.roleOf d.part d.slot) addr n with
      | .ok =>
        let m := s.dgLimit d.port - 24
        State.dpChunks d.part d.slot bsn ((s.part d.part).region (addr / 2 ^ 56)) m (n / max 1 m + 1) s 0 addr n
      | st => s.send d.part d.slot (.dpRData bsn 0 addr st []))

/-! HST_DP_ADDR (R641). -/

/-- The effect of a write of the low word of HST_DP_ADDR, with the high word held before (R10, R641). (DEDUCED, log 26) -/
def State.dpAddrEff (r : Requester) (s : State) (lo : Word) : State × Status :=
  match s.ownPart r with
  | none => (s, .denied)
  | some (j, _) =>
    let p := s.part j
    if p.burstOpen then (s, .busy)
    else
      let hi := s.heldOr r R.HST_DP_ADDR_1 (wordOf p.addr 1)
      ((s.setPart j { p with addr := lo.toNat + 2 ^ 32 * hi.toNat }).dropHeld r R.HST_DP_ADDR_1, .ok)

/-- HST_DP_ADDR_WRITE (R641): a write of the low word. -/
def execHstDpAddrWrite (r : Requester) (lo : Word) (s : State) : Host.Outcome State Fault Refusal :=
  .next (s.writeRow r R.HST_DP_ADDR_0 lo (State.dpAddrEff r))

/-! Commits (R642). -/

/-- An island's registers would answer GATED (R106, R649). -/
def State.islDown (s : State) (i : Nat) : Bool := !(s.isl i).en || (s.isl i).closing

/-- The consumer of a region's content is draining, disabled or gated (R642 step 4, R649). -/
def State.consumerDown (s : State) (code : Nat) : Bool :=
  match code with
  | 0x02 => s.islDown 20 || s.key.noLoads
  | 0x03 => s.islDown 7 || s.islDown 18
  | 0x04 => s.islDown 17 || decide (s.pen.pipeEn = 0)
  | 0x05 => s.islDown 17
  | _ => false

/-- The region's content needs the ACTIVE role (R630). -/
def needsActive (code : Nat) : Bool := decide (code = 0x02 ∨ code = 0x03 ∨ code = 0x05)

/-- R642: the result of committing region `code` of partition `j` with LEN as HST_DP_COMMIT_LEN gives it; in RECOVERY a region
other than IMAGE is NOT_READY (R170). -/
def State.commitStatus (s : State) (j : Nat) (r : Role) (code : Nat) : Status :=
  let p := s.part j
  let x := p.region code
  if s.sys.st = .recovery ∧ code ≠ 0x01 then .notReady
  else if p.burstOpen ∨ x.busy then .busy
  else if !s.mayWrite j r code then .denied
  else if needsActive code ∧ s.sys.st ≠ .active then .notActive
  else if s.consumerDown code then .disabled
  else if extCovers x.ext p.commitLen then .ok
  else .incomplete

/-- The content is handed over (R642 step 6): the written extent is cleared and HST_DP_ADDR is the region base.
(DEDUCED, log 126) -/
def State.hand (s : State) (j code : Nat) : State :=
  let p := s.part j
  let p := p.setRegion code { p.region code with busy := true, taken := false, ext := [] }
  s.setPart j { p with addr := code * 2 ^ 56, commitSt := .handed, commitRegion := code, commitCode := 0 }

/-- The effect of a write of HST_DP_COMMIT (R642, R652). -/
def State.commitEff (r : Requester) (s : State) (v : Word) : State × Status :=
  if !bit v 31 then (s, .ok)
  else match s.ownPart r with
    | none => (s, .denied)
    | some (j, role) =>
      let code := field v 7 0
      match s.commitStatus j role code with
      | .ok => (s.hand j code, .ok)
      | st => (s, st)

/-- Region `code` of partition `j` is handed over and its consumer has not taken it up. (DEDUCED, log 126) -/
def State.handed (s : State) (j code : Nat) : Bool :=
  let x := (s.part j).region code
  x.busy && !x.taken

/-- The consumer takes the content up. (DEDUCED, log 126) -/
def State.takeUp (s : State) (j code : Nat) : State :=
  let p := s.part j
  s.setPart j (p.setRegion code { p.region code with taken := true })

/-- A commit command: HST_DP_COMMIT is written unless an earlier register operation has handed the content over already; then
the consumer takes it up: `consume` with the partition and LEN. (DEDUCED, log 126) -/
def State.commitRow (s : State) (r : Requester) (code : Nat) (consume : State → Nat → Nat → State) : State :=
  match s.ownPart r with
  | none => s.writeRow r R.HST_DP_COMMIT (packWord [(31, 1, 1), (0, 8, code)]) (State.commitEff r)
  | some (j, _) =>
    let s1 := if s.handed j code then s
      else s.writeRow r R.HST_DP_COMMIT (packWord [(31, 1, 1), (0, 8, code)]) (State.commitEff r)
    if s1.handed j code then consume (s1.takeUp j code) j (s1.part j).commitLen else s1

end Sys2Proof.Machine
end

