-- ==== Sys2Proof/Machine/Key.lean ====
section
/-!
DEFINITION. The Key Store (16_keys_security.md): the pair key-wrapping key (R599 to R602), reservations (R604, R703), lanes
(R607, R608), meter key import (R612, R613), zeroisation (R614), key certificates (R594, R595, R681) and the entropy source
(R593).
-/

namespace Sys2Proof.Machine
open Sys2Proof

/-! Entropy (R593). -/

/-- TRNG_HEALTH_FAIL (R593): a health test fails, TRNG_FAIL is raised and no key is generated from now on. -/
def execTrngHealthFail (s : State) : Host.Outcome State Fault Refusal :=
  .next (if !s.key.trngOk then s
    else { s with key := { s.key with trngOk := false } }.raise Ev.TRNG_FAIL .fault (lasting := true))

/-- TRNG_HEALTH_PASS (R593): 1,024 consecutive outputs pass. -/
def execTrngHealthPass (s : State) : Host.Outcome State Fault Refusal :=
  .next (if s.key.trngOk then s else { s with key := { s.key with trngOk := true } }.endEv Ev.TRNG_FAIL)

/-! The pair key-wrapping key (R599 to R602). -/

/-- The unit holds a PKWK: it is kept in the system area under the real root (R598, R599), and KEYTABLE_FAIL ends. -/
def State.holdPkwk (s : State) (k : Pkwk) : State :=
  let nand := if s.sysWrites && !s.key.debug then { s.nand with pkwk := some k, pgenMax := max s.nand.pgenMax k.pgen, pkwkOne := false } else s.nand
  State.endEv { s with
    key := { s.key with pkwk := some k, pgenMax := max s.key.pgenMax k.pgen, tableOk := true }, nand := nand } Ev.KEYTABLE_FAIL

/-- A new PKWK from the entropy source, with PGEN one above the highest held (R600); none while TRNG_FAIL is active (R593).
(DEDUCED, log 114) -/
def State.genPkwk (s : State) : State :=
  if !s.key.trngOk then s
  else
    let k : Pkwk := ⟨Config.entropy s.fresh, s.key.pgenMax + 1, false⟩
    (s.used.holdPkwk k).raise Ev.PKWK_NEW .info (args := [aIdx k.pgen])

/-- The first case of R600: the unit is ACTIVE and holds no PKWK, and there is no peer that may hold one. (DEDUCED, log 114) -/
def State.pkwkDue (s : State) : State :=
  if decide (s.sys.st = .active) && s.key.pkwk.isNone && (!s.sys.pairEn || decide (s.par.peerPgen = 0)) then s.genPkwk else s

/-! Reservations (R351, R604, R703). -/

/-- Endpoint `ep`'s requests stop waiting: its reservation is in use, and its request goes out (R604). -/
def State.grant (s : State) (ep : Nat) : State :=
  let r := (s.keyOf ep).txResv
  let x := s.sess ep
  let s := (s.setSess ep { x with icTx := some (r, r + 65536) })
  let s := { s with key := { s.key with
    waitResv := s.key.waitResv.filter (fun e => e ≠ ep), resvPend := s.key.resvPend.filter (fun e => e ≠ ep) } }
  match x.outReq with
  | some q => if q.delivered.isNone && !q.back then s.resend ep else s
  | none => s

/-- The system area accepts writes again: KEYSTORE_RO ends (R604, R617). -/
def State.storeCheck (s : State) : State :=
  if s.key.storeRo && s.sysWrites then { s with key := { s.key with storeRo := false } }.endEv Ev.KEYSTORE_RO else s

/-- The pair limits the reservations of an endpoint to 15 beyond the last acknowledged one (R703). (DEDUCED, log 73) -/
def State.resvLimit (s : State) (ep : Nat) : Bool :=
  let k := s.keyOf ep
  s.sys.pairEn && decide (Store.get (fun _ => k.txResv) s.par.resvAck ep + 15 * 65536 < k.txResv + 65536)

/-- The peer is LIVE and heard, so that a reservation needs its acknowledgement (R703). (DEDUCED, log 73) -/
def State.needsAck (s : State) : Bool := s.sys.pairEn && s.par.heard && decide (s.par.peerSync = .live)

/-- KEY_COPY_WRITTEN (R604): the copy of endpoint `ep`'s entry with its next reservation is written; the requests that waited for
it go out, with a LIVE standby once it has acknowledged the entry (R703). -/
def execKeyCopyWritten (ep : Nat) (s : State) : Host.Outcome State Fault Refusal :=
  let s := s.storeCheck
  .next (
    if !s.key.waitResv.contains ep || s.key.resvPend.contains ep || !(s.sysWrites || s.key.debug) then s
    else if !s.needsAck && s.resvLimit ep then s
    else
      let k := s.keyOf ep
      let base := Store.get (fun _ => k.txResv) s.par.resvAck ep
      let s := { s with par := { s.par with resvAck := Store.put (fun _ => 2 ^ 64) s.par.resvAck ep base } }
      let s := s.setKey ep { k with txResv := k.txResv + 65536, rxFloor := (s.sess ep).icRx.getD k.rxFloor }
      let s := (s.copyKey ep).sendKey ep
      if s.needsAck then { s with key := { s.key with resvPend := s.key.resvPend ++ [ep] } } else s.grant ep)

/-- The standby has acknowledged a key table entry (R703). -/
def State.resvAcked (s : State) (ep : Nat) (k : KeyEntry) : State :=
  let s := { s with par := { s.par with resvAck := Store.put (fun _ => 2 ^ 64) s.par.resvAck ep k.txResv } }
  if s.key.resvPend.contains ep && decide ((s.keyOf ep).txResv = k.txResv) then s.grant ep else s

/-! Lanes (R607, R608). -/

/-- The jobs waiting for lane `l` move, in order, to the remaining lanes (R608). -/
def State.moveJobs (s : State) (l : Nat) : State :=
  let js := s.key.waiting l
  if s.lanesOn = [] then s
  else js.foldl State.queueJob
    { s with key := { s.key with jobs := Store.put (fun _ => ([] : List LaneJob)) s.key.jobs l [] } }

/-- The effect of a write of KEY_LANE_EN (R608, R616). -/
def State.laneEnEff (s : State) (v : Word) : State × Status :=
  let en := (v.toNat % 65536) &&& s.sys.lanes
  let s1 := { s with key := { s.key with laneEn := en } }
  if s1.lanesOn = [] then (s, .denied)
  else (((upTo 16).filter (fun l => nbit s.key.laneEn l && !nbit en l)).foldl State.moveJobs s1, .ok)

/-- LANE_DISABLE (R608): a write of KEY_LANE_EN that clears the bit of lane `l`. -/
def execLaneDisable (r : Requester) (l : Nat) (s : State) : Host.Outcome State Fault Refusal :=
  .next (s.writeRow r (0x800000 + R.KEY_LANE_EN) (BitVec.ofNat 32 (setNbit s.key.laneEn l false)) State.laneEnEff)

/-- LANE_ENABLE (R608): a write of KEY_LANE_EN that sets the bit of lane `l`. -/
def execLaneEnable (r : Requester) (l : Nat) (s : State) : Host.Outcome State Fault Refusal :=
  .next (s.writeRow r (0x800000 + R.KEY_LANE_EN) (BitVec.ofNat 32 (setNbit s.key.laneEn l true)) State.laneEnEff)

/-- Lane `l` fails (R608, R726): its bits clear, its jobs move, LANE_FAIL, and LANE_LOST when it was the last. -/
def State.failLane (s : State) (l : Nat) : State :=
  if !s.usable .lane l then s
  else
    let s := { s with key := { s.key with
      laneEn := setNbit s.key.laneEn l false, laneFailed := setNbit s.key.laneFailed l true } }
    let s := ((s.raise Ev.LANE_FAIL .warning (unit := l)).unitDown .lane l).moveJobs l
    if s.sys.lanes = 0 then s.raise Ev.LANE_LOST .fault (lasting := true) else s

/-! Meter key import (R612, R613). -/

/-- The first check of R613 that refuses a batch: its number and status. -/
def State.batchCheck (s : State) (j : Nat) (b : Batch) : Option (Nat × Status) :=
  if !s.privPart j then some (1, .denied)
  else if s.sys.st ≠ .active then some (2, .notActive)
  else if b.target ≠ s.otp.eui ∨ !b.lenOk then some (3, .wrongUnit)
  else if !b.tagOk then some (4, .badMac)
  else if b.no ≤ s.key.lastBatch then some (5, .batchReplay)
  else none

/-- "KYKIMP01" in ASCII (R612). -/
def importMagic : List Nat := [0x4B, 0x59, 0x4B, 0x49, 0x4D, 0x50, 0x30, 0x31]

/-- A batch as the bytes of a committed KEY_IMPORT region spell it (R612, R755). What only the keys derived from its shared secret show
is given: none where its tag is not valid, else per entry what the unwrap yields, none where its integrity check fails.
(DESIGN CHOICE, log 7) -/
def parseBatch (bs : List Nat) (opened : Option (List (Option Nat))) : Batch :=
  let num := fun off n => leNat ((bs.drop off).take n)
  let count := num 0x18 4
  { target := leNat ((bs.drop 8).take 8).reverse
    lenOk := decide (bs.take 8 = importMagic ∧ 1 ≤ count ∧ count ≤ 65536 ∧ num 0x1C 4 = 0 ∧
      bs.length = 0x640 + 48 * count + 32)
    tagOk := opened.isSome
    no := num 0x10 8
    entries := (upTo count).map (fun i =>
      let k := ((opened.getD [])[i]?).join
      ⟨num (0x640 + 48 * i) 4, num (0x644 + 48 * i) 4, k.getD 0, k.isSome⟩) }

/-- Key import decides a committed batch (R613); the first import while KEYTABLE_FAIL is active generates a PKWK (R600).
(DEDUCED, log 114) -/
def State.takeBatch (opened : Option (List (Option Nat))) (s : State) (j len : Nat) : State :=
  let b := parseBatch (((s.part j).region 0x02).read 0 len) opened
  match s.batchCheck j b with
  | some (c, st) =>
    { s with key := { s.key with impSt := .refused, impCode := c } }.decided j 0x02 st
  | none =>
    let s := if s.key.tableOk then s else s.genPkwk
    { s with key := { s.key with impSt := .running, impCode := 0, impAcc := 0, impRef := 0, impBatch := some (j, b.no, b.entries) } }

/-- DP_COMMIT_KEY_IMPORT (R612, R613): a commit of the KEY_IMPORT region. -/
def execDpCommitKeyImport (r : Requester) (opened : Option (List (Option Nat))) (s : State) :
    Host.Outcome State Fault Refusal :=
  .next (s.commitRow r 0x02 (State.takeBatch opened))

/-- One entry is accepted or refused (R613). (DEDUCED, log 73) -/
def State.importEntry (pgen : Nat) (x : State × Nat × Nat) (e : ImpEntry) : State × Nat × Nat :=
  let s := x.1
  if (s.epCfg e.ep).isNone || decide (e.kver ≤ (s.keyOf e.ep).kver) || !e.good then (s, x.2.1, x.2.2 + 1)
  else
    let s := s.closeAssoc e.ep
    let s := s.setKey e.ep ⟨e.keys, 0, 0, e.kver, pgen, true, s.key.debug, true⟩
    let y := s.sess e.ep
    let s := s.setSess e.ep { y with icTx := some (0, 65536), icRx := none, tagFails := 0, icOut := false, transfer := none }
    let s := s.endEv Ev.IC_EXHAUSTED (fun v => decide (v.args = [aIdx e.ep]))
    let s := { s with
      par := { s.par with resvAck := Store.put (fun _ => 2 ^ 64) s.par.resvAck e.ep 0 },
      key := { s.key with waitResv := s.key.waitResv.filter (fun w => w ≠ e.ep),
                          resvPend := s.key.resvPend.filter (fun w => w ≠ e.ep) } }
    let s := (s.copyKey e.ep).sendKey e.ep
    let s := match s.epCfg e.ep with
      | some c => s.endConn (s.node c.eui).home e.ep 3
      | none => s
    (s, x.2.1 + 1, x.2.2)

/-- KEY_IMPORT_DONE (R613): the running batch finishes its entries, BATCH_NO is recorded and KEY_IMPORTED raised. Without a PKWK,
for want of entropy, no entry can be wrapped and the batch goes on running. -/
def execKeyImportDone (s : State) : Host.Outcome State Fault Refusal :=
  .next (
    match s.key.impBatch with
    | none => s
    | some (j, no, es) =>
      let s := if s.key.pkwk.isNone then s.genPkwk else s
      match s.key.pkwk with
      | none => s
      | some k =>
        let x := es.foldl (State.importEntry k.pgen) (s, 0, 0)
        let s := x.1
        let nand := if s.sysWrites && !s.key.debug then { s.nand with lastBatch := no } else s.nand
        let s := { s with
          key := { s.key with impSt := .done, impAcc := x.2.1, impRef := x.2.2, impBatch := none, lastBatch := no },
          nand := nand }
        (s.raise Ev.KEY_IMPORTED .info (args := [aIdx x.2.1, aIdx x.2.2])).decided j 0x02 .ok)

/-! Zeroisation (R614). -/

/-- OP 1: every session slot is cleared and every session ends. (DEDUCED, log 115) -/
def State.zeroSessions (s : State) : State := { s.endSessions with hst := { s.endSessions.hst with handshakes := [] } }

/-- OP 2: new loads are refused, the key table is zeroed, every association closes, a running import ends, and Beam's erase
begins; KEYTABLE_FAIL. (DEDUCED, log 115) -/
def State.zeroKeys (s : State) (op : Nat) : State :=
  let s := s.msn.sess.foldl (fun s (x : Nat × Sess) => s.setSess x.1 { s.sess x.1 with assoc := false, aarqSent := false, icTx := none, icRx := none }) s
  let imp := s.key.impBatch
  let s := { s with key := { s.key with
    noLoads := true, table := [], pkwk := none, tableOk := false, jobs := [], waitResv := [], resvPend := [],
    impBatch := none, impSt := if imp.isSome then .done else s.key.impSt, zeroing := some op } }
  let s := match imp with
    | some (j, _, _) => s.decided j 0x02 .ok
    | none => s
  s.raise Ev.KEYTABLE_FAIL .fault (lasting := true)

/-- The effect of a write of KEY_ZERO (R614, R616): ignored without the key. -/
def State.keyZeroEff (s : State) (v : Word) : State × Status :=
  if field v 31 16 ≠ 0x5A3C then (s, .ok)
  else (match field v 1 0 with
    | 1 => s.zeroSessions
    | 2 => s.zeroKeys 2
    | 3 => (s.zeroKeys 3).zeroSessions
    | _ => s, .ok)

/-- A write of KEY_ZERO. (DEDUCED, log 115) -/
def State.keyZero (s : State) (r : Requester) (op : Nat) : State :=
  s.writeRow r (0x800000 + R.KEY_ZERO) (packWord [(16, 16, 0x5A3C), (0, 2, op)]) State.keyZeroEff

/-- ZERO_SESSIONS (R614). -/
def execZeroSessions (r : Requester) (s : State) : Host.Outcome State Fault Refusal := .next (s.keyZero r 1)
/-- ZERO_METER_KEYS (R614). -/
def execZeroMeterKeys (r : Requester) (s : State) : Host.Outcome State Fault Refusal := .next (s.keyZero r 2)
/-- ZERO_ALL (R614). -/
def execZeroAll (r : Requester) (s : State) : Host.Outcome State Fault Refusal := .next (s.keyZero r 3)

/-- ZEROISE_ERASE_DONE (R614): Beam has erased the table copy and both PKWK objects, even while the archive is read-only. -/
def execZeroiseEraseDone (s : State) : Host.Outcome State Fault Refusal :=
  .next (
    if s.key.zeroing.isNone then s
    else
      { s with
        nand := { s.nand with pkwk := none, pkwkOne := false, keyCopy := [] },
        key := { s.key with zeroing := none, zeroised := true, noLoads := false } }.raise Ev.ZEROISED .warning)

/-! Identity keys and key certificates (R591, R594, R595, R681). -/

/-- The labels of R591 in ASCII, by KTYPE. -/
def keyLabel (ktype : Nat) : List Nat :=
  match ktype with
  | 1 => [0x49, 0x44, 0x2D, 0x32, 0x35, 0x36, 0x53]
  | 2 => [0x49, 0x44, 0x2D, 0x32, 0x35, 0x36, 0x46]
  | 3 => [0x49, 0x4D, 0x50, 0x4F, 0x52, 0x54, 0x2D, 0x4B, 0x45, 0x4D]
  | _ => [0x50, 0x41, 0x49, 0x52, 0x2D, 0x4B, 0x45, 0x4D]

/-- L of the derived keys (R591). -/
def keyBits (ktype : Nat) : Nat := if ktype = 1 ∨ ktype = 2 then 768 else 512

/-- SHAKE256 of the public key of a derived key (R591, R595, R616). (DESIGN CHOICE, log 8) -/
def State.pubDigest (s : State) (ktype : Nat) : Nat :=
  Config.shake256 (Config.pubKey ktype (Config.kmac256 s.root (keyLabel ktype) (keyBits ktype) kdfName))

/-- DIGEST of R595. (DEDUCED, log 117) -/
def State.certDigest (s : State) (ktype : Nat) : Nat :=
  match ktype, s.key.pkwk with
  | 5, some k => Config.kmac256 k.value [0x43, 0x48, 0x45, 0x43, 0x4B] 256 []
  | _, _ => s.pubDigest ktype

/-- The 104-byte body of a key certificate (R595). -/
def State.certBody (s : State) (ktype : Nat) : List Nat :=
  let origin : Nat := match ktype, s.key.pkwk with
    | 5, some k => if k.received then 3 else 2
    | _, _ => 1
  [0x4B, 0x59, 0x4B, 0x43, 0x45, 0x52, 0x54, 0x31] ++ beBytes 8 s.otp.eui ++ leBytes 10 (tsPack s.nowNs) ++
    [ktype, origin, b2n (decide (ktype = 5)), b2n s.key.debug + 2 * b2n (!(s.tim.domA.everLocked || s.tim.domB.everLocked)), 0, 0] ++
    leBytes 4 (if ktype = 5 then (s.key.pkwk.map Pkwk.pgen).getD 0 else 0) ++ [0, 0, 0, 0] ++
    beBytes 32 (s.certDigest ktype) ++ beBytes 32 ((s.sys.image.map Image.legalDigest).getD 0)

/-- KEY_CERT_ISSUE (R681): ACTION ISSUE with D = KTYPE. -/
def execKeyCertIssue (o : ObjReq) (s : State) : Host.Outcome State Fault Refusal :=
  .next (s.objRun o 0x50 .cert (fun s _ _ =>
    let j := o.dg.part
    let kt := o.b 3
    if kt = 0 ∨ 5 < kt ∨ o.b 5 ≠ 0 then (s, some (.unmapped, []))
    else if kt = 5 ∧ s.key.pkwk.isNone then (s, some (.unmapped, []))
    else if (s.part j).issue.isSome then (s, some (.busy, []))
    else
      let s := s.setPart j { s.part j with issue := some (o.dg.slot, o.reqId, kt) }
      ({ s with key := { s.key with signs := s.key.signs ++ [.cert j o.dg.slot o.reqId kt] } }, none)))

/-- "KYORD-KCERT" in ASCII (R595). -/
def certContext : List Nat := [0x4B, 0x59, 0x4F, 0x52, 0x44, 0x2D, 0x4B, 0x43, 0x45, 0x52, 0x54]

/-- KEY_CERT_SIGNED (R594): the oldest request is a certificate, since seals go first; its body and signature go to OUT. -/
def execKeyCertSigned (s : State) : Host.Outcome State Fault Refusal :=
  .next (
    match s.key.signs with
    | .cert j k q kt :: rest =>
      let body := s.certBody kt
      let sig := Config.sign s.idsKey certContext body
      let s := { s with key := { s.key with signs := rest } }
      (s.setPart j { s.part j with issue := none }).objAnswer j k q .ok (body ++ beBytes 29792 sig)
    | _ => s)

end Sys2Proof.Machine
end

