-- ==== Sys2Proof/Machine/LegalTime.lean ====
section
/-!
DEFINITION. Legal time (05_time_base.md R203 to R208): the 1 ms tick, set-back, forward step and slew, and the first opening of
the legal handoff with the outage span (R436, R495). Times are in 2^-16 ns.
-/

namespace Sys2Proof.Machine
open Sys2Proof

/-- One second, in 2^-16 ns. -/
def lsec : Int := 1000000000 * 2 ^ 16

/-- One microsecond, in 2^-16 ns. -/
def lus : Int := 1000 * 2 ^ 16

/-- dP: the advance of presented time over a tick of 1 ms of counter time, scaled by the domain rate and by the slew of K
(R203). -/
def Tim.tickAdvance (t : Tim) : Int :=
  let d := t.dom t.sel
  let counts : Int := match t.ircAt with
    | none => 400000 * 2 ^ 32
    | some _ => 400000 * (t.ratio.getD (2 ^ 32) : Int)
  let adv := tdivInt (counts * 5 * 2 ^ 15 * (2 ^ 48 + d.rate)) (2 ^ 80)
  max (997 * lus) (min (1003 * lus) (adv - satInt (50 * 2 ^ 16) t.cont))

/-- What a tick decides: the new L, the new state, and whether it is a forward step. -/
structure TickRow where
  l : Nat
  st : LtSt
  forward : Bool
  deriving DecidableEq, Repr

/-- The rows of R203 once a domain has locked: P, L, dP and the state before the tick. (DEDUCED, log 49) -/
def tickRow (p : Int) (l : Nat) (dP : Int) (st : LtSt) : TickRow :=
  let delta : Int := p - (l : Int)
  let g := delta - dP
  if st = .hold then
    if p < l then ⟨l, .hold, false⟩ else ⟨p.toNat, .track, decide (2 * lsec < delta)⟩
  else if 2 * lsec < g then ⟨p.toNat, .track, true⟩
  else if 0 ≤ g then ⟨(l + dP + min g lus).toNat, if g ≤ lus then .track else .slew, false⟩
  else if -(2 * lsec) ≤ g then ⟨(l + dP - min (-g) lus).toNat, .slew, false⟩
  else ⟨l, .hold, false⟩

/-- The handoff opens for the first time since t_r: the outage span is latched by Selvedge and Warp, and START journaled
(R206, R208, R436, R495). -/
def State.latchOutage (s : State) : State :=
  let span := s.slv.jTime.map (fun a => (a, s.legalNs))
  let s := { s with slv := { s.slv with outage := span }, wrp := { s.wrp with outage := span, outageDone := true } }
  s.journal (.start ((span.map Prod.fst).getD 0) s.legalNs ((s.sys.image.map Image.legalDigest).getD 0) s.sys.cause)

/-- The legal handoff opens where R208 lets it. -/
def State.openHandoff (s : State) : State :=
  if s.journals && (s.tim.dom s.tim.sel).everLocked && !s.slv.handoff then
    let s := { s with slv := { s.slv with handoff := true } }
    if s.wrp.outageDone then s else s.latchOutage
  else s

/-- How many whole-minute instants can lie between the last boundary and L. -/
def State.boundFuel (s : State) : Nat := (s.legalNs / second - s.slv.lastB) / 60 + 2

/-- A forward step: LT_FORWARD journaled, then every skipped boundary in time order, then the event with their number
(R206). -/
def State.forwardStep (s : State) (delta : Int) : State :=
  let s := s.journal (.time 2 delta)
  let r := State.boundaries s.boundFuel s
  r.1.raise Ev.LT_FORWARD .info (args := [aNs delta, aIdx r.2])

/-- Entry to HOLD: SETBACK raised, the next record's hold sequence number is 1, and SETBACK is journaled and audited by a unit that
books its own records (R204, R520, R700). -/
def State.setback (s : State) (delta : Int) : State :=
  let s := if s.journals then (s.journal (.time 1 delta)).audit (.setback delta) else s
  let s := { s with slv := { s.slv with ltSt := .hold, hNew := true } }
  s.raise Ev.SETBACK .warning (args := [aNs delta])

/-- A legal time tick at counter value `t`. (DEDUCED, log 49) -/
def State.legalTick (s : State) (t : Nat) : State :=
  let s := s.reach t
  let s := { s with slv := { s.slv with ltTick := s.tim.cnt } }
  if !(s.tim.domA.everLocked || s.tim.domB.everLocked) then { s with slv := { s.slv with ltSt := .wait } }
  else
    let p := s.tim.presented s.tim.cnt
    let l : Nat := s.slv.lt
    let was := s.slv.ltSt
    let dP := s.tim.tickAdvance
    let delta : Int := p - (l : Int)
    let g := delta - dP
    let first := !s.slv.ltRun
    let s := { s with slv := { s.slv with ltRun := true } }
    if first ∧ s.slv.jTime = none ∧ (l : Int) ≤ p then
      let s := { s with slv := { s.slv with lt := p.toNat, ltSt := .track, lastB := p.toNat / 2 ^ 16 / second } }
      s.openHandoff
    else
      let r := tickRow p l dP was
      if r.st = .hold ∧ was ≠ .hold then
        (s.setback (tdivInt delta (2 ^ 16))).openHandoff
      else
        let s := { s with slv := { s.slv with lt := r.l, ltSt := r.st } }
        let s := s.openHandoff
        if !s.journals then s
        else if r.forward then s.forwardStep (tdivInt delta (2 ^ 16))
        else if was = .track ∧ 1000 * lus < g.natAbs then s.journal (.time 3 (tdivInt delta (2 ^ 16)))
        else s

/-- LEGAL_TIME_TICK (R203), from phase 6 on and in the run state. -/
def execLegalTimeTick (t : Nat) (s : State) : Host.Outcome State Fault Refusal :=
  if s.running || (decide (s.sys.st = .start) && decide (6 ≤ s.sys.phase)) then .next (s.legalTick t) else .next (s.reach t)

end Sys2Proof.Machine
end

