-- ==== Sys2Proof/Machine/Replay.lean ====
section
/-!
DEFINITION. Taking legal state from records and slices: the replay of phase 6 (13_selvedge_tariffs.md R515, R519, R520, R522;
04_startup_configuration.md R161) and what a standby applies (19_redundant_pair.md R700, R701, R706).
-/

namespace Sys2Proof.Machine
open Sys2Proof

/-- The legal outputs with the accumulators and counts of a record (R529). -/
def loadOuts (m : Store OutSt) (os : List (Nat × Nat × Nat)) : Store OutSt :=
  os.foldl (fun (m : Store OutSt) o =>
    let x := Store.get (fun _ => OutSt.blank) m o.1
    Store.put (fun _ => OutSt.blank) m o.1 { x with acc := o.2.1, emitted := o.2.2 }) m

/-- Device-level legal state is loaded; a seal without its signature is built and signed again (R519). -/
def Slv.load (v : Slv) (g : LGlob) : Slv :=
  { v with cards := g.cards, force := g.force, lastB := g.bound, days := g.days, dayOpen := g.dayOpen,
           seals := g.seals.map (fun j => { j with hdr := none }), sealNo := g.sealNo, sealLast := g.sealLast,
           outs := loadOuts v.outs g.outs, outsFor := g.outsFor, causes := g.causes, devHolds := g.devHolds }

/-- The same from the mirror: of the device-wide causes, only AUTHORITY is the active unit's (R701). -/
def Slv.mirror (v : Slv) (g : LGlob) : Slv :=
  let w := v.load g
  { w with
      causes := setNbit v.causes 10 (nbit g.causes 10),
      devHolds := g.devHolds.filter (fun h => h.1 = 10) ++ v.devHolds.filter (fun h => h.1 ≠ 10) }

/-- The counts of a PULSE record: the newest record says how many pulses are out, also where it takes back a pulse that was cut
(R72, R529, R704). -/
def loadPulses (m : Store OutSt) (ns : List Nat) : Store OutSt :=
  (upTo 8).foldl (fun (m : Store OutSt) n =>
    let x := Store.get (fun _ => OutSt.blank) m n
    Store.put (fun _ => OutSt.blank) m n { x with emitted := ns.getD n x.emitted }) m

/-- What a record leaves is taken where `chanOk` and `globOk` let it; `ld` takes device-level state. -/
def Slv.applyRec (ld : Slv → LGlob → Slv) (chanOk : Chid → Bool) (globOk : Bool) (v : Slv) (r : JRec) : Slv :=
  let v := r.post.foldl (fun (v : Slv) (p : LPost) =>
    match p with
    | .chan ch c => if chanOk ch then { v with chans := Store.put (fun _ => LChan.blank) v.chans ch c } else v
    | .glob g => if globOk then ld v g else v) v
  match r.body with
  | .pulse ns => if globOk then { v with outs := loadPulses v.outs ns } else v
  | _ => v

/-- The stamp of a checkpoint slice in a set of slices; 0 where none is held. -/
def stampIn (ss : List (Nat × LegalSlice)) (i : Nat) : Nat :=
  ((ss.find? (fun (x : Nat × LegalSlice) => x.1 = i)).map (fun x => x.2.stamp)).getD 0

/-- Slices are loaded, and the records above each slice's stamp applied in JSEQ order (R515, R706 step 5). -/
def Slv.rebuild (ld : Slv → LGlob → Slv) (v : Slv) (ss : List (Nat × LegalSlice)) (js : List JRec) : Slv :=
  let v := ss.foldl (fun (v : Slv) x =>
    let v := { v with chans := x.2.chans.foldl (fun (m : Store LChan) (c : Nat × LChan) =>
      Store.put (fun _ => LChan.blank) m c.1 c.2) v.chans }
    match x.2.glob with
    | some g => ld v g
    | none => v) v
  js.foldl (fun v r => v.applyRec ld (fun ch => decide (stampIn ss (legalSliceOf ch) < r.jseq)) (decide (stampIn ss 0 < r.jseq)) r) v

/-- The latest copy of every legal slice (R515). -/
def Nand.latestSlices (n : Nand) : List (Nat × LegalSlice) :=
  n.slices.filterMap (fun (x : Nat × List LegalSlice) => x.2.head?.map (fun y => (x.1, y)))

/-- The least stamp of the slices: records at or below it are not needed for the replay. -/
def leastStamp (ss : List (Nat × LegalSlice)) : Nat :=
  if ss.length < 1024 then 0 else ss.foldl (fun (m : Nat) x => min m x.2.stamp) (2 ^ 64)

/-- The records that the replay applies: up to the first one needed that reads UNCORRECTABLE (R725). -/
def replayable (lost : List Nat) (from_ : Nat) (js : List JRec) : List JRec :=
  (js.filter (fun r => decide (from_ < r.jseq))).takeWhile (fun r => !lost.contains r.jseq)

/-- The legal state of phase 6 from the legal partition (R161, R206, R515): slices and journal, L at the latest timestamp, or
BUILD_TIME where the journal holds none. Also whether a needed record was lost. A partition that is unreadable or another
unit's gives nothing (R160). (DEDUCED, log 94) -/
def State.loadLegal (s : State) (ok : Bool) : State × Bool :=
  let ss := if ok then s.nand.latestSlices else []
  let all := if ok then s.nand.journal else []
  let lo := leastStamp ss
  let js := replayable s.nand.lostJ lo all
  let cut := decide (js.length < (all.filter (fun r => decide (lo < r.jseq))).length)
  let v := s.slv.rebuild Slv.load ss js
  let top : Nat := all.foldl (fun m r => max m r.jseq) (ss.foldl (fun (m : Nat) x => max m x.2.stamp) 0)
  let last := (js.getLast?.orElse (fun _ => all.getLast?)).map JRec.time
  let build := (s.sys.image.map Image.buildTime).getD 0
  let l := last.getD build
  let s := s.setReg (R.SLV_CNT_k + 4 * 10) (BitVec.ofNat 32 s.nand.audit.length)
  ({ s with slv := { v with
      jseq := top, djseq := top, jTime := last, lt := l * 2 ^ 16, ltSt := .wait, handoff := false, ltRun := false,
      lastB := if v.lastB = 0 then l / second else v.lastB,
      auditUsed := s.nand.audit.length, nearFull := decide (9 * auditMax ≤ 10 * s.nand.audit.length) } }, cut)

/-- The device-wide causes after the replay (R522): those that a start ends, those the journal keeps, and those set earlier in
this start, which are journaled and audited now. (DEDUCED, log 97) -/
def State.startCauses (s : State) (pre : Nat) (cut : Bool) : State :=
  let ends := [(3, !s.sys.dbgEn), (4, !nbit pre 4 && !cut), (5, !nbit pre 5), (8, decide (s.sys.pens ≠ 0))]
  let s := ends.foldl (fun s (x : Nat × Bool) => if x.2 then s.clearCause x.1 else s) s
  let s := (upTo 11).foldl (fun s b =>
    if nbit s.slv.causes b then s.raise Ev.LEGAL_HOLD_DEV .fault (args := [aCode b]) (lasting := true) else s) s
  let s := if s.slv.nearFull then s.raise Ev.AUDIT_NEAR_FULL .warning (lasting := true) else s
  let s := if nbit s.slv.causes 2 then s.raise Ev.SEAL_OPEN .fault (lasting := true) else s
  let s := if nbit s.slv.causes 0 then s.raise Ev.UNSEALED .warning (lasting := true) else s
  let s := if nbit s.slv.causes 1 then s.raise Ev.SEAL_MISMATCH .fault (lasting := true) else s
  let s := (upTo 11).foldl (fun s b => if nbit pre b then s.setCause b else s) s
  let s := if cut then s.setCause 4 else s
  if s.nand.legalRo then s.setCause 6 else s

/-- A start with a LEGAL_DIGEST that differs from the previous start's is audited (R520). -/
def State.auditDigest (s : State) : State :=
  match s.sys.image with
  | none => s
  | some im =>
    let s := match s.nand.prevDigest with
      | some d => if d = im.legalDigest then s else s.audit (.digest im.legalDigest)
      | none => s
    { s with nand := { s.nand with prevDigest := some im.legalDigest } }

/-- Phase 6 (R161): the legal state is loaded, the causes settled, and the boundaries up to L whose record is absent run again. -/
def State.legalReplay (s : State) : State :=
  let pre : Nat := s.slv.causes
  let r := State.loadLegal { s with slv := { s.slv with causes := 0, devHolds := [] } } (!nbit pre 4 && !nbit pre 5)
  let s := (r.1.startCauses pre r.2).auditDigest.legalEffect
  if s.slv.jTime.isNone then s else (State.boundaries s.boundFuel s).1

end Sys2Proof.Machine
end

