-- ==== Sys2Proof/Machine/Run.lean ====
section
/-!
DEFINITION. Changes of the run state (04_startup_configuration.md R166, R168; 19_redundant_pair.md R696, R708, R711): raising and
dropping the claim, going to STANDBY, and entry to ACTIVE at start or by takeover.
-/

namespace Sys2Proof.Machine
open Sys2Proof

/-! The claim (R693, R696). -/

/-- RANK (R693). -/
def State.rank (s : State) : Nat := 2 * ((s.sys.image.map Image.prio).getD 0 % 128) + b2n s.sys.unitSel

/-- The unit takes part in arbitration rounds (R694): from phase 10 onward, with the pair enabled. -/
def State.inRounds (s : State) : Bool := s.sys.pairEn && (s.running || (decide (s.sys.st = .start) && decide (10 ≤ s.sys.phase)))

/-- A claim is raised with a new EPOCH, which is recorded in the system area (R696). On the IRC no claim is raised (R98). -/
def State.raiseClaim (s : State) : State :=
  if s.clk.irc then s
  else
    let e := min 0xFFFFFE (s.par.epoch + 1)
    { s with
      par := { s.par with claim := e * 256 + s.rank, epoch := e, won := 0, relinquished := false, afterFault := false },
      nand := if s.sysWrites then { s.nand with epoch := e } else s.nand }

/-- The unit stops claiming. -/
def State.dropClaim (s : State) : State := { s with par := { s.par with claim := 0, won := 0 } }

/-! Resynchronisation as the standby asks for it (R706 to R708). -/

/-- A device-wide cause of the standby's own is set (R701). (DEDUCED, log 131, 134) -/
def State.ownHeld (s : State) : Bool := (upTo 11).any (fun b => ownCause b && nbit s.slv.causes b)

/-- The standby asks for full resynchronisation (R707): RESYNC_REQ, then KEY_REQ as step 2 of R706; not before the HELLO, nor
while a check of R692 fails. While a cause of its own is set, SYNC reads HELD (R701). -/
def State.startResync (s : State) : State :=
  let sync := if decide (s.sys.st = .standby) && s.ownHeld then Sync.held else .none_
  let s := { s with par := { s.par with sync := sync, staged := [], stagedRecs := [] } }
  if decide (s.sys.st = .standby) && s.par.heard && s.par.peerHello.isSome && !s.par.mismatch && decide (s.par.peerRole = 1) && !s.ownHeld then
    (s.pairSend .resyncReq).pairSend .keyReq
  else s

/-! Meter sessions at a change of role. -/

/-- Associations, requests and host reads are given up (R348, R367, R712): host reads are answered. -/
def State.msnStop (s : State) : State :=
  let hs := s.msn.hostReads
  let s := { s with
    msn := { s.msn with sess := [], held := [], toWarp := [], hostReads := [], atCore := [] },
    key := { s.key with jobs := [], waitResv := [], resvPend := [] } }
  hs.foldl (fun s h => s.hostReadDone h false) s

/-- A campaign kept in the system area resumes at step 4, from each target's own bitmap (R371). (DEDUCED, log 69) -/
def State.campResume (s : State) : State :=
  match s.nand.campaign with
  | none => s
  | some c =>
    let home := fun (e : Nat) => ((s.epCfg e).map (fun x => (s.node x.eui).home)).getD 0
    let ts := c.targets.map (fun (x : Target) => ({ ep := x.ep, port := home x.ep, st := .started } : Target))
    let ps := (ts.map Target.port).eraseDups
    State.campKick { s with msn := { s.msn with campaign := some { c with
      resumed := true, targets := ts, ports := ps.map (fun p => ⟨p, 4, 0, [], none⟩) } } }

/-! ACTIVE to STANDBY (R168, R208, R708). -/

/-- Reading messages on the handoff return REF_DEV_HOLD (R208). -/
def State.refuseInbox (s : State) : State :=
  let es := s.slv.inbox
  es.foldl (fun s e => s.dispose e 0x05) { s with slv := { s.slv with inbox := [] } }

/-- The gates close and the state is STANDBY (R168): field frames come back NO_CLAIM, pulses in progress are cut, the handoff
closes, recompute jobs end, and the unit resynchronises from its peer in full. (DEDUCED, log 130) -/
def State.toStandby (s : State) : State :=
  let s := { s.dropClaim with sys := { s.sys with st := .standby, role := 2, heddle := false } }
  let s := (s.blockAll s.tim.cnt).cutPulses
  let s := State.refuseInbox { s with slv := { s.slv with handoff := false } }
  let s := s.msnStop
  let s := { s with par := { s.par with ring := [], serving := none, peerSync := .none_, relinquished := false } }
  s.startResync

/-- The claim is lost while ACTIVE (R698). (DEDUCED, log 130) -/
def State.claimLost (s : State) : State := s.toStandby.raise Ev.CLAIM_LOST .warning

/-! Entry to ACTIVE. -/

/-- Every enabled port opens a discovery round (R336). -/
def State.roundsAll (s : State) : State := s.openRounds (fieldPorts.filter s.portOn) s.tim.cnt

/-- The boundaries that are due are processed, once legal time runs (R711). -/
def State.catchUp (s : State) : State := if s.slv.ltRun then (State.boundaries s.boundFuel s).1 else s

/-- The run state is ACTIVE; with the pair enabled the gates open only once the last two rounds read the own word (R698). -/
def State.goActive (s : State) : State :=
  { s with sys := { s.sys with st := .active, role := 1, heddle := !s.sys.pairEn || decide (2 ≤ s.par.won) } }

/-- At entry to the run state every node is UNJOINED (R335). (DEDUCED, log 130) -/
def State.netFresh (s : State) : State :=
  { s with net := { s.net with
      nodes := Store.mapAll (fun _ => NodeRec.blank) (fun _ (n : NodeRec) =>
        { n with st := .unjoined, home := 0, route := [], cost := 0, hasRoute := false, tries := 0, down := false }) s.net.nodes,
      joins := [], inbox := [] } }

/-- ACTIVE at start (R166) and step 5 to 7 of a takeover (R711): the gates open, Reed transmits, Selvedge drives the legal
outputs, boundaries due are processed, the handoff opens, and the field network, meter sessions and BAL go on. -/
def State.enterActive (s : State) : State :=
  (s.netFresh.goActive.blockAll s.tim.cnt).catchUp.openHandoff.pkwkDue.roundsAll.balEnter.campResume

/-- Every transmit reservation advances by 16 (R703). (DEDUCED, log 73) -/
def State.advanceResv (s : State) : State :=
  let step := fun (k : KeyEntry) => if k = KeyEntry.blank then k else { k with txResv := k.txResv + 16 * 65536 }
  let table := Store.mapAll (fun _ => KeyEntry.blank) (fun _ k => step k) s.key.table
  { s with key := { s.key with table := table },
           nand := if s.sysWrites && !s.key.debug then { s.nand with keyCopy := table } else s.nand }

/-- What a takeover ends on the unit that takes over: sessions (R629), data-port regions (R636) and recompute jobs (R481).
(DEDUCED, log 130) -/
def State.takeoverEnds (s : State) : State :=
  let ps := Store.mapAll (fun _ => Part.blank) (fun _ (p : Part) =>
    { p with burstOpen := false, commitSt := .idle, regions := [], outEnd := 0, outBad := [], issue := none }) s.hst.parts
  let s := State.endSessions { s with hst := { s.hst with handshakes := [], parts := ps } }
  s.abortJobs 2

/-- A takeover, from step 3 of R711. -/
def State.takeover (s : State) : State :=
  let sync := s.par.sync
  let s := if sync = .live then s else s.advanceResv
  let s := if sync = .bulk then s.setCause 4 else s
  let s := s.takeoverEnds.msnStop
  let s := { s with par := { s.par with
    sync := .none_, peerSync := .none_, ring := [], serving := none, staged := [], stagedRecs := [], relinquished := false } }
  let s := s.goActive
  let s := (s.cntS (R.PAR_CNT_k + 4 * 7)).raise Ev.TAKEOVER .warning (args := [aIdx (s.par.claim / 256), aCode sync.code])
  s.enterActive

end Sys2Proof.Machine
end

