-- ==== Sys2Proof/Machine/Pair.lean ====
section
/-!
DEFINITION. The redundant pair (19_redundant_pair.md): Pair Link frames and lanes (R684 to R689), the heartbeat (R690 to R692),
claim rounds (R693 to R698), what a standby applies (R699 to R705), resynchronisation (R706 to R708) and PAR_CTRL (R710,
R715).
-/

namespace Sys2Proof.Machine
open Sys2Proof

/-- The Pair Link is in use: PAIR_EN is 1, from phase 9 onward (R139, R690), and not on the IRC (R98). -/
def State.pairLive (s : State) : Bool :=
  s.sys.pairEn && !s.clk.irc && (s.running || (decide (s.sys.st = .start) && decide (9 ≤ s.sys.phase)))

/-- Lane `l` has block lock. -/
def State.laneLock (s : State) (l : Nat) : Bool := if l = 0 then s.par.lane0 else s.par.lane1

/-! Heartbeat and HELLO (R686, R690). -/

/-- PAR_STAT.SYNC (R715): on the active unit, the peer's. -/
def State.syncShown (s : State) : Sync := if s.sys.st = .active then s.par.peerSync else s.par.sync

/-- LEGAL_DIGEST of the running image. -/
def State.legalDigest (s : State) : Nat := (s.sys.image.map Image.legalDigest).getD 0

/-- The unit's heartbeat payload (R690). -/
def State.heartbeat (s : State) : HeartBeat :=
  { eui := s.otp.eui, role := s.sys.role, sync := s.syncShown.code, rank := s.rank, claim := s.par.claim,
    cfgSeq := (s.sys.image.map Image.seq).getD 0, legalDigest := s.legalDigest, fieldBase := s.fieldBase,
    pgen := (s.key.pkwk.map Pkwk.pgen).getD 0, jseq := if s.sys.st = .active then s.slv.jseq else s.par.mjseq, time := s.nowNs }

/-- A heartbeat leaves on both lanes and is counted. (DEDUCED, log 133) -/
def State.beat (s : State) : State :=
  if s.pairUp then (s.pairBoth (.heartbeat s.heartbeat)).cntW R.PAR_CNT_k else s

/-- A HELLO leaves. -/
def State.sendHello (s : State) : State :=
  State.pairSend { s with par := { s.par with helloSent := true } } (.hello s.otp.eui (b2n s.sys.unitSel) (s.pubDigest 2))

/-! Frames (R685 to R687). -/

/-- The key table entries of a frame that the peer has acknowledged (R703). -/
def PairBody.entries : PairBody → List (Nat × KeyEntry)
  | .keyent es => es
  | _ => []

/-- FACK acknowledges frames; the ones that come within the window of 1,024 leave now (R687). -/
def State.takeFack (s : State) (fack : Nat) : State :=
  let old := s.par.unacked
  let acked := old.filter (fun (f : PairFrame) => decide (f.fseq ≤ fack))
  let rest := old.filter (fun (f : PairFrame) => decide (fack < f.fseq))
  let now := (rest.take pairWindow).drop (pairWindow - acked.length)
  let s := { s with par := { s.par with unacked := rest },
                    out := if s.pairUp then s.out ++ now.map (fun (f : PairFrame) => .pair s.pairLane f) else s.out }
  (acked.flatMap (fun (f : PairFrame) => f.body.entries)).foldl (fun s (e : Nat × KeyEntry) => s.resvAcked e.1 e.2) s

/-- A frame arrives: a bad one is counted as CRC_ERR (R686); a reliable one is delivered in FSEQ order, exactly once, and
acknowledged (R687). (DEDUCED, log 135) -/
def State.pairIn (s : State) (x : PairRx) (reliable : Bool) (f : State → State) : State :=
  if !s.pairLive || !s.laneLock x.lane then s
  else if !x.crcOk || (x.sealed_ && !x.tagOk) then s.cntW (R.PAR_CNT_k + 24)
  else
    let s := s.takeFack x.fack
    if !reliable then f s
    else if x.fseq = s.par.fack + 1 then (f { s with par := { s.par with fack := x.fseq } }).beat
    else s.beat

/-- Frames kept over a HELLO: the link's numbering starts again, and what belonged to a resynchronisation in progress is
dropped. -/
def PairBody.kept : PairBody → Bool
  | .mirror _ _ => true
  | .keyent _ => true
  | .campaign _ _ => true
  | _ => false

/-- The numbering of reliable frames starts again in both directions. (DESIGN CHOICE, log 132) -/
def State.renumber (s : State) : State :=
  let fs := s.par.unacked.filter (fun (f : PairFrame) => f.body.kept)
  let fs := (fs.zip (upTo fs.length)).map (fun (x : PairFrame × Nat) => ({ x.1 with fseq := x.2 + 1, fack := 0 } : PairFrame))
  { s with par := { s.par with unacked := fs, fseq := fs.length, fack := 0 } }

/-- Unacknowledged frames within the window leave again with the present FACK and seal (R687). (DESIGN CHOICE, log 132) -/
def State.resendFrames (s : State) : State :=
  let fs := s.par.unacked.take pairWindow
  if !s.pairUp then s
  else { s with out := s.out ++ fs.map (fun (f : PairFrame) => .pair s.pairLane (s.pairFrame f.fseq f.body)) }

/-! The checks of R692. -/

/-- The first check of R692 that fails: 1 identity, 2 LEGAL_DIGEST, 3 FIELD_BASE. (DEDUCED, log 129) -/
def State.pairCheck (s : State) : Option Nat :=
  match s.par.peerHello, s.sys.image with
  | some (e, d), some im =>
    if e ≠ im.peerEui ∨ d ≠ im.peerDigest then some 1
    else if !s.par.heard then none
    else if s.par.peerLegal ≠ s.legalDigest then some 2
    else if s.par.peerBase ≠ s.fieldBase then some 3
    else none
  | _, _ => none

/-- The checks run: a failure raises PAIR_MISMATCH and sets SYNC to NONE; once they pass, a standby resynchronises. -/
def State.runChecks (s : State) : State :=
  match s.pairCheck with
  | some c =>
    let other := fun (e : EvRec) => decide (e.args ≠ [aCode c])
    let s := { s with par := { s.par with
      mismatch := true, sync := if s.par.sync = Sync.held then Sync.held else .none_, peerSync := .none_, serving := none, ring := [] } }
    (s.endEv Ev.PAIR_MISMATCH other).raise Ev.PAIR_MISMATCH .fault (args := [aCode c]) (lasting := true)
  | none =>
    if s.par.mismatch && s.par.heard && s.par.peerHello.isSome then
      (State.endEv { s with par := { s.par with mismatch := false } } Ev.PAIR_MISMATCH).startResync
    else s

/-- PAIR_HELLO (R692, R706 step 1): the peer's HELLO; the numbering starts again, and a HELLO answers it.
(DESIGN CHOICE, log 132) -/
def execPairHello (x : PairRx) (eui _unitSel idDigest : Nat) (s : State) : Host.Outcome State Fault Refusal :=
  .next (s.pairIn x false (fun s =>
    let s := s.renumber
    let s := if s.par.helloSent then s else s.sendHello
    let s := State.resendFrames { s with par := { s.par with peerHello := some (eui, idDigest) } }
    let half := decide (s.par.sync = .keys) || decide (s.par.sync = .bulk)
    let s := if half then { s with par := { s.par with sync := .none_ } } else s
    let s := s.runChecks
    if decide (s.sys.st = .standby) && decide (s.par.sync = .none_) then s.startResync else s))

/-! Heartbeats. -/

/-- HEARTBEAT_SEND (R690). (DEDUCED, log 133) -/
def execHeartbeatSend (t : Nat) (s : State) : Host.Outcome State Fault Refusal :=
  let s := s.reach t
  .next (if s.pairLive then s.beat else s)

/-- Both units are ACTIVE (R713): the lower claim word goes to STANDBY. (DEDUCED, log 133) -/
def State.splitCheck (s : State) (h : HeartBeat) : State :=
  if !(decide (s.sys.st = .active) && decide (h.role = 1)) then s
  else
    let s := if s.active Ev.PAIR_SPLIT then s else (s.cntS (R.PAR_CNT_k + 32)).raise Ev.PAIR_SPLIT .fault
    if s.par.claim < h.claim then s.toStandby else s

/-- What the active unit takes from a heartbeat of its standby (R705, R707). -/
def State.heardStandby (s : State) (h : HeartBeat) : State :=
  if s.sys.st ≠ .active ∨ h.role ≠ 2 then s
  else
    let ps := Sync.ofCode h.sync
    let back := ps = .stale ∨ ps = .live
    let ring := if back then s.par.ring.filter (fun (r : JRec) => decide (h.jseq < r.jseq)) else s.par.ring
    if s.par.peerSync = .stale ∧ back then
      let s := { s with par := { s.par with peerSync := .live, mack := h.jseq, ring := ring } }
      ring.foldl (fun s (r : JRec) => State.mirrorSend { s with par := { s.par with mjseq := r.jseq } } r) s
    else if ps = .stale then s
    else if ps = .live then
      { s with par := { s.par with peerSync := .live, mack := h.jseq, ring := ring, serving := none } }
    else
      { s with par := { s.par with peerSync := ps, ring := if s.par.serving.isSome then s.par.ring else [] } }

/-- What a standby takes from a heartbeat of the active unit (R707): `turned`: the peer was not known as ACTIVE before. -/
def State.heardActive (s : State) (h : HeartBeat) (turned : Bool) : State :=
  if s.sys.st ≠ .standby then s
  else
    let ended := decide (s.par.sync = .held) && !s.ownHeld
    if decide (s.par.sync = .stale) && decide (h.role = 1) then
      if h.sync = 0 then s.startResync else { s with par := { s.par with sync := .live } }
    else if ended || (turned && decide (h.role = 1) && decide (s.par.sync = .none_)) then s.startResync
    else s

/-- PAIR_KEY_FAIL ends once the transfer has succeeded (R601): both units show one PGEN. (DEDUCED, log 135) -/
def State.keyFailEnds (s : State) : State :=
  if s.par.pairKeyFail && s.pairKeyed then
    State.endEv { s with par := { s.par with pairKeyFail := false } } Ev.PAIR_KEY_FAIL
  else s

/-- HEARTBEAT_RECEIVED (R690, R691, R713) at counter value `t`. -/
def execHeartbeatReceived (x : PairRx) (h : HeartBeat) (t : Nat) (s : State) : Host.Outcome State Fault Refusal :=
  .next ((s.reach t).pairIn x false (fun s =>
    let turned := !s.par.heard || decide (s.par.peerRole ≠ h.role)
    let s := s.cntW (R.PAR_CNT_k + 4)
    let s := { s with par := { s.par with
      heard := true, everHeard := true, hbAt := s.tim.cnt, miss := 0, peerRole := h.role, peerClaim := h.claim,
      peerPgen := h.pgen, peerLegal := h.legalDigest, peerBase := h.fieldBase,
      epoch := max s.par.epoch (min 0xFFFFFE (h.claim / 256)) } }
    let s := if s.sys.phase = 10 ∧ h.role ≠ 0 then { s with sys := { s.sys with peerSeen := true } } else s
    let s := s.endEv Ev.PAIR_LINK_LOST
    let s := if s.par.helloSent then s else s.sendHello
    let s := s.runChecks
    let s := s.splitCheck h
    if s.par.mismatch then s else ((s.heardStandby h).heardActive h turned).keyFailEnds))

/-- The standby raises its claim after three misses where the last three rounds showed the claim absent (R709). -/
def State.mayClaim (s : State) : Bool :=
  decide (s.sys.st = .standby) && decide (s.par.claim = 0) && !s.par.heard && decide (3 ≤ s.par.miss) && decide (3 ≤ s.par.absent)

/-- While its peer is unheard and the wire shows a claim, a standby raises PAIR_LINK_LOST and its SYNC is STALE (R709, R713). -/
def State.linkLost (s : State) : State :=
  if decide (s.sys.st = .standby) && !s.par.heard && decide (3 ≤ s.par.miss) && decide (s.par.wire ≠ 0) &&
      decide (s.par.wire ≠ s.par.claim) then
    { s with par := { s.par with sync := if s.par.sync = Sync.live then .stale else s.par.sync } }.raise
      Ev.PAIR_LINK_LOST .warning (lasting := true)
  else s

/-- The peer becomes unheard (R691, R709, R713). (DEDUCED, log 129, 133) -/
def State.unheard (s : State) : State :=
  let s := { s with par := { s.par with heard := false, helloSent := false, peerHello := none, peerRole := 0, peerClaim := 0 } }
  if s.sys.st = .active then
    let live := decide (s.par.peerSync = .live)
    { s with par := { s.par with
      peerSync := if live then .stale else .none_, serving := none, ring := if live then s.par.ring else [] } }.raise
        Ev.PAIR_LINK_LOST .warning (lasting := true)
  else s.linkLost

/-- HEARTBEAT_MISS (R691) at counter value `t`: the next miss instant after the peer's last valid heartbeat. (DEDUCED, log 133) -/
def execHeartbeatMiss (t : Nat) (s : State) : Host.Outcome State Fault Refusal :=
  let s := s.reach t
  let k := s.par.miss + 1
  .next (
    if !s.pairLive || decide (3 < k) || decide (s.tim.cnt < s.par.hbAt + msCounts (10 * k + 1)) then s
    else
      let s := State.cntW { s with par := { s.par with miss := k } } (R.PAR_CNT_k + 8)
      if k < 3 then s
      else
        let s := s.unheard
        if s.mayClaim then s.raiseClaim else s)

/-! Claim rounds. -/

/-- The round's effect on the claim bus fault (R697). -/
def State.busCheck (s : State) (word : Option Nat) (low : Bool) : State :=
  let differs := match word with
    | some w => s.par.heard && decide (s.par.peerClaim ≠ 0) && decide (w ≠ s.par.peerClaim)
    | none => false
  let d := if differs then s.par.differ + 1 else 0
  let fault := low || decide (word = some 0xFFFFFFFF) || decide (10 ≤ d)
  let clear := if fault then 0 else s.par.clearRounds + 1
  let s := { s with par := { s.par with differ := d, clearRounds := clear } }
  if fault then
    { s with par := { s.par with busFault := true, afterFault := true } }.raise Ev.CLAIM_BUS_FAULT .fault (lasting := true)
  else if s.par.busFault && decide (10 ≤ clear) then
    State.endEv { s with par := { s.par with busFault := false } } Ev.CLAIM_BUS_FAULT
  else s

/-- What the round read (R694 to R696). (DEDUCED, log 134) -/
def State.roundRead (s : State) (word : Option Nat) : State :=
  match word with
  | none => { s with par := { s.par with won := 0, absent := s.par.absent + 1, roundAt := s.tim.cnt } }
  | some w =>
    let mine := decide (w = s.par.claim) && decide (w ≠ 0)
    let e := if w = 0xFFFFFFFF then s.par.epoch else max s.par.epoch (min 0xFFFFFE (w / 256))
    let s := { s with par := { s.par with
      wire := w, won := if mine then min 2 (s.par.won + 1) else 0, absent := if w = 0 then s.par.absent + 1 else 0,
      epoch := e, roundAt := s.tim.cnt, afterFault := s.par.afterFault && decide (w = 0 ∨ w = 0xFFFFFFFF) } }
    let s := if s.sys.phase = 10 ∧ w ≠ 0 then { s with sys := { s.sys with peerSeen := true } } else s
    let s := s.cntW (R.PAR_CNT_k + 12)
    if mine then s.cntW (R.PAR_CNT_k + 16) else s

/-- A unit that claims and did not read its own word back has lost (R694, R698). (DEDUCED, log 134) -/
def State.roundLost (s : State) (word : Option Nat) : State :=
  if s.par.claim = 0 ∨ word = some s.par.claim then s
  else match s.sys.st with
    | .active => s.claimLost
    | .start =>
      if word = none then s
      else { s.dropClaim with sys := { s.sys with role := 2, phase := max 11 s.sys.phase } }
    | _ => if word = none then s else s.dropClaim

/-- A unit that has read its own word back in two consecutive rounds takes the role (R165, R698, R711). (DEDUCED, log 134) -/
def State.roundWon (s : State) : State :=
  if s.par.won < 2 then s
  else match s.sys.st with
    | .standby => s.takeover
    | .start => if s.sys.phase = 10 then { s with sys := { s.sys with role := 1, phase := 11 } } else s
    | .active => { s with sys := { s.sys with heddle := true } }
    | _ => s

/-- A standby that may claim raises its claim (R709, R713). (DEDUCED, log 134) -/
def State.roundClaim (s : State) : State :=
  let low := s.nand.epoch < s.par.epoch
  let turn := if low then 20 else 10
  let after := s.par.afterFault && s.par.heard && !s.par.busFault && decide (turn ≤ s.par.clearRounds) &&
    decide (1 ≤ s.par.absent)
  if s.sys.st ≠ .standby ∨ s.par.claim ≠ 0 then s
  else if (s.par.relinquished && decide (1 ≤ s.par.absent)) || s.mayClaim || after then s.raiseClaim
  else s

/-- CLAIM_ROUND (R694): a round ends at counter value `t`; `word` is what was read, none where no round started within 1.5 ms
(R695), `low`: a claim line was low for 1 ms outside the driven parts of a round (R697). -/
def execClaimRound (t : Nat) (word : Option Nat) (low : Bool) (s : State) : Host.Outcome State Fault Refusal :=
  let s := s.reach t
  .next (if !s.inRounds then s else ((((s.roundRead word).busCheck word low).roundLost word).roundWon.linkLost).roundClaim)

/-- RELINQUISH_RECEIVED (R709): the claim is raised after one completed round that shows it absent. -/
def execRelinquishReceived (x : PairRx) (_word : Nat) (s : State) : Host.Outcome State Fault Refusal :=
  .next (s.pairIn x false (fun s =>
    if s.sys.st = .standby then { s with par := { s.par with relinquished := true, absent := 0 } } else s))

/-! The standby applies mirrored records (R700 to R702). -/

/-- A total as one number of quanta since the first roll-over count. -/
def Total.count (m : Nat) (t : Total) : Nat := t.roll * m + t.value

/-- A READING record passes the standby's re-check (R700): its index is above the last accepted one and every total stays
monotonic. (DEDUCED, log 131) -/
def State.recheck (s : State) (r : JRec) : Option Chid :=
  match r.body with
  | .reading ch ridx _ _ _ _ _ _ _ =>
    let c := s.lch ch
    let m := s.modulus ch
    let mono := r.post.all (fun (p : LPost) => match p with
      | .chan x c' => decide (x ≠ ch) || (upTo 16).all (fun o => decide ((c.total o).count m ≤ (c'.total o).count m))
      | .glob _ => true)
    if (!c.hasBase || decide (c.lastIdx < ridx)) && mono then none else some ch
  | _ => none

/-- Device-wide HOLD records of other causes than AUTHORITY are not applied (R701). -/
def JBody.otherUnits : JBody → Bool
  | .hold none cause _ _ _ => decide (cause ≠ 10)
  | _ => false

/-- PAIR_DIVERGED (R700, R702): SYNC is NONE, and full resynchronisation follows. -/
def State.diverged (s : State) (ch : Option Chid) : State :=
  let args := match ch with
    | some c => [aIdx c]
    | none => []
  ((s.cntS (R.PAR_CNT_k + 36)).raise Ev.PAIR_DIVERGED .warning (args := args)).startResync

/-- The after-image of a record in the standby's own state. -/
def State.ownPost (s : State) (r : JRec) : List LPost :=
  r.post.map (fun (p : LPost) => match p with
    | .chan ch _ => LPost.chan ch (s.lch ch)
    | .glob _ => LPost.glob s.slv.glob)

/-- Hold events follow the mirrored holds. (DEDUCED, log 131) -/
def State.mirrorHold (s : State) (b : JBody) : State :=
  match b with
  | .hold (some ch) _ true _ _ =>
    s.raise Ev.LEGAL_HOLD_CH .warning (args := [aIdx ch]) (sc := .endpoint (Chid.ep ch)) (lasting := true)
  | .hold (some ch) _ false _ _ => s.endEv Ev.LEGAL_HOLD_CH (fun e => decide (e.args = [aIdx ch]))
  | .hold none c true _ _ => s.raise Ev.LEGAL_HOLD_DEV .fault (args := [aCode c]) (lasting := true)
  | .hold none c false _ _ => s.endEv Ev.LEGAL_HOLD_DEV (fun e => decide (e.args = [aCode c]))
  | _ => s

/-- Warp's LAST_IDX is raised to a mirrored reading index (R699). -/
def State.mirrorIdx (s : State) (b : JBody) : State :=
  match b with
  | .reading ch ridx _ _ _ _ _ _ _ =>
    let c := s.wch ch
    if c.lastIdx < ridx then s.setWch ch { c with lastIdx := ridx, lastTime := 0, appTime := 0 } else s
  | _ => s

/-- A record's after-image is taken, and the record journaled under the standby's own JSEQ (R700). (DEDUCED, log 131) -/
def State.applyRec (s : State) (r : JRec) : State :=
  let s := { s with slv := s.slv.applyRec Slv.mirror (fun _ => true) true r }
  let s := s.journal r.body (s.ownPost r)
  (s.mirrorHold r.body).mirrorIdx r.body

/-- A SEAL record (R702): the standby's own seal, from its own leaves, is built and sent for signing; a different root is a
divergence. -/
def State.applySeal (s : State) (r : JRec) (h : SealHdr) : State :=
  match s.slv.seals.find? (fun (j : SealJob) => j.close = h.close) with
  | none => { s with slv := s.slv.applyRec Slv.mirror (fun _ => true) true r }
  | some j =>
    let root := treeRoot j.leaves.length (j.leaves.map Prod.snd)
    if root ≠ h.root then s.diverged none
    else
      let own : SealHdr := { h with
        sealedAt := j.sealedAt, leaves := j.leaves.length, legalDigest := s.legalDigest, romDig := Config.romDigest % 2 ^ 32,
        tableVer := tableVer, holds := j.holds, eui := s.otp.eui, number := j.number }
      let v := s.slv.applyRec Slv.mirror (fun _ => true) true r
      { s with
        slv := { v with seals := { j with hdr := some own } :: v.seals.filter (fun (y : SealJob) => y.close ≠ h.close) },
        key := { s.key with signs := addSeal own s.key.signs } }

/-- An AUTHORITY record (R701): SEAL_PROGRAM, REVERIFY and LEGAL_UNLOCK are performed again on the standby. (DEDUCED, log 131) -/
def State.applyAuth (s : State) (r : JRec) (cmd arg : Nat) (romOk penOk : Bool) : State :=
  let run := fun (x : State × Status) => x.1.authRecord cmd arg x.2 [.glob x.1.slv.glob]
  match cmd with
  | 6 => run (s.reverify romOk penOk)
  | 7 => run s.sealProgram
  | 8 => run s.legalUnlock
  | _ => s.applyRec r

/-- One mirrored record is re-checked and applied (R700 to R702). -/
def State.takeRec (s : State) (r : JRec) (romOk penOk : Bool) : State :=
  match s.recheck r with
  | some ch => s.diverged (some ch)
  | none =>
    let s := { s with par := { s.par with mjseq := r.jseq } }
    if r.body.otherUnits then s
    else match r.body with
      | .seal_ h _ => s.applySeal r h
      | .authority cmd arg _ => s.applyAuth r cmd arg romOk penOk
      | _ => s.applyRec r

/-- A mirrored record arrives: staged during a resynchronisation, applied in step, otherwise dropped. (DEDUCED, log 131) -/
def State.mirrorRec (romOk penOk : Bool) (s : State) (r : JRec) : State :=
  match s.par.sync with
  | .keys => { s with par := { s.par with sync := .bulk, stagedRecs := s.par.stagedRecs ++ [r] } }
  | .bulk => { s with par := { s.par with stagedRecs := s.par.stagedRecs ++ [r] } }
  | .none_ => s
  | .held => s
  | _ => if r.jseq ≤ s.par.mjseq then s else s.takeRec r romOk penOk

/-- MIRROR (R700): legal journal records; `romOk` and `penOk` are the outcomes of the standby's own checks 3 and 4 of R527 where a
REVERIFY is among them. A record in parts is applied once every part has arrived (R686). -/
def execMirror (x : PairRx) (recs : List JRec) (romOk penOk : Bool) (s : State) : Host.Outcome State Fault Refusal :=
  .next (s.pairIn x true (fun s =>
    let got := x.part.arrive s.par.mirrorParts
    let s := { s with par := { s.par with mirrorParts := got.1 } }
    if s.sys.st = .standby ∧ got.2 = true then recs.foldl (State.mirrorRec romOk penOk) s else s))

/-! Keys and campaign (R601, R602, R675, R703). -/

/-- KEYENT (R703): changed key table entries are written on the standby. -/
def execKeyent (x : PairRx) (es : List (Nat × KeyEntry)) (s : State) : Host.Outcome State Fault Refusal :=
  .next (s.pairIn x true (fun s =>
    if decide (s.sys.st = .standby) && decide (s.par.sync ≠ .none_) then
      es.foldl (fun s (e : Nat × KeyEntry) => (s.setKey e.1 e.2).copyKey e.1) s
    else s))

/-- CAMPAIGN_FRAME (R675, R686): the campaign, once every part has arrived, is stored in the standby's system area.
(DESIGN CHOICE, log 136) -/
def execCampaignFrame (x : PairRx) (c : Campaign) (s : State) : Host.Outcome State Fault Refusal :=
  .next (s.pairIn x true (fun s =>
    let got := x.part.arrive s.par.campParts
    let s := { s with par := { s.par with campParts := got.1 } }
    if decide (s.sys.st = .standby) && s.sysWrites && got.2 then { s with nand := { s.nand with campaign := some c } } else s))

/-- PAIR_KEY_FAIL (R601). (DEDUCED, log 135) -/
def State.pairKeyFails (s : State) : State :=
  { s with par := { s.par with pairKeyFail := true } }.raise Ev.PAIR_KEY_FAIL .fault (lasting := true)

/-- A list in parts of at most `n` elements. (DEDUCED, log 116) -/
def chunksOf {α : Type} (n : Nat) : Nat → List α → List (List α)
  | 0, _ => []
  | _, [] => []
  | k + 1, l => l.take n :: chunksOf n k (l.drop n)

/-- KEY_REQ (R601, R706): the standby's certificate and key are verified against the SYS section (`certOk`), and the PKWK, every
key table entry and the campaign are sent; serving the legal slices begins. -/
def execKeyReq (x : PairRx) (certOk : Bool) (s : State) : Host.Outcome State Fault Refusal :=
  .next (s.pairIn x true (fun s =>
    if decide (s.sys.st ≠ .active) || s.par.mismatch then s
    else if !certOk then s.pairKeyFails
    else
      let s := s.pkwkDue
      match if s.key.trngOk then s.key.pkwk else none with
      | none => s
      | some k =>
        let s := s.pairSend (.keyXfer k)
        let s := (chunksOf 120 s.key.table.length s.key.table).foldl (fun s es => s.pairSend (.keyent es)) s
        let s := match s.nand.campaign with
          | some c => s.campSend c
          | none => s
        { s with par := { s.par with serving := some (0, 0), ring := [] } }))

/-- KEY_XFER (R601, R602): the standby verifies the signature (`sigOk`), adopts the PKWK and discards its own table. -/
def execKeyXfer (x : PairRx) (k : Pkwk) (sigOk : Bool) (s : State) : Host.Outcome State Fault Refusal :=
  .next (s.pairIn x true (fun s =>
    if decide (s.sys.st ≠ .standby) || s.ownHeld then s
    else if !sigOk then s.pairKeyFails
    else
      let s := s.holdPkwk { k with received := true }
      let s := { s with
        key := { s.key with table := [] },
        nand := if s.sysWrites && !s.key.debug then { s.nand with keyCopy := [] } else s.nand,
        par := { s.par with sync := .keys, staged := [], stagedRecs := [], pairKeyFail := false } }
      (s.endEv Ev.PAIR_KEY_FAIL).raise Ev.PKWK_ADOPTED .info (args := [aIdx k.pgen])))

/-! Bulk transfer (R706 steps 4 and 5). -/

/-- BULK_SLICE (R706): a legal slice is staged. -/
def execBulkSlice (x : PairRx) (i : Nat) (c : LegalSlice) (s : State) : Host.Outcome State Fault Refusal :=
  .next (s.pairIn x true (fun s =>
    if decide (s.sys.st = .standby) && (decide (s.par.sync = .keys) || decide (s.par.sync = .bulk)) then
      let ss := s.par.staged.filter (fun (y : Nat × LegalSlice) => y.1 ≠ i) ++ [(i, c)]
      { s with par := { s.par with sync := .bulk, staged := ss } }
    else s))

/-- Step 5 of R706: slices loaded, staged records replayed, every own slice checkpointed, SYNC LIVE; JOURNAL_LOST and NAND_FOREIGN
end (R522). -/
def State.goLive (s : State) (stamp : Nat) : State :=
  let js := s.par.stagedRecs
  let top : Nat := js.foldl (fun (m : Nat) (r : JRec) => max m r.jseq) stamp
  let v := Slv.rebuild Slv.mirror { s.slv with chans := [] } s.par.staged js
  let s := { s with slv := v, par := { s.par with sync := .live, mjseq := top, staged := [], stagedRecs := [] } }
  let s := (upTo 1024).foldl (fun s _ => s.copySlice) s
  (((s.raise Ev.PAIR_SYNCED .info).clearCause 4).clearCause 5).raiseIdx

/-- BULK_DONE (R706). -/
def execBulkDone (x : PairRx) (stamp : Nat) (s : State) : Host.Outcome State Fault Refusal :=
  .next (s.pairIn x true (fun s =>
    if decide (s.sys.st = .standby) && decide (s.par.sync = .bulk) && decide (s.par.staged.length = 1024) then s.goLive stamp
    else s))

/-- RESYNC_REQ (R707): the active unit drops what it held for the standby; KEY_REQ then starts the resynchronisation. -/
def execResyncReq (x : PairRx) (s : State) : Host.Outcome State Fault Refusal :=
  .next (s.pairIn x true (fun s =>
    if s.sys.st = .active then { s with par := { s.par with serving := none, ring := [], peerSync := .none_ } } else s))

/-! Link upkeep. -/

/-- PAIR_RETRANSMIT (R687): frames not covered by FACK leave again 1 ms after their last transmission. (DESIGN CHOICE, log 132) -/
def execPairRetransmit (s : State) : Host.Outcome State Fault Refusal :=
  .next (if s.pairLive && s.pairUp then
      s.resendFrames.cntW (R.PAR_CNT_k + 20) (s.par.unacked.take pairWindow).length
    else s)

/-- Lane `l`'s block lock. -/
def State.setLock (s : State) (l : Nat) (b : Bool) : State :=
  { s with par := if l = 0 then { s.par with lane0 := b } else { s.par with lane1 := b } }

/-- PAIR_LANE_DOWN (R689): lane `l` has lost block lock for 1 ms. -/
def execPairLaneDown (l : Nat) (s : State) : Host.Outcome State Fault Refusal :=
  .next (if s.pairLive && decide (l < 2) && s.laneLock l then
      (s.setLock l false).raise Ev.PAIR_LANE_DOWN .warning (args := [aCode l]) (lasting := true)
    else s)

/-- PAIR_LANE_UP (R689): lane `l` has block lock; HELLO goes out where the link comes up with it. -/
def execPairLaneUp (l : Nat) (s : State) : Host.Outcome State Fault Refusal :=
  .next (if s.pairLive && decide (l < 2) && !s.laneLock l then
      let up := s.pairUp
      let s := (s.setLock l true).endEv Ev.PAIR_LANE_DOWN (fun e => decide (e.args = [aCode l]))
      if up then s else s.sendHello
    else s)

/-! PAR_CTRL (R710, R715). -/

/-- The effect of a write of PAR_CTRL: ignored without the key. -/
def State.parCtrlEff (s : State) (v : Word) : State × Status :=
  if field v 31 16 ≠ 0x7A11 then (s, .ok)
  else
    let s := if bit v 1 && decide (s.sys.st = .standby) then s.startResync else s
    if !bit v 0 then (s, .ok)
    else if s.sys.st ≠ .active then (s, .notActive)
    else if s.par.peerSync ≠ .live then (s, .busy)
    else ((s.pairBoth (.relinquish s.par.claim)).toStandby, .ok)

/-- PAR_RESYNC (R715). -/
def execParResync (r : Requester) (s : State) : Host.Outcome State Fault Refusal :=
  .next (s.writeRow r (0x800000 + R.PAR_CTRL) (packWord [(16, 16, 0x7A11), (1, 1, 1)]) State.parCtrlEff)

/-- PAR_RELINQUISH (R710). (DEDUCED, log 137) -/
def execParRelinquish (r : Requester) (s : State) : Host.Outcome State Fault Refusal :=
  .next (s.writeRow r (0x800000 + R.PAR_CTRL) (packWord [(16, 16, 0x7A11), (0, 1, 1)]) State.parCtrlEff)

end Sys2Proof.Machine
end

