-- ==== Sys2Proof/Machine/Ptp.lean ====
section
/-!
DEFINITION. The two PTP domains (05_time_base.md R177 to R195): the servo, best master selection, path delay, the selected
domain and the continuity correction. Offsets and delays are in 2^-16 ns.
-/

namespace Sys2Proof.Machine
open Sys2Proof

/-- The base address of domain `d`'s registers (R210). -/
def timBase (d : Bool) : Nat := if d then 0x040200 else 0x040100

/-- TIM_d_CFG (R210). -/
def State.timCfg (s : State) (d : Bool) : Word := s.rg (timBase d + 0x20)

/-- The servo of domain `d` is enabled. -/
def State.timEn (s : State) (d : Bool) : Bool := bit (s.timCfg d) 31

/-- STEP_US x 1,000 ns; 0 is taken as 1 (R210). -/
def State.stepLim (s : State) (d : Bool) : Int := (max 1 (field (s.rg (timBase d + 0x2C)) 31 16) : Nat) * 1000 * 2 ^ 16

/-- LOCK_NS; 0 is taken as 1 (R210). -/
def State.lockLim (s : State) (d : Bool) : Int := (max 1 (field (s.rg (timBase d + 0x2C)) 15 0) : Nat) * 2 ^ 16

/-- PTP runs from phase 9 on and in the run state (R164). -/
def State.ptpRuns (s : State) : Bool := s.running || (decide (s.sys.st = .start) && decide (9 ≤ s.sys.phase))

/-- Domain `d` becomes `x`. -/
def State.setDom (s : State) (d : Bool) (x : Domain) : State := { s with tim := s.tim.setDom d x }

/-- The preferred domain (R188). -/
def State.pref (s : State) : Bool := bit (s.rg R.TIM_CTRL) 0

/-! Selection (R188, R189). -/

/-- The selection moves to domain `y` at the present counter value, with the continuity correction (R189). -/
def State.switchTo (s : State) (y : Bool) : State :=
  if s.tim.sel = y then s
  else
    let c := s.tim.cnt
    let x := s.tim.dom s.tim.sel
    let k : Int := if x.everLocked then s.tim.domTime x c - s.tim.domTime (s.tim.dom y) c + s.tim.cont else 0
    let s := { s with tim := { s.tim.newEra with sel := y, cont := k, slewAt := c } }
    s.raise Ev.DOMAIN_SWITCH .info (unit := b2n y) (args := [aNs (tdivInt k (2 ^ 16))])

/-- The selected domain after a change of a servo's state or of PREF (R188). -/
def State.reselect (s : State) : State :=
  let p := s.pref
  let lock := fun b => decide ((s.tim.dom b).state = .locked)
  if !(s.tim.domA.everLocked || s.tim.domB.everLocked) then s.switchTo p
  else if s.tim.sel = p then
    if lock p then s else if lock (!p) then s.switchTo (!p) else s
  else if lock (!p) then s
  else if lock p then s.switchTo p
  else s

/-- The watch of phase 10 begins (R165). -/
def State.startWatch (s : State) : State :=
  { s with sys := { s.sys with phase := 10, phaseAt := s.tim.cnt, peerSeen := false } }

/-- Phase 9 ends when the selected domain locks (04_startup_configuration.md R164). -/
def State.phase9 (s : State) : State :=
  if s.sys.st = .start ∧ s.sys.phase = 9 ∧ (s.tim.dom s.tim.sel).state = .locked then s.startWatch
  else s

/-! The servo. -/

/-- e x 2^(32 - K), for e in 2^-16 ns, truncated toward zero (R184). -/
def gain (e : Int) (k : Nat) : Int := if k ≤ 16 then e * 2 ^ (16 - k) else tdivInt e (2 ^ (k - 16))

/-- The widest RATE_d (R179). -/
def rateMax : Int := 2 ^ 39 - 1

/-- RATE_d is set, saturated (R178, R179); the elapsed time was folded before. -/
def Domain.setRate (d : Domain) (r : Int) : Domain := { d with rate := satInt rateMax r, sat := decide (rateMax < r.natAbs) }

/-- e as the control law, the lock tests and TIM_d_LAST take it (R183). -/
def satE (e : Int) : Int := if (2 : Int) ^ 47 ≤ e.natAbs then satInt ((2 ^ 31 - 1) * 2 ^ 16) e else e

/-- The control law of R184 for a folded domain. (DEDUCED, log 47) -/
def State.control (s : State) (d : Bool) (x : Domain) (e : Int) : Domain :=
  let c := s.timCfg d
  let i := x.integ - gain e (max 8 (field c 20 16))
  { x with integ := i }.setRate (i - gain e (max 8 (field c 28 24)))

/-- The domain's events as its servo leaves state `old` for `new` (R213). -/
def State.servoEvents (s : State) (d : Bool) (old new : Servo) : State :=
  let u := b2n d
  let here := fun (e : EvRec) => decide (e.unit = u)
  if old = new then s
  else
    let s := if new = .locked then (s.raise Ev.TIME_LOCK .info (unit := u)).endEv Ev.TIME_UNLOCK here else s
    let s := if old = .locked ∧ new = .acquire then s.raise Ev.TIME_UNLOCK .warning (unit := u) (lasting := true) else s
    let s := if new = .holdover then s.raise Ev.TIME_HOLDOVER .warning (unit := u) (lasting := true) else s
    if old = .holdover then s.endEv Ev.TIME_HOLDOVER here else s

/-- A servo's new state with its events, the selection and phase 9. (DEDUCED, log 47) -/
def State.servo (s : State) (d : Bool) (x : Domain) : State :=
  let old := (s.tim.dom d).state
  (((s.setDom d x).servoEvents d old x.state).reselect).phase9

/-- A sample that R185 discards: it is counted and remembered for the step rule, and it counts among the samples beyond
4 x LOCK_NS of a LOCKED servo (R186). OFFSET_d and RATE_d stay (R181). -/
def State.discard (s : State) (d : Bool) (x : Domain) (e : Int) : State :=
  let far := decide (4 * s.lockLim d < (satE e).natAbs)
  let run := if x.state = .locked ∧ far then x.missRun + 1 else 0
  let y := { x with pendStep := some e, discards := min 255 (x.discards + 1), smallRun := 0, lockRun := 0, missRun := run }
  if 4 ≤ run then s.servo d { y with state := .acquire, missRun := 0 } else s.setDom d y

/-- The step of R185 by the second sample. -/
def State.stepBy (s : State) (d : Bool) (x : Domain) (e : Int) : State :=
  let x := s.tim.fold x s.tim.cnt
  let y := { x with offset := x.offset - e, pendStep := none, smallRun := 0, lockRun := 0, missRun := 0, sampleAt := s.tim.cnt,
                    state := .acquire, samples := (x.samples + 1) % 65536 }
  (s.servo d (y.setRate y.integ)).raise Ev.TIME_STEP .info (unit := b2n d) (args := [aNs (tdivInt e (2 ^ 16))])

/-- A sample e of domain `d` at the present counter value (R184 to R186). Elapsed time is folded into OFFSET_d where RATE_d changes
(R178). (DEDUCED, log 47) -/
def State.sample (s : State) (d : Bool) (e : Int) : State :=
  let x := { s.tim.dom d with last := tdivInt (satE e) (2 ^ 16) }
  let es := satE e
  if s.stepLim d < e.natAbs then
    let again := match x.pendStep with
      | none => false
      | some p => decide ((p < 0) = (e < 0))
    if again then s.stepBy d x e else s.discard d x e
  else
    let x := { x with pendStep := none, samples := (x.samples + 1) % 65536, sampleAt := s.tim.cnt }
    let f := s.tim.fold x s.tim.cnt
    let near := decide (es.natAbs ≤ s.lockLim d)
    match x.state with
    | .freerun =>
      if x.smallRun = 0 then s.setDom d { x with smallRun := 1 }
      else s.servo d (s.control d { f with state := .acquire, smallRun := 0, lockRun := b2n near } es)
    | .acquire =>
      let run := if near then x.lockRun + 1 else 0
      if 16 ≤ run then
        s.servo d (s.control d { f with state := .locked, everLocked := true, lockedAt := s.tim.cnt, lockRun := 0, missRun := 0 } es)
      else s.servo d (s.control d { f with lockRun := run } es)
    | .locked =>
      let run := if 4 * s.lockLim d < es.natAbs then x.missRun + 1 else 0
      if 4 ≤ run then s.servo d (s.control d { f with state := .acquire, lockRun := 0, missRun := 0 } es)
      else s.servo d (s.control d { f with missRun := run } es)
    | .holdover => s.servo d (s.control d { f with state := .acquire, lockRun := b2n near, missRun := 0 } es)

/-- The domain enters HOLDOVER from ACQUIRE or LOCKED: RATE_d = I_d (R186, R187). -/
def State.holdover (s : State) (d : Bool) : State :=
  let x := s.tim.dom d
  if x.state = .acquire ∨ x.state = .locked then
    let y := s.tim.fold x s.tim.cnt
    s.servo d ({ y with state := .holdover, lockRun := 0, missRun := 0, smallRun := 0 }.setRate y.integ)
  else s

/-! Messages. -/

/-- asymmetry_port of a host port (R183). -/
def State.asym (s : State) (e : Nat) : Int :=
  match s.sys.image with
  | some im => ((im.asym.find? (fun (x : Nat × Int) => x.1 = e)).map Prod.snd).getD 0
  | none => 0

/-- Transmit and receive latency of a host port in 2^-16 ns, from TX_PS and RX_PS (R192, R211). -/
def State.txLat (s : State) (e : Nat) : Int := (s.rg (R.TIM_E_LAT_e_TX + 8 * e)).toNat * 2 ^ 16 / 1000
/-- Receive latency. -/
def State.rxLat (s : State) (e : Nat) : Int := (s.rg (R.TIM_E_LAT_e_TX + 8 * e + 4)).toNat * 2 ^ 16 / 1000

/-- T_d at the reference plane of port `e` for a message stamped `c` at the PCS on reception: RX_PS earlier (R192). -/
def State.rxTime (s : State) (x : Domain) (e c : Nat) : Int := s.tim.domTime x c - s.rxLat e

/-- T_d at the reference plane for a message stamped `c` at the PCS as it leaves: TX_PS later (R192). -/
def State.txTime (s : State) (x : Domain) (e c : Nat) : Int := s.tim.domTime x c + s.txLat e

/-- PTP_SYNC (R183, R192): a Sync of the present master of domain `d` arrives at port `e`, stamped `t2` at the PCS; `t1` and the
correction field are in 2^-16 ns. -/
def execPtpSync (d : Bool) (e t2 : Nat) (t1 corr : Int) (s : State) : Host.Outcome State Fault Refusal :=
  let s := s.reach t2
  let x := s.tim.dom d
  if !s.ptpRuns || !s.timEn d || s.tim.ircAt.isSome || decide (x.master.map (fun m => m.1.port) ≠ some e) then .next s
  else .next (s.sample d (s.rxTime x e t2 - t1 - x.pathDelay - corr - s.asym e))

/-- The order of best master selection (R182: the default algorithm of IEEE 1588-2019). -/
def PtpMaster.rank (m : PtpMaster) : List Nat :=
  [m.priority1, m.clockClass, m.accuracy, m.variance, m.priority2, m.identity, m.stepsRemoved, m.port]

/-- The first list is lower in dictionary order. -/
def lexLt : List Nat → List Nat → Bool
  | [], _ => false
  | _ :: _, [] => false
  | a :: as, b :: bs => decide (a < b) || (decide (a = b) && lexLt as bs)

/-- The TAI - UTC offset that the selected domain's master announces comes into force (R353). -/
def State.utcNews (s : State) (d : Bool) (o : Int) : State :=
  if s.tim.sel = d ∧ s.tim.utcOffs.head?.map Prod.snd ≠ some o then
    { s with tim := { s.tim with utcOffs := (s.nowNs / second, o) :: s.tim.utcOffs } }
  else s

/-- PTP_ANNOUNCE (R182): an Announce arrives at counter value `t` with its master's data, the ptpTimescale flag and
currentUtcOffset. -/
def execPtpAnnounce (d : Bool) (m : PtpMaster) (ptpScale : Bool) (utc : Int) (t : Nat) (s : State) :
    Host.Outcome State Fault Refusal :=
  let s := s.reach t
  let carries := nbit (field (s.timCfg d) 7 4) m.port
  if !s.ptpRuns || !ptpScale || s.tim.ircAt.isSome || !carries then .next s
  else
    let x := s.tim.dom d
    let take := match x.master with
      | none => true
      | some (c, _) => (decide (c.identity = m.identity) && decide (c.port = m.port)) || lexLt m.rank c.rank
    if take then .next ((s.setDom d { x with master := some (m, s.tim.cnt) }).utcNews d utc) else .next s

/-- The departure time that the PCS writes into a message leaving port `e` at counter value `c`: presented time plus TX latency, in
2^-16 ns (R195). -/
def State.departs (s : State) (e c : Nat) : Int := s.tim.stamped c + s.txLat e

/-- The stamp of a request sent on port `e` is kept (R192). -/
def Domain.sentReq (x : Domain) (e c : Nat) : Domain := { x with reqAt := (e, c) :: x.reqAt.filter (fun r => r.1 ≠ e) }

/-- PTP_DELAY_REQ_TIMER (R192, R195): a Delay_Req, or a Pdelay_Req in a P2P domain, leaves port `e` with its departure time, and is
stamped. -/
def execPtpDelayReqTimer (d : Bool) (e t : Nat) (s : State) : Host.Outcome State Fault Refusal :=
  let s := s.reach t
  let p2p := bit (s.timCfg d) 30
  let onPort := if p2p then nbit (field (s.timCfg d) 7 4) e else decide (((s.tim.dom d).master.map (fun m => m.1.port)) = some e)
  if !s.ptpRuns || !s.timEn d || s.tim.ircAt.isSome || !onPort then .next s
  else
    .next ((s.setDom d ((s.tim.dom d).sentReq e s.tim.cnt)).emit (.ptpDelayReq d e p2p (s.departs e s.tim.cnt / 2 ^ 16).toNat))

/-- PTP_DELAY_RESP (R182, R183, R192): the answer to the request that domain `d` sent on port `e` gives meanPathDelay, with the kept
stamp of that request. E2E: `c2` is the Sync's stamp, `a` the Sync's and `b` the answer's master times. P2P: `c2` is the
answer's stamp, `a` and `b` the peer's times. An answer to no request is discarded. (DEDUCED, log 47) -/
def execPtpDelayResp (d : Bool) (e c2 : Nat) (a b corr : Int) (s : State) : Host.Outcome State Fault Refusal :=
  let x := s.tim.dom d
  match x.reqAt.find? (fun r => r.1 = e) with
  | none => .next s
  | some (_, c1) =>
    if !s.ptpRuns || !s.timEn d || s.tim.ircAt.isSome then .next s
    else
      let t1 := s.txTime x e c1
      let t2 := s.rxTime x e c2
      let p := if bit (s.timCfg d) 30 then (t2 - t1) - (b - a) - corr else (t2 - a) + (b - t1) - corr
      .next (s.setDom d { x with pathDelay := tdivInt p 2, reqAt := x.reqAt.filter (fun r => r.1 ≠ e) })

/-- PTP_PDELAY_REQ (R182, R195): a Pdelay_Req stamped `c` at port `e` of a P2P domain is answered with the turnaround, in presented
time, up to the departure at counter value `t`. -/
def execPtpPdelayReq (d : Bool) (e c t : Nat) (s : State) : Host.Outcome State Fault Refusal :=
  let s := s.reach t
  if !s.ptpRuns || s.tim.ircAt.isSome || !bit (s.timCfg d) 30 || !nbit (field (s.timCfg d) 7 4) e then .next s
  else .next (s.emit (.ptpPdelayResp d e ((s.departs e s.tim.cnt - (s.tim.stamped c - s.rxLat e)) / 2 ^ 16).toNat))

/-- logSyncInterval of a domain (R182). -/
def State.logSync (s : State) (d : Bool) : Int :=
  match s.sys.image with
  | some im => if d then im.domB.logSync else im.domA.logSync
  | none => 0

/-- `n` intervals of 2^log s, in counts. -/
def logCounts (n : Nat) (log : Int) : Nat :=
  if 0 ≤ log then 400000000 * n * 2 ^ log.toNat else 400000000 * n / 2 ^ (-log).toNat

/-- SYNC_TIMEOUT (R186): no valid sample has come for 16 Sync intervals. -/
def execSyncTimeout (d : Bool) (t : Nat) (s : State) : Host.Outcome State Fault Refusal :=
  let s := s.reach t
  if (s.tim.dom d).sampleAt + logCounts 16 (s.logSync d) ≤ s.tim.cnt then .next (s.holdover d) else .next s

/-- announceReceiptTimeout of a domain (R182). -/
def State.announceN (s : State) (d : Bool) : Nat :=
  match s.sys.image with
  | some im => if d then im.domB.announceTimeout else im.domA.announceTimeout
  | none => 3

/-- ANNOUNCE_RECEIPT_TIMEOUT (R186): announceReceiptTimeout x 2^logMessageInterval s from the latest Announce. -/
def execAnnounceReceiptTimeout (d : Bool) (t : Nat) (s : State) : Host.Outcome State Fault Refusal :=
  let s := s.reach t
  let x := s.tim.dom d
  match x.master with
  | none => .next s
  | some (m, at_) =>
    if s.tim.cnt < at_ + logCounts (s.announceN d) m.logInterval then .next s
    else .next ((s.setDom d { x with master := none }).holdover d)

/-! Register effects and timers. -/

/-- KP and KI below 8 are taken and read back as 8 (R184). -/
def fixShifts (v : Word) : Word :=
  let v := putField v 28 24 (max 8 (field v 28 24))
  putField v 20 16 (max 8 (field v 20 16))

/-- A write of TIM_d_CFG through the P-view: clearing EN puts the servo in FREERUN (R186, R210). -/
def State.setTimCfg (s : State) (d : Bool) (v : Word) : State :=
  let a := timBase d + 0x20
  let was := s.timEn d
  let s := s.setReg a (fixShifts (mergeWrite (s.rg a) v (writeMask (0x800000 + a))))
  if was && !s.timEn d then
    let x := s.tim.dom d
    let s := s.servo d { x with state := .freerun, smallRun := 0, lockRun := 0, missRun := 0, pendStep := none }
    s.endEv Ev.TIME_UNLOCK (fun e => decide (e.unit = b2n d))
  else s

/-- SERVO_DISABLE (R186): requester `r` clears EN of domain `d`. -/
def execServoDisable (r : Requester) (d : Bool) (s : State) : Host.Outcome State Fault Refusal :=
  .next (s.writeRow r (0x800000 + timBase d + 0x20) (putField (s.timCfg d) 31 31 0) (okEff (fun s v => s.setTimCfg d v)))

/-- SERVO_ENABLE (R210): requester `r` sets EN of domain `d`; the servo starts in FREERUN. -/
def execServoEnable (r : Requester) (d : Bool) (s : State) : Host.Outcome State Fault Refusal :=
  .next (s.writeRow r (0x800000 + timBase d + 0x20) (putField (s.timCfg d) 31 31 1) (okEff (fun s v => s.setTimCfg d v)))

/-- A write of TIM_CTRL: PREF may move the selection (R188, R209). -/
def State.setTimCtrl (s : State) (v : Word) : State :=
  (s.setReg R.TIM_CTRL (mergeWrite (s.rg R.TIM_CTRL) v (writeMask (0x800000 + R.TIM_CTRL)))).reselect

/-- PREF_RETURN_TIMER (R188): the preferred domain has been LOCKED for 60 s without a break. -/
def execPrefReturnTimer (t : Nat) (s : State) : Host.Outcome State Fault Refusal :=
  let s := s.reach t
  let p := s.pref
  let x := s.tim.dom p
  if decide (x.state = .locked) && decide (s.tim.sel ≠ p) && decide (x.lockedAt + msCounts 60000 ≤ s.tim.cnt) then
    .next (s.switchTo p)
  else .next s

/-- CONTINUITY_SLEW_TICK (R189): for each 1 ms of counter time that has passed, K moves toward zero by at most 50 ns. -/
def execContinuitySlewTick (t : Nat) (s : State) : Host.Outcome State Fault Refusal :=
  let s := s.reach t
  let n := (s.tim.cnt - s.tim.slewAt) / msCounts 1
  let at_ := s.tim.slewAt + n * msCounts 1
  if s.tim.cont = 0 ∨ n = 0 then .next { s with tim := { s.tim with slewAt := at_ } }
  else .next { s with tim := { s.tim.newEra with cont := s.tim.cont - satInt (n * 50 * 2 ^ 16) s.tim.cont, slewAt := at_ } }

end Sys2Proof.Machine
end

