-- ==== Sys2Proof/Machine/Power.lean ====
section
/-!
DEFINITION. Reset, restart, power failure and flush (02_package_signals.md R56 to R73; 04_startup_configuration.md R167,
R168, R172; 15_beam_archive.md R580 to R583), the SEAL input (R66, R524), and the clock source
(03_clocks_islands_ageing.md R92 to R101).
-/

namespace Sys2Proof.Machine
open Sys2Proof

/-! Resets. -/

/-- The NOR slot A (false) or B. -/
def Nor.slot (n : Nor) (b : Bool) : Option Image := if b then n.slotB else n.slotA

/-- The slot holds `x`. -/
def Nor.setSlot (n : Nor) (b : Bool) (x : Option Image) : Nor := if b then { n with slotB := x } else { n with slotA := x }

/-- A staged-image write in progress is abandoned (R71, R172): what the slot then holds is a slot that fails R156.
(DESIGN CHOICE, log 31) -/
def State.abandonStage (s : State) : State :=
  if s.sys.stage ≠ .writing then s
  else
    let left := if s.drawn 1 = 0 then none else s.sys.staged.map (fun (i : Image) => { i with sigOk := false })
    { s with nor := s.nor.setSlot (!s.sys.slot) left, sys := { s.sys with stage := .idle, staged := none }, fresh := s.fresh + 1 }

/-- A recompute job that a reset meets is aborted with code 1, RESET; its results stay readable (R481). (DEDUCED, log 86) -/
def Job.cutShort (x : Job) : Job :=
  match x.st with
  | .queued => { x with st := .aborted, code := 1 }
  | .running => { x with st := .aborted, code := 1 }
  | _ => x

/-- Every register, queue and table back at reset (R6, R62); OTP, NOR, NAND, latched straps and the SEAL level stay. `cause` is
RESET_CAUSE (R173). BEM_FLUSH.LAST_US is kept, since it tells of the flush before the reset (DEDUCED). (DEDUCED, log 29) -/
def State.cleared (s : State) (cause : Nat) : State :=
  { State.reset with
    pending := s.pending, out := s.out, fresh := s.fresh, otp := s.otp, nor := s.nor, nand := s.nand,
    bem := { Bem.reset with moves := s.bem.moves, lastFlushUs := s.bem.lastFlushUs },
    pen := { Pen.reset with jobs := Store.mapAll (fun _ => Job.blank) (fun _ => Job.cutShort) s.pen.jobs },
    sys := { Sys.reset with
      cause := cause, dbgEn := s.sys.dbgEn, pairEn := s.sys.pairEn, unitSel := s.sys.unitSel, xspiSafe := s.sys.xspiSafe,
      sealClosed := s.sys.sealClosed } }

/-- The elements of a list that a free draw each keeps. (DESIGN CHOICE, log 31) -/
def keepSome {α : Type} (n : Nat) : List α → List α
  | [] => []
  | a :: l => if Config.freeNat n % 2 = 1 then a :: keepSome (n + 1) l else keepSome (n + 1) l

/-- The legal reserve takes a flush, and the archive reserve does (R572, R574). -/
def State.legalReserve (s : State) : Bool := s.bem.mounted && !s.nand.legalRo && !s.sys.legalUnread

/-- A flush that PORST_N ends early (R63, R583): the legal records up to the first missing page survive, and any of the archive
pages. (DESIGN CHOICE, log 31) -/
def State.cutFlush (s : State) : State :=
  if s.sys.st ≠ .flush ∨ !s.bem.mounted then s
  else
    let js := if s.legalReserve then s.slv.jbuf else []
    let ws := if s.sysWrites then s.bem.warpBuf else []
    let xs := if s.sysWrites then s.bem.archBuf else []
    let j := js.take (s.drawn js.length)
    let w := keepSome (s.fresh + 1) ws
    let x := keepSome (s.fresh + 1 + ws.length) xs
    { s with
      fresh := s.fresh + 1 + ws.length + xs.length,
      nand := { s.nand with
        flushLegal := j, flushWarp := w, flushArch := x,
        flushed := some (decide (j.length = js.length ∧ w.length = ws.length ∧ x.length = xs.length)) } }

/-- PORST_N_ASSERT (R62, R63): every island is in reset at once. -/
def execPorstNAssert (s : State) : Host.Outcome State Fault Refusal :=
  let s := s.cutFlush.abandonStage.cleared 0
  .next { s with sys := { s.sys with st := .reset, rstout := true } }

/-- PORST_N_RELEASE (R46, R56, R92, R139): with TMODE, the straps and the SEAL level at the rise. -/
def execPorstNRelease (tmode dbgEn pairEn unitSel xspiSafe sealClosed : Bool) (s : State) :
    Host.Outcome State Fault Refusal :=
  if s.sys.st ≠ .reset then .next s
  else
    let c := s.cleared 0
    .next { c with sys := { c.sys with
      st := if tmode then .reset else .start, tmode := tmode, dbgEn := dbgEn, pairEn := pairEn, unitSel := unitSel,
      xspiSafe := xspiSafe, sealClosed := sealClosed } }

/-! Power failure and restart. -/

/-- An island that is gated at once (R108); its steps and Temple's figures stay. -/
def Island.gate (x : Island) : Island :=
  { x with en := false, busy := false, closing := false, reopen := false, trans := .idle, goal := x.cur, mv := 0, ramp := false,
           fell := false, opening := none, forWindow := false }

/-- A ramp stops at the step it has reached (R105, R108). -/
def Island.stopRamp (x : Island) : Island :=
  { x with trans := .idle, busy := false, goal := x.cur, fell := false, forWindow := false }

/-- Islands that keep running in a flush: AON, TIM, SLV and BEM (R108). -/
def flushIsland (i : Nat) : Bool := decide (i = 0 ∨ i = 2 ∨ i = 17 ∨ i = 18)

/-- What t0 does to the clock unit (R108): the other islands are gated, and no AVSBus write follows. -/
def Clk.flushing (c : Clk) : Clk :=
  { c with
    islands := Store.mapAll (fun _ => Island.blank) (fun i x => if flushIsland i then x.stopRamp else x.gate) c.islands,
    hi := { c.hi with queue := [] }, lo := { c.lo with queue := [] } }

/-- t0 of a power-fail or a restart (R71 to R73, R108, R581, R609): RELINQUISH, gates closed, outputs inactive, islands gated,
and every function of a gated island loses its state. The legal journal buffer and the archive buffer stay. (DEDUCED, log 137) -/
def State.atT0 (s : State) (st : RunSt) (cause : Nat) : State :=
  let s := if s.pairLive then s.pairBoth (.relinquish s.par.claim) else s
  let s := s.dropClaim.cutAtT0.abandonStage
  { s with
    sys := { s.sys with st := st, cause := cause, role := 0, heddle := false, outsOff := true, rstout := true },
    clk := s.clk.flushing,
    tmp := { s.tmp with todo := none, alarms := [] },
    tim := { s.tim with hostLaunch := [] },
    ports := [], net := Net.reset, msn := Msn.reset, sht := Sht.reset, wrp := Wrp.reset, pen := Pen.reset, bal := Bal.reset,
    key := Key.reset, par := Par.reset, snap := [], heldW := [],
    hst := { s.hst with link := [], sessions := [], handshakes := [], mdioBusy := false },
    slv := { s.slv with inbox := [], dispo := [], cardIn := [], handoff := false } }

/-- A power-fail is latched (R64, R168). Where nothing has been journaled since the start there is nothing to flush.
(DEDUCED, log 30, 137) -/
def State.powerFail (s : State) : State :=
  let go := fun (st : RunSt) => let t := s.atT0 st 1; { t with sys := { t.sys with pfail := true } }
  match s.sys.st with
  | .reset => s
  | .start => if s.sys.phase < 6 then go .flushed else go .flush
  | .recovery => go .flushed
  | .halted => go .flushed
  | .active => go .flush
  | .standby => go .flush
  | .flush => { s with sys := { s.sys with pfail := true } }
  | .flushed => { s with sys := { s.sys with pfail := true } }

/-- POWER_FAIL_LATCH (R64): PFAIL_N has been low for 1 us at counter value `t`. -/
def execPowerFailLatch (t : Nat) (s : State) : Host.Outcome State Fault Refusal := .next (s.reach t).powerFail

/-- A restart request (R168): a flush from the run state, a reset from RECOVERY; no other state takes one. (DEDUCED, log 29) -/
def State.restartReq (s : State) : State :=
  match s.sys.st with
  | .active => s.atT0 .flush 2
  | .standby => s.atT0 .flush 2
  | .recovery => s.abandonStage.cleared 2
  | _ => s

/-- The effect of a write of CFG_CTRL (R173): ignored without the key. -/
def State.cfgCtrlEff (s : State) (v : Word) : State × Status :=
  if field v 31 16 = 0xD064 ∧ bit v 0 then (s.restartReq, .ok) else (s, .ok)

/-- RESTART (R168, R173): a write of CFG_CTRL. -/
def execRestart (r : Requester) (v : Word) (s : State) : Host.Outcome State Fault Refusal :=
  .next (s.writeRow r (0x800000 + R.CFG_CTRL) v State.cfgCtrlEff)

/-- FLUSH_COMPLETE (R581): the buffers' content as of t0 is in the reserve; `us` is the time taken. -/
def execFlushComplete (us : Nat) (s : State) : Host.Outcome State Fault Refusal :=
  if s.sys.st ≠ .flush then .next s
  else
    let nand := if s.bem.mounted then { s.nand with
        flushLegal := if s.legalReserve then s.slv.jbuf else [],
        flushWarp := if s.sysWrites then s.bem.warpBuf else [],
        flushArch := if s.sysWrites then s.bem.archBuf else [],
        flushed := some true }
      else s.nand
    .next { s with nand := nand, sys := { s.sys with st := .flushed }, bem := { s.bem with lastFlushUs := min 0xFFFF us } }

/-- FLUSHED_RESET (R65, R168): PFAIL_N has been high for 100 ms, or RESET_CAUSE is 2; the part resets as at a PORST_N cycle. -/
def execFlushedReset (s : State) : Host.Outcome State Fault Refusal :=
  if s.sys.st ≠ .flushed then .next s else .next (s.cleared s.sys.cause)

/-! The SEAL input. -/

/-- Selvedge runs, so that an open seal starts its hold: from phase 3 on (R139). (DEDUCED, log 33) -/
def State.slvUp (s : State) : Bool := s.running || (decide (s.sys.st = .start) && decide (3 ≤ s.sys.phase))

/-- Journal and audit log are there: from phase 6 on. (DEDUCED, log 33) -/
def State.slvBooks (s : State) : Bool := s.journals || decide (s.sys.st = .standby)

/-- SEAL_OPEN begins (R524): the hold, and the event. (DEDUCED, log 33) -/
def State.sealOpens (s : State) : State :=
  let s := if s.slvBooks then s.setCause 2 else s.setCauseRaw 2
  s.raise Ev.SEAL_OPEN .fault (lasting := true)

/-- SEAL_CHANGE (R66, R520, R524): the debounced level changes at counter value `t`. (DEDUCED, log 33) -/
def execSealChange (closed : Bool) (t : Nat) (s : State) : Host.Outcome State Fault Refusal :=
  let s := s.reach t
  if s.sys.st = .reset ∨ s.sys.sealClosed = closed then .next s
  else
    let s := { s with sys := { s.sys with sealClosed := closed } }
    if !s.slvUp then .next s
    else
      let s := if closed then s.endMaintenance else { s.sealOpens with slv := { s.sealOpens.slv with verified := false } }
      .next (if s.slvBooks then s.audit (.sealChange closed) else s)

/-! The clock source. -/

/-- What R180 adds to a domain's elapsed counts for the interval on the IRC that ends now, in 2^-32 counts. -/
def Tim.ircGain (t : Tim) (d : Domain) : Int := t.elapsed d.epoch t.cnt - ((t.cnt : Int) - d.epoch) * 2 ^ 32

/-- The interval on the IRC ends: what it adds is kept by both domains, so that neither OFFSET_d nor domain time steps (R180, R181). -/
def Tim.leaveIrc (t : Tim) : Tim :=
  { t.newEra with
    domA := { t.domA with lost := t.domA.lost + t.ircGain t.domA },
    domB := { t.domB with lost := t.domB.lost + t.ircGain t.domB }, ircAt := none }

/-- REFCLK_QUALIFIED (R93, R95, R97, R180): REFCLK is declared good at counter value `t`, and a part on the IRC switches to it by
the hold sequence. (DEDUCED, log 32) -/
def execRefclkQualified (t : Nat) (s : State) : Host.Outcome State Fault Refusal :=
  let s := s.reach t
  if s.sys.st = .reset ∨ s.clk.refOk then .next s
  else
    let was := s.clk.irc
    let s := { s with clk := { s.clk with refOk := true } }
    if !was then .next s
    else
      let s := { s with
        clk := { s.clk with irc := false, hold := true },
        tim := s.tim.leaveIrc }
      let failed := s.active Ev.CLK_FAIL
      let s := s.endEv Ev.CLK_FAIL
      let s := if failed then s.raise Ev.CLK_RESTORED .info else s
      .next (s.blockAll s.tim.cnt)

/-- On the IRC a unit of a pair stops claiming and closes its gates (R98). -/
def State.ircRole (s : State) : State :=
  if !s.sys.pairEn then s
  else match s.sys.st with
    | .active => s.claimLost
    | .start => if s.sys.phase = 10 then { s.dropClaim with sys := { s.sys with role := 2, phase := 11 } } else s.dropClaim
    | _ => s.dropClaim

/-- REFCLK_LOST (R94, R95, R97, R98, R180): REFCLK is declared lost at counter value `t`; `ratio` is the IRC-to-REFCLK ratio last
measured (R96), in 2^-32. -/
def execRefclkLost (t ratio : Nat) (s : State) : Host.Outcome State Fault Refusal :=
  let s := s.reach t
  if s.sys.st = .reset ∨ !s.clk.refOk then .next s
  else
    let s := { s with
      clk := { s.clk with refOk := false, irc := true, hold := true, lossCnt := min 0xFFFF (s.clk.lossCnt + 1) },
      tim := { s.tim.newEra with ircAt := some s.tim.cnt, ratio := some ratio } }
    let s := (s.emit .clockFailNmi).raise Ev.CLK_FAIL .fault (lasting := true)
    let s := (s.holdover false).holdover true
    let s := (State.endSessions { s with hst := { s.hst with handshakes := [] } }).linksDown
    .next (s.ircRole.blockAll s.tim.cnt)

/-- SYNTHESISER_RELOCK (R95): the synthesisers have relocked on the new source. -/
def execSynthesiserRelock (s : State) : Host.Outcome State Fault Refusal :=
  .next { s with clk := { s.clk with hold := false } }

end Sys2Proof.Machine
end

