-- ==== Sys2Proof/Machine/ImageCheck.lean ====
section
/-!
DEFINITION. The checks of a configuration image (04_startup_configuration.md R156) with the limits that the chapters give: 0 is
a pass, any other number the fail code of R174. Limits on values that `Image` does not hold are its `restOk`.
-/

namespace Sys2Proof.Machine
open Sys2Proof

/-! Checks 1 to 6. -/

/-- The signer's digest matches the OTP and the signer is not revoked (R156 check 3). -/
def Otp.signerOk (o : Otp) (im : Image) : Bool :=
  decide (im.hdr.signer < 4) && decide (o.signers[im.hdr.signer]? = some im.signerDigest) && !nbit o.revoked im.hdr.signer

/-- Checks 1 to 6, in order. (DESIGN CHOICE, log 40) -/
def checkHead (o : Otp) (im : Image) : Nat :=
  if !im.hdr.magicOk then 0x11
  else if im.hdr.target ≠ 0x8064 then 0x12
  else if !o.signerOk im then 0x13
  else if !im.sigOk then 0x14
  else if !im.hdr.tableOk then 0x15
  else if im.legalComputed ≠ im.legalDigest then 0x15
  else 0

/-! Check 7. -/

/-- A register as the image leaves it: its listed value, else the reset value. -/
def Image.rg (im : Image) (a : Nat) : Word :=
  match im.regs.find? (fun (x : Nat × Word) => x.1 = a) with
  | some x => x.2
  | none => regReset a

/-- No value occurs twice. -/
def noRepeat (l : List Nat) : Bool := decide l.Nodup

/-- R1, R308: endpoint indices, fast endpoints, channel numbers, relays, and EUI-64s named once. -/
def Image.levelsOk (im : Image) : Bool :=
  im.eps.all (fun e => decide (e.idx < 2 ^ 20) && e.chans.all (fun c => decide (c.1 < 4))) &&
  noRepeat (im.eps.map EpCfg.idx) &&
  decide ((im.eps.filter (fun e => e.cls = 2)).length ≤ 16384) &&
  decide (im.relays.length ≤ 32768) && noRepeat (im.eps.map EpCfg.eui ++ im.relays) &&
  im.ports.all (fun p => decide (p.num < 64)) && im.meshCells.all (fun c => decide (c < 64))

/-- R306: bits 6:0 of a FIELD_BASE are zero. -/
def Image.baseOk (im : Image) : Bool :=
  match im.fieldBase with
  | none => true
  | some b => decide (b % 128 = 0)

/-- R555: the NAND parameters' ranges, and at most 2 TiB raw per channel. -/
def NandCfg.rangesOk (n : NandCfg) : Bool :=
  decide (1 ≤ n.nCh ∧ n.nCh ≤ 8) && decide (1 ≤ n.nTgt ∧ n.nTgt ≤ 4) && decide (1 ≤ n.nLun ∧ n.nLun ≤ 4) &&
  decide (1 ≤ n.nPlane ∧ n.nPlane ≤ 4) && decide (n.page = 8192 ∨ n.page = 16384) &&
  decide (384 ≤ n.ppb ∧ n.ppb ≤ 3072 ∧ n.ppb % 3 = 0) && decide (256 ≤ n.bpp ∧ n.bpp ≤ 16384) &&
  decide (400 ≤ n.tMode ∧ n.tMode ≤ 800) && decide (1 ≤ n.eTlc ∧ n.eTlc ≤ 1000000) &&
  decide (1 ≤ n.eSlc ∧ n.eSlc ≤ 1000000) && decide (50000 ≤ n.tProgTlc ∧ n.tProgTlc ≤ 5000000) &&
  decide (50000 ≤ n.tProgSlc ∧ n.tProgSlc ≤ 5000000) &&
  decide (n.nTgt * n.nLun * n.nPlane * n.bpp * n.ppb * n.page ≤ 2 ^ 41)

/-- R561: W_20 does not exceed E_SLC, for a checkpoint cycle of `c` seconds. -/
def NandCfg.wearOk (n : NandCfg) (c : Nat) : Bool :=
  decide (631152000 * (1610612736 + 4194304 * c) ≤ n.eSlc * 137438953472 * c)

/-- R555, R561, R582. -/
def Image.nandOk (im : Image) : Bool :=
  im.nand.rangesOk && im.nand.wearOk (field (im.rg R.SLV_CFG) 8 0) && decide (im.nand.tFlush ≤ 38000000)

/-- A register of Shuttle as the image leaves it: its own value, else the default of R398. -/
def Image.shtReg (im : Image) (a : Nat) : Word :=
  match (im.regs ++ im.shtRegs).find? (fun (x : Nat × Word) => x.1 = a) with
  | some x => x.2
  | none => 0

/-- RSV and CAP of a source class (R379). -/
def Image.rsv (im : Image) (c : Nat) : Nat := field (im.shtReg (R.SHT_SRC_s_4 + 0x10 * c)) 16 0
/-- CAP of a source class. -/
def Image.cap (im : Image) (c : Nat) : Nat := field (im.shtReg (R.SHT_SRC_s_8 + 0x10 * c)) 16 0

/-- R379, R412. -/
def Image.shuttleOk (im : Image) : Bool :=
  decide ((upTo 64).foldl (fun n c => n + im.rsv c) 0 ≤ 32768) &&
  (upTo 64).all (fun c => decide (im.rsv c ≤ im.cap c ∧ im.cap c ≤ 65536)) &&
  im.exts.all (fun x => decide (x.num < 16 ∧ x.cap ≤ 4096) && decide (10 ≤ x.budgetUs ∧ x.budgetUs ≤ 10000 ∧ x.budgetUs < 1000 * (im.rg R.SHT_WD).toNat))

/-- R356: SPREAD of a POLLED endpoint. -/
def Image.spreadOk (im : Image) : Bool :=
  let w := im.rg R.MSN_SCHED
  im.eps.all (fun e => decide (e.cls ≠ 0) || decide (field w 31 16 + field w 15 8 ≤ e.interval))

/-- R457, R460: one channel's RAW bit, modulus, TYPE and conversion record. -/
def Image.chanOk (im : Image) (ch : Chid) : Bool :=
  match im.chan ch, im.legal ch with
  | some c, some l =>
    decide (c.n = l.n) && decide (c.raw = l.raw) &&
    (!c.raw || match l.conv with
      | none => false
      | some v =>
        decide (v.ctype ≠ 0) && decide ((im.pset c.pset).map PSet.type = some v.ctype) &&
        (!nbit v.flags 0 || decide (v.ctype = 1 ∨ v.ctype = 2)) &&
        (decide (v.ctype ≠ 7) || im.zsets.any (fun z => z.1 = v.zset)))
  | _, _ => true

/-- R657: credentials by scope. -/
def Image.credsOk (im : Image) : Bool :=
  im.parts.all (fun p => p.creds.all (fun c =>
    match p.scope with
    | .all => decide (c.role ≠ .supplier ∧ c.role ≠ .consumer)
    | .contracts cs => !(cs.contains 0 && decide (c.role = .authority ∨ c.role = .operator))))

/-- A raw channel's base code by its type and reference (R460, R537). -/
def ConvRec.baseCode (r : ConvRec) : Nat :=
  if r.ctype = 7 then (if nbit r.flags 5 then 4 else 3) else if r.ctype = 2 ∨ r.ctype = 4 ∨ r.ctype = 6 then 2 else 1

/-- The quantum of a channel as base code and exponent (R540). -/
def Image.quantum (im : Image) (ch : Chid) : Option (Nat × Int) :=
  (im.legal ch).map (fun l => match l.raw, l.conv with
    | true, some v => (v.baseCode, v.oe)
    | _, _ => (l.base, l.oe))

/-- A chain of PARENT links from a node has at most `n` nodes above it (R540). -/
def Image.chainOk (im : Image) : Nat → Nat → Bool
  | 0, _ => false
  | n + 1, k =>
    match (im.balNode k).bind BalNode.parent with
    | none => true
    | some p => Image.chainOk im n p

/-- R540: one balance node. -/
def Image.nodeOk (im : Image) (k : Nat) (b : BalNode) : Bool :=
  let chs := b.members.map BalMember.ch
  let sts := b.segs.map Prod.snd
  (chs ++ sts).all (fun ch => (im.chan ch).isSome) &&
  chs.all (fun ch => decide (im.quantum ch = some (b.base, b.oe))) &&
  sts.all (fun ch => decide (im.quantum ch = some (b.base, b.oe)) && ((im.chan ch).map ChCfg.raw).getD false) &&
  im.chainOk 16 k && decide (b.k < b.h) && decide (b.period ≤ field (im.rg R.BAL_CFG) 31 16) &&
  decide (b.mfirst + b.members.length ≤ 2 ^ 21 ∧ b.sfirst + b.segs.length ≤ 2 ^ 16)

/-- No value occurs more than four times. -/
def atMostFour (l : List Nat) : Bool := l.all (fun a => decide (l.count a ≤ 4))

/-- R540: the network model. -/
def Image.balOk (im : Image) : Bool :=
  im.balNodes.all (fun x => im.nodeOk x.1 x.2) &&
  atMostFour (im.balNodes.flatMap (fun x => x.2.members.map BalMember.ch)) &&
  atMostFour (im.balNodes.flatMap (fun x => x.2.segs.map Prod.snd))

/-- R263, R278, R279: a radio port's combination of band and mode, its channels, and HOP_C. -/
def Image.radioOk (im : Image) (p : PortCfg) : Bool :=
  if !p.radio then true
  else
    let a := portBase p.num
    let cfg := im.rg (a + 0x200)
    let cs := chansOf (field cfg 15 8) ((im.rg (a + 0x210)).toNat + 2 ^ 32 * (im.rg (a + 0x214)).toNat)
    match planTop (field cfg 18 18) (field cfg 20 19) with
    | none => false
    | some top =>
      decide (field cfg 7 0 ≤ top) && cs.all (fun c => decide (c ≤ top)) &&
      (!bit cfg 17 || (decide (field (im.rg (a + 0x20C)) 7 0 ≤ cs.length) &&
        decide (Nat.gcd cs.length (field (im.rg (a + 0x20C)) 31 24) = 1)))

/-- R182: the PTP parameters of a domain. -/
def DomCfg.rangesOk (d : DomCfg) : Bool :=
  decide (2 ≤ d.announceTimeout ∧ d.announceTimeout ≤ 10 ∧ -4 ≤ d.logSync ∧ d.logSync ≤ 1 ∧ -4 ≤ d.logDelay ∧ d.logDelay ≤ 1)

/-- R52, R164, R182, R629: DRAM capacity, TIME_WAIT, the PTP domains and SESS_IDLE. -/
def Image.timesOk (im : Image) : Bool :=
  decide (8 ≤ im.dramGiB ∧ im.dramGiB ≤ 32) && decide (10 ≤ im.timeWaitS ∧ im.timeWaitS ≤ 3600) && im.domA.rangesOk &&
  im.domB.rangesOk && decide (10 ≤ im.sessIdleS ∧ im.sessIdleS ≤ 3600)

/-- Ranges of register fields that the image loads: S-view address, high and low bit, least and greatest value (R342, R375, R414,
R450, R533, R553, R577, R586). -/
def regLimits : List (Nat × Nat × Nat × Nat × Nat) :=
  [(R.NET_CFG, 31, 24, 5, 255), (R.NET_CFG, 23, 16, 1, 255), (R.NET_CFG, 15, 0, 60, 65535), (R.NET_COST, 31, 22, 32, 1023),
   (R.NET_TIME, 31, 20, 10, 3600), (R.NET_TIME, 19, 12, 1, 255), (R.NET_TIME, 11, 8, 1, 15), (R.NET_TIME, 7, 4, 1, 8),
   (R.NET_REPORT, 7, 0, 1, 255)] ++
  [(R.MSN_CFG, 31, 24, 1, 255), (R.MSN_CFG, 19, 12, 1, 255), (R.MSN_CFG, 11, 0, 6, 4095), (R.MSN_SCHED, 31, 16, 1, 65535),
   (R.MSN_SCHED, 7, 0, 1, 100), (R.MSN_FW, 31, 24, 1, 255), (R.MSN_FW, 23, 20, 1, 15), (R.SHT_WD, 31, 0, 1, 10000)] ++
  [(R.WRP_CFG, 31, 24, 1, 255), (R.WRP_CFG, 23, 8, 1, 10080), (R.WRP_CFG, 7, 0, 30, 60), (R.WRP_CFG2, 31, 24, 10, 255),
   (R.WRP_CFG2, 15, 0, 1, 400), (R.SLV_CFG, 31, 16, 15, 1440), (R.SLV_CFG, 8, 0, 60, 300)] ++
  [(R.BAL_CFG, 31, 16, 1, 1440), (R.BAL_CFG, 15, 8, 0, 100), (R.BAL_CFG, 7, 0, 1, 255), (R.BEM_RET, 31, 24, 24, 168),
   (R.BEM_RET, 23, 12, 1, 3650), (R.BEM_RET, 11, 0, 31, 3650), (R.BEM_RET2, 12, 0, 31, 7300), (R.BEM_CFG, 7, 0, 50, 95)]

/-- Ranges of a radio port's fields, by offset within the port's registers (R295, R299 to R301). LBT_DBM is signed, -120 to -40 dBm. -/
def radioLimits : List (Nat × Nat × Nat × Nat × Nat) :=
  [(0x204, 21, 12, 4, 64), (0x204, 7, 0, 10, 200), (0x208, 31, 24, 136, 216), (0x208, 9, 0, 1, 1000), (0x20C, 15, 8, 1, 40),
   (0x20C, 7, 0, 25, 64)]

/-- A word keeps a field's range. -/
def fieldIn (w : Word) (l : Nat × Nat × Nat × Nat) : Bool :=
  decide (l.2.2.1 ≤ field w l.1 l.2.1 ∧ field w l.1 l.2.1 ≤ l.2.2.2)

/-- A register that the image loads keeps the ranges of its fields; every reset value does. -/
def regRangeOk (a : Nat) (w : Word) : Bool :=
  if a / 0x10000 = 0x06 then
    let o := (a - 0x060000) % 0x400
    radioLimits.all (fun l => decide (l.1 ≠ o) || fieldIn w l.2) &&
      (decide (o ≠ 0x20C) || decide (field w 23 16 = 10 ∨ field w 23 16 = 20))
  else regLimits.all (fun l => decide (l.1 ≠ a) || fieldIn w l.2)

/-- An integer lies in a range. -/
def intIn (x lo hi : Int) : Bool := decide (lo ≤ x ∧ x ≤ hi)

/-- R283, R419: WAKE, and a channel's modulus exponent, estimation and capture period. -/
def EpCfg.rangesOk (e : EpCfg) : Bool :=
  (decide (e.wakeMs = 0) || decide (125 ≤ e.wakeMs ∧ e.wakeMs ≤ 8000 ∧ e.wakeMs % 125 = 0)) &&
  e.chans.all (fun c => decide (6 ≤ c.2.n ∧ c.2.n ≤ 18 ∧ c.2.est ≤ 2 ∧ 1 ≤ c.2.period ∧ c.2.period ≤ 3600))

/-- R460: the ranges of a conversion record. -/
def ConvRec.rangesOk (r : ConvRec) : Bool := intIn r.oe (-6) 9 && decide (1 ≤ r.vq ∧ r.satBand ≤ 10000)

/-- R537: the ranges of a balance node. -/
def BalNode.rangesOk (b : BalNode) : Bool :=
  [1, 2, 3, 4, 5, 6, 10, 12, 15, 20, 30, 60].contains b.period && intIn b.oe (-6) 9 && decide (1 ≤ b.base ∧ b.base ≤ 5) &&
  decide (1 ≤ b.h ∧ b.h ≤ 1000000 ∧ 1 ≤ b.qFloor ∧ 1 ≤ b.clearN ∧ b.clearN ≤ 255) &&
  decide (1 ≤ b.members.length ∧ b.members.length ≤ 4096 ∧ b.segs.length ≤ 16) && b.segs.all (fun g => decide (1 ≤ g.1))

/-- R529: QPP and WIDTH of a legal output. -/
def OutCfg.rangesOk (o : OutCfg) : Bool :=
  match o.mode with
  | .pulse _ _ _ qpp w => decide (1 ≤ qpp ∧ qpp ≤ 4294967295 ∧ 5 ≤ w ∧ w ≤ 500)
  | _ => true

/-- R283, R295, R400, R419, R420, R460, R503, R529, R537, R618, R626: the ranges of what the sections hold decoded. -/
def Image.valuesOk (im : Image) : Bool :=
  im.regs.all (fun x => regRangeOk x.1 x.2) && im.eps.all EpCfg.rangesOk &&
  im.ports.all (fun p => !p.radio || decide (10 ≤ p.connWin ∧ p.connWin ≤ 400 ∧ 3 ≤ p.supervision ∧ p.supervision ≤ 600)) &&
  im.psets.all (fun x => decide (2 ≤ x.2.rocX ∧ x.2.rocX ≤ 255 ∧ x.1 < 2048)) &&
  im.lchans.all (fun l => (l.conv.map ConvRec.rangesOk).getD true) && im.balNodes.all (fun x => decide (x.1 < 65536) && x.2.rangesOk) &&
  im.outputs.all (fun o => decide (o.1 < 8) && o.2.rangesOk) && im.contracts.all (fun c => decide (1 ≤ c.num ∧ c.num ≤ 4095)) &&
  im.parts.all (fun p => decide (p.num < 8 ∧ p.creds.length ≤ 4)) && im.exts.all (fun x => decide (x.entries.length ≤ 16)) &&
  im.hostPorts.all (fun h => decide (h.1 < 4 ∧ h.2.ipv6.length ≤ 2)) && im.zsets.all (fun z => decide (z.1 < 16)) &&
  (!im.compat || decide (1024 ≤ im.ringEntries ∧ im.ringEntries ≤ 65536 ∧ 2 ^ Nat.log2 im.ringEntries = im.ringEntries))

/-- Check 7: every limit (R156). (DESIGN CHOICE, log 40) -/
def Image.limitsOk (im : Image) : Bool :=
  im.levelsOk && im.timesOk && im.valuesOk && im.baseOk && im.nandOk && im.shuttleOk && im.spreadOk && im.chids.all im.chanOk && im.credsOk && im.balOk &&
  im.ports.all im.radioOk && im.restOk

/-! Checks 8 to 10. -/

/-- Check 9 (R84, R307). -/
def Image.pairOk (im : Image) : Bool :=
  im.ports.all (fun p => decide (p.txenInactive = .release)) && im.outputs.all (fun o => decide (o.2.inactive = .release)) &&
  im.fieldBase.isSome

/-- Checks 7 to 10, in order; `vddio` is the measured levels, bit g 1 for 3.3 V. (DESIGN CHOICE, log 40) -/
def checkBody (pairEn : Bool) (vddio : Nat) (im : Image) : Nat :=
  if !im.limitsOk then 0x16
  else if im.vddio % 256 ≠ vddio % 256 then 0x17
  else if pairEn && !im.pairOk then 0x18
  else if im.nand.chMask ≠ 2 ^ im.nand.nCh - 1 then 0x19
  else 0

/-- Checks 1 to 10, in order (R171). (DESIGN CHOICE, log 40) -/
def State.checkAll (s : State) (vddio : Nat) (im : Image) : Nat :=
  let h := checkHead s.otp im
  if h ≠ 0 then h else checkBody s.sys.pairEn vddio im

end Sys2Proof.Machine
end

