-- ==== Sys2Proof/Machine/Islands.lean ====
section
/-!
DEFINITION. Closing and opening islands (03_clocks_islands_ageing.md R102 to R107; 01_architecture.md R42).
-/

namespace Sys2Proof.Machine
open Sys2Proof

/-- The island may be gated in the run state (R88). -/
def State.gateable (s : State) (i : Nat) : Bool :=
  decide (3 ≤ i ∧ i ≤ 6) || decide (8 ≤ i ∧ i ≤ 15) || (decide (i = 21) && !s.sys.pairEn)

/-- The island of a register (R19): a field port's is its group's. -/
def regIsland (a : Nat) : Nat := if a / 0x10000 = 0x06 then 8 + (a - 0x060000) / 0x2000 else blockIsland (a / 0x10000)

/-- The registers of an island take their reset values, and its snapshots and held words are cleared (R6, R10). -/
def State.resetIsl (s : State) (i : Nat) : State :=
  let keep := fun (x : Nat × Option Word) => decide (regIsland (x.1 % 2 ^ 24) ≠ i)
  { s with
      regs := s.regs.filter (fun (x : Nat × Word) => regIsland x.1 ≠ i),
      snap := s.snap.filter keep, heldW := s.heldW.filter keep }

/-- A register field of the image is loaded. -/
def State.loadReg (s : State) (x : Nat × Word) : State := s.setReg x.1 x.2

/-- The register fields that the image gives the registers of an island are loaded; with TIM_CTRL.PREF, the selected domain is the
preferred one (R188). -/
def State.loadRegs (s : State) (i : Nat) : State :=
  match s.sys.image with
  | none => s
  | some im =>
    let base := im.shtRegs ++ im.ports.map (fun (p : PortCfg) => (portBase p.num, BitVec.ofNat 32 (if p.radio then 2 else 1)))
    let s := (base.filter (fun (x : Nat × Word) => regIsland x.1 = i)).foldl State.loadReg s
    let s := (im.regs.filter (fun (x : Nat × Word) => regIsland x.1 = i)).foldl State.loadReg s
    if i = 2 then { s with tim := { s.tim with sel := s.pref } } else s

/-- The step at which an island opens (R107). -/
def openStep (i : Nat) (x : Island) : Nat := if steppable i then x.eff else 0

/-- A closed island as it runs once it is released at its effective step, with its plan in force. -/
def Island.opened (i : Nat) (x : Island) : Island :=
  { x with en := true, closing := false, reopen := false, trans := .idle, cur := openStep i x, goal := openStep i x,
           busy := false, applied := x.offset, lim := x.limit, ramp := false, fell := false, opening := none, forWindow := false }

/-- A closed island is powered, reset, and released at its effective step (R107). Its regulator stands at the planned voltage, or,
where its rail is lower than R114 needs, 25 mV below the rail until the rail has risen; a rail above what R116 asks for is
lowered. (DEDUCED, log 44) -/
def State.openIsl (s : State) (i : Nat) : State :=
  let x := s.isl i
  if x.en || decide (21 < i) then s
  else
    let hi := onHi i
    let y := x.opened i
    let mv := if i = 0 then s.vset i y.cur y.applied else min (s.vset i y.cur y.applied) ((s.clk.rail hi).mv - 25)
    let s := (s.resetIsl i).setIsl i { y with mv := mv }
    ((s.retarget i).trimRail hi).loadRegs i

/-- The image's ports of group `g` that are usable. -/
def State.groupPorts (s : State) (g : Nat) : List Nat :=
  match s.sys.image with
  | none => []
  | some im => (im.ports.map PortCfg.num).filter (fun p => decide (p / 8 = g ∧ p < 64) && nbit s.sys.ports p)

/-- The ports of a group start; bit p of `ok` says whether a radio port's transceiver initialises (R261). (DEDUCED, log 44) -/
def State.startGroup (s : State) (g ok t : Nat) : State :=
  (s.groupPorts g).foldl (fun (s : State) p => (s.setPort p (s.port p).idle).startPort p t (nbit ok p)) s

/-- The cores of island `i`, a cluster. -/
def clusterCores (i : Nat) : List Nat := (upTo 8).map (fun k => 8 * (i - 3) + k)

/-- An island opens in the run state, and its units join (R42, R107). (DEDUCED, log 44) -/
def State.openJoin (s : State) (i ok t : Nat) : State :=
  let s := s.openIsl i
  if 3 ≤ i ∧ i ≤ 6 then
    (((clusterCores i).filter (nbit s.sys.cores)).foldl (fun (s : State) c => s.addCore c) s).serve
  else if 8 ≤ i ∧ i ≤ 15 then s.startGroup (i - 8) ok t
  else s

/-- The voltage that the rail of island `i` needs with the island running (R116). -/
def State.openNeed (s : State) (i : Nat) : Nat := (s.setIsl i ((s.isl i).opened i)).railNeed (onHi i)

/-- The rail of island `i` is settled high enough for the island to open (R114, R117, R118). -/
def State.openReady (s : State) (i : Nat) : Bool := (s.clk.rail (onHi i)).holds (s.openNeed i)

/-- A request to open a closed island: it opens once its rail is high enough, and waits with BUSY set while the rail is raised
(R103, R107, R117). (DEDUCED, log 44) -/
def State.requestOpen (s : State) (i ok t : Nat) : State :=
  if s.openReady i then s.openJoin i ok t
  else
    let r := s.clk.rail (onHi i)
    let s := if r.fail then s else s.pushRail (onHi i) (s.openNeed i)
    s.setIsl i { s.isl i with opening := some ok, busy := true }

/-- The islands that waited for a rail open where it is high enough now. -/
def State.openWaiting (s : State) (hi : Bool) : State :=
  (upTo 22).foldl (fun (s : State) i =>
    match (s.isl i).opening with
    | some ok => if onHi i = hi ∧ !(s.isl i).en then s.requestOpen i ok s.tim.cnt else s
    | none => s) s

/-- AVS_WRITE_SETTLED (R118): the wait after the first write of a rail ends; the next write starts. -/
def execAvsWriteSettled (hi : Bool) (s : State) : Host.Outcome State Fault Refusal :=
  let r := s.clk.rail hi
  match r.queue with
  | [] => .next s
  | mv :: rest =>
    if !s.treadle || !s.clk.avsOn then .next s
    else
      let s := { s with clk := s.clk.setRail hi { mv := mv, fail := false, queue := rest, retries := 0 } }
      let s := match rest with
        | [] => s
        | m :: _ => s.emit (.avs hi m)
      let s := if r.fail then s.railBack hi else s
      .next ((s.advanceRail hi).openWaiting hi)

/-- Step 1 and 2 of R105: accesses are refused from now on, a ramp stops, and the island's functions drain. -/
def State.closeIsl (s : State) (i : Nat) : State :=
  let x := s.isl i
  if !x.en then (if x.opening.isSome then s.setIsl i { x with opening := none, busy := false } else s)
  else if x.closing then s.setIsl i { x with reopen := false }
  else
    let s := s.setIsl i { x.stopRamp with closing := true, busy := true }
    if 3 ≤ i ∧ i ≤ 6 then
      (((clusterCores i).filter (nbit s.sht.coreEn)).foldl (fun (s : State) c => s.withdrawCore c) s)
    else if 8 ≤ i ∧ i ≤ 15 then (upTo 8).foldl (fun (s : State) k => s.drainPort (8 * (i - 8) + k)) s
    else s

/-- The functions of a closing island have drained (R105 step 2). -/
def State.drainedIsl (s : State) (i : Nat) : Bool :=
  if 3 ≤ i ∧ i ≤ 6 then (clusterCores i).all (fun c => !nbit s.sht.running c)
  else if 8 ≤ i ∧ i ≤ 15 then (upTo 8).all (fun k => !(s.port (8 * (i - 8) + k)).en)
  else true

/-- The effect of a write of CKV_ISL_EN (R102, R104, R105, R107): refused whole where it would close an island that may not be
gated. `ok` and `t` are as for `startGroup`. (DESIGN CHOICE, log 23) -/
def State.islEnEff (ok t : Nat) (s : State) (v : Word) : State × Status :=
  let isl := (upTo 22).filter (fun i => i ≠ 0)
  if isl.any (fun i => (s.isl i).en && !bit v i && !s.gateable i) then (s, .denied)
  else
    (isl.foldl (fun (s : State) i =>
      let x := s.isl i
      if !bit v i then s.closeIsl i
      else if x.closing then s.setIsl i { x with reopen := true }
      else if x.en || x.opening.isSome then s
      else s.requestOpen i ok t) s, .ok)

/-- CKV_ISL_EN as it reads (R102). -/
def State.islEn (s : State) : Nat := (upTo 22).foldl (fun (m : Nat) i => if (s.isl i).en then m + 2 ^ i else m) 0

/-- The states last requested for the islands, so that a write for one island leaves the others as they are. (DEDUCED, log 44) -/
def State.islWant (s : State) : Nat :=
  (upTo 22).foldl (fun (m : Nat) i => let x := s.isl i; if (x.en && !x.closing) || x.reopen || x.opening.isSome then m + 2 ^ i else m) 0

/-- ISLAND_CLOSE (R104, R105): requester `r` clears the EN bit of island `i`. -/
def execIslandClose (r : Requester) (i : Nat) (s : State) : Host.Outcome State Fault Refusal :=
  .next (s.writeRow r (0x800000 + R.CKV_ISL_EN) (BitVec.ofNat 32 (setNbit s.islWant i false)) (State.islEnEff 0 s.tim.cnt))

/-- ISLAND_CLOSE_COMPLETE (R105 steps 3 and 4, R107): nothing is in flight any more; an open request that arrived meanwhile is
honoured, with `ok` and `t` as for `startGroup`. -/
def execIslandCloseComplete (i ok t : Nat) (s : State) : Host.Outcome State Fault Refusal :=
  let s := s.reach t
  let x := s.isl i
  if !s.running || !x.closing || !s.drainedIsl i then .next s
  else
    let s := (s.setIsl i x.gate).trimRail (onHi i)
    .next (if x.reopen then s.requestOpen i ok s.tim.cnt else s)

/-- ISLAND_OPEN (R107): requester `r` sets the EN bit of island `i`; `ok` says which radio ports' transceivers initialise. -/
def execIslandOpen (r : Requester) (i ok t : Nat) (s : State) : Host.Outcome State Fault Refusal :=
  let s := s.reach t
  .next (s.writeRow r (0x800000 + R.CKV_ISL_EN) (BitVec.ofNat 32 (setNbit s.islWant i true)) (State.islEnEff ok s.tim.cnt))

end Sys2Proof.Machine
end

