-- ==== Sys2Proof/Machine/Startup.lean ====
section
/-!
DEFINITION. Start-up (04_startup_configuration.md R139 to R174): the phases, the boot record, the mount (R160, R583), the role
decision (R165) and entry to the run state (R166), and staging of a new image (R171).
-/

namespace Sys2Proof.Machine
open Sys2Proof

/-! Shared by the phases. -/

/-- Start-up is in phase `n`. -/
def State.inPhase (s : State) (n : Nat) : Bool := decide (s.sys.st = .start ∧ s.sys.phase = n)

/-- Phase `n` begins. -/
def State.toPhase (s : State) (n : Nat) : State := { s with sys := { s.sys with phase := n } }

/-- START_FAIL with its code and severity (R174). -/
def State.startFail (s : State) (code : Nat) (sev : Sev) : State := s.raise Ev.START_FAIL sev (args := [aCode code])

/-- A failure whose outcome is HALTED, with RSTOUT_N low (R168, R174). -/
def State.halt (s : State) (code : Nat) : State :=
  let s := s.startFail code .fault
  { s with sys := { s.sys with st := .halted, failCode := code, rstout := true } }

/-- Islands open in a list's order. -/
def State.openIsls (s : State) (is_ : List Nat) : State := is_.foldl State.openIsl s

/-! The boot record (R152, R153). -/

/-- Copy 0 is the current boot record copy: it is valid, and copy 1 is not, or has no higher COUNT (R152).
(DESIGN CHOICE, log 34) -/
def Nor.firstIsCurrent (n : Nor) : Bool :=
  match BootRec.read n.copy0, BootRec.read n.copy1 with
  | some a, some b => decide (b.count ≤ a.count)
  | some _, none => true
  | none, _ => false

/-- The current boot record (R152): PREF = A and TRIAL = 0 where no copy is valid. -/
def Nor.boot (n : Nor) : BootRec := (BootRec.read (if n.firstIsCurrent then n.copy0 else n.copy1)).getD BootRec.blank

/-- A boot record write: to the copy that is not current, with COUNT incremented (R152). (DESIGN CHOICE, log 34) -/
def Nor.writeBoot (n : Nor) (pref trial : Bool) (attempts : Nat) : Nor :=
  let b : BootRec := ⟨(n.boot.count + 1) % 2 ^ 32, pref, trial, attempts⟩
  if n.firstIsCurrent then { n with copy1 := b.bytes } else { n with copy0 := b.bytes }

/-- Steps 1 to 3 of R153: the slot to try first. (DEDUCED, log 35) -/
def State.chooseSlot (s : State) : State :=
  let b := s.nor.boot
  if b.trial && decide (b.attempts = 0) then
    { s with nor := s.nor.writeBoot (!b.pref) false 0, sys := { s.sys with slot := !b.pref } }.raise
      Ev.IMAGE_FALLBACK .warning (args := [aCode 0])
  else if b.trial then
    { s with nor := s.nor.writeBoot b.pref true (b.attempts - 1), sys := { s.sys with slot := b.pref } }
  else { s with sys := { s.sys with slot := b.pref } }

/-- The tried slot fails a check (R153 steps 4 and 5): the other slot is tried once, then the part is in RECOVERY, where RSTOUT_N is
released before host port E0 runs (R69, R170). (DEDUCED, log 35) -/
def State.slotFails (s : State) (code : Nat) : State :=
  let b := s.sys.slot
  let s := { s with sys := { s.sys with
    codeA := if b then s.sys.codeA else code, codeB := if b then code else s.sys.codeB, image := none, phase := 2 } }
  let s := s.startFail code .fault
  if s.sys.otherFailed then
    State.openIsl { s with sys := { s.sys with st := .recovery, failCode := code, rstout := false } } 1
  else
    { s with sys := { s.sys with slot := !b, otherFailed := true } }.raise Ev.IMAGE_FALLBACK .warning (args := [aCode code])

/-! Phases 0 to 4. -/

/-- The step a steppable island starts at under the OTP ratchet (R140). -/
def State.bootStep (s : State) (i ofs : Nat) : Nat :=
  if s.vtrim i 3 + ofs ≤ ceilMv i then 3 else ((upTo 13).find? (fun k => s.vtrim i k + ofs ≤ ceilMv i)).getD 12

/-- The Temple ratchet sets the offsets, and each steppable island's step until the end of phase 5 (R133, R140). -/
def State.applyRatchet (s : State) : State :=
  (upTo 22).foldl (fun (s : State) i =>
    let o := Store.get (fun _ => 0) s.otp.ratchet i
    let k := if steppable i then s.bootStep i o else 0
    s.setIsl i { s.isl i with offset := o, applied := o, limit := k, lim := k }) s

/-- The usable ports: a port whose group passed, that passed and is not fused (R144). -/
def Bist.portMask (b : Bist) (fuse : Nat) : Nat :=
  (upTo 64).foldl (fun (m : Nat) p => if nbit fuse p && nbit b.ports p && nbit b.groups (p / 8) then m + 2 ^ p else m) 0

/-- BIST_DONE (R143 to R147): phase 1 ends. (DESIGN CHOICE, log 7) -/
def execBistDone (b : Bist) (s : State) : Host.Outcome State Fault Refusal :=
  .next (
    if s.sys.st ≠ .start ∨ 1 < s.sys.phase then s
    else
      let s := s.toPhase 1
      if !b.otpOk then s.halt 0x01
      else if !b.sysOk then s.halt 0x02
      else
        let s := { s with sys := { s.sys with
          cores := Nat.land s.otp.fuseCore b.cores % 2 ^ 32, ports := b.portMask s.otp.fusePort,
          nands := Nat.land s.otp.fuseNand b.nands % 2 ^ 8, nandOk := Nat.land s.otp.fuseNand b.nands % 2 ^ 8, pens := Nat.land s.otp.fusePen b.pens % 2 ^ 4,
          lanes := Nat.land s.otp.fuseLane b.lanes % 2 ^ 16 } }
        if s.sys.cores = 0 ∨ s.sys.ports = 0 ∨ s.sys.nands = 0 ∨ s.sys.pens = 0 ∨ s.sys.lanes = 0 then s.halt 0x03
        else (s.applyRatchet.toPhase 2).openIsls [20, 19])

/-- DRAM_TRAINING_DONE (R159): the capacity found on each channel in GiB, none where all three attempts failed. -/
def execDramTrainingDone (capA capB : Option Nat) (s : State) : Host.Outcome State Fault Refusal :=
  .next (
    if !s.inPhase 2 || decide (s.sys.dramA ≠ 0) then s
    else match capA, capB with
      | some a, some b => { s with sys := { s.sys with dramA := a, dramB := b } }
      | _, _ => s.halt 0x20)

/-- Clusters with a usable core (R139). -/
def State.clustersUp (s : State) : List Nat := [3, 4, 5, 6].filter (fun i => (clusterCores i).any (nbit s.sys.cores))

/-- IMAGE_VERIFY_DONE (R149, R151, R153, R156): a slot has been read and checked; `norMbit` is the NOR's density, `sfdpOk` says that
the SFDP tables are there and valid. TIM_CNT starts at 0 in phase 3 (R175). (DESIGN CHOICE, log 7) -/
def execImageVerifyDone (norMbit : Nat) (sfdpOk : Bool) (s : State) : Host.Outcome State Fault Refusal :=
  .next (
    if !s.inPhase 2 || decide (s.sys.dramA = 0) then s
    else if norMbit < 2048 then s.halt 0x10
    else
      let s := if s.sys.otherFailed then s
        else
          let s := if !s.sys.xspiSafe && !sfdpOk then s.raise Ev.NOR_SAFE .warning else s
          s.chooseSlot
      match s.nor.slot s.sys.slot with
      | none => s.slotFails 0x11
      | some im =>
        let c := checkHead s.otp im
        if c ≠ 0 then s.slotFails c
        else
          let tim := if (s.isl 2).en then s.tim
            else { Tim.reset with ircAt := if s.clk.irc then some 0 else none, ratio := s.tim.ratio }
          let s := { s with sys := { s.sys with image := some im, phase := 3 }, tim := tim }
          s.openIsls ([2, 17, 7, 16] ++ s.clustersUp))

/-- UNIT_MISSING for each port that the image enables and that is not usable, which is then treated as a port removed while
running (R148, R340). (DEDUCED, log 39) -/
def State.unitsMissing (s : State) (im : Image) : State :=
  ((im.ports.map PortCfg.num).filter (fun p => !nbit s.sys.ports p)).foldl
    (fun (s : State) p => (s.raise Ev.UNIT_MISSING .warning (unit := p)).dropPort p) s

/-- LEGAL_DIGEST against the current seal record (R157). -/
def State.sealCompare (s : State) (im : Image) : State :=
  match s.otp.seals.getLast? with
  | none => (s.setCauseRaw 0).raise Ev.UNSEALED .warning (lasting := true)
  | some d =>
    if d = im.legalDigest then s else (s.setCauseRaw 1).raise Ev.SEAL_MISMATCH .fault (lasting := true)

/-- What the image loads in phase 3: register fields of open islands, and the enables that follow the unit masks. -/
def State.loadImage (s : State) (im : Image) : State :=
  let s := ((upTo 22).filter (fun i => (s.isl i).en)).foldl State.loadRegs s
  { s with
    pen := { s.pen with pipeEn := s.sys.pens }, key := { s.key with laneEn := s.sys.lanes },
    bem := { s.bem with chEn := Nat.land s.sys.nands im.nand.chMask }, bal := { s.bal with en := !im.balNodes.isEmpty } }

/-- Treadle takes up the AVSBus with the image's rail selects: the Vout transition rate once, as 5 mV/us, and then the rail writes
that already wait (R118). -/
def State.avsStart (s : State) (im : Image) : State :=
  let first := fun (hi : Bool) => match (s.clk.rail hi).queue with
    | [] => []
    | mv :: _ => [Out.avs hi mv]
  { s with
    clk := { s.clk with avsOn := true },
    out := s.out ++ [.avsRate im.avsHi 5, .avsRate im.avsLo 5] ++ first true ++ first false }

/-- CONFIG_CHECK (R156 to R158): checks 7 to 10, with the measured VDDIO_Gg levels; after them the seal comparison, the other
causes that are already known, and RSTOUT_N. (DESIGN CHOICE, log 7) -/
def execConfigCheck (vddio : Nat) (s : State) : Host.Outcome State Fault Refusal :=
  .next (match s.sys.image with
    | none => s
    | some im =>
      if !s.inPhase 3 then s
      else
        let c := checkBody s.sys.pairEn vddio im
        if c ≠ 0 then s.slotFails c
        else
          let s := ((s.loadImage im).unitsMissing im).sealCompare im
          let s := if s.sys.dbgEn then s.setCauseRaw 3 else s
          let s := if s.sys.sealClosed then s else s.sealOpens
          let s := s.avsStart im
          { s with sys := { s.sys with rstout := false, phase := 4 } })

/-- REGION_LAYOUT (R159): the DRAM capacity against the SYS section; the regions are placed. (DEDUCED, log 39) -/
def execRegionLayout (s : State) : Host.Outcome State Fault Refusal :=
  .next (match s.sys.image with
    | none => s
    | some im =>
      if !s.inPhase 4 then s
      else if s.sys.dramA ≠ s.sys.dramB ∨ s.sys.dramA + s.sys.dramB ≠ im.dramGiB then s.halt 0x21
      else State.openIsl { s with sys := { s.sys with placed := true, phase := 5 } } 18)

/-! Phase 5: the mount (R160, R556, R568, R583). -/

/-- The targets in use by channel: those present whose parameter page matches, on usable channels (R556). (DEDUCED, log 39) -/
def MountScan.inUse (m : MountScan) (nands : Nat) : List (Nat × Nat) :=
  (m.targets.filter (fun x => nbit nands x.1 && decide (x.1 < 8))).map (fun x =>
    (x.1, (upTo 4).foldl (fun (v : Nat) t => if nbit x.2 t && !m.mismatch.contains (x.1, t) then v + 2 ^ t else v) 0))

/-- Targets and channel states as the mount finds them, and NAND_MISMATCH (R556, R588). -/
def State.mountTargets (s : State) (m : MountScan) : State :=
  let use := m.inUse s.bem.chEn
  let s := { s with bem := { s.bem with
    targets := use.foldl (fun (t : Store Nat) x => Store.put (fun _ => 0) t x.1 x.2) [],
    chans := ((upTo 8).filter (nbit s.bem.chEn)).foldl (fun (t : Store ChSt) n => Store.put (fun _ => ChSt.absent) t n .active) [] } }
  m.mismatch.foldl (fun (s : State) x => s.raise Ev.NAND_MISMATCH .warning (unit := x.1) (args := [aCode x.2])) s

/-- Beam formats the NAND under this unit's identity (R160, R558): the pools are sized over the usable blocks.
(DESIGN CHOICE, log 41) -/
def State.format (s : State) (m : MountScan) : State :=
  let n := s.nandCfg
  let bad := s.nand.bad.foldl (fun (k : Nat) x => k + x.2) 0
  let all := (m.inUse s.bem.chEn).foldl (fun (k : Nat) x => k + popCount 4 x.2 * n.nLun * n.nPlane * n.bpp) 0 - bad
  let slc := fun (g : Nat) => ceilDiv (g * gib) n.slcBytes
  let rest := all - slc 128 - slc 16 - slc 4
  let spare := rest * 4 / 100
  { s with
    nand := { Nand.blank with
      owner := some s.otp.eui, bad := s.nand.bad, archBlocks := rest - spare, spareArch := spare, spareArch0 := spare,
      spareLegal := slc 16, spareLegal0 := slc 16 },
    bem := { s.bem with mounted := true, moves := [] }, sys := { s.sys with formatted := true } }.raise Ev.NAND_FORMATTED .info

/-- Block moves that a power failure interrupted (R568): a victim whose map update is durable is erased. -/
def State.finishMoves (s : State) : State :=
  let ms := s.bem.moves
  ms.foldl (fun (s : State) (m : Move) => if m.mapped then s.eraseBlock m.victim else s) { s with bem := { s.bem with moves := [] } }

/-- What the flush left in the reserves joins the journal ring and the archive, and the reserve is erased (R583).
(DEDUCED, log 113) -/
def State.recoverFlush (s : State) : State :=
  let n := s.nand
  let s := { s with nand := { n with flushLegal := [], flushWarp := [], flushArch := [], flushed := none } }
  let s := if s.sys.legalUnread then s
    else repeatN State.journalOut (n.flushLegal.length / 16 + 1) { s with slv := { s.slv with jbuf := n.flushLegal } }
  let s := { s with slv := { s.slv with jbuf := [] } }
  let s := if s.sysWrites then
      repeatN State.archiveOut (n.flushArch.length + 1) { s with bem := { s.bem with archBuf := n.flushArch, warpBuf := n.flushWarp } }
    else s
  match n.flushed with
  | none => s
  | some true => { s with bem := { s.bem with flushOk := true } }
  | some false =>
    let last := (s.nand.journal.getLast?.map JRec.jseq).getD 0
    { s with bem := { s.bem with shortLeft := 1 } }.raise Ev.FLUSH_SHORT .fault (args := [aIdx last]) (lasting := true)

/-- The archive is not mounted at this start (R756). -/
def State.noArchive (s : State) : State :=
  { s with bem := { s.bem with notMounted := true } }.raise Ev.BEM_RO .warning (lasting := true) |>.journalState

/-- The outcomes of the mount (R160, R174). -/
def State.mount (s : State) (m : MountScan) : State :=
  match s.nand.owner with
  | none =>
    if s.otp.seals = [] then s.format m
    else (((s.noArchive).setCauseRaw 4).startFail 0x30 .fault)
  | some e =>
    if e ≠ s.otp.eui then (((s.noArchive).setCauseRaw 5).startFail 0x32 .fault)
    else
      let s := { s with bem := { s.bem with mounted := true }, sys := { s.sys with legalUnread := !m.legalOk } }
      let s := if m.legalOk then s else (s.setCauseRaw 4).startFail 0x30 .fault
      let s := if m.archOk then s else s.noArchive.startFail 0x31 .warning
      let s := if s.nand.archRo then (s.raise Ev.BEM_RO .warning (lasting := true)).journalState else s
      s.finishMoves.recoverFlush

/-- What Beam finds at the mount: F, and whether LIFE and the legal spare are low already (R565, R571, R575).
(DEDUCED, log 104) -/
def State.mountLevels (s : State) : State :=
  { s with bem := { s.bem with
      cacheF := s.freeF, lifeLow := decide (s.life ≤ 10), spareLow := decide (s.nand.spareLegal * 4 < s.nand.spareLegal0) } }

/-- Temple's record, or the ratchet where there is no valid one (R133), and the limits that hold from now on; MARGIN_EXHAUSTED, which
never ends, is active again (R138). (DEDUCED, log 42) -/
def State.loadTemple (s : State) (ok : Bool) : State :=
  let rec_ := if ok && s.bem.mounted && !s.bem.notMounted then s.nand.temple else none
  let look := fun (l : List (Nat × Nat)) (i : Nat) => ((l.find? (fun x => x.1 = i)).map Prod.snd).getD 0
  let s := (upTo 22).foldl (fun (s : State) i =>
    let x := s.isl i
    match rec_ with
    | some r =>
      let o := max x.offset (look r.offsets i)
      let h := ((r.history.find? (fun y => y.1 = i)).map Prod.snd).getD []
      s.setIsl i { x with offset := o, limit := if steppable i then look r.limits i else 0, history := h }
    | none =>
      let k := if steppable i then ((upTo 13).find? (fun k => s.vtrim i k + x.offset ≤ ceilMv i)).getD 12 else 0
      s.setIsl i { x with limit := k, history := [] }) s
  let s := ((rec_.map TempleRecord.exhausted).getD []).foldl
    (fun (s : State) i => s.raise Ev.MARGIN_EXHAUSTED .fault (unit := i) (lasting := true)) s
  { s with tmp := { s.tmp with hours := (rec_.map TempleRecord.hours).getD 0, hourBase := 0, first := (rec_.map TempleRecord.first).getD 0 } }

/-- BEAM_MOUNT (R140, R160): the mount, Temple's record, the steppable islands to their effective steps, and Temple's start-up
cycle. -/
def execBeamMount (m : MountScan) (s : State) : Host.Outcome State Fault Refusal :=
  .next (
    if !s.inPhase 5 then s
    else
      let s := ((s.mountTargets m).mount m).mountLevels.loadTemple m.templeOk
      let s := (upTo 22).foldl (fun (s : State) i => if steppable i then s.exhausted i (s.isl i) (s.isl i) else s) s
      let s := (upTo 22).foldl (fun (s : State) i => s.retarget i) s
      s.templeStart.toPhase 6)

/-! Phases 6 to 9. -/

/-- LEGAL_REPLAY (R161). -/
def execLegalReplay (s : State) : Host.Outcome State Fault Refusal :=
  .next (if s.inPhase 6 then s.legalReplay.toPhase 7 else s)

/-- WARP_REBUILD (R162, R451): `readable` says whether the system area's Warp checkpoint can be read. -/
def execWarpRebuild (readable : Bool) (s : State) : Host.Outcome State Fault Refusal :=
  .next (if s.inPhase 7 then (s.warpRebuild (readable && s.bem.mounted && !s.bem.notMounted)).toPhase 8 else s)

/-- The pair key-wrapping key and the meter key table (R163, R597, R598, R605); `ok`: the PKWK unwraps. Under the test root the
table starts empty under a test PKWK, and KEYTABLE_FAIL is not raised. (DEDUCED, log 38) -/
def State.loadKeys (s : State) (ok : Bool) : State :=
  let there := s.bem.mounted && !s.bem.notMounted
  let s := { s with key := { s.key with ready := true, debug := s.sys.dbgEn } }
  if s.sys.dbgEn then
    let k : Pkwk := ⟨Config.entropy s.fresh, 1, false⟩
    let s := State.used { s with key := { s.key with pkwk := some k, pgenMax := 1, table := [], tableOk := true } }
    s.raise Ev.DEBUG_ROOT .info
  else
    let s := if there then { s with key := { s.key with pgenMax := s.nand.pgenMax, lastBatch := s.nand.lastBatch } } else s
    match (if ok && there then s.nand.pkwk else none) with
    | some k => { s with key := { s.key with pkwk := some k, table := s.nand.keyCopy, tableOk := true } }
    | none =>
      let s := { s with key := { s.key with pkwk := none, table := [], tableOk := false } }
      (s.raise Ev.KEYTABLE_FAIL .fault (lasting := true)).startFail 0x41 .fault

/-- The domains hold the latest timestamp of the legal journal, or BUILD_TIME (R181). (DEDUCED, log 37) -/
def State.firstOffset (s : State) : State :=
  let ns : Nat := s.slv.jTime.getD ((s.sys.image.map Image.buildTime).getD 0)
  let c := s.tim.cnt
  { s with tim := { s.tim with
    domA := { s.tim.domA with offset := ns * 2 ^ 16, epoch := c, lost := 0 },
    domB := { s.tim.domB with offset := ns * 2 ^ 16, epoch := c, lost := 0 } } }

/-- Entry to phase 9 (R139, R142, R164, R201, R406, R690): zero-crossing reference mode, host link, usable groups with the image's ports, Pair Link; cores released,
Shuttle accepts posts. (DEDUCED, log 37) -/
def State.phaseNine (s : State) (xcvr : Nat) : State :=
  let gs := (upTo 8).filter (fun g => (upTo 8).any (fun k => nbit s.sys.ports (8 * g + k)))
  let s := (s.toPhase 9).openIsls ([1] ++ gs.map (fun g => 8 + g) ++ (if s.sys.pairEn then [21] else []))
  let s := s.setReg R.TIM_CTRL (putField (s.rg R.TIM_CTRL) 9 8 1)
  let s := { s.firstOffset with
    sys := { s.sys with phaseAt := s.tim.cnt },
    sht := { s.sht with accepting := true, coreEn := s.sys.cores, running := s.sys.cores },
    par := { s.par with hbAt := s.tim.cnt, epoch := if s.bem.mounted && !s.bem.notMounted then s.nand.epoch else s.par.epoch } }
  gs.foldl (fun (s : State) g => s.startGroup g xcvr s.tim.cnt) s

/-- KEY_ROOT_DERIVATION (R163, R592): `testOk`: both test signatures check; `tableOk`: the PKWK unwraps; bit p of `xcvr`: the
transceiver of radio port p initialises in phase 9. (DESIGN CHOICE, log 7; DEDUCED, log 38) -/
def execKeyRootDerivation (testOk tableOk : Bool) (xcvr t : Nat) (s : State) : Host.Outcome State Fault Refusal :=
  let s := s.reach t
  .next (
    if !s.inPhase 8 then s
    else if !testOk || !(s.otp.rootOk || s.sys.dbgEn) then s.halt 0x40
    else (s.loadKeys tableOk).phaseNine xcvr)

/-- TIME_WAIT in counts (R164). -/
def State.timeWait (s : State) : Nat := msCounts (1000 * (s.sys.image.map Image.timeWaitS).getD 300)

/-- TIME_WAIT_EXPIRY (R164, R174): no domain has locked within TIME_WAIT from the start of phase 9. -/
def execTimeWaitExpiry (t : Nat) (s : State) : Host.Outcome State Fault Refusal :=
  let s := s.reach t
  .next (if s.inPhase 9 && decide (s.sys.phaseAt + s.timeWait ≤ s.tim.cnt) then (s.startFail 0x50 .warning).startWatch else s)

/-! Phases 10 and 11. -/

/-- The role is decided. (DEDUCED, log 36) -/
def State.decideRole (s : State) (r : Nat) : State := { s with sys := { s.sys with role := r, phase := 11 } }

/-- The peer's heartbeat or claim is there: now, or at an earlier instant of the watch (R165). -/
def State.peerThere (s : State) : Bool :=
  s.sys.peerSeen || (s.par.heard && decide (s.par.peerRole ≠ 0)) || decide (s.par.wire ≠ 0)

/-- ROLE_DECISION (R165, R98): the 40 ms watch of phase 10 ends. The heartbeat of a peer that is itself starting does not make this unit
STANDBY, since units that start together both claim (R714). -/
def execRoleDecision (t : Nat) (s : State) : Host.Outcome State Fault Refusal :=
  let s := s.reach t
  .next (
    if !s.inPhase 10 || decide (s.par.claim ≠ 0) then s
    else if !s.sys.pairEn then s.decideRole 1
    else if s.tim.cnt < s.sys.phaseAt + msCounts 40 then s
    else if s.clk.irc || s.peerThere then s.decideRole 2
    else s.raiseClaim)

/-- Step 6 of R153: a trial image that reaches the run state is confirmed. -/
def State.confirmBoot (s : State) : State :=
  let b := s.nor.boot
  if b.trial && b.pref = s.sys.slot then { s with nor := s.nor.writeBoot s.sys.slot false b.attempts } else s

/-- ZC_MODE takes the image's run-state setting, after the REF of phase 9 (R201). (DEDUCED, log 50) -/
def State.runZcMode (s : State) : State :=
  match s.sys.image with
  | none => s
  | some im => s.setReg R.TIM_CTRL (putField (s.rg R.TIM_CTRL) 9 8 (field (im.rg R.TIM_CTRL) 9 8))

/-- A unit that enters STANDBY has its handoff closed, and a reading message in flight comes back refused (R208). -/
def State.closeHandoff (s : State) : State := State.refuseInbox { s with slv := { s.slv with handoff := false } }

/-- RUN_ENTRY (R166): phase 11; `ms` is the time from t_r in ms. -/
def execRunEntry (ms t : Nat) (s : State) : Host.Outcome State Fault Refusal :=
  let s := s.reach t
  .next (
    if !s.inPhase 11 || decide (s.sys.role = 0) then s
    else
      let s := State.confirmBoot { s.runZcMode with sys := { s.sys with startMs := min 0xFFFFFFFF ms } }
      if s.sys.role = 1 then s.enterActive
      else State.startResync (State.blockAll { s with sys := { s.sys with st := .standby, heddle := false } } s.tim.cnt).closeHandoff)

/-- HALTED_UART_REPORT (R169): once a second, while SEAL reads open. -/
def execHaltedUartReport (s : State) : Host.Outcome State Fault Refusal :=
  .next (if s.sys.st = .halted ∧ !s.sys.sealClosed then s.emit (.uartReport s.sys.failCode s.sys.phase) else s)

/-! Staging (R171). -/

/-- SEQ that a staged image must exceed: the running image's, in RECOVERY the higher of the readable slots (R171). -/
def State.seqFloor (s : State) : Option Nat :=
  match s.sys.st, s.sys.image with
  | .recovery, _ => match s.nor.slotA.map Image.seq, s.nor.slotB.map Image.seq with
    | some a, some b => some (max a b)
    | some a, none => some a
    | none, x => x
  | _, some im => some im.seq
  | _, none => none

/-- Steps 1 to 3 of R171: the fail code; 0 for a pass. (DESIGN CHOICE, log 43) -/
def State.stageCheck (s : State) (vddio : Nat) (im : Image) : Nat :=
  let c := s.checkAll vddio im
  if c ≠ 0 then c
  else if s.sys.st ≠ .recovery ∧ !s.slv.unlock ∧ (s.sys.image.map Image.legalDigest) ≠ some im.legalDigest then 0x1A
  else match s.seqFloor with
    | some q => if im.seq ≤ q then 0x1B else 0
    | none => 0

/-- An image whose header is the one that the bytes of partition `j`'s IMAGE region spell (R154, R171). -/
def State.withHeader (s : State) (j : Nat) (im : Image) : Image :=
  let data := ((s.part j).region 0x01).data
  { im with hdr := ImgHdr.parse (fun a => (Store.get (fun _ => (0 : Byte)) data a).toNat) }

/-- The staging checks take a committed image up (R171): its header and section table are the region's bytes, its sections are as
`im` has them. (DESIGN CHOICE, log 43) -/
def State.takeImage (im : Image) (vddio : Nat) (s : State) (j _len : Nat) : State :=
  let im := s.withHeader j im
  if s.sys.stage = .verifying ∨ s.sys.stage = .writing then s.decided j 0x01 .busy
  else
    let c := s.stageCheck vddio im
    if c ≠ 0 then { s with sys := { s.sys with stage := .refused, stageCode := c } }.decided j 0x01 .refused
    else { s with sys := { s.sys with stage := .writing, stageCode := 0, staged := some im }, slv := { s.slv with unlock := false } }

/-- DP_COMMIT_IMAGE (R171): a commit of the IMAGE region, whose bytes read as `im`; `vddio` as in phase 3. -/
def execDpCommitImage (r : Requester) (im : Image) (vddio : Nat) (s : State) : Host.Outcome State Fault Refusal :=
  .next (s.commitRow r 0x01 (State.takeImage im vddio))

/-- The partition whose IMAGE region the staging holds. (DESIGN CHOICE, log 43) -/
def State.stageOwner (s : State) : Option Nat := (upTo 8).find? (fun j => ((s.part j).region 0x01).taken)

/-- The staging's decision reaches the partition that committed. -/
def State.stageDecided (s : State) (st : Status) : State :=
  match s.stageOwner with
  | none => s
  | some j => s.decided j 0x01 st

/-- STAGE_PROGRAM_DONE (R171 steps 4 and 5): the slot the part does not run from is programmed; `readOk`: it compares equal. -/
def execStageProgramDone (readOk : Bool) (s : State) : Host.Outcome State Fault Refusal :=
  .next (
    if s.sys.stage ≠ .writing ∨ !(s.running || decide (s.sys.st = .recovery)) then s
    else
      let b := !s.sys.slot
      if readOk then
        let nor := (s.nor.setSlot b s.sys.staged).writeBoot b true 3
        let s := { s with nor := nor, sys := { s.sys with stage := .ready, staged := none } }
        (s.raise Ev.IMAGE_STAGED .info).stageDecided .ok
      else
        let left := if s.drawn 1 = 0 then none else s.sys.staged.map (fun (i : Image) => { i with sigOk := false })
        State.stageDecided { s with nor := s.nor.setSlot b left, fresh := s.fresh + 1,
                                    sys := { s.sys with stage := .refused, stageCode := 0x1C, staged := none } } .refused)

end Sys2Proof.Machine
end

