-- ==== Sys2Proof/Machine/Faults.lean ====
section
/-!
DEFINITION. Detected errors, failed units and the EVT and JQD snapshots (20_faults_degradation.md R719, R722 to R727, R732;
13_selvedge_tariffs.md R534).
-/

namespace Sys2Proof.Machine
open Sys2Proof

/-- The part is powered, out of reset and not in its power-fail flush, so that its error detection works. -/
def State.detects (s : State) : Bool := !decide (s.sys.st = .reset ∨ s.sys.st = .flush ∨ s.sys.st = .flushed)

/-! Failed units (R726, R727). -/

/-- A port stops at once: its frame comes back NO_ACK, its queued frames as in a drain, and its nodes move (R727, R340). -/
def State.stopPort (s : State) (p : Nat) : State :=
  let x := s.port p
  if !x.en then s
  else
    let busy := (x.onAir.map Prod.fst).toList ++ (x.ackWait.map Prod.fst).toList
    let s := s.drainPort p
    let s := s.onPort p (fun x => { x with onAir := none, ackWait := none, rx := none, ackOwed := none, rep := none })
    (s.giveAll p (busy.filter (fun (i : TxItem) => decide (i.frame.type ≠ .ack))) .noAck).drained p

/-- A replicated unit fails (R726, R727). -/
def State.failUnit (s : State) (k : UnitKind) (n : Nat) : State :=
  if !s.usable k n then s
  else match k with
    | .core => (s.failCore n).serve
    | .port => (s.stopPort n).unitDown .port n
    | .group => ((unitBits .group n).foldl (fun (s : State) p => s.stopPort p) s).unitDown .group n
    | .lane => s.failLane n
    | .pipe => s.failPipe n
    | .nand => s.failNand n

/-! Handshake channels (R722). -/

/-- FABRIC_PARITY_ERROR (R20, R722): a message on handshake channel `c` arrives with a parity error, in its first transmission or
in a repeat; `serves` is the replicated unit that the channel alone serves, if there is one. (DEDUCED, log 60) -/
def execFabricParityError (c : Nat) (serves : Option (UnitKind × Nat)) (first : Bool) (s : State) :
    Host.Outcome State Fault Refusal :=
  .next (
    if !s.detects then s
    else
      let n := if first then 1 else Store.get (fun _ => 0) s.evt.fabric c + 1
      let s := { s with evt := { s.evt with fabric := Store.put (fun _ => 0) s.evt.fabric c n } }
      if n < 4 then s.cntW (R.EVT_CNT_k + 8)
      else
        let unit := match serves with
          | some (_, u) => u
          | none => 0xFF
        let s := s.raise Ev.FABRIC_FAIL .fault (unit := unit) (lasting := true)
        match serves with
        | some (k, u) => s.failUnit k u
        | none => s.restartReq)

/-! SRAM (R723). -/

/-- A detected error of a replicated unit: at its third within 24 h it fails (R723, R726). (DEDUCED, log 60) -/
def State.thirdFails (s : State) (k : UnitKind) (n t : Nat) : State :=
  let x := s.unitError k n t
  if x.2 then x.1.failUnit k n else x.1

/-- The job in progress in lane `l` runs again on another lane (R608). (DEDUCED, log 79) -/
def State.rerunJob (s : State) (l : Nat) : State :=
  match s.key.waiting l with
  | [] => s
  | j :: r =>
    let best := (s.lanesOn.filter (· ≠ l)).foldl (fun (b : Option Nat) m =>
      match b with
      | none => some m
      | some k => if (s.key.waiting m).length < (s.key.waiting k).length then some m else some k) none
    match best with
    | none => s
    | some m =>
      let jobs := Store.put (fun _ => ([] : List LaneJob)) s.key.jobs l r
      { s with key := { s.key with jobs := Store.put (fun _ => ([] : List LaneJob)) jobs m (s.key.waiting m ++ [j]) } }

/-- The descriptor of pool entry `d` is freed and counted KILLED (R723). (DEDUCED, log 79) -/
def State.killTask (s : State) (d : Nat) : State :=
  let waits := ((s.sht.ready.flatMap (fun (x : Nat × List Task) => x.2)) ++
    (s.sht.delay.flatMap (fun (x : Nat × List (Nat × Task)) => x.2.map Prod.snd))).find? (fun (x : Task) => x.index = d)
  let done := fun (s : State) (x : Task) =>
    (((s.freeTask x).cntS (R.SHT_CNT_k + 36)).raise Ev.TASK_KILLED .warning (args := [aCode x.d.src, aIdx x.d.entry])).serve
  match waits with
  | some x => done (s.dropTask x) x
  | none =>
    match (upTo 32).find? (fun c => match s.holds c with
        | some (x, _) => decide (x.index = d)
        | none => false) with
    | none => s
    | some c => match s.holds c with
      | none => s
      | some (x, _) => done (s.letGo c) x

/-- The SRAM location exists: a replicated unit's is one of a usable unit. -/
def State.hasSram (s : State) (loc : SramLoc) : Bool :=
  match loc with
  | .coreTcm c => s.usable .core c
  | .lane l => s.usable .lane l
  | .pipe k => s.usable .pipe k
  | .reed p => s.usable .port p
  | .cluster n => decide (n < 4)
  | _ => true

/-- PARITY_ERR's SRC: the unit the location belongs to. (DEDUCED, log 139) -/
def SramLoc.unit : SramLoc → Nat
  | .coreTcm c => c
  | .lane l => l
  | .pipe k => k
  | .reed p => p
  | _ => 0xFF

/-- The response of R723 to a detected error at a location at counter value `t`. (DEDUCED, log 76, 139) -/
def State.sramResponse (s : State) (loc : SramLoc) (t : Nat) : State :=
  match loc with
  | .legalOne => s
  | .legalBoth q =>
    State.restartReq { s with slv := { s.slv with jbuf := s.slv.jbuf.filter (fun (r : JRec) => decide (r.jseq < q)) } }
  | .coreTcm c => ((s.watchReset c t).thirdFails .core c t).serve
  | .cluster n => ((clusterCores (3 + n)).foldl (fun (s : State) c => s.resetCore c) s).serve
  | .lane l => (s.rerunJob l).thirdFails .lane l t
  | .pipe k => (s.cntS (R.PEN_CNT_k + 36)).thirdFails .pipe k t
  | .reed p =>
    let s := if (s.port p).rx.isSome then (s.onPort p (fun x => { x with rx := none })).portCnt p 5 else s
    s.thirdFails .port p t
  | .pool d => s.killTask d
  | .neighbour i => { s with net := { s.net with nbrs := s.net.nbrs.filter (fun (x : Nat × Nbr) => x.1 ≠ i) } }
  | .other => s.restartReq

/-- SRAM_PARITY_ERROR (R723): a parity error is detected at a location at counter value `t`. -/
def execSramParityError (loc : SramLoc) (t : Nat) (s : State) : Host.Outcome State Fault Refusal :=
  let s := s.reach t
  .next (
    if !s.detects || !s.hasSram loc then s
    else
      let sev : Sev := if loc = .other then .fault else .warning
      let s := (s.cntS (R.EVT_CNT_k + 4)).raise Ev.PARITY_ERR sev (unit := loc.unit) (args := [aCode loc.code])
      s.sramResponse loc s.tim.cnt)

/-! DRAM (R724). -/

/-- DRAM_CE (R724): a single-bit error on DRAM channel `ch` is corrected at counter value `t`; the event comes at most once an
hour for a channel. -/
def execDramCe (ch t : Nat) (s : State) : Host.Outcome State Fault Refusal :=
  let s := s.reach t
  .next (
    if !s.detects || decide (2 ≤ ch) then s
    else
      let s := s.cntW (R.EVT_CNT_k + 12)
      let due := match s.evt.ceLast.find? (fun (x : Nat × Nat) => x.1 = ch) with
        | some (_, a) => decide (a + hourCounts ≤ s.tim.cnt)
        | none => true
      if due then
        let last := s.evt.ceLast.filter (fun (x : Nat × Nat) => x.1 ≠ ch) ++ [(ch, s.tim.cnt)]
        State.raise { s with evt := { s.evt with ceLast := last } } Ev.DRAM_CE .info (unit := ch)
      else s)

/-- A node's sums are zeroed and its open periods become INCOMPLETE (R724). -/
def State.balLost (s : State) (n : Nat) : State :=
  match s.balNodes.find? (fun (x : Nat × BalNode) => x.1 = n) with
  | none => s
  | some (_, b) =>
    let x := s.balSt n
    let last := x.bins.foldl (fun (m : Nat) (y : BalBin) => max m y.e) (max x.firstBad (s.nextEnd b))
    s.setBal n { x with sPos := 0, sNeg := 0, bins := [], firstBad := last }

/-- What a data-port region held is lost (R724): an OUT result that covers offset `a`, or the written extents. -/
def State.regionLost (s : State) (j code a : Nat) : State :=
  let p := s.part j
  let r := p.region code
  if code = 0x20 then
    let hit := fun (x : Nat × Nat) => decide (x.1 ≤ a ∧ a < x.2)
    s.setPart j { p.setRegion code { r with ext := r.ext.filter (fun x => !hit x) } with
      outBad := p.outBad ++ r.ext.filter hit }
  else s.setPart j (p.setRegion code { r with data := [], ext := [], pages := [] })

/-- The response of R724 to an uncorrectable error in a region. (DEDUCED, log 139) -/
def State.dramResponse (s : State) (d : DramRegion) : State :=
  match d with
  | .legal => s.restartReq
  | .warpRecord ep => s.eccReset ep
  | .warpQueue ch i =>
    let c := s.wch ch
    (s.setWch ch { c with queue := c.queue.eraseIdx i }).cntS (R.WRP_CNT_k + 68)
  | .warpParam => s
  | .balModel => s
  | .balState n => s.balLost n
  | .beamMap => s.restartReq
  | .imageCopy => s.restartReq
  | .keyTable ep => ((s.setKey ep { s.keyOf ep with good := false }).reloadKey ep).1
  | .backlog => { s with par := { s.par with ring := [], peerSync := .none_, serving := none } }
  | .spill q i =>
    let l := Store.get (fun _ => ([] : List PostDesc)) s.sht.spill q
    if i < l.length then
      State.cntS { s with sht := { s.sht with
        spill := Store.put (fun _ => ([] : List PostDesc)) s.sht.spill q (l.eraseIdx i) } } (R.SHT_CNT_k + 36)
    else s
  | .dataPort j code a => s.regionLost j code a
  | .window c => s.emit (.busError c)

/-- The severity of DRAM_UE by region (R724). -/
def DramRegion.sev : DramRegion → Sev
  | .legal => .fault
  | .beamMap => .fault
  | .imageCopy => .fault
  | _ => .warning

/-- DRAM_UE (R724): an uncorrectable error in a region. -/
def execDramUe (d : DramRegion) (s : State) : Host.Outcome State Fault Refusal :=
  .next (
    if !s.detects then s
    else ((s.cntS (R.EVT_CNT_k + 16)).raise Ev.DRAM_UE d.sev (args := [aCode d.code])).dramResponse d)

/-- PATROL_SCRUB (R724): the scrub reads every DRAM word; the errors it finds are DRAM_CE and DRAM_UE. (DEDUCED, log 139) -/
def execPatrolScrub (s : State) : Host.Outcome State Fault Refusal := .next s

/-! The active table (R719, R732). -/

/-- FAULT_HOLD_EXPIRY (R719): momentary FAULT events raised 1 s before counter value `t` leave the active table. -/
def execFaultHoldExpiry (t : Nat) (s : State) : Host.Outcome State Fault Refusal :=
  let s := s.reach t
  .next (s.withEv (s.evCtx.expire s.tim.cnt))

/-- The effect of a write of EVT_ACT_IDX (R732): the entry is snapshotted. -/
def State.actIdxEff (s : State) (v : Word) : State :=
  let i := field v 7 0
  let s := s.setReg R.EVT_ACT_IDX (mergeWrite (s.rg R.EVT_ACT_IDX) v 0xFF)
  { s with evt := { s.evt with snap := (s.evt.active.find? (fun (x : Nat × ActEvt) => x.1 = i)).map (fun x => x.2.ev) } }

/-- EVT_ACT_IDX_WRITE (R732). -/
def execEvtActIdxWrite (r : Requester) (v : Word) (s : State) : Host.Outcome State Fault Refusal :=
  .next (s.writeRow r R.EVT_ACT_IDX v (okEff State.actIdxEff))

/-- The effect of a write of JQD_CARD_IDX (R534): the slot is snapshotted. -/
def State.cardIdxEff (s : State) (v : Word) : State :=
  let i := field v 11 0
  let s := s.setReg R.JQD_CARD_IDX (mergeWrite (s.rg R.JQD_CARD_IDX) v 0xFFF)
  { s with slv := { s.slv with cardSnap := Store.get (fun _ => CardSlot.blank) s.slv.cards i } }

/-- JQD_CARD_IDX_WRITE (R534). -/
def execJqdCardIdxWrite (r : Requester) (v : Word) (s : State) : Host.Outcome State Fault Refusal :=
  .next (s.writeRow r R.JQD_CARD_IDX v (okEff State.cardIdxEff))

end Sys2Proof.Machine
end

