-- ==== Sys2Proof/Machine/HostSess.lean ====
section
/-!
DEFINITION. Host sessions and ports (17_host_link_registers.md): handshakes (R610, R627, R628), session ends (R629), event
queues (R645 to R647), MDIO (R621), links (R655) and the answers made in hardware (R619).
-/

namespace Sys2Proof.Machine
open Sys2Proof

/-! Handshakes (R610, R628). -/

/-- Host sessions can open in this state (R142, R169, R170, R752); on the IRC the host ports are in electrical idle (R98, R174). -/
def State.sessState (s : State) : Bool :=
  !s.clk.irc && (s.running || (decide (s.sys.st = .start) && decide (9 ≤ s.sys.phase)) || decide (s.sys.st = .recovery))

/-- Slots a partition has: one session is admitted in RECOVERY (R170). -/
def State.slotCount (s : State) : Nat := if s.sys.st = .recovery then 1 else 4

/-- The lowest slot of partition `j` that neither a session nor a handshake holds. -/
def State.freeSession (s : State) (j : Nat) : Option Nat :=
  (upTo s.slotCount).find? (fun k =>
    (s.session j k).isNone && !s.hst.handshakes.any (fun (h : Handshake) => decide (h.part = j ∧ h.slot = k)))

/-- HS_DEVICE for a handshake, in its fragments (R610 step 2, R623, R627). (DEDUCED, log 114) -/
def State.hsDevice (s : State) (h : Handshake) : State :=
  let fs := fragments hsDeviceLen
  (fs.foldl (fun (s : State) _ => s.cntW (R.HST_CNT_k + 4)) s).emitAll
    (fs.map (fun f => .hsDevice h.part h.slot h.port h.sid h.nonce s.sys.role s.otp.eui f))

/-- HS_FAIL with a status (R623, R628). -/
def State.hsFails (s : State) (e j : Nat) (st : Status) : State := (s.cntW (R.HST_CNT_k + 4)).emit (.hsFail e j st)

/-- The handshakes without one. -/
def State.dropHs (s : State) (sid : Nat) : State :=
  { s with hst := { s.hst with handshakes := s.hst.handshakes.filter (fun (h : Handshake) => h.sid ≠ sid) } }

/-- HS_HELLO (R628): it opens a handshake answered with HS_DEVICE, or is answered with HS_FAIL; a repeated nonce gets the same
HS_DEVICE. While TRNG_FAIL is active no session opens (R593). -/
def execHsHello (e j cred nonce t : Nat) (s : State) : Host.Outcome State Fault Refusal :=
  let s := s.reach t
  .next (
    if !s.sessState then s
    else
      let s := s.cntW R.HST_CNT_k
      if !s.partTakes j e then s.cntW (R.HST_CNT_k + 16)
      else match s.hst.handshakes.find? (fun (h : Handshake) => decide (h.part = j ∧ h.nonce = nonce)) with
        | some h => s.hsDevice { h with port := e }
        | none =>
          if !s.key.trngOk then s.hsFails e j .denied
          else if 8 ≤ s.hst.handshakes.length then s.hsFails e j .busy
          else match s.freeSession j with
            | none => s.hsFails e j .busy
            | some k =>
              let h : Handshake :=
                { part := j, slot := k, cred := cred, nonce := nonce, sid := s.hst.nextSid, port := e, since := s.tim.cnt, got := [] }
              let s := { s with hst := { s.hst with handshakes := s.hst.handshakes ++ [h], nextSid := s.hst.nextSid + 1 } }
              (s.cntW (R.HST_CNT_k + 32)).hsDevice h)

/-- The role that step 3 of R610 proves: of the credential with that digest, or in RECOVERY the operator's, unless debug keeps
the recovery credential from being read (R170, R598); none where a check fails. MAINTENANCE needs the seal open (R656). -/
def State.hsRole (s : State) (h : Handshake) (proof : Option Nat) : Option Role :=
  if proof.isNone then none
  else if s.sys.st = .recovery then (if s.sys.dbgEn then none else some .operator)
  else match s.sys.image.bind (fun im => im.part h.part) with
    | none => none
    | some pc => match pc.creds[h.cred]? with
      | none => none
      | some c => if proof = some c.digest ∧ (c.role ≠ .maintenance ∨ !s.sys.sealClosed) then some c.role else none

/-- A requester's snapshots and held words are cleared (R10). -/
def State.clearHeld (s : State) (r : Requester) : State :=
  { s with snap := s.snap.filter (fun x => x.1 / 2 ^ 24 ≠ r.key), heldW := s.heldW.filter (fun x => x.1 / 2 ^ 24 ≠ r.key) }

/-- HS_HOST (R610, R627): a fragment of step 3 arrives for handshake `sid`; one that is no fragment of a message of its length is
discarded, and the message is complete once all have arrived. `proof` is the digest of the
host's key, none where its signature (in RECOVERY, its proof by the credential, R611) is not valid. (DESIGN CHOICE, log 7) -/
def execHsHost (sid : Nat) (proof : Option Nat) (f : Frag) (t : Nat) (s : State) : Host.Outcome State Fault Refusal :=
  let s := s.reach t
  let s := if s.sessState then s.cntW R.HST_CNT_k else s
  .next (
    match s.hst.handshakes.find? (fun (h : Handshake) => h.sid = sid) with
    | none => s
    | some h =>
      if !(fragments hsHostLen).contains f || decide (h.since + msCounts 10000 ≤ s.tim.cnt) then s
      else
        let got := if h.got.contains f.idx then h.got else f.idx :: h.got
        if got.length < f.cnt then
          { s with hst := { s.hst with
              handshakes := s.hst.handshakes.map (fun (x : Handshake) => if x.sid = sid then { x with got := got } else x) } }
        else
          let s := s.dropHs sid
          match s.hsRole h proof with
          | none => (s.hsFails h.port h.part .denied).cntW (R.KEY_CNT_k + 12)
          | some r =>
            let x : Session :=
              { role := r, sid := sid, high := none, seen := [], txSeq := 0, port := h.port, subscribed := false, reqHigh := none,
                kept := [], outstanding := [], heard := s.tim.cnt }
            ((s.setSession h.part h.slot (some x)).clearHeld (s.requester h.part h.slot)).send h.part h.slot .hsConfirm)

/-- HANDSHAKE_TIMEOUT (R628): 10 s after its HS_HELLO the handshake ends. -/
def execHandshakeTimeout (sid t : Nat) (s : State) : Host.Outcome State Fault Refusal :=
  let s := s.reach t
  .next (
    match s.hst.handshakes.find? (fun (h : Handshake) => h.sid = sid) with
    | none => s
    | some h => if h.since + msCounts 10000 ≤ s.tim.cnt then s.dropHs sid else s)

/-! Keeping and ending a session (R629). -/

/-- KEEPALIVE (R629). -/
def execKeepalive (d : Dg) (s : State) : Host.Outcome State Fault Refusal := .next (s.takeDgram d).1

/-- CLOSE (R629). -/
def execClose (d : Dg) (s : State) : Host.Outcome State Fault Refusal :=
  let a := s.takeDgram d
  .next (if a.2 then a.1.endSession d.part d.slot else a.1)

/-- SESS_IDLE in counts (R629). -/
def State.sessIdle (s : State) : Nat :=
  match s.sys.image with
  | some im => msCounts (1000 * im.sessIdleS)
  | none => msCounts 120000

/-- SESSION_IDLE_TIMEOUT (R629). -/
def execSessionIdleTimeout (j k t : Nat) (s : State) : Host.Outcome State Fault Refusal :=
  let s := s.reach t
  .next (
    match s.session j k with
    | none => s
    | some x => if x.heard + s.sessIdle ≤ s.tim.cnt then s.endSession j k else s)

/-! Event queues (R645 to R647). -/

/-- EVT_ACK (R647): every record up to and including QSEQ leaves the partition's queue. -/
def execEvtAck (d : Dg) (qseq : Nat) (s : State) : Host.Outcome State Fault Refusal :=
  let a := s.takeDgram d
  .next (
    if !a.2 then a.1
    else
      let p := a.1.part d.part
      let q := p.evq.filter (fun (r : QRec) => laterMod32 r.qseq qseq)
      let past := p.overRaised && !decide (q.length < 3072)
      a.1.setPart d.part { p with evq := q, overRaised := past })

/-- NOTIFY to one session: the oldest records queued, as many as its port takes (R647). (DESIGN CHOICE, log 127) -/
def State.notify (s : State) (j k : Nat) : State :=
  match s.session j k with
  | none => s
  | some x =>
    let n := if s.dgLimit x.port = 8216 then 255 else 31
    let q := (s.part j).evq
    if !x.subscribed || q.isEmpty then s else s.send j k (.notify (q.take n))

/-- SUBSCRIBE (R647): notifications for the session on or off; records already queued are notified at once.
(DESIGN CHOICE, log 127) -/
def execSubscribe (d : Dg) (on : Bool) (s : State) : Host.Outcome State Fault Refusal :=
  let a := s.takeDgram d
  .next (
    if !a.2 then a.1
    else match a.1.session d.part d.slot with
      | none => a.1
      | some x => (a.1.setSession d.part d.slot (some { x with subscribed := on })).notify d.part d.slot)

/-- NOTIFY_TIMER (R647): records are queued, or 1 s has passed without their acknowledgement: NOTIFY to each subscribed session
of the partition. (DESIGN CHOICE, log 127) -/
def execNotifyTimer (j t : Nat) (s : State) : Host.Outcome State Fault Refusal :=
  .next ((upTo 4).foldl (fun s k => s.notify j k) (s.reach t))

/-! MDIO (R621, R651). -/

/-- The effect of a write of HST_MDIO: refused while a frame runs, and for an OP that Clause 22 or Clause 45 does not have.
(DEDUCED, log 28) -/
def State.mdioEff (s : State) (v : Word) : State × Status :=
  if s.hst.mdioBusy then (s, .busy)
  else if field v 29 28 = 2 ∨ (field v 29 28 = 0 ∧ !bit v 30 ∧ bit v 31) then (s, .denied)
  else
    let w := mergeWrite (s.rg R.HST_MDIO) v 0x7FFCFFFF
    let s := s.setReg R.HST_MDIO w
    if bit v 31 then ({ s with hst := { s.hst with mdioBusy := true } }.emit (.mdio w), .ok) else (s, .ok)

/-- MDIO_START (R621): a write of HST_MDIO with BUSY = 1. -/
def execMdioStart (r : Requester) (v : Word) (s : State) : Host.Outcome State Fault Refusal :=
  .next (s.writeRow r (0x800000 + R.HST_MDIO) (v ||| 0x80000000) State.mdioEff)

/-- MDIO_FRAME_DONE (R621): BUSY clears; a READ leaves its data. -/
def execMdioFrameDone (data : Nat) (s : State) : Host.Outcome State Fault Refusal :=
  .next (
    if !s.hst.mdioBusy then s
    else
      let w := s.rg R.HST_MDIO
      let w := if field w 29 28 = 3 then putField w 15 0 (data % 65536) else w
      { s with hst := { s.hst with mdioBusy := false } }.setReg R.HST_MDIO w)

/-! Host ports (R618, R619, R655). -/

/-- A host port is enabled and runs: the HST island is open and the source is REFCLK; in RECOVERY only E0 runs (R98, R139, R170). -/
def State.hostPortOn (s : State) (e : Nat) : Bool := s.sessState && (s.hostPort e).isSome

/-- HOST_LINK_CHANGE (R655): an enabled host port loses or regains link. (DEDUCED, log 119) -/
def execHostLinkChange (e : Nat) (up : Bool) (s : State) : Host.Outcome State Fault Refusal :=
  let old := Store.get (fun _ => false) s.hst.link e
  .next (
    if !s.hostPortOn e || old == up then s
    else
      let s := { s with hst := { s.hst with link := Store.put (fun _ => false) s.hst.link e up } }
      if !up then s.raise Ev.HOST_LINK_DOWN .warning (unit := e) (lasting := true)
      else if s.active Ev.HOST_LINK_DOWN (fun x => decide (x.unit = e)) then
        (s.endEv Ev.HOST_LINK_DOWN (fun x => decide (x.unit = e))).raise Ev.HOST_LINK_UP .info (unit := e)
      else s)

/-- HOST_ARP_ND_ECHO (R619): a frame with VLAN tag `vlan` asking one of the port's addresses is answered in hardware. -/
def execHostArpNdEcho (e : Nat) (vlan : Option Nat) (s : State) : Host.Outcome State Fault Refusal :=
  let tagged := match s.hostPort e with
    | some c => decide (c.vlan = vlan)
    | none => vlan.isNone
  .next (if s.hostPortOn e && tagged then s.emit (.netReply e) else s)

end Sys2Proof.Machine
end

