-- ==== Sys2Proof/Machine/Layouts.lean ====
section
/-!
DEFINITION. Byte layouts of what hosts read and write: Warp records and entries (R418 to R422), balance records (R548), job
results (R483, R680), tariff cards (R499, R670), recompute input (R479) and meter images (R674).
-/

namespace Sys2Proof.Machine
open Sys2Proof

/-- `n` bytes at an offset as a little-endian number. -/
def numAt (bs : List Nat) (off n : Nat) : Nat := leNat ((bs.drop off).take n)

/-- `n` bytes at an offset as a signed little-endian number. -/
def intAt (bs : List Nat) (off n : Nat) : Int := ofTwos (8 * n) (numAt bs off n)

/-- A timestamp of R17 at an offset, in ns since the PTP epoch. -/
def tsAt (bs : List Nat) (off : Nat) : Nat := tsUnpack (numAt bs off 10)

/-- Padded with zeros to `n` bytes. -/
def padTo (n : Nat) (bs : List Nat) : List Nat := (bs ++ List.replicate (n - bs.length) 0).take n

/-! Warp (R418, R419, R422). -/

/-- An entry as 64 bytes; KIND 5 for an aggregate of the archive (R422, R578). -/
def Entry.bytes (e : Entry) (agg : Bool) : List Nat :=
  leBytes 4 e.ch ++ leBytes 4 e.ridx ++ leBytes 10 (tsPack e.capture) ++ leBytes 2 e.flags ++ leBytes 4 (min 0xFFFFFFFF e.gaplen) ++
    leBytes 8 e.totF ++ leBytes 8 e.totR ++ leBytes 4 (toTwos 32 e.m0) ++ leBytes 4 (toTwos 32 e.m1) ++
    leBytes 4 (toTwos 32 e.m2) ++ [e.disp % 256, if agg then 5 else e.kind.code, 0, 0] ++ leBytes 8 e.jseq

/-- CCFG of a channel block (R419). -/
def Chan.ccfg (c : Chan) : Nat :=
  (packWord [(31, 1, b2n c.en), (30, 1, b2n c.raw), (28, 2, c.est), (23, 5, c.n), (12, 11, c.pset), (0, 12, c.period)]).toNat

/-- STATE of a channel block (R419): GAP_OPEN while the held chain is not empty. -/
def Chan.stateByte (c : Chan) : Nat :=
  b2n c.inFlight + 2 * b2n (!c.held.isEmpty) + 4 * b2n c.veeHold + 8 * b2n c.legalHold + 16 * b2n c.hourDirty +
    32 * b2n c.armed + 64 * min 3 c.rejRun

/-- A channel block as 124 bytes (R419). -/
def Chan.bytes (c : Chan) : List Nat :=
  leBytes 4 c.ccfg ++ leBytes 4 c.lastIdx ++ leBytes 8 c.totF ++ leBytes 8 c.totR ++ leBytes 10 (tsPack c.lastTime) ++
    leBytes 2 c.lastFlags ++ leBytes 4 c.handIdx ++ [c.disp % 256, c.stateByte] ++ leBytes 2 (min 0xFFFF c.profDays) ++
    leBytes 4 (min 0xFFFFFFFF (c.rate.getD 0)) ++ leBytes 4 (min 0xFFFFFFFF c.hourAcc) ++
    (upTo 72).map (fun i => Store.get (fun _ => 0) c.profile i % 256)

/-- EHDR of a record (R418). -/
def EpRec.ehdr (r : EpRec) (ep : Nat) : Nat :=
  (packWord [(31, 1, b2n r.valid), (29, 2, r.cls), (27, 2, r.channels - 1), (21, 6, r.eflags), (0, 20, ep)]).toNat

/-- A record as 512 bytes (R418). -/
def recBytes (r : EpRec) (ep : Nat) (cs : List Chan) : List Nat :=
  leBytes 4 (r.ehdr ep) ++ leBytes 10 (tsPack r.lastRx) ++ [0, 0] ++ cs.flatMap Chan.bytes

/-! Balance records (R548). -/

/-- A balance record as 48 bytes. -/
def BalRec.bytes (r : BalRec) : List Nat :=
  leBytes 2 r.node ++ leBytes 2 r.flags ++ leBytes 4 r.e ++ leBytes 8 (toTwos 64 r.inp) ++ leBytes 8 (toTwos 64 r.out) ++
    leBytes 8 (toTwos 64 r.dinv) ++ leBytes 8 (toTwos 64 r.resid) ++ leBytes 4 (toTwos 32 r.x) ++ leBytes 2 r.estPct ++ [0, 0]

/-! Recompute jobs (R479, R483, R680). -/

/-- The six words of PEN_JOB (R483). -/
def Job.words (x : Job) : List Nat :=
  [(packWord [(28, 4, x.st.code), (24, 4, b2n x.host), (0, 8, x.code)]).toNat, x.recs % 2 ^ 32, x.recs / 2 ^ 32 % 2 ^ 32,
    min 0xFFFFFFFF x.mism, min 0xFFFFFFFF x.skipped, min 0xFFFFFFFF x.oor]

/-- A per-channel result as 64 bytes (R680). -/
def JobSum.bytes (x : JobSum) : List Nat :=
  leBytes 4 x.ch ++ leBytes 4 (min 0xFFFFFFFF x.oor) ++ leBytes 8 x.recs ++ leBytes 8 x.qFM ++ leBytes 8 x.qRM ++
    leBytes 8 x.qFE ++ leBytes 8 x.qRE ++ leBytes 4 (min 0xFFFFFFFF x.mism) ++ leBytes 4 x.firstMism ++
    leBytes 2 tableVer ++ [x.mode, 0, 0, 0, 0, 0]

/-- One 48-byte HOST record (R479). -/
def hostRecAt (bs : List Nat) : HostRec :=
  { ch := numAt bs 0 4, ridx := numAt bs 4 4, dvF := numAt bs 8 8, dvR := numAt bs 16 8, m0 := intAt bs 24 4,
    m1 := intAt bs 28 4, m2 := intAt bs 32 4, cls := numAt bs 36 1, n := numAt bs 37 1 }

/-- The HOST records of a committed region. -/
def hostRecs (bs : List Nat) : List HostRec := (upTo (bs.length / 48)).map (fun i => hostRecAt (bs.drop (48 * i)))

/-! Tariff cards (R499). -/

/-- A DST rule at an offset. -/
def dstAt (bs : List Nat) (off : Nat) : DstRule := ⟨numAt bs off 1, numAt bs (off + 1) 1, numAt bs (off + 2) 1, numAt bs (off + 3) 2⟩

/-- A profile at an offset: an N above 16 gives 17 entries, which CARD_FORMAT refuses. -/
def profileAt (bs : List Nat) (off : Nat) : List (Nat × Nat) :=
  (upTo (min 17 (numAt bs off 1))).map (fun i => (numAt bs (off + 4 + 3 * i) 2, numAt bs (off + 6 + 3 * i) 1))

/-- A card body (R499). -/
def parseCard (bs : List Nat) : CardBody :=
  { cver := numAt bs 0 2, contract := numAt bs 2 2, cardId := numAt bs 4 4, actAt := tsAt bs 8, demandMin := numAt bs 0x12 1,
    nrates := numAt bs 0x13 1, mdReset := numAt bs 0x14 1, nseasons := numAt bs 0x15 1, stdOfs := intAt bs 0x16 2,
    dstOfs := numAt bs 0x18 1, nhol := numAt bs 0x19 1, dstStart := dstAt bs 0x1A, dstEnd := dstAt bs 0x20,
    holDt := numAt bs 0x26 1,
    seasons := (upTo (min 4 (numAt bs 0x15 1))).map (fun i =>
      ⟨numAt bs (0x30 + 12 * i) 1, numAt bs (0x31 + 12 * i) 1, (upTo 7).map (fun d => numAt bs (0x32 + 12 * i + d) 1)⟩),
    holidays := (upTo (min 32 (numAt bs 0x19 1))).map (fun i =>
      (numAt bs (0x60 + 4 * i) 2, numAt bs (0x62 + 4 * i) 1, numAt bs (0x63 + 4 * i) 1)),
    profiles := (upTo 16).map (fun i => profileAt bs (0xE0 + 52 * i)),
    bytes := bs.take 1056 }

/-! Meter images (R674). -/

/-- A meter image: CAMPAIGN, image identifier, SIZE, image and target endpoints; none where a length is out of range. -/
def parseMeterImage (bs : List Nat) : Option (Nat × List Nat × Nat × List Nat × List Nat) :=
  let num := numAt bs 0 2
  let idLen := numAt bs 2 2
  let size := numAt bs 4 4
  let count := numAt bs 8 4
  if num = 0 ∨ idLen = 0 ∨ 48 < idLen ∨ size = 0 ∨ 31 * 1048576 < size ∨ count = 0 ∨ 65536 < count ∨
      bs.length < 0x40 + 4 * count + size then none
  else some (num, (bs.drop 0x10).take idLen, size, (bs.drop (0x40 + 4 * count)).take size,
    (upTo count).map (fun i => numAt bs (0x40 + 4 * i) 4))

end Sys2Proof.Machine
end

