-- ==== Sys2Proof/Machine/Objects.lean ====
section
/-!
DEFINITION. Host objects (18_host_objects_roles.md R660 to R682) and the commits that hand work to consumers: cards (R670,
R671), recompute jobs (R679) and meter images (R674, R675).
-/

namespace Sys2Proof.Machine
open Sys2Proof

/-! Identifiers (R665). -/

/-- The values that an identifier byte selects out of 0 to n - 1: all of them for 0xFF; none out of range. -/
def sel (b n : Nat) : Option (List Nat) := if b = 0xFF then some (upTo n) else if b < n then some [b] else none

/-- The objects 2 x tariff + direction that D and E select, in ascending order of D, then E. (DESIGN CHOICE, log 98) -/
def selObjs (o : ObjReq) : Option (List Nat) :=
  match sel (o.b 3) 8, sel (o.b 4) 2 with
  | some ds, some es => some (ds.flatMap (fun d => es.map (fun e => 2 * d + e)))
  | _, _ => none

/-- Bytes D, E and F are all 0. (DEDUCED, log 122) -/
def ObjReq.plain (o : ObjReq) : Bool := decide (o.b 3 = 0 ∧ o.b 4 = 0 ∧ o.b 5 = 0)

/-- A GET that names an endpoint: scope first (R659), then `f` with it. -/
def State.epGet (s : State) (o : ObjReq) (cls : Nat) (i : Item) (f : State → Nat → List Nat → State × Option (Status × List Nat)) :
    State :=
  s.objRun o cls i (fun s _ arg =>
    match s.epScope o.dg.part o.target with
    | .ok => f s o.target arg
    | st => (s, some (st, [])))

/-! Legal objects (R488, R664, R666). -/

/-- A total as a LEGAL_TOTAL result: VALUE (8), ROLL (2), 0 (6), EST (8). -/
def Total.object (t : Total) : List Nat := leBytes 8 t.value ++ leBytes 2 t.roll ++ [0, 0, 0, 0, 0, 0] ++ leBytes 8 t.est

/-- The bytes of each selected object of each selected channel, in ascending order of B, then D, then E. -/
def State.legalObjs (s : State) (o : ObjReq) (f : LChan → Nat → List Nat) : State × Option (Status × List Nat) :=
  match sel (o.b 1) 4, selObjs o with
  | some cs, some objs =>
    if o.b 5 ≠ 0 then (s, some (.unmapped, []))
    else (s, some (.ok, cs.flatMap (fun c => objs.flatMap (fun k => f (s.lch (mkChid o.target c)) k))))
  | _, _ => (s, some (.unmapped, []))

/-- GET_LEGAL_TOTAL (R488). -/
def execGetLegalTotal (o : ObjReq) (s : State) : Host.Outcome State Fault Refusal :=
  .next (s.epGet o 0x01 .legal (fun s _ _ => s.legalObjs o (fun c k => (c.total k).object)))

/-- GET_MAX_DEMAND (R664). -/
def execGetMaxDemand (o : ObjReq) (s : State) : Host.Outcome State Fault Refusal :=
  .next (s.epGet o 0x02 .legal (fun s _ _ => s.legalObjs o (fun c k => (c.md k).bytes)))

/-- GET_LEGAL_BLOCK (R664): per channel its status and its 384-byte block. -/
def execGetLegalBlock (o : ObjReq) (s : State) : Host.Outcome State Fault Refusal :=
  .next (s.epGet o 0x03 .legal (fun s ep _ =>
    match sel (o.b 1) 4 with
    | none => (s, some (.unmapped, []))
    | some cs =>
      if !o.plain then (s, some (.unmapped, []))
      else (s, some (.ok, cs.flatMap (fun c =>
        let x := s.lch (mkChid ep c)
        leBytes 4 (b2n x.held + 2 * b2n x.holdRoll) ++ blockBytes x.totals x.mds)))))

/-! Warp, archive, balance, nodes (R664, R668). -/

/-- GET_WARP_RECORD (R664): the record of R418. -/
def execGetWarpRecord (o : ObjReq) (s : State) : Host.Outcome State Fault Refusal :=
  .next (s.epGet o 0x10 .data (fun s ep _ =>
    if o.b 1 ≠ 0 ∧ o.b 1 ≠ 0xFF ∨ !o.plain then (s, some (.unmapped, []))
    else (s, some (.ok, recBytes (s.epRec ep) ep ((upTo 4).map (fun c => s.wch (mkChid ep c)))))))

/-- Archived records that a read may return: none from an archive that is not mounted (R756); one that a discard took out of the
catalogue may still be returned or not, as `old` says (R576). (DESIGN CHOICE, log 109) -/
def State.readable (s : State) (old : Bool) : List ArchRec :=
  if !s.bem.mounted || s.bem.notMounted then []
  else (s.nand.archive ++ s.bem.archBuf).filter (fun r => !r.dropped || old)

/-- An entry goes into its place by channel, then index. -/
def insEntry (x : Bool × Entry) : List (Bool × Entry) → List (Bool × Entry)
  | [] => [x]
  | y :: r => if y.2.ch < x.2.ch ∨ (y.2.ch = x.2.ch ∧ y.2.ridx ≤ x.2.ridx) then y :: insEntry x r else x :: y :: r

/-- The entries of channels `cs` captured in [a, b], with whether each is an aggregate, in ascending order of channel and index;
with every version, or each index with its latest EDIT in place of what it supersedes (R579, R668). -/
def archEntries (rs : List ArchRec) (st : Option Stream) (cs : List Chid) (a b : Nat) (all : Bool) : List (Bool × Entry) :=
  let pick := fun (r : ArchRec) => match r.data with
    | .entry e => if e.ch ∈ cs ∧ !r.lost then some (r.stream, e) else none
    | _ => none
  let es := rs.filterMap pick
  let edit := fun (e : Entry) => ((es.filter (fun x => decide (x.1 = .edit ∧ x.2.ch = e.ch ∧ x.2.ridx = e.ridx))).getLast?).map Prod.snd
  let hits := es.filter (fun x => (match st with
    | none => true
    | some k => decide (x.1 = k)) && decide (a ≤ x.2.capture ∧ x.2.capture ≤ b))
  let out := hits.map (fun x =>
    if all || decide (x.1 = .fastMin) then (decide (x.1 = .fastMin), x.2)
    else match edit x.2 with
      | some e => (false, e)
      | none => (false, x.2))
  (if all then out else out.eraseDups).foldl (fun l x => insEntry x l) []

/-- Records in range that Beam cannot read (R668, R725). -/
def archOmitted (rs : List ArchRec) (st : Option Stream) (cs : List Chid) (a b : Nat) : Nat :=
  (rs.filter (fun r => r.lost && (match st with
    | none => true
    | some k => decide (r.stream = k)) && (match r.data with
    | .entry e => decide (e.ch ∈ cs ∧ a ≤ e.capture ∧ e.capture ≤ b)
    | _ => false))).length

/-- GET_ARCHIVE (R668): ARG holds FROM, TO and VERSIONS; D is a stream code. -/
def execGetArchive (o : ObjReq) (s : State) : Host.Outcome State Fault Refusal :=
  .next (s.epGet o 0x11 .data (fun s ep arg =>
    match sel (o.b 1) 4, sel (o.b 3) 6 with
    | some cs, some ds =>
      if o.b 4 ≠ 0 ∨ o.b 5 ≠ 0 then (s, some (.unmapped, []))
      else if arg.length ≠ 21 then (s, some (.badRequest, []))
      else
        let st : Option Stream := match ds with
          | [0] => some .interval
          | [1] => some .fastRaw
          | [2] => some .fastMin
          | [3] => some .day
          | [4] => some .balance
          | [5] => some .edit
          | _ => none
        let rs := s.readable (decide (s.drawn 1 = 1))
        let s := s.used
        let chs := cs.map (mkChid ep)
        let es := archEntries rs st chs (tsAt arg 0) (tsAt arg 10) (decide (numAt arg 20 1 = 1))
        let obis := (upTo 4).flatMap (fun c => match s.sys.image.bind (fun im => im.chan (mkChid ep c)) with
          | some cc => padTo 6 cc.obis
          | none => List.replicate 6 0)
        (s, some (.ok, leBytes 8 es.length ++ leBytes 4 (archOmitted rs st chs (tsAt arg 0) (tsAt arg 10)) ++ [0, 0, 0, 0] ++
          obis ++ es.flatMap (fun x => x.2.bytes x.1)))
    | _, _ => (s, some (.unmapped, []))))

/-- Balance records of a node that end in [a, b] (R668). -/
def balIn (rs : List ArchRec) (n a b : Nat) (lost : Bool) : List BalRec :=
  rs.filterMap (fun r => match r.data with
    | .balance x => if x.node = n ∧ a ≤ x.e * 60 * second ∧ x.e * 60 * second ≤ b ∧ r.lost = lost then some x else none
    | _ => none)

/-- GET_BALANCE (R668). -/
def execGetBalance (o : ObjReq) (s : State) : Host.Outcome State Fault Refusal :=
  .next (s.objRun o 0x12 .balance (fun s _ arg =>
    match s.nodeScope o.dg.part o.target with
    | .ok =>
      if o.b 1 ≠ 0 ∨ !o.plain then (s, some (.unmapped, []))
      else if arg.length ≠ 20 then (s, some (.badRequest, []))
      else
        let rs := s.readable (decide (s.drawn 1 = 1))
        let xs := balIn rs o.target (tsAt arg 0) (tsAt arg 10) false
        let n := (balIn rs o.target (tsAt arg 0) (tsAt arg 10) true).length
        (s.used, some (.ok, leBytes 8 xs.length ++ leBytes 4 n ++ [0, 0, 0, 0] ++ xs.flatMap BalRec.bytes))
    | st => (s, some (st, []))))

/-- GET_NODE (R664): state (1), home port (1), HOPS (1), 0 (1) and route cost (4); the widths are the model's choice.
(DESIGN CHOICE, log 121) -/
def execGetNode (o : ObjReq) (s : State) : Host.Outcome State Fault Refusal :=
  .next (s.epGet o 0x80 .data (fun s ep _ =>
    if o.b 1 ≠ 0 ∨ !o.plain then (s, some (.unmapped, []))
    else match s.epCfg ep with
      | none => (s, some (.unmapped, []))
      | some c =>
        let n := s.node c.eui
        let st : Nat := match n.st with
          | .unjoined => 0
          | .joined => 1
          | .rediscover => 2
          | .unreachable => 3
        (s, some (.ok, [st, n.home, n.route.length + 1, 0] ++ leBytes 4 n.cost))))

/-! Day records, proofs and seals (R516 to R518, R677, R678). -/

/-- The archived day record of an endpoint and close. -/
def State.dayRec (s : State) (ep close : Nat) : Option DayRec :=
  (s.readable false).findSome? (fun r => match r.data with
    | .day d => if d.ep = ep ∧ d.close = close ∧ !r.lost then some d else none
    | _ => none)

/-- GET_DAY_RECORD (R664): ARG holds the day close T. (DEDUCED, log 122) -/
def execGetDayRecord (o : ObjReq) (s : State) : Host.Outcome State Fault Refusal :=
  .next (s.epGet o 0x20 .dayRecord (fun s ep arg =>
    if o.b 1 ≠ 0 ∨ !o.plain then (s, some (.unmapped, []))
    else if arg.length ≠ 10 then (s, some (.badRequest, []))
    else match s.dayRec ep (tsAt arg 0 / second) with
      | some d => (s, some (.ok, d.bytes))
      | none => (s, some (.noRecord, []))))

/-- The leaves of a close, by endpoint, as the journal holds them (R517). -/
def State.leavesOf (s : State) (close : Nat) : List (Nat × Nat) :=
  sortLeaves (s.wholeJournal.filterMap (fun (r : JRec) => match r.body with
    | .dayLeaf c ep leaf => if c = close then some (ep, leaf) else none
    | _ => none))

/-- Sibling hashes from leaf to root; an unpaired node has none (R517, R518). -/
def proofPath : Nat → List Nat → Nat → List Nat
  | 0, _, _ => []
  | n + 1, ls, i =>
    if ls.length ≤ 1 then []
    else
      let sib := if i % 2 = 0 then ls[i + 1]? else ls[i - 1]?
      sib.toList ++ proofPath n (treeLevel ls) (i / 2)

/-- The seal of a close. -/
def State.sealOf (s : State) (close : Nat) : Option (SealHdr × Nat) := s.nand.seals.find? (fun x => x.1.close = close)

/-- A day close that is still to be sealed. (DEDUCED, log 122) -/
def State.unsealed (s : State) (close : Nat) : Bool :=
  s.slv.days.any (fun d => d.close = close) || s.slv.seals.any (fun d => d.close = close)

/-- PROOF (R677): an inclusion proof for an endpoint and a close, from the archived record or from one that the host supplies
(R518). (DEDUCED, log 122) -/
def execProof (o : ObjReq) (s : State) : Host.Outcome State Fault Refusal :=
  .next (s.epGet o 0x20 .dayRecord (fun s ep arg =>
    if o.b 1 ≠ 0 ∨ !o.plain then (s, some (.unmapped, []))
    else if arg.length < 10 then (s, some (.badRequest, []))
    else
      let close := tsAt arg 0 / second
      match s.sealOf close with
      | none => (s, some (if s.unsealed close then .busy else .noRecord, []))
      | some (h, sig) =>
        let ls := s.leavesOf close
        let i := (ls.findIdx? (fun x => x.1 = ep)).getD ls.length
        let leaf := (ls[i]?).map Prod.snd
        let bytes := match s.dayRec ep close with
          | some d => some d.bytes
          | none => if 10 < arg.length then some (arg.drop 10) else none
        match leaf, bytes with
        | some l, some bs =>
          if Config.shake256 (0 :: bs) ≠ l then (s, some (.noRecord, []))
          else
            let sibs := proofPath 20 (ls.map Prod.snd) i
            (s, some (.ok, leBytes 4 bs.length ++ leBytes 4 i ++ leBytes 4 ls.length ++ [sibs.length, 0, 0, 0] ++ bs ++
              sibs.flatMap (beBytes 32) ++ h.bytes ++ beBytes 29792 sig))
        | _, _ => (s, some (.noRecord, []))))

/-- GET_SEAL (R678). -/
def execGetSeal (o : ObjReq) (s : State) : Host.Outcome State Fault Refusal :=
  .next (s.objRun o 0x21 .dayRecord (fun s _ arg =>
    if o.b 1 ≠ 0 ∨ !o.plain then (s, some (.unmapped, []))
    else if arg.length ≠ 10 then (s, some (.badRequest, []))
    else match s.sealOf (tsAt arg 0 / second) with
      | some (h, sig) => (s, some (.ok, h.bytes ++ beBytes 29792 sig))
      | none => (s, some (.noRecord, []))))

/-! Cards (R670 to R672). -/

/-- GET_CARD (R672). -/
def execGetCard (o : ObjReq) (s : State) : Host.Outcome State Fault Refusal :=
  .next (s.objRun o 0x30 .cardRead (fun s _ arg =>
    let j := o.dg.part
    if o.b 1 ≠ 0 ∨ o.b 3 ≠ 0 ∨ o.b 4 ≠ 0 then (s, some (.unmapped, []))
    else if o.b 5 = 0xFF then
      let c := (s.part j).lastCard.getD (0, 0, 0)
      (s, some (.ok, [c.1, c.2.1] ++ leBytes 2 c.2.2))
    else if o.b 5 ≠ 0 then (s, some (.unmapped, []))
    else if !s.contractScope j o.target then (s, some (.denied, []))
    else if arg.length ≠ 4 then (s, some (.badRequest, []))
    else
      let all := decide (s.sys.image.bind (fun im => (im.part j).map PartCfg.scope) = some .all)
      match (s.cardsOf o.target).find? (fun (x : Nat × CardSlot) => x.2.body.cardId = numAt arg 0 4) with
      | some (i, c) => (s, some (.ok, leBytes 2 i ++ [c.st.code, c.lastCode] ++ leBytes 10 (tsPack c.body.actAt) ++ c.body.bytes))
      | none => (s, some (if all then .unmapped else .denied, []))))

/-- The card message in a committed CARD region (R670). -/
def parseMsg (j : Nat) (bs : List Nat) : Option CardMsg :=
  let role := numAt bs 1 1
  let slot := numAt bs 2 2
  let body := bs.drop 8
  let key := Config.shake256 (body.take 64)
  match numAt bs 0 1 with
  | 1 => some (.stage j (parseCard body))
  | 2 => some (.sign j slot role key body)
  | 3 => some (.withdraw j slot role key)
  | _ => none

/-- The contract of the card that a message names, from the body or from SLOT (R671). -/
def State.msgContract (s : State) (m : CardMsg) : Nat :=
  match m with
  | .stage _ b => b.contract
  | .sign _ i _ _ _ => (s.card i).body.contract
  | .withdraw _ i _ _ => (s.card i).body.contract

/-- A role may send a card message (R658). -/
def mayCard (r : Role) (m : CardMsg) : Bool :=
  match m with
  | .stage _ _ => decide (r = .operator)
  | .sign _ _ _ _ _ => decide (r = .operator ∨ r = .supplier ∨ r = .consumer)
  | .withdraw _ _ _ _ => decide (r = .operator ∨ r = .supplier ∨ r = .consumer)

/-- The host link takes up a card commit (R670, R671). -/
def State.takeCard (r : Role) (s : State) (j len : Nat) : State :=
  let bs := ((s.part j).region 0x05).read 0 len
  let want : Nat := if numAt bs 0 1 = 1 then 1056 else 49920
  if len ≠ 8 + want ∨ numAt bs 4 4 ≠ want then s.decided j 0x05 .length
  else match parseMsg j bs with
    | none => s.decided j 0x05 .badRequest
    | some m =>
      if !mayCard r m || !s.contractScope j (s.msgContract m) then s.decided j 0x05 .denied
      else { s with slv := { s.slv with cardIn := s.slv.cardIn ++ [m] } }

/-- DP_COMMIT_CARD (R671): a commit of the CARD region. -/
def execDpCommitCard (r : Requester) (s : State) : Host.Outcome State Fault Refusal :=
  let role := ((s.ownPart r).map Prod.snd).getD .maintenance
  .next (s.commitRow r 0x05 (State.takeCard role))

/-! Recompute jobs (R679, R680). -/

/-- Every channel lies in partition `j`'s scope. (DEDUCED, log 100) -/
def State.chidsOk (s : State) (j : Nat) (cs : List Chid) : Bool := cs.all (fun c => decide (s.epScope j (Chid.ep c) = .ok))

/-- A job is submitted unless the engine is lost, which aborts it at once (R683). -/
def State.newJob (s : State) (j : Nat) (x : Job) : State :=
  let s := s.submitJob j x
  if nbit s.slv.causes 8 then s.abortJob j 3 else s

/-- PEN takes up a committed RECOMPUTE region (R679). -/
def State.takeRecompute (s : State) (j len : Nat) : State :=
  let bs := ((s.part j).region 0x04).read 0 len
  let rs := hostRecs bs
  if len % 48 ≠ 0 then s.decided j 0x04 .length
  else if (s.job j).busy then s.decided j 0x04 .busy
  else if !s.chidsOk j (rs.map HostRec.ch) then s.decided j 0x04 .denied
  else (s.newJob j { Job.blank with host := true, input := rs }).decided j 0x04 .ok

/-- DP_COMMIT_RECOMPUTE (R679): a commit of the RECOMPUTE region. -/
def execDpCommitRecompute (r : Requester) (s : State) : Host.Outcome State Fault Refusal :=
  .next (s.commitRow r 0x04 State.takeRecompute)

/-- RECOMPUTE_SUBMIT (R679): ARG holds FROM, TO, N and N CHIDs. -/
def execRecomputeSubmit (o : ObjReq) (s : State) : Host.Outcome State Fault Refusal :=
  .next (s.objRun o 0x40 .recompute (fun s _ arg =>
    let j := o.dg.part
    let n := numAt arg 20 4
    let cs := (upTo n).map (fun i => numAt arg (24 + 4 * i) 4)
    if o.b 1 ≠ 0 ∨ !o.plain then (s, some (.unmapped, []))
    else if n = 0 ∨ 65536 < n ∨ arg.length ≠ 24 + 4 * n then (s, some (.badRequest, []))
    else if (s.job j).busy then (s, some (.busy, []))
    else if !s.chidsOk j cs then (s, some (.denied, []))
    else (s.newJob j { Job.blank with chans := cs, fromT := tsAt arg 0, toT := tsAt arg 10 }, some (.ok, []))))

/-- RECOMPUTE_CANCEL (R679, R481). -/
def execRecomputeCancel (o : ObjReq) (s : State) : Host.Outcome State Fault Refusal :=
  .next (s.objRun o 0x40 .recompute (fun s _ _ =>
    if o.b 1 ≠ 0 ∨ !o.plain then (s, some (.unmapped, [])) else (s.abortJob o.dg.part 4, some (.ok, []))))

/-- A result goes into its place by channel, then mode. -/
def insSum (x : JobSum) : List JobSum → List JobSum
  | [] => [x]
  | y :: r => if y.ch < x.ch ∨ (y.ch = x.ch ∧ y.mode ≤ x.mode) then y :: insSum x r else x :: y :: r

/-- GET_RECOMPUTE_JOB (R680). -/
def execGetRecomputeJob (o : ObjReq) (s : State) : Host.Outcome State Fault Refusal :=
  .next (s.objRun o 0x40 .recompute (fun s _ _ =>
    if o.b 1 ≠ 0 ∨ !o.plain then (s, some (.unmapped, []))
    else
      let x := s.job o.dg.part
      (s, some (.ok, x.words.flatMap (leBytes 4) ++ (x.sums.foldl (fun l y => insSum y l) []).flatMap JobSum.bytes))))

/-! Meter firmware campaigns (R674 to R676). -/

/-- The first reason of R675 to refuse a meter image. -/
def State.imageCheck (s : State) (j : Nat) (eps : List Nat) : Option Status :=
  if s.msn.campaign.isSome then some .busy
  else if !eps.all (fun e => decide (s.epScope j e = .ok)) || decide (eps.eraseDups.length ≠ eps.length) then some .badRequest
  else if !s.sysWrites then some .bemRo
  else none

/-- MSN takes up a committed METER_IMAGE region (R674, R675): descriptor and image go to the system area and to the standby, and
the campaign begins at step 1 of R370. -/
def State.takeMeterImage (s : State) (j len : Nat) : State :=
  match parseMeterImage (((s.part j).region 0x03).read 0 len) with
  | none => s.decided j 0x03 .badRequest
  | some (num, ident, size, img, eps) =>
    match s.imageCheck j eps with
    | some st => s.decided j 0x03 st
    | none =>
      let home := fun (e : Nat) => ((s.epCfg e).map (fun c => (s.node c.eui).home)).getD 0
      let ports := (eps.map home).eraseDups
      let c : Campaign :=
        { num := num, ident := ident, size := size, image := img, targets := eps.map (fun e => ⟨e, home e, .pending⟩),
          ports := ports.map (fun p => ⟨p, 1, 0, [], none⟩), activate := none, resumed := false }
      let s := { s with msn := { s.msn with campaign := some c }, nand := { s.nand with campaign := some c } }
      ((s.campSend c).campKick).decided j 0x03 .ok

/-- DP_COMMIT_METER_IMAGE (R675): a commit of the METER_IMAGE region. -/
def execDpCommitMeterImage (r : Requester) (s : State) : Host.Outcome State Fault Refusal :=
  .next (s.commitRow r 0x03 State.takeMeterImage)

/-- Targets in a state. -/
def Campaign.count (c : Campaign) (p : TargetSt → Bool) : Nat := (c.targets.filter (fun x => p x.st)).length

/-- The counts of INITIATED, complete, VERIFIED and FAILED targets (R676). -/
def Campaign.tally (c : Campaign) : List Nat :=
  [c.count (fun t => match t with
      | .initiated _ => true
      | .missing _ _ => true
      | _ => false),
    c.count (fun t => decide (t = .complete)), c.count (fun t => decide (t = .verified)), c.count (fun t => decide (t = .failed))]

/-- GET_FW_CAMPAIGN (R676): CAMPAIGN (2), the step (1), 0 (1) and the four counts (4 each), widths of the model's choice; with an
ARG of one byte 1, then one byte per target. (DESIGN CHOICE, log 121) -/
def execGetFwCampaign (o : ObjReq) (s : State) : Host.Outcome State Fault Refusal :=
  .next (s.objRun o 0x60 .campaign (fun s _ arg =>
    if o.b 1 ≠ 0 ∨ !o.plain then (s, some (.unmapped, []))
    else match s.msn.campaign with
      | none => (s, some (.ok, List.replicate 20 0))
      | some c =>
        let per := if arg = [1] then c.targets.map (fun x => match x.st with
          | .verified => 1
          | .failed => 2
          | _ => 0) else []
        (s, some (.ok, leBytes 2 c.num ++ [c.step, 0] ++ c.tally.flatMap (leBytes 4) ++ per))))

/-- FW_CAMPAIGN_ACTIVATE (R676): refused before step 7 has completed at every port. -/
def execFwCampaignActivate (o : ObjReq) (s : State) : Host.Outcome State Fault Refusal :=
  .next (s.objRun o 0x60 .campaign (fun s _ arg =>
    if o.b 1 ≠ 0 ∨ !o.plain then (s, some (.unmapped, []))
    else if s.sys.st = .standby then (s, some (.notActive, []))
    else if arg.length ≠ 10 then (s, some (.badRequest, []))
    else match s.msn.campaign with
      | none => (s, some (.badRequest, []))
      | some c =>
        if c.step < 8 then (s, some (.busy, []))
        else
          let c := { c with activate := some (tsAt arg 0) }
          ({ s with msn := { s.msn with campaign := some c } }, some (.ok, []))))

/-- FW_CAMPAIGN_ABORT (R676): the campaign ends; requests of it that have not started are dropped. -/
def execFwCampaignAbort (o : ObjReq) (s : State) : Host.Outcome State Fault Refusal :=
  .next (s.objRun o 0x60 .campaign (fun s _ _ =>
    if o.b 1 ≠ 0 ∨ !o.plain then (s, some (.unmapped, []))
    else if s.sys.st = .standby then (s, some (.notActive, []))
    else if s.msn.campaign.isNone then (s, some (.badRequest, []))
    else
      let keep := s.msn.held.filter (fun (x : Nat × Req) => match x.2.kind with
        | .firmware _ => false
        | _ => true)
      (State.campEnd { s with msn := { s.msn with held := keep } }, some (.ok, []))))

/-! Host reads (R682). -/

/-- READ_NOW (R682): ARG holds FROM and TO; the answer comes when the readings have reached Warp. -/
def execReadNow (o : ObjReq) (s : State) : Host.Outcome State Fault Refusal :=
  .next (s.epGet o 0x70 .hostRead (fun s ep arg =>
    if o.b 1 ≠ 0 ∨ !o.plain then (s, some (.unmapped, []))
    else if s.sys.st = .standby then (s, some (.notActive, []))
    else if arg.length ≠ 20 then (s, some (.badRequest, []))
    else (s.due ep (.hostRead o.dg.part o.dg.slot o.reqId (tsAt arg 0) (tsAt arg 10)), none)))

end Sys2Proof.Machine
end

