-- ==== Sys2Proof/Machine/Operands.lean ====
section
/-!
DEFINITION. What a read of a register returns (the register tables of the chapters): fields held as registers, and fields that
show the state of a block. One reader per block; `a` is an S-view address.
-/

namespace Sys2Proof.Machine
open Sys2Proof

/-- The bits `i` below `n` for which `p` holds, as a mask. -/
def maskOf (n : Nat) (p : Nat → Bool) : Nat := (upTo n).foldl (fun (m : Nat) i => if p i then m + 2 ^ i else m) 0

/-- A number as a register word. -/
def asWord (n : Nat) : Word := BitVec.ofNat 32 n

/-- A number as a register word that sticks at its largest value. -/
def stickWord (n : Nat) : Word := BitVec.ofNat 32 (min 0xFFFFFFFF n)

/-- Word `i` of a timestamp in three registers (R18). -/
def tsWord (ns i : Nat) : Word := wordOf (tsPack ns) i

/-- Word `i` of an image in memory: four bytes, least significant first. -/
def byteWord (bs : List Nat) (i : Nat) : Word := asWord (leNat ((bs.drop (4 * i)).take 4))

/-- The masks of R147 as they read: usable units that are not disabled. Enables count from the phase on that loads them: PEN pipes and
lanes from phase 3, cores and ports from phase 9; a port counts as disabled while the image gives it a mode and EN reads 0. -/
def State.coresUsable (s : State) : Nat := if s.sys.phase < 9 then s.sys.cores else Nat.land s.sys.cores s.sht.coreEn

/-- PEN pipes usable and enabled. -/
def State.pensUsable (s : State) : Nat := if s.sys.phase < 4 then s.sys.pens else Nat.land s.sys.pens s.pen.pipeEn

/-- Crypto lanes usable and enabled. -/
def State.lanesUsable (s : State) : Nat := if s.sys.phase < 4 then s.sys.lanes else Nat.land s.sys.lanes s.key.laneEn

/-- Field ports usable and not disabled. -/
def State.portsUsable (s : State) : Nat :=
  if s.sys.phase < 9 then s.sys.ports
  else Nat.land s.sys.ports (maskOf 64 (fun p => (s.port p).en || decide (s.portMode p = 0)))

/-- CLAIM_D and CLAIM_C in bits 1:0 (R61): without a peer both are pulled up (R59, R87); on the claim bus of a pair the level at the
instant of a read is a free value. (DESIGN CHOICE, log 21) -/
def State.claimLevels (s : State) : Nat := if s.sys.pairEn then s.drawn 3 else 3

/-- GLB (R60, R61, R147). The levels of the claim lines depend on the wire at the instant of reading: free bits.
(DESIGN CHOICE, log 21) -/
def State.readGlb (s : State) (a : Nat) : Word :=
  match a with
  | 0x40 => packWord [(3, 1, b2n s.sys.xspiSafe), (2, 1, b2n s.sys.unitSel), (1, 1, b2n s.sys.pairEn), (0, 1, b2n s.sys.dbgEn)]
  | 0x44 => packWord [(4, 1, b2n s.sys.heddle), (3, 1, b2n s.sys.sealClosed), (2, 1, b2n s.sys.pfail), (0, 2, s.claimLevels)]
  | 0x50 => asWord s.coresUsable
  | 0x54 => asWord s.portsUsable
  | 0x58 => asWord (s.portsUsable / 2 ^ 32)
  | 0x5C => packWord [(20, 8, s.sys.nands), (16, 4, s.pensUsable), (0, 16, s.lanesUsable)]
  | _ => s.rg a

/-- CKV (R101 to R103, R113, R120, R121). -/
def State.readCkv (s : State) (a : Nat) : Word :=
  match a with
  | 0x010000 => asWord s.islEn
  | 0x010004 => asWord (maskOf 22 (fun i => decide (i ≠ 0) && (s.isl i).busy))
  | 0x010010 => packWord [(16, 16, s.clk.lossCnt), (2, 1, b2n s.clk.hold), (1, 1, b2n s.clk.refOk), (0, 1, b2n s.clk.irc)]
  | 0x010020 => packWord [(31, 1, b2n s.clk.hi.fail), (0, 12, s.clk.hi.mv)]
  | 0x010024 => packWord [(31, 1, b2n s.clk.lo.fail), (0, 12, s.clk.lo.mv)]
  | _ =>
    if a < 0x010200 then
      let x := s.isl ((a - 0x010100) / 4)
      packWord [(16, 4, x.limit), (8, 4, x.tgt), (0, 4, x.cur)]
    else
      let x := s.isl ((a - 0x010200) / 4)
      packWord [(0, 10, if x.en then x.mv else 0)]

/-- HEADROOM (R137): ceiling minus V_plan at the present step; 0 until phase 1 has read the OTP that V_plan is made of (R143). -/
def State.headroom (s : State) (i : Nat) (x : Island) : Nat :=
  if s.sys.phase < 2 then 0 else min 255 (ceilMv i - s.vplan i x.cur x.offset)

/-- TMP (R137). -/
def State.readTmp (s : State) (a : Nat) : Word :=
  match a with
  | 0x020004 => packWord [(16, 16, s.tmp.cycles), (0, 1, b2n s.tmp.todo.isSome)]
  | 0x020008 => stickWord s.tmp.hours
  | 0x020010 => tsWord s.tmp.first 0
  | 0x020014 => tsWord s.tmp.first 1
  | 0x020018 => tsWord s.tmp.first 2
  | _ =>
    if a < 0x020100 then 0
    else
      let i := (a - 0x020100) / 16
      let x := s.isl i
      match (a - 0x020100) % 16 / 4 with
      | 0 => packWord [(24, 8, x.slack), (16, 8, s.headroom i x), (8, 8, x.offset),
          (0, 4, if steppable i then x.limit else 0)]
      | k + 1 => tsWord x.proj k

/-- CFG (R173). -/
def State.readCfg (s : State) (a : Nat) : Word :=
  match a with
  | 0x030000 => packWord [(16, 4, s.sys.cause), (8, 4, s.sys.phase), (4, 4, s.sys.role), (0, 4, s.sys.st.code)]
  | 0x030004 => packWord [(24, 8, s.sys.codeB), (16, 8, s.sys.codeA), (0, 8, s.sys.failCode)]
  | 0x030008 =>
    let b := s.nor.boot
    packWord [(6, 2, b.attempts), (5, 1, b2n b.trial), (4, 1, b2n b.pref), (0, 1, b2n s.sys.slot)]
  | 0x030010 => wordOf ((s.sys.image.map Image.seq).getD 0) 0
  | 0x030014 => wordOf ((s.sys.image.map Image.seq).getD 0) 1
  | 0x030018 => stickWord s.sys.startMs
  | 0x030020 => packWord [(8, 8, s.sys.stageCode), (0, 3, s.sys.stage.code)]
  | _ => 0

/-- A domain's registers at an offset from their base (R210). -/
def State.readDom (s : State) (d : Bool) (o a : Nat) : Word :=
  let x := s.tim.dom d
  match o with
  | 0x00 => asWord (x.offset.toNat % 65536)
  | 0x04 => tsWord (x.offset.toNat / 65536) 0
  | 0x08 => tsWord (x.offset.toNat / 65536) 1
  | 0x0C => tsWord (x.offset.toNat / 65536) 2
  | 0x10 => wordOf (toTwos 40 x.rate) 0
  | 0x14 => wordOf (toTwos 40 x.rate) 1
  | 0x24 => packWord [(16, 16, x.samples), (8, 8, x.discards), (4, 1, b2n x.sat), (3, 1, b2n x.everLocked), (0, 3, x.state.code)]
  | 0x28 => asWord (toTwos 32 x.last)
  | 0x30 => tsWord ((s.tim.domTime x s.tim.cnt / 2 ^ 16).toNat) 0
  | 0x34 => tsWord ((s.tim.domTime x s.tim.cnt / 2 ^ 16).toNat) 1
  | 0x38 => tsWord ((s.tim.domTime x s.tim.cnt / 2 ^ 16).toNat) 2
  | _ => s.rg a

/-- TIM (R209 to R211). (DEDUCED, log 18) -/
def State.readTim (s : State) (a : Nat) : Word :=
  match a with
  | 0x040000 => wordOf s.tim.cnt 0
  | 0x040004 => wordOf s.tim.cnt 1
  | 0x040014 => packWord [(9, 1, b2n (decide (s.tim.cont ≠ 0))), (8, 1, b2n s.ircFlag), (0, 1, b2n s.tim.sel)]
  | 0x040020 => tsWord s.nowNs 0
  | 0x040024 => tsWord s.nowNs 1
  | 0x040028 => tsWord s.nowNs 2
  | 0x040030 => wordOf (toTwos 64 (s.tim.cont / 2 ^ 16)) 0
  | 0x040034 => wordOf (toTwos 64 (s.tim.cont / 2 ^ 16)) 1
  | _ =>
    if 0x040100 ≤ a ∧ a < 0x040200 then s.readDom false (a - 0x040100) a
    else if 0x040200 ≤ a ∧ a < 0x040300 then s.readDom true (a - 0x040200) a
    else if 0x040600 ≤ a then
      let g := Store.get (fun _ => ZcGroup.blank) s.tim.zcGroups ((a - 0x040600) / 8)
      if a % 8 = 0 then asWord g.period else packWord [(31, 1, b2n g.valid), (0, 6, g.refPort)]
    else s.rg a

/-- SHT (R414). (DEDUCED, log 17) -/
def State.readSht (s : State) (a : Nat) : Word :=
  match a with
  | 0x050004 => asWord s.sht.coreEn
  | 0x050008 => asWord (maskOf 32 (fun c => s.sht.waiting.contains c))
  | 0x05000C => asWord (maskOf 32 (fun c => (s.holds c).isSome))
  | 0x050010 => asWord s.free
  | 0x050014 => asWord s.sht.low
  | _ =>
    if 0x050100 ≤ a ∧ a < 0x050180 then asWord (s.readyList ((a - 0x050100) / 4)).length
    else if 0x050180 ≤ a ∧ a < 0x0501A0 then asWord (s.delayList ((a - 0x050180) / 4)).length
    else if 0x050200 ≤ a ∧ a < 0x050280 then
      asWord (Store.get (fun _ => ([] : List PostDesc)) s.sht.spill ((a - 0x050200) / 4)).length
    else if 0x050400 ≤ a ∧ (a - 0x050400) % 16 = 0 then asWord (s.usedOf ((a - 0x050400) / 16))
    else s.rg a

/-- LINK of a port's status register (R253, R303): of a PLC frame whose airtime has passed no longer TRANSMIT, and ACK_WAIT until its
end. -/
def State.linkOf (s : State) (p : Nat) : Nat :=
  let x := (if s.isPlc p then s.settle p s.tim.cnt else s).port p
  if x.onAir.isSome then 2 else if x.rx.isSome then 1
  else match x.ackWait with
    | some (_, d) => if s.tim.cnt < d ∨ x.ackPossible d ∨ x.rep.isSome then 3 else 0
    | none => 0

/-- RPT (R251 to R253, R298 to R304). (DEDUCED, log 18) -/
def State.readRpt (s : State) (a : Nat) : Word :=
  let p := (a - 0x060000) / 0x400
  let x := s.port p
  match (a - 0x060000) % 0x400 with
  | 0x000 => putField (putField (s.rg a) 31 31 (b2n x.en)) 30 30 (b2n x.draining)
  | 0x104 => packWord [(12, 4, x.gain), (8, 2, s.linkOf p), (3, 1, b2n (x.en && !s.sys.heddle)), (2, 1, b2n (x.en && s.clk.irc)),
      (1, 1, b2n x.zcLost), (0, 1, b2n x.afeFail)]
  | 0x218 => packWord [(22, 10, if s.hopping p then 0 else x.dutyUs / 3600000), (12, 10, x.conns.length), (8, 2, s.linkOf p),
      (2, 1, b2n x.dutyHeld.isSome), (1, 1, b2n x.xcvrFail), (0, 1, b2n (x.en && !s.sys.heddle))]
  | _ => s.rg a

/-- Word `k` of a neighbour entry, `age` s after it was last heard (R311). -/
def Nbr.word (x : Nbr) (age k : Nat) : Word :=
  match k with
  | 0 => wordOf x.eui 0
  | 1 => wordOf x.eui 1
  | 2 => packWord [(31, 1, 1), (25, 6, x.port), (22, 3, x.phase), (20, 2, x.kind), (19, 1, b2n x.inRoute), (18, 1, b2n x.down),
      (16, 2, x.misses), (8, 8, x.rxSeq.getD 0), (0, 8, x.txSeq)]
  | 3 => packWord [(22, 10, x.etx), (14, 8, x.qual)]
  | 4 => stickWord age
  | 5 => packWord [(16, 16, min 0xFFFF x.impulses), (0, 16, min 0xFFFF x.noAcks)]
  | 6 => asWord x.delivered
  | _ => 0

/-- NET (R342): an unused entry reads as zeros. -/
def State.readNet (s : State) (a : Nat) : Word :=
  match a with
  | 0x080014 => asWord s.net.nbrs.length
  | 0x080018 => asWord (s.net.nodes.filter (fun (x : Nat × NodeRec) =>
      decide (x.2.st = .rediscover ∨ x.2.st = .unreachable))).length
  | _ =>
    if 0x080040 ≤ a ∧ a < 0x080060 then
      match s.net.snap with
      | some (x, age) => if x = Nbr.blank then 0 else x.word age ((a - 0x080040) / 4)
      | none => 0
    else if 0x080100 ≤ a ∧ a < 0x080200 then
      let p := (a - 0x080100) / 4
      let ns := (s.net.nodes.filter (fun (x : Nat × NodeRec) => decide (x.2.home = p ∧ x.2.st = .joined)))
      let depth := ns.foldl (fun (m : Nat) (x : Nat × NodeRec) => if x.2.hasRoute then max m (x.2.route.length + 1) else m) 0
      packWord [(31, 1, b2n (!s.mesh p)), (16, 4, depth), (0, 16, ns.length)]
    else s.rg a

/-- MSN (R375). -/
def State.readMsn (s : State) (a : Nat) : Word :=
  match a with
  | 0x09000C =>
    let st := (s.msn.campaign.map Campaign.step).getD 0
    let num := (s.msn.campaign.map Campaign.num).getD 0
    putField (putField (s.rg a) 19 16 st) 15 0 num
  | 0x090010 => asWord s.openReqs
  | _ => s.rg a

/-- WRP (R454). (DEDUCED, log 17) -/
def State.readWrp (s : State) (a : Nat) : Word :=
  match a with
  | 0x0A0000 => 0
  | 0x0A0010 => packWord [(31, 1, b2n s.slv.handoff), (30, 1, b2n s.wrp.paused), (29, 1, b2n s.wrp.noJournal),
      (0, 24, s.wrp.chans.foldl (fun (n : Nat) (x : Nat × Chan) => n + x.2.queue.length) 0)]
  | 0x0A0014 => packWord [(0, 24, s.wrp.chans.foldl (fun (n : Nat) (x : Nat × Chan) => n + x.2.held.length) 0)]
  | 0x0A0018 => packWord [(16, 16, s.wrp.ckptCycles), (0, 12, s.wrp.ckptSlice)]
  | 0x0A0020 => tsWord ((s.wrp.outage.map Prod.fst).getD 0) 0
  | 0x0A0024 => tsWord ((s.wrp.outage.map Prod.fst).getD 0) 1
  | 0x0A0028 => tsWord ((s.wrp.outage.map Prod.fst).getD 0) 2
  | 0x0A0030 => tsWord ((s.wrp.outage.map Prod.snd).getD 0) 0
  | 0x0A0034 => tsWord ((s.wrp.outage.map Prod.snd).getD 0) 1
  | 0x0A0038 => tsWord ((s.wrp.outage.map Prod.snd).getD 0) 2
  | 0x0A0040 => 0
  | 0x0A0058 => packWord [(0, 8, s.wrp.cmdResult)]
  | _ =>
    if 0x0A0200 ≤ a then
      match s.wrp.snap with
      | some (r, ep, cs) => byteWord (recBytes r ep cs) ((a - 0x0A0200) / 4)
      | none => 0
    else s.rg a

/-- The partition whose own registers a requester reads (R483, R651): none for the UART and for cores. -/
def State.readsAs (s : State) (r : Requester) : Option Nat := (s.ownPart r).map Prod.fst

/-- PEN (R483). Evaluations take no time in the model, so none waits and no pipe is seen draining. (DEDUCED, log 17) -/
def State.readPen (s : State) (r : Requester) (a : Nat) : Word :=
  match a with
  | 0x0B0004 => asWord s.pen.pipeEn
  | 0x0B0008 => packWord [(12, 4, s.pen.failed), (0, 1, b2n ((upTo 8).any (fun j => decide ((s.job j).st = .running))))]
  | _ =>
    if 0x0B0100 ≤ a ∧ a < 0x0B0200 then
      match s.readsAs r with
      | some j => asWord ((s.job j).words.getD ((a - 0x0B0100) / 4) 0)
      | none => 0
    else if 0x0B0200 ≤ a then asWord ((s.job ((a - 0x0B0200) / 32)).words.getD ((a - 0x0B0200) % 32 / 4) 0)
    else s.rg a

/-- SLV (R212, R532). (DEDUCED, log 19) -/
def State.readSlv (s : State) (a : Nat) : Word :=
  match a with
  | 0x0C0004 => wordOf Config.romDigest 0
  | 0x0C0010 => packWord [(0, 11, s.slv.causes)]
  | 0x0C0014 => packWord [(31, 1, b2n s.sys.sealClosed), (30, 1, b2n s.slv.verified), (29, 1, b2n s.slv.unlock),
      (0, 6, s.otp.seals.length)]
  | 0x0C0020 => wordOf s.slv.jseq 0
  | 0x0C0024 => wordOf s.slv.jseq 1
  | 0x0C0028 => wordOf s.slv.djseq 0
  | 0x0C002C => wordOf s.slv.djseq 1
  | 0x0C0030 => packWord [(8, 8, maskOf 8 (fun n => match s.outCfg n with
        | some c => decide (c.mode ≠ .unused)
        | none => false)), (0, 8, maskOf 8 s.outLevel)]
  | 0x0C0060 => tsWord (s.slv.sealLast * second) 0
  | 0x0C0064 => tsWord (s.slv.sealLast * second) 1
  | 0x0C0068 => tsWord (s.slv.sealLast * second) 2
  | 0x0C0100 => tsWord s.legalNs 0
  | 0x0C0104 => tsWord s.legalNs 1
  | 0x0C0108 => tsWord s.legalNs 2
  | 0x0C010C => packWord [(4, 1, b2n s.slv.handoff), (0, 3, s.slv.ltSt.code)]
  | 0x0C0110 => asWord s.slv.hseq
  | _ => if 0x0C0040 ≤ a ∧ a < 0x0C0060 then stickWord (s.owed ((a - 0x0C0040) / 4)) else s.rg a

/-- JQD (R534). -/
def State.readJqd (s : State) (a : Nat) : Word :=
  let x := s.slv.cardSnap
  match a with
  | 0x0D0000 =>
    let n := fun (p : CardSt → Bool) => (s.slv.cards.filter (fun (x : Nat × CardSlot) => p x.2.st)).length
    packWord [(16, 13, n (fun c => decide (c ≠ .free))), (0, 13, n (fun c => decide (c = .active)))]
  | 0x0D0014 => packWord [(28, 4, x.st.code), (16, 12, x.body.contract), (0, 8, x.lastCode)]
  | 0x0D0018 => asWord x.body.cardId
  | 0x0D0020 => tsWord x.body.actAt 0
  | 0x0D0024 => tsWord x.body.actAt 1
  | 0x0D0028 => tsWord x.body.actAt 2
  | _ => s.rg a

/-- Words 0 to 15 of a node record (R537); a node that is not configured reads VALID = 0. -/
def BalSt.word (x : BalSt) (b : Option BalNode) (w : Nat) : Word :=
  match b with
  | none => 0
  | some b =>
    match w with
    | 0 => packWord [(31, 1, 1), (25, 6, b.period), (20, 5, b.segs.length), (16, 1, b2n b.parent.isSome), (0, 16, b.parent.getD 0)]
    | 1 => packWord [(0, 21, b.mfirst)]
    | 2 => packWord [(16, 16, b.sfirst), (0, 12, b.members.length - 1)]
    | 3 => packWord [(8, 8, toTwos 8 b.oe), (0, 8, b.base)]
    | 4 => asWord b.k
    | 5 => asWord b.h
    | 6 => asWord (toTwos 32 b.bias)
    | 7 => asWord b.gross
    | 8 => wordOf b.qFloor 0
    | 9 => wordOf b.qFloor 1
    | 10 => packWord [(24, 8, b.clearN)]
    | 11 => asWord x.sPos
    | 12 => asWord x.sNeg
    | 13 => packWord [(31, 1, b2n x.loss), (30, 1, b2n x.gain), (29, 1, b2n x.theft), (16, 8, min 0xFF x.clearRun),
        (0, 16, min 0xFFFF x.quiet)]
    | 14 => wordOf x.lastEnd 0
    | 15 => wordOf x.lastEnd 1
    | _ => 0

/-- BAL (R553). -/
def State.readBal (s : State) (a : Nat) : Word :=
  let count := fun (p : BalSt → Bool) => asWord (s.bal.nodes.filter (fun (x : Nat × BalSt) => p x.2)).length
  match a with
  | 0x0E0000 => asWord (b2n s.bal.en)
  | 0x0E0008 => asWord s.balNodes.length
  | 0x0E0010 => 0
  | 0x0E0014 => count BalSt.loss
  | 0x0E0018 => count BalSt.theft
  | _ =>
    if 0x0E0100 ≤ a then
      let w := (a - 0x0E0100) / 4
      match s.bal.snap with
      | none => 0
      | some (n, x) =>
        if w < 16 then x.word ((s.balNodes.find? (fun (y : Nat × BalNode) => y.1 = n)).map Prod.snd) w
        else match x.last with
          | some r => byteWord r.bytes (w - 16)
          | none => 0
    else s.rg a

/-- Erase counts of a NAND channel's blocks (R588). -/
def State.chErases (s : State) (n : Nat) : List Nat :=
  (s.nand.blocks.filter (fun (x : Nat × Block) => x.2.ch = n)).map (fun x => x.2.erases)

/-- BEM (R586, R588). (DEDUCED, log 18) -/
def State.readBem (s : State) (a : Nat) : Word :=
  let up := fun (w : Word) => if s.bem.mounted then w else 0
  match a with
  | 0x0F0000 => asWord s.chEnView
  | 0x0F0004 => 0
  | 0x0F0010 => packWord [(31, 1, b2n s.bem.mounted), (30, 1, b2n (s.nand.archRo || s.bem.notMounted)), (29, 1, b2n s.bem.full),
      (28, 1, b2n s.nand.legalRo), (27, 1, b2n s.bem.flushOk), (26, 1, b2n s.bem.exposed)]
  | 0x0F0014 => up (packWord [(0, 7, s.life)])
  | 0x0F0018 => up (packWord [(16, 16, min 0xFFFF s.nand.spareArch), (0, 16, s.nand.spareLegal)])
  | 0x0F001C => up (packWord [(16, 16, s.sCache / (64 * mib)), (0, 16, s.cacheBytes / (64 * mib))])
  | 0x0F0020 => up (asWord (s.userCap / gib))
  | 0x0F0024 => up (asWord (s.freeF / gib))
  | 0x0F0040 =>
    let pred := match s.sys.image with
      | some im => (im.nand.tFlush + 500) / 1000
      | none => 0
    packWord [(16, 16, s.bem.lastFlushUs), (0, 16, pred)]
  | _ =>
    if 0x0F0100 ≤ a then
      let n := (a - 0x0F0100) / 16
      let es := s.chErases n
      let t := Store.get (fun _ => 0) s.bem.targets n
      match (a - 0x0F0100) % 16 / 4 with
      | 0 => packWord [(24, 8, (s.chSt n).code), (16, 8, t), (0, 16, min 0xFFFF (Store.get (fun _ => 0) s.nand.bad n))]
      | 1 => asWord (es.foldl (· + ·) 0 / max 1 (popCount 8 t * s.nandCfg.nLun * s.nandCfg.nPlane * s.nandCfg.bpp))
      | _ => asWord (es.foldl max 0)
    else s.rg a

/-- KEY (R616). A lane runs a job in one step of the model, so no Bobbin is seen loaded. (DEDUCED, log 17, 19) -/
def State.readKey (s : State) (a : Nat) : Word :=
  match a with
  | 0x100000 => packWord [(7, 1, b2n s.key.tableOk), (6, 1, b2n (s.key.ready && s.key.trngOk)), (5, 1, b2n s.key.storeRo),
      (4, 1, b2n s.key.zeroised), (0, 1, b2n s.key.debug)]
  | 0x100004 => asWord ((s.key.pkwk.map Pkwk.pgen).getD 0)
  | 0x100008 => asWord s.key.laneEn
  | 0x10000C => packWord [(16, 16, s.key.laneFailed)]
  | 0x100010 => 0
  | 0x100014 => packWord [(28, 4, s.key.impSt.code), (24, 4, s.key.impCode)]
  | 0x100018 => packWord [(16, 16, min 0xFFFF s.key.impRef), (0, 16, min 0xFFFF s.key.impAcc)]
  | _ =>
    if 0x100020 ≤ a ∧ a < 0x100060 then
      if s.key.ready then wordOf (s.pubDigest (if a < 0x100040 then 1 else 2)) ((a - 0x100020) % 32 / 4) else 0
    else s.rg a

/-- Open sessions of partition `j`. -/
def State.openCount (s : State) (j : Nat) : Nat := ((upTo 4).filter (fun k => (s.session j k).isSome)).length

/-- A host port's configuration and link (R651). -/
def State.hostPortWord (s : State) (e : Nat) : Word :=
  match s.hostPort e with
  | none => 0
  | some c =>
    let w := s.rg (R.HST_PORT_e + 4 * e)
    let m : Nat × Nat := match c.mode with
      | .base1000 => (2, 1)
      | .base2500 => (3, 2)
      | .sgmii => (field w 4 3, 3)
    packWord [(31, 1, b2n (Store.get (fun _ => false) s.hst.link e)), (30, 1, b2n c.jumbo), (16, 12, c.vlan.getD 0),
      (3, 2, m.1), (0, 3, m.2)]

/-- HST_PART as requester `r` reads it (R651). -/
def State.hstPart (s : State) (r : Requester) : Word :=
  match r with
  | .uart => packWord [(31, 1, b2n (!s.sys.sealClosed)), (3, 1, 1)]
  | _ => match s.ownPart r with
    | some (j, role) =>
      packWord [(31, 1, b2n (privileged s r)), (24, 4, s.openCount j), (20, 4, role.code), (0, 3, j)]
    | none => 0

/-- The own registers of partition `p` (R652). The oldest record of an empty queue has no QSEQ: any value, 0 before the first
record. (DEDUCED, log 16) -/
def State.ownReg (s : State) (p : Part) (a : Nat) : Word :=
  match a with
  | 0x110100 => wordOf p.addr 0
  | 0x110104 => wordOf p.addr 1
  | 0x110108 => asWord p.idleMs
  | 0x11010C => asWord p.commitLen
  | 0x110114 => packWord [(31, 1, b2n p.burstOpen), (16, 8, p.commitRegion), (8, 8, p.commitCode), (0, 2, p.commitSt.code)]
  | 0x110118 => asWord (p.bsn.getD 0)
  | 0x11011C => asWord p.expect
  | 0x110120 => packWord [(16, 16, p.lostCnt), (0, 13, p.evq.length)]
  | 0x110124 => match p.evq with
    | q :: _ => asWord q.qseq
    | [] => if p.nextQseq = 0 then 0 else asWord (Config.freeNat s.fresh)
  | _ => 0

/-- HST (R651, R652). (DEDUCED, log 16; DESIGN CHOICE, log 20) -/
def State.readHst (s : State) (r : Requester) (a : Nat) : Word :=
  match a with
  | 0x110020 => s.hstPart r
  | 0x110200 => putField (s.rg a) 31 31 (b2n s.hst.mdioBusy)
  | _ =>
    if 0x110010 ≤ a ∧ a < 0x110020 then s.hostPortWord ((a - 0x110010) / 4)
    else if 0x110040 ≤ a ∧ a < 0x110060 then
      let j := (a - 0x110040) / 4
      let isDef := match s.sys.image with
        | some im => (im.part j).isSome
        | none => false
      packWord [(31, 1, b2n (s.privPart j)), (30, 1, b2n isDef), (24, 4, s.openCount j), (0, 13, (s.part j).evq.length)]
    else if 0x110100 ≤ a ∧ a < 0x110180 then
      match s.readsAs r with
      | some j => s.ownReg (s.part j) a
      | none => 0
    else s.rg a

/-- PAR (R715). (DEDUCED, log 18, 22) -/
def State.readPar (s : State) (a : Nat) : Word :=
  match a with
  | 0x120000 => 0
  | 0x120004 => asWord s.rank
  | 0x120008 => packWord [(31, 1, b2n s.par.lane1), (30, 1, b2n s.par.lane0), (29, 1, b2n s.par.heard), (28, 1, b2n s.par.busFault),
      (24, 4, s.syncShown.code), (16, 2, min 3 s.par.miss), (4, 4, if s.par.heard then s.par.peerRole else 0)]
  | 0x120010 => asWord s.par.claim
  | 0x120014 => asWord s.par.wire
  | 0x120018 => packWord [(0, 24, s.par.epoch)]
  | 0x120020 => wordOf s.par.mjseq 0
  | 0x120024 => wordOf s.par.mjseq 1
  | 0x120028 => wordOf s.par.mack 0
  | 0x12002C => wordOf s.par.mack 1
  | 0x120030 => asWord (ringBytes s.par.ring / 1024)
  | _ => s.rg a

/-- EVT (R732). -/
def State.readEvt (s : State) (a : Nat) : Word :=
  match a with
  | 0x130000 => packWord [(16, 8, if s.evt.untracked then 0xFF else min 0xFF (s.nActive .fault)),
      (8, 8, min 0xFF (s.nActive .warning + b2n s.evt.fullActive)), (0, 1, b2n s.faultN)]
  | 0x130004 => asWord s.evt.seq
  | _ =>
    if 0x130020 ≤ a ∧ a < 0x130040 then
      match s.evt.snap with
      | some e => byteWord (e.bytes e.seq 0) ((a - 0x130020) / 4)
      | none => 0
    else s.rg a

/-- What requester `r` reads at S-view address `a` now. -/
def State.readNow (s : State) (r : Requester) (a : Nat) : Word :=
  match a / 0x10000 with
  | 0x00 => s.readGlb a
  | 0x01 => s.readCkv a
  | 0x02 => s.readTmp a
  | 0x03 => s.readCfg a
  | 0x04 => s.readTim a
  | 0x05 => s.readSht a
  | 0x06 => s.readRpt a
  | 0x08 => s.readNet a
  | 0x09 => s.readMsn a
  | 0x0A => s.readWrp a
  | 0x0B => s.readPen r a
  | 0x0C => s.readSlv a
  | 0x0D => s.readJqd a
  | 0x0E => s.readBal a
  | 0x0F => s.readBem a
  | 0x10 => s.readKey a
  | 0x11 => s.readHst r a
  | 0x12 => s.readPar a
  | 0x13 => s.readEvt a
  | _ => 0

/-- Words 1 and up of the wide value whose lowest-order word is at `a` become the requester's snapshot (R10). -/
def State.capture (s : State) (r : Requester) (a n : Nat) : State :=
  (upTo n).foldl (fun (s : State) i =>
    if i = 0 then s
    else
      let b := a + 4 * i
      { s with snap := Store.put (fun _ => none) s.snap (heldKey r b) (some (s.readNow r b)) }) s

/-- A read of the register at S-view address `a` that nothing refuses: the state and the word (R10). (DESIGN CHOICE, log 13) -/
def State.readReg (s : State) (r : Requester) (a : Nat) : State × Word :=
  match findReg a with
  | none => (s, 0)
  | some d =>
    let v := s.readNow r a
    if d.len = 1 then (if a = R.GLB_PINSTAT ∨ a = R.HST_EVQ_NEXT then s.used else s, v)
    else if d.pos = 0 then (s.capture r a d.len, v)
    else (s, (Store.get (fun _ => none) s.snap (heldKey r a)).getD v)

/-- The snapshot registers of a card that the requester's partition may not see (R534). -/
def State.cardHidden (s : State) (r : Requester) (a : Nat) : Bool :=
  match r with
  | .slot j _ => decide (0x0D0014 ≤ a ∧ a < 0x0D0030) && !s.contractScope j s.slv.cardSnap.body.contract
  | _ => false

end Sys2Proof.Machine
end

