-- ==== Sys2Proof/Machine/Reg.lean ====
section
/-!
DEFINITION. Register accesses (00_scope.md R3 to R15, R753; 17_host_link_registers.md R631 to R633): single writes and reads,
and the register operations of a datagram.
-/

namespace Sys2Proof.Machine
open Sys2Proof

/-- Island `i` that a CKV_STEP_i register is of (R113). -/
def stepIsl (a : Nat) : Nat := (a - 0x010100) / 4

/-- A write of an own register of the data port (R652): only a partition has one. -/
def State.ownWrite (r : Requester) (f : Part → Part) (s : State) : State × Status :=
  match s.ownPart r with
  | none => (s, .denied)
  | some (j, _) => (s.setPart j (f (s.part j)), .ok)

/-- A plain field is set (R13). -/
def State.storeReg (s : State) (a sv : Nat) (v : Word) : State := s.setReg sv (mergeWrite (s.rg sv) v (writeMask a))

/-- The lowest-order word of a plain wide value sets it with the words held before (R10). The held words are used up by it, and a
higher word that none holds keeps its present value. (DESIGN CHOICE, log 148) -/
def State.storeWide (s : State) (r : Requester) (a sv n : Nat) (v : Word) : State :=
  (upTo n).foldl (fun (s : State) i =>
    if i = 0 then s
    else
      let b := sv + 4 * i
      (s.storeReg (a + 4 * i) b (s.heldOr r b (s.rg b))).dropHeld r b) (s.storeReg a sv v)

/-- The write of a field port's registers. The transceiver's outcome of an enabling write is a free value.
(DESIGN CHOICE, log 23) -/
def State.rptEff (r : Requester) (a sv : Nat) (s : State) (v : Word) : State × Status :=
  let p := sv / 0x400 % 64
  let off := sv % 0x400
  if off = 0x000 then
    let x := State.portCtrlEff p s.tim.cnt (decide (s.drawn 1 = 1)) s v
    (x.1.used, x.2)
  else if off = 0x210 then State.chmapEff p s.tim.cnt r s v
  else (s.storeReg a sv v, .ok)

/-- The write of an HST register (R621, R641, R642, R652). (DEDUCED, log 16, 26) -/
def State.hstEff (r : Requester) (a sv : Nat) (s : State) (v : Word) : State × Status :=
  match sv with
  | 0x110100 => State.dpAddrEff r s v
  | 0x110108 => State.ownWrite r (fun p => { p with idleMs := field v 15 0 }) s
  | 0x11010C => State.ownWrite r (fun p => { p with commitLen := v.toNat }) s
  | 0x110110 => State.commitEff r s v
  | 0x110200 => s.mdioEff v
  | _ => (s.storeReg a sv v, .ok)

/-- The effect of a write that nothing refuses, at address `a`, in either view (R13): by the register. A higher-order word of a
wide value is held (R10). -/
def State.writeEff (r : Requester) (a : Nat) (s : State) (v : Word) : State × Status :=
  let sv := sView a
  match findReg sv with
  | none => (s, .unmapped)
  | some d =>
    if 0 < d.pos then
      if blockOf a = 0x11 ∧ (s.ownPart r).isNone then (s, .denied)
      else ({ s with heldW := Store.put (fun _ => none) s.heldW (heldKey r sv) (some v) }, .ok)
    else match sv with
      | 0x010000 => let x := State.islEnEff (s.drawn (2 ^ 64 - 1)) s.tim.cnt s v; (x.1.used, x.2)
      | 0x020000 => (if bit v 0 then s.templeStart else s, .ok)
      | 0x030030 => s.cfgCtrlEff v
      | 0x040010 => (s.setTimCtrl v, .ok)
      | 0x040120 => (s.setTimCfg false v, .ok)
      | 0x040220 => (s.setTimCfg true v, .ok)
      | 0x050004 => (s.coreEnEff v, .ok)
      | 0x080000 => (State.netCtrlEff s.tim.cnt s v, .ok)
      | 0x080020 => (s.nbrSnap v, .ok)
      | 0x090000 => (s.msnCtrlEff v, .ok)
      | 0x0A0000 => (s.wrpCtrlEff v, .ok)
      | 0x0A0040 => s.wrpCmdEff v
      | 0x0A0080 => (s.recIdxEff v, .ok)
      | 0x0B0004 => s.penCtrlEff v
      | 0x0D0010 => (s.cardIdxEff v, .ok)
      | 0x0E0000 => (s.balCtrlEff v, .ok)
      | 0x0E0010 => s.balCmdEff v
      | 0x0E0020 => (s.nodeIdxEff v, .ok)
      | 0x0F0000 => s.bemCtrlEff v
      | 0x0F0004 => s.bemCmdEff v
      | 0x100008 => s.laneEnEff v
      | 0x100010 => s.keyZeroEff v
      | 0x120000 => s.parCtrlEff v
      | 0x130010 => (s.actIdxEff v, .ok)
      | _ =>
        match blockOf a with
        | 0x01 => (s.setTgt (stepIsl sv) v, .ok)
        | 0x05 => State.tickEff ((sv - 0x050020) / 4) s v
        | 0x06 => State.rptEff r a sv s v
        | 0x11 => State.hstEff r a sv s v
        | _ => if d.len = 1 then (s.storeReg a sv v, .ok) else (s.storeWide r a sv d.len v, .ok)

/-- REGISTER_WRITE (R3, R10, R13, R753): requester `r` writes `v` with an access of `bytes` bytes at `a`. -/
def execRegisterWrite (r : Requester) (a bytes : Nat) (v : Word) (s : State) : Host.Outcome State Fault Refusal :=
  let x := s.tryWrite r a bytes v (State.writeEff r a)
  .next (x.1.answered r x.2 0)

/-- A read: the refusing conditions of R753, then the word (R9, R10, R534); none where the part does not answer at all. -/
def State.tryRead (s : State) (r : Requester) (a bytes : Nat) : State × Option Status × Word :=
  match accessCheck s r false a bytes with
  | none => (s, none, 0)
  | some .ok =>
    if s.cardHidden r (sView a) then (s, some .denied, 0)
    else
      let x := s.readReg r (sView a)
      (x.1, some .ok, x.2)
  | some st => (s, some st, 0)

/-- WIDE_VALUE_LOW_WORD_READ (R9, R10): requester `r` reads at `a`; the lowest-order word of a wide value captures the others. Every
other register is read the same way. -/
def execWideValueLowWordRead (r : Requester) (a bytes : Nat) (s : State) : Host.Outcome State Fault Refusal :=
  let x := s.tryRead r a bytes
  .next (x.1.answered r x.2.1 x.2.2)

/-- One operation of a REG_REQ: the state and its result (R631, R632). -/
def State.regOp (s : State) (r : Requester) (o : RegOp) : State × Status × Word :=
  if o.write then
    let x := s.tryWrite r o.addr 4 o.value (State.writeEff r o.addr)
    (x.1, x.2.getD .notReady, 0)
  else
    let x := s.tryRead r o.addr 4
    (x.1, x.2.1.getD .notReady, x.2.2)

/-- The operations of a REG_REQ in order (R632). (DEDUCED, log 27) -/
def State.regOps (s : State) (r : Requester) : List RegOp → State × List (Status × Word)
  | [] => (s, [])
  | o :: os =>
    let x := s.regOp r o
    let y := State.regOps x.1 r os
    (y.1, x.2 :: y.2)

/-- REG_REQ (R631 to R633): a kept answer is sent again, a stale or malformed request has every result BAD_REQUEST.
(DEDUCED, log 27) -/
def execRegReq (d : Dg) (reqId : Nat) (ops : List RegOp) (s : State) : Host.Outcome State Fault Refusal :=
  let a := s.takeDgram d
  .next (
    if !a.2 then a.1
    else
      let s := a.1
      let j := d.part
      let k := d.slot
      let bad := ops.map (fun (_ : RegOp) => ((Status.badRequest, 0) : Status × Word))
      match s.session j k with
      | none => s
      | some x =>
        let isNew := match x.reqHigh with
          | none => true
          | some h => decide (h < reqId)
        match x.kept.find? (fun (y : Nat × Kept) => y.1 = reqId) with
        | some (_, .regs rs) => s.send j k (.regRsp reqId rs)
        | some (_, .obj _ _ _ _ _ _) => s.send j k (.regRsp reqId bad)
        | none =>
          if !isNew || decide (ops.length = 0 ∨ 127 < ops.length) then s.send j k (.regRsp reqId bad)
          else
            let y := (s.setSession j k (some { x with reqHigh := some reqId })).regOps (s.requester j k) ops
            match y.1.session j k with
            | none => y.1
            | some z => (y.1.setSession j k (some (z.keep reqId (.regs y.2)))).send j k (.regRsp reqId y.2))

end Sys2Proof.Machine
end

