-- ==== Sys2Proof/Machine/Dispatch.lean ====
section
/-!
DEFINITION. The meaning of every command: one arm per constructor, each a direct call of the command's meaning.
-/

namespace Sys2Proof.Machine
open Sys2Proof

/-- A command's effect on everything but the queue. -/
def exec (i : Instr) (s : State) : Host.Outcome State Fault Refusal :=
  match i with
  | .registerWrite r a bytes v => Sys2Proof.Machine.execRegisterWrite r a bytes v s
  | .wideValueLowWordRead r a bytes => Sys2Proof.Machine.execWideValueLowWordRead r a bytes s
  | .porstNAssert => Sys2Proof.Machine.execPorstNAssert s
  | .porstNRelease tmode dbgEn pairEn unitSel xspiSafe sealClosed => Sys2Proof.Machine.execPorstNRelease tmode dbgEn pairEn unitSel xspiSafe sealClosed s
  | .bistDone b => Sys2Proof.Machine.execBistDone b s
  | .dramTrainingDone capA capB => Sys2Proof.Machine.execDramTrainingDone capA capB s
  | .imageVerifyDone norMbit sfdpOk => Sys2Proof.Machine.execImageVerifyDone norMbit sfdpOk s
  | .configCheck vddio => Sys2Proof.Machine.execConfigCheck vddio s
  | .regionLayout => Sys2Proof.Machine.execRegionLayout s
  | .beamMount m => Sys2Proof.Machine.execBeamMount m s
  | .legalReplay => Sys2Proof.Machine.execLegalReplay s
  | .warpRebuild readable => Sys2Proof.Machine.execWarpRebuild readable s
  | .keyRootDerivation testOk tableOk xcvr t => Sys2Proof.Machine.execKeyRootDerivation testOk tableOk xcvr t s
  | .timeWaitExpiry t => Sys2Proof.Machine.execTimeWaitExpiry t s
  | .roleDecision t => Sys2Proof.Machine.execRoleDecision t s
  | .runEntry ms t => Sys2Proof.Machine.execRunEntry ms t s
  | .haltedUartReport => Sys2Proof.Machine.execHaltedUartReport s
  | .restart r v => Sys2Proof.Machine.execRestart r v s
  | .powerFailLatch t => Sys2Proof.Machine.execPowerFailLatch t s
  | .flushComplete us => Sys2Proof.Machine.execFlushComplete us s
  | .flushedReset => Sys2Proof.Machine.execFlushedReset s
  | .sealChange closed t => Sys2Proof.Machine.execSealChange closed t s
  | .refclkQualified t => Sys2Proof.Machine.execRefclkQualified t s
  | .refclkLost t ratio => Sys2Proof.Machine.execRefclkLost t ratio s
  | .islandClose r xi => Sys2Proof.Machine.execIslandClose r xi s
  | .islandCloseComplete xi ok t => Sys2Proof.Machine.execIslandCloseComplete xi ok t s
  | .islandOpen r xi ok t => Sys2Proof.Machine.execIslandOpen r xi ok t s
  | .stepTargetWrite r xi tgt => Sys2Proof.Machine.execStepTargetWrite r xi tgt s
  | .frequencyStepTick xi => Sys2Proof.Machine.execFrequencyStepTick xi s
  | .regulatorSettled xi => Sys2Proof.Machine.execRegulatorSettled xi s
  | .avsWriteSettled hi => Sys2Proof.Machine.execAvsWriteSettled hi s
  | .avsRetryTimer hi ok => Sys2Proof.Machine.execAvsRetryTimer hi ok s
  | .templeCycleTimer t => Sys2Proof.Machine.execTempleCycleTimer t s
  | .templeMeasure r => Sys2Proof.Machine.execTempleMeasure r s
  | .templeWindowEnd slack t => Sys2Proof.Machine.execTempleWindowEnd slack t s
  | .slackAlarm xi slack => Sys2Proof.Machine.execSlackAlarm xi slack s
  | .ptpSync d e t2 t1 corr => Sys2Proof.Machine.execPtpSync d e t2 t1 corr s
  | .ptpAnnounce d m ptpScale utc t => Sys2Proof.Machine.execPtpAnnounce d m ptpScale utc t s
  | .ptpDelayReqTimer d e t => Sys2Proof.Machine.execPtpDelayReqTimer d e t s
  | .ptpDelayResp d e c2 a b corr => Sys2Proof.Machine.execPtpDelayResp d e c2 a b corr s
  | .ptpPdelayReq d e c t => Sys2Proof.Machine.execPtpPdelayReq d e c t s
  | .syncTimeout d t => Sys2Proof.Machine.execSyncTimeout d t s
  | .announceReceiptTimeout d t => Sys2Proof.Machine.execAnnounceReceiptTimeout d t s
  | .servoDisable r d => Sys2Proof.Machine.execServoDisable r d s
  | .servoEnable r d => Sys2Proof.Machine.execServoEnable r d s
  | .prefReturnTimer t => Sys2Proof.Machine.execPrefReturnTimer t s
  | .continuitySlewTick t => Sys2Proof.Machine.execContinuitySlewTick t s
  | .legalTimeTick t => Sys2Proof.Machine.execLegalTimeTick t s
  | .zcEdge p t => Sys2Proof.Machine.execZcEdge p t s
  | .zcLoss p t => Sys2Proof.Machine.execZcLoss p t s
  | .launchPost host p f tag at_ asap => Sys2Proof.Machine.execLaunchPost host p f tag at_ asap s
  | .launchTimeReached host p t busy => Sys2Proof.Machine.execLaunchTimeReached host p t busy s
  | .plcSlotStart p t energy => Sys2Proof.Machine.execPlcSlotStart p t energy s
  | .plcFrameReceived p f fcsOk q t => Sys2Proof.Machine.execPlcFrameReceived p f fcsOk q t s
  | .plcAckWaitExpiry p t => Sys2Proof.Machine.execPlcAckWaitExpiry p t s
  | .impulse p ws t => Sys2Proof.Machine.execImpulse p ws t s
  | .plcGainTrack p target t => Sys2Proof.Machine.execPlcGainTrack p target t s
  | .afeFail p t => Sys2Proof.Machine.execAfeFail p t s
  | .afeResume p t => Sys2Proof.Machine.execAfeResume p t s
  | .blockedQueueTimeout p t => Sys2Proof.Machine.execBlockedQueueTimeout p t s
  | .portEnable r p t initOk => Sys2Proof.Machine.execPortEnable r p t initOk s
  | .portDisable r p => Sys2Proof.Machine.execPortDisable r p s
  | .portDrainDone p t => Sys2Proof.Machine.execPortDrainDone p t s
  | .radioSfdReceived p t => Sys2Proof.Machine.execRadioSfdReceived p t s
  | .radioFrameReceived p f fcsOk rssi t => Sys2Proof.Machine.execRadioFrameReceived p f fcsOk rssi t s
  | .radioTxDone p t => Sys2Proof.Machine.execRadioTxDone p t s
  | .radioAckTurnaround p t => Sys2Proof.Machine.execRadioAckTurnaround p t s
  | .radioAckWaitExpiry p t => Sys2Proof.Machine.execRadioAckWaitExpiry p t s
  | .radioRetryBackoff p t => Sys2Proof.Machine.execRadioRetryBackoff p t s
  | .lbtListenEnd p busy t => Sys2Proof.Machine.execLbtListenEnd p busy t s
  | .dutyBinTick p t => Sys2Proof.Machine.execDutyBinTick p t s
  | .dutyHoldExpiry p t => Sys2Proof.Machine.execDutyHoldExpiry p t s
  | .hopSlotStart p t => Sys2Proof.Machine.execHopSlotStart p t s
  | .chmapWrite r p lo t => Sys2Proof.Machine.execChmapWrite r p lo t s
  | .mapUpdateTimer p t => Sys2Proof.Machine.execMapUpdateTimer p t s
  | .repeatCopyGap p energy t => Sys2Proof.Machine.execRepeatCopyGap p energy t s
  | .pendingFrameSend p busy t => Sys2Proof.Machine.execPendingFrameSend p busy t s
  | .connEvent p ep t => Sys2Proof.Machine.execConnEvent p ep t s
  | .connEventMissed p ep t => Sys2Proof.Machine.execConnEventMissed p ep t s
  | .connSupervisionTimeout p ep t => Sys2Proof.Machine.execConnSupervisionTimeout p ep t s
  | .xcvrFail p t => Sys2Proof.Machine.execXcvrFail p t s
  | .xcvrReinit p ok t => Sys2Proof.Machine.execXcvrReinit p ok t s
  | .xcvrInitTimeout p t => Sys2Proof.Machine.execXcvrInitTimeout p t s
  | .joinReq t => Sys2Proof.Machine.execJoinReq t s
  | .joinDecision eui t => Sys2Proof.Machine.execJoinDecision eui t s
  | .nbrReport t => Sys2Proof.Machine.execNbrReport t s
  | .relayMiss t => Sys2Proof.Machine.execRelayMiss t s
  | .connReq t => Sys2Proof.Machine.execConnReq t s
  | .floodOrphan t => Sys2Proof.Machine.execFloodOrphan t s
  | .floodEcho t => Sys2Proof.Machine.execFloodEcho t s
  | .beaconTimer p t => Sys2Proof.Machine.execBeaconTimer p t s
  | .beaconReceived t => Sys2Proof.Machine.execBeaconReceived t s
  | .beaconMiss p eui t => Sys2Proof.Machine.execBeaconMiss p eui t s
  | .routeRecompute p t => Sys2Proof.Machine.execRouteRecompute p t s
  | .discoveryRoundTimer p t => Sys2Proof.Machine.execDiscoveryRoundTimer p t s
  | .netCtrlDisc r t => Sys2Proof.Machine.execNetCtrlDisc r t s
  | .netCtrlRecompute r t => Sys2Proof.Machine.execNetCtrlRecompute r t s
  | .netNbrIdxWrite r v => Sys2Proof.Machine.execNetNbrIdxWrite r v s
  | .cryptoLaneJob l fast t => Sys2Proof.Machine.execCryptoLaneJob l fast t s
  | .pollDue ep t => Sys2Proof.Machine.execPollDue ep t s
  | .requestStart t => Sys2Proof.Machine.execRequestStart t s
  | .respWaitExpiry ep t => Sys2Proof.Machine.execRespWaitExpiry ep t s
  | .backfillStart ch t => Sys2Proof.Machine.execBackfillStart ch t s
  | .sessionLifeExpiry ep t => Sys2Proof.Machine.execSessionLifeExpiry ep t s
  | .campaignBlock p t => Sys2Proof.Machine.execCampaignBlock p t s
  | .campaignActivateTime t => Sys2Proof.Machine.execCampaignActivateTime t s
  | .tariffPushLate ep slot t => Sys2Proof.Machine.execTariffPushLate ep slot t s
  | .fwPause r b => Sys2Proof.Machine.execFwPause r b s
  | .bfPause r b => Sys2Proof.Machine.execBfPause r b s
  | .shtDispatch c => Sys2Proof.Machine.execShtDispatch c s
  | .shtDoneDone c => Sys2Proof.Machine.execShtDoneDone c s
  | .shtDoneRequeue c k => Sys2Proof.Machine.execShtDoneRequeue c k s
  | .shtDoneYield c k => Sys2Proof.Machine.execShtDoneYield c k s
  | .shtDoneDelay c dlist ticks k => Sys2Proof.Machine.execShtDoneDelay c dlist ticks k s
  | .shtPost c d => Sys2Proof.Machine.execShtPost c d s
  | .shtCancel c id => Sys2Proof.Machine.execShtCancel c id s
  | .hwPostRetry src => Sys2Proof.Machine.execHwPostRetry src s
  | .taskWatchdog c t => Sys2Proof.Machine.execTaskWatchdog c t s
  | .delayListTick k t => Sys2Proof.Machine.execDelayListTick k t s
  | .shtTickWrite r k v => Sys2Proof.Machine.execShtTickWrite r k v s
  | .coreWithdraw r c => Sys2Proof.Machine.execCoreWithdraw r c s
  | .coreAdd r c => Sys2Proof.Machine.execCoreAdd r c s
  | .extDone c => Sys2Proof.Machine.execExtDone c s
  | .extRequeue c k => Sys2Proof.Machine.execExtRequeue c k s
  | .extYield c k => Sys2Proof.Machine.execExtYield c k s
  | .extDelay c dlist ticks k => Sys2Proof.Machine.execExtDelay c dlist ticks k s
  | .extPost c entry arg0 arg1 arg2 prio delay => Sys2Proof.Machine.execExtPost c entry arg0 arg1 arg2 prio delay s
  | .extCancel c id => Sys2Proof.Machine.execExtCancel c id s
  | .extBudgetOverrun c t => Sys2Proof.Machine.execExtBudgetOverrun c t s
  | .extFault c addr => Sys2Proof.Machine.execExtFault c addr s
  | .warpItem xi => Sys2Proof.Machine.execWarpItem xi s
  | .gapReport => Sys2Proof.Machine.execGapReport s
  | .gapWaitExpiry ch t => Sys2Proof.Machine.execGapWaitExpiry ch t s
  | .handoffOffer ch => Sys2Proof.Machine.execHandoffOffer ch s
  | .disposition => Sys2Proof.Machine.execDisposition s
  | .holdProbe => Sys2Proof.Machine.execHoldProbe s
  | .reanchor r ch => Sys2Proof.Machine.execReanchor r ch s
  | .edit r ch => Sys2Proof.Machine.execEdit r ch s
  | .ckptNow r => Sys2Proof.Machine.execCkptNow r s
  | .warpCheckpointSlice => Sys2Proof.Machine.execWarpCheckpointSlice s
  | .wrpRecIdxWrite r v => Sys2Proof.Machine.execWrpRecIdxWrite r v s
  | .slvReading => Sys2Proof.Machine.execSlvReading s
  | .boundary => Sys2Proof.Machine.execBoundary s
  | .sealSigned ok => Sys2Proof.Machine.execSealSigned ok s
  | .cardStage => Sys2Proof.Machine.execCardStage s
  | .cardSign sigOk => Sys2Proof.Machine.execCardSign sigOk s
  | .cardWithdraw sigOk => Sys2Proof.Machine.execCardWithdraw sigOk s
  | .holdDevice o => Sys2Proof.Machine.execHoldDevice o s
  | .releaseDevice o => Sys2Proof.Machine.execReleaseDevice o s
  | .holdChannel o => Sys2Proof.Machine.execHoldChannel o s
  | .releaseChannel o => Sys2Proof.Machine.execReleaseChannel o s
  | .reanchorConsent o => Sys2Proof.Machine.execReanchorConsent o s
  | .reanchorConsentExpiry ch => Sys2Proof.Machine.execReanchorConsentExpiry ch s
  | .reverify o romOk penOk => Sys2Proof.Machine.execReverify o romOk penOk s
  | .sealProgram o => Sys2Proof.Machine.execSealProgram o s
  | .legalUnlock o => Sys2Proof.Machine.execLegalUnlock o s
  | .legalCheckpointSlice => Sys2Proof.Machine.execLegalCheckpointSlice s
  | .legalPulseStart t n => Sys2Proof.Machine.execLegalPulseStart t n s
  | .legalPulseEnd t n => Sys2Proof.Machine.execLegalPulseEnd t n s
  | .penSelfTest k ok => Sys2Proof.Machine.execPenSelfTest k ok s
  | .pipeDisable r k => Sys2Proof.Machine.execPipeDisable r k s
  | .pipeEnable r k => Sys2Proof.Machine.execPipeEnable r k s
  | .recomputeJobEnd j => Sys2Proof.Machine.execRecomputeJobEnd j s
  | .balNotification => Sys2Proof.Machine.execBalNotification s
  | .balFactorCopy => Sys2Proof.Machine.execBalFactorCopy s
  | .balEvaluation t => Sys2Proof.Machine.execBalEvaluation t s
  | .balStateSave => Sys2Proof.Machine.execBalStateSave s
  | .balDisable r => Sys2Proof.Machine.execBalDisable r s
  | .balEnable r => Sys2Proof.Machine.execBalEnable r s
  | .balReset r n => Sys2Proof.Machine.execBalReset r n s
  | .balResetAll r => Sys2Proof.Machine.execBalResetAll r s
  | .balNodeIdxWrite r v => Sys2Proof.Machine.execBalNodeIdxWrite r v s
  | .journalRecordWrite => Sys2Proof.Machine.execJournalRecordWrite s
  | .archiveWrite => Sys2Proof.Machine.execArchiveWrite s
  | .cacheFold => Sys2Proof.Machine.execCacheFold s
  | .garbageCollection => Sys2Proof.Machine.execGarbageCollection s
  | .wearLevelMove p => Sys2Proof.Machine.execWearLevelMove p s
  | .nandOperationFail n readable => Sys2Proof.Machine.execNandOperationFail n readable s
  | .nandReadUncorrectable ch d => Sys2Proof.Machine.execNandReadUncorrectable ch d s
  | .fastAggregation ch m => Sys2Proof.Machine.execFastAggregation ch m s
  | .discard r stream => Sys2Proof.Machine.execDiscard r stream s
  | .nandChannelDrain r n => Sys2Proof.Machine.execNandChannelDrain r n s
  | .nandChannelJoin r n => Sys2Proof.Machine.execNandChannelJoin r n s
  | .nandChannelFail n => Sys2Proof.Machine.execNandChannelFail n s
  | .trngHealthFail => Sys2Proof.Machine.execTrngHealthFail s
  | .keyCopyWritten ep => Sys2Proof.Machine.execKeyCopyWritten ep s
  | .laneDisable r l => Sys2Proof.Machine.execLaneDisable r l s
  | .laneEnable r l => Sys2Proof.Machine.execLaneEnable r l s
  | .zeroSessions r => Sys2Proof.Machine.execZeroSessions r s
  | .zeroMeterKeys r => Sys2Proof.Machine.execZeroMeterKeys r s
  | .zeroAll r => Sys2Proof.Machine.execZeroAll r s
  | .hsHello e j cred nonce t => Sys2Proof.Machine.execHsHello e j cred nonce t s
  | .hsHost sid proof f t => Sys2Proof.Machine.execHsHost sid proof f t s
  | .handshakeTimeout sid t => Sys2Proof.Machine.execHandshakeTimeout sid t s
  | .regReq d reqId ops => Sys2Proof.Machine.execRegReq d reqId ops s
  | .dpData d bsn idx start addr bs => Sys2Proof.Machine.execDpData d bsn idx start addr bs s
  | .dpRead d addr n => Sys2Proof.Machine.execDpRead d addr n s
  | .dpIdleTimeout j t => Sys2Proof.Machine.execDpIdleTimeout j t s
  | .hstDpAddrWrite r lo => Sys2Proof.Machine.execHstDpAddrWrite r lo s
  | .dpCommitImage r im vddio => Sys2Proof.Machine.execDpCommitImage r im vddio s
  | .stageProgramDone readOk => Sys2Proof.Machine.execStageProgramDone readOk s
  | .dpCommitKeyImport r opened => Sys2Proof.Machine.execDpCommitKeyImport r opened s
  | .dpCommitMeterImage r => Sys2Proof.Machine.execDpCommitMeterImage r s
  | .dpCommitRecompute r => Sys2Proof.Machine.execDpCommitRecompute r s
  | .dpCommitCard r => Sys2Proof.Machine.execDpCommitCard r s
  | .evtAck d qseq => Sys2Proof.Machine.execEvtAck d qseq s
  | .subscribe d on => Sys2Proof.Machine.execSubscribe d on s
  | .keepalive d => Sys2Proof.Machine.execKeepalive d s
  | .close d => Sys2Proof.Machine.execClose d s
  | .sessionIdleTimeout j k t => Sys2Proof.Machine.execSessionIdleTimeout j k t s
  | .notifyTimer j t => Sys2Proof.Machine.execNotifyTimer j t s
  | .mdioStart r v => Sys2Proof.Machine.execMdioStart r v s
  | .mdioFrameDone data => Sys2Proof.Machine.execMdioFrameDone data s
  | .hostLinkChange e up => Sys2Proof.Machine.execHostLinkChange e up s
  | .hostArpNdEcho e vlan => Sys2Proof.Machine.execHostArpNdEcho e vlan s
  | .getLegalTotal o => Sys2Proof.Machine.execGetLegalTotal o s
  | .getMaxDemand o => Sys2Proof.Machine.execGetMaxDemand o s
  | .getLegalBlock o => Sys2Proof.Machine.execGetLegalBlock o s
  | .getWarpRecord o => Sys2Proof.Machine.execGetWarpRecord o s
  | .getArchive o => Sys2Proof.Machine.execGetArchive o s
  | .getBalance o => Sys2Proof.Machine.execGetBalance o s
  | .getDayRecord o => Sys2Proof.Machine.execGetDayRecord o s
  | .proof o => Sys2Proof.Machine.execProof o s
  | .getSeal o => Sys2Proof.Machine.execGetSeal o s
  | .getCard o => Sys2Proof.Machine.execGetCard o s
  | .getRecomputeJob o => Sys2Proof.Machine.execGetRecomputeJob o s
  | .recomputeSubmit o => Sys2Proof.Machine.execRecomputeSubmit o s
  | .recomputeCancel o => Sys2Proof.Machine.execRecomputeCancel o s
  | .keyCertIssue o => Sys2Proof.Machine.execKeyCertIssue o s
  | .getFwCampaign o => Sys2Proof.Machine.execGetFwCampaign o s
  | .fwCampaignActivate o => Sys2Proof.Machine.execFwCampaignActivate o s
  | .fwCampaignAbort o => Sys2Proof.Machine.execFwCampaignAbort o s
  | .readNow o => Sys2Proof.Machine.execReadNow o s
  | .getNode o => Sys2Proof.Machine.execGetNode o s
  | .heartbeatSend t => Sys2Proof.Machine.execHeartbeatSend t s
  | .heartbeatReceived x h t => Sys2Proof.Machine.execHeartbeatReceived x h t s
  | .heartbeatMiss t => Sys2Proof.Machine.execHeartbeatMiss t s
  | .claimRound t word low => Sys2Proof.Machine.execClaimRound t word low s
  | .pairHello x eui unitSel idDigest => Sys2Proof.Machine.execPairHello x eui unitSel idDigest s
  | .relinquishReceived x word => Sys2Proof.Machine.execRelinquishReceived x word s
  | .mirror x recs romOk penOk => Sys2Proof.Machine.execMirror x recs romOk penOk s
  | .keyent x es => Sys2Proof.Machine.execKeyent x es s
  | .campaignFrame x c => Sys2Proof.Machine.execCampaignFrame x c s
  | .keyReq x certOk => Sys2Proof.Machine.execKeyReq x certOk s
  | .keyXfer x k sigOk => Sys2Proof.Machine.execKeyXfer x k sigOk s
  | .bulkSlice x xi c => Sys2Proof.Machine.execBulkSlice x xi c s
  | .bulkDone x stamp => Sys2Proof.Machine.execBulkDone x stamp s
  | .resyncReq x => Sys2Proof.Machine.execResyncReq x s
  | .pairRetransmit => Sys2Proof.Machine.execPairRetransmit s
  | .pairLaneDown l => Sys2Proof.Machine.execPairLaneDown l s
  | .parResync r => Sys2Proof.Machine.execParResync r s
  | .parRelinquish r => Sys2Proof.Machine.execParRelinquish r s
  | .fabricParityError c serves first => Sys2Proof.Machine.execFabricParityError c serves first s
  | .sramParityError loc t => Sys2Proof.Machine.execSramParityError loc t s
  | .dramCe ch t => Sys2Proof.Machine.execDramCe ch t s
  | .dramUe d => Sys2Proof.Machine.execDramUe d s
  | .patrolScrub => Sys2Proof.Machine.execPatrolScrub s
  | .faultHoldExpiry t => Sys2Proof.Machine.execFaultHoldExpiry t s
  | .evtActIdxWrite r v => Sys2Proof.Machine.execEvtActIdxWrite r v s
  | .jqdCardIdxWrite r v => Sys2Proof.Machine.execJqdCardIdxWrite r v s
  | .synthesiserRelock => Sys2Proof.Machine.execSynthesiserRelock s
  | .plcPreambleDetected p gain t => Sys2Proof.Machine.execPlcPreambleDetected p gain t s
  | .plcDelimiterDetected p t => Sys2Proof.Machine.execPlcDelimiterDetected p t s
  | .plcHeaderDecoded p hcs ver len zc t => Sys2Proof.Machine.execPlcHeaderDecoded p hcs ver len zc t s
  | .plcCorrelationLost p x => Sys2Proof.Machine.execPlcCorrelationLost p x s
  | .radioRxErr p t => Sys2Proof.Machine.execRadioRxErr p t s
  | .sleepyCoverStart p ep busy t => Sys2Proof.Machine.execSleepyCoverStart p ep busy t s
  | .reportedLinkDrop t => Sys2Proof.Machine.execReportedLinkDrop t s
  | .sealTreeBuilt => Sys2Proof.Machine.execSealTreeBuilt s
  | .nandChannelDrainDone n => Sys2Proof.Machine.execNandChannelDrainDone n s
  | .trngHealthPass => Sys2Proof.Machine.execTrngHealthPass s
  | .keyImportDone => Sys2Proof.Machine.execKeyImportDone s
  | .zeroiseEraseDone => Sys2Proof.Machine.execZeroiseEraseDone s
  | .keyCertSigned => Sys2Proof.Machine.execKeyCertSigned s
  | .pairLaneUp l => Sys2Proof.Machine.execPairLaneUp l s

end Sys2Proof.Machine
end

