-- ==== Sys2Proof/Machine/Pins.lean ====
section
/-!
DEFINITION. The balls (02_package_signals.md R44 to R73): what each drives or takes in every phase of operation, and the words of a
PLC port's sample link (06_plc_ports.md R214 to R216). All are functions of State: no ball keeps a state of its own.
-/

namespace Sys2Proof.Machine
open Sys2Proof

/-- The balls that R71 gives states to. `p` is a field port, `n` a GPIO, NAND channel or host port. -/
inductive Ball where
  | fpSck (p : Nat)
  | fpSdo (p : Nat)
  | fpFs (p : Nat)
  | fpTxen (p : Nat)
  | fpSdi (p : Nat)
  | fpAux (p : Nat)
  | gpio (n : Nat)
  | dramResetCke
  | nandCe (n : Nat)
  | nandWp (n : Nat)
  | xspiReset
  | xspiCs
  | hostTx (n : Nat)
  | plTx (n : Nat)
  | claimD
  | claimC
  | avs
  | uartTx
  | tdo
  | rstoutN
  | faultN
  deriving DecidableEq, Repr

/-- What a ball does (R71): an output's level or state, or how an input is taken. `driven` stands for a level that changes with the
traffic. -/
inductive BallSt where
  | pullDown
  | hiZ
  | low
  | high
  | driven
  | electricalIdle
  | released
  | input
  | inputPullDown
  | ignored
  deriving DecidableEq, Repr

/-- A configured state as a ball shows it: RELEASE is high impedance. -/
def PadSt.ball : PadSt → BallSt
  | .driveLow => .low
  | .driveHigh => .high
  | .release => .hiZ

/-- PORST_N is low. -/
def State.inReset (s : State) : Bool := decide (s.sys.st = .reset)

/-- The flush and the flushed state. -/
def State.inFlush (s : State) : Bool := decide (s.sys.st = .flush ∨ s.sys.st = .flushed)

/-- The image enables field port `p`: it lists it with a mode (R51). Before the image is read no port counts as left out. -/
def State.portListed (s : State) (p : Nat) : Bool :=
  match s.sys.image with
  | some im => (im.port p).isSome
  | none => true

/-- The inactive state that the image gives FPn_TXEN (R44). -/
def State.txenInactive (s : State) (p : Nat) : PadSt :=
  match s.sys.image.bind (fun im => im.port p) with
  | some c => c.txenInactive
  | none => .release

/-- Port `p` transmits now: a frame is on the line or in the air. -/
def State.transmits (s : State) (p : Nat) : Bool :=
  match (s.port p).onAir with
  | some (_, e) => decide ((s.port p).airFrom ≤ s.tim.cnt ∧ (s.tim.cnt < e ∨ s.isPlc p = false))
  | none => false

/-- FPn_SCK, FPn_SDO and FPn_FS. -/
def State.fpOut (s : State) (p : Nat) : BallSt :=
  if s.inReset then .pullDown
  else if s.inFlush then .hiZ
  else if !s.portListed p then .hiZ
  else if s.running then (if s.sys.heddle then (if (s.port p).en then .driven else .pullDown) else .hiZ)
  else if (s.port p).en then .driven else .pullDown

/-- FPn_TXEN (R44, R48, R51, R71): active high through the gate, the configured inactive state with the gate closed. -/
def State.txen (s : State) (p : Nat) : BallSt :=
  if s.inReset then .pullDown
  else if !s.portListed p then .hiZ
  else if s.inFlush then (s.txenInactive p).ball
  else if !s.running then .pullDown
  else if !s.sys.heddle then (s.txenInactive p).ball
  else if s.transmits p then .high else .low

/-- FPn_SDI and FPn_AUX. -/
def State.fpIn (s : State) (p : Nat) : BallSt :=
  if s.inFlush then .ignored
  else if s.inReset || !s.running || !s.portListed p then .inputPullDown
  else if s.sys.heddle then .input else .ignored

/-- The active level of FPn_AUX on a radio port: what bit IRQ_LVL shows (R50, R298). -/
def State.auxActive (s : State) (p : Nat) : Bool :=
  match s.sys.image.bind (fun im => im.port p) with
  | some c => c.auxHigh
  | none => bit (s.radCfg p) 16

/-- A level on a radio port's FPn_AUX is an interrupt: the input is level-sensitive (R50). -/
def State.auxInterrupt (s : State) (p : Nat) (level : Bool) : Bool :=
  s.isRadio p && decide (s.fpIn p = .input) && (level == s.auxActive p)

/-- The claim bus lines of this unit (R71, R694, R698): released outside the run state and where PAIR_EN is 0. -/
def State.claimBall (s : State) : BallSt :=
  if s.sys.pairEn && s.running then .driven else .released

/-- The state of each ball (R71). (DEDUCED, log 149) -/
def State.ball (s : State) : Ball → BallSt
  | .fpSck p => s.fpOut p
  | .fpSdo p => s.fpOut p
  | .fpFs p => s.fpOut p
  | .fpTxen p => s.txen p
  | .fpSdi p => s.fpIn p
  | .fpAux p => s.fpIn p
  | .gpio n =>
    if n < 8 then (s.legalPad n).ball
    else if s.running || s.inFlush then .driven else .hiZ
  | .dramResetCke => if s.inReset || s.inFlush then .low else .driven
  | .nandCe _ =>
    if s.inReset || decide (s.sys.st = .flushed) then .hiZ
    else if s.bem.mounted || s.inFlush then .driven else .high
  | .nandWp _ =>
    if s.inReset then .hiZ
    else if decide (s.sys.st = .flushed) then .low
    else if s.bem.mounted || s.inFlush then .driven else .low
  | .xspiReset => if s.inReset then .low else if s.running || s.inFlush then .high else .released
  | .xspiCs =>
    if s.inReset then .hiZ
    else if s.inFlush then .high
    else if s.running then (if s.sys.stage = .writing then .driven else .high)
    else .driven
  | .hostTx e => if s.inReset || s.inFlush || s.clk.irc then .electricalIdle else if s.hostPortOn e then .driven else .electricalIdle
  | .plTx _ => if s.inReset || s.inFlush || !s.sys.pairEn || s.clk.irc then .electricalIdle else .driven
  | .claimD => s.claimBall
  | .claimC => s.claimBall
  | .avs => if s.inReset then .hiZ else .driven
  | .uartTx => if s.inReset then .hiZ else if s.running && !s.sys.sealClosed then .driven else .high
  | .tdo => .hiZ
  | .rstoutN => if s.inReset || s.sys.rstout then .low else .high
  | .faultN => if s.faultN then .released else .low

/-! The sample link of a PLC port (R214 to R216). -/

/-- The transmit sample of PLC port `p` at counter value `t`: 1.2 MS/s from the transmit instant on, 0 while the port does not transmit
(R215). -/
def State.dac (s : State) (p t : Nat) : Int :=
  match (s.port p).onAir with
  | some (i, e) =>
    if s.txen p = .high ∧ (s.port p).airFrom ≤ t ∧ t < e then
      plcSample (s.bandF p) (field (s.rg (portBase p + 0x100)) 15 8) (s.port p).airZc i.frame.bytes
        ((t - (s.port p).airFrom) * 3 / 1000)
    else 0
  | none => 0

/-- The word that PLC port `p` puts on FPn_SDO at counter value `t` (R215). -/
def State.sdo (s : State) (p t : Nat) : Nat := sdoWord (s.dac p t) (s.port p).gain

end Sys2Proof.Machine
end

