-- ==== Sys2Proof/Safety.lean ====
section
/-!
DEFINITION. What the statements speak of: the groups of state, what a command leaves alone, the well-formedness that every
step keeps, and what may ever happen to the OTP.
-/

namespace Sys2Proof.Machine
open Sys2Proof

/-- The groups of the state, one per field of `State`; the registers are one group per block of the register map as well (R650),
so that a change of the register file names the blocks whose registers it may change. -/
inductive Field where
  | blk (b : Fin 20)
  | pending | regs | snap | heldW | sys | clk | tmp | tim | ports | net | msn | sht | wrp | pen | slv | bal | bem | key
  | hst | par | evt | otp | nor | nand | fresh | out
  deriving DecidableEq, Repr

/-- Group `f` is the same in both states. -/
def Same (f : Field) (s t : State) : Prop :=
  match f with
  | .blk b => ∀ a, a / 0x10000 = b.val → t.rg a = s.rg a
  | .pending => t.pending = s.pending
  | .regs => t.regs = s.regs
  | .snap => t.snap = s.snap
  | .heldW => t.heldW = s.heldW
  | .sys => t.sys = s.sys
  | .clk => t.clk = s.clk
  | .tmp => t.tmp = s.tmp
  | .tim => t.tim = s.tim
  | .ports => t.ports = s.ports
  | .net => t.net = s.net
  | .msn => t.msn = s.msn
  | .sht => t.sht = s.sht
  | .wrp => t.wrp = s.wrp
  | .pen => t.pen = s.pen
  | .slv => t.slv = s.slv
  | .bal => t.bal = s.bal
  | .bem => t.bem = s.bem
  | .key => t.key = s.key
  | .hst => t.hst = s.hst
  | .par => t.par = s.par
  | .evt => t.evt = s.evt
  | .otp => t.otp = s.otp
  | .nor => t.nor = s.nor
  | .nand => t.nand = s.nand
  | .fresh => t.fresh = s.fresh
  | .out => t.out = s.out

/-- Nothing outside the groups `fs` changes from `s` to `t`. -/
def Only (fs : List Field) (s t : State) : Prop := ∀ f, f ∉ fs → Same f s t

/-- The active table: positions strictly rising, at most 256 entries (R721). -/
def ActOk (m : List (Nat × ActEvt)) : Prop := Store.sorted m = true ∧ m.length ≤ 256

/-- Every partition's event queue holds at most 4,096 records (R645). -/
def QueuesOk (m : Store Part) : Prop := ∀ e ∈ m, e.2.evq.length ≤ 4096

/-- Well-formed state: registers and ports in their canonical form (strictly rising keys, no entry equal to what an unlisted
key reads as), the active table and the event queues sound, at most 32 seal entries (R525). -/
structure Inv (s : State) : Prop where
  regs : Store.wf regReset s.regs = true
  ports : Store.wf (fun _ => Port.blank) s.ports = true
  active : ActOk s.evt.active
  queues : QueuesOk s.hst.parts
  seals : s.otp.seals.length ≤ 32

/-- OTP contents only ever gain: a seal entry once programmed stays at its place (R525), the Temple ratchet of an island
never falls (R133), and nothing else changes. -/
structure OtpGrows (o p : Otp) : Prop where
  rest : p = { o with seals := p.seals, ratchet := p.ratchet }
  seals : o.seals <+: p.seals
  ratchet : ∀ i, Store.get (fun _ => 0) o.ratchet i ≤ Store.get (fun _ => 0) p.ratchet i

/-- The command completes: the block goes on, in a state with `P`. -/
def Runs (c : Instr) (s : State) (P : State → Prop) : Prop := ∃ t, exec c s = .next t ∧ P t

/-- Nothing refuses requester `r` the write of the register at `a` (R753). -/
def Permits (s : State) (r : Requester) (a : Nat) : Prop := accessCheck s r true a 4 = some .ok

/-- The groups that a command may change: every other group is as before, whichever way the command ends. -/
def touches : Instr → List Field
  | .registerWrite _ _ _ _ => [.regs, .snap, .heldW, .sys, .clk, .tmp, .tim, .ports, .net, .msn, .sht, .wrp, .pen, .slv,
      .bal, .bem, .key, .hst, .par, .evt, .nor, .nand, .fresh, .out, .blk 0x00, .blk 0x01, .blk 0x02, .blk 0x03, .blk 0x04, .blk 0x05, .blk 0x06, .blk 0x07, .blk 0x08, .blk 0x09, .blk 0x0A, .blk 0x0B, .blk 0x0C, .blk 0x0D, .blk 0x0E, .blk 0x0F, .blk 0x10, .blk 0x11, .blk 0x12, .blk 0x13]
  | .wideValueLowWordRead _ _ _ => [.snap, .fresh, .out]
  | .porstNAssert => [.regs, .snap, .heldW, .sys, .clk, .tmp, .tim, .ports, .net, .msn, .sht, .wrp, .pen, .slv, .bal,
      .bem, .key, .hst, .par, .evt, .nor, .nand, .fresh, .blk 0x00, .blk 0x01, .blk 0x02, .blk 0x03, .blk 0x04, .blk 0x05, .blk 0x06, .blk 0x07, .blk 0x08, .blk 0x09, .blk 0x0A, .blk 0x0B, .blk 0x0C, .blk 0x0D, .blk 0x0E, .blk 0x0F, .blk 0x10, .blk 0x11, .blk 0x12, .blk 0x13]
  | .porstNRelease _ _ _ _ _ _ => [.regs, .snap, .heldW, .sys, .clk, .tmp, .tim, .ports, .net, .msn, .sht, .wrp, .pen,
      .slv, .bal, .bem, .key, .hst, .par, .evt, .blk 0x00, .blk 0x01, .blk 0x02, .blk 0x03, .blk 0x04, .blk 0x05, .blk 0x06, .blk 0x07, .blk 0x08, .blk 0x09, .blk 0x0A, .blk 0x0B, .blk 0x0C, .blk 0x0D, .blk 0x0E, .blk 0x0F, .blk 0x10, .blk 0x11, .blk 0x12, .blk 0x13]
  | .bistDone _ => [.regs, .snap, .heldW, .sys, .clk, .tmp, .tim, .hst, .evt, .out, .blk 0x00, .blk 0x01, .blk 0x02,
      .blk 0x03, .blk 0x04, .blk 0x05, .blk 0x06, .blk 0x07, .blk 0x08, .blk 0x09, .blk 0x0A, .blk 0x0B, .blk 0x0C, .blk 0x0D, .blk 0x0E, .blk 0x0F, .blk 0x10, .blk 0x11, .blk 0x12, .blk 0x13]
  | .dramTrainingDone _ _ => [.regs, .sys, .hst, .evt, .blk 0x11, .blk 0x13]
  | .imageVerifyDone _ _ => [.regs, .snap, .heldW, .sys, .clk, .tmp, .tim, .hst, .evt, .nor, .out, .blk 0x00, .blk 0x01,
      .blk 0x02, .blk 0x03, .blk 0x04, .blk 0x05, .blk 0x06, .blk 0x07, .blk 0x08, .blk 0x09, .blk 0x0A, .blk 0x0B, .blk 0x0C, .blk 0x0D, .blk 0x0E, .blk 0x0F, .blk 0x10, .blk 0x11, .blk 0x12, .blk 0x13]
  | .configCheck _ => [.regs, .snap, .heldW, .sys, .clk, .tmp, .tim, .ports, .net, .msn, .pen, .slv, .bal, .bem, .key,
      .hst, .par, .evt, .nand, .fresh, .out, .blk 0x00, .blk 0x01, .blk 0x02, .blk 0x03, .blk 0x04, .blk 0x05, .blk 0x06, .blk 0x07, .blk 0x08, .blk 0x09, .blk 0x0A, .blk 0x0B, .blk 0x0C, .blk 0x0D, .blk 0x0E, .blk 0x0F, .blk 0x10, .blk 0x11, .blk 0x12, .blk 0x13]
  | .regionLayout => [.regs, .snap, .heldW, .sys, .clk, .tmp, .tim, .hst, .evt, .out, .blk 0x00, .blk 0x01, .blk 0x02,
      .blk 0x03, .blk 0x04, .blk 0x05, .blk 0x06, .blk 0x07, .blk 0x08, .blk 0x09, .blk 0x0A, .blk 0x0B, .blk 0x0C, .blk 0x0D, .blk 0x0E, .blk 0x0F, .blk 0x10, .blk 0x11, .blk 0x12, .blk 0x13]
  | .beamMount _ => [.regs, .sys, .clk, .tmp, .wrp, .slv, .bem, .hst, .par, .evt, .nand, .out, .blk 0x0C, .blk 0x0F,
      .blk 0x11, .blk 0x13]
  | .legalReplay => [.regs, .sys, .slv, .bem, .hst, .par, .evt, .nand, .out, .blk 0x0C, .blk 0x0F, .blk 0x11, .blk 0x13]
  | .warpRebuild _ => [.regs, .sys, .wrp, .hst, .evt, .blk 0x11, .blk 0x13]
  | .keyRootDerivation _ _ _ _ => [.regs, .snap, .heldW, .sys, .clk, .tmp, .tim, .ports, .net, .msn, .sht, .key, .hst,
      .par, .evt, .fresh, .out, .blk 0x00, .blk 0x01, .blk 0x02, .blk 0x03, .blk 0x04, .blk 0x05, .blk 0x06, .blk 0x07,
      .blk 0x08, .blk 0x09, .blk 0x0A, .blk 0x0B, .blk 0x0C, .blk 0x0D, .blk 0x0E, .blk 0x0F, .blk 0x10, .blk 0x11, .blk 0x12, .blk 0x13]
  | .timeWaitExpiry _ => [.regs, .sys, .tim, .hst, .evt, .blk 0x11, .blk 0x13]
  | .roleDecision _ => [.sys, .tim, .par, .nand]
  | .runEntry _ _ => [.regs, .sys, .tim, .ports, .net, .msn, .sht, .wrp, .slv, .bal, .bem, .key, .hst, .par, .evt, .nor,
      .nand, .fresh, .out, .blk 0x04, .blk 0x05, .blk 0x06, .blk 0x08, .blk 0x09, .blk 0x0C, .blk 0x0E, .blk 0x0F, .blk 0x11, .blk 0x13]
  | .haltedUartReport => [.out]
  | .restart _ _ => [.regs, .snap, .heldW, .sys, .clk, .tmp, .tim, .ports, .net, .msn, .sht, .wrp, .pen, .slv, .bal,
      .bem, .key, .hst, .par, .evt, .nor, .fresh, .out, .blk 0x00, .blk 0x01, .blk 0x02, .blk 0x03, .blk 0x04, .blk 0x05, .blk 0x06, .blk 0x07, .blk 0x08, .blk 0x09, .blk 0x0A, .blk 0x0B, .blk 0x0C, .blk 0x0D, .blk 0x0E, .blk 0x0F, .blk 0x10, .blk 0x11, .blk 0x12, .blk 0x13]
  | .powerFailLatch _ => [.snap, .heldW, .sys, .clk, .tmp, .tim, .ports, .net, .msn, .sht, .wrp, .pen, .slv, .bal, .key,
      .hst, .par, .nor, .fresh, .out]
  | .flushComplete _ => [.sys, .bem, .nand]
  | .flushedReset => [.regs, .snap, .heldW, .sys, .clk, .tmp, .tim, .ports, .net, .msn, .sht, .wrp, .pen, .slv, .bal,
      .bem, .key, .hst, .par, .evt, .blk 0x00, .blk 0x01, .blk 0x02, .blk 0x03, .blk 0x04, .blk 0x05, .blk 0x06, .blk 0x07, .blk 0x08, .blk 0x09, .blk 0x0A, .blk 0x0B, .blk 0x0C, .blk 0x0D, .blk 0x0E, .blk 0x0F, .blk 0x10, .blk 0x11, .blk 0x12, .blk 0x13]
  | .sealChange _ _ => [.regs, .sys, .tim, .slv, .hst, .par, .evt, .nand, .out, .blk 0x0C, .blk 0x11, .blk 0x13]
  | .refclkQualified _ => [.regs, .clk, .tim, .ports, .net, .msn, .hst, .evt, .out, .blk 0x06, .blk 0x11, .blk 0x13]
  | .refclkLost _ _ => [.regs, .sys, .clk, .tim, .ports, .net, .msn, .slv, .key, .hst, .par, .evt, .out, .blk 0x06, .blk 0x0C, .blk 0x10, .blk 0x11, .blk 0x13]
  | .islandClose _ _ => [.regs, .snap, .heldW, .clk, .tmp, .tim, .ports, .net, .msn, .sht, .hst, .evt, .fresh, .out,
      .blk 0x00, .blk 0x01, .blk 0x02, .blk 0x03, .blk 0x04, .blk 0x05, .blk 0x06, .blk 0x07, .blk 0x08, .blk 0x09, .blk 0x0A, .blk 0x0B, .blk 0x0C, .blk 0x0D, .blk 0x0E, .blk 0x0F, .blk 0x10, .blk 0x11, .blk 0x12, .blk 0x13]
  | .islandCloseComplete _ _ _ => [.regs, .snap, .heldW, .clk, .tmp, .tim, .ports, .net, .msn, .sht, .hst, .evt, .fresh,
      .out, .blk 0x00, .blk 0x01, .blk 0x02, .blk 0x03, .blk 0x04, .blk 0x05, .blk 0x06, .blk 0x07, .blk 0x08, .blk 0x09, .blk 0x0A, .blk 0x0B, .blk 0x0C, .blk 0x0D, .blk 0x0E, .blk 0x0F, .blk 0x10, .blk 0x11, .blk 0x12, .blk 0x13]
  | .islandOpen _ _ _ _ => [.regs, .snap, .heldW, .clk, .tmp, .tim, .ports, .net, .msn, .sht, .hst, .evt, .fresh, .out,
      .blk 0x00, .blk 0x01, .blk 0x02, .blk 0x03, .blk 0x04, .blk 0x05, .blk 0x06, .blk 0x07, .blk 0x08, .blk 0x09, .blk 0x0A, .blk 0x0B, .blk 0x0C, .blk 0x0D, .blk 0x0E, .blk 0x0F, .blk 0x10, .blk 0x11, .blk 0x12, .blk 0x13]
  | .stepTargetWrite _ _ _ => [.clk, .tmp, .out]
  | .frequencyStepTick _ => [.clk, .tmp, .out]
  | .regulatorSettled _ => [.clk, .tmp, .out]
  | .avsWriteSettled _ => [.regs, .snap, .heldW, .clk, .tmp, .tim, .ports, .net, .msn, .sht, .hst, .evt, .fresh, .out,
      .blk 0x00, .blk 0x01, .blk 0x02, .blk 0x03, .blk 0x04, .blk 0x05, .blk 0x06, .blk 0x07, .blk 0x08, .blk 0x09, .blk 0x0A, .blk 0x0B, .blk 0x0C, .blk 0x0D, .blk 0x0E, .blk 0x0F, .blk 0x10, .blk 0x11, .blk 0x12, .blk 0x13]
  | .avsRetryTimer _ _ => [.regs, .clk, .tmp, .hst, .evt, .out, .blk 0x11, .blk 0x13]
  | .templeCycleTimer _ => [.regs, .clk, .tmp, .tim, .hst, .evt, .nand, .out, .blk 0x11, .blk 0x13]
  | .templeMeasure _ => [.regs, .clk, .tmp, .hst, .evt, .nand, .out, .blk 0x11, .blk 0x13]
  | .templeWindowEnd _ _ => [.regs, .clk, .tmp, .tim, .slv, .hst, .par, .evt, .otp, .nand, .out, .blk 0x0C, .blk 0x11,
      .blk 0x13]
  | .slackAlarm _ _ => [.regs, .clk, .tmp, .slv, .hst, .par, .evt, .otp, .nand, .out, .blk 0x0C, .blk 0x11, .blk 0x13]
  | .ptpSync _ _ _ _ _ => [.regs, .sys, .tim, .hst, .evt, .blk 0x11, .blk 0x13]
  | .ptpAnnounce _ _ _ _ _ => [.tim]
  | .ptpDelayReqTimer _ _ _ => [.tim, .out]
  | .ptpDelayResp _ _ _ _ _ _ => [.tim]
  | .ptpPdelayReq _ _ _ _ => [.tim, .out]
  | .syncTimeout _ _ => [.regs, .sys, .tim, .hst, .evt, .blk 0x11, .blk 0x13]
  | .announceReceiptTimeout _ _ => [.regs, .sys, .tim, .hst, .evt, .blk 0x11, .blk 0x13]
  | .servoDisable _ _ => [.regs, .sys, .tim, .hst, .evt, .out, .blk 0x04, .blk 0x11, .blk 0x13]
  | .servoEnable _ _ => [.regs, .sys, .tim, .hst, .evt, .out, .blk 0x04, .blk 0x11, .blk 0x13]
  | .prefReturnTimer _ => [.regs, .tim, .hst, .evt, .blk 0x11, .blk 0x13]
  | .continuitySlewTick _ => [.tim]
  | .legalTimeTick _ => [.regs, .tim, .wrp, .slv, .bem, .hst, .par, .evt, .nand, .out, .blk 0x0C, .blk 0x0F, .blk 0x11,
      .blk 0x13]
  | .zcEdge _ _ => [.regs, .tim, .ports, .net, .msn, .hst, .evt, .out, .blk 0x06, .blk 0x11, .blk 0x13]
  | .zcLoss _ _ => [.regs, .tim, .ports, .net, .msn, .hst, .evt, .out, .blk 0x06, .blk 0x11, .blk 0x13]
  | .launchPost _ _ _ _ _ _ => [.regs, .tim, .ports, .net, .msn, .fresh, .out, .blk 0x06]
  | .launchTimeReached _ _ _ _ => [.regs, .tim, .ports, .net, .msn, .out, .blk 0x06]
  | .plcSlotStart _ _ _ => [.regs, .tim, .ports, .net, .msn, .fresh, .out, .blk 0x06]
  | .plcFrameReceived _ _ _ _ _ => [.regs, .tim, .ports, .net, .msn, .key, .hst, .evt, .fresh, .out, .blk 0x06, .blk 0x08, .blk 0x09, .blk 0x11, .blk 0x13]
  | .plcAckWaitExpiry _ _ => [.regs, .tim, .ports, .net, .msn, .fresh, .out, .blk 0x06, .blk 0x08]
  | .impulse _ _ _ => [.regs, .tim, .ports, .net, .msn, .out, .blk 0x06]
  | .plcGainTrack _ _ _ => [.tim, .ports]
  | .afeFail _ _ => [.regs, .tim, .ports, .net, .msn, .hst, .evt, .out, .blk 0x06, .blk 0x11, .blk 0x13]
  | .afeResume _ _ => [.regs, .tim, .ports, .net, .msn, .hst, .evt, .out, .blk 0x06, .blk 0x11, .blk 0x13]
  | .blockedQueueTimeout _ _ => [.regs, .tim, .ports, .net, .msn, .out, .blk 0x06]
  | .portEnable _ _ _ _ => [.regs, .tim, .ports, .net, .msn, .hst, .evt, .fresh, .out, .blk 0x06, .blk 0x08, .blk 0x11,
      .blk 0x13]
  | .portDisable _ _ => [.regs, .ports, .net, .msn, .hst, .evt, .fresh, .out, .blk 0x06, .blk 0x08, .blk 0x11, .blk 0x13]
  | .portDrainDone _ _ => [.regs, .tim, .ports, .net, .msn, .hst, .evt, .fresh, .out, .blk 0x06, .blk 0x08, .blk 0x11,
      .blk 0x13]
  | .radioSfdReceived _ _ => [.tim, .ports, .out]
  | .radioFrameReceived _ _ _ _ _ => [.regs, .tim, .ports, .net, .msn, .key, .hst, .evt, .fresh, .out, .blk 0x06, .blk 0x08, .blk 0x09, .blk 0x11, .blk 0x13]
  | .radioTxDone _ _ => [.regs, .tim, .ports, .net, .msn, .hst, .evt, .out, .blk 0x06, .blk 0x11, .blk 0x13]
  | .radioAckTurnaround _ _ => [.regs, .tim, .ports, .out, .blk 0x06]
  | .radioAckWaitExpiry _ _ => [.regs, .tim, .ports, .net, .msn, .fresh, .out, .blk 0x06, .blk 0x08]
  | .radioRetryBackoff _ _ => [.regs, .tim, .ports, .out, .blk 0x06]
  | .lbtListenEnd _ _ _ => [.regs, .tim, .ports, .net, .msn, .fresh, .out, .blk 0x06]
  | .dutyBinTick _ _ => [.regs, .tim, .ports, .hst, .evt, .blk 0x11, .blk 0x13]
  | .dutyHoldExpiry _ _ => [.regs, .tim, .ports, .net, .msn, .out, .blk 0x06]
  | .hopSlotStart _ _ => [.regs, .tim, .ports, .out, .blk 0x06]
  | .chmapWrite _ _ _ _ => [.regs, .heldW, .tim, .ports, .net, .msn, .fresh, .out, .blk 0x06, .blk 0x08]
  | .mapUpdateTimer _ _ => [.regs, .tim, .ports, .net, .msn, .fresh, .out, .blk 0x06, .blk 0x08]
  | .repeatCopyGap _ _ _ => [.regs, .tim, .ports, .net, .msn, .fresh, .out, .blk 0x06, .blk 0x08]
  | .pendingFrameSend _ _ _ => [.regs, .tim, .ports, .net, .msn, .fresh, .out, .blk 0x06]
  | .connEvent _ _ _ => [.regs, .tim, .ports, .out, .blk 0x06]
  | .connEventMissed _ _ _ => [.regs, .tim, .ports, .out, .blk 0x06]
  | .connSupervisionTimeout _ _ _ => [.regs, .tim, .ports, .hst, .evt, .blk 0x06, .blk 0x11, .blk 0x13]
  | .xcvrFail _ _ => [.regs, .tim, .ports, .net, .msn, .hst, .evt, .out, .blk 0x06, .blk 0x11, .blk 0x13]
  | .xcvrReinit _ _ _ => [.regs, .tim, .ports, .net, .msn, .hst, .evt, .out, .blk 0x06, .blk 0x11, .blk 0x13]
  | .xcvrInitTimeout _ _ => [.regs, .tim, .ports, .hst, .evt, .blk 0x11, .blk 0x13]
  | .joinReq _ => [.tim, .net]
  | .joinDecision _ _ => [.regs, .tim, .ports, .net, .msn, .fresh, .out, .blk 0x06, .blk 0x08]
  | .nbrReport _ => [.regs, .tim, .ports, .net, .msn, .fresh, .out, .blk 0x06, .blk 0x08]
  | .relayMiss _ => [.regs, .tim, .ports, .net, .msn, .hst, .evt, .fresh, .out, .blk 0x06, .blk 0x08, .blk 0x11, .blk 0x13]
  | .connReq _ => [.regs, .tim, .ports, .net, .msn, .fresh, .out, .blk 0x06, .blk 0x08, .blk 0x09]
  | .floodOrphan _ => [.regs, .tim, .ports, .net, .msn, .hst, .evt, .fresh, .out, .blk 0x06, .blk 0x08, .blk 0x11, .blk 0x13]
  | .floodEcho _ => [.regs, .tim, .net, .blk 0x08]
  | .beaconTimer _ _ => [.regs, .tim, .ports, .net, .msn, .fresh, .out, .blk 0x06]
  | .beaconReceived _ => [.regs, .tim, .net, .hst, .evt, .blk 0x11, .blk 0x13]
  | .beaconMiss _ _ _ => [.regs, .tim, .ports, .net, .msn, .hst, .evt, .fresh, .out, .blk 0x06, .blk 0x08, .blk 0x11,
      .blk 0x13]
  | .routeRecompute _ _ => [.regs, .tim, .ports, .net, .msn, .fresh, .out, .blk 0x06, .blk 0x08]
  | .discoveryRoundTimer _ _ => [.regs, .tim, .ports, .net, .msn, .hst, .evt, .fresh, .out, .blk 0x06, .blk 0x08, .blk 0x11, .blk 0x13]
  | .netCtrlDisc _ _ => [.regs, .tim, .ports, .net, .msn, .hst, .evt, .fresh, .out, .blk 0x06, .blk 0x08, .blk 0x11,
      .blk 0x13]
  | .netCtrlRecompute _ _ => [.regs, .tim, .ports, .net, .msn, .hst, .evt, .fresh, .out, .blk 0x06, .blk 0x08, .blk 0x11, .blk 0x13]
  | .netNbrIdxWrite _ _ => [.regs, .net, .out, .blk 0x08]
  | .cryptoLaneJob _ _ _ => [.regs, .tim, .ports, .net, .msn, .sht, .key, .hst, .evt, .nand, .fresh, .out, .blk 0x05,
      .blk 0x06, .blk 0x08, .blk 0x09, .blk 0x10, .blk 0x11, .blk 0x13]
  | .pollDue _ _ => [.regs, .tim, .msn, .sht, .hst, .evt, .fresh, .out, .blk 0x05, .blk 0x09, .blk 0x11, .blk 0x13]
  | .requestStart _ => [.regs, .tim, .msn, .key, .blk 0x09]
  | .respWaitExpiry _ _ => [.regs, .tim, .msn, .sht, .key, .hst, .evt, .fresh, .out, .blk 0x05, .blk 0x09, .blk 0x10,
      .blk 0x11, .blk 0x13]
  | .backfillStart _ _ => [.regs, .tim, .msn, .sht, .hst, .evt, .fresh, .out, .blk 0x05, .blk 0x09, .blk 0x11, .blk 0x13]
  | .sessionLifeExpiry _ _ => [.tim, .msn, .key, .nand]
  | .campaignBlock _ _ => [.regs, .tim, .ports, .net, .msn, .sht, .hst, .evt, .fresh, .out, .blk 0x05, .blk 0x06, .blk 0x08, .blk 0x09, .blk 0x11, .blk 0x13]
  | .campaignActivateTime _ => [.regs, .tim, .msn, .sht, .hst, .evt, .nand, .fresh, .out, .blk 0x05, .blk 0x09, .blk 0x11, .blk 0x13]
  | .tariffPushLate _ _ _ => [.regs, .tim, .msn, .hst, .evt, .blk 0x11, .blk 0x13]
  | .fwPause _ _ => [.regs, .msn, .sht, .hst, .evt, .fresh, .out, .blk 0x05, .blk 0x09, .blk 0x11, .blk 0x13]
  | .bfPause _ _ => [.regs, .msn, .sht, .hst, .evt, .fresh, .out, .blk 0x05, .blk 0x09, .blk 0x11, .blk 0x13]
  | .shtDispatch _ => [.regs, .sht, .out, .blk 0x05]
  | .shtDoneDone _ => [.regs, .msn, .sht, .hst, .evt, .out, .blk 0x05, .blk 0x11, .blk 0x13]
  | .shtDoneRequeue _ _ => [.regs, .sht, .out, .blk 0x05]
  | .shtDoneYield _ _ => [.regs, .sht, .out, .blk 0x05]
  | .shtDoneDelay _ _ _ _ => [.regs, .sht, .out, .blk 0x05]
  | .shtPost _ _ => [.regs, .sht, .hst, .evt, .fresh, .out, .blk 0x05, .blk 0x0A, .blk 0x0E, .blk 0x0F, .blk 0x10, .blk 0x11, .blk 0x13]
  | .shtCancel _ _ => [.regs, .msn, .sht, .hst, .evt, .out, .blk 0x05, .blk 0x11, .blk 0x13]
  | .hwPostRetry _ => [.regs, .sht, .hst, .evt, .out, .blk 0x05, .blk 0x11, .blk 0x13]
  | .taskWatchdog _ _ => [.regs, .snap, .heldW, .sys, .tim, .msn, .sht, .hst, .evt, .fresh, .out, .blk 0x05, .blk 0x0A,
      .blk 0x0E, .blk 0x0F, .blk 0x10, .blk 0x11, .blk 0x13]
  | .delayListTick _ _ => [.regs, .tim, .sht, .out, .blk 0x05]
  | .shtTickWrite _ _ _ => [.regs, .out, .blk 0x05]
  | .coreWithdraw _ _ => [.regs, .snap, .heldW, .sht, .hst, .evt, .fresh, .out, .blk 0x05, .blk 0x0A, .blk 0x0E, .blk 0x0F, .blk 0x10, .blk 0x11, .blk 0x13]
  | .coreAdd _ _ => [.regs, .snap, .heldW, .sht, .hst, .evt, .fresh, .out, .blk 0x05, .blk 0x0A, .blk 0x0E, .blk 0x0F,
      .blk 0x10, .blk 0x11, .blk 0x13]
  | .extDone _ => [.regs, .sht, .hst, .evt, .out, .blk 0x05, .blk 0x11, .blk 0x13]
  | .extRequeue _ _ => [.regs, .sht, .out, .blk 0x05]
  | .extYield _ _ => [.regs, .sht, .out, .blk 0x05]
  | .extDelay _ _ _ _ => [.regs, .sht, .out, .blk 0x05]
  | .extPost _ _ _ _ _ _ _ => [.regs, .sht, .hst, .evt, .fresh, .out, .blk 0x05, .blk 0x0A, .blk 0x0E, .blk 0x0F, .blk 0x10, .blk 0x11, .blk 0x13]
  | .extCancel _ _ => [.regs, .msn, .sht, .hst, .evt, .out, .blk 0x05, .blk 0x11, .blk 0x13]
  | .extBudgetOverrun _ _ => [.regs, .tim, .sht, .hst, .evt, .out, .blk 0x05, .blk 0x11, .blk 0x13]
  | .extFault _ _ => [.regs, .sht, .hst, .evt, .out, .blk 0x05, .blk 0x11, .blk 0x13]
  | .warpItem _ => [.regs, .msn, .wrp, .bal, .bem, .hst, .evt, .out, .blk 0x0A, .blk 0x0F, .blk 0x10, .blk 0x11, .blk 0x13]
  | .gapReport => [.regs, .msn, .wrp, .bal, .bem, .hst, .evt, .blk 0x0A, .blk 0x0F, .blk 0x11, .blk 0x13]
  | .gapWaitExpiry _ _ => [.regs, .tim, .wrp, .bal, .bem, .hst, .evt, .blk 0x0A, .blk 0x0F, .blk 0x11, .blk 0x13]
  | .handoffOffer _ => [.regs, .wrp, .slv, .blk 0x0A]
  | .disposition => [.regs, .wrp, .slv, .bem, .hst, .evt, .blk 0x0A, .blk 0x0F, .blk 0x11, .blk 0x13]
  | .holdProbe => [.regs, .wrp, .slv, .blk 0x0A]
  | .reanchor _ _ => [.regs, .wrp, .bem, .hst, .evt, .out, .blk 0x0A, .blk 0x0F, .blk 0x11, .blk 0x13]
  | .edit _ _ => [.regs, .wrp, .bem, .hst, .evt, .out, .blk 0x0A, .blk 0x0F, .blk 0x11, .blk 0x13]
  | .ckptNow _ => [.wrp, .out]
  | .warpCheckpointSlice => [.regs, .wrp, .hst, .evt, .nand, .blk 0x11, .blk 0x13]
  | .wrpRecIdxWrite _ _ => [.regs, .wrp, .out, .blk 0x0A]
  | .slvReading => [.regs, .pen, .slv, .bal, .bem, .hst, .par, .evt, .nand, .out, .blk 0x0B, .blk 0x0C, .blk 0x0F, .blk 0x11, .blk 0x13]
  | .boundary => [.regs, .slv, .bem, .hst, .par, .evt, .nand, .out, .blk 0x0C, .blk 0x0F, .blk 0x11, .blk 0x13]
  | .sealSigned _ => [.regs, .slv, .key, .hst, .par, .evt, .nand, .out, .blk 0x0C, .blk 0x11, .blk 0x13]
  | .cardStage => [.regs, .slv, .hst, .par, .evt, .nand, .out, .blk 0x0C, .blk 0x11, .blk 0x13]
  | .cardSign _ => [.regs, .msn, .slv, .hst, .par, .evt, .nand, .out, .blk 0x0C, .blk 0x11, .blk 0x13]
  | .cardWithdraw _ => [.regs, .slv, .hst, .par, .evt, .nand, .out, .blk 0x0C, .blk 0x11, .blk 0x13]
  | .holdDevice _ => [.regs, .slv, .hst, .par, .evt, .nand, .out, .blk 0x0C, .blk 0x10, .blk 0x11, .blk 0x13]
  | .releaseDevice _ => [.regs, .slv, .hst, .par, .evt, .nand, .out, .blk 0x0C, .blk 0x10, .blk 0x11, .blk 0x13]
  | .holdChannel _ => [.regs, .slv, .hst, .par, .evt, .nand, .out, .blk 0x0C, .blk 0x10, .blk 0x11, .blk 0x13]
  | .releaseChannel _ => [.regs, .slv, .hst, .par, .evt, .nand, .out, .blk 0x0C, .blk 0x10, .blk 0x11, .blk 0x13]
  | .reanchorConsent _ => [.regs, .slv, .hst, .par, .evt, .nand, .out, .blk 0x0C, .blk 0x10, .blk 0x11, .blk 0x13]
  | .reanchorConsentExpiry _ => [.slv]
  | .reverify _ _ _ => [.regs, .slv, .hst, .par, .evt, .nand, .out, .blk 0x0C, .blk 0x10, .blk 0x11, .blk 0x13]
  | .sealProgram _ => [.regs, .slv, .hst, .par, .evt, .otp, .nand, .out, .blk 0x0C, .blk 0x10, .blk 0x11, .blk 0x13]
  | .legalUnlock _ => [.regs, .slv, .hst, .par, .evt, .nand, .out, .blk 0x0C, .blk 0x10, .blk 0x11, .blk 0x13]
  | .legalCheckpointSlice => [.regs, .slv, .bem, .hst, .par, .evt, .nand, .out, .blk 0x11, .blk 0x13]
  | .legalPulseStart _ _ => [.tim, .slv, .par, .out]
  | .legalPulseEnd _ _ => [.tim, .slv, .out]
  | .penSelfTest _ _ => [.regs, .sys, .pen, .slv, .hst, .par, .evt, .nand, .out, .blk 0x0B, .blk 0x0C, .blk 0x11, .blk 0x13]
  | .pipeDisable _ _ => [.pen, .out]
  | .pipeEnable _ _ => [.pen, .out]
  | .recomputeJobEnd _ => [.regs, .pen, .hst, .evt, .blk 0x0B, .blk 0x11, .blk 0x13]
  | .balNotification => [.regs, .bal, .hst, .evt, .blk 0x0E, .blk 0x11, .blk 0x13]
  | .balFactorCopy => [.bal]
  | .balEvaluation _ => [.regs, .tim, .bal, .bem, .hst, .evt, .blk 0x0E, .blk 0x0F, .blk 0x11, .blk 0x13]
  | .balStateSave => [.nand]
  | .balDisable _ => [.bal, .out]
  | .balEnable _ => [.bal, .out]
  | .balReset _ _ => [.regs, .bal, .hst, .evt, .out, .blk 0x11, .blk 0x13]
  | .balResetAll _ => [.regs, .bal, .hst, .evt, .out, .blk 0x11, .blk 0x13]
  | .balNodeIdxWrite _ _ => [.regs, .bal, .out, .blk 0x0E]
  | .journalRecordWrite => [.regs, .slv, .nand, .blk 0x0F]
  | .archiveWrite => [.regs, .wrp, .slv, .bem, .hst, .par, .evt, .nand, .out, .blk 0x0C, .blk 0x0F, .blk 0x11, .blk 0x13]
  | .cacheFold => [.regs, .wrp, .slv, .bem, .hst, .par, .evt, .nand, .out, .blk 0x0C, .blk 0x0F, .blk 0x11, .blk 0x13]
  | .garbageCollection => [.regs, .wrp, .slv, .bem, .hst, .par, .evt, .nand, .fresh, .out, .blk 0x0C, .blk 0x0F, .blk 0x11, .blk 0x13]
  | .wearLevelMove _ => [.regs, .wrp, .slv, .bem, .hst, .par, .evt, .nand, .out, .blk 0x0C, .blk 0x0F, .blk 0x11, .blk 0x13]
  | .nandOperationFail _ _ => [.regs, .wrp, .slv, .bem, .hst, .par, .evt, .nand, .out, .blk 0x0C, .blk 0x0F, .blk 0x11,
      .blk 0x13]
  | .nandReadUncorrectable _ _ => [.regs, .hst, .evt, .nand, .blk 0x0F, .blk 0x11, .blk 0x13]
  | .fastAggregation _ _ => [.regs, .bem, .fresh, .blk 0x0F]
  | .discard _ _ => [.regs, .nand, .out, .blk 0x0F]
  | .nandChannelDrain _ _ => [.sys, .bem, .out]
  | .nandChannelJoin _ _ => [.sys, .bem, .out]
  | .nandChannelFail _ => [.regs, .sys, .slv, .bem, .hst, .evt, .nand, .blk 0x11, .blk 0x13]
  | .trngHealthFail => [.regs, .key, .hst, .evt, .blk 0x11, .blk 0x13]
  | .keyCopyWritten _ => [.regs, .msn, .key, .hst, .par, .evt, .nand, .out, .blk 0x11, .blk 0x13]
  | .laneDisable _ _ => [.key, .out]
  | .laneEnable _ _ => [.key, .out]
  | .zeroSessions _ => [.regs, .msn, .key, .hst, .evt, .out, .blk 0x11, .blk 0x13]
  | .zeroMeterKeys _ => [.regs, .msn, .key, .hst, .evt, .out, .blk 0x11, .blk 0x13]
  | .zeroAll _ => [.regs, .msn, .key, .hst, .evt, .out, .blk 0x11, .blk 0x13]
  | .hsHello _ _ _ _ _ => [.regs, .tim, .hst, .out, .blk 0x11]
  | .hsHost _ _ _ _ => [.regs, .snap, .heldW, .tim, .hst, .out, .blk 0x10, .blk 0x11]
  | .handshakeTimeout _ _ => [.tim, .hst]
  | .regReq _ _ _ => [.regs, .snap, .heldW, .sys, .clk, .tmp, .tim, .ports, .net, .msn, .sht, .wrp, .pen, .slv, .bal,
      .bem, .key, .hst, .par, .evt, .nor, .nand, .fresh, .out, .blk 0x00, .blk 0x01, .blk 0x02, .blk 0x03, .blk 0x04,
      .blk 0x05, .blk 0x06, .blk 0x07, .blk 0x08, .blk 0x09, .blk 0x0A, .blk 0x0B, .blk 0x0C, .blk 0x0D, .blk 0x0E, .blk 0x0F, .blk 0x10, .blk 0x11, .blk 0x12, .blk 0x13]
  | .dpData _ _ _ _ _ _ => [.regs, .hst, .out, .blk 0x10, .blk 0x11]
  | .dpRead _ _ _ => [.regs, .hst, .out, .blk 0x10, .blk 0x11]
  | .dpIdleTimeout _ _ => [.regs, .tim, .hst, .blk 0x11]
  | .hstDpAddrWrite _ _ => [.heldW, .hst, .out]
  | .dpCommitImage _ _ _ => [.sys, .slv, .hst, .out]
  | .stageProgramDone _ => [.regs, .sys, .hst, .evt, .nor, .fresh, .blk 0x11, .blk 0x13]
  | .dpCommitKeyImport _ _ => [.regs, .key, .hst, .evt, .nand, .fresh, .out, .blk 0x11, .blk 0x13]
  | .dpCommitMeterImage _ => [.regs, .msn, .sht, .hst, .par, .evt, .nand, .fresh, .out, .blk 0x05, .blk 0x09, .blk 0x11,
      .blk 0x13]
  | .dpCommitRecompute _ => [.regs, .pen, .hst, .evt, .out, .blk 0x11, .blk 0x13]
  | .dpCommitCard _ => [.slv, .hst, .out]
  | .evtAck _ _ => [.regs, .hst, .out, .blk 0x10, .blk 0x11]
  | .subscribe _ _ => [.regs, .hst, .out, .blk 0x10, .blk 0x11]
  | .keepalive _ => [.regs, .hst, .out, .blk 0x10, .blk 0x11]
  | .close _ => [.regs, .hst, .out, .blk 0x10, .blk 0x11]
  | .sessionIdleTimeout _ _ _ => [.tim, .hst]
  | .notifyTimer _ _ => [.regs, .tim, .hst, .out, .blk 0x10, .blk 0x11]
  | .mdioStart _ _ => [.regs, .hst, .out, .blk 0x11]
  | .mdioFrameDone _ => [.regs, .hst, .blk 0x11]
  | .hostLinkChange _ _ => [.regs, .hst, .evt, .blk 0x11, .blk 0x13]
  | .hostArpNdEcho _ _ => [.out]
  | .getLegalTotal _ => [.regs, .hst, .out, .blk 0x10, .blk 0x11]
  | .getMaxDemand _ => [.regs, .hst, .out, .blk 0x10, .blk 0x11]
  | .getLegalBlock _ => [.regs, .hst, .out, .blk 0x10, .blk 0x11]
  | .getWarpRecord _ => [.regs, .hst, .out, .blk 0x10, .blk 0x11]
  | .getArchive _ => [.regs, .hst, .fresh, .out, .blk 0x10, .blk 0x11]
  | .getBalance _ => [.regs, .hst, .fresh, .out, .blk 0x10, .blk 0x11]
  | .getDayRecord _ => [.regs, .hst, .out, .blk 0x10, .blk 0x11]
  | .proof _ => [.regs, .hst, .out, .blk 0x10, .blk 0x11]
  | .getSeal _ => [.regs, .hst, .out, .blk 0x10, .blk 0x11]
  | .getCard _ => [.regs, .hst, .out, .blk 0x10, .blk 0x11]
  | .getRecomputeJob _ => [.regs, .hst, .out, .blk 0x10, .blk 0x11]
  | .recomputeSubmit _ => [.regs, .pen, .hst, .evt, .out, .blk 0x10, .blk 0x11, .blk 0x13]
  | .recomputeCancel _ => [.regs, .pen, .hst, .evt, .out, .blk 0x10, .blk 0x11, .blk 0x13]
  | .keyCertIssue _ => [.regs, .key, .hst, .out, .blk 0x10, .blk 0x11]
  | .getFwCampaign _ => [.regs, .hst, .out, .blk 0x10, .blk 0x11]
  | .fwCampaignActivate _ => [.regs, .msn, .hst, .out, .blk 0x10, .blk 0x11]
  | .fwCampaignAbort _ => [.regs, .msn, .hst, .evt, .nand, .out, .blk 0x10, .blk 0x11, .blk 0x13]
  | .readNow _ => [.regs, .msn, .hst, .out, .blk 0x09, .blk 0x10, .blk 0x11]
  | .getNode _ => [.regs, .hst, .out, .blk 0x10, .blk 0x11]
  | .heartbeatSend _ => [.regs, .tim, .out, .blk 0x12]
  | .heartbeatReceived _ _ _ => [.regs, .sys, .tim, .ports, .net, .msn, .slv, .key, .hst, .par, .evt, .out, .blk 0x06,
      .blk 0x0C, .blk 0x10, .blk 0x11, .blk 0x12, .blk 0x13]
  | .heartbeatMiss _ => [.regs, .tim, .hst, .par, .evt, .nand, .blk 0x11, .blk 0x12, .blk 0x13]
  | .claimRound _ _ _ => [.regs, .sys, .tim, .ports, .net, .msn, .sht, .wrp, .pen, .slv, .bal, .bem, .key, .hst, .par,
      .evt, .nand, .fresh, .out, .blk 0x05, .blk 0x06, .blk 0x08, .blk 0x09, .blk 0x0C, .blk 0x0E, .blk 0x0F, .blk 0x10,
      .blk 0x11, .blk 0x12, .blk 0x13]
  | .pairHello _ _ _ _ => [.regs, .msn, .key, .hst, .par, .evt, .out, .blk 0x11, .blk 0x12, .blk 0x13]
  | .relinquishReceived _ _ => [.regs, .msn, .key, .par, .out, .blk 0x12]
  | .mirror _ _ _ _ => [.regs, .msn, .wrp, .slv, .key, .hst, .par, .evt, .otp, .nand, .out, .blk 0x0C, .blk 0x11, .blk 0x12, .blk 0x13]
  | .keyent _ _ => [.regs, .msn, .key, .par, .nand, .out, .blk 0x12]
  | .campaignFrame _ _ => [.regs, .msn, .key, .par, .nand, .out, .blk 0x12]
  | .keyReq _ _ => [.regs, .msn, .key, .hst, .par, .evt, .nand, .fresh, .out, .blk 0x11, .blk 0x12, .blk 0x13]
  | .keyXfer _ _ _ => [.regs, .msn, .key, .hst, .par, .evt, .nand, .out, .blk 0x11, .blk 0x12, .blk 0x13]
  | .bulkSlice _ _ _ => [.regs, .msn, .key, .par, .out, .blk 0x12]
  | .bulkDone _ _ => [.regs, .msn, .wrp, .slv, .bem, .key, .hst, .par, .evt, .nand, .out, .blk 0x0C, .blk 0x11, .blk 0x12, .blk 0x13]
  | .resyncReq _ => [.regs, .msn, .key, .par, .out, .blk 0x12]
  | .pairRetransmit => [.regs, .out, .blk 0x12]
  | .pairLaneDown _ => [.regs, .hst, .par, .evt, .blk 0x11, .blk 0x13]
  | .parResync _ => [.regs, .sys, .ports, .net, .msn, .slv, .key, .hst, .par, .out, .blk 0x06, .blk 0x0C, .blk 0x10,
      .blk 0x11]
  | .parRelinquish _ => [.regs, .sys, .ports, .net, .msn, .slv, .key, .hst, .par, .out, .blk 0x06, .blk 0x0C, .blk 0x10,
      .blk 0x11]
  | .fabricParityError _ _ _ => [.regs, .snap, .heldW, .sys, .clk, .tmp, .tim, .ports, .net, .msn, .sht, .wrp, .pen,
      .slv, .bal, .bem, .key, .hst, .par, .evt, .nor, .nand, .fresh, .out, .blk 0x00, .blk 0x01, .blk 0x02, .blk 0x03,
      .blk 0x04, .blk 0x05, .blk 0x06, .blk 0x07, .blk 0x08, .blk 0x09, .blk 0x0A, .blk 0x0B, .blk 0x0C, .blk 0x0D, .blk 0x0E, .blk 0x0F, .blk 0x10, .blk 0x11, .blk 0x12, .blk 0x13]
  | .sramParityError _ _ => [.regs, .snap, .heldW, .sys, .clk, .tmp, .tim, .ports, .net, .msn, .sht, .wrp, .pen, .slv,
      .bal, .bem, .key, .hst, .par, .evt, .nor, .nand, .fresh, .out, .blk 0x00, .blk 0x01, .blk 0x02, .blk 0x03, .blk 0x04, .blk 0x05, .blk 0x06, .blk 0x07, .blk 0x08, .blk 0x09, .blk 0x0A, .blk 0x0B, .blk 0x0C, .blk 0x0D, .blk 0x0E, .blk 0x0F, .blk 0x10, .blk 0x11, .blk 0x12, .blk 0x13]
  | .dramCe _ _ => [.regs, .tim, .hst, .evt, .blk 0x11, .blk 0x13]
  | .dramUe _ => [.regs, .snap, .heldW, .sys, .clk, .tmp, .tim, .ports, .net, .msn, .sht, .wrp, .pen, .slv, .bal, .bem,
      .key, .hst, .par, .evt, .nor, .fresh, .out, .blk 0x00, .blk 0x01, .blk 0x02, .blk 0x03, .blk 0x04, .blk 0x05, .blk 0x06, .blk 0x07, .blk 0x08, .blk 0x09, .blk 0x0A, .blk 0x0B, .blk 0x0C, .blk 0x0D, .blk 0x0E, .blk 0x0F, .blk 0x10, .blk 0x11, .blk 0x12, .blk 0x13]
  | .patrolScrub => []
  | .faultHoldExpiry _ => [.regs, .tim, .hst, .evt, .blk 0x11, .blk 0x13]
  | .evtActIdxWrite _ _ => [.regs, .evt, .out, .blk 0x13]
  | .jqdCardIdxWrite _ _ => [.regs, .slv, .out, .blk 0x0D]
  | .synthesiserRelock => [.clk]
  | .plcPreambleDetected _ _ _ => [.regs, .tim, .ports, .net, .msn, .out, .blk 0x06]
  | .plcDelimiterDetected _ _ => [.tim, .ports]
  | .plcHeaderDecoded _ _ _ _ _ _ => [.regs, .tim, .ports, .net, .msn, .fresh, .out, .blk 0x06, .blk 0x08]
  | .plcCorrelationLost _ _ => [.regs, .tim, .ports, .net, .msn, .fresh, .out, .blk 0x06, .blk 0x08]
  | .radioRxErr _ _ => [.regs, .tim, .ports, .net, .msn, .fresh, .out, .blk 0x06, .blk 0x08]
  | .sleepyCoverStart _ _ _ _ => [.regs, .tim, .ports, .net, .msn, .fresh, .out, .blk 0x06]
  | .reportedLinkDrop _ => [.regs, .tim, .ports, .net, .msn, .fresh, .out, .blk 0x06, .blk 0x08]
  | .sealTreeBuilt => [.slv, .key]
  | .nandChannelDrainDone _ => [.regs, .sys, .bem, .nand, .blk 0x0F]
  | .trngHealthPass => [.regs, .key, .hst, .evt, .blk 0x11, .blk 0x13]
  | .keyImportDone => [.regs, .ports, .net, .msn, .key, .hst, .par, .evt, .nand, .fresh, .out, .blk 0x06, .blk 0x08,
      .blk 0x11, .blk 0x13]
  | .zeroiseEraseDone => [.regs, .key, .hst, .evt, .nand, .blk 0x11, .blk 0x13]
  | .keyCertSigned => [.regs, .key, .hst, .out, .blk 0x10, .blk 0x11]
  | .pairLaneUp _ => [.regs, .hst, .par, .evt, .out, .blk 0x11, .blk 0x13]

end Sys2Proof.Machine
end

