-- ==== Sys2Proof/WellFormed.lean ====
section
/-!
DEFINITION. Well-formed commands: every operand that names a part of the KD8064 names one that the spec gives it. No other command
can arrive.
-/

namespace Sys2Proof
open Sys2Proof.Machine

/-- A register address in either view (R12). -/
def okAddress (a : Nat) : Bool := decide (a < 2 ^ 24)
/-- A value of TIM_CNT, 64 bits (R175). -/
def okCount (t : Nat) : Bool := decide (t < 2 ^ 64)
/-- A field port. -/
def okPort (p : Nat) : Bool := decide (p < 64)
/-- A host port. -/
def okHostPort (e : Nat) : Bool := decide (e < 4)
/-- A host partition. -/
def okPartition (j : Nat) : Bool := decide (j < 8)
/-- A session slot of a partition. -/
def okSlot (k : Nat) : Bool := decide (k < 4)
/-- An island (R88). -/
def okIsland (i : Nat) : Bool := decide (i < 22)
/-- A step in CKV_STEP_i.TGT, four bits (R113). -/
def okStep (k : Nat) : Bool := decide (k < 16)
/-- An application core. -/
def okCore (c : Nat) : Bool := decide (c < 32)
/-- A delay list (R394). -/
def okDelayList (k : Nat) : Bool := decide (k < 8)
/-- A Shuttle source class. -/
def okClass (c : Nat) : Bool := decide (c < 64)
/-- A crypto lane. -/
def okLane (l : Nat) : Bool := decide (l < 16)
/-- A PEN pipe. -/
def okPipe (k : Nat) : Bool := decide (k < 4)
/-- A NAND channel. -/
def okNand (n : Nat) : Bool := decide (n < 8)
/-- A DRAM channel. -/
def okDram (n : Nat) : Bool := decide (n < 2)
/-- A lane of the Pair Link. -/
def okPairLane (l : Nat) : Bool := decide (l < 2)
/-- A legal output. -/
def okOutput (n : Nat) : Bool := decide (n < 8)
/-- A balance node, 16 bits (R553). -/
def okNode (n : Nat) : Bool := decide (n < 65536)
/-- A card slot (R534). -/
def okCard (n : Nat) : Bool := decide (n < 4096)
/-- A legal checkpoint slice (R515). -/
def okSlice (n : Nat) : Bool := decide (n < 1024)
/-- An endpoint, 20 bits. -/
def okEndpoint (e : Nat) : Bool := decide (e < 2 ^ 20)
/-- A channel in its CHID form, 22 bits (R422). -/
def okChannel (c : Chid) : Bool := decide (c < 2 ^ 22)
/-- An EUI-64. -/
def okEui (e : Nat) : Bool := decide (e < 2 ^ 64)
/-- The LENGTH of a link frame (R229, R264). -/
def okLength (f : Frame) : Bool := decide (15 ≤ f.len ∧ f.len ≤ 1280)
/-- A requester that exists. -/
def okRequester (r : Requester) : Bool :=
  match r with
  | .slot j k => okPartition j && okSlot k
  | .core c => okCore c
  | .uart => true
  | .recovery => true
/-- A sealed datagram's header: an existing partition, slot and host port, and a SEQ of 40 bits (R611, R624). -/
def okDatagram (d : Dg) : Bool := okPartition d.part && okSlot d.slot && okHostPort d.port && decide (d.seq < 2 ^ 40)
/-- An object request: a well-formed datagram, and bytes where bytes are meant. -/
def okObject (o : ObjReq) : Bool :=
  okDatagram o.dg && decide (o.oid.length = 6) && (o.oid ++ o.arg).all (fun b => decide (b < 256))

/-- The command is well-formed. -/
def Instr.wf (i : Instr) : Bool :=
  match i with
  | .registerWrite r a _ _ => okRequester r && okAddress a
  | .wideValueLowWordRead r a _ => okRequester r && okAddress a
  | .porstNAssert => true
  | .porstNRelease _ _ _ _ _ _ => true
  | .bistDone _ => true
  | .dramTrainingDone _ _ => true
  | .imageVerifyDone _ _ => true
  | .configCheck _ => true
  | .regionLayout => true
  | .beamMount _ => true
  | .legalReplay => true
  | .warpRebuild _ => true
  | .keyRootDerivation _ _ _ t => okCount t
  | .timeWaitExpiry t => okCount t
  | .roleDecision t => okCount t
  | .runEntry _ t => okCount t
  | .haltedUartReport => true
  | .restart r _ => okRequester r
  | .powerFailLatch t => okCount t
  | .flushComplete _ => true
  | .flushedReset => true
  | .sealChange _ t => okCount t
  | .refclkQualified t => okCount t
  | .refclkLost t _ => okCount t
  | .islandClose r i => okRequester r && okIsland i
  | .islandCloseComplete i _ t => okIsland i && okCount t
  | .islandOpen r i _ t => okRequester r && okIsland i && okCount t
  | .stepTargetWrite r i tgt => okRequester r && okIsland i && okStep tgt
  | .frequencyStepTick i => okIsland i
  | .regulatorSettled i => okIsland i
  | .avsWriteSettled _ => true
  | .avsRetryTimer _ _ => true
  | .templeCycleTimer t => okCount t
  | .templeMeasure r => okRequester r
  | .templeWindowEnd _ t => okCount t
  | .slackAlarm i _ => okIsland i
  | .ptpSync _ e t2 _ _ => okHostPort e && okCount t2
  | .ptpAnnounce _ _ _ _ t => okCount t
  | .ptpDelayReqTimer _ e t => okHostPort e && okCount t
  | .ptpDelayResp _ e c2 _ _ _ => okHostPort e && okCount c2
  | .ptpPdelayReq _ e c t => okHostPort e && okCount c && okCount t
  | .syncTimeout _ t => okCount t
  | .announceReceiptTimeout _ t => okCount t
  | .servoDisable r _ => okRequester r
  | .servoEnable r _ => okRequester r
  | .prefReturnTimer t => okCount t
  | .continuitySlewTick t => okCount t
  | .legalTimeTick t => okCount t
  | .zcEdge p t => okPort p && okCount t
  | .zcLoss p t => okPort p && okCount t
  | .launchPost host p f _ _ _ => (if host then okHostPort p else okPort p && okLength f)
  | .launchTimeReached host p t _ => (if host then okHostPort p else okPort p) && okCount t
  | .plcSlotStart p t _ => okPort p && okCount t
  | .plcFrameReceived p _ _ _ t => okPort p && okCount t
  | .plcAckWaitExpiry p t => okPort p && okCount t
  | .impulse p ws t => okPort p && ws.all (fun w => decide (w < 2 ^ 20)) && okCount t
  | .plcGainTrack p _ t => okPort p && okCount t
  | .afeFail p t => okPort p && okCount t
  | .afeResume p t => okPort p && okCount t
  | .blockedQueueTimeout p t => okPort p && okCount t
  | .portEnable r p t _ => okRequester r && okPort p && okCount t
  | .portDisable r p => okRequester r && okPort p
  | .portDrainDone p t => okPort p && okCount t
  | .radioSfdReceived p t => okPort p && okCount t
  | .radioFrameReceived p _ _ _ t => okPort p && okCount t
  | .radioTxDone p t => okPort p && okCount t
  | .radioAckTurnaround p t => okPort p && okCount t
  | .radioAckWaitExpiry p t => okPort p && okCount t
  | .radioRetryBackoff p t => okPort p && okCount t
  | .lbtListenEnd p _ t => okPort p && okCount t
  | .dutyBinTick p t => okPort p && okCount t
  | .dutyHoldExpiry p t => okPort p && okCount t
  | .hopSlotStart p t => okPort p && okCount t
  | .chmapWrite r p _ t => okRequester r && okPort p && okCount t
  | .mapUpdateTimer p t => okPort p && okCount t
  | .repeatCopyGap p _ t => okPort p && okCount t
  | .pendingFrameSend p _ t => okPort p && okCount t
  | .connEvent p ep t => okPort p && okEndpoint ep && okCount t
  | .connEventMissed p ep t => okPort p && okEndpoint ep && okCount t
  | .connSupervisionTimeout p ep t => okPort p && okEndpoint ep && okCount t
  | .xcvrFail p t => okPort p && okCount t
  | .xcvrReinit p _ t => okPort p && okCount t
  | .xcvrInitTimeout p t => okPort p && okCount t
  | .joinReq t => okCount t
  | .joinDecision eui t => okEui eui && okCount t
  | .nbrReport t => okCount t
  | .relayMiss t => okCount t
  | .connReq t => okCount t
  | .floodOrphan t => okCount t
  | .floodEcho t => okCount t
  | .beaconTimer p t => okPort p && okCount t
  | .beaconReceived t => okCount t
  | .beaconMiss p eui t => okPort p && okEui eui && okCount t
  | .routeRecompute p t => okPort p && okCount t
  | .discoveryRoundTimer p t => okPort p && okCount t
  | .netCtrlDisc r t => okRequester r && okCount t
  | .netCtrlRecompute r t => okRequester r && okCount t
  | .netNbrIdxWrite r _ => okRequester r
  | .cryptoLaneJob l _ t => okLane l && okCount t
  | .pollDue ep t => okEndpoint ep && okCount t
  | .requestStart t => okCount t
  | .respWaitExpiry ep t => okEndpoint ep && okCount t
  | .backfillStart ch t => okChannel ch && okCount t
  | .sessionLifeExpiry ep t => okEndpoint ep && okCount t
  | .campaignBlock p t => okPort p && okCount t
  | .campaignActivateTime t => okCount t
  | .tariffPushLate ep slot t => okEndpoint ep && okCard slot && okCount t
  | .fwPause r _ => okRequester r
  | .bfPause r _ => okRequester r
  | .shtDispatch c => okCore c
  | .shtDoneDone c => okCore c
  | .shtDoneRequeue c _ => okCore c
  | .shtDoneYield c _ => okCore c
  | .shtDoneDelay c dlist _ _ => okCore c && okDelayList dlist
  | .shtPost c _ => okCore c
  | .shtCancel c _ => okCore c
  | .hwPostRetry src => okClass src
  | .taskWatchdog c t => okCore c && okCount t
  | .delayListTick k t => okDelayList k && okCount t
  | .shtTickWrite r k _ => okRequester r && okDelayList k
  | .coreWithdraw r c => okRequester r && okCore c
  | .coreAdd r c => okRequester r && okCore c
  | .extDone c => okCore c
  | .extRequeue c _ => okCore c
  | .extYield c _ => okCore c
  | .extDelay c dlist _ _ => okCore c && okDelayList dlist
  | .extPost c _ _ _ _ _ _ => okCore c
  | .extCancel c _ => okCore c
  | .extBudgetOverrun c t => okCore c && okCount t
  | .extFault c _ => okCore c
  | .warpItem _ => true
  | .gapReport => true
  | .gapWaitExpiry ch t => okChannel ch && okCount t
  | .handoffOffer ch => okChannel ch
  | .disposition => true
  | .holdProbe => true
  | .reanchor r ch => okRequester r && okChannel ch
  | .edit r ch => okRequester r && okChannel ch
  | .ckptNow r => okRequester r
  | .warpCheckpointSlice => true
  | .wrpRecIdxWrite r _ => okRequester r
  | .slvReading => true
  | .boundary => true
  | .sealSigned _ => true
  | .cardStage => true
  | .cardSign _ => true
  | .cardWithdraw _ => true
  | .holdDevice o => okObject o
  | .releaseDevice o => okObject o
  | .holdChannel o => okObject o
  | .releaseChannel o => okObject o
  | .reanchorConsent o => okObject o
  | .reanchorConsentExpiry ch => okChannel ch
  | .reverify o _ _ => okObject o
  | .sealProgram o => okObject o
  | .legalUnlock o => okObject o
  | .legalCheckpointSlice => true
  | .legalPulseStart t n => okCount t && okOutput n
  | .legalPulseEnd t n => okCount t && okOutput n
  | .penSelfTest k _ => okPipe k
  | .pipeDisable r k => okRequester r && okPipe k
  | .pipeEnable r k => okRequester r && okPipe k
  | .recomputeJobEnd j => okPartition j
  | .balNotification => true
  | .balFactorCopy => true
  | .balEvaluation t => okCount t
  | .balStateSave => true
  | .balDisable r => okRequester r
  | .balEnable r => okRequester r
  | .balReset r n => okRequester r && okNode n
  | .balResetAll r => okRequester r
  | .balNodeIdxWrite r _ => okRequester r
  | .journalRecordWrite => true
  | .archiveWrite => true
  | .cacheFold => true
  | .garbageCollection => true
  | .wearLevelMove _ => true
  | .nandOperationFail n _ => okNand n
  | .nandReadUncorrectable ch _ => okNand ch
  | .fastAggregation ch _ => okChannel ch
  | .discard r _ => okRequester r
  | .nandChannelDrain r n => okRequester r && okNand n
  | .nandChannelJoin r n => okRequester r && okNand n
  | .nandChannelFail n => okNand n
  | .trngHealthFail => true
  | .keyCopyWritten ep => okEndpoint ep
  | .laneDisable r l => okRequester r && okLane l
  | .laneEnable r l => okRequester r && okLane l
  | .zeroSessions r => okRequester r
  | .zeroMeterKeys r => okRequester r
  | .zeroAll r => okRequester r
  | .hsHello e j _ _ t => okHostPort e && okPartition j && okCount t
  | .hsHost _ _ _ t => okCount t
  | .handshakeTimeout _ t => okCount t
  | .regReq d _ _ => okDatagram d
  | .dpData d _ _ _ _ _ => okDatagram d
  | .dpRead d _ _ => okDatagram d
  | .dpIdleTimeout j t => okPartition j && okCount t
  | .hstDpAddrWrite r _ => okRequester r
  | .dpCommitImage r _ _ => okRequester r
  | .stageProgramDone _ => true
  | .dpCommitKeyImport r _ => okRequester r
  | .dpCommitMeterImage r => okRequester r
  | .dpCommitRecompute r => okRequester r
  | .dpCommitCard r => okRequester r
  | .evtAck d _ => okDatagram d
  | .subscribe d _ => okDatagram d
  | .keepalive d => okDatagram d
  | .close d => okDatagram d
  | .sessionIdleTimeout j k t => okPartition j && okSlot k && okCount t
  | .notifyTimer j t => okPartition j && okCount t
  | .mdioStart r _ => okRequester r
  | .mdioFrameDone _ => true
  | .hostLinkChange e _ => okHostPort e
  | .hostArpNdEcho e _ => okHostPort e
  | .getLegalTotal o => okObject o
  | .getMaxDemand o => okObject o
  | .getLegalBlock o => okObject o
  | .getWarpRecord o => okObject o
  | .getArchive o => okObject o
  | .getBalance o => okObject o
  | .getDayRecord o => okObject o
  | .proof o => okObject o
  | .getSeal o => okObject o
  | .getCard o => okObject o
  | .getRecomputeJob o => okObject o
  | .recomputeSubmit o => okObject o
  | .recomputeCancel o => okObject o
  | .keyCertIssue o => okObject o
  | .getFwCampaign o => okObject o
  | .fwCampaignActivate o => okObject o
  | .fwCampaignAbort o => okObject o
  | .readNow o => okObject o
  | .getNode o => okObject o
  | .heartbeatSend t => okCount t
  | .heartbeatReceived _ _ t => okCount t
  | .heartbeatMiss t => okCount t
  | .claimRound t _ _ => okCount t
  | .pairHello _ eui _ _ => okEui eui
  | .relinquishReceived _ _ => true
  | .mirror _ _ _ _ => true
  | .keyent _ _ => true
  | .campaignFrame _ _ => true
  | .keyReq _ _ => true
  | .keyXfer _ _ _ => true
  | .bulkSlice _ i _ => okSlice i
  | .bulkDone _ _ => true
  | .resyncReq _ => true
  | .pairRetransmit => true
  | .pairLaneDown l => okPairLane l
  | .parResync r => okRequester r
  | .parRelinquish r => okRequester r
  | .fabricParityError _ _ _ => true
  | .sramParityError _ t => okCount t
  | .dramCe ch t => okDram ch && okCount t
  | .dramUe _ => true
  | .patrolScrub => true
  | .faultHoldExpiry t => okCount t
  | .evtActIdxWrite r _ => okRequester r
  | .jqdCardIdxWrite r _ => okRequester r
  | .synthesiserRelock => true
  | .plcPreambleDetected p _ t => okPort p && okCount t
  | .plcDelimiterDetected p t => okPort p && okCount t
  | .plcHeaderDecoded p hcs ver len zc t => okPort p && decide (hcs < 256 ∧ ver < 4 ∧ len < 2048 ∧ zc < 2048) && okCount t
  | .plcCorrelationLost p x => okPort p && okCount x.time
  | .radioRxErr p t => okPort p && okCount t
  | .sleepyCoverStart p ep _ t => okPort p && okEndpoint ep && okCount t
  | .reportedLinkDrop t => okCount t
  | .sealTreeBuilt => true
  | .nandChannelDrainDone n => okNand n
  | .trngHealthPass => true
  | .keyImportDone => true
  | .zeroiseEraseDone => true
  | .keyCertSigned => true
  | .pairLaneUp l => okPairLane l

end Sys2Proof
end

