-- ==== Sys2Proof/Premises.lean ====
section
/-!
DEFINITION. Premises that several statements share, each on the state and the operands alone.
-/

namespace Sys2Proof.Machine
open Sys2Proof

/-- Requester `r`, whose session is of partition `j` and acts in `role`, may commit region `code` now, and the region is not handed
over yet (R642). -/
def Commits (s : State) (r : Requester) (code j : Nat) (role : Role) : Prop :=
  s.ownPart r = some (j, role) ∧ s.handed j code = false ∧ Permits s r R.HST_DP_COMMIT ∧ s.commitStatus j role code = .ok

/-- Only an island that may be gated and runs is closing, and only a closing one is to open again. -/
def Settled (s : State) : Prop :=
  ∀ j < 22, ((s.isl j).closing = true → (s.isl j).en = true ∧ s.gateable j = true) ∧
    ((s.isl j).reopen = true → (s.isl j).closing = true)

/-- A Sync of the present master of domain `d` arrives at port `e` while its servo runs on REFCLK, and its sample is `x` (R183, R192). -/
def Syncs (s : State) (d : Bool) (e t2 : Nat) (t1 corr x : Int) : Prop :=
  s.ptpRuns = true ∧ s.timEn d = true ∧ s.tim.ircAt = none ∧ (s.tim.dom d).master.map (fun m => m.1.port) = some e ∧
  x = s.rxTime (s.tim.dom d) e t2 - t1 - (s.tim.dom d).pathDelay - corr - s.asym e

/-- Legal time ticks: in the run state, and from phase 6 on (R203). -/
def Ticking (s : State) : Prop := s.running = true ∨ (s.sys.st = .start ∧ 6 ≤ s.sys.phase)

/-- Legal time has a value to track from, a domain has locked, and at counter value `n` presented time is `g` ahead of what a tick gives
(R203). -/
def Tracks (s : State) (n : Nat) (g : Int) : Prop :=
  Ticking s ∧ (s.slv.ltRun = true ∨ s.slv.jTime ≠ none ∨ s.tim.presented (max s.tim.cnt n) < s.slv.lt) ∧
  (s.tim.domA.everLocked = true ∨ s.tim.domB.everLocked = true) ∧
  g = s.tim.presented (max s.tim.cnt n) - (s.slv.lt : Int) - s.tim.tickAdvance

/-- A slot of PLC port `p` starts at `n`, the port may send, and its medium is free (R233, R235). -/
def FreeSlot (s : State) (p n : Nat) : Prop :=
  s.isPlc p = true ∧ s.portOn p = true ∧ s.portBlocked p = false ∧ s.slotAt p n = true ∧ (s.port p).mediumBusy n = false

/-- A write of port `p`'s channel map with low word `lo` and the higher word held or present gives map `m`, whose channels the port's
plan lists, `top` the highest of it (R263, R302). -/
def MapWrite (s : State) (r : Requester) (p : Nat) (lo hi : Word) (m top : Nat) : Prop :=
  Permits s r (0x800000 + portBase p + 0x210) ∧ hi = s.heldOr r (portBase p + 0x214) (s.rg (portBase p + 0x214)) ∧
  m = lo.toNat + 2 ^ 32 * hi.toNat ∧ chansOf (s.chBase p) m ≠ [] ∧
  planTop (field (s.radCfg p) 18 18) (field (s.radCfg p) 20 19) = some top ∧ ∀ c ∈ chansOf (s.chBase p) m, c ≤ top

/-- Radio port `p` is free, from `n` on, to cover with frame `i` the sample of sleepy endpoint `ep`, configured as `c`, that is
predicted for `S` with uncertainty `U` (R274, R284). -/
def Covers (s : State) (p ep n : Nat) (i : TxItem) (c : EpCfg) (S U : Nat) : Prop :=
  s.isRadio p = true ∧ s.portOn p = true ∧ s.portBlocked p = false ∧ (s.port p).draining = false ∧ (s.port p).free = true ∧
  (s.port p).listenWait ≤ n ∧ (s.port p).queue.find? (fun i => i.sleepy = some ep) = some i ∧
  s.sys.image.bind (fun im => im.ep ep) = some c ∧ s.sample_ p i c.eui c.wakeMs n = (S, U) ∧ S ≤ n + U

/-- The kinds of message that NET takes one by one (08_field_network.md). -/
def Payload.kind : Payload → Nat
  | .command _ (.joinReq _ _ _ _ _) => 1
  | .command _ (.nbrReport _) => 2
  | .command _ (.relayMiss _ _) => 3
  | .command _ (.connReq _ _) => 4
  | .beacon _ => 5
  | .flood _ _ _ (.orphan _) => 6
  | .flood _ _ _ _ => 7
  | _ => 0

/-- Shuttle is quiet: no core waits for a task and no spill ring holds an entry. -/
def Quiet (s : State) : Prop := s.sht.waiting = [] ∧ s.spillHead = none

/-- Entry `e` is the next index of its channel, which Warp serves without a hold, in the time window and with room in the queues. -/
def NextEntry (s : State) (e : Entry) : Prop :=
  (s.wch e.ch).en = true ∧ (s.wch e.ch).held = [] ∧ e.ridx = (s.wch e.ch).lastIdx + 1 ∧
  (s.everLocked = true → e.capture ≤ s.nowNs + s.futTol * second) ∧ s.nowNs ≤ e.capture + s.pastMax ∧
  (s.wch e.ch).armed = false ∧ s.onProbe e.ch = false ∧ s.queueUsed + (s.wch e.ch).queue.length < 7864320

/-- Selvedge takes reading `e` up: no hold is in force, the index is new and its instant lies in the window of R492. -/
def InWindow (s : State) (e : Entry) : Prop :=
  s.devHold = false ∧ (s.lch e.ch).held = false ∧ ((s.lch e.ch).hasBase = true → (s.lch e.ch).lastIdx < e.ridx) ∧
  s.legalNs ≤ s.indexInstant e.ch e.ridx * second + s.legalWin * second ∧
  s.indexInstant e.ch e.ridx * second ≤ s.legalNs + 120 * second

/-- The slot that a start in phase 2 tries now (R153): the other one after a failure, else the preferred one, or not, where the
attempts of a trial are used up. -/
def State.slotTried (s : State) : Bool :=
  if s.sys.otherFailed then s.sys.slot
  else if s.nor.boot.trial ∧ s.nor.boot.attempts = 0 then !s.nor.boot.pref
  else s.nor.boot.pref

/-- The code with which a slot fails the checks of phase 2 (R156): 0 for none. -/
def State.slotCode (s : State) (b : Bool) : Nat :=
  match s.nor.slot b with
  | none => 0x11
  | some im => checkHead s.otp im

/-- Datagram `d` is accepted from session `x` (R624 to R626). -/
def Admits (s : State) (d : Dg) (x : Session) : Prop :=
  s.partTakes d.part d.port = true ∧ s.session d.part d.slot = some x ∧ x.sid = d.sid ∧ s.laneUp = true ∧ d.tagOk = true ∧
  x.fresh d.seq = true ∧ d.seq + 1 < 2 ^ 40 ∧ d.len ≤ s.dgLimit d.port ∧ x.txSeq + 1 < 2 ^ 40

/-- Datagram `d` is not accepted and not answered (R624, R626). -/
def Drops (s : State) (d : Dg) : Prop :=
  s.partTakes d.part d.port = false ∨ ∀ x, s.session d.part d.slot = some x →
    x.sid ≠ d.sid ∨ s.laneUp = false ∨ d.tagOk = false ∨ x.fresh d.seq = false

/-- Object request `o` of session `x` reaches its object of class `cls`, to which the session's role has the right (R633, R658, R660,
R663). -/
def Serves (s : State) (o : ObjReq) (x : Session) (cls : Nat) (i : Item) : Prop :=
  Admits s o.dg x ∧ x.kept.find? (fun y => y.1 = o.reqId) = none ∧ (∀ h, x.reqHigh = some h → h < o.reqId) ∧
  x.outstanding.length < 16 ∧ s.running = true ∧ o.b 0 = 0x80 ∧ o.b 2 = cls ∧ s.right o.dg.part x.role i = true ∧ o.argRef = false

/-- Request `o` has been answered with a status and result bytes in the datagram itself (R661, R662). -/
def Answered (s : State) (o : ObjReq) (st : Status) (bytes : List Nat) (t : State) : Prop :=
  ∃ q, .dgram o.dg.part o.dg.slot o.dg.port q (.objRsp o.reqId st s.rflags 0 bytes.length 0 bytes) ∈ t.out

/-- Request `o` has been answered with a result placed in OUT (R662). -/
def AnsweredOut (s : State) (o : ObjReq) (bytes : List Nat) (t : State) : Prop :=
  ∃ q a, (s.place o.dg.part bytes).2 = some a ∧
    .dgram o.dg.part o.dg.slot o.dg.port q (.objRsp o.reqId .ok s.rflags 1 bytes.length a []) ∈ t.out

/-- Object request `o` of session `x` carries authority command `cmd` to the ACTIVE unit. -/
def Commands (s : State) (o : ObjReq) (x : Session) (cmd : Nat) : Prop :=
  Serves s o x 0x90 .authority ∧ o.b 3 = cmd ∧ s.sys.st = .active

/-- The SLV island is clocked in the run state, and from phase 3 of START on; it is never on its way to being gated (R40). -/
def SlvClocked (s : State) : Prop :=
  (s.isl 17).closing = false ∧
  (s.running = true ∨ (s.sys.st = .start ∧ 3 ≤ s.sys.phase) → (s.isl 17).en = true)

/-- The register at S-view address `sv` is one word whose fields are only stored (R13): TIM_A_LIM, TIM_B_LIM, TIM_E_LAT_e,
TIM_FP_LAT_p, RPT_p_PLC_CFG, WRP_CMD_RIDX, BEM_CMD_FROM or BEM_CMD_TO. -/
def PlainReg (sv : Nat) : Prop :=
  sv = R.TIM_A_LIM ∨ sv = R.TIM_B_LIM ∨ (∃ e, e < 4 ∧ (sv = R.TIM_E_LAT_e_TX + 8 * e ∨ sv = R.TIM_E_LAT_e_RX + 8 * e)) ∨
  (∃ p, p < 64 ∧ sv = R.TIM_FP_LAT_p + 4 * p) ∨ (∃ p, p < 64 ∧ sv = R.RPT_p_PLC_CFG + 0x400 * p) ∨ sv = R.WRP_CMD_RIDX ∨
  sv = R.BEM_CMD_FROM ∨ sv = R.BEM_CMD_TO

/-- Register operations `ops` under REQ_ID `q` in a datagram of session `x` are to be performed (R632, R633). -/
def Asks (s : State) (d : Dg) (x : Session) (q : Nat) (ops : List RegOp) : Prop :=
  Admits s d x ∧ x.kept.find? (fun y => y.1 = q) = none ∧ (∀ h, x.reqHigh = some h → h < q) ∧ 0 < ops.length ∧ ops.length ≤ 127

/-- A REG_REQ has been answered with these results (R631, R632). -/
def RegsAnswered (d : Dg) (q : Nat) (rs : List (Status × Word)) (t : State) : Prop :=
  ∃ n, .dgram d.part d.slot d.port n (.regRsp q rs) ∈ t.out

/-- A frame of the Pair Link arrives whole on a lane in lock, and acknowledges nothing that waits (R686, R687). -/
def Hears (s : State) (x : PairRx) : Prop :=
  s.pairLive = true ∧ s.laneLock x.lane = true ∧ x.crcOk = true ∧ (x.sealed_ = true → x.tagOk = true) ∧
  ∀ f ∈ s.par.unacked, x.fack < f.fseq

/-- An event of that code is active, and lasts until it ends (R719). -/
def Lasts (s : State) (code : Nat) : Prop := ∃ x ∈ s.evt.active, x.2.ev.code = code ∧ x.2.expires = none

/-- A reliable frame arrives in its turn (R687). -/
def Delivers (s : State) (x : PairRx) : Prop := Hears s x ∧ x.fseq = s.par.fack + 1

end Sys2Proof.Machine
end

