-- ==== Sys2Proof/Certificates/Slice0/Obligations.lean ====
section
/-!
DEFINITION. The obligations: what the commands of the block do, by family, and what holds of every command and step. `Runs c s P` says that
command `c` completes in state `s` with a next state of which `P` holds; the other premises stand in Premises.lean.
-/

open Sys2Proof Sys2Proof.Machine

/-- R62, R64, R65, R67, R69, R139, R168, R581: what the resets, the power-fail latch, a restart and the flush do to the run state.
PORST_N low resets every register and holds the part in reset; its rise with TMODE low begins START with the straps latched. A
power-fail flushes from the run state and from START once the journal has been replayed, and leads to FLUSHED from where nothing has
been journaled; a keyed write of CFG_CTRL begins the flush in the run state and resets the part in RECOVERY, one without the key does
nothing. The flush ends in FLUSHED with the buffers in the reserves of a mounted NAND, and from there the part resets.
Where the spec is silent, clauses rest on the model's choices: log entries 29, 30, 31, 137. -/
def Obligations.ResetsPowerFailAndFlush : Prop :=
  (∀ s, Runs .porstNAssert s (fun t =>
    t.sys.st = .reset ∧ t.sys.rstout = true ∧ t.sys.heddle = false ∧ t.regs = [] ∧ t.ports = [] ∧ t.hst = Hst.reset ∧ t.otp = s.otp)) ∧
  (∀ d p u x c s, s.sys.st = .reset → Runs (.porstNRelease false d p u x c) s (fun t =>
    t.sys.st = .start ∧ t.sys.phase = 0 ∧ t.sys.cause = 0 ∧ t.sys.dbgEn = d ∧ t.sys.pairEn = p ∧ t.sys.unitSel = u ∧
    t.sys.xspiSafe = x ∧ t.sys.sealClosed = c ∧ t.regs = [] ∧ t.otp = s.otp ∧ t.nor = s.nor ∧ t.nand = s.nand)) ∧
  (∀ d p u x c s, s.sys.st = .reset → Runs (.porstNRelease true d p u x c) s (fun t => t.sys.st = .reset)) ∧
  (∀ n s, s.running = true ∨ (s.sys.st = .start ∧ 6 ≤ s.sys.phase) → Runs (.powerFailLatch n) s (fun t =>
    t.sys.st = .flush ∧ t.sys.cause = 1 ∧ t.sys.pfail = true ∧ t.sys.heddle = false ∧ t.sys.role = 0 ∧ t.sys.outsOff = true ∧
    t.sys.rstout = true ∧ s.slv.jbuf <+: t.slv.jbuf)) ∧
  (∀ n s, s.sys.st = .recovery ∨ s.sys.st = .halted ∨ (s.sys.st = .start ∧ s.sys.phase < 6) → Runs (.powerFailLatch n) s (fun t =>
    t.sys.st = .flushed ∧ t.sys.cause = 1 ∧ t.sys.pfail = true ∧ t.sys.heddle = false ∧ t.sys.role = 0 ∧ t.sys.outsOff = true ∧
    t.sys.rstout = true)) ∧
  (∀ n s, s.sys.st = .flush ∨ s.sys.st = .flushed → Runs (.powerFailLatch n) s (fun t => t.sys = { s.sys with pfail := true })) ∧
  (∀ r v s, Permits s r (0x800000 + R.CFG_CTRL) → field v 31 16 = 0xD064 → bit v 0 = true → s.running = true →
    Runs (.restart r v) s (fun t =>
      t.sys.st = .flush ∧ t.sys.cause = 2 ∧ t.sys.heddle = false ∧ t.sys.role = 0 ∧ t.sys.rstout = true)) ∧
  (∀ r v s, Permits s r (0x800000 + R.CFG_CTRL) → field v 31 16 = 0xD064 → bit v 0 = true → s.sys.st = .recovery →
    Runs (.restart r v) s (fun t =>
      t.sys.st = .start ∧ t.sys.phase = 0 ∧ t.sys.cause = 2 ∧ t.sys.rstout = true ∧ t.regs = [] ∧ t.otp = s.otp)) ∧
  (∀ r v s, Permits s r (0x800000 + R.CFG_CTRL) → field v 31 16 ≠ 0xD064 ∨ bit v 0 = false → Runs (.restart r v) s (fun t =>
    t = s.answered r (some .ok) 0)) ∧
  (∀ us s, s.sys.st = .flush → s.bem.mounted = true → Runs (.flushComplete us) s (fun t =>
    t.sys.st = .flushed ∧ t.nand.flushLegal = (if s.legalReserve then s.slv.jbuf else []) ∧
    t.nand.flushWarp = (if s.sysWrites then s.bem.warpBuf else []) ∧ t.nand.flushArch = (if s.sysWrites then s.bem.archBuf else []) ∧
    t.nand.flushed = some true ∧ t.bem.lastFlushUs = min 0xFFFF us)) ∧
  (∀ us s, s.sys.st = .flush → s.bem.mounted = false → Runs (.flushComplete us) s (fun t =>
    t.sys.st = .flushed ∧ t.nand = s.nand ∧ t.bem.lastFlushUs = min 0xFFFF us)) ∧
  (∀ s, s.sys.st = .flushed → Runs .flushedReset s (fun t =>
    t.sys.st = .start ∧ t.sys.phase = 0 ∧ t.sys.cause = s.sys.cause ∧ t.regs = [] ∧ t.nand = s.nand ∧ t.otp = s.otp))

/-- R66, R93 to R98, R180, R520, R524, R656: a change of the debounced SEAL level, and of the clock source. An opening seal sets the
hold's cause and spoils the verification once Selvedge runs; a closing one ends every MAINTENANCE session and leaves that cause. A
part on the IRC moves to a qualified REFCLK, and from a lost one to the IRC, synthesisers on hold until they relock; the loss is
counted, every session, handshake and link ends, and a unit of a pair drops its claim and, where it was active, stands by.
Where the spec is silent, clauses rest on the model's choices: log entries 29, 32, 33. -/
def Obligations.SealAndClockSource : Prop :=
  (∀ n s, s.sys.st ≠ .reset → s.sys.sealClosed = true → s.slvUp = true → Runs (.sealChange false n) s (fun t =>
    t.sys.sealClosed = false ∧ nbit t.slv.causes 2 = true ∧ t.slv.verified = false)) ∧
  (∀ n s, s.sys.st ≠ .reset → s.sys.sealClosed = false → s.slvUp = true → Runs (.sealChange true n) s (fun t =>
    t.sys.sealClosed = true ∧ nbit t.slv.causes 2 = nbit s.slv.causes 2 ∧
    ∀ j k x, t.session j k = some x → x.role ≠ .maintenance)) ∧
  (∀ c n s, s.sys.st ≠ .reset → s.sys.sealClosed ≠ c → s.slvUp = false → Runs (.sealChange c n) s (fun t =>
    t = { s.reach n with sys := { s.sys with sealClosed := c } })) ∧
  (∀ c n s, s.sys.sealClosed = c → Runs (.sealChange c n) s (fun t => t = s.reach n)) ∧
  (∀ n s, s.sys.st ≠ .reset → s.clk.refOk = false → s.clk.irc = true → Runs (.refclkQualified n) s (fun t =>
    t.clk = { s.clk with refOk := true, irc := false, hold := true } ∧ t.tim.ircAt = none)) ∧
  (∀ n s, s.sys.st ≠ .reset → s.clk.refOk = false → s.clk.irc = false → Runs (.refclkQualified n) s (fun t =>
    t = { s.reach n with clk := { s.clk with refOk := true } })) ∧
  (∀ n s, s.sys.st ≠ .reset → s.clk.refOk = true → Runs (.refclkQualified n) s (fun t => t = s.reach n)) ∧
  (∀ n q s, s.sys.st ≠ .reset → s.clk.refOk = true → Runs (.refclkLost n q) s (fun t =>
    t.clk = { s.clk with refOk := false, irc := true, hold := true, lossCnt := min 0xFFFF (s.clk.lossCnt + 1) } ∧
    t.tim.ircAt = some (max s.tim.cnt n) ∧ t.tim.ratio = some q ∧ t.hst.handshakes = [] ∧ t.hst.sessions = [] ∧ t.hst.link = [] ∧
    (s.sys.pairEn = true → t.par.claim = 0) ∧
    (s.sys.pairEn = true → s.sys.st = .active → t.sys.st = .standby ∧ t.sys.heddle = false))) ∧
  (∀ n q s, s.sys.st ≠ .reset → s.clk.refOk = false → Runs (.refclkLost n q) s (fun t => t = s.reach n)) ∧
  (∀ s, Runs .synthesiserRelock s (fun t => t = { s with clk := { s.clk with hold := false } }))

/-- R139, R143 to R149, R151 to R153, R156 to R159, R174: phases 0 to 4. The tests of phase 1 give the usable units, each the
conjunction of fuse and test, and a failed test or a kind of unit without a usable one halts the part with its code; DRAM training,
the choice and the checks of the image, and the layout of the regions lead on to phase 5 or to HALTED, and a slot that fails a check
to the other slot or to RECOVERY; the boot record counts the attempts of a trial.
Where the spec is silent, clauses rest on the model's choices: log entries 7, 34, 35, 39, 40. -/
def Obligations.StartToRegions : Prop :=
  (∀ b s, s.sys.st = .start → s.sys.phase ≤ 1 → b.otpOk = true → b.sysOk = true →
    Nat.land s.otp.fuseCore b.cores % 2 ^ 32 ≠ 0 → b.portMask s.otp.fusePort ≠ 0 → Nat.land s.otp.fuseNand b.nands % 2 ^ 8 ≠ 0 →
    Nat.land s.otp.fusePen b.pens % 2 ^ 4 ≠ 0 → Nat.land s.otp.fuseLane b.lanes % 2 ^ 16 ≠ 0 →
    Runs (.bistDone b) s (fun t => t.sys.st = .start ∧ t.sys.phase = 2 ∧
      (∀ c < 32, nbit t.sys.cores c = (nbit s.otp.fuseCore c && nbit b.cores c)) ∧
      (∀ p < 64, nbit t.sys.ports p = (nbit s.otp.fusePort p && nbit b.ports p && nbit b.groups (p / 8))) ∧
      (∀ n < 8, nbit t.sys.nands n = (nbit s.otp.fuseNand n && nbit b.nands n)) ∧
      (∀ k < 4, nbit t.sys.pens k = (nbit s.otp.fusePen k && nbit b.pens k)) ∧
      (∀ l < 16, nbit t.sys.lanes l = (nbit s.otp.fuseLane l && nbit b.lanes l)))) ∧
  (∀ b s, s.sys.st = .start → s.sys.phase ≤ 1 → b.otpOk = false → Runs (.bistDone b) s (fun t =>
    t.sys.st = .halted ∧ t.sys.failCode = 0x01 ∧ t.sys.rstout = true)) ∧
  (∀ b s, s.sys.st = .start → s.sys.phase ≤ 1 → b.otpOk = true → b.sysOk = false → Runs (.bistDone b) s (fun t =>
    t.sys.st = .halted ∧ t.sys.failCode = 0x02 ∧ t.sys.rstout = true)) ∧
  (∀ b s, s.sys.st = .start → s.sys.phase ≤ 1 → b.otpOk = true → b.sysOk = true →
    Nat.land s.otp.fuseCore b.cores % 2 ^ 32 = 0 ∨ b.portMask s.otp.fusePort = 0 ∨ Nat.land s.otp.fuseNand b.nands % 2 ^ 8 = 0 ∨
      Nat.land s.otp.fusePen b.pens % 2 ^ 4 = 0 ∨ Nat.land s.otp.fuseLane b.lanes % 2 ^ 16 = 0 →
    Runs (.bistDone b) s (fun t => t.sys.st = .halted ∧ t.sys.failCode = 0x03 ∧ t.sys.rstout = true)) ∧
  (∀ a b s, s.inPhase 2 = true → s.sys.dramA = 0 → Runs (.dramTrainingDone (some a) (some b)) s (fun t =>
    t = { s with sys := { s.sys with dramA := a, dramB := b } })) ∧
  (∀ a b s, s.inPhase 2 = true → s.sys.dramA = 0 → a = none ∨ b = none → Runs (.dramTrainingDone a b) s (fun t =>
    t.sys.st = .halted ∧ t.sys.failCode = 0x20 ∧ t.sys.rstout = true)) ∧
  (∀ n ok im s, s.inPhase 2 = true → s.sys.dramA ≠ 0 → 2048 ≤ n → s.nor.slot s.slotTried = some im → checkHead s.otp im = 0 →
    Runs (.imageVerifyDone n ok) s (fun t => t.sys.image = some im ∧ t.sys.st = .start ∧ t.sys.phase = 3 ∧ t.sys.slot = s.slotTried)) ∧
  (∀ n ok s, s.inPhase 2 = true → s.sys.dramA ≠ 0 → 2048 ≤ n → s.slotCode s.slotTried ≠ 0 → s.sys.otherFailed = false →
    Runs (.imageVerifyDone n ok) s (fun t => t.sys.image = none ∧ t.sys.st = .start ∧ t.sys.phase = 2 ∧ t.sys.otherFailed = true ∧
      t.sys.slot = !s.slotTried)) ∧
  (∀ n ok s, s.inPhase 2 = true → s.sys.dramA ≠ 0 → 2048 ≤ n → s.slotCode s.slotTried ≠ 0 → s.sys.otherFailed = true →
    Runs (.imageVerifyDone n ok) s (fun t => t.sys.st = .recovery ∧ t.sys.image = none ∧ t.sys.failCode = s.slotCode s.slotTried ∧
      t.sys.rstout = false)) ∧
  (∀ n ok s, s.inPhase 2 = true → s.sys.dramA ≠ 0 → n < 2048 → Runs (.imageVerifyDone n ok) s (fun t =>
    t.sys.st = .halted ∧ t.sys.failCode = 0x10 ∧ t.sys.rstout = true)) ∧
  (∀ n ok s, s.inPhase 2 = true → s.sys.dramA ≠ 0 → 2048 ≤ n → s.sys.otherFailed = false → s.nor.boot.trial = true →
    s.nor.boot.count + 1 < 2 ^ 32 → Runs (.imageVerifyDone n ok) s (fun t =>
      (s.nor.boot.attempts = 0 → t.nor.boot.trial = false ∧ t.nor.boot.pref = !s.nor.boot.pref) ∧
      (s.nor.boot.attempts ≠ 0 → t.nor.boot.trial = true ∧ t.nor.boot.pref = s.nor.boot.pref ∧
        t.nor.boot.attempts = s.nor.boot.attempts - 1))) ∧
  (∀ v im s, s.inPhase 3 = true → s.sys.image = some im → checkBody s.sys.pairEn v im = 0 → Runs (.configCheck v) s (fun t =>
    t.sys.st = .start ∧ t.sys.phase = 4 ∧ t.sys.image = some im ∧ t.sys.rstout = false ∧ t.clk.avsOn = true ∧
    (s.otp.seals = [] → nbit t.slv.causes 0 = true) ∧
    (∀ d, s.otp.seals.getLast? = some d → d ≠ im.legalDigest → nbit t.slv.causes 1 = true) ∧
    (s.sys.sealClosed = false → nbit t.slv.causes 2 = true) ∧ (s.sys.dbgEn = true → nbit t.slv.causes 3 = true))) ∧
  (∀ v im s, s.inPhase 3 = true → s.sys.image = some im → checkBody s.sys.pairEn v im ≠ 0 → s.sys.otherFailed = false →
    Runs (.configCheck v) s (fun t => t.sys.st = .start ∧ t.sys.phase = 2 ∧ t.sys.image = none ∧ t.sys.otherFailed = true ∧
      t.sys.slot = !s.sys.slot)) ∧
  (∀ v im s, s.inPhase 3 = true → s.sys.image = some im → checkBody s.sys.pairEn v im ≠ 0 → s.sys.otherFailed = true →
    Runs (.configCheck v) s (fun t => t.sys.st = .recovery ∧ t.sys.image = none ∧ t.sys.failCode = checkBody s.sys.pairEn v im ∧
      t.sys.rstout = false)) ∧
  (∀ im s, s.inPhase 4 = true → s.sys.image = some im → s.sys.dramA = s.sys.dramB → s.sys.dramA + s.sys.dramB = im.dramGiB →
    Runs .regionLayout s (fun t => t.sys = { s.sys with placed := true, phase := 5 } ∧ (t.isl 18).en = true)) ∧
  (∀ im s, s.inPhase 4 = true → s.sys.image = some im → s.sys.dramA ≠ s.sys.dramB ∨ s.sys.dramA + s.sys.dramB ≠ im.dramGiB →
    Runs .regionLayout s (fun t => t.sys.st = .halted ∧ t.sys.failCode = 0x21 ∧ t.sys.rstout = true))

/-- R98, R160 to R166, R169, R174: phases 5 to 11. The mount accepts this unit's NAND, with or without its legal partition or its
archive, formats an unowned one of an unsealed part, and refuses an unowned one of a sealed part and another unit's; replay, Warp's
rebuild, the keys, the wait for time, the role and the run state follow, each wait for no less than its time; a part that halted
with SEAL open reports over the UART.
Where the spec is silent, clauses rest on the model's choices: log entries 36, 37, 38, 41, 42. -/
def Obligations.StartToRun : Prop :=
  (∀ m s, s.inPhase 5 = true → s.nand.owner = some s.otp.eui → Runs (.beamMount m) s (fun t =>
    t.sys.st = .start ∧ t.sys.phase = 6 ∧ t.bem.mounted = true ∧ t.nand.owner = some s.otp.eui ∧ t.sys.legalUnread = !m.legalOk ∧
    (m.legalOk = false → nbit t.slv.causes 4 = true) ∧ (m.archOk = false → t.bem.notMounted = true))) ∧
  (∀ m s, s.inPhase 5 = true → s.nand.owner = none → s.otp.seals = [] → Runs (.beamMount m) s (fun t =>
    t.sys.st = .start ∧ t.sys.phase = 6 ∧ t.bem.mounted = true ∧ t.sys.formatted = true ∧ t.nand.owner = some s.otp.eui ∧
    t.nand.journal = [])) ∧
  (∀ m s, s.inPhase 5 = true → s.nand.owner = none → s.otp.seals ≠ [] → Runs (.beamMount m) s (fun t =>
    t.sys.st = .start ∧ t.sys.phase = 6 ∧ t.bem.notMounted = true ∧ nbit t.slv.causes 4 = true ∧ t.nand.owner = none)) ∧
  (∀ m e s, s.inPhase 5 = true → s.nand.owner = some e → e ≠ s.otp.eui → Runs (.beamMount m) s (fun t =>
    t.sys.st = .start ∧ t.sys.phase = 6 ∧ t.bem.notMounted = true ∧ nbit t.slv.causes 5 = true ∧ t.nand.owner = some e)) ∧
  (∀ s, s.inPhase 6 = true → Runs .legalReplay s (fun t => t.sys = { s.sys with phase := 7 })) ∧
  (∀ ok s, s.inPhase 7 = true → Runs (.warpRebuild ok) s (fun t => t.sys = { s.sys with phase := 8 })) ∧
  (∀ ok x n s, s.inPhase 8 = true → s.otp.rootOk = true ∨ s.sys.dbgEn = true → Runs (.keyRootDerivation true ok x n) s (fun t =>
    t.sys = { s.sys with phase := 9, phaseAt := max s.tim.cnt n } ∧ t.key.ready = true ∧ t.sht.accepting = true ∧
    t.sht.running = s.sys.cores)) ∧
  (∀ k ok x n s, s.inPhase 8 = true → k = false ∨ (s.otp.rootOk = false ∧ s.sys.dbgEn = false) →
    Runs (.keyRootDerivation k ok x n) s (fun t => t.sys.st = .halted ∧ t.sys.failCode = 0x40 ∧ t.sys.rstout = true)) ∧
  (∀ n s, s.inPhase 9 = true → s.sys.phaseAt + s.timeWait ≤ max s.tim.cnt n → Runs (.timeWaitExpiry n) s (fun t =>
    t.sys = { s.sys with phase := 10, phaseAt := max s.tim.cnt n, peerSeen := false })) ∧
  (∀ n s, s.inPhase 9 = true → max s.tim.cnt n < s.sys.phaseAt + s.timeWait → Runs (.timeWaitExpiry n) s (fun t => t = s.reach n)) ∧
  (∀ n s, s.inPhase 10 = true → s.par.claim = 0 → s.sys.pairEn = false → Runs (.roleDecision n) s (fun t =>
    t.sys = { s.sys with role := 1, phase := 11 })) ∧
  (∀ n s, s.inPhase 10 = true → s.par.claim = 0 → s.sys.pairEn = true → s.sys.phaseAt + msCounts 40 ≤ max s.tim.cnt n →
    s.clk.irc = true ∨ s.peerThere = true → Runs (.roleDecision n) s (fun t => t.sys = { s.sys with role := 2, phase := 11 })) ∧
  (∀ n s, s.inPhase 10 = true → s.par.claim = 0 → s.sys.pairEn = true → s.sys.phaseAt + msCounts 40 ≤ max s.tim.cnt n →
    s.clk.irc = false → s.peerThere = false → Runs (.roleDecision n) s (fun t =>
      t.sys = s.sys ∧ t.par.epoch = min 0xFFFFFE (s.par.epoch + 1) ∧ t.par.claim = t.par.epoch * 256 + s.rank)) ∧
  (∀ n s, s.inPhase 10 = true → s.sys.pairEn = true → max s.tim.cnt n < s.sys.phaseAt + msCounts 40 →
    Runs (.roleDecision n) s (fun t => t = s.reach n)) ∧
  (∀ ms n s, s.inPhase 11 = true → s.sys.role = 1 → Runs (.runEntry ms n) s (fun t =>
    t.sys.st = .active ∧ t.sys.role = 1 ∧ t.sys.heddle = (!s.sys.pairEn || decide (2 ≤ s.par.won)) ∧
    t.sys.startMs = min 0xFFFFFFFF ms)) ∧
  (∀ ms n s, s.inPhase 11 = true → s.sys.role = 2 → Runs (.runEntry ms n) s (fun t =>
    t.sys.st = .standby ∧ t.sys.role = 2 ∧ t.sys.heddle = false ∧ t.slv.handoff = false ∧ t.sys.startMs = min 0xFFFFFFFF ms)) ∧
  (∀ s, s.sys.st = .halted → s.sys.sealClosed = false → Runs .haltedUartReport s (fun t =>
    t = { s with out := s.out ++ [.uartReport s.sys.failCode s.sys.phase] })) ∧
  (∀ s, s.sys.st = .halted → s.sys.sealClosed = true → Runs .haltedUartReport s (fun t => t = s))

/-- R153, R154, R171: staging an image. A committed image, with the header its bytes spell, that passes the checks is written to the
slot the part does not run from, and one that fails is refused with its code; a slot that compares equal is entered in the boot
record as the trial of the next start with three attempts, one that does not is refused with code 0x1C. While an image is being
verified or written, another is refused.
Where the spec is silent, clauses rest on the model's choices: log entries 34, 43, 126. -/
def Obligations.Staging : Prop :=
  (∀ r im v j role s, Commits s r 0x01 j role → s.sys.stage ≠ .verifying → s.sys.stage ≠ .writing →
    s.stageCheck v (s.withHeader j im) = 0 → Runs (.dpCommitImage r im v) s (fun t =>
      t.sys = { s.sys with stage := .writing, stageCode := 0, staged := some (s.withHeader j im) } ∧ t.slv.unlock = false)) ∧
  (∀ r im v j role s, Commits s r 0x01 j role → s.sys.stage ≠ .verifying → s.sys.stage ≠ .writing →
    s.stageCheck v (s.withHeader j im) ≠ 0 → Runs (.dpCommitImage r im v) s (fun t =>
      t.sys = { s.sys with stage := .refused, stageCode := s.stageCheck v (s.withHeader j im) } ∧
      (t.part j).commitSt = .refused ∧ (t.part j).commitCode = Status.refused.code ∧ ((t.part j).region 0x01).busy = false)) ∧
  (∀ r im v j role s, Commits s r 0x01 j role → s.sys.stage = .verifying ∨ s.sys.stage = .writing →
    Runs (.dpCommitImage r im v) s (fun t =>
      t.sys = s.sys ∧ (t.part j).commitSt = .refused ∧ (t.part j).commitCode = Status.busy.code ∧
      ((t.part j).region 0x01).busy = false)) ∧
  (∀ s, s.sys.stage = .writing → s.running = true ∨ s.sys.st = .recovery → s.nor.boot.count + 1 < 2 ^ 32 →
    Runs (.stageProgramDone true) s (fun t =>
      t.sys.stage = .ready ∧ t.sys.staged = none ∧ t.nor.slot (!s.sys.slot) = s.sys.staged ∧
      t.nor.slot s.sys.slot = s.nor.slot s.sys.slot ∧ t.nor.boot.pref = (!s.sys.slot) ∧ t.nor.boot.trial = true ∧
      t.nor.boot.attempts = 3)) ∧
  (∀ s, s.sys.stage = .writing → s.running = true ∨ s.sys.st = .recovery → Runs (.stageProgramDone false) s (fun t =>
    t.sys.stage = .refused ∧ t.sys.stageCode = 0x1C ∧ t.sys.staged = none ∧ t.nor.slot s.sys.slot = s.nor.slot s.sys.slot ∧
    t.nor.boot = s.nor.boot))

/-- R40, R88, R102 to R107, R117: gating. Closing a gateable island takes it to the closing state and leaves every other island alone;
once its functions have drained it is gated, or opened again where that was requested meanwhile; opening a closed one lets it run at
its effective step, at once where its rail is high enough and after the rail has risen where it is not. A request to gate an island
that may not be gated is answered DENIED and changes nothing.
Where the spec is silent, clauses rest on the model's choices: log entries 23, 44, 45. -/
def Obligations.IslandsGate : Prop :=
  (∀ r i s, Permits s r (0x800000 + R.CKV_ISL_EN) → Settled s → i < 22 → (s.isl i).en = true → (s.isl i).closing = false →
    s.gateable i = true → Runs (.islandClose r i) s (fun t =>
      (t.isl i).closing = true ∧ (t.isl i).busy = true ∧ (t.isl i).en = true ∧ ∀ j, j ≠ i → t.isl j = s.isl j)) ∧
  (∀ r i s, Permits s r (0x800000 + R.CKV_ISL_EN) → Settled s → i < 22 → (s.isl i).closing = true →
    Runs (.islandClose r i) s (fun t => t.isl i = { s.isl i with reopen := false } ∧ ∀ j, j ≠ i → t.isl j = s.isl j)) ∧
  (∀ r i s, Permits s r (0x800000 + R.CKV_ISL_EN) → Settled s → i < 22 → (s.isl i).en = false →
    Runs (.islandClose r i) s (fun t => (t.isl i).en = false ∧ (t.isl i).opening = none ∧ ∀ j, j ≠ i → t.isl j = s.isl j)) ∧
  (∀ r i s, Permits s r (0x800000 + R.CKV_ISL_EN) → 0 < i → i < 22 → (s.isl i).en = true → s.gateable i = false →
    Runs (.islandClose r i) s (fun t => t = s.answered r (some .denied) 0)) ∧
  (∀ i ok n s, s.running = true → (s.isl i).closing = true → (s.isl i).reopen = false → s.drainedIsl i = true →
    Runs (.islandCloseComplete i ok n) s (fun t => (t.isl i).en = false ∧ (t.isl i).closing = false ∧ (t.isl i).busy = false ∧
      ∀ j, j ≠ i → t.isl j = s.isl j)) ∧
  (∀ i ok n s, s.running = true → i < 22 → (s.isl i).closing = true → (s.isl i).reopen = true → s.drainedIsl i = true →
    Runs (.islandCloseComplete i ok n) s (fun t => (t.isl i).closing = false ∧ (t.isl i).reopen = false ∧
      ((t.isl i).en = true ∨ ((t.isl i).opening = some ok ∧ (t.isl i).busy = true)) ∧ ∀ j, j ≠ i → t.isl j = s.isl j)) ∧
  (∀ i ok n s, s.running = true → s.drainedIsl i = false → Runs (.islandCloseComplete i ok n) s (fun t => t = s.reach n)) ∧
  (∀ r i ok n s, Permits s r (0x800000 + R.CKV_ISL_EN) → Settled s → 0 < i → i < 22 → (s.isl i).en = false →
    (s.isl i).opening = none → s.openReady i = true → Runs (.islandOpen r i ok n) s (fun t =>
      (t.isl i).en = true ∧ (t.isl i).closing = false ∧ (steppable i = true → (t.isl i).cur = (s.isl i).eff) ∧
      ∀ j, j ≠ i → t.isl j = s.isl j)) ∧
  (∀ r i ok n s, Permits s r (0x800000 + R.CKV_ISL_EN) → Settled s → 0 < i → i < 22 → (s.isl i).en = false →
    (s.isl i).opening = none → s.openReady i = false → (s.clk.rail (onHi i)).fail = false →
    Runs (.islandOpen r i ok n) s (fun t => (t.isl i).en = false ∧ (t.isl i).opening = some ok ∧ (t.isl i).busy = true ∧
      (t.clk.rail (onHi i)).final = s.openNeed i ∧ ∀ j, j ≠ i → t.isl j = s.isl j)) ∧
  (∀ r i ok n s, Permits s r (0x800000 + R.CKV_ISL_EN) → Settled s → 0 < i → i < 22 → (s.isl i).closing = true →
    Runs (.islandOpen r i ok n) s (fun t => t.isl i = { s.isl i with reopen := true } ∧ ∀ j, j ≠ i → t.isl j = s.isl j)) ∧
  (∀ r i ok n s, Permits s r (0x800000 + R.CKV_ISL_EN) → Settled s → 0 < i → i < 22 → (s.isl i).en = true →
    (s.isl i).closing = false → Runs (.islandOpen r i ok n) s (fun t => ∀ j, t.isl j = s.isl j))

/-- R95, R110, R113 to R119: operating points. A write of TGT above 12 is taken as 12; a tick moves the frequency by one step toward its
goal, and none while the synthesisers are on hold; a settled regulator stands at the planned voltage on its grid; a settled AVSBus
write is the rail's voltage and ends its failure; a retry that succeeds ends the failure, and the third that fails sets it.
Where the spec is silent, clauses rest on the model's choices: log entries 45, 150. -/
def Obligations.OperatingPoints : Prop :=
  (∀ r i n s, Permits s r (0x800000 + stepAddr i) → n < 16 → Runs (.stepTargetWrite r i n) s (fun t =>
    (t.isl i).tgt = min 12 n ∧ (t.isl i).limit = (s.isl i).limit ∧ ∀ j, j ≠ i → t.isl j = s.isl j)) ∧
  (∀ i s, s.treadle = true → s.clk.hold = false → steppable i = true → (s.isl i).en = true → (s.isl i).trans = .stepping →
    Runs (.frequencyStepTick i) s (fun t =>
      ((s.isl i).cur < (s.isl i).goal → (t.isl i).cur = (s.isl i).cur + 1) ∧
      ((s.isl i).goal < (s.isl i).cur → (t.isl i).cur = (s.isl i).cur - 1) ∧
      ((s.isl i).cur = (s.isl i).goal → (t.isl i).cur = (s.isl i).cur) ∧ ∀ j, j ≠ i → t.isl j = s.isl j)) ∧
  (∀ i s, s.clk.hold = true → Runs (.frequencyStepTick i) s (fun t => t = s)) ∧
  (∀ i s, s.treadle = true → (s.isl i).en = true → (s.isl i).trans = .voltUp ∨ (s.isl i).trans = .voltDown →
    Runs (.regulatorSettled i) s (fun t => (t.isl i).mv = s.vset i (s.isl i).goal (s.isl i).applied ∧
      ∀ j, j ≠ i → t.isl j = s.isl j)) ∧
  (∀ hi mv rest s, s.treadle = true → s.clk.avsOn = true → (s.clk.rail hi).queue = mv :: rest →
    Runs (.avsWriteSettled hi) s (fun t =>
      (t.clk.rail hi).mv = mv ∧ (t.clk.rail hi).fail = false ∧ t.clk.rail (!hi) = s.clk.rail (!hi))) ∧
  (∀ hi mv rest s, s.treadle = true → s.clk.avsOn = true → (s.clk.rail hi).queue = mv :: rest →
    Runs (.avsRetryTimer hi true) s (fun t => t.clk.rail hi = { s.clk.rail hi with fail := false, retries := 0 } ∧
      t.out = s.out ++ [.avs hi mv])) ∧
  (∀ hi mv rest s, s.treadle = true → s.clk.avsOn = true → (s.clk.rail hi).queue = mv :: rest → (s.clk.rail hi).fail = false →
    (s.clk.rail hi).retries < 2 → Runs (.avsRetryTimer hi false) s (fun t =>
      t.clk.rail hi = { s.clk.rail hi with retries := (s.clk.rail hi).retries + 1 } ∧ t.out = s.out ++ [.avs hi mv])) ∧
  (∀ hi mv rest s, s.treadle = true → s.clk.avsOn = true → (s.clk.rail hi).queue = mv :: rest → (s.clk.rail hi).fail = false →
    2 ≤ (s.clk.rail hi).retries → Runs (.avsRetryTimer hi false) s (fun t =>
      (t.clk.rail hi).fail = true ∧ (t.clk.rail hi).mv = (s.clk.rail hi).mv ∧ (t.clk.rail hi).queue = [mv])) ∧
  (∀ hi mv rest s, s.treadle = true → s.clk.avsOn = true → (s.clk.rail hi).queue = mv :: rest → (s.clk.rail hi).fail = true →
    Runs (.avsRetryTimer hi false) s (fun t => t = s.emit (.avs hi mv)))

/-- R125 to R131, R137: Temple. A cycle begins with AON's window when its time has come or when TMP_CTRL.MEASURE is written, unless one
runs; the end of a window of an island at its LIMIT step records the slack with the margins of R127, and an island off that step
is skipped; an alarm between cycles slows a steppable island by one step and raises another island's OFFSET.
Where the spec is silent, clauses rest on the model's choices: log entries 46, 140, 151. -/
def Obligations.TempleMargins : Prop :=
  (∀ n s, s.treadle = true → s.tmp.todo = none → (s.isl 0).en = true → (s.isl 0).closing = false →
    s.tmp.cycleAt + 6 * hourCounts ≤ max s.tim.cnt n → Runs (.templeCycleTimer n) s (fun t =>
      t.tmp = { s.tmp with todo := some (upTo 22), cycleAt := max s.tim.cnt n, winAt := max s.tim.cnt n })) ∧
  (∀ n s, s.tmp.todo ≠ none ∨ max s.tim.cnt n < s.tmp.cycleAt + 6 * hourCounts → Runs (.templeCycleTimer n) s (fun t =>
    t = s.reach n)) ∧
  (∀ r s, Permits s r (0x800000 + R.TMP_CTRL) → s.tmp.todo = none → (s.isl 0).en = true → (s.isl 0).closing = false →
    Runs (.templeMeasure r) s (fun t => t.tmp = { s.tmp with todo := some (upTo 22), cycleAt := s.tim.cnt, winAt := s.tim.cnt })) ∧
  (∀ r s, Permits s r (0x800000 + R.TMP_CTRL) → s.tmp.todo ≠ none → Runs (.templeMeasure r) s (fun t =>
    t = s.answered r (some .ok) 0)) ∧
  (∀ i slack n s, s.treadle = true → s.tmp.window = some i → (s.isl i).trans = .idle → (s.isl i).en = true →
    (s.isl i).closing = false → s.tmp.winAt + msCounts 250 ≤ max s.tim.cnt n → (steppable i = true → (s.isl i).cur = (s.isl i).limit) →
    Runs (.templeWindowEnd slack n) s (fun t => (t.isl i).slack = min 255 slack ∧
      (t.isl i).offset = (s.planIsland i (s.isl i) slack).offset ∧ (t.isl i).limit = (s.planIsland i (s.isl i) slack).limit ∧
      (12 ≤ slack → (s.isl i).offset ≤ 255 → (t.isl i).offset = (s.isl i).offset) ∧
      (steppable i = true → (s.isl i).limit ≤ (t.isl i).limit))) ∧
  (∀ i slack n s, s.treadle = true → s.tmp.window = some i → (s.isl i).trans = .idle → (s.isl i).en = true →
    (s.isl i).closing = false → s.tmp.winAt + msCounts 250 ≤ max s.tim.cnt n → steppable i = true → (s.isl i).cur ≠ (s.isl i).limit →
    Runs (.templeWindowEnd slack n) s (fun t => (t.isl i).slack = (s.isl i).slack ∧ (t.isl i).offset = (s.isl i).offset ∧
      (t.isl i).limit = (s.isl i).limit)) ∧
  (∀ i slack n s, s.tmp.window = some i → (s.isl i).trans ≠ .idle ∨ max s.tim.cnt n < s.tmp.winAt + msCounts 250 →
    Runs (.templeWindowEnd slack n) s (fun t => t = s.reach n)) ∧
  (∀ i slack s, s.treadle = true → (s.isl i).en = true → s.tmp.todo = none → slack < 6 → steppable i = true →
    Runs (.slackAlarm i slack) s (fun t => (t.isl i).limit = min 12 ((s.isl i).limit + 1) ∧ (t.isl i).slack = slack ∧
      (t.isl i).offset = (s.isl i).offset)) ∧
  (∀ i slack s, s.treadle = true → (s.isl i).en = true → s.tmp.todo = none → slack < 6 → i ≤ 21 → steppable i = false →
    Runs (.slackAlarm i slack) s (fun t => (t.isl i).slack = slack ∧ (i = 0 → (t.isl i).offset = (s.isl i).offset) ∧
      (i ≠ 0 → (t.isl i).offset = max (s.isl i).offset (min (ceilMv i - s.vtrim i 0) ((s.isl i).offset + 10))))) ∧
  (∀ i slack s, s.tmp.todo ≠ none ∨ 6 ≤ slack → Runs (.slackAlarm i slack) s (fun t => t = s))

/-- R182 to R187, R192, R195, R353: PTP messages. A Sync gives a sample, shown in TIM_d_LAST: one beyond STEP_US is discarded, and the
next one of its sign steps the domain by exactly that error; a valid one moves the servo's state. An Announce makes the first, the
same or a better master; the delay messages are sent and answered with their departure in presented time, and an answer to a request
gives the mean path delay. On the IRC every message is discarded.
Where the spec is silent, clauses rest on the model's choices: log entries 47, 48. -/
def Obligations.PtpMessages : Prop :=
  (∀ d e t2 t1 corr x s, Syncs s d e t2 t1 corr x → Runs (.ptpSync d e t2 t1 corr) s (fun t =>
    (t.tim.dom d).last = tdivInt (satE x) (2 ^ 16))) ∧
  (∀ d e t2 t1 corr x s, Syncs s d e t2 t1 corr x → s.stepLim d < x.natAbs →
    (∀ y ∈ (s.tim.dom d).pendStep, ¬(y < 0 ↔ x < 0)) → Runs (.ptpSync d e t2 t1 corr) s (fun t =>
      (t.tim.dom d).pendStep = some x ∧ (t.tim.dom d).rate = (s.tim.dom d).rate ∧ (t.tim.dom d).offset = (s.tim.dom d).offset ∧
      (t.tim.dom d).discards = min 255 ((s.tim.dom d).discards + 1) ∧
      ((s.tim.dom d).state ≠ .locked ∨ (s.tim.dom d).missRun < 3 → (t.tim.dom d).state = (s.tim.dom d).state))) ∧
  (∀ d e t2 t1 corr x y s, Syncs s d e t2 t1 corr x → s.stepLim d < x.natAbs → (s.tim.dom d).pendStep = some y → (y < 0 ↔ x < 0) →
    Runs (.ptpSync d e t2 t1 corr) s (fun t =>
      t.tim.domTime (t.tim.dom d) (max s.tim.cnt t2) = s.tim.domTime (s.tim.dom d) (max s.tim.cnt t2) - x ∧
      (t.tim.dom d).state = .acquire ∧ (t.tim.dom d).pendStep = none)) ∧
  (∀ d e t2 t1 corr x s, Syncs s d e t2 t1 corr x → x.natAbs ≤ s.stepLim d → Runs (.ptpSync d e t2 t1 corr) s (fun t =>
    (t.tim.dom d).pendStep = none ∧ (t.tim.dom d).sampleAt = max s.tim.cnt t2 ∧
    ((s.tim.dom d).state = .freerun → (s.tim.dom d).smallRun = 0 → (t.tim.dom d).state = .freerun) ∧
    ((s.tim.dom d).state = .freerun → (s.tim.dom d).smallRun ≠ 0 → (t.tim.dom d).state = .acquire) ∧
    ((s.tim.dom d).state = .acquire → (satE x).natAbs ≤ s.lockLim d → 15 ≤ (s.tim.dom d).lockRun → (t.tim.dom d).state = .locked) ∧
    ((s.tim.dom d).state = .acquire → s.lockLim d < (satE x).natAbs ∨ (s.tim.dom d).lockRun < 15 →
      (t.tim.dom d).state = .acquire) ∧
    ((s.tim.dom d).state = .locked → 4 * s.lockLim d < (satE x).natAbs → 3 ≤ (s.tim.dom d).missRun →
      (t.tim.dom d).state = .acquire) ∧
    ((s.tim.dom d).state = .locked → (satE x).natAbs ≤ 4 * s.lockLim d ∨ (s.tim.dom d).missRun < 3 →
      (t.tim.dom d).state = .locked) ∧
    ((s.tim.dom d).state = .holdover → (t.tim.dom d).state = .acquire))) ∧
  (∀ d m utc n s, s.ptpRuns = true → s.tim.ircAt = none → nbit (field (s.timCfg d) 7 4) m.port = true →
    (∀ c ∈ (s.tim.dom d).master, (c.1.identity = m.identity ∧ c.1.port = m.port) ∨ lexLt m.rank c.1.rank = true) →
    Runs (.ptpAnnounce d m true utc n) s (fun t => (t.tim.dom d).master = some (m, max s.tim.cnt n))) ∧
  (∀ d m c sc utc n s, (s.tim.dom d).master = some c → sc = false ∨ s.tim.ircAt ≠ none ∨
    (¬(c.1.identity = m.identity ∧ c.1.port = m.port) ∧ lexLt m.rank c.1.rank = false) →
    Runs (.ptpAnnounce d m sc utc n) s (fun t => t = s.reach n)) ∧
  (∀ d e n s, s.ptpRuns = true → s.timEn d = true → s.tim.ircAt = none →
    (bit (s.timCfg d) 30 = true → nbit (field (s.timCfg d) 7 4) e = true) →
    (bit (s.timCfg d) 30 = false → ((s.tim.dom d).master.map (fun m => m.1.port)) = some e) →
    Runs (.ptpDelayReqTimer d e n) s (fun t => (e, max s.tim.cnt n) ∈ (t.tim.dom d).reqAt ∧
      t.out = s.out ++ [.ptpDelayReq d e (bit (s.timCfg d) 30) (s.departs e (max s.tim.cnt n) / 2 ^ 16).toNat])) ∧
  (∀ d e c1 c2 a b corr s, s.ptpRuns = true → s.timEn d = true → s.tim.ircAt = none →
    (s.tim.dom d).reqAt.find? (fun r => r.1 = e) = some (e, c1) → Runs (.ptpDelayResp d e c2 a b corr) s (fun t =>
      (bit (s.timCfg d) 30 = false → (t.tim.dom d).pathDelay =
        tdivInt ((s.rxTime (s.tim.dom d) e c2 - a) + (b - s.txTime (s.tim.dom d) e c1) - corr) 2) ∧
      (bit (s.timCfg d) 30 = true → (t.tim.dom d).pathDelay =
        tdivInt ((s.rxTime (s.tim.dom d) e c2 - s.txTime (s.tim.dom d) e c1) - (b - a) - corr) 2))) ∧
  (∀ d e c2 a b corr s, (s.tim.dom d).reqAt.find? (fun r => r.1 = e) = none ∨ s.tim.ircAt ≠ none →
    Runs (.ptpDelayResp d e c2 a b corr) s (fun t => t = s)) ∧
  (∀ d e c n s, s.ptpRuns = true → s.tim.ircAt = none → bit (s.timCfg d) 30 = true → nbit (field (s.timCfg d) 7 4) e = true →
    Runs (.ptpPdelayReq d e c n) s (fun t => t.out = s.out ++
      [.ptpPdelayResp d e ((s.departs e (max s.tim.cnt n) - (s.tim.stamped c - s.rxLat e)) / 2 ^ 16).toNat])) ∧
  (∀ d e c n s, s.tim.ircAt ≠ none ∨ bit (s.timCfg d) 30 = false → Runs (.ptpPdelayReq d e c n) s (fun t => t = s.reach n)) ∧
  (∀ d e t2 t1 corr s, s.tim.ircAt ≠ none → Runs (.ptpSync d e t2 t1 corr) s (fun t => t = s.reach t2)) ∧
  (∀ d e n s, s.tim.ircAt ≠ none → Runs (.ptpDelayReqTimer d e n) s (fun t => t = s.reach n))

/-- R179, R186 to R189, R210: servo states and the selected domain. Sixteen Sync intervals without a sample, or the loss of the master,
take a domain from ACQUIRE or LOCKED to HOLDOVER at the integrator's rate; disabling a servo puts it in FREERUN; the selection returns
to a preferred domain that has been LOCKED for 60 s without a step of presented time where the other domain had locked; the
continuity correction shrinks by at most 50 ns for each ms.
Where the spec is silent, clauses rest on the model's choices: log entry 47. -/
def Obligations.ServosAndSelection : Prop :=
  (∀ d n s, (s.tim.dom d).sampleAt + logCounts 16 (s.logSync d) ≤ max s.tim.cnt n →
    (s.tim.dom d).state = .acquire ∨ (s.tim.dom d).state = .locked → Runs (.syncTimeout d n) s (fun t =>
      (t.tim.dom d).state = .holdover ∧ (t.tim.dom d).rate = satInt rateMax (s.tim.dom d).integ)) ∧
  (∀ d n s, max s.tim.cnt n < (s.tim.dom d).sampleAt + logCounts 16 (s.logSync d) ∨ (s.tim.dom d).state = .freerun ∨
    (s.tim.dom d).state = .holdover → Runs (.syncTimeout d n) s (fun t => t = s.reach n)) ∧
  (∀ d n m a s, (s.tim.dom d).master = some (m, a) → a + logCounts (s.announceN d) m.logInterval ≤ max s.tim.cnt n →
    Runs (.announceReceiptTimeout d n) s (fun t => (t.tim.dom d).master = none ∧
      ((s.tim.dom d).state = .acquire ∨ (s.tim.dom d).state = .locked → (t.tim.dom d).state = .holdover ∧
        (t.tim.dom d).rate = satInt rateMax (s.tim.dom d).integ) ∧
      ((s.tim.dom d).state = .freerun ∨ (s.tim.dom d).state = .holdover → (t.tim.dom d).state = (s.tim.dom d).state))) ∧
  (∀ d n m a s, (s.tim.dom d).master = some (m, a) → max s.tim.cnt n < a + logCounts (s.announceN d) m.logInterval →
    Runs (.announceReceiptTimeout d n) s (fun t => t = s.reach n)) ∧
  (∀ r d s, Permits s r (0x800000 + timBase d + 0x20) → s.timEn d = true → Runs (.servoDisable r d) s (fun t =>
    (t.tim.dom d).state = .freerun ∧ t.timEn d = false ∧ t.tim.dom (!d) = s.tim.dom (!d))) ∧
  (∀ r d s, Permits s r (0x800000 + timBase d + 0x20) → s.timEn d = false → Runs (.servoDisable r d) s (fun t =>
    t.tim = s.tim ∧ t.timEn d = false)) ∧
  (∀ r d s, Permits s r (0x800000 + timBase d + 0x20) → Runs (.servoEnable r d) s (fun t => t.tim = s.tim ∧ t.timEn d = true)) ∧
  (∀ n s, (s.tim.dom s.pref).state = .locked → s.tim.sel ≠ s.pref → (s.tim.dom s.pref).lockedAt + msCounts 60000 ≤ max s.tim.cnt n →
    Runs (.prefReturnTimer n) s (fun t => t.tim.sel = s.pref ∧
      ((s.tim.dom s.tim.sel).everLocked = true →
        t.tim.presented (max s.tim.cnt n) = s.tim.presented (max s.tim.cnt n)))) ∧
  (∀ n s, (s.tim.dom s.pref).state ≠ .locked ∨ s.tim.sel = s.pref ∨ max s.tim.cnt n < (s.tim.dom s.pref).lockedAt + msCounts 60000 →
    Runs (.prefReturnTimer n) s (fun t => t = s.reach n)) ∧
  (∀ n s, Runs (.continuitySlewTick n) s (fun t => t.tim.cont.natAbs ≤ s.tim.cont.natAbs ∧
    (s.tim.cont - t.tim.cont).natAbs ≤ (max s.tim.cnt n - s.tim.slewAt) / msCounts 1 * (50 * 2 ^ 16) ∧
    (s.tim.cont.natAbs ≤ (max s.tim.cnt n - s.tim.slewAt) / msCounts 1 * (50 * 2 ^ 16) → t.tim.cont = 0)))

/-- R203, R204, R206: a tick of legal time. L never runs back, whatever presented time does; before a domain has locked it stands in
WAIT; the difference to presented time decides between a forward step, TRACK, SLEW and, beyond 2 s behind L, a HOLD in which L stands
still until presented time has come up.
Where the spec is silent, clauses rest on the model's choices: log entry 49. -/
def Obligations.LegalTimeTicks : Prop :=
  (∀ n s, Ticking s → Runs (.legalTimeTick n) s (fun t => s.slv.lt ≤ t.slv.lt ∧ t.slv.ltTick = max s.tim.cnt n)) ∧
  (∀ n s, Ticking s → s.tim.domA.everLocked = false → s.tim.domB.everLocked = false → Runs (.legalTimeTick n) s (fun t =>
    t.slv.ltSt = .wait ∧ t.slv.lt = s.slv.lt)) ∧
  (∀ n s, Ticking s → s.tim.domA.everLocked = true ∨ s.tim.domB.everLocked = true → s.slv.ltRun = false → s.slv.jTime = none →
    (s.slv.lt : Int) ≤ s.tim.presented (max s.tim.cnt n) → Runs (.legalTimeTick n) s (fun t =>
      t.slv.ltSt = .track ∧ (t.slv.lt : Int) = s.tim.presented (max s.tim.cnt n))) ∧
  (∀ n g s, Tracks s n g → s.slv.ltSt ≠ .hold → g < -(2 * lsec) → Runs (.legalTimeTick n) s (fun t =>
    t.slv.ltSt = .hold ∧ t.slv.lt = s.slv.lt)) ∧
  (∀ n g s, Tracks s n g → s.slv.ltSt ≠ .hold → -(2 * lsec) ≤ g → g < 0 → Runs (.legalTimeTick n) s (fun t =>
    t.slv.ltSt = .slew ∧ (t.slv.lt : Int) = (s.slv.lt : Int) + s.tim.tickAdvance - min (-g) lus)) ∧
  (∀ n g s, Tracks s n g → s.slv.ltSt ≠ .hold → 0 ≤ g → g ≤ 2 * lsec → Runs (.legalTimeTick n) s (fun t =>
    t.slv.ltSt = (if g ≤ lus then .track else .slew) ∧ (t.slv.lt : Int) = (s.slv.lt : Int) + s.tim.tickAdvance + min g lus)) ∧
  (∀ n g s, Tracks s n g → s.slv.ltSt ≠ .hold → 2 * lsec < g → Runs (.legalTimeTick n) s (fun t =>
    t.slv.ltSt = .track ∧ (t.slv.lt : Int) = s.tim.presented (max s.tim.cnt n))) ∧
  (∀ n g s, Tracks s n g → s.slv.ltSt = .hold → Runs (.legalTimeTick n) s (fun t =>
    (s.tim.presented (max s.tim.cnt n) < s.slv.lt → t.slv.ltSt = .hold ∧ t.slv.lt = s.slv.lt) ∧
    ((s.slv.lt : Int) ≤ s.tim.presented (max s.tim.cnt n) →
      t.slv.ltSt = .track ∧ (t.slv.lt : Int) = s.tim.presented (max s.tim.cnt n)))) ∧
  (∀ n s, s.running = false → s.sys.st ≠ .start ∨ s.sys.phase < 6 → Runs (.legalTimeTick n) s (fun t => t = s.reach n))

/-- R197 to R202, R237, R249, R255, R268: zero crossings and launch queues. An edge is recorded with its counter value, and becomes the
group's on its reference port; an input without an edge for 50 ms is lost and holds its port. A frame with a launch time enters its
queue in time order, or is refused; it leaves at its time, and one that cannot comes back or, marked ASAP, goes at the next
opportunity.
Where the spec is silent, clauses rest on the model's choices: log entries 50, 59. -/
def Obligations.CrossingsAndLaunches : Prop :=
  (∀ p n s, s.isPlc p = true → Runs (.zcEdge p n) s (fun t => (t.zcPort p).live = true ∧ (t.zcPort p).edge = n ∧
    (s.zcRuns = true → s.zcRef (p / 8) = some p → (t.zcGroup (p / 8)).edge = n ∧ (t.zcGroup (p / 8)).valid = true ∧
      (t.zcGroup (p / 8)).refPort = p))) ∧
  (∀ p n s, s.isPlc p = true → (s.zcPort p).live = false ∨ (s.zcPort p).edge + zcGap ≤ n → Runs (.zcLoss p n) s (fun t =>
    (t.zcPort p).live = false ∧ (s.portOn p = true → (t.port p).zcLost = true))) ∧
  (∀ p n s, (s.zcPort p).live = true → n < (s.zcPort p).edge + zcGap → Runs (.zcLoss p n) s (fun t => t = s.reach n)) ∧
  (∀ p f tag a asap s, (s.hostQueue p).length < 16 → a ≤ s.tim.cnt + 10 * 400000000 → Runs (.launchPost true p f tag a asap) s (fun t =>
    t.hostQueue p = insertHost ⟨a, asap, tag⟩ (s.hostQueue p) ∧ t.out = s.out)) ∧
  (∀ p f tag a asap s, 16 ≤ (s.hostQueue p).length → Runs (.launchPost true p f tag a asap) s (fun t =>
    t = s.emit (.returned (.producer tag) .queueFull))) ∧
  (∀ p f tag a asap s, (s.hostQueue p).length < 16 → s.tim.cnt + 10 * 400000000 < a → Runs (.launchPost true p f tag a asap) s (fun t =>
    t = s.emit (.returned (.producer tag) .launchRange))) ∧
  (∀ p f tag a asap s, s.portOn p = true → (s.port p).draining = false → (s.port p).launch.length < 64 →
    a ≤ s.tim.cnt + 10 * 400000000 → s.tim.cnt ≤ a + lateBy → Runs (.launchPost false p f tag a asap) s (fun t =>
      ∃ i ∈ (t.port p).launch, i.launch = some a ∧ i.asap = asap ∧ i.origin = .producer tag ∧ i.frame.payload = f.payload)) ∧
  (∀ p f tag a asap s, s.portOn p = true → (s.port p).draining = false → (s.port p).launch = [] → a + lateBy < s.tim.cnt →
    Runs (.launchPost false p f tag a asap) s (fun t =>
      (asap = false → .returned (.producer tag) .launchLate ∈ t.out) ∧
      (asap = true → ∃ i ∈ (t.port p).queue, i.origin = .producer tag ∧ i.frame.payload = f.payload))) ∧
  (∀ p f tag a asap s, s.portOn p = false ∨ (s.port p).draining = true → Runs (.launchPost false p f tag a asap) s (fun t =>
    t.out = s.out ++ [.returned (.producer tag) .disabled])) ∧
  (∀ p f tag a asap s, s.portOn p = true → (s.port p).draining = false → 64 ≤ (s.port p).launch.length →
    Runs (.launchPost false p f tag a asap) s (fun t => t.out = s.out ++ [.returned (.producer tag) .queueFull])) ∧
  (∀ p f tag a asap s, s.portOn p = true → (s.port p).draining = false → (s.port p).launch.length < 64 →
    s.tim.cnt + 10 * 400000000 < a → Runs (.launchPost false p f tag a asap) s (fun t =>
      t.out = s.out ++ [.returned (.producer tag) .launchRange])) ∧
  (∀ p n x q b s, s.hostQueue p = x :: q → x.at_ ≤ n → n ≤ x.at_ + lateBy ∨ x.asap = true → Runs (.launchTimeReached true p n b) s
    (fun t => t.hostQueue p = q ∧ t.out = s.out ++ [.hostFrame p x.tag])) ∧
  (∀ p n x q b s, s.hostQueue p = x :: q → x.at_ + lateBy < n → x.asap = false → Runs (.launchTimeReached true p n b) s
    (fun t => t.hostQueue p = q ∧ t.out = s.out ++ [.returned (.producer x.tag) .launchLate])) ∧
  (∀ p n i q b a s, s.isRadio p = true → s.sys.heddle = true → s.portBlocked p = false → (s.port p).launch = i :: q → i.launch = some a →
    a ≤ n → n ≤ a + lateBy → (s.port p).onAir = none → (s.port p).ackOwed = none → (s.port p).rx = none → (s.port p).ackWait = none →
    s.listenBusy p b (a - s.octets p (s.preamble p + 2) - s.txNs p * 2 / 5) = false ∨ s.hopping p = true →
    s.dutyOver p (airUs (s.radAir p (s.preamble p) i.frame.len)) 90 = false →
    (s.tune p (s.baseChan p n)).dwellOver p (airUs (s.radAir p (s.preamble p) i.frame.len)) n = false →
    Runs (.launchTimeReached false p n b) s (fun t =>
      (t.port p).launch <:+ q ∧ ∃ j e, (t.port p).onAir = some (j, e) ∧ j.sent = i.sent + 1 ∧ j.origin = i.origin)) ∧
  (∀ p n i q b a s, s.isRadio p = true → s.sys.heddle = true → (s.port p).launch = i :: q → i.launch = some a → a + lateBy < n →
    Runs (.launchTimeReached false p n b) s (fun t =>
      (i.asap = false → .returned i.origin .launchLate ∈ t.out) ∧ (i.asap = true → { i with launch := none } ∈ (t.port p).queue))) ∧
  (∀ p n i q b a s, s.isRadio p = true → s.sys.heddle = false → (s.port p).launch = i :: q → i.launch = some a → a ≤ n →
    Runs (.launchTimeReached false p n b) s (fun t => .returned i.origin .noClaim ∈ t.out)) ∧
  (∀ p n b s, s.isPlc p = true → s.isRadio p = false → s.sys.heddle = false → Runs (.launchTimeReached false p n b) s (fun t =>
    (t.port p).launch = (s.port p).launch.filter (fun i => decide (n < i.launch.getD 0)) ∧
    ∀ i ∈ (s.port p).launch, i.launch.getD 0 ≤ n → .returned i.origin .noClaim ∈ t.out))

/-- R215, R218, R222, R228 to R246: PLC transmission and reception. At a slot an owed ACK goes first, then a due launch-time frame, then
the queued frame once its idle slots have passed and the slot is free; a busy slot has a ready frame draw, and a port that is blocked
sends nothing. A preamble opens a reception, a delimiter stamps it, a header word gives its length and end or ends it; a wrong FCS
ends it, a right one has a frame that asks for it acknowledged; the ACK of a waiting frame delivers it, and an expired ACK_WAIT draws
a retry or gives the frame back.
Where the spec is silent, clauses rest on the model's choices: log entries 51, 52, 53, 54, 55. -/
def Obligations.PlcTraffic : Prop :=
  (∀ p n i q s, FreeSlot s p n → (s.port p).queue = i :: q → i.backoff = 0 → (s.port p).launch = [] → (s.port p).ackOwed = none →
    Runs (.plcSlotStart p n false) s (fun t =>
      (t.port p).queue = q ∧ ∃ j, (t.port p).onAir = some (j, n + usCounts 200 + plcAir (s.bandF p) i.frame.len) ∧
        j.sent = i.sent + 1 ∧ j.origin = i.origin)) ∧
  (∀ p n i q s, FreeSlot s p n → (s.port p).queue = i :: q → 0 < i.backoff → (s.port p).launch = [] → (s.port p).ackOwed = none →
    Runs (.plcSlotStart p n false) s (fun t => (t.port p).queue = { i with backoff := i.backoff - 1 } :: q)) ∧
  (∀ p n i q s, FreeSlot s p n → (s.port p).queue = i :: q → i.backoff = 0 → (s.port p).launch = [] → (s.port p).ackOwed = none →
    Runs (.plcSlotStart p n true) s (fun t => (t.port p).onAir = none ∧ ∃ b, b ≤ 3 ∧
      (t.port p).queue = { i with backoff := b } :: q)) ∧
  (∀ p n e i q a s, FreeSlot s p n → (s.port p).launch = i :: q → i.launch = some a → a ≤ n + usCounts 200 →
    (s.port p).ackOwed = none → Runs (.plcSlotStart p n e) s (fun t =>
      (e = false → (t.port p).launch <:+ q ∧ ∃ j, (t.port p).onAir = some (j, n + usCounts 200 + plcAir (s.bandF p) i.frame.len) ∧
        j.sent = i.sent + 1 ∧ j.origin = i.origin) ∧
      (e = true → i.asap = false → .returned i.origin .launchLate ∈ t.out))) ∧
  (∀ p n e a s, FreeSlot s p n → (s.port p).ackOwed = some a → a.notBefore ≤ n → Runs (.plcSlotStart p n e) s (fun t =>
    (t.port p).ackOwed = none ∧ ∃ j, (t.port p).onAir = some (j, n + usCounts 200 + plcAir (s.bandF p) 15) ∧
      j.frame = ackFrame a (s.holdsFor p a.dst) (s.portAddr p))) ∧
  (∀ p n e s, s.isPlc p = true → s.portOn p = true → (s.port p).onAir = none → s.portBlocked p = true → s.sys.heddle = true →
    Runs (.plcSlotStart p n e) s (fun t => (t.port p).onAir = none ∧ (t.port p).queue = (s.port p).queue ∧
      ∀ i ∈ (s.port p).launch, i.launch.getD 0 ≤ n + usCounts 200 → i.asap = false → .returned i.origin .launchLate ∈ t.out)) ∧
  (∀ p n e s, s.portOn p = true → (s.port p).onAir = none → s.portBlocked p = false → s.slotAt p n = false →
    Runs (.plcSlotStart p n e) s (fun t => t = s.reach (n + usCounts 200))) ∧
  (∀ p g n s, s.isPlc p = true → s.portHears p = true → (s.port p).onAir = none → (s.port p).rx = none →
    Runs (.plcPreambleDetected p g n) s (fun t =>
      (t.port p).gain = g % 16 ∧ (t.port p).badHdr = false ∧ (t.port p).rx = some ⟨n, none, none, none, none, 0⟩)) ∧
  (∀ p g n i e s, (s.port p).onAir = some (i, e) → n < e → Runs (.plcPreambleDetected p g n) s (fun t => t = s.reach n)) ∧
  (∀ p n r s, s.isPlc p = true → (s.port p).rx = some r → r.stamp = none → Runs (.plcDelimiterDetected p n) s (fun t =>
    (t.port p).rx = some { r with det := some n, stamp := some (s.portStamp p n) })) ∧
  (∀ p hcs ver len zc n r st w s, s.isPlc p = true → (s.port p).rx = some r → r.stamp = some st → w = hdrWord hcs ver len zc →
    hcsHolds w = true → hdrVer w = 0 → 15 ≤ hdrLen w → hdrLen w ≤ 1280 → Runs (.plcHeaderDecoded p hcs ver len zc n) s (fun t =>
      (t.port p).rx = some { r with len := some (hdrLen w), zc := hdrZc w } ∧ (t.port p).busyUntil = s.plcEnd p st (hdrLen w))) ∧
  (∀ p hcs ver len zc n r st w s, s.isPlc p = true → (s.port p).rx = some r → r.stamp = some st → w = hdrWord hcs ver len zc →
    hcsHolds w = false ∨ hdrVer w ≠ 0 ∨ hdrLen w < 15 ∨ 1280 < hdrLen w → Runs (.plcHeaderDecoded p hcs ver len zc n) s (fun t =>
      (t.port p).rx = none ∧ (t.port p).badHdr = true)) ∧
  (∀ p x r s, s.isPlc p = true → (s.port p).rx = some r → Runs (.plcCorrelationLost p x) s (fun t =>
    (t.port p).rx = none ∧ (t.port p).badHdr = false ∧
    (r.len = none → x.time ≤ (t.port p).busyUntil) ∧
    (r.len ≠ none → x.ackReq = false → (t.port p).busyUntil = (s.port p).busyUntil) ∧
    (r.len ≠ none → x.ackReq = true → (t.port p).busyUntil = (s.port p).busyUntil + plcAckWait (s.bandF p)))) ∧
  (∀ p x s, s.isPlc p = true → (s.port p).rx = none → (s.port p).badHdr = true → Runs (.plcCorrelationLost p x) s (fun t =>
    (t.port p).badHdr = false)) ∧
  (∀ p f q n r st l s, s.isPlc p = true → s.portHears p = true → (s.port p).rx = some r → r.det ≠ none → r.stamp = some st →
    r.len = some l → Runs (.plcFrameReceived p f false q n) s (fun t => (t.port p).rx = none)) ∧
  (∀ p f q n r st l s, s.isPlc p = true → s.portHears p = true → (s.port p).rx = some r → r.det ≠ none → r.stamp = some st →
    r.len = some l → f.type = .data ∨ f.type = .command → f.ackReq = true → f.dst = some (s.portAddr p) → (s.port p).onAir = none →
    Runs (.plcFrameReceived p f true q n) s (fun t => (t.port p).rx = none ∧
      (t.port p).ackOwed = some ⟨f.src, f.seq, s.plcEnd p st l + msCounts 1⟩)) ∧
  (∀ p f q n r d0 st l i d s, s.isPlc p = true → s.portHears p = true → (s.port p).rx = some r → r.det = some d0 → r.stamp = some st →
    r.len = some l → (s.port p).onAir = none → (s.port p).ackWait = some (i, d) → f.type = .ack → f.dst = some (s.portAddr p) →
    f.seq = i.frame.seq → d0 ≤ d → Runs (.plcFrameReceived p f true q n) s (fun t =>
      (t.port p).rx = none ∧ (t.port p).ackWait = none ∧ .returned i.origin .delivered ∈ t.out)) ∧
  (∀ p n i d s, s.isPlc p = true → (s.port p).onAir = none → (s.port p).ackWait = some (i, d) → d ≤ n → (s.port p).ackPossible d = false →
    (s.port p).rep = none → (s.port p).draining = false → i.spent = false → s.connected p i.frame.dst = false →
    s.uplinkOnly i = false → Runs (.plcAckWaitExpiry p n) s (fun t =>
      (t.port p).ackWait = none ∧ ∃ j ∈ (t.port p).queue, j.frame = i.frame ∧ j.sent = i.sent ∧ j.backoff < 2 ^ min i.sent 3)) ∧
  (∀ p n i d s, s.isPlc p = true → (s.port p).onAir = none → (s.port p).ackWait = some (i, d) → d ≤ n → (s.port p).ackPossible d = false →
    (s.port p).rep = none → i.spent = true ∨ (s.port p).draining = true → Runs (.plcAckWaitExpiry p n) s (fun t =>
      (t.port p).ackWait = none ∧ .returned i.origin .noAck ∈ t.out)) ∧
  (∀ p n i d s, s.isPlc p = true → (s.port p).onAir = none → (s.port p).ackWait = some (i, d) → n < d → Runs (.plcAckWaitExpiry p n) s
    (fun t => t = s.reach n))

/-- R217, R218, R244, R249 to R251, R261, R296, R297, R340: a port's gain, impulses, front end, blocking, enabling and draining. GAIN
moves one step toward its target, at most once in 10 ms; a run of three saturated words or more is an impulse; a failed front end
holds the port until it resumes; a port blocked for 2 s gives its queue back; EN enables a port, a radio port once its transceiver
is initialised, and its clearing drains the port until the exchange in progress has ended.
Where the spec is silent, clauses rest on the model's choices: log entries 23, 50, 58. -/
def Obligations.PortConditions : Prop :=
  (∀ p ws n s, s.isPlc p = true → s.portOn p = true → 3 ≤ satRun ws → (s.port p).onAir = none → Runs (.impulse p ws n) s (fun t =>
    (t.port p).impEnd = some (n + satRun ws * 1000 / 3))) ∧
  (∀ p ws n i e s, satRun ws < 3 → (s.port p).onAir = none ∨ ((s.port p).onAir = some (i, e) ∧ n < e) → Runs (.impulse p ws n) s (fun t =>
    t = s.reach n)) ∧
  (∀ p g n s, s.isPlc p = true → s.portHears p = true → (s.port p).rx = none → (s.port p).gainAt + msCounts 10 ≤ n →
    Runs (.plcGainTrack p g n) s (fun t =>
      ((s.port p).gain < g % 16 → (t.port p).gain = (s.port p).gain + 1 ∧ (t.port p).gainAt = n) ∧
      (g % 16 < (s.port p).gain → (t.port p).gain = (s.port p).gain - 1 ∧ (t.port p).gainAt = n) ∧
      (g % 16 = (s.port p).gain → t = s.reach n))) ∧
  (∀ p g n s, (s.port p).rx ≠ none ∨ n < (s.port p).gainAt + msCounts 10 → Runs (.plcGainTrack p g n) s (fun t => t = s.reach n)) ∧
  (∀ p n s, s.isPlc p = true → s.portOn p = true → (s.port p).afeFail = false → Runs (.afeFail p n) s (fun t =>
    (t.port p).afeFail = true ∧ (t.port p).rx = none)) ∧
  (∀ p n s, (s.port p).afeFail = true → Runs (.afeResume p n) s (fun t => (t.port p).afeFail = false)) ∧
  (∀ p n b s, (s.port p).blockedSince = some b → b + sec 2 ≤ n → Runs (.blockedQueueTimeout p n) s (fun t =>
    (t.port p).queue = [] ∧ (t.port p).held = [] ∧ (t.port p).backoff = none ∧
    ∀ i ∈ (s.port p).queue ++ (s.port p).held ++ (s.port p).backoff.toList, .returned i.origin .txBlocked ∈ t.out)) ∧
  (∀ p n b s, (s.port p).blockedSince = some b → n < b + sec 2 → Runs (.blockedQueueTimeout p n) s (fun t => t = s.reach n)) ∧
  (∀ r p n ok s, Permits s r (0x800000 + portBase p) → s.isPlc p = true → (s.port p).en = false → Runs (.portEnable r p n ok) s (fun t =>
    (t.port p).en = true ∧ (t.port p).draining = false)) ∧
  (∀ r p n s, Permits s r (0x800000 + portBase p) → s.isRadio p = true → (s.port p).en = false → Runs (.portEnable r p n true) s (fun t =>
    (t.port p).en = true ∧ (t.port p).draining = false)) ∧
  (∀ r p n s, Permits s r (0x800000 + portBase p) → s.isRadio p = true → (s.port p).en = false → Runs (.portEnable r p n false) s (fun t =>
    (t.port p).en = false ∧ (t.port p).initSince = some n)) ∧
  (∀ r p n ok s, Permits s r (0x800000 + portBase p) → s.portMode p ≠ 0 → (s.port p).en = true → Runs (.portEnable r p n ok) s (fun t =>
    t = (s.reach n).answered r (some .ok) 0)) ∧
  (∀ r p s, Permits s r (0x800000 + portBase p) → (s.port p).en = true → (s.port p).draining = false → Runs (.portDisable r p) s (fun t =>
    (t.port p).draining = true ∧ (t.port p).queue = [] ∧ (t.port p).launch = [] ∧ (t.port p).held = [] ∧
    (∀ i ∈ (s.port p).queue ++ (s.port p).launch ++ (s.port p).held, i.sent = 0 → .returned i.origin .disabled ∈ t.out) ∧
    ∀ i ∈ (s.port p).queue ++ (s.port p).launch ++ (s.port p).held, i.sent ≠ 0 → .returned i.origin .noAck ∈ t.out)) ∧
  (∀ r p s, Permits s r (0x800000 + portBase p) → (s.port p).en = false ∨ (s.port p).draining = true → Runs (.portDisable r p) s (fun t =>
    t = s.answered r (some .ok) 0)) ∧
  (∀ p n s, (s.port p).draining = true → (s.port p).quiet = true → s.inEvent p n = false → Runs (.portDrainDone p n) s (fun t =>
    (t.port p).en = false ∧ (t.port p).draining = false ∧ (t.port p).conns = [])) ∧
  (∀ p n s, s.isPlc p = false ∨ (s.port p).onAir = none → (s.port p).quiet = false ∨ s.inEvent p n = true →
    Runs (.portDrainDone p n) s (fun t => t = s.reach n))

/-- R259 to R261, R264, R267 to R277, R280, R292: radio reception, transmission, retries, listening, duty and the transceiver. An SFD
stamps a frame; what RX_READ gives ends the reception, and a frame that asks for it is acknowledged 1 ms after its end; TX_DONE
starts ACK_WAIT or gives the frame back; a retry waits its draw; a listen that was busy is repeated seven times at most, a free one
sends the next frame within the duty budget; a failed transceiver is initialised again once a second.
Where the spec is silent, clauses rest on the model's choices: log entries 54, 55, 56, 58. -/
def Obligations.RadioTraffic : Prop :=
  (∀ p n s, s.isRadio p = true → s.portHears p = true → (s.port p).onAir = none → Runs (.radioSfdReceived p n) s (fun t =>
    (t.port p).rx = some ⟨n, some n, some (s.portStamp p n), none, none, 0⟩ ∧ (t.port p).sfdAt = some n)) ∧
  (∀ p n s, (s.port p).onAir ≠ none → Runs (.radioSfdReceived p n) s (fun t => t = s.reach n)) ∧
  (∀ p f ok rssi n r d0 st s, s.isRadio p = true → s.portHears p = true → (s.port p).rx = some r → r.det = some d0 →
    r.stamp = some st → f.len < 15 ∨ 1280 < f.len ∨ ok = false ∨ (f.dst ≠ none ∧ f.dst ≠ some (s.portAddr p)) →
    Runs (.radioFrameReceived p f ok rssi n) s (fun t => (t.port p).rx = none)) ∧
  (∀ p f rssi n r d0 st s, s.isRadio p = true → s.portHears p = true → (s.port p).rx = some r → r.det = some d0 →
    r.stamp = some st → 15 ≤ f.len → f.len ≤ 1280 → f.type = .data ∨ f.type = .command → f.ackReq = true →
    f.dst = some (s.portAddr p) → Runs (.radioFrameReceived p f true rssi n) s (fun t =>
      (t.port p).rx = none ∧ (t.port p).ackOwed = some ⟨f.src, f.seq, st + s.octets p (2 + f.len) + msCounts 1⟩)) ∧
  (∀ p f rssi n r d0 st i d s, s.isRadio p = true → s.portHears p = true → (s.port p).rx = some r → r.det = some d0 →
    r.stamp = some st → 15 ≤ f.len → f.len ≤ 1280 → (s.port p).ackWait = some (i, d) → f.type = .ack →
    f.dst = some (s.portAddr p) → f.seq = i.frame.seq → d0 ≤ d → Runs (.radioFrameReceived p f true rssi n) s (fun t =>
      (t.port p).rx = none ∧ .returned i.origin .delivered ∈ t.out)) ∧
  (∀ p n s, s.isRadio p = true → s.portHears p = true → Runs (.radioRxErr p n) s (fun t => (t.port p).rx = none)) ∧
  (∀ p n i e s, s.isRadio p = true → (s.port p).onAir = some (i, e) → i.frame.type ≠ .ack → i.frame.wantsAck = true →
    Runs (.radioTxDone p n) s (fun t => (t.port p).onAir = none ∧ (t.port p).ackWait = some (i, n + s.ackWaitOf p))) ∧
  (∀ p n i e s, s.isRadio p = true → (s.port p).onAir = some (i, e) → i.frame.type ≠ .ack → i.frame.wantsAck = false →
    Runs (.radioTxDone p n) s (fun t => .returned i.origin .sent ∈ t.out)) ∧
  (∀ p n i e d f s, s.isRadio p = true → (s.port p).onAir = some (i, e) → i.frame.type = .ack → (s.port p).pendTo = some (d, f) →
    Runs (.radioTxDone p n) s (fun t => (t.port p).onAir = none ∧ (t.port p).pendTo = some (d, n))) ∧
  (∀ p n a s, s.isRadio p = true → (s.port p).ackOwed = some a → a.notBefore ≤ n → (s.port p).onAir = none → s.portOn p = true →
    s.portBlocked p = false → (∀ c ∈ s.connNow p a.dst n, n + s.radAir p (s.preamble p) 15 ≤ c.anchor + s.connWin p) →
    s.dutyOver p (airUs (s.radAir p (s.preamble p) 15)) 100 = false →
    s.dwellOver p (airUs (s.radAir p (s.preamble p) 15)) n = false → Runs (.radioAckTurnaround p n) s (fun t =>
      (t.port p).ackOwed = none ∧
      ∃ j, (t.port p).onAir = some (j, n + s.radAir p (s.preamble p) 15) ∧ j.frame = ackFrame a (s.holdsFor p a.dst) (s.portAddr p))) ∧
  (∀ p n a s, s.isRadio p = true → (s.port p).ackOwed = some a → a.notBefore ≤ n → (s.port p).onAir = none →
    s.portBlocked p = true → Runs (.radioAckTurnaround p n) s (fun t => (t.port p).ackOwed = none ∧ (t.port p).onAir = none)) ∧
  (∀ p n a s, (s.port p).ackOwed = some a → n < a.notBefore ∨ (s.port p).onAir ≠ none → Runs (.radioAckTurnaround p n) s (fun t =>
    t = s.reach n)) ∧
  (∀ p n i d s, s.isRadio p = true → (s.port p).ackWait = some (i, d) → d ≤ n → (s.port p).ackPossible d = false →
    (s.port p).rep = none → (s.port p).draining = false → i.spent = false → s.connected p i.frame.dst = false → s.uplinkOnly i = false →
    Runs (.radioAckWaitExpiry p n) s (fun t =>
      (t.port p).ackWait = none ∧ ∃ b, b < 2 ^ min i.sent 3 ∧ (t.port p).backoff = some { i with backoff := b, since := n })) ∧
  (∀ p n i d s, s.isRadio p = true → (s.port p).ackWait = some (i, d) → d ≤ n → (s.port p).ackPossible d = false →
    (s.port p).rep = none → (s.port p).draining = false → i.spent = false → s.connected p i.frame.dst = true ∨ s.uplinkOnly i = true →
    Runs (.radioAckWaitExpiry p n) s (fun t =>
      (t.port p).ackWait = none ∧ (t.port p).held = { i with since := n } :: (s.port p).held)) ∧
  (∀ p n i d s, s.isRadio p = true → (s.port p).ackWait = some (i, d) → d ≤ n → (s.port p).ackPossible d = false →
    (s.port p).rep = none → i.spent = true ∨ (s.port p).draining = true → Runs (.radioAckWaitExpiry p n) s (fun t =>
      (t.port p).ackWait = none ∧ .returned i.origin .noAck ∈ t.out)) ∧
  (∀ p n i d s, s.isRadio p = true → (s.port p).ackWait = some (i, d) → n < d → Runs (.radioAckWaitExpiry p n) s (fun t =>
    (t.port p).ackWait = some (i, d))) ∧
  (∀ p n i s, s.isRadio p = true → (s.port p).backoff = some i → i.since + msCounts (5 * i.backoff) ≤ n →
    Runs (.radioRetryBackoff p n) s (fun t => (t.port p).backoff = none ∧
      (s.hopping p = false ∨ s.portBlocked p = true ∨ (s.port p).free = false →
        (t.port p).queue = { i with backoff := 0 } :: (s.port p).queue))) ∧
  (∀ p n i s, (s.port p).backoff = some i → n < i.since + msCounts (5 * i.backoff) → Runs (.radioRetryBackoff p n) s (fun t =>
    t = s.reach n)) ∧
  (∀ p b n i s, s.isRadio p = true → s.portOn p = true → s.portBlocked p = false → s.hopping p = false → (s.port p).listenWait ≤ n →
    (s.port p).next = some i → s.listenBusy p b n = true → Runs (.lbtListenEnd p b n) s (fun t =>
      ((s.port p).busyListens < 7 → (t.port p).busyListens = (s.port p).busyListens + 1 ∧
        n + 2 * s.listen p ≤ (t.port p).listenWait ∧ (t.port p).listenWait ≤ n + 9 * s.listen p) ∧
      (7 ≤ (s.port p).busyListens → (t.port p).queue = (s.port p).queue.erase i ∧ .returned i.origin .channelBusy ∈ t.out))) ∧
  (∀ p b n i s, s.isRadio p = true → s.portOn p = true → s.portBlocked p = false → s.hopping p = false → (s.port p).listenWait ≤ n →
    (s.port p).next = some i → s.listenBusy p b n = false → (s.port p).free = true → (s.port p).draining = false →
    (s.port p).backoff = none → s.connClash p n (n + s.radAir p (s.preamble p) i.frame.len) = false → Runs (.lbtListenEnd p b n) s
      (fun t =>
        (s.dutyOver p (airUs (s.radAir p (s.preamble p) i.frame.len)) 90 = false →
          ∃ j e, (t.port p).onAir = some (j, e) ∧ j.sent = i.sent + 1 ∧ j.origin = i.origin) ∧
        (s.dutyOver p (airUs (s.radAir p (s.preamble p) i.frame.len)) 90 = true → (s.port p).dutyHeld = none →
          (t.port p).dutyHeld = some (i, n) ∧ (t.port p).queue = (s.port p).queue))) ∧
  (∀ p n k a s, s.isRadio p = true → s.hopping p = false → k = (n - (s.port p).binAt) / sec 1 → 0 < k →
    a = (s.port p).binAt + k * sec 1 → Runs (.dutyBinTick p n) s (fun t =>
      (t.port p).bins =
        (List.replicate (min 3600 (k - 1)) 0 ++ ((s.port p).airtime false a).bin :: (s.port p).bins).take 3600 ∧
      (t.port p).bin = 0 ∧ (t.port p).binAt = a)) ∧
  (∀ p n s, s.isRadio p = true → n < (s.port p).binAt + sec 1 → Runs (.dutyBinTick p n) s (fun t => t = s.reach n)) ∧
  (∀ p n h a i s, (s.port p).dutyHeld = some (h, a) → a + sec 10 ≤ n →
    (s.port p).queue.find? (fun i => decide (i.frame.dst = h.frame.dst ∧ i.frame.seq = h.frame.seq)) = some i →
    Runs (.dutyHoldExpiry p n) s (fun t => (t.port p).dutyHeld = none ∧ (t.port p).queue = (s.port p).queue.erase i ∧
      .returned i.origin .dutyLimit ∈ t.out)) ∧
  (∀ p n h a s, (s.port p).dutyHeld = some (h, a) → n < a + sec 10 → Runs (.dutyHoldExpiry p n) s (fun t => t = s.reach n)) ∧
  (∀ p n s, s.isRadio p = true → s.portOn p = true → (s.port p).xcvrFail = false → Runs (.xcvrFail p n) s (fun t =>
    (t.port p).xcvrFail = true ∧ (t.port p).reinitAt = n)) ∧
  (∀ p ok n s, s.portOn p = true → (s.port p).xcvrFail = true → (s.port p).reinitAt + sec 1 ≤ n → Runs (.xcvrReinit p ok n) s (fun t =>
    (t.port p).xcvrFail = !ok ∧ (ok = false → (t.port p).reinitAt = n))) ∧
  (∀ p ok n s, (s.port p).xcvrFail = false ∨ n < (s.port p).reinitAt + sec 1 → Runs (.xcvrReinit p ok n) s (fun t => t = s.reach n)) ∧
  (∀ p n a s, (s.port p).initSince = some a → a + msCounts 10 ≤ n → Runs (.xcvrInitTimeout p n) s (fun t =>
    (t.port p).initSince = none ∧ (t.port p).en = (s.port p).en)) ∧
  (∀ p n a s, (s.port p).initSince = some a → n < a + msCounts 10 → Runs (.xcvrInitTimeout p n) s (fun t => t = s.reach n))

/-- R274 to R294, R302: hopping, channel maps, sleepy endpoints and connections. A hop slot brings an accepted map into force and the
port onto the slot's channel; a map write is checked, and in hopping mode switches 600 s later; a frame to a sleepy endpoint covers
its predicted sample with a long preamble or copies, or waits for the next uplink; a pending frame follows its ACK; a connection
event opens its window, and a connection not heard for its supervision time is lost.
Where the spec is silent, clauses rest on the model's choices: log entry 57. -/
def Obligations.RadioSchedules : Prop :=
  (∀ p n m sw s, s.isRadio p = true → s.portOn p = true → s.hopping p = true → (s.port p).newMap = some (m, sw) → sw ≤ s.hopSlot p n →
    Runs (.hopSlotStart p n) s (fun t => (t.port p).map = m ∧ (t.port p).newMap = none)) ∧
  (∀ p n s, s.isRadio p = true → s.portOn p = true → s.portBlocked p = false → s.hopping p = true → (s.port p).newMap = none →
    Runs (.hopSlotStart p n) s (fun t =>
      ((s.port p).free = true → s.inEvent p n = false → (t.port p).chan = s.hopChan p (s.hopSlot p n)) ∧
      ((s.port p).free = false → (t.port p).chan = (s.port p).chan))) ∧
  (∀ r p lo n hi m top s, MapWrite s r p lo hi m top → s.hopping p = false → Runs (.chmapWrite r p lo n) s (fun t =>
    (t.port p).map = m ∧ t.chmapReg p = m)) ∧
  (∀ r p lo n hi m top s, MapWrite s r p lo hi m top → s.hopping p = true → (s.port p).newMap = none →
    field (s.rg (portBase p + 0x20C)) 7 0 ≤ (chansOf (s.chBase p) m).length →
    Nat.gcd (chansOf (s.chBase p) m).length (field (s.rg (portBase p + 0x20C)) 31 24) = 1 → Runs (.chmapWrite r p lo n) s (fun t =>
      (t.port p).map = (s.port p).map ∧ ∃ sw, (t.port p).newMap = some (m, sw) ∧ s.hopSlot p (n + sec 600) ≤ sw)) ∧
  (∀ r p lo n hi m top s, MapWrite s r p lo hi m top → s.hopping p = true →
    (chansOf (s.chBase p) m).length < field (s.rg (portBase p + 0x20C)) 7 0 ∨
      Nat.gcd (chansOf (s.chBase p) m).length (field (s.rg (portBase p + 0x20C)) 31 24) ≠ 1 → Runs (.chmapWrite r p lo n) s (fun t =>
      t = (s.reach n).answered r (some .denied) 0)) ∧
  (∀ r p lo n hi m top s, MapWrite s r p lo hi m top → s.hopping p = true → (s.port p).newMap ≠ none →
    field (s.rg (portBase p + 0x20C)) 7 0 ≤ (chansOf (s.chBase p) m).length →
    Nat.gcd (chansOf (s.chBase p) m).length (field (s.rg (portBase p + 0x20C)) 31 24) = 1 → Runs (.chmapWrite r p lo n) s (fun t =>
      t = (s.reach n).answered r (some .busy) 0)) ∧
  (∀ p n m sw a s, s.portOn p = true → (s.port p).newMap = some (m, sw) → (s.port p).mapAt = some a → a + sec s.beaconS ≤ n →
    s.hopSlot p n < sw → Runs (.mapUpdateTimer p n) s (fun t =>
      (t.port p).mapAt = some n ∧ t.net.floodId = (s.net.floodId + 1) % 65536)) ∧
  (∀ p n m sw a s, (s.port p).newMap = some (m, sw) → (s.port p).mapAt = some a → n < a + sec s.beaconS ∨ sw ≤ s.hopSlot p n →
    Runs (.mapUpdateTimer p n) s (fun t => t = s.reach n)) ∧
  (∀ p ep b n i c S U s, Covers s p ep n i c S U → s.hopping p = true ∨ s.listenBusy p b n = false →
    ¬ 2 * U * s.radDiv p ≤ (1000 - s.preamble p) * 64000 → 127 < i.frame.len → Runs (.sleepyCoverStart p ep b n) s (fun t =>
      (t.port p).held = (s.port p).held ++ [i] ∧ (t.port p).queue = (s.port p).queue.erase i)) ∧
  (∀ p ep b n i c k S U s, Covers s p ep n i c S U → s.hopping p = true ∨ s.listenBusy p b n = false →
    2 * U * s.radDiv p ≤ (1000 - s.preamble p) * 64000 → k = (2 * U * s.radDiv p + 63999) / 64000 + s.preamble p →
    s.connClash p n (n + s.radAir p k i.frame.len) = false → s.dutyOver p (airUs (s.radAir p k i.frame.len)) 90 = false →
    (s.tune p (s.baseChan p S)).dwellOver p (airUs (s.radAir p k i.frame.len)) n = false → Runs (.sleepyCoverStart p ep b n) s (fun t =>
      ∃ j, (t.port p).onAir = some (j, n + s.radAir p k i.frame.len) ∧ j.sent = i.sent + 1 ∧ j.origin = i.origin)) ∧
  (∀ p ep b n i c S U s, Covers s p ep n i c S U → s.hopping p = true ∨ s.listenBusy p b n = false →
    ¬ 2 * U * s.radDiv p ≤ (1000 - s.preamble p) * 64000 → i.frame.len ≤ 127 →
    s.connClash p n (n + s.radAir p (s.preamble p) i.frame.len) = false →
    s.dutyOver p (airUs (s.radAir p (s.preamble p) i.frame.len)) 90 = false →
    (s.tune p (s.baseChan p S)).dwellOver p (airUs (s.radAir p (s.preamble p) i.frame.len)) n = false →
    Runs (.sleepyCoverStart p ep b n) s (fun t => (t.port p).rep = some ⟨{ i with sent := i.sent + 1 }, 1, S + U⟩ ∧
      ∃ j, (t.port p).onAir = some (j, n + s.radAir p (s.preamble p) i.frame.len) ∧ j.sent = i.sent + 1)) ∧
  (∀ p ep b n i c S U s, Covers s p ep n i c S U → s.hopping p = false → s.listenBusy p b n = true → (s.port p).busyListens < 7 →
    Runs (.sleepyCoverStart p ep b n) s (fun t => (t.port p).busyListens = (s.port p).busyListens + 1 ∧
      n + 2 * s.listen p ≤ (t.port p).listenWait)) ∧
  (∀ p n r x d s, (s.port p).rep = some r → (s.port p).ackWait = some (x, d) → d ≤ n → (s.port p).ackPossible d = false →
    (s.port p).draining = false → Runs (.repeatCopyGap p true n) s (fun t => (t.port p).rep = none ∧
      (t.port p).queue = { r.item with sent := r.item.sent - 1, since := n } :: (s.port p).queue)) ∧
  (∀ p n r x d s, (s.port p).rep = some r → (s.port p).ackWait = some (x, d) → d ≤ n → (s.port p).ackPossible d = false →
    (s.port p).draining = false → d ≤ r.until_ + s.radAckWait p →
    s.connClash p n (n + s.radAir p (s.preamble p) r.item.frame.len) = false →
    s.dutyOver p (airUs (s.radAir p (s.preamble p) r.item.frame.len)) 90 = false →
    s.dwellOver p (airUs (s.radAir p (s.preamble p) r.item.frame.len)) n = false → Runs (.repeatCopyGap p false n) s (fun t =>
      (t.port p).rep = some { r with copies := r.copies + 1 } ∧
      ∃ j, (t.port p).onAir = some (j, n + s.radAir p (s.preamble p) r.item.frame.len) ∧ j.sent = r.item.sent)) ∧
  (∀ p n r x d s, (s.port p).rep = some r → (s.port p).ackWait = some (x, d) → d ≤ n → (s.port p).ackPossible d = false →
    (s.port p).draining = false → r.until_ + s.radAckWait p < d → Runs (.repeatCopyGap p false n) s (fun t => (t.port p).rep = none ∧
      (r.item.spent = true → .returned r.item.origin .noAck ∈ t.out) ∧
      (r.item.spent = false → ∃ b, b < 2 ^ min r.item.sent 3 ∧
        (t.port p).backoff = some { r.item with backoff := b, since := n }))) ∧
  (∀ p e n r x d s, (s.port p).rep = some r → (s.port p).ackWait = some (x, d) → n < d → Runs (.repeatCopyGap p e n) s (fun t =>
    t = s.reach n)) ∧
  (∀ p b n d e i s, s.isRadio p = true → s.portOn p = true → s.portBlocked p = false → (s.port p).pendTo = some (d, e) →
    (s.port p).onAir = none → (s.port p).ackOwed = none → (s.port p).rx = none → (s.port p).listenWait ≤ n →
    (if s.hopping p then e else e + s.listen p) ≤ n → s.hopping p = true ∨ s.listenBusy p b n = false → n < e + msCounts 40 →
    (s.port p).pendingFor d = some i → s.connNow p d n = none →
    s.connClash p n (n + s.radAir p (s.preamble p) i.frame.len) = false →
    s.dutyOver p (airUs (s.radAir p (s.preamble p) i.frame.len)) 90 = false →
    s.dwellOver p (airUs (s.radAir p (s.preamble p) i.frame.len)) n = false → Runs (.pendingFrameSend p b n) s (fun t =>
      (t.port p).pendTo = none ∧ ∃ j, (t.port p).onAir = some (j, n + s.radAir p (s.preamble p) i.frame.len) ∧
        j.sent = i.sent + 1 ∧ j.origin = i.origin)) ∧
  (∀ p b n d e i c s, s.isRadio p = true → s.portOn p = true → s.portBlocked p = false → (s.port p).pendTo = some (d, e) →
    (s.port p).onAir = none → (s.port p).ackOwed = none → (s.port p).rx = none → e ≤ n →
    (s.port p).pendingFor d = some i → s.connNow p d n = some c →
    n + s.radAir p (s.preamble p) i.frame.len ≤ c.anchor + s.connWin p →
    s.dutyOver p (airUs (s.radAir p (s.preamble p) i.frame.len)) 90 = false →
    s.dwellOver p (airUs (s.radAir p (s.preamble p) i.frame.len)) n = false → Runs (.pendingFrameSend p b n) s (fun t =>
      (t.port p).pendTo = none ∧ ∃ j, (t.port p).onAir = some (j, n + s.radAir p (s.preamble p) i.frame.len) ∧
        j.sent = i.sent + 1 ∧ j.origin = i.origin)) ∧
  (∀ p b n d e i s, s.isRadio p = true → s.portOn p = true → (s.port p).pendTo = some (d, e) → (s.port p).onAir = none →
    e + msCounts 40 ≤ n → (s.port p).pendingFor d = some i → s.connNow p d n = none → s.connected p (some d) = false →
    s.hopping p = false → Runs (.pendingFrameSend p b n) s (fun t => (t.port p).pendTo = none ∧ (t.port p).onAir = none ∧
      (t.port p).queue = { i with since := n } :: ((s.port p).without i).queue)) ∧
  (∀ p ep n c s, s.isRadio p = true → s.portOn p = true → s.portBlocked p = false →
    (s.port p).conns.find? (fun c => decide (c.ep = ep)) = some c → c.anchor + sec c.connInt ≤ n + s.connW p c →
    (s.port p).onAir = none → Runs (.connEvent p ep n) s (fun t =>
      (t.port p).chan = s.connChan p (c.toEvent (c.anchor + sec c.connInt) ((c.event + 1) % 65536)) ∧
      ∃ x ∈ (t.port p).conns, x.ep = ep ∧ x.event = (c.event + 1) % 65536 ∧ x.anchor = c.anchor + sec c.connInt ∧
        x.windowOpen = true)) ∧
  (∀ p ep n c s, s.isRadio p = true → s.portOn p = true →
    (s.port p).conns.find? (fun c => decide (c.ep = ep)) = some c → c.anchor + sec c.connInt ≤ n + s.connW p c →
    s.portBlocked p = true ∨ (s.port p).onAir ≠ none → Runs (.connEvent p ep n) s (fun t =>
      ∃ x ∈ (t.port p).conns, x.ep = ep ∧ x.event = (c.event + 1) % 65536 ∧ x.anchor = c.anchor + sec c.connInt ∧
        x.windowOpen = false ∧ (s.portBlocked p = true → x.missed = c.missed + 1))) ∧
  (∀ p ep n c s, (s.port p).conns.find? (fun c => decide (c.ep = ep)) = some c → n + s.connW p c < c.anchor + sec c.connInt →
    Runs (.connEvent p ep n) s (fun t => t = s.reach n)) ∧
  (∀ p ep n c s, (s.port p).conns.find? (fun c => decide (c.ep = ep)) = some c → c.windowOpen = true →
    c.anchor + s.connW p c + s.octets p (s.preamble p + 2) ≤ n → Runs (.connEventMissed p ep n) s (fun t =>
      ∃ x ∈ (t.port p).conns, x.ep = ep ∧ x.missed = c.missed + 1 ∧ x.windowOpen = false)) ∧
  (∀ p ep n c s, (s.port p).conns.find? (fun c => decide (c.ep = ep)) = some c → c.windowOpen = false ∨
    n < c.anchor + s.connW p c + s.octets p (s.preamble p + 2) → Runs (.connEventMissed p ep n) s (fun t => t = s.reach n)) ∧
  (∀ p ep n c s, (s.port p).conns.find? (fun c => decide (c.ep = ep)) = some c → c.heard + sec c.supervision ≤ n →
    Runs (.connSupervisionTimeout p ep n) s (fun t => ∀ x ∈ (t.port p).conns, x.ep ≠ ep)) ∧
  (∀ p ep n c s, (s.port p).conns.find? (fun c => decide (c.ep = ep)) = some c → n < c.heard + sec c.supervision →
    Runs (.connSupervisionTimeout p ep n) s (fun t => t = s.reach n))

/-- R289, R313 to R318, R322 to R331, R334 to R339, R360 to R362: NET takes the oldest message of each kind that its ports received. A
JOIN_REQ copy is collected, and DISC_WIN + 10 s later its node is joined to its cheapest cell with room or refused; a report renews
its links, and old links go; a relay's third miss takes it DOWN and its beacon brings it back; an ORPHAN flood not seen before loses
its originator's route, and any other is only remembered; a connection request of a fast endpoint in radio range is granted.
Where the spec is silent, clauses rest on the model's choices: log entries 57, 61, 62, 64. -/
def Obligations.NetMessages : Prop :=
  (∀ n pre m l h a sl ro b items s, s.net.inbox = pre ++ m :: l → m.frame.payload = .command h (.joinReq a sl ro b items) →
    (∀ x ∈ pre, x.frame.payload.kind ≠ m.frame.payload.kind) → Runs (.joinReq n) s (fun t => t.net.inbox = pre ++ l ∧
      ∃ j ∈ t.net.joins, j.eui = h.node ∧ (m.port, h.route.reverse, h.cost) ∈ j.copies ∧ j.sleepy = sl ∧ j.router = ro)) ∧
  (∀ eui n j p r s, s.net.joins.find? (fun j => j.eui = eui) = some j → j.since + sec (s.discWin + 10) ≤ n → s.kindOf eui ≠ 2 →
    bestOffer ((j.copies.map (s.offer eui)).filter (fun x => s.cellRoom x.1 eui)) = some (p, r) →
    Runs (.joinDecision eui n) s (fun t => (t.node eui).st = .joined ∧ (t.node eui).home = p ∧ (t.node eui).hasRoute = true ∧
      (t.node eui).route = r.path ∧ (t.node eui).cost = r.cost ∧ (t.node eui).sleepy = j.sleepy ∧ t.net.joins = s.net.joins.erase j)) ∧
  (∀ eui n j s, s.net.joins.find? (fun j => j.eui = eui) = some j → j.since + sec (s.discWin + 10) ≤ n → s.kindOf eui = 2 ∨
    bestOffer ((j.copies.map (s.offer eui)).filter (fun x => s.cellRoom x.1 eui)) = none → Runs (.joinDecision eui n) s (fun t =>
      t.node eui = s.node eui ∧ t.net.joins = s.net.joins.erase j)) ∧
  (∀ eui n j s, s.net.joins.find? (fun j => j.eui = eui) = some j → n < j.since + sec (s.discWin + 10) →
    Runs (.joinDecision eui n) s (fun t => t = s.reach n)) ∧
  (∀ n pre m l h items s, s.net.inbox = pre ++ m :: l → m.frame.payload = .command h (.nbrReport items) →
    (∀ x ∈ pre, x.frame.payload.kind ≠ m.frame.payload.kind) → Runs (.nbrReport n) s (fun t =>
      t.net.inbox = pre ++ l ∧ ∀ i ∈ items, ∃ x ∈ t.net.links, x.by_ = h.node ∧ x.to_ = i.eui ∧ x.at_ = n)) ∧
  (∀ n s, Runs (.reportedLinkDrop n) s (fun t => (∀ x ∈ t.net.links, n < x.at_ + 3 * s.reportH * hourCounts) ∧
    ∀ x ∈ s.net.links, n < x.at_ + 3 * s.reportH * hourCounts → ∃ y ∈ t.net.links, y.by_ = x.by_ ∧ y.to_ = x.to_ ∧ y.at_ = x.at_)) ∧
  (∀ n pre m l h e k s, s.net.inbox = pre ++ m :: l → m.frame.payload = .command h (.relayMiss e k) →
    (∀ x ∈ pre, x.frame.payload.kind ≠ m.frame.payload.kind) → Runs (.relayMiss n) s (fun t => t.net.inbox = pre ++ l ∧
      (k = 3 → s.kindOf e = 1 → (t.node e).down = true) ∧ (k ≠ 3 ∨ s.kindOf e ≠ 1 → t.net.nodes = s.net.nodes))) ∧
  (∀ n pre m l b s, s.net.inbox = pre ++ m :: l → m.frame.payload = .beacon b →
    (∀ x ∈ pre, x.frame.payload.kind ≠ m.frame.payload.kind) → Runs (.beaconReceived n) s (fun t => t.net.inbox = pre ++ l ∧
      (s.kindOf m.frame.src = 1 → (t.node m.frame.src).down = false) ∧
      (s.kindOf m.frame.src ≠ 1 → t.net.nodes = s.net.nodes ∧ t.net.nbrs = s.net.nbrs))) ∧
  (∀ n pre m l b i x s, s.net.inbox = pre ++ m :: l → m.frame.payload = .beacon b →
    (∀ x ∈ pre, x.frame.payload.kind ≠ m.frame.payload.kind) → s.kindOf m.frame.src = 1 →
    s.net.find m.port m.frame.src = some (i, x) → (s.node m.frame.src).down = false → Runs (.beaconReceived n) s (fun t =>
      Store.get (fun _ => Nbr.blank) t.net.nbrs i = { x with beacon := some m.at_, misses := 0 })) ∧
  (∀ p eui n i x b s, s.net.find p eui = some (i, x) → x.beacon = some b → x.kind = 1 → (s.node eui).up = true → (s.node eui).home = p →
    (s.node eui).route = [] → x.misses < 2 → b + (x.misses + 1) * sec s.beaconS + sec s.beaconS / 4 ≤ n →
    Runs (.beaconMiss p eui n) s (fun t => (Store.get (fun _ => Nbr.blank) t.net.nbrs i).misses = x.misses + 1 ∧
      t.net.nodes = s.net.nodes)) ∧
  (∀ p eui n i x b s, s.net.find p eui = some (i, x) → x.beacon = some b → x.kind = 1 → (s.node eui).up = true → (s.node eui).home = p →
    (s.node eui).route = [] → x.misses = 2 → b + 3 * sec s.beaconS + sec s.beaconS / 4 ≤ n →
    Runs (.beaconMiss p eui n) s (fun t => (t.node eui).down = true)) ∧
  (∀ p eui n i x b s, s.net.find p eui = some (i, x) → x.beacon = some b →
    n < b + (x.misses + 1) * sec s.beaconS + sec s.beaconS / 4 → Runs (.beaconMiss p eui n) s (fun t => t = s.reach n)) ∧
  (∀ n pre m l o id ttl x s, s.net.inbox = pre ++ m :: l → m.frame.payload = .flood o id ttl (.orphan x) →
    (∀ x ∈ pre, x.frame.payload.kind ≠ m.frame.payload.kind) → Runs (.floodOrphan n) s (fun t => t.net.inbox = pre ++ l ∧
      ((s.seen (m.port / 8) o id n).2 = false → s.kindOf o ≠ 2 → (t.node o).hasRoute = false ∧ (t.node o).st ≠ .joined) ∧
      ((s.seen (m.port / 8) o id n).2 = true → t.net.nodes = s.net.nodes))) ∧
  (∀ n pre m l o id ttl b s, s.net.inbox = pre ++ m :: l → m.frame.payload = .flood o id ttl b → (∀ x, b ≠ .orphan x) →
    (∀ x ∈ pre, x.frame.payload.kind ≠ m.frame.payload.kind) → Runs (.floodEcho n) s (fun t =>
      t.net.inbox = pre ++ l ∧ t.out = s.out ∧
      ∃ k ∈ Store.get (fun _ => ([] : List SeenKey)) t.net.seen (m.port / 8), k.origin = o ∧ k.id = id)) ∧
  (∀ n pre m l h k a c i o s, s.net.inbox = pre ++ m :: l → m.frame.payload = .command h (.connReq k a) →
    (∀ x ∈ pre, x.frame.payload.kind ≠ m.frame.payload.kind) →
    s.sys.image.bind (fun im => im.epOf h.node) = some c → c.cls = 2 → s.isPlc (s.node h.node).home = false → (s.node h.node).route = [] →
    (connInts.filter (fun i => decide (k ≤ i))).findSome? (fun i => (s.placeConn (s.node h.node).home i
      ((s.port (s.node h.node).home).conns.filter (fun x => x.ep ≠ c.idx))).map (fun o => (i, o))) = some (i, o) →
    Runs (.connReq n) s (fun t => t.net.inbox = pre ++ l ∧
      ∃ x ∈ (t.port (s.node h.node).home).conns, x.ep = c.idx ∧ x.connInt = i ∧ x.heard = n ∧ k ≤ i)) ∧
  (∀ n pre m l h k a c s, s.net.inbox = pre ++ m :: l → m.frame.payload = .command h (.connReq k a) →
    (∀ x ∈ pre, x.frame.payload.kind ≠ m.frame.payload.kind) →
    s.sys.image.bind (fun im => im.epOf h.node) = some c → c.cls ≠ 2 ∨ s.isPlc (s.node h.node).home = true ∨ (s.node h.node).route ≠ [] →
    Runs (.connReq n) s (fun t => t.net.inbox = pre ++ l ∧
      (t.port (s.node h.node).home).conns = (s.port (s.node h.node).home).conns))

/-- R196, R201, R315 to R317, R326, R336, R342: NET's own timers and commands. A beacon that is due is posted with the next sequence
number; a cell with a broken route, or one due after RECOMP_MIN, is recomputed; a discovery round opens when it is due, and NET_CTRL
opens rounds and recomputes at once; NET_NBR_IDX takes a snapshot of its entry.
Where the spec is silent, clauses rest on the model's choices: log entries 59, 61, 63, 65, 154. -/
def Obligations.NetTimers : Prop :=
  (∀ p n s, s.running = true → s.portOn p = true → (s.port p).draining = false → (s.port p).launch.length < 64 →
    s.beaconDue p n = true → max s.tim.cnt n ≤ s.beaconLaunch p n + lateBy → s.beaconLaunch p n ≤ max s.tim.cnt n + 10 * 400000000 →
    Runs (.beaconTimer p n) s (fun t =>
      (t.port p).bseq = ((s.port p).bseq + 1) % 256 ∧ (t.port p).beaconAt = some n ∧
      ∃ i ∈ (t.port p).launch, i.launch = some (s.beaconLaunch p n) ∧ ∃ b, i.frame.payload = .beacon b ∧
        b.bseq = ((s.port p).bseq + 1) % 256)) ∧
  (∀ p n s, s.running = false ∨ s.portOn p = false ∨ (s.port p).draining = true ∨ s.beaconDue p n = false →
    Runs (.beaconTimer p n) s (fun t => t = s.reach n)) ∧
  (∀ p n s, s.routeBroken p = true ∨ (p ∈ s.net.recompDue ∧ (Store.get (fun _ => 0) s.net.recompAt p = 0 ∨
      Store.get (fun _ => 0) s.net.recompAt p - 1 + sec (field (s.rg R.NET_TIME) 19 12) ≤ n)) → Runs (.routeRecompute p n) s (fun t =>
    p ∉ t.net.recompDue ∧ Store.get (fun _ => 0) t.net.recompAt p = n + 1)) ∧
  (∀ p n s, s.routeBroken p = false → p ∉ s.net.recompDue → Runs (.routeRecompute p n) s (fun t => t = s.reach n)) ∧
  (∀ p n s, s.running = true → s.portOn p = true → (s.port p).draining = false →
    (∀ a ∈ (s.port p).roundAt, a + sec (field (s.rg R.NET_CFG) 15 0) ≤ n) → Runs (.discoveryRoundTimer p n) s (fun t =>
      t.net.round = (s.net.round + 1) % 256 ∧ (t.port p).roundAt = some n ∧ (t.port p).roundEnd = some (n + sec s.discWin))) ∧
  (∀ p n a s, (s.port p).roundAt = some a → n < a + sec (field (s.rg R.NET_CFG) 15 0) → Runs (.discoveryRoundTimer p n) s (fun t =>
    t = s.reach n)) ∧
  (∀ r n p s, Permits s r (0x800000 + R.NET_CTRL) → p < 64 → s.portOn p = true → (s.port p).draining = false →
    Runs (.netCtrlDisc r n) s (fun t => t.net.round = (s.net.round + 1) % 256 ∧ (t.port p).roundAt = some n)) ∧
  (∀ r n p s, Permits s r (0x800000 + R.NET_CTRL) → p < 64 → s.portOn p = true → Runs (.netCtrlRecompute r n) s (fun t =>
    Store.get (fun _ => 0) t.net.recompAt p = n + 1)) ∧
  (∀ r v x s, Permits s r R.NET_NBR_IDX → x = Store.get (fun _ => Nbr.blank) s.net.nbrs (field v 15 0) →
    Runs (.netNbrIdxWrite r v) s (fun t =>
      t.net = { s.net with snap := some (x, min 0xFFFFFFFF ((s.tim.cnt - x.heard) / 400000000)) }))

/-- R347 to R351, R364, R398, R399, R604 to R606: the meter jobs of the crypto lanes. An APDU with a fresh counter and a valid tag is
accepted, and its readings go to Warp on the fast path or to a core off it; one with a counter already used or a wrong tag leaves the
session's state of acceptance alone and is counted, one without a usable key is not opened, and one off the fast path whose queue is
full is dropped; an APDU to be sent takes the next transmit counter of the reservation, or waits for one.
Where the spec is silent, clauses rest on the model's choices: log entries 66, 67, 70. -/
def Obligations.MeterApdus : Prop :=
  (∀ l n ep p stamp irc q c es s, l ∈ s.lanesOn → s.key.waiting l = .openApdu ep p stamp irc :: q → s.keyGood (s.keyOf ep) = true →
    (s.sess ep).icRx.getD (s.keyOf ep).rxFloor < p.ic → p.tagOk = true → p.apdu = .notification es none → s.epCfg ep = some c →
    Runs (.cryptoLaneJob l true n) s (fun t => (t.sess ep).icRx = some p.ic ∧ (t.sess ep).tagFails = 0 ∧ (t.sess ep).lastApdu = n ∧
      t.msn.toWarp = s.msn.toWarp ++ es.filterMap (s.readingOf c irc false) ∧ t.key.waiting l = q)) ∧
  (∀ l n ep p stamp irc q c es s, l ∈ s.lanesOn → s.key.waiting l = .openApdu ep p stamp irc :: q → s.keyGood (s.keyOf ep) = true →
    (Store.get (fun _ => ([] : List PostDesc)) s.sht.hwHold 0x01).length < 4096 →
    (s.sess ep).icRx.getD (s.keyOf ep).rxFloor < p.ic → p.tagOk = true → p.apdu = .notification es none → es ≠ [] →
    s.epCfg ep = some c → Runs (.cryptoLaneJob l false n) s (fun t => (t.sess ep).icRx = some p.ic ∧ (t.sess ep).tagFails = 0 ∧
      t.msn.toWarp = s.msn.toWarp ∧ (ep, es.filterMap (s.readingOf c irc false)) ∈ t.msn.atCore ∧ t.key.waiting l = q)) ∧
  (∀ l n ep p stamp irc q s, l ∈ s.lanesOn → s.key.waiting l = .openApdu ep p stamp irc :: q →
    4096 ≤ (Store.get (fun _ => ([] : List PostDesc)) s.sht.hwHold 0x01).length → Runs (.cryptoLaneJob l false n) s (fun t =>
      t.msn = s.msn ∧ t.key.waiting l = q)) ∧
  (∀ l n b ep p stamp irc q s, l ∈ s.lanesOn → s.key.waiting l = .openApdu ep p stamp irc :: q → s.keyGood (s.keyOf ep) = true →
    p.ic ≤ (s.sess ep).icRx.getD (s.keyOf ep).rxFloor → Runs (.cryptoLaneJob l b n) s (fun t => t.msn = s.msn ∧
      t.key.waiting l = q)) ∧
  (∀ l n ep p stamp irc q s, l ∈ s.lanesOn → s.key.waiting l = .openApdu ep p stamp irc :: q → s.keyGood (s.keyOf ep) = true →
    (s.sess ep).icRx.getD (s.keyOf ep).rxFloor < p.ic → p.tagOk = false → Runs (.cryptoLaneJob l true n) s (fun t =>
      t.sess ep = { s.sess ep with tagFails := (s.sess ep).tagFails + 1 } ∧ t.msn.toWarp = s.msn.toWarp ∧ t.key.waiting l = q)) ∧
  (∀ l n b ep p stamp irc q s, l ∈ s.lanesOn → s.key.waiting l = .openApdu ep p stamp irc :: q → s.keyGood (s.keyOf ep) = false →
    s.keyGood (Store.get (fun _ => KeyEntry.blank) s.nand.keyCopy ep) = false → Runs (.cryptoLaneJob l b n) s (fun t =>
      t.msn = s.msn ∧ t.key.waiting l = q)) ∧
  (∀ l n ep a q c m e s b, l ∈ s.lanesOn → s.key.waiting l = .sealApdu ep a :: q → s.keyGood (s.keyOf ep) = true →
    (s.sess ep).icTx = some (m, e) → m < e → m < 2 ^ 32 → s.epCfg ep = some c → Runs (.cryptoLaneJob l b n) s (fun t =>
      (t.sess ep).icTx = some (m + 1, e) ∧ (t.sess ep).lastApdu = n ∧ t.key.waiting l = q)) ∧
  (∀ l n ep a q c m e s b, l ∈ s.lanesOn → s.key.waiting l = .sealApdu ep a :: q → s.keyGood (s.keyOf ep) = true →
    (s.sess ep).icTx = some (m, e) → e ≤ m → m < 2 ^ 32 → s.epCfg ep = some c → Runs (.cryptoLaneJob l b n) s (fun t =>
      t.msn = s.msn ∧ ep ∈ t.key.waitResv ∧ t.key.waiting l = q)) ∧
  (∀ l n b s, l ∉ s.lanesOn ∨ s.key.waiting l = [] → Runs (.cryptoLaneJob l b n) s (fun t => t = s.reach n))

/-- R348, R355 to R358, R364 to R367, R369 to R372, R375: confirmed requests fall due once an interval, start in the order of R358, are
sent again and end; a channel that lags gets its backfill; associations end; a campaign sends one block per BLOCK_GAP and activates;
a push that is late is told once; MSN_CTRL pauses.
Where the spec is silent, clauses rest on the model's choices: log entries 68, 69, 72. -/
def Obligations.MeterRequests : Prop :=
  (∀ ep n u c s, s.epCfg ep = some c → s.running = true → c.cls = 0 → 0 < c.interval →
    u = (((s.stampNs (max s.tim.cnt n) / second : Nat) : Int) - s.utcOff).toNat → u % c.interval = s.pollOffset ep % c.interval →
    (s.sess ep).polled ≠ u / c.interval + 1 → Runs (.pollDue ep n) s (fun t => (t.sess ep).polled = u / c.interval + 1 ∧
      ∃ q, (ep, q) ∈ t.msn.held ∧ q.kind = .poll (s.nextCapture c) (s.stampNs (max s.tim.cnt n)))) ∧
  (∀ ep n u c s, s.epCfg ep = some c → u = (((s.stampNs (max s.tim.cnt n) / second : Nat) : Int) - s.utcOff).toNat →
    c.cls ≠ 0 ∨ u % c.interval ≠ s.pollOffset ep % c.interval ∨ (s.sess ep).polled = u / max 1 c.interval + 1 →
    Runs (.pollDue ep n) s (fun t => t = s.reach n)) ∧
  (∀ n ep q s, s.running = true → s.openReqs < 65536 → (s.reach n).nextStart = some (ep, q) → Runs (.requestStart n) s (fun t =>
    t.msn.held.length < s.msn.held.length ∧ ∃ k, (t.sess ep).outReq = some k ∧ k.tries = 0 ∧
      ((s.sess ep).transfer = none ∨ s.transferOut ep n = false → k.kind = q.kind))) ∧
  (∀ n s, s.running = true → (s.reach n).nextStart = none ∨ 65536 ≤ s.openReqs → Runs (.requestStart n) s (fun t =>
    t.msn.sess = s.msn.sess)) ∧
  (∀ ep n q s, (s.sess ep).outReq = some q → s.waitOver ep q n = true → s.reqTries ≤ q.tries → Runs (.respWaitExpiry ep n) s (fun t =>
    (t.sess ep).outReq = none)) ∧
  (∀ ep n q s, (s.sess ep).outReq = some q → s.waitOver ep q n = true → q.tries < s.reqTries → Runs (.respWaitExpiry ep n) s (fun t =>
    (s.transferOut ep n = false → (t.sess ep).outReq = some { q with back := false, delivered := none, uplink := none }) ∧
    (s.transferOut ep n = true → s.epCfg ep ≠ none → (t.sess ep).transfer = none ∧
      ∃ k, (t.sess ep).outReq = some k ∧ k.tries = q.tries ∧ k.delivered = none))) ∧
  (∀ ep n q s, (s.sess ep).outReq = some q → s.waitOver ep q n = false → Runs (.respWaitExpiry ep n) s (fun t => t = s.reach n)) ∧
  (∀ ch n c x lag s, s.epCfg (Chid.ep ch) = some c → s.sys.image.bind (fun im => im.chan ch) = some x → s.running = true →
    (Store.get (fun _ => Chan.blank) s.wrp.chans ch).lastIdx ≠ 0 → s.msn.held = [] → (s.sess (Chid.ep ch)).outReq = none →
    lag = ((((s.stampNs (max s.tim.cnt n) / second : Nat) : Int) - s.utcOff).toNat / max 1 x.period -
      (Store.get (fun _ => Chan.blank) s.wrp.chans ch).lastIdx) * x.period →
    Runs (.backfillStart ch n) s (fun t =>
      (s.lagLimit c x.period < lag → ∃ q, (Chid.ep ch, q) ∈ t.msn.held ∧
        q.kind = .backfill ch ((Store.get (fun _ => Chan.blank) s.wrp.chans ch).lastIdx + 1)
          (s.captureNs x.period ((Store.get (fun _ => Chan.blank) s.wrp.chans ch).lastIdx + 1))) ∧
      (lag ≤ s.lagLimit c x.period → t = s.reach n))) ∧
  (∀ ep n s, (s.sess ep).assoc = true → (s.sess ep).lastApdu + s.sessLife ≤ n → Runs (.sessionLifeExpiry ep n) s (fun t =>
    (t.sess ep).assoc = false ∧ (t.sess ep).icTx = (s.sess ep).icTx ∧ (t.sess ep).icRx = (s.sess ep).icRx)) ∧
  (∀ ep n s, (s.sess ep).assoc = false ∨ n < (s.sess ep).lastApdu + s.sessLife → Runs (.sessionLifeExpiry ep n) s (fun t =>
    t = s.reach n)) ∧
  (∀ p n c x b l s, s.msn.campaign = some c → c.ports.find? (fun x => decide (x.port = p ∧ x.step = 3)) = some x → x.todo = b :: l →
    bit (s.rg R.MSN_CTRL) 1 = false → s.running = true → (∀ a, x.sentAt = some a → a + s.blockGap ≤ n) →
    Runs (.campaignBlock p n) s (fun t => t.net.floodId = (s.net.floodId + 1) % 65536)) ∧
  (∀ p n a c x s, s.msn.campaign = some c → c.ports.find? (fun x => decide (x.port = p ∧ x.step = 3)) = some x → x.sentAt = some a →
    n < a + s.blockGap → Runs (.campaignBlock p n) s (fun t => t = s.reach n)) ∧
  (∀ p n s, bit (s.rg R.MSN_CTRL) 1 = true → Runs (.campaignBlock p n) s (fun t => t = s.reach n)) ∧
  (∀ n c a s, s.msn.campaign = some c → c.activate = some a → c.step = 8 → a ≤ s.stampNs (max s.tim.cnt n) →
    Runs (.campaignActivateTime n) s (fun t => t.msn.campaign = none ∧ t.nand.campaign = none ∧
      ∀ x ∈ c.targets, x.st = .verified → ∃ q, (x.ep, q) ∈ t.msn.held ∧ q.kind = .firmware .imageActivate)) ∧
  (∀ n c s, s.msn.campaign = some c → c.activate = none ∨ c.step ≠ 8 → Runs (.campaignActivateTime n) s (fun t => t = s.reach n)) ∧
  (∀ ep slot n q a s, (ep, q) ∈ s.msn.held → q.kind = .push slot a → s.stampNs (max s.tim.cnt n) < a →
    a ≤ s.stampNs (max s.tim.cnt n) + 86400 * second → s.active Ev.TARIFF_PUSH_LATE = false → (ep, slot) ∉ s.msn.late →
    Runs (.tariffPushLate ep slot n) s (fun t => s.evt.seq < t.evt.seq ∧ t.msn.held = s.msn.held ∧ (ep, slot) ∈ t.msn.late)) ∧
  (∀ ep slot n s, (ep, slot) ∈ s.msn.late → Runs (.tariffPushLate ep slot n) s (fun t => t = s.reach n)) ∧
  (∀ r b s, Permits s r (0x800000 + R.MSN_CTRL) → Runs (.fwPause r b) s (fun t =>
    bit (t.rg R.MSN_CTRL) 1 = b ∧ bit (t.rg R.MSN_CTRL) 0 = bit (s.rg R.MSN_CTRL) 0)) ∧
  (∀ r b s, Permits s r (0x800000 + R.MSN_CTRL) → Runs (.bfPause r b) s (fun t =>
    bit (t.rg R.MSN_CTRL) 0 = b ∧ bit (t.rg R.MSN_CTRL) 1 = bit (s.rg R.MSN_CTRL) 1))

/-- R378, R381, R382, R384 to R386, R396, R398, R399, R401, R404, R405, R408: dispatch and posts. A core is given the first eligible
task of the highest priority or waits for one; an accepted post takes a descriptor and its ID is answered; a refused one is answered
with its cause; in compatibility a post that is refused, or that finds its ring in use, goes to its ring, or is refused with SPILL_FULL
where the ring is full; a waiting hardware post is retried; a list's tick is set while the list is empty; cores are withdrawn and added.
A core that does not run, or waits already, changes nothing.
Where the spec is silent, clauses rest on the model's choices: log entries 15, 77, 78, 145. -/
def Obligations.DispatchAndPosts : Prop :=
  (∀ c x s, s.coreRuns c = true → s.sht.waiting = [] → s.holds c = none → nbit s.sht.coreEn c = true →
    (∀ q < 32, ∀ y ∈ s.readyList q, s.strays y = false) → s.pick c = some x → Runs (.shtDispatch c) s (fun t =>
      t.holds c = some (x, s.tim.cnt) ∧ t.readyList x.d.prio = (s.readyList x.d.prio).erase x ∧ t.sht.waiting = [] ∧
      t.out = s.out ++ [.dispatched c 0 x.id])) ∧
  (∀ c s, s.coreRuns c = true → s.sht.waiting = [] → s.holds c = none → nbit s.sht.coreEn c = true →
    (∀ q < 32, ∀ y ∈ s.readyList q, s.strays y = false) → s.pick c = none → Runs (.shtDispatch c) s (fun t =>
      t.holds c = none ∧ t.sht.waiting = [c] ∧ t.out = s.out ∧ (t.coreMem c).dcache = [])) ∧
  (∀ c s, s.coreRuns c = true → c ∉ s.sht.waiting → (s.holds c).isSome = true → Runs (.shtDispatch c) s (fun t =>
    t = { s.coreInvalidate c with out := s.out ++ [.busError c] })) ∧
  (∀ c s, s.coreRuns c = false ∨ c ∈ s.sht.waiting → Runs (.shtDispatch c) s (fun t => t = s)) ∧
  (∀ c s, s.coreRuns c = true → c ∉ s.sht.waiting → s.holds c = none → nbit s.sht.coreEn c = false → Runs (.shtDispatch c) s (fun t =>
    nbit t.sht.running c = false ∧ t.out = s.out ++ [.dispatched c 1 0])) ∧
  (∀ c d s, s.coreRuns c = true → s.sht.accepting = true → s.sht.waiting = [] → d.src = 0x10 ∨ 0x20 ≤ d.src ∧ d.src ≤ 0x2F →
    s.decidePost d.src = .accept → d.dlist < 8 → s.sht.spill = [] ∨ bit (s.rg R.SHT_CTRL) 0 = false ∨ d.delay ≠ 0 → Runs (.shtPost c d) s (fun t =>
      t.usedOf d.src = s.usedOf d.src + 1 ∧ .coreStatus c 0 ∈ t.out ∧
      ∃ x, x.d = d ∧ x.retries = 0 ∧ .taskId c x.id ∈ t.out ∧
        (d.delay = 0 → (t.readyList d.prio).map Task.id = (s.readyList d.prio).map Task.id ++ [x.id]) ∧
        (d.delay ≠ 0 → (s.tim.cnt / s.tickOf d.dlist + d.delay, x) ∈ t.delayList d.dlist))) ∧
  (∀ c d s, s.coreRuns c = true → s.sht.accepting = true → d.src = 0x10 ∨ 0x20 ≤ d.src ∧ d.src ≤ 0x2F →
    s.decidePost d.src = .cap → bit (s.rg R.SHT_CTRL) 0 = false ∨ d.delay ≠ 0 → Runs (.shtPost c d) s (fun t =>
      t.sht = (s.coreVisible c).sht ∧ t.out = s.out ++ [.coreStatus c 0x11, .taskId c 0xFFFFFF])) ∧
  (∀ c d s, s.coreRuns c = true → s.sht.accepting = true → d.src = 0x10 ∨ 0x20 ≤ d.src ∧ d.src ≤ 0x2F →
    s.decidePost d.src = .full → bit (s.rg R.SHT_CTRL) 0 = false ∨ d.delay ≠ 0 → Runs (.shtPost c d) s (fun t =>
      t.sht = (s.coreVisible c).sht ∧ t.out = s.out ++ [.coreStatus c 0x10, .taskId c 0xFFFFFF])) ∧
  (∀ c d s, s.coreRuns c = true → s.sht.accepting = true → d.src = 0x10 ∨ 0x20 ≤ d.src ∧ d.src ≤ 0x2F →
    s.decidePost d.src ≠ .accept ∨ Store.get (fun _ => []) s.sht.spill d.prio ≠ [] → bit (s.rg R.SHT_CTRL) 0 = true → d.delay = 0 →
    (Store.get (fun _ => []) s.sht.spill d.prio).length < s.ringSize → Runs (.shtPost c d) s (fun t =>
      Store.get (fun _ => []) t.sht.spill d.prio = Store.get (fun _ => []) s.sht.spill d.prio ++ [d] ∧
      t.out = s.out ++ [.coreStatus c 1, .taskId c 0xFFFFFF])) ∧
  (∀ c d s, s.coreRuns c = true → s.sht.accepting = true → d.src = 0x10 ∨ 0x20 ≤ d.src ∧ d.src ≤ 0x2F →
    s.decidePost d.src = .full → bit (s.rg R.SHT_CTRL) 0 = true → d.delay = 0 →
    s.ringSize ≤ (Store.get (fun _ => []) s.sht.spill d.prio).length → s.active Ev.SPILL_FULL = false →
    Runs (.shtPost c d) s (fun t => t.sht = (s.coreVisible c).sht ∧ s.evt.seq < t.evt.seq ∧ .coreStatus c 0x10 ∈ t.out)) ∧
  (∀ c d s, s.coreRuns c = true → s.sht.accepting = true → d.src ≠ 0x10 → d.src < 0x20 ∨ 0x2F < d.src → Runs (.shtPost c d) s (fun t =>
    t = { s.coreVisible c with out := s.out ++ [.coreStatus c 0x12, .taskId c 0xFFFFFF] } ∧ (t.coreMem c).wbuf = [])) ∧
  (∀ c d s, s.coreRuns c = false ∨ s.sht.accepting = false → Runs (.shtPost c d) s (fun t => t = s)) ∧
  (∀ c d q s, s.sht.accepting = true → Store.get (fun _ => []) s.sht.hwHold c = d :: q → d.src = c → s.decidePost c = .accept →
    Runs (.hwPostRetry c) s (fun t => Store.get (fun _ => []) t.sht.hwHold c = q ∧ t.usedOf c = s.usedOf c + 1)) ∧
  (∀ c s, s.sht.accepting = false ∨ (∀ d q, Store.get (fun _ => []) s.sht.hwHold c = d :: q → s.decidePost d.src ≠ .accept) →
    Runs (.hwPostRetry c) s (fun t => t = s)) ∧
  (∀ r k v s, k < 8 → Permits s r (0x800000 + R.SHT_TICK_k + 4 * k) → s.delayList k = [] → Runs (.shtTickWrite r k v) s (fun t =>
    (t.rg (R.SHT_TICK_k + 4 * k)).toNat = v.toNat % 2 ^ 17)) ∧
  (∀ r k v s, k < 8 → Permits s r (0x800000 + R.SHT_TICK_k + 4 * k) → s.delayList k ≠ [] → Runs (.shtTickWrite r k v) s (fun t =>
    ∀ a, t.rg a = s.rg a)) ∧
  (∀ r c s, c < 32 → Permits s r (0x800000 + R.SHT_CORE_EN) → s.sht.coreEn < 2 ^ 32 → nbit s.sht.coreEn c = true → c ∈ s.sht.waiting →
    Runs (.coreWithdraw r c) s (fun t => nbit t.sht.coreEn c = false ∧ nbit t.sht.running c = false ∧ c ∉ t.sht.waiting ∧
      .dispatched c 1 0 ∈ t.out)) ∧
  (∀ r c s, c < 32 → Permits s r (0x800000 + R.SHT_CORE_EN) → s.sht.coreEn < 2 ^ 32 → nbit s.sht.coreEn c = true → c ∉ s.sht.waiting →
    (s.holds c).isSome = true → Runs (.coreWithdraw r c) s (fun t => nbit t.sht.coreEn c = false ∧
      nbit t.sht.running c = nbit s.sht.running c ∧ t.holds c = s.holds c)) ∧
  (∀ r c s, c < 32 → Permits s r (0x800000 + R.SHT_CORE_EN) → s.sht.coreEn < 2 ^ 32 → nbit s.sht.coreEn c = true → c ∉ s.sht.waiting →
    s.holds c = none → Runs (.coreWithdraw r c) s (fun t => nbit t.sht.coreEn c = false ∧ t.holds c = none)) ∧
  (∀ r c s, c < 32 → Permits s r (0x800000 + R.SHT_CORE_EN) → s.sht.coreEn < 2 ^ 32 → nbit s.sht.coreEn c = false →
    nbit s.sys.cores c = false ∨ s.clusterOn c = false → Runs (.coreAdd r c) s (fun t => nbit t.sht.coreEn c = false ∧
      nbit t.sht.running c = nbit s.sht.running c)) ∧
  (∀ r c s, c < 32 → Permits s r (0x800000 + R.SHT_CORE_EN) → s.sht.coreEn < 2 ^ 32 → nbit s.sht.coreEn c = false →
    nbit s.sys.cores c = true → s.clusterOn c = true → Runs (.coreAdd r c) s (fun t => nbit t.sht.coreEn c = true ∧
      nbit t.sht.running c = true ∧ (t.coreMem c).dcache = [] ∧ (t.coreMem c).wbuf = []))

/-- R377, R390 to R395, R402, R404, R726: a task completes, goes to the tail or the head of its list with its continuation, or waits in a
delay list until its tick; a waiting task is cancelled; a core without a task takes a bus error; a core that holds its task too long is reset, its task goes back to the head of
its list with one more retry or ends at its fourth, and the core fails at its third reset within an hour.
Where the spec is silent, clauses rest on the model's choices: log entries 76, 78. -/
def Obligations.CompletionAndWatchdog : Prop :=
  (∀ c x u s, s.coreRuns c = true → Quiet s → s.holds c = some (x, u) → Runs (.shtDoneDone c) s (fun t =>
    t.holds c = none ∧ t.usedOf x.d.src = s.usedOf x.d.src - 1 ∧ t.sht.freed = x.index :: s.sht.freed ∧
    nbit t.sht.running c = nbit s.sht.coreEn c ∧ (t.coreMem c).pmp = [])) ∧
  (∀ c x u k s, s.coreRuns c = true → s.sht.waiting = [] → s.holds c = some (x, u) → Runs (.shtDoneRequeue c k) s (fun t =>
    t.holds c = none ∧ (t.readyList x.d.prio).map Task.id = (s.readyList x.d.prio).map Task.id ++ [x.id] ∧
    ∃ y, (t.readyList x.d.prio).getLast? = some y ∧ y.id = x.id ∧ y.d = (x.cont k).d ∧ y.overruns = 0)) ∧
  (∀ c x u k s, s.coreRuns c = true → s.sht.waiting = [] → s.holds c = some (x, u) → Runs (.shtDoneYield c k) s (fun t =>
    t.holds c = none ∧ (t.readyList x.d.prio).map Task.id = x.id :: (s.readyList x.d.prio).map Task.id ∧
    ∃ y, (t.readyList x.d.prio).head? = some y ∧ y.d = (x.cont k).d ∧ y.overruns = 0)) ∧
  (∀ c x u k l n s, s.coreRuns c = true → s.sht.waiting = [] → s.holds c = some (x, u) → l < 8 → n < 2 ^ 24 →
    Runs (.shtDoneDelay c l n k) s (fun t => t.holds c = none ∧
      (s.tim.cnt / s.tickOf l + max 1 n, { x.cont k with overruns := 0 }) ∈ t.delayList l)) ∧
  (∀ c l n k s, s.coreRuns c = true → s.holds c = none →
    Runs (.shtDoneDone c) s (fun t => t = { s with out := s.out ++ [.busError c] }) ∧
    Runs (.shtDoneRequeue c k) s (fun t => t = { s with out := s.out ++ [.busError c] }) ∧
    Runs (.shtDoneYield c k) s (fun t => t = { s with out := s.out ++ [.busError c] }) ∧
    Runs (.shtDoneDelay c l n k) s (fun t => t = { s with out := s.out ++ [.busError c] })) ∧
  (∀ c i l n k s, s.coreRuns c = false → Runs (.shtDoneDone c) s (fun t => t = s) ∧ Runs (.shtDoneRequeue c k) s (fun t => t = s) ∧
    Runs (.shtDoneYield c k) s (fun t => t = s) ∧ Runs (.shtDoneDelay c l n k) s (fun t => t = s) ∧
    Runs (.shtCancel c i) s (fun t => t = s)) ∧
  (∀ c i x s, s.coreRuns c = true → Quiet s → s.waitingTask i = some x → Runs (.shtCancel c i) s (fun t =>
    t.usedOf x.d.src = s.usedOf x.d.src - 1 ∧ t.out = s.out ++ [.coreStatus c 0] ∧ ∀ q, ∀ y ∈ t.readyList q, y.id ≠ i)) ∧
  (∀ c i s, s.coreRuns c = true → s.sht.waiting = [] → s.waitingTask i = none → Runs (.shtCancel c i) s (fun t =>
    t.sht.held = s.sht.held ∧ (t.out = s.out ++ [.coreStatus c 1] ∨ t.out = s.out ++ [.coreStatus c 2]))) ∧
  (∀ k n x d s, s.sht.waiting = [] → (d, x) ∈ s.delayList k → d ≤ n / s.tickOf k → Runs (.delayListTick k n) s (fun t =>
    (∃ y ∈ t.readyList x.d.prio, y.id = x.id) ∧ ∀ y ∈ t.delayList k, n / s.tickOf k < y.1)) ∧
  (∀ k n s, s.sht.waiting = [] → (∀ y ∈ s.delayList k, n / s.tickOf k < y.1) → Runs (.delayListTick k n) s (fun t =>
    t.delayList k = s.delayList k ∧ ∀ q, (t.readyList q).map Task.id = (s.readyList q).map Task.id)) ∧
  (∀ c n x u s, s.sht.waiting = [] → s.holds c = some (x, u) → u + msCounts (s.rg R.SHT_WD).toNat < n → x.retries < 3 →
    Runs (.taskWatchdog c n) s (fun t => t.holds c = none ∧
      (t.readyList x.d.prio).map Task.id = x.id :: (s.readyList x.d.prio).map Task.id ∧
      ∃ y, (t.readyList x.d.prio).head? = some y ∧ y.retries = x.retries + 1 ∧ y.d = x.d)) ∧
  (∀ c n x u s, Quiet s → s.holds c = some (x, u) → u + msCounts (s.rg R.SHT_WD).toNat < n → 3 ≤ x.retries →
    Runs (.taskWatchdog c n) s (fun t => t.holds c = none ∧ t.usedOf x.d.src = s.usedOf x.d.src - 1)) ∧
  (∀ c n x u a b l s, s.sht.waiting = [] → s.holds c = some (x, u) → u + msCounts (s.rg R.SHT_WD).toNat < n →
    Store.get (fun _ => []) s.sht.resets c = a :: b :: l → n < a + hourCounts → n < b + hourCounts →
    Runs (.taskWatchdog c n) s (fun t => nbit t.sht.coreEn c = false ∧ nbit t.sht.running c = false)) ∧
  (∀ c n s, s.holds c = none → Runs (.taskWatchdog c n) s (fun t => t = s.reach n)) ∧
  (∀ c n x u s, s.holds c = some (x, u) → n ≤ u + msCounts (s.rg R.SHT_WD).toNat → Runs (.taskWatchdog c n) s (fun t =>
    t = s.reach n))

/-- R410 to R412: the environment calls of an extension task, its budget and its faults. A task that is taken up again is one that gave
its core up; a call of a core that runs no extension task changes nothing.
Where the spec is silent, clauses rest on the model's choices: log entries 77, 143, 145. -/
def Obligations.ExtensionTasks : Prop :=
  (∀ c x u s, Quiet s → s.extTask c = some (x, u) → Runs (.extDone c) s (fun t =>
    t.holds c = none ∧ t.usedOf x.d.src = s.usedOf x.d.src - 1)) ∧
  (∀ c x u k s, s.sht.waiting = [] → s.extTask c = some (x, u) → Runs (.extRequeue c k) s (fun t =>
    t.holds c = none ∧ (t.readyList x.d.prio).map Task.id = (s.readyList x.d.prio).map Task.id ++ [x.id])) ∧
  (∀ c x u k s, s.sht.waiting = [] → s.extTask c = some (x, u) → Runs (.extYield c k) s (fun t =>
    t.holds c = none ∧ (t.readyList x.d.prio).map Task.id = x.id :: (s.readyList x.d.prio).map Task.id)) ∧
  (∀ c x u k l n s, s.sht.waiting = [] → s.extTask c = some (x, u) → l < 8 → n < 2 ^ 24 → Runs (.extDelay c l n k) s (fun t =>
    t.holds c = none ∧ (s.tim.cnt / s.tickOf l + max 1 n, { x.cont k with overruns := 0 }) ∈ t.delayList l)) ∧
  (∀ c x u e i a b g p d s, s.extTask c = some (x, u) → s.extCfg x.d.src = some e → i ∈ e.entries →
    s.sht.accepting = true → s.decidePost x.d.src = .accept → s.sht.spill = [] ∨ bit (s.rg R.SHT_CTRL) 0 = false ∨ d % 2 ^ 24 ≠ 0 → Runs (.extPost c i a b g p d) s (fun t =>
      t.usedOf x.d.src = s.usedOf x.d.src + 1 ∧ .coreStatus c 0 ∈ t.out)) ∧
  (∀ c x u e i a b g p d s, s.extTask c = some (x, u) → s.extCfg x.d.src = some e → i ∈ e.entries →
    s.sht.accepting = true → bit (s.rg R.SHT_CTRL) 0 = false ∨ d % 2 ^ 24 ≠ 0 →
    (s.decidePost x.d.src = .cap → Runs (.extPost c i a b g p d) s (fun t => t.out = s.out ++ [.coreStatus c 0x11, .taskId c 0xFFFFFF])) ∧
    (s.decidePost x.d.src = .full → Runs (.extPost c i a b g p d) s (fun t => t.out = s.out ++ [.coreStatus c 0x10, .taskId c 0xFFFFFF]))) ∧
  (∀ c x u e i a b g p d s, s.extTask c = some (x, u) → s.extCfg x.d.src = some e → s.sht.accepting = true → i ∉ e.entries →
    Runs (.extPost c i a b g p d) s (fun t => t = { s.coreVisible c with out := s.out ++ [.badEntry c] })) ∧
  (∀ c x u y i s, Quiet s → s.extTask c = some (x, u) → s.waitingTask i = some y → y.d.src = x.d.src → Runs (.extCancel c i) s (fun t =>
    t.usedOf y.d.src = s.usedOf y.d.src - 1 ∧ t.out = s.out ++ [.coreStatus c 0])) ∧
  (∀ c x u y i s, s.sht.waiting = [] → s.extTask c = some (x, u) → s.waitingTask i = some y → y.d.src ≠ x.d.src →
    Runs (.extCancel c i) s (fun t => (∃ z, t.waitingTask i = some z ∧ z.id = i) ∧ t.out = s.out ++ [.coreStatus c 2])) ∧
  (∀ c x u i s, s.sht.waiting = [] → s.extTask c = some (x, u) → s.waitingTask i = none → x.id = i → Runs (.extCancel c i) s (fun t =>
    t.holds c = s.holds c ∧ t.out = s.out ++ [.coreStatus c 1])) ∧
  (∀ c i a b g p d l n k s, s.extTask c = none → Runs (.extDone c) s (fun t => t = s) ∧ Runs (.extRequeue c k) s (fun t => t = s) ∧
    Runs (.extYield c k) s (fun t => t = s) ∧ Runs (.extDelay c l n k) s (fun t => t = s) ∧
    Runs (.extPost c i a b g p d) s (fun t => t = s) ∧ Runs (.extCancel c i) s (fun t => t = s) ∧
    Runs (.extFault c i) s (fun t => t = s) ∧ Runs (.extBudgetOverrun c n) s (fun t => t.sht = s.sht)) ∧
  (∀ c x u e n s, s.extTask c = some (x, u) → s.extCfg x.d.src = some e → n ≤ u + usCounts e.budgetUs →
    Runs (.extBudgetOverrun c n) s (fun t => t = s.reach n)) ∧
  (∀ c x u e n s, s.sht.waiting = [] → s.extTask c = some (x, u) → s.extCfg x.d.src = some e → u + usCounts e.budgetUs < n →
    x.overruns < 3 → Runs (.extBudgetOverrun c n) s (fun t => t.holds c = none ∧
      (t.readyList x.d.prio).map Task.id = (s.readyList x.d.prio).map Task.id ++ [x.id] ∧
      ∃ y, (t.readyList x.d.prio).getLast? = some y ∧ y.overruns = x.overruns + 1)) ∧
  (∀ c x u e n s, Quiet s → s.extTask c = some (x, u) → s.extCfg x.d.src = some e → u + usCounts e.budgetUs < n →
    3 ≤ x.overruns → s.active Ev.EXT_OVERRUN = false → Runs (.extBudgetOverrun c n) s (fun t =>
      t.holds c = none ∧ t.usedOf x.d.src = s.usedOf x.d.src - 1 ∧ s.evt.seq < t.evt.seq)) ∧
  (∀ c x u a s, Quiet s → s.extTask c = some (x, u) → s.active Ev.EXT_FAULT = false → Runs (.extFault c a) s (fun t =>
    t.holds c = none ∧ t.usedOf x.d.src = s.usedOf x.d.src - 1 ∧ s.evt.seq < t.evt.seq))

/-- R423, R426 to R430, R432, R433: a reading that reaches Warp. On a channel that is not enabled it is discarded; one at or below the last
index is a duplicate; one beyond a missing index is held; the next one is the channel's base, or the base of a re-anchored channel, or
is accepted with its totals and with one ESTIMATED entry for each index it passes that holds none, or is REJECTED, the third MONO or
RATE_HIGH rejection in a row bringing VEE_HOLD; one outside the time window is REJECTED too. GAP reports mark indices and release what
they cover, and a chain is released after GAP_WAIT. Outside START and ACTIVE nothing is taken.
Where the spec is silent, clauses rest on the model's choices: log entries 80, 81, 82, 83. -/
def Obligations.WarpReadings : Prop :=
  (∀ e q s, s.sys.st = .active → s.msn.toWarp = .reading e :: q → (s.wch e.ch).en = false → Runs (.warpItem none) s (fun t =>
    t.msn.toWarp = q ∧ t.wrp = s.wrp)) ∧
  (∀ e q s, s.sys.st = .active → s.msn.toWarp = .reading e :: q → (s.wch e.ch).en = true → e.ridx ≤ (s.wch e.ch).lastIdx →
    Runs (.warpItem none) s (fun t => t.msn.toWarp = q ∧ t.wch e.ch = s.wch e.ch ∧ t.wrp.jseq = s.wrp.jseq)) ∧
  (∀ e q s, s.sys.st = .active → s.msn.toWarp = .reading e :: q → (s.wch e.ch).en = true → (s.wch e.ch).lastIdx < e.ridx →
    (s.wch e.ch).covered e.ridx = false → s.queueUsed + (s.wch e.ch).queue.length + (s.wch e.ch).held.length < 7864320 →
    Runs (.warpItem none) s (fun t => (t.wch e.ch).lastIdx = (s.wch e.ch).lastIdx ∧
      ∃ h ∈ (t.wch e.ch).held, h.1 = s.tim.cnt ∧ h.2.ridx = e.ridx ∧ h.2.totF = e.totF ∧ h.2.totR = e.totR)) ∧
  (∀ e q s, s.sys.st = .active → s.msn.toWarp = .reading e :: q → e.kind = .actual → NextEntry s e → (s.wch e.ch).lastTime = 0 →
    e.totF < 10 ^ (s.wch e.ch).n → e.totR < 10 ^ (s.wch e.ch).n → Runs (.warpItem none) s (fun t =>
      (t.wch e.ch).lastIdx = e.ridx ∧ (t.wch e.ch).lastTime = e.capture ∧ (t.wch e.ch).baseIdx = e.ridx ∧
      (t.wch e.ch).totF = e.totF ∧ (t.wch e.ch).totR = e.totR ∧ (t.wch e.ch).rate = (s.wch e.ch).rate ∧
      t.wrp.jseq = s.wrp.jseq + 1 ∧ (t.wch e.ch).queue.length = (s.wch e.ch).queue.length + 1)) ∧
  (∀ e q s, s.sys.st = .active → s.msn.toWarp = .reading e :: q → e.kind = .actual → (s.wch e.ch).en = true → (s.wch e.ch).held = [] →
    e.ridx = (s.wch e.ch).lastIdx + 1 → (s.everLocked = true → e.capture ≤ s.nowNs + s.futTol * second) → s.nowNs ≤ e.capture + s.pastMax →
    (s.wch e.ch).armed = true → (s.wch e.ch).anchorIdx = none → (s.wch e.ch).queue = [] → s.onProbe e.ch = false → s.queueUsed < 7864320 →
    e.totF < 10 ^ (s.wch e.ch).n → e.totR < 10 ^ (s.wch e.ch).n → Runs (.warpItem none) s (fun t =>
      (t.wch e.ch).lastIdx = e.ridx ∧ (t.wch e.ch).baseIdx = e.ridx ∧ (t.wch e.ch).anchorIdx = some e.ridx ∧
      (t.wch e.ch).totF = e.totF ∧ (t.wch e.ch).totR = e.totR ∧ (t.wch e.ch).veeHold = (s.wch e.ch).veeHold ∧
      ∃ x, (t.wch e.ch).queue = [x] ∧ x.ridx = e.ridx ∧ nbit x.flags 9 = true)) ∧
  (∀ e q dF dR s, s.sys.st = .active → s.msn.toWarp = .reading e :: q → e.kind = .actual → NextEntry s e → (s.wch e.ch).lastTime ≠ 0 →
    (s.wch e.ch).est ≠ 0 → wDelta (10 ^ (s.wch e.ch).n) (s.wch e.ch).totF e.totF = some dF →
    wDelta (10 ^ (s.wch e.ch).n) (s.wch e.ch).totR e.totR = some dR →
    dF ≤ (s.psetOf (s.wch e.ch)).qmax * (e.ridx - (s.wch e.ch).baseIdx) →
    dR ≤ (s.psetOf (s.wch e.ch)).qmax * (e.ridx - (s.wch e.ch).baseIdx) → Runs (.warpItem none) s (fun t =>
      (t.wch e.ch).totF = e.totF ∧ (t.wch e.ch).totR = e.totR ∧ (t.wch e.ch).lastIdx = e.ridx ∧
      t.wrp.jseq = s.wrp.jseq + 1 + (s.estimates (s.wch e.ch) e dF dR).length)) ∧
  (∀ e q dF dR s, s.sys.st = .active → s.msn.toWarp = .reading e :: q → e.kind = .actual → NextEntry s e → (s.wch e.ch).lastTime ≠ 0 →
    (s.wch e.ch).est = 0 → wDelta (10 ^ (s.wch e.ch).n) (s.wch e.ch).totF e.totF = some dF →
    wDelta (10 ^ (s.wch e.ch).n) (s.wch e.ch).totR e.totR = some dR →
    dF ≤ (s.psetOf (s.wch e.ch)).qmax * (e.ridx - (s.wch e.ch).baseIdx) →
    dR ≤ (s.psetOf (s.wch e.ch)).qmax * (e.ridx - (s.wch e.ch).baseIdx) → Runs (.warpItem none) s (fun t =>
      (t.wch e.ch).lastIdx = e.ridx ∧ (t.wch e.ch).lastTime = e.capture ∧ (t.wch e.ch).totF = e.totF ∧ (t.wch e.ch).totR = e.totR ∧
      (t.wch e.ch).rejRun = 0 ∧ t.wrp.jseq = s.wrp.jseq + 1 ∧ ∃ x, (t.wch e.ch).queue = (s.wch e.ch).queue ++ [x] ∧
        x.ridx = e.ridx ∧ x.totF = e.totF ∧ x.totR = e.totR ∧ x.jseq = s.wrp.jseq + 1)) ∧
  (∀ e q s, s.sys.st = .active → s.msn.toWarp = .reading e :: q → e.kind = .actual → NextEntry s e → (s.wch e.ch).lastTime ≠ 0 →
    wDelta (10 ^ (s.wch e.ch).n) (s.wch e.ch).totF e.totF = none ∨ wDelta (10 ^ (s.wch e.ch).n) (s.wch e.ch).totR e.totR = none ∨
      (∃ dF dR, wDelta (10 ^ (s.wch e.ch).n) (s.wch e.ch).totF e.totF = some dF ∧
        wDelta (10 ^ (s.wch e.ch).n) (s.wch e.ch).totR e.totR = some dR ∧
        ((s.psetOf (s.wch e.ch)).qmax * (e.ridx - (s.wch e.ch).baseIdx) < dF ∨
          (s.psetOf (s.wch e.ch)).qmax * (e.ridx - (s.wch e.ch).baseIdx) < dR)) → Runs (.warpItem none) s (fun t =>
      (t.wch e.ch).lastIdx = e.ridx ∧ (t.wch e.ch).totF = (s.wch e.ch).totF ∧ (t.wch e.ch).lastTime = (s.wch e.ch).lastTime ∧
      (t.wch e.ch).queue = (s.wch e.ch).queue ∧ (t.wch e.ch).rejRun = min 3 ((s.wch e.ch).rejRun + 1) ∧
      ((t.wch e.ch).veeHold = true ↔ (s.wch e.ch).veeHold = true ∨ 2 ≤ (s.wch e.ch).rejRun))) ∧
  (∀ e s, s.sys.st = .active → (s.wch e.ch).en = true → (s.wch e.ch).held = [] → e.ridx = (s.wch e.ch).lastIdx + 1 →
    (s.everLocked = true ∧ s.nowNs + s.futTol * second < e.capture) ∨ e.capture + s.pastMax < s.nowNs →
    s.queueUsed + (s.wch e.ch).queue.length < 7864320 → Runs (.warpItem (some (.reading e))) s (fun t =>
      (t.wch e.ch).lastIdx = e.ridx ∧ (t.wch e.ch).totF = (s.wch e.ch).totF ∧ (t.wch e.ch).queue = (s.wch e.ch).queue ∧
      (t.wch e.ch).rejRun = 0 ∧ (t.wch e.ch).veeHold = (s.wch e.ch).veeHold)) ∧
  (∀ ch x y q s, s.msn.toWarp = .gap ch x y :: q → (s.wch ch).en = true → (s.wch ch).lowest = none → Runs .gapReport s (fun t =>
    t.msn.toWarp = q ∧ (t.wch ch).lastIdx = (s.wch ch).lastIdx ∧
    ∀ k, x ≤ k → k ≤ y → (s.wch ch).lastIdx < k → ∃ h ∈ (t.wch ch).held, h.2.kind = .gap ∧ h.2.ridx = k)) ∧
  (∀ ch x y q a e s, s.msn.toWarp = .gap ch x y :: q → (s.wch ch).en = true → (s.wch ch).held = [(a, e)] → e.kind ≠ .gap → e.ch = ch →
    (s.wch ch).lastIdx < e.ridx → x ≤ (s.wch ch).lastIdx + 1 → y + 1 = e.ridx → Runs .gapReport s (fun t =>
      t.msn.toWarp = q ∧ (t.wch ch).held = [] ∧ (t.wch ch).lastIdx = e.ridx)) ∧
  (∀ ch x y q s, s.msn.toWarp = .gap ch x y :: q → (s.wch ch).en = false → Runs .gapReport s (fun t =>
    t.msn.toWarp = q ∧ t.wrp = s.wrp)) ∧
  (∀ s, (∀ ch x y q, s.msn.toWarp ≠ .gap ch x y :: q) → Runs .gapReport s (fun t => t = s)) ∧
  (∀ i s, s.sys.st ≠ .active → s.sys.st ≠ .start → Runs (.warpItem i) s (fun t => t = s)) ∧
  (∀ ch n a e s, (s.wch ch).held = [(a, e)] → e.kind ≠ .gap → e.ch = ch → (s.wch ch).lastIdx < e.ridx → a + s.gapWait ≤ n →
    Runs (.gapWaitExpiry ch n) s (fun t => (t.wch ch).held = [] ∧ e.ridx = (t.wch ch).lastIdx)) ∧
  (∀ ch n s, (∀ h ∈ (s.wch ch).held, n < h.1 + s.gapWait) → Runs (.gapWaitExpiry ch n) s (fun t => t = s.reach n))

/-- R437, R438, R440, R441, R443: the handoff. The oldest queued reading of a channel is offered when nothing of the channel is in flight;
a repeated offer keeps its gap length; each disposition acts on the channel, and an answer to a probe ends its holds; while a hold keeps
entries back, the newest of one channel in turn is offered.
Where the spec is silent, clauses rest on the model's choices: log entry 84. -/
def Obligations.Handoff : Prop :=
  (∀ ch e q s, (s.wch ch).queue = e :: q → s.slv.handoff = true → s.onProbe ch = false → (s.wch ch).mayOffer e = true →
    s.outstanding < 256 → Runs (.handoffOffer ch) s (fun t => (t.wch ch).inFlight = true ∧ (t.wch ch).offered = some e.ridx ∧
      ∃ x, t.slv.inbox = s.slv.inbox ++ [x] ∧ x.ridx = e.ridx ∧ x.totF = e.totF ∧ x.totR = e.totR ∧
        x.gaplen = (match (s.wch ch).offered with
          | some p => if p = e.ridx then e.gaplen else min 0xFFFFFFFF (e.ridx - p - 1)
          | none => 0))) ∧
  (∀ ch s, s.slv.handoff = false ∨ s.onProbe ch = true ∨ 256 ≤ s.outstanding ∨
    (∀ e q, (s.wch ch).queue = e :: q → (s.wch ch).mayOffer e = false) → Runs (.handoffOffer ch) s (fun t => t = s)) ∧
  (∀ ch k d e q s, s.slv.dispo = (ch, k, d) :: q → d < 2 → (s.wch ch).queue.find? (fun x => x.ridx = k) = some e →
    (s.wch ch).anchorIdx ≠ some k → Runs .disposition s (fun t => t.slv.dispo = q ∧ (t.wch ch).inFlight = false ∧
      (t.wch ch).handIdx = k ∧ (t.wch ch).disp = d ∧ (t.wch ch).legalHold = ((s.wch ch).legalHold && !(s.wch ch).probe) ∧
      t.wrp.paused = (s.wrp.paused && !(s.wch ch).probe) ∧
      ∀ x ∈ (t.wch ch).queue, x.ridx ≠ k)) ∧
  (∀ ch k d e q s, s.slv.dispo = (ch, k, d) :: q → d < 2 → (s.wch ch).queue.find? (fun x => x.ridx = k) = some e →
    (s.wch ch).anchorIdx = some k → Runs .disposition s (fun t => (t.wch ch).veeHold = false ∧ (t.wch ch).armed = false ∧
      (t.wch ch).anchorIdx = none ∧ (t.wch ch).rejRun = 0)) ∧
  (∀ ch k e q s, s.slv.dispo = (ch, k, 2) :: q → (s.wch ch).queue.find? (fun x => x.ridx = k) = some e → Runs .disposition s (fun t =>
    (t.wch ch).veeHold = true ∧ (t.wch ch).disp = 2 ∧ ∀ x ∈ (t.wch ch).queue, x.ridx ≠ k)) ∧
  (∀ ch k e q s, s.slv.dispo = (ch, k, 3) :: q → (s.wch ch).queue.find? (fun x => x.ridx = k) = some e → Runs .disposition s (fun t =>
    (t.wch ch).inFlight = false ∧ (t.wch ch).disp = 3 ∧ (t.wch ch).legalHold = (s.wch ch).legalHold ∧ t.wrp.paused = s.wrp.paused ∧
    (t.wch ch).veeHold = (s.wch ch).veeHold ∧ ∀ x ∈ (t.wch ch).queue, x.ridx ≠ k)) ∧
  (∀ ch k d q s, s.slv.dispo = (ch, k, d) :: q → (s.wch ch).queue.find? (fun x => x.ridx = k) = none → Runs .disposition s (fun t =>
    t.slv.dispo = q ∧ t.wch ch = { s.wch ch with inFlight := false, probe := false, disp := d, handIdx := k })) ∧
  (∀ s, s.slv.dispo = [] → Runs .disposition s (fun t => t = s)) ∧
  (∀ ch k e q s, s.slv.dispo = (ch, k, 4) :: q → (s.wch ch).queue.find? (fun x => x.ridx = k) = some e → Runs .disposition s (fun t =>
    (t.wch ch).legalHold = true ∧ (t.wch ch).inFlight = false ∧ (t.wch ch).disp = 4)) ∧
  (∀ ch k e q s, s.slv.dispo = (ch, k, 5) :: q → (s.wch ch).queue.find? (fun x => x.ridx = k) = some e → Runs .disposition s (fun t =>
    t.wrp.paused = true ∧ (t.wch ch).inFlight = false ∧ (t.wch ch).disp = 5)) ∧
  (∀ ch e s, s.probeNext = some (ch, e) → s.slv.handoff = true → s.outstanding < 256 → Runs .holdProbe s (fun t =>
    t.wrp.probeAt = ch ∧ (t.wch ch).inFlight = true ∧ ∃ x, t.slv.inbox = s.slv.inbox ++ [x] ∧ x.ridx = e.ridx)) ∧
  (∀ s, s.probeNext = none ∨ s.slv.handoff = false ∨ 256 ≤ s.outstanding → Runs .holdProbe s (fun t => t = s))

/-- R440, R445, R447, R449, R450, R454: the commands of WRP_CMD and WRP_CTRL with their results, the checkpoint slice, and the record
snapshot.
Where the spec is silent, clauses rest on the model's choices: log entry 82. -/
def Obligations.WarpCommands : Prop :=
  (∀ r ch s, Permits s r (0x800000 + R.WRP_CMD) → ch < 2 ^ 22 → (s.wch ch).en = true → (s.wch ch).veeHold = true →
    Runs (.reanchor r ch) s (fun t => (t.wch ch).armed = true ∧ t.wrp.cmdResult = 0)) ∧
  (∀ r ch s, Permits s r (0x800000 + R.WRP_CMD) → ch < 2 ^ 22 → (s.wch ch).en = true → (s.wch ch).veeHold = false →
    Runs (.reanchor r ch) s (fun t => t.wrp.chans = s.wrp.chans ∧ t.wrp.cmdResult = 3)) ∧
  (∀ r ch s, Permits s r (0x800000 + R.WRP_CMD) → ch < 2 ^ 22 → (s.wch ch).en = false → Runs (.reanchor r ch) s (fun t =>
    t.wrp.chans = s.wrp.chans ∧ t.wrp.cmdResult = 1)) ∧
  (∀ r ch s, Permits s r (0x800000 + R.WRP_CMD) → ch < 2 ^ 22 → (s.wch ch).en = true →
    (s.rg R.WRP_CMD_RIDX).toNat ≤ (s.wch ch).lastIdx →
    s.nowNs ≤ s.captureNs (s.wch ch).period (s.rg R.WRP_CMD_RIDX).toNat + s.pastMax → Runs (.edit r ch) s (fun t =>
      t.wrp.cmdResult = 0 ∧ t.wrp.jseq = s.wrp.jseq + 1 ∧ t.wrp.chans = s.wrp.chans ∧
      (s.sysWrites = true → ∃ x ∈ t.bem.archBuf, ∃ e, x.stream = .edit ∧ x.data = .entry e ∧ e.ch = ch ∧ e.kind = .edit ∧
        e.ridx = (s.rg R.WRP_CMD_RIDX).toNat ∧ e.totF = s.rg64 R.WRP_CMD_TOT_0 ∧ e.totR = s.rg64 R.WRP_CMD_TOTR_0))) ∧
  (∀ r ch s, Permits s r (0x800000 + R.WRP_CMD) → ch < 2 ^ 22 → (s.wch ch).en = true →
    (s.wch ch).lastIdx < (s.rg R.WRP_CMD_RIDX).toNat ∨
      s.captureNs (s.wch ch).period (s.rg R.WRP_CMD_RIDX).toNat + s.pastMax < s.nowNs → Runs (.edit r ch) s (fun t =>
      t.wrp.cmdResult = 2 ∧ t.wrp.jseq = s.wrp.jseq ∧ t.bem = s.bem)) ∧
  (∀ r ch s, Permits s r (0x800000 + R.WRP_CMD) → ch < 2 ^ 22 → (s.wch ch).en = false → Runs (.edit r ch) s (fun t =>
    t.wrp.cmdResult = 1 ∧ t.wrp.jseq = s.wrp.jseq ∧ t.bem = s.bem)) ∧
  (∀ r s, Permits s r (0x800000 + R.WRP_CTRL) → Runs (.ckptNow r) s (fun t => t.wrp.ckptSlice = 0 ∧ t.nand = s.nand)) ∧
  (∀ s, s.running = true → s.sysWrites = true → Runs .warpCheckpointSlice s (fun t =>
    Store.get (fun _ => none) t.nand.warpSlices s.wrp.ckptSlice = some (s.warpSlice s.wrp.ckptSlice) ∧
    t.wrp.ckptSlice = (s.wrp.ckptSlice + 1) % 4096)) ∧
  (∀ s, s.sysWrites = false ∨ s.running = false → Runs .warpCheckpointSlice s (fun t =>
    t.nand = s.nand ∧ t.wrp.noJournal = !s.sysWrites ∧ t.wrp.ckptSlice = s.wrp.ckptSlice)) ∧
  (∀ r v s, Permits s r (0x800000 + R.WRP_REC_IDX) → Runs (.wrpRecIdxWrite r v) s (fun t =>
    t.wrp.snap = some (s.epRec (v.toNat % 2 ^ 20), v.toNat % 2 ^ 20,
      [s.wch (mkChid (v.toNat % 2 ^ 20) 0), s.wch (mkChid (v.toNat % 2 ^ 20) 1), s.wch (mkChid (v.toNat % 2 ^ 20) 2),
        s.wch (mkChid (v.toNat % 2 ^ 20) 3)])))

/-- R441, R492, R508, R514, R517: Selvedge decides the oldest reading message by the first condition that holds, and takes none while the
legal journal buffer is full; a boundary that legal time has reached is processed; a closed leaf set becomes a seal header, and its
signature completes the seal.
Where the spec is silent, clauses rest on the model's choices: log entries 91, 92, 94, 96. -/
def Obligations.SelvedgeDecides : Prop :=
  (∀ e q s, s.slv.inbox = e :: q → s.jbufFull = false → s.devHold = true → Runs .slvReading s (fun t =>
    t.slv.inbox = q ∧ t.slv.dispo = s.slv.dispo ++ [(e.ch, e.ridx, 5)] ∧ t.slv.chans = s.slv.chans)) ∧
  (∀ e q s, s.slv.inbox = e :: q → s.jbufFull = false → s.devHold = false → (s.lch e.ch).held = true → Runs .slvReading s (fun t =>
    t.slv.dispo = s.slv.dispo ++ [(e.ch, e.ridx, 4)] ∧ t.slv.chans = s.slv.chans)) ∧
  (∀ e q s, s.slv.inbox = e :: q → s.jbufFull = false → s.devHold = false → (s.lch e.ch).held = false → (s.lch e.ch).hasBase = true →
    e.ridx ≤ (s.lch e.ch).lastIdx → Runs .slvReading s (fun t =>
      t.slv.dispo = s.slv.dispo ++ [(e.ch, e.ridx, 1)] ∧ t.slv.chans = s.slv.chans)) ∧
  (∀ e q s, s.slv.inbox = e :: q → s.jbufFull = false → s.devHold = false → (s.lch e.ch).held = false →
    ((s.lch e.ch).hasBase = true → (s.lch e.ch).lastIdx < e.ridx) →
    s.indexInstant e.ch e.ridx * second + s.legalWin * second < s.legalNs ∨
      s.legalNs + 120 * second < s.indexInstant e.ch e.ridx * second → Runs .slvReading s (fun t =>
      t.slv.dispo = s.slv.dispo ++ [(e.ch, e.ridx, 3)] ∧ t.slv.chans = s.slv.chans)) ∧
  (∀ e q s, s.slv.inbox = e :: q → s.jbufFull = false → InWindow s e → (s.lch e.ch).hasBase = false → Runs .slvReading s (fun t =>
    t.slv.dispo = s.slv.dispo ++ [(e.ch, e.ridx, 0)] ∧ (t.lch e.ch).hasBase = true ∧ (t.lch e.ch).lastIdx = e.ridx ∧
    (t.lch e.ch).mF = e.totF ∧ (t.lch e.ch).mR = e.totR ∧ (t.lch e.ch).lastAt = s.indexInstant e.ch e.ridx ∧
    (t.lch e.ch).totals = (s.lch e.ch).totals)) ∧
  (∀ e q dF dR s, s.slv.inbox = e :: q → s.jbufFull = false → InWindow s e → (s.lch e.ch).hasBase = true →
    monoDelta (s.modulus e.ch) (s.lch e.ch).mF e.totF = some dF → monoDelta (s.modulus e.ch) (s.lch e.ch).mR e.totR = some dR →
    Runs .slvReading s (fun t => t.slv.dispo = s.slv.dispo ++ [(e.ch, e.ridx, 0)] ∧ (t.lch e.ch).lastIdx = e.ridx ∧
      (t.lch e.ch).mF = e.totF ∧ (t.lch e.ch).mR = e.totR ∧ (t.lch e.ch).lastAt = s.indexInstant e.ch e.ridx)) ∧
  (∀ e q s, s.slv.inbox = e :: q → s.jbufFull = false → InWindow s e → (s.lch e.ch).hasBase = true →
    monoDelta (s.modulus e.ch) (s.lch e.ch).mF e.totF = none → nbit e.flags 9 = false ∨ (s.lch e.ch).consent = none →
    Runs .slvReading s (fun t => t.slv.dispo = s.slv.dispo ++ [(e.ch, e.ridx, 2)] ∧ t.slv.chans = s.slv.chans)) ∧
  (∀ e q c s, s.slv.inbox = e :: q → s.jbufFull = false → InWindow s e → (s.lch e.ch).hasBase = true →
    monoDelta (s.modulus e.ch) (s.lch e.ch).mF e.totF = none → nbit e.flags 9 = true → (s.lch e.ch).consent = some c → s.legalNs ≤ c →
    Runs .slvReading s (fun t => t.slv.dispo = s.slv.dispo ++ [(e.ch, e.ridx, 0)] ∧ (t.lch e.ch).consent = none ∧
      (t.lch e.ch).mF = e.totF ∧ (t.lch e.ch).mR = e.totR ∧ (t.lch e.ch).totals = (s.lch e.ch).totals)) ∧
  (∀ s, s.slv.inbox = [] ∨ s.jbufFull = true → Runs .slvReading s (fun t => t = s)) ∧
  (∀ b s, s.journals = true → s.slv.ltRun = true → s.dueBoundary = some b → Runs .boundary s (fun t => t.slv.lastB = b ∧
    ∀ i, (s.card i).st = .pending → (s.card i).body.actAt = b * second → Store.wf (fun _ => CardSlot.blank) s.slv.cards = true →
      (s.slv.cards.filter (fun x => x.2.st = .pending ∧ x.2.body.actAt = b * second)).map Prod.fst = [i] → (t.card i).st = .active)) ∧
  (∀ s, s.dueBoundary = none ∨ s.journals = false ∨ s.slv.ltRun = false → Runs .boundary s (fun t => t = s)) ∧
  (∀ j s, s.journals = true → s.slv.seals.find? (fun x => x.hdr.isNone) = some j → Runs .sealTreeBuilt s (fun t =>
    ∃ h, .seal_ h ∈ t.key.signs ∧ h.close = j.close ∧ h.number = j.number ∧ h.leaves = j.leaves.length ∧ h.sealedAt = j.sealedAt ∧
      h.root = treeRoot j.leaves.length (j.leaves.map Prod.snd))) ∧
  (∀ s, s.journals = false ∨ (∀ j ∈ s.slv.seals, j.hdr ≠ none) → Runs .sealTreeBuilt s (fun t => t = s)) ∧
  (∀ b s, (∀ h q, s.key.signs ≠ .seal_ h :: q) → Runs (.sealSigned b) s (fun t => t = s)) ∧
  (∀ h q s, s.key.signs = .seal_ h :: q → s.active Ev.SEAL_DONE = false → Runs (.sealSigned true) s (fun t =>
    t.key.signs = q ∧ t.slv.sealLast = h.close ∧ (∀ j ∈ t.slv.seals, j.number ≠ h.number) ∧
    t.nand.seals = s.nand.seals ++ [(h, Config.sign s.idsKey sealContext h.bytes)] ∧ s.evt.seq < t.evt.seq)) ∧
  (∀ h q s, s.key.signs = .seal_ h :: q → Runs (.sealSigned false) s (fun t =>
    .seal_ h ∈ t.key.signs ∧ t.slv = s.slv ∧ t.nand = s.nand))

/-- R503 to R505, R534, R535: the card messages. A STAGE that passes every check takes the lowest free slot; the two signatures, in either
order, make a card PARTLY and then PENDING, or it fails the checks that complete it; a WITHDRAW ends a card that is not in force; a
message that fails a check is refused, and its slot keeps the code. A command for which no message of its kind is the oldest changes
nothing.
Where the spec is silent, clauses rest on the model's choices: log entry 101. -/
def Obligations.CardMessages : Prop :=
  (∀ j b q i s, s.slv.cardIn = .stage j b :: q → s.stageCode b = none → s.freeSlot = some i → Runs .cardStage s (fun t =>
    t.slv.cardIn = q ∧ t.card i = ⟨.staged, b, s.legalNs, false, false, [], [], 0⟩ ∧ (t.part j).commitSt = .done)) ∧
  (∀ j b q k s, s.slv.cardIn = .stage j b :: q → s.stageCode b = some k → k ≠ 0 → Runs .cardStage s (fun t =>
    t.slv.cardIn = q ∧ t.slv.cards = s.slv.cards ∧ (t.part j).commitSt = .refused)) ∧
  (∀ j i d m q s, s.slv.cardIn = .sign j i 0 d m :: q → (s.card i).st = .staged → s.keyIs (s.card i).body.contract 0 d = true →
    (s.card i).sigSup = false → Runs (.cardSign true) s (fun t => t.card i = { s.card i with st := .partly, sigSup := true, supMsg := m } ∧
      (t.part j).commitSt = .done)) ∧
  (∀ j i d m q s, s.slv.cardIn = .sign j i 1 d m :: q → (s.card i).st = .staged → s.keyIs (s.card i).body.contract 1 d = true →
    (s.card i).sigCon = false → Runs (.cardSign true) s (fun t => t.card i = { s.card i with st := .partly, sigCon := true, conMsg := m } ∧
      (t.part j).commitSt = .done)) ∧
  (∀ j i r d m q s, s.slv.cardIn = .sign j i r d m :: q → (s.card i).st = .partly → s.keyIs (s.card i).body.contract r d = true →
    (if r = 0 then (s.card i).sigSup else (s.card i).sigCon) = false → s.completeCode i = none → Runs (.cardSign true) s (fun t =>
      (t.card i).st = .pending ∧ (if r = 0 then (t.card i).sigSup else (t.card i).sigCon) = true ∧ (t.part j).commitSt = .done)) ∧
  (∀ j i r d m q k s, s.slv.cardIn = .sign j i r d m :: q → (s.card i).st = .partly → s.keyIs (s.card i).body.contract r d = true →
    (if r = 0 then (s.card i).sigSup else (s.card i).sigCon) = false → s.completeCode i = some k → k ≠ 0 → Runs (.cardSign true) s (fun t =>
      (t.card i).st = .free ∧ (t.card i).lastCode = k ∧ (t.part j).commitSt = .refused)) ∧
  (∀ j i r d m q b s, s.slv.cardIn = .sign j i r d m :: q → b = false ∨ ((s.card i).st ≠ .staged ∧ (s.card i).st ≠ .partly) ∨
    s.keyIs (s.card i).body.contract r d = false ∨ (if r = 0 then (s.card i).sigSup else (s.card i).sigCon) = true →
    Runs (.cardSign b) s (fun t => t.card i = { s.card i with lastCode := 6 } ∧ (t.part j).commitSt = .refused)) ∧
  (∀ j i r d q s, s.slv.cardIn = .withdraw j i r d :: q → (s.card i).st = .staged ∨ (s.card i).st = .partly ∨ (s.card i).st = .pending →
    s.keyIs (s.card i).body.contract r d = true → Runs (.cardWithdraw true) s (fun t =>
      t.card i = { s.card i with st := .withdrawn } ∧ (t.part j).commitSt = .done)) ∧
  (∀ j i r d q b s, s.slv.cardIn = .withdraw j i r d :: q → b = false ∨ s.keyIs (s.card i).body.contract r d = false ∨
    ((s.card i).st ≠ .staged ∧ (s.card i).st ≠ .partly ∧ (s.card i).st ≠ .pending) → Runs (.cardWithdraw b) s (fun t =>
      t.card i = { s.card i with lastCode := 6 } ∧ (t.part j).commitSt = .refused)) ∧
  (∀ s, (∀ j b q, s.slv.cardIn ≠ .stage j b :: q) → Runs .cardStage s (fun t => t = s)) ∧
  (∀ b s, (∀ j i r d m q, s.slv.cardIn ≠ .sign j i r d m :: q) → Runs (.cardSign b) s (fun t => t = s)) ∧
  (∀ b s, (∀ j i r d q, s.slv.cardIn ≠ .withdraw j i r d :: q) → Runs (.cardWithdraw b) s (fun t => t = s))

/-- R522, R523, R525 to R527: the authority's commands. Each runs on the ACTIVE unit and is answered with its outcome, and on the STANDBY
one with NOT_ACTIVE; a channel command names a channel that the image enables, in the partition's scope.
Where the spec is silent, clauses rest on the model's choices: log entries 98, 99. -/
def Obligations.AuthorityCommands : Prop :=
  (∀ o x s, Commands s o x 1 → Runs (.holdDevice o) s (fun t => nbit t.slv.causes 10 = true ∧ t.devHold = true ∧
    Answered s o .ok [Status.ok.code] t)) ∧
  (∀ o x s, Commands s o x 2 → Runs (.releaseDevice o) s (fun t => nbit t.slv.causes 10 = false ∧ Answered s o .ok [Status.ok.code] t)) ∧
  (∀ o x s, Commands s o x 3 → s.epScope o.dg.part o.target = .ok → mkChid o.target (o.b 1) ∈ s.chids → Runs (.holdChannel o) s (fun t =>
    (t.lch (mkChid o.target (o.b 1))).holdAuth = true ∧ (t.lch (mkChid o.target (o.b 1))).held = true ∧
    Answered s o .ok [Status.ok.code] t)) ∧
  (∀ o x s, Commands s o x 4 → s.epScope o.dg.part o.target = .ok → mkChid o.target (o.b 1) ∈ s.chids →
    (s.lch (mkChid o.target (o.b 1))).holdAuth = true → (s.lch (mkChid o.target (o.b 1))).holdRoll = false → Runs (.releaseChannel o) s
    (fun t => (t.lch (mkChid o.target (o.b 1))).held = false ∧
      (t.lch (mkChid o.target (o.b 1))).totals = (s.lch (mkChid o.target (o.b 1))).totals ∧ Answered s o .ok [Status.ok.code] t)) ∧
  (∀ o x s, Commands s o x 4 → s.epScope o.dg.part o.target = .ok → mkChid o.target (o.b 1) ∈ s.chids →
    (s.lch (mkChid o.target (o.b 1))).held = false → Runs (.releaseChannel o) s (fun t =>
      t.slv.chans = s.slv.chans ∧ Answered s o .badRequest [] t)) ∧
  (∀ o x s, Commands s o x 4 → s.epScope o.dg.part o.target = .ok → mkChid o.target (o.b 1) ∈ s.chids →
    (s.lch (mkChid o.target (o.b 1))).holdAuth = true → (s.lch (mkChid o.target (o.b 1))).holdRoll = true →
    (s.lch (mkChid o.target (o.b 1))).held = true → Runs (.releaseChannel o) s (fun t =>
      t.slv.chans = s.slv.chans ∧ Answered s o .busy [] t)) ∧
  (∀ o x s, Commands s o x 4 → s.epScope o.dg.part o.target = .ok → mkChid o.target (o.b 1) ∈ s.chids →
    (s.lch (mkChid o.target (o.b 1))).holdAuth = false → (s.lch (mkChid o.target (o.b 1))).holdRoll = true →
    (s.lch (mkChid o.target (o.b 1))).excess = [] → (s.lch (mkChid o.target (o.b 1))).held = true → Runs (.releaseChannel o) s (fun t =>
      (t.lch (mkChid o.target (o.b 1))).holdRoll = false ∧ Answered s o .ok [Status.ok.code] t ∧
      ∀ k, ((s.lch (mkChid o.target (o.b 1))).total k).roll = 0xFFFF → ((t.lch (mkChid o.target (o.b 1))).total k).roll = 0)) ∧
  (∀ o x s, s.epScope o.dg.part o.target = .ok → mkChid o.target (o.b 1) ∉ s.chids →
    (Commands s o x 3 → Runs (.holdChannel o) s (fun t => t.slv = s.slv ∧ Answered s o .unmapped [] t)) ∧
    (Commands s o x 4 → Runs (.releaseChannel o) s (fun t => t.slv = s.slv ∧ Answered s o .unmapped [] t)) ∧
    (Commands s o x 5 → Runs (.reanchorConsent o) s (fun t => t.slv = s.slv ∧ Answered s o .unmapped [] t))) ∧
  (∀ o x st s, s.epScope o.dg.part o.target = st → st ≠ .ok →
    (Commands s o x 3 → Runs (.holdChannel o) s (fun t => t.slv = s.slv ∧ Answered s o st [] t)) ∧
    (Commands s o x 4 → Runs (.releaseChannel o) s (fun t => t.slv = s.slv ∧ Answered s o st [] t)) ∧
    (Commands s o x 5 → Runs (.reanchorConsent o) s (fun t => t.slv = s.slv ∧ Answered s o st [] t))) ∧
  (∀ o x s, Commands s o x 5 → s.epScope o.dg.part o.target = .ok → mkChid o.target (o.b 1) ∈ s.chids → Runs (.reanchorConsent o) s
    (fun t => (t.lch (mkChid o.target (o.b 1))).consent = some (s.legalNs + 7 * 86400 * second) ∧
      Answered s o .ok [Status.ok.code] t)) ∧
  (∀ ch c s, (s.lch ch).consent = some c → c < s.legalNs → Runs (.reanchorConsentExpiry ch) s (fun t =>
    t.lch ch = { s.lch ch with consent := none })) ∧
  (∀ ch s, (∀ c, (s.lch ch).consent = some c → s.legalNs ≤ c) → Runs (.reanchorConsentExpiry ch) s (fun t => t = s)) ∧
  (∀ o x im s, Commands s o x 6 → s.sys.sealClosed = true → s.sys.image = some im → s.otp.seals.getLast? = some im.legalComputed →
    Runs (.reverify o true true) s (fun t => t.slv.verified = true ∧ nbit t.slv.causes 0 = false ∧ nbit t.slv.causes 1 = false ∧
      nbit t.slv.causes 2 = false ∧ Answered s o .ok [Status.ok.code] t)) ∧
  (∀ o x a b s, Commands s o x 6 → s.sys.sealClosed = false ∨ s.otp.seals = [] ∨
    s.otp.seals.getLast? ≠ s.sys.image.map Image.legalComputed ∨ a = false ∨ b = false → Runs (.reverify o a b) s (fun t =>
    t.slv.verified = false ∧ (nbit s.slv.causes 0 = true → nbit t.slv.causes 0 = true) ∧ Answered s o .refused [] t)) ∧
  (∀ o x im s, Commands s o x 7 → s.sys.sealClosed = false → s.sys.dbgEn = false → s.otp.seals.length < 32 → s.sys.image = some im →
    Runs (.sealProgram o) s (fun t => t.otp.seals = s.otp.seals ++ [im.legalDigest] ∧ Answered s o .ok [Status.ok.code] t)) ∧
  (∀ o x s, Commands s o x 7 → s.sys.sealClosed = true ∨ s.sys.dbgEn = true → Runs (.sealProgram o) s (fun t =>
    t.otp = s.otp ∧ Answered s o .denied [] t)) ∧
  (∀ o x s, Commands s o x 7 → s.sys.sealClosed = false → s.sys.dbgEn = false → 32 ≤ s.otp.seals.length → Runs (.sealProgram o) s (fun t =>
    t.otp = s.otp ∧ Answered s o .otpFull [] t)) ∧
  (∀ o x s, Commands s o x 8 → s.sys.sealClosed = true → Runs (.legalUnlock o) s (fun t =>
    t.slv.unlock = s.slv.unlock ∧ Answered s o .denied [] t)) ∧
  (∀ o x s, Commands s o x 8 → s.sys.sealClosed = false → Runs (.legalUnlock o) s (fun t =>
    t.slv.unlock = true ∧ Answered s o .ok [Status.ok.code] t)) ∧
  (∀ o x a b s, Serves s o x 0x90 .authority → s.sys.st = .standby →
    (o.b 3 = 1 → Runs (.holdDevice o) s (fun t => t.slv = s.slv ∧ Answered s o .notActive [] t)) ∧
    (o.b 3 = 2 → Runs (.releaseDevice o) s (fun t => t.slv = s.slv ∧ Answered s o .notActive [] t)) ∧
    (o.b 3 = 3 → Runs (.holdChannel o) s (fun t => t.slv = s.slv ∧ Answered s o .notActive [] t)) ∧
    (o.b 3 = 4 → Runs (.releaseChannel o) s (fun t => t.slv = s.slv ∧ Answered s o .notActive [] t)) ∧
    (o.b 3 = 5 → Runs (.reanchorConsent o) s (fun t => t.slv = s.slv ∧ Answered s o .notActive [] t)) ∧
    (o.b 3 = 6 → Runs (.reverify o a b) s (fun t => t.slv = s.slv ∧ Answered s o .notActive [] t)) ∧
    (o.b 3 = 7 → Runs (.sealProgram o) s (fun t => t.otp = s.otp ∧ t.slv = s.slv ∧ Answered s o .notActive [] t)) ∧
    (o.b 3 = 8 → Runs (.legalUnlock o) s (fun t => t.slv = s.slv ∧ Answered s o .notActive [] t)))

/-- R476 to R480, R515, R529, R704: a pulse owed starts on the active unit, two widths after the last one at the earliest and after its
PULSE record has been acknowledged while the standby is LIVE, and ends after its width; a legal checkpoint slice is copied; a pipe that
fails its self-test is out of use; PEN_CTRL keeps one pipe and takes usable ones; a running job ends with RECOMPUTE_DONE and the next one
runs.
Where the spec is silent, clauses rest on the model's choices: log entries 86, 95, 102. -/
def Obligations.PulsesSlicesAndPipes : Prop :=
  (∀ n p c q w s, s.outCfg p = some c → c.mode.qpp = some (q, w) → s.sys.st = .active → s.sys.heddle = true → s.sys.outsOff = false →
    s.devHold = false → 0 < s.owed p → (s.outSt p).pulsing = false → (∀ a, (s.outSt p).last = some a → a + 2 * msCounts w ≤ max s.tim.cnt n) →
    s.standbyLive = false ∨ (∃ k, (s.outSt p).waits = some k ∧ k ≤ s.par.mack) → Runs (.legalPulseStart n p) s (fun t =>
      (t.outSt p).pulsing = true ∧ (t.outSt p).last = some (max s.tim.cnt n) ∧ (t.outSt p).waits = none ∧
      (t.outSt p).emitted = (s.outSt p).emitted ∧ t.out = s.out ++ [.legalOut p true])) ∧
  (∀ n p c q w s, s.outCfg p = some c → c.mode.qpp = some (q, w) → s.sys.st = .active → s.sys.heddle = true → s.sys.outsOff = false →
    s.devHold = false → 0 < s.owed p → (s.outSt p).pulsing = false → (∀ a, (s.outSt p).last = some a → a + 2 * msCounts w ≤ max s.tim.cnt n) →
    s.standbyLive = true → (s.outSt p).waits = none → Runs (.legalPulseStart n p) s (fun t =>
      (t.outSt p).pulsing = false ∧ (t.outSt p).waits = some t.slv.jseq ∧ s.slv.jseq < t.slv.jseq)) ∧
  (∀ n p s, s.outCfg p = none ∨ s.sys.st ≠ .active ∨ s.sys.heddle = false ∨ s.sys.outsOff = true ∨ s.devHold = true ∨ s.owed p = 0 ∨
    (s.outSt p).pulsing = true ∨ (s.standbyLive = true ∧ ∃ k, (s.outSt p).waits = some k ∧ s.par.mack < k) ∨
    (∃ c q w a, s.outCfg p = some c ∧ c.mode.qpp = some (q, w) ∧ (s.outSt p).last = some a ∧ max s.tim.cnt n < a + 2 * msCounts w) →
    Runs (.legalPulseStart n p) s (fun t => t = s.reach n)) ∧
  (∀ n p c q w s, s.outCfg p = some c → c.mode.qpp = some (q, w) → (s.outSt p).pulsing = true →
    (s.outSt p).last.getD 0 + msCounts w ≤ max s.tim.cnt n → Runs (.legalPulseEnd n p) s (fun t =>
      (t.outSt p).pulsing = false ∧ (t.outSt p).emitted = (s.outSt p).emitted + 1 ∧ t.out = s.out ++ [.legalOut p false])) ∧
  (∀ n p s, s.outCfg p = none ∨ (s.outSt p).pulsing = false ∨
    (∃ c q w, s.outCfg p = some c ∧ c.mode.qpp = some (q, w) ∧ max s.tim.cnt n < (s.outSt p).last.getD 0 + msCounts w) →
    Runs (.legalPulseEnd n p) s (fun t => t = s.reach n)) ∧
  (∀ s, s.running = true → s.bem.mounted = true → s.sys.legalUnread = false → Runs .legalCheckpointSlice s (fun t =>
    t.slv.ckptSlice = (s.slv.ckptSlice + 1) % 1024 ∧
    (Store.get (fun _ => []) t.nand.slices s.slv.ckptSlice).head? = some (s.legalSlice s.slv.ckptSlice))) ∧
  (∀ k s, k < 4 → s.running = true → s.usable .pipe k = true → nbit s.pen.pipeEn k = true → Runs (.penSelfTest k false) s (fun t =>
    t.usable .pipe k = false ∧ nbit t.pen.pipeEn k = false ∧ nbit t.pen.failed k = true ∧ (t.pipes = [] → nbit t.slv.causes 8 = true))) ∧
  (∀ k b s, b = true ∨ s.running = false ∨ s.usable .pipe k = false ∨ nbit s.pen.pipeEn k = false →
    Runs (.penSelfTest k b) s (fun t => t = s)) ∧
  (∀ s, s.running = false ∨ s.bem.mounted = false ∨ s.sys.legalUnread = true → Runs .legalCheckpointSlice s (fun t => t = s)) ∧
  (∀ r k m s, Permits s r (0x800000 + R.PEN_CTRL) → k < 4 → m < 4 → m ≠ k → s.pen.pipeEn < 16 → nbit s.pen.pipeEn m = true →
    nbit s.sys.pens m = true → Runs (.pipeDisable r k) s (fun t => nbit t.pen.pipeEn k = false ∧ nbit t.pen.pipeEn m = true)) ∧
  (∀ r k s, Permits s r (0x800000 + R.PEN_CTRL) → k < 4 → s.pen.pipeEn = 2 ^ k → Runs (.pipeDisable r k) s (fun t => t.pen = s.pen)) ∧
  (∀ r k s, Permits s r (0x800000 + R.PEN_CTRL) → k < 4 → s.pen.pipeEn < 16 → nbit s.sys.pens k = true → Runs (.pipeEnable r k) s (fun t =>
    nbit t.pen.pipeEn k = true)) ∧
  (∀ r k m s, Permits s r (0x800000 + R.PEN_CTRL) → k < 4 → s.pen.pipeEn < 16 → nbit s.sys.pens k = false → m < 4 →
    nbit s.pen.pipeEn m = true → nbit s.sys.pens m = true → Runs (.pipeEnable r k) s (fun t =>
      nbit t.pen.pipeEn k = false ∧ nbit t.pen.pipeEn m = true)) ∧
  (∀ j s, (s.job j).st = .running → s.active Ev.RECOMPUTE_DONE = false → Runs (.recomputeJobEnd j) s (fun t =>
    (t.job j).st = .done ∧ j ∉ t.pen.order ∧ t.pen.order = s.pen.order.filter (· ≠ j) ∧
    (∀ k l, t.pen.order = k :: l → (t.job k).st = .running) ∧ s.evt.seq < t.evt.seq)) ∧
  (∀ j s, (s.job j).st ≠ .running → Runs (.recomputeJobEnd j) s (fun t => t = s))

/-- R541 to R544, R547, R549, R550, R553: the Balance Engine takes notifications and factors, evaluates a period when its coverage or
COVER_WAIT allows, INCOMPLETE in the second case, saves its state, and follows its commands; disabled or outside ACTIVE it books and
evaluates nothing.
Where the spec is silent, clauses rest on the model's choices: log entries 88, 89, 90. -/
def Obligations.BalanceEngine : Prop :=
  (∀ x q s, s.bal.inbox = x :: q → s.sys.st = .active → s.bal.en = true → Runs .balNotification s (fun t =>
    t.bal.inbox = q ∧ (t.balCh x.ch).covered = x.capture ∧ (t.balCh x.ch).factors = (s.balCh x.ch).factors ∧
    (x.actual = true → (t.balCh x.ch).entries = (x.capture, x.ridx) :: (s.balCh x.ch).entries) ∧
    (x.base = true → ∀ n, (t.balSt n).bins = (s.balSt n).bins) ∧
    ∀ n b m, (n, b) ∈ s.balNodes → m ∈ b.members → m.ch = x.ch → m.out = true → nbit x.flags 11 = true →
      (t.balSt n).theft = true ∧ (t.balSt n).quiet = 0)) ∧
  (∀ x q s, s.bal.inbox = x :: q → s.sys.st ≠ .active ∨ s.bal.en = false → Runs .balNotification s (fun t =>
    t.bal.inbox = q ∧ t.bal.nodes = s.bal.nodes ∧ t.bal.chans = s.bal.chans)) ∧
  (∀ s, s.bal.inbox = [] → Runs .balNotification s (fun t => t = s)) ∧
  (∀ ch k f b q s, s.bal.factorIn = (ch, k, f, b) :: q → s.sys.st ≠ .active ∨ s.bal.en = false → Runs .balFactorCopy s (fun t =>
    t.bal.factorIn = q ∧ t.bal.chans = s.bal.chans)) ∧
  (∀ s, s.bal.factorIn = [] → Runs .balFactorCopy s (fun t => t = s)) ∧
  (∀ ch k f b q s, s.bal.factorIn = (ch, k, f, b) :: q → s.sys.st = .active → s.bal.en = true → Runs .balFactorCopy s (fun t =>
    t.bal.factorIn = q ∧ (t.balCh ch).factors = (k, f, b) :: (s.balCh ch).factors)) ∧
  (∀ n m i b s, s.sys.st = .active → s.bal.en = true → s.balNodes = [(i, b)] → 0 < b.period →
    (s.stampNs (max s.tim.cnt n) - 2 * second) / minute = m → s.bal.taken < m / b.period * b.period →
    (s.balSt i).next = m / b.period * b.period →
    (s.balSt i).next * minute ≤ s.coverage b → Runs (.balEvaluation n) s (fun t => t.bal.taken = m ∧
      (t.balSt i).lastEnd = (s.balSt i).next ∧ (t.balSt i).next = (s.balSt i).next + b.period ∧
      (∀ y ∈ (t.balSt i).bins, y.e ≠ (s.balSt i).next) ∧
      ∃ r, (t.balSt i).last = some r ∧ r.node = i ∧ r.e = (s.balSt i).next)) ∧
  (∀ n m i b s, s.sys.st = .active → s.bal.en = true → s.balNodes = [(i, b)] → 0 < b.period →
    (s.stampNs (max s.tim.cnt n) - 2 * second) / minute = m → s.bal.taken < m → s.coverage b < (s.balSt i).next * minute →
    m < (s.balSt i).next + s.coverWait → Runs (.balEvaluation n) s (fun t => t.bal.taken = m ∧ t.bal.nodes = s.bal.nodes)) ∧
  (∀ n m i b s, s.sys.st = .active → s.bal.en = true → s.balNodes = [(i, b)] → 0 < b.period →
    (s.stampNs (max s.tim.cnt n) - 2 * second) / minute = m → s.bal.taken < m / b.period * b.period →
    s.coverage b < (s.balSt i).next * minute → (s.balSt i).next ≤ m / b.period * b.period →
    (s.balSt i).next + s.coverWait ≤ m / b.period * b.period → m / b.period * b.period < (s.balSt i).next + b.period + s.coverWait →
    Runs (.balEvaluation n) s (fun t => (t.balSt i).lastEnd = (s.balSt i).next ∧ (t.balSt i).next = (s.balSt i).next + b.period ∧
      ∃ r, (t.balSt i).last = some r ∧ r.e = (s.balSt i).next ∧ nbit r.flags 0 = true)) ∧
  (∀ n s, s.bal.en = false ∨ s.sys.st ≠ .active ∨ (s.stampNs (max s.tim.cnt n) - 2 * second) / minute ≤ s.bal.taken →
    Runs (.balEvaluation n) s (fun t => t = s.reach n)) ∧
  (∀ s, s.sys.st = .active → s.sysWrites = true → Runs .balStateSave s (fun t => t.bal = s.bal ∧
    t.nand.balSave.map BalSave.node = s.balNodes.map Prod.fst ∧
    ∀ y ∈ t.nand.balSave, y.sPos = (s.balSt y.node).sPos ∧ y.sNeg = (s.balSt y.node).sNeg ∧ y.loss = (s.balSt y.node).loss ∧
      y.gain = (s.balSt y.node).gain ∧ y.theft = (s.balSt y.node).theft ∧ y.clearRun = (s.balSt y.node).clearRun ∧
      y.quiet = (s.balSt y.node).quiet ∧ y.lastEnd = (s.balSt y.node).lastEnd)) ∧
  (∀ s, s.sysWrites = false ∨ s.sys.st ≠ .active → Runs .balStateSave s (fun t => t = s)) ∧
  (∀ r s, Permits s r (0x800000 + R.BAL_CTRL) → s.bal.en = true → Store.wf (fun _ => BalSt.blank) s.bal.nodes = true →
    Runs (.balDisable r) s (fun t => t.bal.en = false ∧
      ∀ n, (t.balSt n).bins = [] ∧ (t.balSt n).sPos = (s.balSt n).sPos ∧ (t.balSt n).sNeg = (s.balSt n).sNeg)) ∧
  (∀ r s, Permits s r (0x800000 + R.BAL_CTRL) → s.bal.en = false → (s.balNodes.map Prod.fst).Nodup → Runs (.balEnable r) s (fun t =>
    t.bal.en = true ∧ ∀ n b, (n, b) ∈ s.balNodes → (t.balSt n).next = s.nextEnd b ∧ (t.balSt n).firstBad = s.nextEnd b ∧
      (t.balSt n).bins = [])) ∧
  (∀ r s, Permits s r (0x800000 + R.BAL_CTRL) → (s.bal.en = false → Runs (.balDisable r) s (fun t => t.bal = s.bal)) ∧
    (s.bal.en = true → Runs (.balEnable r) s (fun t => t.bal = s.bal))) ∧
  (∀ r n s, Permits s r (0x800000 + R.BAL_CMD) → n < 2 ^ 16 → n ∉ s.balNodes.map Prod.fst → Runs (.balReset r n) s (fun t =>
    t.bal = s.bal)) ∧
  (∀ r n s, Permits s r (0x800000 + R.BAL_CMD) → n < 2 ^ 16 → n ∈ s.balNodes.map Prod.fst → Runs (.balReset r n) s (fun t =>
    t.balSt n = { s.balSt n with sPos := 0, sNeg := 0, clearRun := 0, loss := false, gain := false } ∧
    ∀ k, k ≠ n → t.balSt k = s.balSt k)) ∧
  (∀ r s, Permits s r (0x800000 + R.BAL_CMD) → Runs (.balResetAll r) s (fun t => ∀ n ∈ s.balNodes.map Prod.fst,
    t.balSt n = { s.balSt n with sPos := 0, sNeg := 0, clearRun := 0, loss := false, gain := false })) ∧
  (∀ r v s, Permits s r R.BAL_NODE_IDX → Runs (.balNodeIdxWrite r v) s (fun t =>
    t.bal.snap = some (v.toNat % 2 ^ 16, s.balSt (v.toNat % 2 ^ 16))))

/-- R514, R557, R559, R564 to R575: Beam's writes and moves. The next records of the legal journal buffer and the next archive chunk become
durable, the chunk behind a step of garbage collection while free capacity is below G; a read-only or full archive takes none; a move
takes its victim, remaps its units and erases it; a weak block that a decode finds is listed for refresh; a block that fails an operation
leaves. Where Beam is not up, nothing of this happens.
Where the spec is silent, clauses rest on the model's choices: log entries 96, 104, 105, 106, 107, 108. -/
def Obligations.BeamWrites : Prop :=
  (∀ l s, s.beamUp = true → s.nand.legalRo = false → s.sys.legalUnread = false → (s.slv.jbuf.take 16).getLast? = some l →
    (s.space .legal true).isSome = true → s.nand.ring.length < ringUnits → Runs .journalRecordWrite s (fun t =>
      t.slv.djseq = l.jseq ∧ t.slv.jbuf = s.slv.jbuf.drop 16 ∧ t.nand.journal = s.nand.journal ++ s.slv.jbuf.take 16)) ∧
  (∀ s, s.nand.legalRo = true ∨ s.sys.legalUnread = true ∨ s.slv.jbuf = [] ∨ s.beamUp = false ∨ s.space .legal true = none → Runs .journalRecordWrite s (fun t => t = s)) ∧
  (∀ s, s.beamUp = true → s.sysWrites = true → s.bem.warpBuf = [] → s.bem.archBuf ≠ [] → 65536 ≤ s.freeF → s.gcReserve ≤ s.freeF →
    (s.space .archive (decide (s.cacheBytes + 65536 ≤ s.sCache))).isSome = true → Runs .archiveWrite s (fun t =>
      t.bem.archBuf = (nextChunk s.bem.archBuf).2 ∧ ∃ u, t.nand.archive = s.nand.archive ++
        (nextChunk s.bem.archBuf).1.map (fun r => { r with unit := u }))) ∧
  (∀ s, s.beamUp = true → s.sysWrites = true → s.bem.warpBuf = [] → s.bem.archBuf ≠ [] → s.freeF < 65536 → s.gcReserve ≤ s.freeF →
    s.oldestChunk = none → Runs .archiveWrite s (fun t => t.bem.full = true ∧ t.nand.archive = s.nand.archive ∧
      t.bem.archBuf = (nextChunk s.bem.archBuf).2)) ∧
  (∀ m s, s.beamUp = true → s.sysWrites = true → s.freeF < s.gcReserve → s.bem.moves.find? (fun x => x.kind = .gc) = some m →
    m.mapped = false → (∀ c ∈ m.copies, c.2 ≠ m.victim) → Runs .archiveWrite s (fun t =>
      (Store.get (fun _ => Block.blank) t.nand.blocks m.victim).units = [] ∧ ∃ x ∈ t.bem.moves, x = { m with mapped := true })) ∧
  (∀ s, s.beamUp = true → s.sysWrites = false → Runs .archiveWrite s (fun t =>
    t.bem.archBuf = [] ∧ t.bem.warpBuf = [] ∧ t.nand = s.nand)) ∧
  (∀ n p b s, s.beamUp = false → Runs .archiveWrite s (fun t => t = s) ∧ Runs .cacheFold s (fun t => t = s) ∧
    Runs .garbageCollection s (fun t => t = s) ∧ Runs (.wearLevelMove p) s (fun t => t = s) ∧
    Runs (.nandOperationFail n b) s (fun t => t = s)) ∧
  (∀ m s, s.beamUp = true → s.sysWrites = true →
    3 * s.sCache ≤ 4 * s.cacheBytes ∨ (s.bem.archBuf = [] ∧ s.bem.warpBuf = [] ∧ s.bem.waitAt + msCounts 1000 ≤ s.tim.cnt) →
    s.bem.moves.find? (fun x => x.kind = .fold) = some m → m.mapped = false → (∀ c ∈ m.copies, c.2 ≠ m.victim) →
    Runs .cacheFold s (fun t => (Store.get (fun _ => Block.blank) t.nand.blocks m.victim).units = [] ∧
      ∃ x ∈ t.bem.moves, x = { m with mapped := true })) ∧
  (∀ m s, s.beamUp = true → s.sysWrites = true →
    3 * s.sCache ≤ 4 * s.cacheBytes ∨ (s.bem.archBuf = [] ∧ s.bem.warpBuf = [] ∧ s.bem.waitAt + msCounts 1000 ≤ s.tim.cnt) →
    s.bem.moves.find? (fun x => x.kind = .fold) = some m → m.mapped = true →
    (Store.get (fun _ => Block.blank) s.nand.blocks m.victim).erases + 1 <
      3 * s.rated (Store.get (fun _ => Block.blank) s.nand.blocks m.victim).pool → Runs .cacheFold s (fun t =>
      (Store.get (fun _ => Block.blank) t.nand.blocks m.victim).units = [] ∧
      (Store.get (fun _ => Block.blank) t.nand.blocks m.victim).fill = 0 ∧
      (Store.get (fun _ => Block.blank) t.nand.blocks m.victim).erases =
        (Store.get (fun _ => Block.blank) s.nand.blocks m.victim).erases + 1 ∧ ∀ x ∈ t.bem.moves, x.kind ≠ .fold)) ∧
  (∀ n s, s.beamUp = true → s.sysWrites = true →
    3 * s.sCache ≤ 4 * s.cacheBytes ∨ (s.bem.archBuf = [] ∧ s.bem.warpBuf = [] ∧ s.bem.waitAt + msCounts 1000 ≤ s.tim.cnt) →
    s.bem.moves.find? (fun x => x.kind = .fold) = none → s.victimOf (fun x => x.2.pool = .archive ∧ x.2.slc) = some n →
    (∀ u ∈ (Store.get (fun _ => Block.blank) s.nand.blocks n).units, s.liveUnit u = false) → Runs .cacheFold s (fun t =>
      ∃ x ∈ t.bem.moves, x = Move.mk .fold n [] false)) ∧
  (∀ s, s.sysWrites = false ∨ (4 * s.cacheBytes < 3 * s.sCache ∧ (s.bem.archBuf ≠ [] ∨ s.bem.warpBuf ≠ [] ∨
    s.tim.cnt < s.bem.waitAt + msCounts 1000)) → Runs .cacheFold s (fun t => t = s)) ∧
  (∀ m s, s.beamUp = true → s.sysWrites = true → s.bem.moves.find? (fun x => x.kind = .gc) = some m → m.mapped = false →
    (∀ c ∈ m.copies, c.2 ≠ m.victim) → Runs .garbageCollection s (fun t =>
      (Store.get (fun _ => Block.blank) t.nand.blocks m.victim).units = [] ∧ ∃ x ∈ t.bem.moves, x = { m with mapped := true })) ∧
  (∀ m s, s.beamUp = true → s.sysWrites = true → s.bem.moves.find? (fun x => x.kind = .gc) = some m → m.mapped = true →
    (Store.get (fun _ => Block.blank) s.nand.blocks m.victim).erases + 1 <
      3 * s.rated (Store.get (fun _ => Block.blank) s.nand.blocks m.victim).pool → Runs .garbageCollection s (fun t =>
      (Store.get (fun _ => Block.blank) t.nand.blocks m.victim).fill = 0 ∧
      (Store.get (fun _ => Block.blank) t.nand.blocks m.victim).erases =
        (Store.get (fun _ => Block.blank) s.nand.blocks m.victim).erases + 1 ∧ ∀ x ∈ t.bem.moves, x.kind ≠ .gc)) ∧
  (∀ s, s.beamUp = true → s.sysWrites = true → s.bem.moves.find? (fun x => x.kind = .gc) = none →
    (∀ x ∈ s.nand.blocks, x.2.fill = 0 ∨ s.nandOn x.2.ch = false) → Runs .garbageCollection s (fun t =>
      t.bem.moves = s.bem.moves ∧ t.nand.archive = s.nand.archive)) ∧
  (∀ s, s.beamUp = true → s.sysWrites = false → Runs .garbageCollection s (fun t => t.bem = s.bem ∧
    (s.drawn 0xFFFFFFFF ∈ s.nand.blocks.map Prod.fst →
      (Store.get (fun _ => Block.blank) t.nand.blocks (s.drawn 0xFFFFFFFF)).listed = true) ∧
    ∀ n, n ≠ s.drawn 0xFFFFFFFF → Store.get (fun _ => Block.blank) t.nand.blocks n = Store.get (fun _ => Block.blank) s.nand.blocks n)) ∧
  (∀ p m b s, s.beamUp = true → s.wearSpread p = some b → s.bem.moves.find? (fun x => x.kind = .wear) = some m → m.mapped = false →
    (∀ c ∈ m.copies, c.2 ≠ m.victim) → Runs (.wearLevelMove p) s (fun t =>
      (Store.get (fun _ => Block.blank) t.nand.blocks m.victim).units = [] ∧ ∃ x ∈ t.bem.moves, x = { m with mapped := true })) ∧
  (∀ p n lo hi s, s.wearSpread p = some (n, lo, hi) → s.bem.moves.find? (fun x => x.kind = .wear) = none →
    100 * (hi - lo) ≤ s.rated p * 5 → Runs (.wearLevelMove p) s (fun t => t = s)) ∧
  (∀ p n lo hi s, s.beamUp = true → s.wearSpread p = some (n, lo, hi) → s.bem.moves.find? (fun x => x.kind = .wear) = none →
    s.rated p * 5 < 100 * (hi - lo) → (∀ u ∈ (Store.get (fun _ => Block.blank) s.nand.blocks n).units, s.liveUnit u = false) →
    Runs (.wearLevelMove p) s (fun t => ∃ x ∈ t.bem.moves, x = Move.mk .wear n [] false)) ∧
  (∀ p m b s, s.beamUp = true → s.wearSpread p = some b → s.bem.moves.find? (fun x => x.kind = .wear) = some m → m.mapped = true →
    (Store.get (fun _ => Block.blank) s.nand.blocks m.victim).erases + 1 <
      3 * s.rated (Store.get (fun _ => Block.blank) s.nand.blocks m.victim).pool → Runs (.wearLevelMove p) s (fun t =>
      (Store.get (fun _ => Block.blank) t.nand.blocks m.victim).erases =
        (Store.get (fun _ => Block.blank) s.nand.blocks m.victim).erases + 1 ∧ ∀ x ∈ t.bem.moves, x.kind ≠ .wear)) ∧
  (∀ n b s, n ∉ s.nand.blocks.map Prod.fst → Runs (.nandOperationFail n b) s (fun t => t = s)) ∧
  (∀ n s, s.beamUp = true → n ∈ s.nand.blocks.map Prod.fst → Runs (.nandOperationFail n false) s (fun t =>
    n ∉ t.nand.blocks.map Prod.fst ∧ (∀ r ∈ t.nand.archive, r.unit ≠ 0 →
      r.unit ∈ (Store.get (fun _ => Block.blank) s.nand.blocks n).units → r.lost = true))) ∧
  (∀ n s, s.beamUp = true → n ∈ s.nand.blocks.map Prod.fst → Runs (.nandOperationFail n true) s (fun t =>
    n ∉ t.nand.blocks.map Prod.fst ∧
    ((Store.get (fun _ => Block.blank) s.nand.blocks n).pool = .archive → 0 < s.nand.spareArch →
      t.nand.spareArch = s.nand.spareArch - 1)))

/-- R557, R576, R578, R584, R725: what an uncorrectable read makes unreadable, aggregates, discards, and NAND channels that drain, join or
fail; a discard that names a present legal day, and a drain that the other channels cannot take, are refused.
Where the spec is silent, clauses rest on the model's choices: log entries 18, 108, 109, 111, 112. -/
def Obligations.BeamReadsAndChannels : Prop :=
  (∀ c i s, s.nandOn c = true → s.active Ev.NAND_UE = false → Runs (.nandReadUncorrectable c (.legalSlice i)) s (fun t =>
    Store.get (fun _ => []) t.nand.slices i = (Store.get (fun _ => []) s.nand.slices i).drop 1 ∧ s.evt.seq < t.evt.seq)) ∧
  (∀ c u s, s.nandOn c = true → Runs (.nandReadUncorrectable c (.archive u)) s (fun t =>
    t.nand.archive.length = s.nand.archive.length ∧ ∀ r ∈ t.nand.archive, r.unit ≠ 0 → r.unit = u → r.lost = true)) ∧
  (∀ c q i ep s, s.nandOn c = true →
    Runs (.nandReadUncorrectable c (.legalRecord q)) s (fun t => q ∈ t.nand.lostJ) ∧
    Runs (.nandReadUncorrectable c (.warpSlice i)) s (fun t => Store.get (fun _ => none) t.nand.warpSlices i = none) ∧
    Runs (.nandReadUncorrectable c .templeRecord) s (fun t => t.nand.temple = none) ∧
    Runs (.nandReadUncorrectable c .pkwk) s (fun t => t.nand.pkwkOne = true ∧
      t.nand.pkwk = if s.nand.pkwkOne then none else s.nand.pkwk) ∧
    Runs (.nandReadUncorrectable c (.keyTable ep)) s (fun t => (Store.get (fun _ => KeyEntry.blank) t.nand.keyCopy ep).good = false) ∧
    Runs (.nandReadUncorrectable c .sealStore) s (fun t => t.nand = s.nand) ∧
    Runs (.nandReadUncorrectable c .audit) s (fun t => t.nand = s.nand) ∧
    Runs (.nandReadUncorrectable c .mapJournal) s (fun t => t.nand = s.nand)) ∧
  (∀ c d s, s.nandOn c = false → Runs (.nandReadUncorrectable c d) s (fun t => t = s)) ∧
  (∀ ch m s, s.beamUp = true → s.sysWrites = true → s.fastSeconds ch m ≠ [] → s.aggregated ch m = false →
    s.minuteEnd m + s.retFast * 3600 * second ≤ s.nowNs → Runs (.fastAggregation ch m) s (fun t =>
      ∃ x a l, t.bem.archBuf = s.bem.archBuf ++ [x] ∧ x.stream = .fastMin ∧ x.data = .entry a ∧ a.ch = ch ∧ a.ridx = m ∧
        a.gaplen = 60 - (s.fastSeconds ch m).length ∧ l ∈ s.fastSeconds ch m ∧ (∀ e ∈ s.fastSeconds ch m, e.ridx ≤ l.ridx) ∧
        a.totF = l.totF ∧ a.totR = l.totR)) ∧
  (∀ ch m s, s.aggregated ch m = true ∨ s.fastSeconds ch m = [] ∨ s.beamUp = false ∨
    s.nowNs < s.minuteEnd m + s.retFast * 3600 * second → Runs (.fastAggregation ch m) s (fun t => t = s)) ∧
  (∀ r k st s, Permits s r (0x800000 + R.BEM_CMD) → k < 6 → streamOf k = some st → s.sysWrites = true →
    (∀ d ∈ s.legalDays, d < (s.rg R.BEM_CMD_FROM).toNat ∨ (s.rg R.BEM_CMD_TO).toNat < d) → Runs (.discard r k) s (fun t =>
      t.nand.archive.length = s.nand.archive.length ∧ ∀ x ∈ t.nand.archive, x.stream = st → (s.rg R.BEM_CMD_FROM).toNat ≤ x.day →
        x.day ≤ (s.rg R.BEM_CMD_TO).toNat → x.dropped = true)) ∧
  (∀ r k d s, Permits s r (0x800000 + R.BEM_CMD) → k < 16 → s.sysWrites = false ∨ 6 ≤ k ∨
    (d ∈ s.legalDays ∧ (s.rg R.BEM_CMD_FROM).toNat ≤ d ∧ d ≤ (s.rg R.BEM_CMD_TO).toNat) → Runs (.discard r k) s (fun t =>
      t.nand = s.nand)) ∧
  (∀ r n m s, Permits s r (0x800000 + R.BEM_CTRL) → n < 8 → s.bem.chEn < 256 → nbit s.bem.chEn n = true → m ∈ s.nandList → m ≠ n →
    s.drainFits n = true → Runs (.nandChannelDrain r n) s (fun t => t.chSt n = .draining ∧ nbit t.bem.chEn n = false ∧
      nbit t.sys.nands n = nbit s.sys.nands n ∧ t.nand = s.nand)) ∧
  (∀ r n s, Permits s r (0x800000 + R.BEM_CTRL) → n < 8 → s.bem.chEn < 256 → nbit s.bem.chEn n = true →
    s.drainFits n = false ∨ (∀ m ∈ s.nandList, m = n) →
    Runs (.nandChannelDrain r n) s (fun t => t.bem = s.bem ∧ t.nand = s.nand ∧ t.sys = s.sys)) ∧
  (∀ r n s, Permits s r (0x800000 + R.BEM_CTRL) → n < 8 → s.bem.chEn < 256 → nbit s.bem.chEn n = false →
    s.chSt n ≠ .draining → nbit s.nandCfg.chMask n = true → nbit s.sys.nandOk n = true → (UnitKind.nand, n) ∉ s.evt.failed →
    Runs (.nandChannelJoin r n) s (fun t => t.chSt n = .active ∧ nbit t.bem.chEn n = true ∧ nbit t.sys.nands n = true)) ∧
  (∀ r n s, Permits s r (0x800000 + R.BEM_CTRL) → n < 8 → s.bem.chEn < 256 → nbit s.bem.chEn n = false →
    nbit s.nandCfg.chMask n = false ∨ nbit s.sys.nandOk n = false ∨ (UnitKind.nand, n) ∈ s.evt.failed →
    Runs (.nandChannelJoin r n) s (fun t => t.bem = s.bem ∧ t.sys = s.sys)) ∧
  (∀ n s, s.beamUp = true → s.chSt n = .draining → Runs (.nandChannelDrainDone n) s (fun t =>
    t.chSt n = .absent ∧ nbit t.sys.nands n = false)) ∧
  (∀ r n s, Permits s r (0x800000 + R.BEM_CTRL) → n < 8 → s.bem.chEn < 256 → nbit s.bem.chEn n = false → s.chSt n = .draining →
    Runs (.nandChannelJoin r n) s (fun t => t.bem = s.bem ∧ t.sys = s.sys)) ∧
  (∀ n s, s.beamUp = false ∨ (s.nandOn n = false ∧ s.chSt n ≠ .draining) → Runs (.nandChannelFail n) s (fun t => t = s)) ∧
  (∀ n s, s.beamUp = false ∨ s.chSt n ≠ .draining → Runs (.nandChannelDrainDone n) s (fun t => t = s)) ∧
  (∀ n s, n < 8 → s.beamUp = true → s.nandOn n = true ∨ s.chSt n = .draining → Runs (.nandChannelFail n) s (fun t => t.chSt n = .failed ∧
    nbit t.sys.nands n = false ∧ nbit t.bem.chEn n = false ∧ (∀ x ∈ t.nand.blocks, x.2.ch ≠ n) ∧
    (s.chUnits n .legal ≠ [] → t.bem.exposed = true ∧ t.bem.exposedLeft = 2)))

/-- R351, R593 to R595, R600, R604, R607, R608, R612 to R614, R681, R703: the Key Store. The entropy source fails and passes; a copy that
is written brings the next reservation, unless the pair holds it back; a lane's jobs move to the lanes left; the batch that the committed
bytes spell is taken or refused, and its entries end accepted or refused one by one; zeroisation clears what its OP names; a key
certificate is asked for, signed and answered.
Where the spec is silent, clauses rest on the model's choices: log entries 7, 73, 114, 115, 116. -/
def Obligations.KeyStore : Prop :=
  (∀ s, s.key.trngOk = true → s.active Ev.TRNG_FAIL = false → Runs .trngHealthFail s (fun t =>
    t.key.trngOk = false ∧ s.evt.seq < t.evt.seq)) ∧
  (∀ s, s.key.trngOk = false → Runs .trngHealthFail s (fun t => t = s)) ∧
  (∀ s, Runs .trngHealthPass s (fun t => t.key = { s.key with trngOk := true })) ∧
  (∀ ep s, ep ∈ s.key.waitResv → ep ∉ s.key.resvPend → s.sysWrites = true → s.needsAck = false → s.resvLimit ep = false →
    Runs (.keyCopyWritten ep) s (fun t => (t.keyOf ep).txResv = (s.keyOf ep).txResv + 65536 ∧
      (t.sess ep).icTx = some ((s.keyOf ep).txResv + 65536, (s.keyOf ep).txResv + 131072) ∧ ep ∉ t.key.waitResv)) ∧
  (∀ ep s, ep ∈ s.key.waitResv → ep ∉ s.key.resvPend → s.sysWrites = true → s.needsAck = true → Runs (.keyCopyWritten ep) s (fun t =>
    (t.keyOf ep).txResv = (s.keyOf ep).txResv + 65536 ∧ t.key.resvPend = s.key.resvPend ++ [ep] ∧
    (t.sess ep).icTx = (s.sess ep).icTx ∧ t.key.waitResv = s.key.waitResv)) ∧
  (∀ ep s, ep ∉ s.key.waitResv ∨ ep ∈ s.key.resvPend ∨ (s.sysWrites = false ∧ s.key.debug = false) ∨
    (s.needsAck = false ∧ s.resvLimit ep = true) → Runs (.keyCopyWritten ep) s (fun t =>
      t.key.table = s.key.table ∧ t.key.waitResv = s.key.waitResv ∧ t.msn = s.msn)) ∧
  (∀ r l m s, Permits s r (0x800000 + R.KEY_LANE_EN) → l < 16 → s.key.laneEn < 65536 → m ∈ s.lanesOn → m ≠ l →
    Runs (.laneDisable r l) s (fun t => nbit t.key.laneEn l = false ∧ m ∈ t.lanesOn ∧
      (nbit s.key.laneEn l = true → t.key.waiting l = []))) ∧
  (∀ r l s, Permits s r (0x800000 + R.KEY_LANE_EN) → l < 16 → s.key.laneEn < 65536 → s.lanesOn = [l] → Runs (.laneDisable r l) s (fun t =>
    t.key = s.key)) ∧
  (∀ r l s, Permits s r (0x800000 + R.KEY_LANE_EN) → l < 16 → s.key.laneEn < 65536 → nbit s.sys.lanes l = true → s.lanesOn ≠ [] →
    Runs (.laneEnable r l) s (fun t => nbit t.key.laneEn l = true)) ∧
  (∀ r l s, Permits s r (0x800000 + R.KEY_LANE_EN) → l < 16 → s.key.laneEn < 65536 → nbit s.sys.lanes l = false → s.lanesOn ≠ [] →
    Runs (.laneEnable r l) s (fun t => nbit t.key.laneEn l = false ∧ t.lanesOn = s.lanesOn)) ∧
  (∀ r op b j role s, Commits s r 2 j role → b = parseBatch (((s.part j).region 2).read 0 (s.part j).commitLen) op →
    s.batchCheck j b = none → Runs (.dpCommitKeyImport r op) s (fun t =>
      t.key.impSt = .running ∧ t.key.impBatch = some (j, b.no, b.entries) ∧ t.key.impAcc = 0 ∧ t.key.impRef = 0)) ∧
  (∀ r op b j role c st s, Commits s r 2 j role → b = parseBatch (((s.part j).region 2).read 0 (s.part j).commitLen) op →
    s.batchCheck j b = some (c, st) → Runs (.dpCommitKeyImport r op) s (fun t =>
      t.key.impSt = .refused ∧ t.key.impCode = c ∧ t.key.table = s.key.table ∧ (t.part j).commitSt = .refused ∧
      (t.part j).commitCode = st.code)) ∧
  (∀ j n es k s, s.key.impBatch = some (j, n, es) → s.key.pkwk = some k → Runs .keyImportDone s (fun t =>
    t.key.impSt = .done ∧ t.key.impBatch = none ∧ t.key.lastBatch = n ∧ t.key.impAcc + t.key.impRef = es.length ∧
    (t.part j).commitSt = .done)) ∧
  (∀ j n e k c s, s.key.impBatch = some (j, n, [e]) → s.key.pkwk = some k → s.epCfg e.ep = some c → (s.keyOf e.ep).kver < e.kver →
    e.good = true → Runs .keyImportDone s (fun t => (t.keyOf e.ep).kver = e.kver ∧ (t.keyOf e.ep).keys = e.keys ∧
      (t.keyOf e.ep).valid = true ∧ (t.sess e.ep).icTx = some (0, 65536) ∧ (t.sess e.ep).icRx = none ∧ (t.sess e.ep).assoc = false ∧
      t.key.impAcc = 1)) ∧
  (∀ j n e k s, s.key.impBatch = some (j, n, [e]) → s.key.pkwk = some k → s.epCfg e.ep = none ∨ e.kver ≤ (s.keyOf e.ep).kver ∨ e.good = false →
    Runs .keyImportDone s (fun t => t.key.table = s.key.table ∧ t.key.impAcc = 0 ∧ t.key.impRef = 1)) ∧
  (∀ s, s.key.impBatch = none ∨ (s.key.pkwk = none ∧ s.key.trngOk = false) → Runs .keyImportDone s (fun t => t = s)) ∧
  (∀ r s, Permits s r (0x800000 + R.KEY_ZERO) → Runs (.zeroSessions r) s (fun t =>
    t.hst.sessions = [] ∧ t.hst.handshakes = [] ∧ t.key = s.key)) ∧
  (∀ r s, Permits s r (0x800000 + R.KEY_ZERO) → Runs (.zeroMeterKeys r) s (fun t => t.key.table = [] ∧ t.key.pkwk = none ∧
    t.key.tableOk = false ∧ t.key.noLoads = true ∧ t.key.zeroing = some 2 ∧ t.hst.sessions = s.hst.sessions)) ∧
  (∀ r s, Permits s r (0x800000 + R.KEY_ZERO) → Runs (.zeroAll r) s (fun t => t.key.table = [] ∧ t.key.pkwk = none ∧
    t.key.zeroing = some 3 ∧ t.hst.sessions = [] ∧ t.hst.handshakes = [])) ∧
  (∀ s, s.key.zeroing.isSome = true → Runs .zeroiseEraseDone s (fun t => t.nand.pkwk = none ∧ t.nand.keyCopy = [] ∧
    t.key.zeroing = none ∧ t.key.zeroised = true ∧ t.key.noLoads = false)) ∧
  (∀ s, s.key.zeroing = none → Runs .zeroiseEraseDone s (fun t => t = s)) ∧
  (∀ o x s, Serves s o x 0x50 .cert → 1 ≤ o.b 3 → o.b 3 ≤ 5 → o.b 5 = 0 → (o.b 3 = 5 → s.key.pkwk ≠ none) → (s.part o.dg.part).issue = none → Runs (.keyCertIssue o) s
    (fun t => (t.part o.dg.part).issue = some (o.dg.slot, o.reqId, o.b 3) ∧
      t.key.signs = s.key.signs ++ [.cert o.dg.part o.dg.slot o.reqId (o.b 3)])) ∧
  (∀ o x s, Serves s o x 0x50 .cert → 1 ≤ o.b 3 → o.b 3 ≤ 5 → o.b 5 = 0 → (o.b 3 = 5 → s.key.pkwk ≠ none) → (s.part o.dg.part).issue.isSome = true →
    Runs (.keyCertIssue o) s (fun t => t.key = s.key ∧ Answered s o .busy [] t)) ∧
  (∀ o x s, Serves s o x 0x50 .cert → o.b 3 = 0 ∨ 5 < o.b 3 ∨ o.b 5 ≠ 0 ∨ (o.b 3 = 5 ∧ s.key.pkwk = none) → Runs (.keyCertIssue o) s
    (fun t => t.key = s.key ∧ Answered s o .unmapped [] t)) ∧
  (∀ j k i kt q s, s.key.signs = .cert j k i kt :: q → Runs .keyCertSigned s (fun t =>
    t.key.signs = q ∧ (t.part j).issue = none ∧
    ∀ x, s.session j k = some x → s.laneUp = true → ∃ n st fl p a len bs, .dgram j k x.port n (.objRsp i st fl p len a bs) ∈ t.out)) ∧
  (∀ s, (∀ j k i kt q, s.key.signs ≠ .cert j k i kt :: q) → Runs .keyCertSigned s (fun t => t = s))

/-- R593, R610, R624 to R629, R647: handshakes and sessions. A hello opens a handshake in the lowest free slot, or is refused; a repeated
one is answered as before; step 3, once its last fragment has come, opens the session in the role its credential gives, or fails;
handshakes and sessions end by time, a session also by CLOSE and at the end of its sequence numbers; a datagram that R624 to R626 do not
accept changes nothing, and one that is too long is answered so.
Where the spec is silent, clauses rest on the model's choices: log entries 7, 114, 118, 119, 127. -/
def Obligations.HostSessions : Prop :=
  (∀ e j c n k m s, s.sessState = true → s.partTakes j e = true →
    s.hst.handshakes.find? (fun h => decide (h.part = j ∧ h.nonce = n)) = none → s.key.trngOk = true → s.hst.handshakes.length < 8 →
    s.freeSession j = some k → Runs (.hsHello e j c n m) s (fun t => t.hst.nextSid = s.hst.nextSid + 1 ∧
      ∃ h, t.hst.handshakes = s.hst.handshakes ++ [h] ∧ h.part = j ∧ h.slot = k ∧ h.cred = c ∧ h.nonce = n ∧ h.sid = s.hst.nextSid ∧
        h.since = max s.tim.cnt m ∧
        t.out = s.out ++ (fragments hsDeviceLen).map (.hsDevice j k e s.hst.nextSid n s.sys.role s.otp.eui))) ∧
  (∀ e j c n m s, s.sessState = true → s.partTakes j e = true →
    s.hst.handshakes.find? (fun h => decide (h.part = j ∧ h.nonce = n)) = none →
    s.key.trngOk = false → Runs (.hsHello e j c n m) s (fun t => t.hst = s.hst ∧ t.out = s.out ++ [.hsFail e j .denied])) ∧
  (∀ e j c n m s, s.sessState = true → s.partTakes j e = true →
    s.hst.handshakes.find? (fun h => decide (h.part = j ∧ h.nonce = n)) = none → s.key.trngOk = true →
    8 ≤ s.hst.handshakes.length ∨ s.freeSession j = none → Runs (.hsHello e j c n m) s (fun t =>
      t.hst = s.hst ∧ t.out = s.out ++ [.hsFail e j .busy])) ∧
  (∀ e j c n m h s, s.sessState = true → s.partTakes j e = true →
    s.hst.handshakes.find? (fun h => decide (h.part = j ∧ h.nonce = n)) = some h → Runs (.hsHello e j c n m) s (fun t => t.hst = s.hst ∧
      t.out = s.out ++ (fragments hsDeviceLen).map (.hsDevice h.part h.slot e h.sid h.nonce s.sys.role s.otp.eui))) ∧
  (∀ e j c n m s, s.sessState = false ∨ s.partTakes j e = false → Runs (.hsHello e j c n m) s (fun t =>
    t.hst = s.hst ∧ t.out = s.out)) ∧
  (∀ i d f m h role s, s.hst.handshakes.find? (fun h => h.sid = i) = some h → s.hsRole h d = some role → f ∈ fragments hsHostLen →
    max s.tim.cnt m < h.since + msCounts 10000 → f.cnt ≤ (if h.got.contains f.idx then h.got else f.idx :: h.got).length →
    Runs (.hsHost i d f m) s (fun t => (∀ y ∈ t.hst.handshakes, y.sid ≠ i) ∧ (s.laneUp = true → ∃ x, t.session h.part h.slot = some x ∧
      x.role = role ∧ x.sid = i ∧ x.seen = [] ∧ x.subscribed = false ∧ x.heard = max s.tim.cnt m ∧
      .dgram h.part h.slot h.port 0 .hsConfirm ∈ t.out))) ∧
  (∀ i d f m h s, s.hst.handshakes.find? (fun h => h.sid = i) = some h → s.hsRole h d = none → f ∈ fragments hsHostLen →
    max s.tim.cnt m < h.since + msCounts 10000 → f.cnt ≤ (if h.got.contains f.idx then h.got else f.idx :: h.got).length →
    Runs (.hsHost i d f m) s (fun t => t.hst.sessions = s.hst.sessions ∧ (∀ y ∈ t.hst.handshakes, y.sid ≠ i) ∧
      t.out = s.out ++ [.hsFail h.port h.part .denied])) ∧
  (∀ i d f m h s, s.hst.handshakes.find? (fun h => h.sid = i) = some h → f ∈ fragments hsHostLen →
    max s.tim.cnt m < h.since + msCounts 10000 → (if h.got.contains f.idx then h.got else f.idx :: h.got).length < f.cnt →
    Runs (.hsHost i d f m) s (fun t => t.hst.sessions = s.hst.sessions ∧ t.out = s.out ∧
      ∃ y ∈ t.hst.handshakes, y.sid = i ∧ f.idx ∈ y.got ∧ y.since = h.since)) ∧
  (∀ i d f m s, (∀ h, s.hst.handshakes.find? (fun h => h.sid = i) = some h → f ∉ fragments hsHostLen ∨
    h.since + msCounts 10000 ≤ max s.tim.cnt m) → Runs (.hsHost i d f m) s (fun t => t.hst = s.hst ∧ t.out = s.out)) ∧
  (∀ i m h s, s.hst.handshakes.find? (fun h => h.sid = i) = some h → h.since + msCounts 10000 ≤ m → Runs (.handshakeTimeout i m) s (fun t =>
    (∀ y ∈ t.hst.handshakes, y.sid ≠ i) ∧ t.hst.sessions = s.hst.sessions)) ∧
  (∀ i m s, (∀ h, s.hst.handshakes.find? (fun h => h.sid = i) = some h → max s.tim.cnt m < h.since + msCounts 10000) →
    Runs (.handshakeTimeout i m) s (fun t => t = s.reach m)) ∧
  (∀ d x s, Admits s d x → Runs (.keepalive d) s (fun t => ∃ y, t.session d.part d.slot = some y ∧ y.role = x.role ∧ y.sid = x.sid ∧
    y.heard = s.tim.cnt ∧ d.seq ∈ y.seen ∧ y.high = some (match x.high with
      | some h => max h d.seq
      | none => d.seq))) ∧
  (∀ d q b s, Drops s d → Runs (.keepalive d) s (fun t => t.hst = s.hst ∧ t.out = s.out) ∧
    Runs (.close d) s (fun t => t.hst = s.hst ∧ t.out = s.out) ∧ Runs (.evtAck d q) s (fun t => t.hst = s.hst ∧ t.out = s.out) ∧
    Runs (.subscribe d b) s (fun t => t.hst = s.hst ∧ t.out = s.out)) ∧
  (∀ d x s, s.partTakes d.part d.port = true → s.session d.part d.slot = some x → x.sid = d.sid → s.laneUp = true → d.tagOk = true →
    x.fresh d.seq = true → d.seq + 1 < 2 ^ 40 → s.dgLimit d.port < d.len → Runs (.keepalive d) s (fun t =>
      .dgram d.part d.slot d.port x.txSeq (.tooLong .length) ∈ t.out)) ∧
  (∀ d x s, s.partTakes d.part d.port = true → s.session d.part d.slot = some x → x.sid = d.sid → s.laneUp = true → d.tagOk = true →
    x.fresh d.seq = true → 2 ^ 40 ≤ d.seq + 1 → Runs (.keepalive d) s (fun t => t.session d.part d.slot = none)) ∧
  (∀ d x s, Admits s d x → Runs (.close d) s (fun t => t.session d.part d.slot = none ∧
    t.part d.part = s.part d.part)) ∧
  (∀ j k m x s, s.session j k = some x → x.heard + s.sessIdle ≤ m → Runs (.sessionIdleTimeout j k m) s (fun t => t.session j k = none)) ∧
  (∀ j k m s, (∀ x, s.session j k = some x → max s.tim.cnt m < x.heard + s.sessIdle) → Runs (.sessionIdleTimeout j k m) s (fun t =>
    t = s.reach m)) ∧
  (∀ d q x s, Admits s d x → Runs (.evtAck d q) s (fun t =>
    (t.part d.part).evq = (s.part d.part).evq.filter (fun r => laterMod32 r.qseq q))) ∧
  (∀ d b x s, Admits s d x → Runs (.subscribe d b) s (fun t => ∃ y, t.session d.part d.slot = some y ∧ y.subscribed = b ∧
    y.role = x.role ∧ (b = true → (s.part d.part).evq ≠ [] → .dgram d.part d.slot d.port x.txSeq (.notify ((s.part d.part).evq.take
      (if s.dgLimit d.port = 8216 then 255 else 31))) ∈ t.out))) ∧
  (∀ j m s, (s.part j).evq = [] ∨ (∀ k < 4, ∀ x, s.session j k = some x → x.subscribed = false) → Runs (.notifyTimer j m) s (fun t =>
    t = s.reach m)) ∧
  (∀ j k m x s, k < 4 → s.session j k = some x → x.subscribed = true → (s.part j).evq ≠ [] → s.laneUp = true →
    Runs (.notifyTimer j m) s (fun t =>
      .dgram j k x.port x.txSeq (.notify ((s.part j).evq.take (if s.dgLimit x.port = 8216 then 255 else 31))) ∈ t.out))

/-- R619, R621, R638 to R643, R655: MDIO, links, answers in hardware, and the data port: a burst's datagrams are written in order, each
answered with one DP_ACK that says how it fared, and a read is answered with the region's bytes.
Where the spec is silent, clauses rest on the model's choices: log entries 120, 126. -/
def Obligations.HostPortsAndDataPort : Prop :=
  (∀ r v s, Permits s r (0x800000 + R.HST_MDIO) → s.hst.mdioBusy = false → field v 29 28 ≠ 2 → field v 29 28 ≠ 0 ∨ bit v 30 = true →
    Runs (.mdioStart r v) s (fun t => t.hst.mdioBusy = true ∧ ∃ w, .mdio w ∈ t.out ∧ field w 29 28 = field v 29 28 ∧
      bit w 30 = bit v 30 ∧ field w 15 0 = field v 15 0)) ∧
  (∀ r v s, Permits s r (0x800000 + R.HST_MDIO) → s.hst.mdioBusy = true → Runs (.mdioStart r v) s (fun t =>
    t.hst = s.hst ∧ t.rg R.HST_MDIO = s.rg R.HST_MDIO)) ∧
  (∀ r v s, Permits s r (0x800000 + R.HST_MDIO) → s.hst.mdioBusy = false → field v 29 28 = 2 ∨ (field v 29 28 = 0 ∧ bit v 30 = false) →
    Runs (.mdioStart r v) s (fun t => t = s.answered r (some .denied) 0)) ∧
  (∀ d s, s.hst.mdioBusy = false → Runs (.mdioFrameDone d) s (fun t => t = s)) ∧
  (∀ d s, s.hst.mdioBusy = true → field (s.rg R.HST_MDIO) 29 28 = 3 → Runs (.mdioFrameDone d) s (fun t => t.hst.mdioBusy = false ∧
    field (t.rg R.HST_MDIO) 15 0 = d % 65536)) ∧
  (∀ d s, s.hst.mdioBusy = true → field (s.rg R.HST_MDIO) 29 28 ≠ 3 → Runs (.mdioFrameDone d) s (fun t => t.hst.mdioBusy = false ∧
    t.rg R.HST_MDIO = s.rg R.HST_MDIO)) ∧
  (∀ e s, s.hostPortOn e = true → Store.get (fun _ => false) s.hst.link e = true → s.active Ev.HOST_LINK_DOWN = false →
    Runs (.hostLinkChange e false) s (fun t => Store.get (fun _ => false) t.hst.link e = false ∧ s.evt.seq < t.evt.seq)) ∧
  (∀ e s, s.hostPortOn e = true → Store.get (fun _ => false) s.hst.link e = false → Runs (.hostLinkChange e true) s (fun t =>
    Store.get (fun _ => false) t.hst.link e = true)) ∧
  (∀ e c s, s.hostPortOn e = true → s.hostPort e = some c → Runs (.hostArpNdEcho e c.vlan) s (fun t =>
    t = { s with out := s.out ++ [.netReply e] })) ∧
  (∀ e b s, s.hostPortOn e = false ∨ Store.get (fun _ => false) s.hst.link e = b → Runs (.hostLinkChange e b) s (fun t => t = s)) ∧
  (∀ e v s, s.hostPortOn e = false ∨ (∀ c, s.hostPort e = some c → c.vlan ≠ v) → Runs (.hostArpNdEcho e v) s (fun t => t = s)) ∧
  (∀ d b a bs x s, Admits s d x → (∀ p, (s.part d.part).bsn = some p → laterMod32 b p = true) →
    s.dpTarget d.part x.role a bs.length = .ok → (∀ y ∈ bs, y < 256) → Runs (.dpData d b 0 true a bs) s (fun t =>
      (t.part d.part).burstOpen = true ∧ ((t.part d.part).region (a / 2 ^ 56)).read (a % 2 ^ 56) bs.length = bs ∧
      (t.part d.part).bsn = some b ∧ (t.part d.part).expect = 1 ∧ (t.part d.part).addr = a + bs.length ∧
      ∃ q, .dgram d.part d.slot d.port q (.dpAck b 0 1 .ok (a + bs.length)) ∈ t.out)) ∧
  (∀ d b i a bs x s, Admits s d x → (s.part d.part).burstOpen = true → (s.part d.part).bsn = some b → (s.part d.part).expect = i →
    s.dpTarget d.part x.role (s.part d.part).addr bs.length = .ok → Runs (.dpData d b i false a bs) s (fun t =>
      (t.part d.part).expect = i + 1 ∧ (t.part d.part).addr = (s.part d.part).addr + bs.length ∧
      ∃ q, .dgram d.part d.slot d.port q (.dpAck b i (i + 1) .ok ((s.part d.part).addr + bs.length)) ∈ t.out)) ∧
  (∀ d b i a bs x s, Admits s d x → (s.part d.part).burstOpen = true → (s.part d.part).bsn = some b → (s.part d.part).expect < i →
    Runs (.dpData d b i false a bs) s (fun t => t.part d.part = s.part d.part ∧
      ∃ q, .dgram d.part d.slot d.port q (.dpAck b i (s.part d.part).expect .seqGap (s.part d.part).addr) ∈ t.out)) ∧
  (∀ d b i f a bs x p s, Admits s d x → (s.part d.part).bsn = some p → laterMod32 b p = false → (s.part d.part).burstOpen = false ∨ b ≠ p →
    Runs (.dpData d b i f a bs) s (fun t => t.part d.part = s.part d.part ∧
      ∃ q, .dgram d.part d.slot d.port q (.dpAck b i (s.part d.part).expect .seqStale (s.part d.part).addr) ∈ t.out)) ∧
  (∀ d b i a bs x st s, Admits s d x → (s.part d.part).burstOpen = true → (s.part d.part).bsn = some b → (s.part d.part).expect = i →
    s.dpTarget d.part x.role (s.part d.part).addr bs.length = st → st ≠ .ok → Runs (.dpData d b i false a bs) s (fun t =>
      t.part d.part = s.part d.part ∧ ∃ q, .dgram d.part d.slot d.port q (.dpAck b i i st (s.part d.part).addr) ∈ t.out)) ∧
  (∀ d b i a bs x s, Admits s d x → (s.part d.part).burstOpen = true → (s.part d.part).bsn = some b → i < (s.part d.part).expect →
    Runs (.dpData d b i false a bs) s (fun t => t.part d.part = s.part d.part ∧
      ∃ q, .dgram d.part d.slot d.port q (.dpAck b i (s.part d.part).expect .dup (s.part d.part).addr) ∈ t.out)) ∧
  (∀ j m s, (s.part j).burstOpen = true → (s.part j).burstAt + msCounts (clampNat 10 60000 (s.part j).idleMs) ≤ m →
    Runs (.dpIdleTimeout j m) s (fun t => t.part j = { s.part j with burstOpen := false })) ∧
  (∀ j m s, (s.part j).burstOpen = false ∨ max s.tim.cnt m < (s.part j).burstAt + msCounts (clampNat 10 60000 (s.part j).idleMs) →
    Runs (.dpIdleTimeout j m) s (fun t => t = s.reach m)) ∧
  (∀ d a n x s, Admits s d x → s.dpReadable d.part x.role a n = .ok → Runs (.dpRead d a n) s (fun t =>
    ∃ q, .dgram d.part d.slot d.port q (.dpRData (d.seq % 2 ^ 32) 0 a .ok
      (((s.part d.part).region (a / 2 ^ 56)).read (a % 2 ^ 56) (min (s.dgLimit d.port - 24) n))) ∈ t.out)) ∧
  (∀ d b i f a n bs s, Drops s d → Runs (.dpData d b i f a bs) s (fun t => t.hst = s.hst ∧ t.out = s.out) ∧
    Runs (.dpRead d a n) s (fun t => t.hst = s.hst ∧ t.out = s.out)) ∧
  (∀ d a n x st s, Admits s d x → s.dpReadable d.part x.role a n = st → st ≠ .ok → Runs (.dpRead d a n) s (fun t =>
    ∃ q, .dgram d.part d.slot d.port q (.dpRData (d.seq % 2 ^ 32) 0 a st []) ∈ t.out)) ∧
  (∀ r w j role s, Permits s r R.HST_DP_ADDR_0 → s.ownPart r = some (j, role) → (s.part j).burstOpen = false →
    Runs (.hstDpAddrWrite r w) s (fun t =>
      (t.part j).addr = w.toNat + 2 ^ 32 * (s.heldOr r R.HST_DP_ADDR_1 (wordOf (s.part j).addr 1)).toNat)) ∧
  (∀ r w j role s, Permits s r R.HST_DP_ADDR_0 → s.ownPart r = some (j, role) → (s.part j).burstOpen = true →
    Runs (.hstDpAddrWrite r w) s (fun t => t.part j = s.part j))

/-- R488, R658 to R664, R668, R672, R676 to R678, R680: what a GET answers. A request that its session may make and whose identifier
names objects is answered with their bytes, every channel, tariff or direction for 0xFF; a result too large for a datagram is placed in
OUT; an endpoint outside the partition's scope, an identifier that names nothing and an ARG of the wrong length are answered so.
Where the spec is silent, clauses rest on the model's choices: log entries 98, 100, 109, 121, 122, 123. -/
def Obligations.ObjectsRead : Prop :=
  (∀ o x cs ks bs s, Serves s o x 0x01 .legal → s.epScope o.dg.part o.target = .ok → sel (o.b 1) 4 = some cs → selObjs o = some ks →
    o.b 5 = 0 → bs = cs.flatMap (fun c => ks.flatMap (fun k => ((s.lch (mkChid o.target c)).total k).object)) →
    (bs.length + 24 ≤ s.dgLimit o.dg.port → Runs (.getLegalTotal o) s (Answered s o .ok bs)) ∧
    (s.dgLimit o.dg.port < bs.length + 24 → (s.place o.dg.part bs).2 ≠ none → Runs (.getLegalTotal o) s (AnsweredOut s o bs))) ∧
  (∀ o x cs ks bs s, Serves s o x 0x02 .legal → s.epScope o.dg.part o.target = .ok → sel (o.b 1) 4 = some cs → selObjs o = some ks →
    o.b 5 = 0 → bs = cs.flatMap (fun c => ks.flatMap (fun k => ((s.lch (mkChid o.target c)).md k).bytes)) →
    Runs (.getMaxDemand o) s (Answered s o .ok bs)) ∧
  (∀ o x cs bs s, Serves s o x 0x03 .legal → s.epScope o.dg.part o.target = .ok → sel (o.b 1) 4 = some cs → o.plain = true →
    bs = cs.flatMap (fun c => leBytes 4 (b2n (s.lch (mkChid o.target c)).held + 2 * b2n (s.lch (mkChid o.target c)).holdRoll) ++
      blockBytes (s.lch (mkChid o.target c)).totals (s.lch (mkChid o.target c)).mds) →
    (bs.length + 24 ≤ s.dgLimit o.dg.port → Runs (.getLegalBlock o) s (Answered s o .ok bs)) ∧
    (s.dgLimit o.dg.port < bs.length + 24 → (s.place o.dg.part bs).2 ≠ none → Runs (.getLegalBlock o) s (AnsweredOut s o bs))) ∧
  (∀ o x st s, s.epScope o.dg.part o.target = st → st ≠ .ok →
    (Serves s o x 0x01 .legal → Runs (.getLegalTotal o) s (Answered s o st [])) ∧
    (Serves s o x 0x02 .legal → Runs (.getMaxDemand o) s (Answered s o st [])) ∧
    (Serves s o x 0x03 .legal → Runs (.getLegalBlock o) s (Answered s o st [])) ∧
    (Serves s o x 0x10 .data → Runs (.getWarpRecord o) s (Answered s o st [])) ∧
    (Serves s o x 0x11 .data → Runs (.getArchive o) s (Answered s o st [])) ∧
    (Serves s o x 0x80 .data → Runs (.getNode o) s (Answered s o st [])) ∧
    (Serves s o x 0x20 .dayRecord → Runs (.getDayRecord o) s (Answered s o st []) ∧ Runs (.proof o) s (Answered s o st []))) ∧
  (∀ o x s, s.epScope o.dg.part o.target = .ok → o.plain = false →
    (Serves s o x 0x03 .legal → Runs (.getLegalBlock o) s (Answered s o .unmapped [])) ∧
    (Serves s o x 0x10 .data → Runs (.getWarpRecord o) s (Answered s o .unmapped [])) ∧
    (Serves s o x 0x80 .data → Runs (.getNode o) s (Answered s o .unmapped [])) ∧
    (Serves s o x 0x20 .dayRecord → Runs (.getDayRecord o) s (Answered s o .unmapped []) ∧
      Runs (.proof o) s (Answered s o .unmapped []))) ∧
  (∀ o x s, o.plain = false →
    (Serves s o x 0x21 .dayRecord → Runs (.getSeal o) s (Answered s o .unmapped [])) ∧
    (Serves s o x 0x40 .recompute → Runs (.getRecomputeJob o) s (Answered s o .unmapped [])) ∧
    (Serves s o x 0x60 .campaign → Runs (.getFwCampaign o) s (Answered s o .unmapped [])) ∧
    (Serves s o x 0x12 .balance → s.nodeScope o.dg.part o.target = .ok → Runs (.getBalance o) s (Answered s o .unmapped []))) ∧
  (∀ o x s, Serves s o x 0x01 .legal → s.epScope o.dg.part o.target = .ok → sel (o.b 1) 4 = none ∨ selObjs o = none ∨ o.b 5 ≠ 0 →
    Runs (.getLegalTotal o) s (Answered s o .unmapped [])) ∧
  (∀ o x s, Serves s o x 0x02 .legal → s.epScope o.dg.part o.target = .ok → sel (o.b 1) 4 = none ∨ selObjs o = none ∨ o.b 5 ≠ 0 →
    Runs (.getMaxDemand o) s (Answered s o .unmapped [])) ∧
  (∀ o x s, Serves s o x 0x10 .data → s.epScope o.dg.part o.target = .ok → o.b 1 = 0 ∨ o.b 1 = 0xFF → o.plain = true → Runs (.getWarpRecord o) s
    (Answered s o .ok (recBytes (s.epRec o.target) o.target [s.wch (mkChid o.target 0), s.wch (mkChid o.target 1),
      s.wch (mkChid o.target 2), s.wch (mkChid o.target 3)]))) ∧
  (∀ o x r e s, Serves s o x 0x11 .data → s.epScope o.dg.part o.target = .ok → o.b 1 < 4 → o.b 3 = 0 → o.b 4 = 0 → o.b 5 = 0 →
    o.arg.length = 21 → s.bem.mounted = true → s.bem.notMounted = false → s.nand.archive ++ s.bem.archBuf = [r] → r.dropped = false →
    r.lost = false → r.stream = .interval → r.data = .entry e → e.ch = mkChid o.target (o.b 1) → tsAt o.arg 0 ≤ e.capture →
    e.capture ≤ tsAt o.arg 10 → Runs (.getArchive o) s (fun t => ∃ h, Answered s o .ok (leBytes 8 1 ++ leBytes 4 0 ++ h ++ e.bytes false) t)) ∧
  (∀ o x s, Serves s o x 0x11 .data → s.epScope o.dg.part o.target = .ok → sel (o.b 1) 4 ≠ none → sel (o.b 3) 6 ≠ none → o.b 4 = 0 →
    o.b 5 = 0 → o.arg.length ≠ 21 → Runs (.getArchive o) s (Answered s o .badRequest [])) ∧
  (∀ o x st s, Serves s o x 0x12 .balance → s.nodeScope o.dg.part o.target = st → st ≠ .ok → Runs (.getBalance o) s
    (Answered s o st [])) ∧
  (∀ o x r y s, Serves s o x 0x12 .balance → s.nodeScope o.dg.part o.target = .ok → o.b 1 = 0 → o.plain = true → o.arg.length = 20 →
    s.bem.mounted = true → s.bem.notMounted = false → s.nand.archive ++ s.bem.archBuf = [r] → r.dropped = false → r.lost = false →
    r.data = .balance y → y.node = o.target → tsAt o.arg 0 ≤ y.e * 60 * second → y.e * 60 * second ≤ tsAt o.arg 10 →
    Runs (.getBalance o) s (Answered s o .ok (leBytes 8 1 ++ leBytes 4 0 ++ [0, 0, 0, 0] ++ y.bytes))) ∧
  (∀ o x c s, Serves s o x 0x80 .data → s.epScope o.dg.part o.target = .ok → o.b 1 = 0 → o.plain = true → s.epCfg o.target = some c →
    Runs (.getNode o) s (Answered s o .ok ([(match (s.node c.eui).st with
      | .unjoined => 0
      | .joined => 1
      | .rediscover => 2
      | .unreachable => 3), (s.node c.eui).home, (s.node c.eui).route.length + 1, 0] ++ leBytes 4 (s.node c.eui).cost))) ∧
  (∀ o x d s, Serves s o x 0x20 .dayRecord → s.epScope o.dg.part o.target = .ok → o.b 1 = 0 → o.plain = true → o.arg.length = 10 →
    s.dayRec o.target (tsAt o.arg 0 / second) = some d → d.bytes.length + 24 ≤ s.dgLimit o.dg.port → Runs (.getDayRecord o) s
    (Answered s o .ok d.bytes)) ∧
  (∀ o x s, Serves s o x 0x20 .dayRecord → s.epScope o.dg.part o.target = .ok → o.b 1 = 0 → o.plain = true → o.arg.length = 10 →
    s.dayRec o.target (tsAt o.arg 0 / second) = none → Runs (.getDayRecord o) s (Answered s o .noRecord [])) ∧
  (∀ o x h g i l d a s, Serves s o x 0x20 .dayRecord → s.epScope o.dg.part o.target = .ok → o.b 1 = 0 → o.plain = true →
    10 ≤ o.arg.length → s.sealOf (tsAt o.arg 0 / second) = some (h, g) → s.dayRec o.target (tsAt o.arg 0 / second) = some d →
    (s.leavesOf (tsAt o.arg 0 / second)).findIdx? (fun y => y.1 = o.target) = some i →
    (s.leavesOf (tsAt o.arg 0 / second))[i]? = some (o.target, l) → Config.shake256 (0 :: d.bytes) = l →
    d.bytes.length ≤ 1048576 → (s.place o.dg.part (leBytes 4 d.bytes.length ++ leBytes 4 i ++
      leBytes 4 (s.leavesOf (tsAt o.arg 0 / second)).length ++
      [(proofPath 20 ((s.leavesOf (tsAt o.arg 0 / second)).map Prod.snd) i).length, 0, 0, 0] ++ d.bytes ++
      (proofPath 20 ((s.leavesOf (tsAt o.arg 0 / second)).map Prod.snd) i).flatMap (beBytes 32) ++ h.bytes ++ beBytes 29792 g)).2 = some a →
    Runs (.proof o) s (AnsweredOut s o (leBytes 4 d.bytes.length ++ leBytes 4 i ++
      leBytes 4 (s.leavesOf (tsAt o.arg 0 / second)).length ++
      [(proofPath 20 ((s.leavesOf (tsAt o.arg 0 / second)).map Prod.snd) i).length, 0, 0, 0] ++ d.bytes ++
      (proofPath 20 ((s.leavesOf (tsAt o.arg 0 / second)).map Prod.snd) i).flatMap (beBytes 32) ++ h.bytes ++ beBytes 29792 g))) ∧
  (∀ o x s, Serves s o x 0x20 .dayRecord → s.epScope o.dg.part o.target = .ok → o.b 1 = 0 → o.plain = true → 10 ≤ o.arg.length →
    s.sealOf (tsAt o.arg 0 / second) = none → Runs (.proof o) s
    (Answered s o (if s.unsealed (tsAt o.arg 0 / second) then .busy else .noRecord) [])) ∧
  (∀ o x h g a s, Serves s o x 0x21 .dayRecord → o.b 1 = 0 → o.plain = true → o.arg.length = 10 →
    s.sealOf (tsAt o.arg 0 / second) = some (h, g) → (s.place o.dg.part (h.bytes ++ beBytes 29792 g)).2 = some a →
    Runs (.getSeal o) s (AnsweredOut s o (h.bytes ++ beBytes 29792 g))) ∧
  (∀ o x s, Serves s o x 0x21 .dayRecord → o.b 1 = 0 → o.plain = true → o.arg.length = 10 → s.sealOf (tsAt o.arg 0 / second) = none →
    Runs (.getSeal o) s (Answered s o .noRecord [])) ∧
  (∀ o x i c s, Serves s o x 0x30 .cardRead → o.b 1 = 0 → o.b 3 = 0 → o.b 4 = 0 → o.b 5 = 0 →
    s.contractScope o.dg.part o.target = true → o.arg.length = 4 →
    (s.cardsOf o.target).find? (fun x => x.2.body.cardId = numAt o.arg 0 4) = some (i, c) → c.body.bytes.length + 38 ≤ s.dgLimit o.dg.port →
    Runs (.getCard o) s (Answered s o .ok (leBytes 2 i ++ [c.st.code, c.lastCode] ++ leBytes 10 (tsPack c.body.actAt) ++ c.body.bytes))) ∧
  (∀ o x s, Serves s o x 0x30 .cardRead → o.b 1 = 0 → o.b 3 = 0 → o.b 4 = 0 → o.b 5 = 0 → s.contractScope o.dg.part o.target = false →
    Runs (.getCard o) s (Answered s o .denied [])) ∧
  (∀ o x s, Serves s o x 0x30 .cardRead → o.b 1 = 0 → o.b 3 = 0 → o.b 4 = 0 → o.b 5 = 0xFF → Runs (.getCard o) s
    (Answered s o .ok ([((s.part o.dg.part).lastCard.getD (0, 0, 0)).1, ((s.part o.dg.part).lastCard.getD (0, 0, 0)).2.1] ++
      leBytes 2 ((s.part o.dg.part).lastCard.getD (0, 0, 0)).2.2))) ∧
  (∀ o x bs s, Serves s o x 0x40 .recompute → o.b 1 = 0 → o.plain = true → bs = (s.job o.dg.part).words.flatMap (leBytes 4) ++
    ((s.job o.dg.part).sums.foldl (fun l y => insSum y l) []).flatMap JobSum.bytes →
    (bs.length + 24 ≤ s.dgLimit o.dg.port → Runs (.getRecomputeJob o) s (Answered s o .ok bs)) ∧
    (s.dgLimit o.dg.port < bs.length + 24 → bs.length ≤ 256 * 1048576 → (s.place o.dg.part bs).2 ≠ none →
      Runs (.getRecomputeJob o) s (AnsweredOut s o bs))) ∧
  (∀ o x s, Serves s o x 0x60 .campaign → o.b 1 = 0 → o.plain = true → s.msn.campaign = none → Runs (.getFwCampaign o) s
    (Answered s o .ok (List.replicate 20 0))) ∧
  (∀ o x c bs s, Serves s o x 0x60 .campaign → o.b 1 = 0 → o.plain = true → s.msn.campaign = some c →
    bs = leBytes 2 c.num ++ [c.step, 0] ++ c.tally.flatMap (leBytes 4) ++ (if o.arg = [1] then c.targets.map (fun x => match x.st with
      | .verified => 1
      | .failed => 2
      | _ => 0) else []) → bs.length + 24 ≤ s.dgLimit o.dg.port → Runs (.getFwCampaign o) s (Answered s o .ok bs))

/-- R642, R670, R671, R675, R676, R679 to R683: the actions and the commits that hand work to Selvedge, PEN and MSN: a recompute job is
queued, runs at once where no other does, and is aborted while the engine is lost; a campaign is activated or ends; a host read waits for
its readings; a commit that R642 refuses is answered with its status and hands nothing over, and one whose content is not acceptable
reads REFUSED.
Where the spec is silent, clauses rest on the model's choices: log entries 7, 100, 121, 126. -/
def Obligations.ActionsAndCommits : Prop :=
  (∀ o x n s, Serves s o x 0x40 .recompute → o.b 1 = 0 → o.plain = true → numAt o.arg 20 4 = n → 0 < n → n ≤ 65536 →
    o.arg.length = 24 + 4 * n → (s.job o.dg.part).busy = false → nbit s.slv.causes 8 = false →
    s.chidsOk o.dg.part ((upTo n).map (fun i => numAt o.arg (24 + 4 * i) 4)) = true → Runs (.recomputeSubmit o) s (fun t =>
      (t.job o.dg.part).st = (if s.pen.order = [] then JobSt.running else .queued) ∧ (t.job o.dg.part).host = false ∧
      (t.job o.dg.part).chans = (upTo n).map (fun i => numAt o.arg (24 + 4 * i) 4) ∧ t.pen.order = s.pen.order ++ [o.dg.part] ∧
      Answered s o .ok [] t)) ∧
  (∀ o x n s, Serves s o x 0x40 .recompute → o.b 1 = 0 → o.plain = true → numAt o.arg 20 4 = n → 0 < n → n ≤ 65536 →
    o.arg.length = 24 + 4 * n → (s.job o.dg.part).busy = true → Runs (.recomputeSubmit o) s (fun t =>
      t.pen = s.pen ∧ Answered s o .busy [] t)) ∧
  (∀ o x n s, Serves s o x 0x40 .recompute → o.b 1 = 0 → o.plain = true → numAt o.arg 20 4 = n → 0 < n → n ≤ 65536 →
    o.arg.length = 24 + 4 * n → (s.job o.dg.part).busy = false → nbit s.slv.causes 8 = true →
    s.chidsOk o.dg.part ((upTo n).map (fun i => numAt o.arg (24 + 4 * i) 4)) = true → Runs (.recomputeSubmit o) s (fun t =>
      (t.job o.dg.part).st = .aborted ∧ (t.job o.dg.part).code = 3 ∧ Answered s o .ok [] t)) ∧
  (∀ o x n s, Serves s o x 0x40 .recompute → o.b 1 = 0 → o.plain = true → numAt o.arg 20 4 = n → 0 < n → n ≤ 65536 →
    o.arg.length = 24 + 4 * n → (s.job o.dg.part).busy = false →
    s.chidsOk o.dg.part ((upTo n).map (fun i => numAt o.arg (24 + 4 * i) 4)) = false → Runs (.recomputeSubmit o) s (fun t =>
      t.pen = s.pen ∧ Answered s o .denied [] t)) ∧
  (∀ o x n s, Serves s o x 0x40 .recompute → o.b 1 = 0 → o.plain = true → numAt o.arg 20 4 = n → n = 0 ∨ 65536 < n ∨
    o.arg.length ≠ 24 + 4 * n → Runs (.recomputeSubmit o) s (fun t => t.pen = s.pen ∧ Answered s o .badRequest [] t)) ∧
  (∀ o x s, Serves s o x 0x40 .recompute → o.b 1 = 0 → o.plain = true → (s.job o.dg.part).busy = false → Runs (.recomputeCancel o) s (fun t =>
    t.pen = s.pen ∧ Answered s o .ok [] t)) ∧
  (∀ o x s, o.plain = false →
    (Serves s o x 0x40 .recompute → Runs (.recomputeSubmit o) s (Answered s o .unmapped []) ∧
      Runs (.recomputeCancel o) s (Answered s o .unmapped [])) ∧
    (Serves s o x 0x60 .campaign → Runs (.fwCampaignActivate o) s (Answered s o .unmapped []) ∧
      Runs (.fwCampaignAbort o) s (Answered s o .unmapped []))) ∧
  (∀ o x s, Serves s o x 0x40 .recompute → o.b 1 = 0 → o.plain = true → (s.job o.dg.part).busy = true → Runs (.recomputeCancel o) s (fun t =>
    (t.job o.dg.part).st = .aborted ∧ (t.job o.dg.part).code = 4 ∧ o.dg.part ∉ t.pen.order ∧ Answered s o .ok [] t)) ∧
  (∀ o x c s, Serves s o x 0x60 .campaign → o.b 1 = 0 → o.plain = true → s.sys.st = .active → o.arg.length = 10 →
    s.msn.campaign = some c → 8 ≤ c.step → Runs (.fwCampaignActivate o) s (fun t =>
      t.msn.campaign = some { c with activate := some (tsAt o.arg 0) } ∧ Answered s o .ok [] t)) ∧
  (∀ o x c s, Serves s o x 0x60 .campaign → o.b 1 = 0 → o.plain = true → s.sys.st = .active → o.arg.length = 10 →
    s.msn.campaign = some c → c.step < 8 → Runs (.fwCampaignActivate o) s (fun t => t.msn = s.msn ∧ Answered s o .busy [] t)) ∧
  (∀ o x c s, Serves s o x 0x60 .campaign → o.b 1 = 0 → o.plain = true → s.sys.st = .active → s.msn.campaign = some c →
    Runs (.fwCampaignAbort o) s (fun t => t.msn.campaign = none ∧ t.nand.campaign = none ∧ Answered s o .ok [] t)) ∧
  (∀ o x s, Serves s o x 0x60 .campaign → o.b 1 = 0 → o.plain = true → s.sys.st = .standby →
    Runs (.fwCampaignActivate o) s (fun t => t.msn = s.msn ∧ Answered s o .notActive [] t) ∧
    Runs (.fwCampaignAbort o) s (fun t => t.msn = s.msn ∧ Answered s o .notActive [] t)) ∧
  (∀ o x s, Serves s o x 0x60 .campaign → o.b 1 = 0 → o.plain = true → s.sys.st = .active → s.msn.campaign = none →
    Runs (.fwCampaignActivate o) s (fun t => t.msn = s.msn ∧ Answered s o .badRequest [] t) ∧
    Runs (.fwCampaignAbort o) s (fun t => t.msn = s.msn ∧ Answered s o .badRequest [] t)) ∧
  (∀ o x st s, Serves s o x 0x70 .hostRead → s.epScope o.dg.part o.target = st → st ≠ .ok → Runs (.readNow o) s (fun t =>
    t.msn = s.msn ∧ Answered s o st [] t)) ∧
  (∀ o x s, Serves s o x 0x70 .hostRead → s.epScope o.dg.part o.target = .ok → o.b 1 = 0 → o.plain = true → s.sys.st = .active →
    o.arg.length = 20 → Runs (.readNow o) s (fun t =>
      (∃ q, t.msn.held = s.msn.held ++ [(o.target, q)] ∧
        q.kind = .hostRead o.dg.part o.dg.slot o.reqId (tsAt o.arg 0) (tsAt o.arg 10)) ∧
      ∃ y, t.session o.dg.part o.dg.slot = some y ∧ o.reqId ∈ y.outstanding)) ∧
  (∀ o x s, Serves s o x 0x70 .hostRead → s.epScope o.dg.part o.target = .ok → o.b 1 = 0 → o.plain = true → s.sys.st = .standby →
    Runs (.readNow o) s (fun t => t.msn = s.msn ∧ Answered s o .notActive [] t)) ∧
  (∀ r j role s, Commits s r 4 j role → (s.part j).commitLen % 48 = 0 → (s.job j).busy = false → nbit s.slv.causes 8 = false →
    s.chidsOk j ((hostRecs (((s.part j).region 4).read 0 (s.part j).commitLen)).map HostRec.ch) = true →
    Runs (.dpCommitRecompute r) s (fun t => (t.part j).commitSt = .done ∧ (t.job j).host = true ∧ (t.job j).busy = true ∧
      (t.job j).input = hostRecs (((s.part j).region 4).read 0 (s.part j).commitLen))) ∧
  (∀ r j role s, Commits s r 4 j role → (s.part j).commitLen % 48 ≠ 0 → Runs (.dpCommitRecompute r) s (fun t =>
    (t.part j).commitSt = .refused ∧ t.pen = s.pen)) ∧
  (∀ r j role s, Commits s r 4 j role → (s.part j).commitLen % 48 = 0 →
    (s.job j).busy = true ∨ s.chidsOk j ((hostRecs (((s.part j).region 4).read 0 (s.part j).commitLen)).map HostRec.ch) = false →
    Runs (.dpCommitRecompute r) s (fun t => (t.part j).commitSt = .refused ∧ t.pen = s.pen ∧
      (t.part j).commitCode = (if (s.job j).busy then Status.busy.code else Status.denied.code))) ∧
  (∀ r j role code st op im v s, s.ownPart r = some (j, role) → s.handed j code = false → Permits s r R.HST_DP_COMMIT →
    s.commitStatus j role code = st → st ≠ .ok →
    (code = 1 → Runs (.dpCommitImage r im v) s (fun t => t = s.answered r (some st) 0)) ∧
    (code = 2 → Runs (.dpCommitKeyImport r op) s (fun t => t = s.answered r (some st) 0)) ∧
    (code = 3 → Runs (.dpCommitMeterImage r) s (fun t => t = s.answered r (some st) 0)) ∧
    (code = 4 → Runs (.dpCommitRecompute r) s (fun t => t = s.answered r (some st) 0)) ∧
    (code = 5 → Runs (.dpCommitCard r) s (fun t => t = s.answered r (some st) 0))) ∧
  (∀ r j role m s, Commits s r 5 j role → parseMsg j (((s.part j).region 5).read 0 (s.part j).commitLen) = some m →
    (s.part j).commitLen = 8 + (if numAt (((s.part j).region 5).read 0 (s.part j).commitLen) 0 1 = 1 then 1056 else 49920) →
    numAt (((s.part j).region 5).read 0 (s.part j).commitLen) 4 4 + 8 = (s.part j).commitLen → mayCard role m = true →
    s.contractScope j (s.msgContract m) = true → Runs (.dpCommitCard r) s (fun t => t.slv.cardIn = s.slv.cardIn ++ [m])) ∧
  (∀ r j role m s, Commits s r 5 j role → parseMsg j (((s.part j).region 5).read 0 (s.part j).commitLen) = some m →
    (s.part j).commitLen = 8 + (if numAt (((s.part j).region 5).read 0 (s.part j).commitLen) 0 1 = 1 then 1056 else 49920) →
    numAt (((s.part j).region 5).read 0 (s.part j).commitLen) 4 4 + 8 = (s.part j).commitLen → mayCard role m = false ∨
    s.contractScope j (s.msgContract m) = false → Runs (.dpCommitCard r) s (fun t => t.slv = s.slv ∧ (t.part j).commitSt = .refused ∧
      (t.part j).commitCode = Status.denied.code)) ∧
  (∀ r j role s, Commits s r 5 j role → (s.part j).commitLen ≠ 1064 → (s.part j).commitLen ≠ 49928 → Runs (.dpCommitCard r) s (fun t =>
    (t.part j).commitSt = .refused ∧ t.slv = s.slv)) ∧
  (∀ r j role s, Commits s r 3 j role → parseMeterImage (((s.part j).region 3).read 0 (s.part j).commitLen) = none →
    Runs (.dpCommitMeterImage r) s (fun t => (t.part j).commitSt = .refused ∧ t.msn = s.msn ∧ t.nand = s.nand)) ∧
  (∀ r j role n d z i e s, Commits s r 3 j role →
    parseMeterImage (((s.part j).region 3).read 0 (s.part j).commitLen) = some (n, d, z, i, e) → s.imageCheck j e = none →
    Runs (.dpCommitMeterImage r) s (fun t => (t.part j).commitSt = .done ∧ ∃ c, t.nand.campaign = some c ∧ c.num = n ∧ c.ident = d ∧
      c.size = z ∧ c.image = i ∧ c.targets.map Target.ep = e ∧ ∃ c', t.msn.campaign = some c' ∧ c'.num = n)) ∧
  (∀ r j role n d z i e st s, Commits s r 3 j role →
    parseMeterImage (((s.part j).region 3).read 0 (s.part j).commitLen) = some (n, d, z, i, e) → s.imageCheck j e = some st →
    Runs (.dpCommitMeterImage r) s (fun t => (t.part j).commitSt = .refused ∧ t.msn = s.msn ∧ t.nand = s.nand))

/-- R20, R534, R719, R722 to R724, R726, R727, R732: detected errors, and the EVT and JQD snapshots. A handshake message with a parity
error is repeated three times; the fourth fails the unit the channel alone serves, or restarts the unit. An SRAM parity error and an
uncorrectable DRAM error have the response of their location; a corrected one raises an event at most once an hour. While nothing is
detected, nothing happens. Momentary FAULT events leave the active table after 1 s.
Where the spec is silent, clauses rest on the model's choices: log entries 60, 76, 79, 138, 139. -/
def Obligations.DetectedErrors : Prop :=
  (∀ c u f s, s.detects = false → Runs (.fabricParityError c u f) s (fun t => t = s)) ∧
  (∀ c u s, s.detects = true → Runs (.fabricParityError c u true) s (fun t => Store.get (fun _ => 0) t.evt.fabric c = 1 ∧
    t.sys = s.sys)) ∧
  (∀ c u s, s.detects = true → Store.get (fun _ => 0) s.evt.fabric c < 3 → Runs (.fabricParityError c u false) s (fun t =>
    Store.get (fun _ => 0) t.evt.fabric c = Store.get (fun _ => 0) s.evt.fabric c + 1 ∧ t.sys = s.sys)) ∧
  (∀ c k u s, s.detects = true → 3 ≤ Store.get (fun _ => 0) s.evt.fabric c → Runs (.fabricParityError c (some (k, u)) false) s (fun t =>
    t.usable k u = false)) ∧
  (∀ c s, s.sys.st = .active → 3 ≤ Store.get (fun _ => 0) s.evt.fabric c → Runs (.fabricParityError c none false) s (fun t =>
    t.sys.st = .flush)) ∧
  (∀ l n s, s.detects = false ∨ s.hasSram l = false → Runs (.sramParityError l n) s (fun t => t = s.reach n)) ∧
  (∀ n s, s.detects = true → s.active Ev.PARITY_ERR = false → Runs (.sramParityError .legalOne n) s (fun t =>
    t.slv = s.slv ∧ t.sys = s.sys ∧ s.evt.seq < t.evt.seq)) ∧
  (∀ q n s, s.sys.st = .active → Runs (.sramParityError (.legalBoth q) n) s (fun t => t.sys.st = .flush)) ∧
  (∀ i n s, s.detects = true → Runs (.sramParityError (.neighbour i) n) s (fun t => ∀ x ∈ t.net.nbrs, x.1 ≠ i)) ∧
  (∀ c n x u s, s.detects = true → s.usable .core c = true → s.sht.waiting = [] → s.holds c = some (x, u) → x.retries < 3 →
    Runs (.sramParityError (.coreTcm c) n) s (fun t => t.holds c = none ∧
      (t.readyList x.d.prio).map Task.id = x.id :: (s.readyList x.d.prio).map Task.id)) ∧
  (∀ c n s, s.detects = true → s.usable .core c = true → (s.unitError .core c (max s.tim.cnt n)).2 = true →
    Runs (.sramParityError (.coreTcm c) n) s (fun t => t.usable .core c = false)) ∧
  (∀ k n s, s.detects = true → k < 4 → s.sht.waiting = [] → s.spillHead = none → Runs (.sramParityError (.cluster k) n) s (fun t =>
    t.sys = s.sys ∧ ∀ c ∈ clusterCores (3 + k), t.holds c = none)) ∧
  (∀ l n s, s.detects = true → s.usable .lane l = true → Runs (.sramParityError (.lane l) n) s (fun t =>
    t.usable .lane l = !(s.unitError .lane l (max s.tim.cnt n)).2)) ∧
  (∀ k n s, s.detects = true → s.usable .pipe k = true → Runs (.sramParityError (.pipe k) n) s (fun t =>
    t.usable .pipe k = !(s.unitError .pipe k (max s.tim.cnt n)).2)) ∧
  (∀ p n s, s.detects = true → s.usable .port p = true → Runs (.sramParityError (.reed p) n) s (fun t =>
    (t.port p).rx = none ∧ t.usable .port p = !(s.unitError .port p (max s.tim.cnt n)).2)) ∧
  (∀ d c x u n s, s.detects = true → (∀ q, ∀ y ∈ s.readyList q, y.index ≠ d) → (∀ k, ∀ y ∈ s.delayList k, y.2.index ≠ d) →
    s.sht.waiting = [] → (∀ e < 32, ∀ y w, s.holds e = some (y, w) → y.index = d → e = c) → c < 32 → s.holds c = some (x, u) →
    x.index = d → s.active Ev.TASK_KILLED = false → Runs (.sramParityError (.pool d) n) s (fun t =>
      t.holds c = none ∧ s.evt.seq < t.evt.seq)) ∧
  (∀ n s, s.sys.st = .active → Runs (.sramParityError .other n) s (fun t => t.sys.st = .flush)) ∧
  (∀ c n s, s.detects = false ∨ 2 ≤ c → Runs (.dramCe c n) s (fun t => t = s.reach n)) ∧
  (∀ c n s, s.detects = true → c < 2 → (∀ x ∈ s.evt.ceLast, x.1 ≠ c) → s.active Ev.DRAM_CE = false → Runs (.dramCe c n) s (fun t =>
    s.evt.seq < t.evt.seq ∧ (c, max s.tim.cnt n) ∈ t.evt.ceLast)) ∧
  (∀ c n a s, s.detects = true → c < 2 → s.evt.ceLast.find? (fun x => x.1 = c) = some (c, a) → a + hourCounts ≤ max s.tim.cnt n →
    Runs (.dramCe c n) s (fun t => (c, max s.tim.cnt n) ∈ t.evt.ceLast)) ∧
  (∀ c n a s, s.detects = true → c < 2 → s.evt.ceLast.find? (fun x => x.1 = c) = some (c, a) → max s.tim.cnt n < a + hourCounts →
    Runs (.dramCe c n) s (fun t => t.evt = s.evt)) ∧
  (∀ d s, s.detects = false → Runs (.dramUe d) s (fun t => t = s)) ∧
  (∀ d s, s.sys.st = .active → d = .legal ∨ d = .beamMap ∨ d = .imageCopy → Runs (.dramUe d) s (fun t => t.sys.st = .flush)) ∧
  (∀ ep im s, s.detects = true → s.sys.image = some im → Runs (.dramUe (.warpRecord ep)) s (fun t =>
    (t.epRec ep).eflags = 32 ∧ t.sys = s.sys)) ∧
  (∀ ch i s, s.detects = true → Runs (.dramUe (.warpQueue ch i)) s (fun t => (t.wch ch).queue = (s.wch ch).queue.eraseIdx i ∧
    t.sys = s.sys)) ∧
  (∀ d s, s.detects = true → d = .warpParam ∨ d = .balModel → s.active Ev.DRAM_UE = false → Runs (.dramUe d) s (fun t =>
    s.evt.seq < t.evt.seq ∧ t.sys = s.sys ∧ t.wrp = s.wrp ∧ t.bal = s.bal)) ∧
  (∀ n b s, s.detects = true → s.balNodes.find? (fun x => x.1 = n) = some (n, b) → Runs (.dramUe (.balState n)) s (fun t =>
    (t.balSt n).sPos = 0 ∧ (t.balSt n).sNeg = 0 ∧ (t.balSt n).bins = [] ∧
    ∀ y ∈ (s.balSt n).bins, y.e ≤ (t.balSt n).firstBad)) ∧
  (∀ s, s.detects = true → Runs (.dramUe .backlog) s (fun t => t.par.ring = [] ∧ t.par.peerSync = .none_)) ∧
  (∀ ep s, s.detects = true → s.keyGood (Store.get (fun _ => KeyEntry.blank) s.nand.keyCopy ep) = true → Runs (.dramUe (.keyTable ep)) s
    (fun t => t.keyOf ep = Store.get (fun _ => KeyEntry.blank) s.nand.keyCopy ep)) ∧
  (∀ q i s, s.detects = true → Runs (.dramUe (.spill q i)) s (fun t =>
    Store.get (fun _ => []) t.sht.spill q = (Store.get (fun _ => []) s.sht.spill q).eraseIdx i)) ∧
  (∀ j a s, s.detects = true → Runs (.dramUe (.dataPort j 0x20 a)) s (fun t =>
    (∀ x ∈ ((t.part j).region 0x20).ext, x ∈ ((s.part j).region 0x20).ext ∧ ¬ (x.1 ≤ a ∧ a < x.2)) ∧
    ∀ x ∈ ((s.part j).region 0x20).ext, x.1 ≤ a → a < x.2 → x ∈ (t.part j).outBad)) ∧
  (∀ j c a s, s.detects = true → c ≠ 0x20 → Runs (.dramUe (.dataPort j c a)) s (fun t => ((t.part j).region c).data = [] ∧
    ((t.part j).region c).ext = [])) ∧
  (∀ c s, s.detects = true → Runs (.dramUe (.window c)) s (fun t => .busError c ∈ t.out)) ∧
  (∀ s, Runs .patrolScrub s (fun t => t = s)) ∧
  (∀ n s, Runs (.faultHoldExpiry n) s (fun t => (s.evt.fullActive = false → t.evt.seq = s.evt.seq) ∧
    ∀ x ∈ t.evt.active, x ∈ s.evt.active ∧ ∀ d, x.2.expires = some d → max s.tim.cnt n < d)) ∧
  (∀ r v s, Permits s r R.EVT_ACT_IDX → Runs (.evtActIdxWrite r v) s (fun t =>
    t.evt.snap = (s.evt.active.find? (fun x => x.1 = v.toNat % 256)).map (fun x => x.2.ev) ∧ t.evt.active = s.evt.active)) ∧
  (∀ r v s, Permits s r R.JQD_CARD_IDX → Runs (.jqdCardIdxWrite r v) s (fun t =>
    t.slv.cardSnap = s.card (v.toNat % 2 ^ 12) ∧ t.slv.cards = s.slv.cards))

/-- R686 to R692, R705 to R707, R710, R713, R715: the Pair Link. Heartbeats go out on every lane in lock; what is heard is taken, a damaged
frame is counted and dropped; the peer is unheard after three misses; HELLO starts the numbering again; lanes go down and come up; frames
are sent again; PAR_CTRL resynchronises and relinquishes. Nothing happens while the link is not in use.
Where the spec is silent, clauses rest on the model's choices: log entries 129, 132, 133, 135, 137. -/
def Obligations.PairLink : Prop :=
  (∀ n s, s.pairLive = true → (s.par.lane0 = true → Runs (.heartbeatSend n) s (fun t => ∃ f, .pair 0 f ∈ t.out ∧
      f.body = .heartbeat (s.reach n).heartbeat)) ∧
    (s.par.lane1 = true → Runs (.heartbeatSend n) s (fun t => ∃ f, .pair 1 f ∈ t.out ∧ f.body = .heartbeat (s.reach n).heartbeat))) ∧
  (∀ n s, s.pairLive = false ∨ s.pairUp = false → Runs (.heartbeatSend n) s (fun t => t = s.reach n)) ∧
  (∀ x h n s, Hears s x → s.sys.st = .active → h.role ≠ 1 → Runs (.heartbeatReceived x h n) s (fun t => t.par.heard = true ∧
    t.par.everHeard = true ∧ t.par.hbAt = max s.tim.cnt n ∧ t.par.miss = 0 ∧ t.par.peerRole = h.role ∧ t.par.peerClaim = h.claim ∧
    t.par.peerPgen = h.pgen ∧ t.par.peerLegal = h.legalDigest ∧ t.par.peerBase = h.fieldBase ∧
    t.par.epoch = max s.par.epoch (min 0xFFFFFE (h.claim / 256)) ∧ ¬ Lasts t Ev.PAIR_LINK_LOST ∧ t.sys.st = .active)) ∧
  (∀ x h n s, Hears s x → s.sys.st = .start → Runs (.heartbeatReceived x h n) s (fun t => t.par.heard = true ∧
    t.par.hbAt = max s.tim.cnt n ∧ t.par.miss = 0 ∧ t.par.peerRole = h.role ∧
    t.sys.peerSeen = (s.sys.peerSeen || (decide (s.sys.phase = 10) && decide (h.role ≠ 0))))) ∧
  (∀ x h n s, Hears s x → s.sys.st = .standby → Runs (.heartbeatReceived x h n) s (fun t => t.par.heard = true ∧
    t.par.hbAt = max s.tim.cnt n ∧ t.par.miss = 0 ∧ t.par.peerRole = h.role ∧ t.sys.st = .standby)) ∧
  (∀ x h n s, Hears s x → s.sys.st = .active → h.role = 1 → s.par.claim < h.claim → Runs (.heartbeatReceived x h n) s (fun t =>
    t.sys.st = .standby ∧ t.sys.role = 2 ∧ t.par.claim = 0)) ∧
  (∀ x h n s, Hears s x → s.sys.st = .active → h.role = 1 → h.claim ≤ s.par.claim → s.active Ev.PAIR_SPLIT = false →
    s.evt.active.length < 255 → Runs (.heartbeatReceived x h n) s (fun t => t.sys.st = .active ∧ t.active Ev.PAIR_SPLIT = true)) ∧
  (∀ x h n e u d w rs a b es cm c k ok i sl q s, s.pairLive = false ∨ s.laneLock x.lane = false →
    Runs (.heartbeatReceived x h n) s (fun t => t = s.reach n) ∧ Runs (.pairHello x e u d) s (fun t => t = s) ∧
    Runs (.relinquishReceived x w) s (fun t => t = s) ∧ Runs (.mirror x rs a b) s (fun t => t = s) ∧
    Runs (.keyent x es) s (fun t => t = s) ∧ Runs (.campaignFrame x cm) s (fun t => t = s) ∧ Runs (.keyReq x c) s (fun t => t = s) ∧
    Runs (.keyXfer x k ok) s (fun t => t = s) ∧ Runs (.bulkSlice x i sl) s (fun t => t = s) ∧
    Runs (.bulkDone x q) s (fun t => t = s) ∧ Runs (.resyncReq x) s (fun t => t = s)) ∧
  (∀ x h n e u d w rs a b es cm c k ok i sl q s, s.pairLive = true → s.laneLock x.lane = true →
    x.crcOk = false ∨ (x.sealed_ = true ∧ x.tagOk = false) →
    Runs (.heartbeatReceived x h n) s (fun t => t = (s.reach n).cntW (R.PAR_CNT_k + 24)) ∧
    Runs (.pairHello x e u d) s (fun t => t = s.cntW (R.PAR_CNT_k + 24)) ∧
    Runs (.relinquishReceived x w) s (fun t => t = s.cntW (R.PAR_CNT_k + 24)) ∧
    Runs (.mirror x rs a b) s (fun t => t = s.cntW (R.PAR_CNT_k + 24)) ∧ Runs (.keyent x es) s (fun t => t = s.cntW (R.PAR_CNT_k + 24)) ∧
    Runs (.campaignFrame x cm) s (fun t => t = s.cntW (R.PAR_CNT_k + 24)) ∧
    Runs (.keyReq x c) s (fun t => t = s.cntW (R.PAR_CNT_k + 24)) ∧ Runs (.keyXfer x k ok) s (fun t => t = s.cntW (R.PAR_CNT_k + 24)) ∧
    Runs (.bulkSlice x i sl) s (fun t => t = s.cntW (R.PAR_CNT_k + 24)) ∧
    Runs (.bulkDone x q) s (fun t => t = s.cntW (R.PAR_CNT_k + 24)) ∧ Runs (.resyncReq x) s (fun t => t = s.cntW (R.PAR_CNT_k + 24))) ∧
  (∀ x rs a b es cm c k ok i sl q s, Hears s x → x.fseq ≠ s.par.fack + 1 →
    Runs (.mirror x rs a b) s (fun t => t = (s.takeFack x.fack).beat) ∧ Runs (.keyent x es) s (fun t => t = (s.takeFack x.fack).beat) ∧
    Runs (.campaignFrame x cm) s (fun t => t = (s.takeFack x.fack).beat) ∧ Runs (.keyReq x c) s (fun t => t = (s.takeFack x.fack).beat) ∧
    Runs (.keyXfer x k ok) s (fun t => t = (s.takeFack x.fack).beat) ∧
    Runs (.bulkSlice x i sl) s (fun t => t = (s.takeFack x.fack).beat) ∧
    Runs (.bulkDone x q) s (fun t => t = (s.takeFack x.fack).beat) ∧ Runs (.resyncReq x) s (fun t => t = (s.takeFack x.fack).beat)) ∧
  (∀ n s, s.pairLive = true → s.sys.st = .active → s.par.miss = 2 → s.par.hbAt + msCounts 31 ≤ n → Runs (.heartbeatMiss n) s (fun t =>
    t.par.heard = false ∧ t.par.miss = 3 ∧ t.par.peerHello = none ∧ t.par.peerRole = 0 ∧ t.par.peerClaim = 0 ∧
    t.par.helloSent = false ∧ t.par.serving = none ∧ t.par.peerSync = (if s.par.peerSync = .live then .stale else .none_) ∧
    t.par.ring = (if s.par.peerSync = .live then s.par.ring else []) ∧
    (s.evt.active.length < 256 → t.active Ev.PAIR_LINK_LOST = true))) ∧
  (∀ n s, s.pairLive = true → s.sys.st ≠ .active → s.par.miss = 2 → s.par.hbAt + msCounts 31 ≤ n → Runs (.heartbeatMiss n) s (fun t =>
    t.par.heard = false ∧ t.par.miss = 3 ∧ t.par.peerHello = none ∧ t.par.peerRole = 0 ∧ t.par.peerClaim = 0 ∧
    t.sys.st = s.sys.st ∧ (s.par.wire ≠ 0 → s.par.wire ≠ s.par.claim → s.sys.st = .standby → s.par.sync = .live →
      t.par.sync = .stale))) ∧
  (∀ n s, s.pairLive = true → s.par.miss < 2 → s.par.hbAt + msCounts (10 * (s.par.miss + 1) + 1) ≤ n → Runs (.heartbeatMiss n) s (fun t =>
    t.par.miss = s.par.miss + 1 ∧ t.par.heard = s.par.heard)) ∧
  (∀ n s, s.pairLive = false ∨ 3 ≤ s.par.miss ∨ max s.tim.cnt n < s.par.hbAt + msCounts (10 * (s.par.miss + 1) + 1) →
    Runs (.heartbeatMiss n) s (fun t => t = s.reach n)) ∧
  (∀ x e u d s, Hears s x → Runs (.pairHello x e u d) s (fun t => t.par.peerHello = some (e, d) ∧ t.par.fack = 0 ∧
    t.par.helloSent = true)) ∧
  (∀ x e u d im s, Hears s x → s.sys.image = some im → e ≠ im.peerEui ∨ d ≠ im.peerDigest → Runs (.pairHello x e u d) s (fun t =>
    t.par.mismatch = true ∧ (s.evt.active.length < 256 → t.active Ev.PAIR_MISMATCH = true))) ∧
  (∀ s, s.pairLive = true → s.pairUp = true → Runs .pairRetransmit s (fun t => t.par = s.par ∧
    t.out = s.out ++ (s.par.unacked.take pairWindow).map (fun f => .pair s.pairLane (s.pairFrame f.fseq f.body)))) ∧
  (∀ s, s.pairLive = false ∨ s.pairUp = false → Runs .pairRetransmit s (fun t => t = s)) ∧
  (∀ l s, l < 2 → s.pairLive = true → s.laneLock l = true → s.active Ev.PAIR_LANE_DOWN = false → Runs (.pairLaneDown l) s (fun t =>
    t.laneLock l = false ∧ t.laneLock (1 - l) = s.laneLock (1 - l) ∧ s.evt.seq < t.evt.seq)) ∧
  (∀ l s, s.pairLive = false ∨ 2 ≤ l ∨ s.laneLock l = false → Runs (.pairLaneDown l) s (fun t => t = s)) ∧
  (∀ l s, l < 2 → s.pairLive = true → s.laneLock l = false → Runs (.pairLaneUp l) s (fun t =>
    t.laneLock l = true ∧ t.laneLock (1 - l) = s.laneLock (1 - l) ∧ (s.pairUp = false → t.par.helloSent = true))) ∧
  (∀ l s, s.pairLive = false ∨ 2 ≤ l ∨ s.laneLock l = true → Runs (.pairLaneUp l) s (fun t => t = s)) ∧
  (∀ r s, Permits s r (0x800000 + R.PAR_CTRL) → s.sys.st = .standby → Runs (.parResync r) s (fun t =>
    t.par.sync = (if s.ownHeld then .held else .none_) ∧ t.par.staged = [] ∧ t.par.stagedRecs = [])) ∧
  (∀ r s, Permits s r (0x800000 + R.PAR_CTRL) → s.sys.st ≠ .standby → Runs (.parResync r) s (fun t =>
    t.par = s.par ∧ t.sys = s.sys)) ∧
  (∀ r s, Permits s r (0x800000 + R.PAR_CTRL) → s.sys.st = .active → s.par.peerSync = .live → Runs (.parRelinquish r) s (fun t =>
    t.sys.st = .standby ∧ t.sys.role = 2 ∧ t.par.claim = 0)) ∧
  (∀ r s, Permits s r (0x800000 + R.PAR_CTRL) → s.sys.st ≠ .active → Runs (.parRelinquish r) s (fun t =>
    t = s.answered r (some .notActive) 0)) ∧
  (∀ r s, Permits s r (0x800000 + R.PAR_CTRL) → s.sys.st = .active → s.par.peerSync ≠ .live → Runs (.parRelinquish r) s (fun t =>
    t = s.answered r (some .busy) 0))

/-- R165, R522, R601, R675, R686, R694 to R703, R706, R707, R709, R711: claim rounds, and what the standby and the active unit take from
reliable frames; a record or a campaign in parts is taken once every part has arrived.
Where the spec is silent, clauses rest on the model's choices: log entries 130, 131, 134, 135, 136. -/
def Obligations.ClaimsAndMirroring : Prop :=
  (∀ n w l s, s.inRounds = false → Runs (.claimRound n w l) s (fun t => t = s.reach n)) ∧
  (∀ n s, s.sys.pairEn = true → s.sys.st = .start → s.sys.phase = 10 → s.par.claim ≠ 0 → 1 ≤ s.par.won →
    Runs (.claimRound n (some s.par.claim) false) s (fun t => t.sys.role = 1 ∧ t.sys.phase = 11 ∧ t.par.claim = s.par.claim)) ∧
  (∀ n s, s.sys.pairEn = true → s.sys.st = .start → s.sys.phase = 10 → s.par.claim ≠ 0 → s.par.won = 0 →
    Runs (.claimRound n (some s.par.claim) false) s (fun t => t.sys.role = s.sys.role ∧ t.sys.phase = 10 ∧ t.par.won = 1 ∧
      t.sys.peerSeen = true)) ∧
  (∀ n w l s, s.sys.pairEn = true → s.sys.st = .start → 10 ≤ s.sys.phase → s.par.claim ≠ 0 → w ≠ s.par.claim →
    Runs (.claimRound n (some w) l) s (fun t => t.sys.role = 2 ∧ t.sys.phase = max 11 s.sys.phase ∧ t.par.claim = 0)) ∧
  (∀ n s, s.sys.pairEn = true → s.sys.st = .standby → s.par.claim = 0 → s.par.heard = true → s.par.relinquished = true →
    s.clk.irc = false → Runs (.claimRound n (some 0) false) s (fun t =>
      t.par.claim = min 0xFFFFFE (s.par.epoch + 1) * 256 + s.rank ∧ t.par.relinquished = false ∧ t.sys.st = .standby)) ∧
  (∀ n s, s.sys.pairEn = true → s.sys.st = .standby → s.par.claim ≠ 0 → 1 ≤ s.par.won →
    Runs (.claimRound n (some s.par.claim) false) s (fun t => t.sys.st = .active ∧ t.sys.role = 1 ∧ t.sys.heddle = true ∧
      t.par.claim = s.par.claim)) ∧
  (∀ n w l s, s.sys.pairEn = true → s.sys.st = .standby → s.par.claim ≠ 0 → w ≠ s.par.claim → s.par.heard = true →
    s.par.relinquished = false → w ≠ 0 → Runs (.claimRound n (some w) l) s (fun t => t.sys.st = .standby ∧ t.par.claim = 0)) ∧
  (∀ n s, s.sys.pairEn = true → s.sys.st = .active → s.par.claim ≠ 0 → 1 ≤ s.par.won →
    Runs (.claimRound n (some s.par.claim) false) s (fun t => t.sys.st = .active ∧ t.sys.heddle = true ∧
      t.par.claim = s.par.claim)) ∧
  (∀ n w l s, s.sys.pairEn = true → s.sys.st = .active → s.par.claim ≠ 0 → w ≠ some s.par.claim → s.par.relinquished = false →
    s.par.heard = true → s.par.afterFault = false → w ≠ some 0xFFFFFFFF → l = false → s.par.differ < 9 →
    Runs (.claimRound n w l) s (fun t => t.sys.st = .standby ∧ t.sys.role = 2 ∧ t.par.claim = 0 ∧ t.sys.heddle = false)) ∧
  (∀ n s, s.sys.pairEn = true → s.sys.st = .standby → s.par.claim = 0 → s.par.heard = true → s.par.relinquished = false →
    Runs (.claimRound n none false) s (fun t => t.par.absent = s.par.absent + 1 ∧ t.par.won = 0 ∧ t.sys = s.sys)) ∧
  (∀ n w s, s.sys.pairEn = true → s.sys.st = .standby → s.par.claim = 0 → s.par.heard = true → s.par.relinquished = false → w ≠ 0 →
    w ≠ 0xFFFFFFFF → Runs (.claimRound n (some w) false) s (fun t => t.par.wire = w ∧ t.par.absent = 0 ∧ t.par.won = 0 ∧
      t.par.claim = 0 ∧ t.par.epoch = max s.par.epoch (min 0xFFFFFE (w / 256)) ∧ t.sys = s.sys)) ∧
  (∀ n w l s, s.sys.pairEn = true → s.sys.st = .standby → s.par.claim = 0 → l = true ∨ w = some 0xFFFFFFFF →
    Runs (.claimRound n w l) s (fun t => t.par.busFault = true ∧
      (s.evt.active.length < 255 → t.active Ev.CLAIM_BUS_FAULT = true))) ∧
  (∀ n s, s.sys.pairEn = true → s.sys.st = .standby → s.par.claim = 0 → s.par.heard = true → s.par.peerClaim = 0 →
    s.par.busFault = true → 9 ≤ s.par.clearRounds → Runs (.claimRound n (some 0) false) s (fun t =>
      t.par.busFault = false ∧ ¬ Lasts t Ev.CLAIM_BUS_FAULT)) ∧
  (∀ x w s, Hears s x → s.sys.st = .standby → Runs (.relinquishReceived x w) s (fun t =>
    t.par.relinquished = true ∧ t.par.absent = 0)) ∧
  (∀ x w s, Hears s x → s.sys.st ≠ .standby → Runs (.relinquishReceived x w) s (fun t => t = s.takeFack x.fack)) ∧
  (∀ x a b r ch k n g fl v f w m s, Delivers s x → s.sys.st = .standby → s.par.sync = .live → s.par.mjseq < r.jseq → r.post = [] → x.part = .whole →
    r.body = .reading ch k n g fl v f w m → ((s.lch ch).hasBase = true → (s.lch ch).lastIdx < k) → Runs (.mirror x [r] a b) s (fun t =>
      t.par.mjseq = r.jseq ∧ t.par.fack = x.fseq ∧ s.slv.jseq < t.slv.jseq ∧ k ≤ (t.wch ch).lastIdx)) ∧
  (∀ x a b r ch k n g fl v f w m s, Delivers s x → s.sys.st = .standby → s.par.sync = .live → s.par.mjseq < r.jseq → s.ownHeld = false → x.part = .whole →
    r.body = .reading ch k n g fl v f w m → (s.lch ch).hasBase = true → k ≤ (s.lch ch).lastIdx → s.active Ev.PAIR_DIVERGED = false →
    Runs (.mirror x [r] a b) s (fun t => t.par.sync = .none_ ∧ t.slv = s.slv ∧ s.evt.seq < t.evt.seq)) ∧
  (∀ x a b r s, Delivers s x → s.sys.st = .standby → s.par.sync = .live → r.jseq ≤ s.par.mjseq → Runs (.mirror x [r] a b) s (fun t =>
    t.slv = s.slv ∧ t.par.mjseq = s.par.mjseq)) ∧
  (∀ x a b r s, Delivers s x → s.sys.st = .standby → s.par.sync = .keys ∨ s.par.sync = .bulk → x.part = .whole →
    Runs (.mirror x [r] a b) s (fun t => t.slv = s.slv ∧ t.par.sync = .bulk ∧ t.par.stagedRecs = s.par.stagedRecs ++ [r])) ∧
  (∀ x a b rs s, Delivers s x → x.part.no + 1 < x.part.of_ → Runs (.mirror x rs a b) s (fun t => t.slv = s.slv ∧
    t.par.mjseq = s.par.mjseq ∧ t.par.stagedRecs = s.par.stagedRecs ∧
    (x.part.no = 0 ∨ x.part.no = s.par.mirrorParts → t.par.mirrorParts = x.part.no + 1))) ∧
  (∀ x a b rs s, Delivers s x → s.sys.st ≠ .standby ∨ s.par.sync = .none_ ∨ s.par.sync = .held → Runs (.mirror x rs a b) s (fun t =>
    t.slv = s.slv ∧ t.par.fack = x.fseq ∧ t.par.mjseq = s.par.mjseq)) ∧
  (∀ x e k s, Delivers s x → s.sys.st = .standby → s.par.sync ≠ .none_ → Runs (.keyent x [(e, k)]) s (fun t => t.keyOf e = k)) ∧
  (∀ x es s, Delivers s x → s.sys.st ≠ .standby ∨ s.par.sync = .none_ → Runs (.keyent x es) s (fun t => t.key = s.key ∧
    t.par.fack = x.fseq)) ∧
  (∀ x c s, Delivers s x → s.sys.st = .standby → s.sysWrites = true → x.part = .whole → Runs (.campaignFrame x c) s (fun t =>
    t.nand.campaign = some c)) ∧
  (∀ x c s, Delivers s x → x.part.no + 1 < x.part.of_ → Runs (.campaignFrame x c) s (fun t => t.nand = s.nand ∧ t.par.fack = x.fseq)) ∧
  (∀ x c s, Delivers s x → s.sys.st ≠ .standby ∨ s.sysWrites = false → Runs (.campaignFrame x c) s (fun t => t.nand = s.nand ∧
    t.par.fack = x.fseq)) ∧
  (∀ x k s, Delivers s x → s.sys.st = .active → s.par.mismatch = false → s.key.trngOk = true → s.key.pkwk = some k →
    Runs (.keyReq x true) s (fun t => t.par.serving = some (0, 0) ∧ t.par.ring = [] ∧ ∃ f ∈ t.par.unacked, f.body = .keyXfer k)) ∧
  (∀ x s, Delivers s x → s.sys.st = .active → s.par.mismatch = false → Runs (.keyReq x false) s (fun t =>
    t.par.pairKeyFail = true ∧ t.par.serving = s.par.serving)) ∧
  (∀ x c s, Delivers s x → s.sys.st ≠ .active ∨ s.par.mismatch = true → Runs (.keyReq x c) s (fun t =>
    t.par.serving = s.par.serving ∧ t.par.unacked = s.par.unacked ∧ t.par.fack = x.fseq)) ∧
  (∀ x k s, Delivers s x → s.sys.st = .standby → s.ownHeld = false → Runs (.keyXfer x k true) s (fun t =>
    t.key.pkwk = some { k with received := true } ∧ t.key.table = [] ∧ t.par.sync = .keys)) ∧
  (∀ x k s, Delivers s x → s.sys.st = .standby → s.ownHeld = false → Runs (.keyXfer x k false) s (fun t =>
    t.par.pairKeyFail = true ∧ t.key = s.key)) ∧
  (∀ x k c s, Delivers s x → s.sys.st ≠ .standby ∨ s.ownHeld = true → Runs (.keyXfer x k c) s (fun t => t.key = s.key ∧
    t.par.sync = s.par.sync ∧ t.par.fack = x.fseq)) ∧
  (∀ x i c s, Delivers s x → s.sys.st = .standby → s.par.sync = .keys ∨ s.par.sync = .bulk → Runs (.bulkSlice x i c) s (fun t =>
    t.par.sync = .bulk ∧ (i, c) ∈ t.par.staged)) ∧
  (∀ x i c s, Delivers s x → s.sys.st ≠ .standby ∨ (s.par.sync ≠ .keys ∧ s.par.sync ≠ .bulk) → Runs (.bulkSlice x i c) s (fun t =>
    t.par.sync = s.par.sync ∧ t.par.staged = s.par.staged ∧ t.par.fack = x.fseq)) ∧
  (∀ x q s, Delivers s x → s.sys.st = .standby → s.par.sync = .bulk → s.par.staged.length = 1024 → nbit s.slv.causes 4 = false →
    nbit s.slv.causes 5 = false → Runs (.bulkDone x q) s (fun t => t.par.sync = .live ∧ t.par.staged = [] ∧ q ≤ t.par.mjseq)) ∧
  (∀ x q s, Delivers s x → s.sys.st ≠ .standby ∨ s.par.sync ≠ .bulk ∨ s.par.staged.length ≠ 1024 → Runs (.bulkDone x q) s (fun t =>
    t.par.sync = s.par.sync ∧ t.slv = s.slv ∧ t.par.fack = x.fseq)) ∧
  (∀ x s, Delivers s x → s.sys.st = .active → Runs (.resyncReq x) s (fun t =>
    t.par.peerSync = .none_ ∧ t.par.serving = none ∧ t.par.ring = [])) ∧
  (∀ x s, Delivers s x → s.sys.st ≠ .active → Runs (.resyncReq x) s (fun t =>
    t.par.peerSync = s.par.peerSync ∧ t.par.serving = s.par.serving ∧ t.par.fack = x.fseq))

/-- R9, R10, R11, R13, R14, R753: register writes. A refused write changes nothing and is answered with the status of R753, to a core
with a bus error; a part that does not answer changes nothing; a write of a stored field sets the bits writable through the view and
no others; a higher-order word is held and takes effect with the lowest-order word.
Where the spec is silent, clauses rest on the model's choices: log entries 13, 25, 148. -/
def Obligations.RegisterWrites : Prop :=
  (∀ r a b v st s, accessCheck s r true a b = some st → st ≠ .ok → (∀ c, r ≠ .core c) → Runs (.registerWrite r a b v) s (fun t =>
    t = s.emit (.access r st 0))) ∧
  (∀ c a b v st s, accessCheck s (.core c) true a b = some st → st ≠ .ok → Runs (.registerWrite (.core c) a b v) s (fun t =>
    t = s.emit (.busError c))) ∧
  (∀ r a b v s, accessCheck s r true a b = none → Runs (.registerWrite r a b v) s (fun t => t = s)) ∧
  (∀ r a v s, Permits s r a → PlainReg (sView a) → Runs (.registerWrite r a 4 v) s (fun t =>
    t = (s.setReg (sView a) (mergeWrite (s.rg (sView a)) v (writeMask a))).answered r (some .ok) 0)) ∧
  (∀ old v m i, i < 32 → (mergeWrite old v m).getLsbD i = if m.testBit i then v.getLsbD i else old.getLsbD i) ∧
  (∀ r a v d s, Permits s r a → findReg (sView a) = some d → 0 < d.pos → blockOf a ≠ 0x11 → Runs (.registerWrite r a 4 v) s (fun t =>
    t.regs = s.regs ∧ Store.get (fun _ => none) t.heldW (heldKey r a) = some v)) ∧
  (∀ r b v s, Permits s r (0x800000 + b) → b = R.WRP_CMD_TOT_0 ∨ b = R.WRP_CMD_TOTR_0 →
    Runs (.registerWrite r (0x800000 + b) 4 v) s (fun t => t.rg b = v ∧ t.rg (b + 4) = s.heldOr r (b + 4) (s.rg (b + 4)) ∧
      Store.get (fun _ => none) t.heldW (heldKey r (b + 4)) = none ∧ ∀ sv, sv ≠ b → sv ≠ b + 4 → t.rg sv = s.rg sv))

/-- R9 to R11, R14, R753: register reads. A refused read has no effect and is answered with the status of R753, to a core with a bus
error; the word read is answered, and the lowest-order word of a wide value captures the others, which later reads of them return.
Where the spec is silent, clauses rest on the model's choices: log entries 13, 16, 17, 18, 19, 20, 21, 22. -/
def Obligations.RegisterReads : Prop :=
  (∀ r a b st s, accessCheck s r false a b = some st → st ≠ .ok → (∀ c, r ≠ .core c) → Runs (.wideValueLowWordRead r a b) s (fun t =>
    t = s.emit (.access r st 0))) ∧
  (∀ c a b st s, accessCheck s (.core c) false a b = some st → st ≠ .ok → Runs (.wideValueLowWordRead (.core c) a b) s (fun t =>
    t = s.emit (.busError c))) ∧
  (∀ r a b s, accessCheck s r false a b = none → Runs (.wideValueLowWordRead r a b) s (fun t => t = s)) ∧
  (∀ r a d s, accessCheck s r false a 4 = some .ok → findReg (sView a) = some d → d.len = 1 → s.cardHidden r (sView a) = false →
    sView a ≠ R.GLB_PINSTAT → sView a ≠ R.HST_EVQ_NEXT → Runs (.wideValueLowWordRead r a 4) s (fun t =>
      t = s.answered r (some .ok) (s.readNow r (sView a)))) ∧
  (∀ r a d s, accessCheck s r false a 4 = some .ok → findReg (sView a) = some d → 1 < d.len → d.pos = 0 →
    s.cardHidden r (sView a) = false → Runs (.wideValueLowWordRead r a 4) s (fun t =>
      t.out = s.out ++ [.access r .ok (s.readNow r (sView a))] ∧
      (∀ i, 0 < i → i < d.len → Store.get (fun _ => none) t.snap (heldKey r (sView a + 4 * i)) =
        some (s.readNow r (sView a + 4 * i))) ∧ t.regs = s.regs ∧ t.heldW = s.heldW)) ∧
  (∀ r a d w s, accessCheck s r false a 4 = some .ok → findReg (sView a) = some d → 1 < d.len → 0 < d.pos →
    s.cardHidden r (sView a) = false → Store.get (fun _ => none) s.snap (heldKey r a) = some w →
    Runs (.wideValueLowWordRead r a 4) s (fun t => t = s.answered r (some .ok) w)) ∧
  (∀ j k a s, accessCheck s (.slot j k) false a 4 = some .ok → s.cardHidden (.slot j k) (sView a) = true →
    Runs (.wideValueLowWordRead (.slot j k) a 4) s (fun t => t = s.emit (.access (.slot j k) .denied 0)))

/-- R631 to R633: register operations of a datagram. A request in its turn is performed operation by operation, in order, each with a
result of its own; a repeated one is answered as before and performs nothing; a malformed or stale one is answered BAD_REQUEST;
one in a datagram that is not accepted is not answered.
Where the spec is silent, clauses rest on the model's choices: log entries 26, 27. -/
def Obligations.RegisterRequests : Prop :=
  (∀ d x q a v s, Asks s d x q [⟨true, a, v⟩] → Permits s (s.requester d.part d.slot) a → PlainReg (sView a) →
    Runs (.regReq d q [⟨true, a, v⟩]) s (fun t => RegsAnswered d q [(.ok, 0)] t ∧
      t.rg (sView a) = mergeWrite (s.rg (sView a)) v (writeMask a))) ∧
  (∀ d x q a v st s, Asks s d x q [⟨true, a, v⟩] → accessCheck s (s.requester d.part d.slot) true a 4 = some st → st ≠ .ok →
    Runs (.regReq d q [⟨true, a, v⟩]) s (fun t => RegsAnswered d q [(st, 0)] t ∧ ∀ sv, PlainReg sv → t.rg sv = s.rg sv)) ∧
  (∀ d x q a v p s, Asks s d x q [⟨true, a, v⟩, ⟨false, a, 0⟩] → p < 64 → sView a = R.TIM_FP_LAT_p + 4 * p →
    Permits s (s.requester d.part d.slot) a → accessCheck s (s.requester d.part d.slot) false a 4 = some .ok →
    Runs (.regReq d q [⟨true, a, v⟩, ⟨false, a, 0⟩]) s (fun t =>
      RegsAnswered d q [(.ok, 0), (.ok, mergeWrite (s.rg (sView a)) v (writeMask a))] t)) ∧
  (∀ d x q ops rs s, Admits s d x → x.kept.find? (fun y => y.1 = q) = some (q, .regs rs) → Runs (.regReq d q ops) s (fun t =>
    RegsAnswered d q rs t ∧ ∀ sv, PlainReg sv → t.rg sv = s.rg sv)) ∧
  (∀ d x q ops s, Admits s d x → x.kept.find? (fun y => y.1 = q) = none → ops.length = 0 ∨ 127 < ops.length ∨ (∃ h, x.reqHigh = some h ∧
    q ≤ h) → Runs (.regReq d q ops) s (fun t => RegsAnswered d q (ops.map (fun _ => (.badRequest, 0))) t ∧
      ∀ sv, PlainReg sv → t.rg sv = s.rg sv)) ∧
  (∀ d q ops s, Drops s d → Runs (.regReq d q ops) s (fun t => t.out = s.out ∧ ∀ sv, PlainReg sv → t.rg sv = s.rg sv))

/-- The model's step (no rule of the spec): the command at the front of the queue is executed with the queue's rest; on an empty queue the
block idles (DESIGN CHOICE, log entry 1); no word spells a command, since the table gives no row bits. -/
def Obligations.StepRunsTheFrontCommand : Prop :=
  (∀ c cs s, s.pending = c :: cs → step s = exec c { s with pending := cs }) ∧
  (∀ s, s.pending = [] → step s = .next s) ∧
  (∀ n w (s : State), decodeTableWord n w = none ∧ s.withFetchWord n w = s)

/-- Every command completes: the spec leaves no command of the table without an effect, so none faults and none is refused.
Where the spec is silent, clauses rest on the model's choices: log entry 3. -/
def Obligations.EveryCommandCompletes : Prop := ∀ c s, ∃ t, exec c s = .next t

/-- R6, R62, R139, R141: reset. The part is in START at phase 0 with RSTOUT_N low, the gates closed, AON alone running, the root clock the
IRC, every register at its reset value, and every queue and table empty.
Where the spec is silent, clauses rest on the model's choices: log entries 11, 12, 29. -/
def Obligations.ResetState : Prop :=
  State.reset.sys.st = .start ∧ State.reset.sys.phase = 0 ∧ State.reset.sys.heddle = false ∧ State.reset.sys.rstout = true ∧
  State.reset.pending = [] ∧ State.reset.clk.irc = true ∧ (State.reset.isl 0).en = true ∧
  (∀ i, 0 < i → (State.reset.isl i).en = false) ∧ (∀ a, State.reset.rg a = regReset a) ∧ (∀ p, State.reset.port p = Port.blank) ∧
  (∀ j k, State.reset.session j k = none) ∧ State.reset.evt.active = [] ∧ State.reset.evt.seq = 0 ∧ State.reset.net.nbrs = [] ∧
  (∀ e, State.reset.keyOf e = KeyEntry.blank) ∧ State.reset.slv.causes = 0 ∧ (∀ p, (State.reset.part p).evq = [])

/-- The well-formedness invariant of Safety.lean holds at reset.
Where the spec is silent, clauses rest on the model's choices: log entry 11. -/
def Obligations.InvAtReset : Prop := Machine.Inv State.reset

/-- R525, R645, R721 and the model's canonical forms: every step keeps the well-formedness invariant. Registers and ports stay in
canonical form, the active table keeps its order and its 256 entries, no event queue exceeds 4,096 records, and OTP holds at most 32
seal entries.
Where the spec is silent, clauses rest on the model's choices: log entries 13, 15. -/
def Obligations.StepKeepsInv : Prop := ∀ s t, Machine.Inv s → step s = .next t → Machine.Inv t

/-- R39, R133, R525, R590: no step takes anything back that OTP holds: seal entries stay, a Temple ratchet never falls, and every other
word stays as it was programmed.
Where the spec is silent, clauses rest on the model's choices: log entry 140. -/
def Obligations.OtpOnlyGains : Prop := ∀ s t, step s = .next t → OtpGrows s.otp t.otp

/-- The frame of every command: no command changes a group of the state outside its row of Safety.lean's table. In particular no command
touches the queue, and only the rows that program OTP, NOR or NAND touch these.
Where the spec is silent, clauses rest on the model's choices: log entry 14. -/
def Obligations.FrameOfEveryCommand : Prop :=
  (∀ c s t, exec c s = .next t → Only (touches c) s t) ∧
  (∀ c s t, exec c s = .next t → t.pending = s.pending)

/-- R40: "The SLV island is never gated in the run state. A request to gate it is refused with status DENIED." The invariant that says so holds
at reset, every step keeps it, and a request to gate the island is answered DENIED and changes nothing. -/
def Obligations.SlvIslandNeverGated : Prop :=
  SlvClocked State.reset ∧
  (∀ s t, SlvClocked s → step s = .next t → SlvClocked t) ∧
  (∀ r s, Permits s r (0x800000 + R.CKV_ISL_EN) → (s.isl 17).en = true →
    Runs (.islandClose r 17) s (fun t => t = s.answered r (some .denied) 0)) ∧
  (∀ r v s, Permits s r (0x800000 + R.CKV_ISL_EN) → (s.isl 17).en = true → bit v 17 = false →
    Runs (.registerWrite r (0x800000 + R.CKV_ISL_EN) 4 v) s (fun t => t.clk = s.clk ∧
      t.out = s.out ++ [.access r .denied 0]))

/-- R44, R65, R71: the Heddle gate is open only while the unit is ACTIVE. That holds at reset and every step keeps it; with the gate closed
an output that is in use is at its inactive state.
Where the spec is silent, clauses rest on the model's choices: log entries 137, 147. -/
def Obligations.GateOpenOnlyWhileActive : Prop :=
  State.reset.sys.heddle = false ∧
  (∀ s t, (s.sys.heddle = true → s.sys.st = .active) → step s = .next t → t.sys.heddle = true → t.sys.st = .active) ∧
  (∀ (n : Nat) (c : OutCfg) (s : State), s.outCfg n = some c → c.mode ≠ .unused → s.sys.heddle = false → s.running = true ∨ s.sys.outsOff = true →
    s.legalPad n = c.inactive)

/-- R753: when an access meets several refusing conditions, the first of the table's order decides.
Where the spec is silent, clauses rest on the model's choices: log entries 25, 28. -/
def Obligations.FirstRefusingCondition : Prop :=
  (∀ s r w a, stateAnswer s r w a = none ∨ stateAnswer s r w a = some .ok ∨ stateAnswer s r w a = some .notReady) ∧
  (∀ s r w a b, stateAnswer s r w a = none → accessCheck s r w a b = none) ∧
  (∀ s r w a b, stateAnswer s r w a ≠ none → b ≠ 4 ∨ a % 4 ≠ 0 → accessCheck s r w a b = some .align) ∧
  (∀ s r w a, stateAnswer s r w a = some .notReady → a % 4 = 0 → accessCheck s r w a 4 = some .notReady) ∧
  (∀ s r w a, stateAnswer s r w a = some .ok → a % 4 = 0 → 0x800000 ≤ a → privileged s r = false →
    accessCheck s r w a 4 = some .denied) ∧
  (∀ s r w a, stateAnswer s r w a = some .ok → a % 4 = 0 → (0x800000 ≤ a → privileged s r = true) → regDefined s (sView a) = false →
    accessCheck s r w a 4 = some .unmapped) ∧
  (∀ s r w a d, stateAnswer s r w a = some .ok → a % 4 = 0 → a < 0x800000 → regDefined s a = true → findReg a = some d →
    d.pOnly = true → accessCheck s r w a 4 = some .denied) ∧
  (∀ s r w a d, stateAnswer s r w a = some .ok → a % 4 = 0 → (0x800000 ≤ a → privileged s r = true) →
    regDefined s (sView a) = true → findReg (sView a) = some d → (a < 0x800000 → d.pOnly = false) → regGated s (sView a) = true →
    accessCheck s r w a 4 = some .gated) ∧
  (∀ s r a d, stateAnswer s r true a = some .ok → a % 4 = 0 → (0x800000 ≤ a → privileged s r = true) →
    regDefined s (sView a) = true → findReg (sView a) = some d → (a < 0x800000 → d.pOnly = false) → regGated s (sView a) = false →
    writeMask a = 0 → accessCheck s r true a 4 = some .denied) ∧
  (∀ s r a, accessCheck s r true a 4 = some .ok → writeMask a ≠ 0)

/-- R9: "A read that completes with any status other than success has no side effect, even on an RS field." For single reads and for the
reads of a REG_REQ. -/
def Obligations.RefusedReadHasNoEffect : Prop :=
  (∀ r a b s x st v, s.tryRead r a b = (x, some st, v) → st ≠ .ok → x = s ∧
    Runs (.wideValueLowWordRead r a b) s (fun t => t = s.answered r (some st) v)) ∧
  (∀ (o : RegOp) r (s : State) x st v, o.write = false → s.regOp r o = (x, st, v) → st ≠ .ok → x = s)

/-- R14: "When a read through the S-view reaches a register that exists only in the P-view, the read completes with status DENIED. It never
returns zero." A read reaches the register when nothing earlier in the order of R753 refuses it. -/
def Obligations.SharedViewHidesPrivilegedRegisters : Prop :=
  ∀ r a d s, stateAnswer s r false a = some .ok → a % 4 = 0 → a < 0x800000 → regDefined s a = true → findReg a = some d →
    d.pOnly = true → (∀ c, r ≠ .core c) → Runs (.wideValueLowWordRead r a 4) s (fun t => t = s.emit (.access r .denied 0) ∧
      ∀ v, .access r .ok v ∈ t.out → .access r .ok v ∈ s.out)

/-- R3: "An access to a register that is not exactly 32 bits wide and 32-bit aligned is refused with status ALIGN. It has no effect." A part
that answers nothing, as in reset, answers no such access either; a refused access of a core is a bus error (R11, R409). -/
def Obligations.AccessesAreAlignedWords : Prop :=
  (∀ r a b v s, stateAnswer s r true a ≠ none → b ≠ 4 ∨ a % 4 ≠ 0 → Runs (.registerWrite r a b v) s (fun t =>
    t = s.answered r (some .align) 0)) ∧
  (∀ r a b s, stateAnswer s r false a ≠ none → b ≠ 4 ∨ a % 4 ≠ 0 → Runs (.wideValueLowWordRead r a b) s (fun t =>
    t = s.answered r (some .align) 0)) ∧
  (∀ (o : RegOp) r (s : State), stateAnswer s r o.write o.addr ≠ none → o.addr % 4 ≠ 0 → s.regOp r o = (s, .align, 0))

/-- R12: "The P-view address of a register is its S-view address plus 0x80_0000. S-view addresses run from 0x00_0000 to 0x7F_FFFF, and P-view
addresses from 0x80_0000 to 0xFF_FFFF." -/
def Obligations.TwoViewsOfOneRegister : Prop :=
  (∀ a, a < 0x800000 → sView a = a ∧ sView (a + 0x800000) = a) ∧
  (∀ a d, findReg (sView a) = some d → a < 0x1000000) ∧
  (∀ r a s, a < 0x800000 → accessCheck s r false a 4 = some .ok → accessCheck s r false (a + 0x800000) 4 = some .ok →
    (s.tryRead r a 4).2 = (s.tryRead r (a + 0x800000) 4).2)

/-- R35, R36, R407 to R409, R417, R536, R560, R562, R603, R724: who reaches a guarded region of DRAM and the legal partition. A region takes
the writes of its owner; any other is discarded, and counted or, for the legal regions, raised as a FAULT event; the legal regions and the
key table are read by nobody else, and a core that tries takes a bus error. A core sees its own writes, which DRAM shows before a post and
which SHT_DISPATCH rereads from DRAM. No row of the command table is a core's load or store: these are the operations that such an access
is.
Where the spec is silent, clauses rest on the model's choices: log entry 145. -/
def Obligations.GuardedRegions : Prop :=
  (∀ w a v (s : State), s.dramWrite w a v = s.writeIn (s.regionAt a) w a v ∧ s.dramRead w a = s.readIn (s.regionAt a) w a) ∧
  (∀ g w a v (s : State), g.mine w = true → (s.writeIn g w a v).dramByte a = v % 256 ∧
    (∀ b, b ≠ a → (s.writeIn g w a v).dramByte b = s.dramByte b) ∧ (s.writeIn g w a v).evt = s.evt ∧ (s.writeIn g w a v).regs = s.regs) ∧
  (∀ g w a v (s : State), g.mine w = false → (∀ b, (s.writeIn g w a v).dramByte b = s.dramByte b) ∧
    (g.legal = true → s.evt.active = [] → s.evt.seq < (s.writeIn g w a v).evt.seq)) ∧
  (∀ g w a v c (s : State), g.mine w = false → g.legal = false → g.counter = some c → s.writeIn g w a v = s.cntS c) ∧
  (∀ g i a (s : State), g.legal = true → i ≠ 17 → s.readIn g (.island i) a = none) ∧
  (∀ i a (s : State), i ≠ 20 → s.readIn .keyTable (.island i) a = none) ∧
  (∀ g c a (s : State), g.shut = true → s.readIn g (.core c) a = none ∧ s.readIn g .supervisor a = none) ∧
  (∀ c a (s : State), s.dramRead (.core c) a ≠ none ∨ ∀ d, s.windowRead c d a = (s.emit (.busError c), .busError)) ∧
  (∀ g w a (s : State), g.shut = false → s.readIn g w a = some (s.dramByte a)) ∧
  (∀ (s : State), s.partWrite .journal = s ∧ (∀ c, s.partWrite (.core c) = s.emit (.busError c)) ∧
    (∀ r, s.partWrite (.host r) = s.emit (.access r .denied 0)) ∧ s.partWrite .internal = s.cntS (R.BEM_CNT_k + 4 * 10)) ∧
  (∀ c (s : State), ((s.coreVisible c).coreMem c).wbuf = []) ∧
  (∀ c a v (s : State), s.sys.placed = false → (s.coreMem c).wbuf = [(a, v)] → (s.coreVisible c).dramByte a = v % 256) ∧
  (∀ c a v (s : State), (s.coreMem c).wbuf = [(a, v)] →
    s.coreVisible c = (s.setCoreMem c { s.coreMem c with wbuf := [] }).dramWrite (.core c) a v) ∧
  (∀ c (s : State), ((s.coreInvalidate c).coreMem c).dcache = []) ∧
  (∀ c a d (s : State), ((s.coreMem c).dcache) = [] → (s.coreMem c).wbuf = [] → s.dramRead (.core c) a = some d →
    (s.windowRead c true a).2 = .byte d) ∧
  (∀ c a v d (s : State), newest (s.coreMem c).wbuf a = some v → s.dramRead (.core c) a = some d →
    s.windowRead c true a = (s, .byte v))

/-- R44, R48, R50, R51, R69, R71: the states of the balls. With the gate closed TXEN and the legal outputs are at their inactive state; with
it open TXEN is active while the port transmits; a port that the image does not enable leaves its outputs in high impedance and its inputs
pulled down; in reset, flush and on the internal reference clock the balls are as R71 gives them.
Where the spec is silent, clauses rest on the model's choices: log entries 54, 137, 147, 149. -/
def Obligations.BallsFollowTheGate : Prop :=
  (∀ p (s : State), s.running = true → s.sys.heddle = false → s.portListed p = true → s.ball (.fpTxen p) = (s.txenInactive p).ball ∧
    s.ball (.fpSck p) = .hiZ ∧ s.ball (.fpSdo p) = .hiZ ∧ s.ball (.fpFs p) = .hiZ ∧ s.ball (.fpSdi p) = .ignored ∧
    s.ball (.fpAux p) = .ignored) ∧
  (∀ p (s : State), s.running = true → s.sys.heddle = true → s.portListed p = true →
    s.ball (.fpTxen p) = (if s.transmits p then .high else .low) ∧ s.ball (.fpSdi p) = .input ∧ s.ball (.fpAux p) = .input) ∧
  (∀ p (s : State), s.inReset = false → s.portListed p = false → s.ball (.fpSck p) = .hiZ ∧ s.ball (.fpSdo p) = .hiZ ∧
    s.ball (.fpFs p) = .hiZ ∧ s.ball (.fpTxen p) = .hiZ ∧
    (s.inFlush = false → s.ball (.fpSdi p) = .inputPullDown ∧ s.ball (.fpAux p) = .inputPullDown)) ∧
  (∀ p (s : State), s.inReset = true → s.ball (.fpSck p) = .pullDown ∧ s.ball (.fpSdo p) = .pullDown ∧ s.ball (.fpFs p) = .pullDown ∧
    s.ball (.fpTxen p) = .pullDown ∧ s.ball (.fpSdi p) = .inputPullDown ∧ s.ball (.fpAux p) = .inputPullDown) ∧
  (∀ p (s : State), s.inFlush = true → s.portListed p = true → s.ball (.fpTxen p) = (s.txenInactive p).ball ∧
    s.ball (.fpSck p) = .hiZ ∧ s.ball (.fpSdi p) = .ignored) ∧
  (∀ n (s : State), n < 8 → s.ball (.gpio n) = (s.legalPad n).ball) ∧
  (∀ (s : State), s.inReset = true ∨ s.inFlush = true → s.ball .dramResetCke = .low) ∧
  (∀ n (s : State), s.inReset = true → s.ball (.nandCe n) = .hiZ ∧ s.ball (.nandWp n) = .hiZ) ∧
  (∀ n (s : State), s.sys.st = .flushed → s.ball (.nandCe n) = .hiZ ∧ s.ball (.nandWp n) = .low) ∧
  (∀ e (s : State), s.inReset = true ∨ s.inFlush = true ∨ s.clk.irc = true → s.ball (.hostTx e) = .electricalIdle ∧
    s.ball (.plTx e) = .electricalIdle) ∧
  (∀ e (s : State), s.sys.pairEn = false → s.ball (.plTx e) = .electricalIdle ∧ s.ball .claimD = .released ∧
    s.ball .claimC = .released) ∧
  (∀ (s : State), s.sys.rstout = true → s.ball .rstoutN = .low) ∧
  (∀ p level (s : State), s.isRadio p = true → s.ball (.fpAux p) = .input → s.auxInterrupt p level = (level == s.auxActive p)) ∧
  (∀ p t (s : State), (s.port p).onAir = none → s.dac p t = 0 ∧ s.sdo p t = sdoWord 0 (s.port p).gain)
end

