-- ==== Sys2Proof/Laws/Store.lean ====
section
/-!
SUPPORT. Laws of the canonical stores: a read after a write, and that every operation keeps the canonical form.
-/

namespace Sys2Proof.Machine

variable {α : Type}

/-- The keys of the store all lie above `k`. -/
def Store.above (k : Nat) (m : Store α) : Prop := ∀ e ∈ m, k < e.1

theorem Store.sorted_cons (e : Nat × α) (m : Store α) :
    Store.sorted (e :: m) = true ↔ Store.above e.1 m ∧ Store.sorted m = true := by
  induction m generalizing e with
  | nil => simp [Store.sorted, Store.above]
  | cons x m ih =>
    obtain ⟨k, v⟩ := e
    obtain ⟨k', v'⟩ := x
    simp only [Store.sorted, Bool.and_eq_true, decide_eq_true_eq, ih, Store.above, List.mem_cons, forall_eq_or_imp]
    constructor
    · rintro ⟨h, h1, h2⟩
      exact ⟨⟨h, fun e he => Nat.lt_trans h (h1 e he)⟩, h1, h2⟩
    · rintro ⟨⟨h, _⟩, h1, h2⟩
      exact ⟨h, h1, h2⟩

theorem Store.get_above (d : Nat → α) (m : Store α) (k : Nat) (h : Store.above k m) : Store.get d m k = d k := by
  induction m with
  | nil => rfl
  | cons e m ih =>
    obtain ⟨k', v⟩ := e
    have h1 : k < k' := h (k', v) (by simp)
    simp [Store.get, Nat.ne_of_lt h1, ih (fun e he => h e (by simp [he]))]

theorem Store.mem_insert (m : Store α) (k : Nat) (v : α) (e : Nat × α) (h : e ∈ Store.insert m k v) : e = (k, v) ∨ e ∈ m := by
  induction m with
  | nil => simpa [Store.insert] using h
  | cons x m ih =>
    obtain ⟨k', v'⟩ := x
    simp only [Store.insert] at h
    split at h
    · simpa using h
    · split at h
      · rcases List.mem_cons.1 h with h | h
        · exact .inl h
        · exact .inr (by simp [h])
      · rcases List.mem_cons.1 h with h | h
        · exact .inr (by simp [h])
        · exact (ih h).imp id (fun h => by simp [h])

theorem Store.mem_erase (m : Store α) (k : Nat) (e : Nat × α) (h : e ∈ Store.erase m k) : e ∈ m := by
  induction m with
  | nil => simp [Store.erase] at h
  | cons x m ih =>
    obtain ⟨k', v'⟩ := x
    simp only [Store.erase] at h
    split at h
    · simp [ih h]
    · rcases List.mem_cons.1 h with h | h
      · simp [h]
      · simp [ih h]

theorem Store.sorted_insert (m : Store α) (k : Nat) (v : α) (h : Store.sorted m = true) :
    Store.sorted (Store.insert m k v) = true := by
  induction m with
  | nil => simp [Store.insert, Store.sorted]
  | cons x m ih =>
    obtain ⟨k', v'⟩ := x
    have hs := (Store.sorted_cons (k', v') m).1 h
    simp only [Store.insert]
    split
    · rename_i hk
      refine (Store.sorted_cons (k, v) _).2 ⟨fun e he => ?_, h⟩
      rcases List.mem_cons.1 he with he | he
      · simpa [he] using hk
      · exact Nat.lt_trans hk (hs.1 e he)
    · split
      · rename_i hk
        exact (Store.sorted_cons (k, v) _).2 ⟨fun e he => hk ▸ hs.1 e he, hs.2⟩
      · rename_i h1 h2
        refine (Store.sorted_cons (k', v') _).2 ⟨fun e he => ?_, ih hs.2⟩
        rcases Store.mem_insert m k v e he with he | he
        · subst he
          show k' < k
          omega
        · exact hs.1 e he

theorem Store.sorted_erase (m : Store α) (k : Nat) (h : Store.sorted m = true) : Store.sorted (Store.erase m k) = true := by
  induction m with
  | nil => rfl
  | cons x m ih =>
    obtain ⟨k', v'⟩ := x
    have hs := (Store.sorted_cons (k', v') m).1 h
    simp only [Store.erase]
    split
    · exact ih hs.2
    · exact (Store.sorted_cons (k', v') _).2 ⟨fun e he => hs.1 e (Store.mem_erase m k e he), ih hs.2⟩

theorem Store.sorted_filter (m : Store α) (p : Nat × α → Bool) (h : Store.sorted m = true) :
    Store.sorted (m.filter p) = true := by
  induction m with
  | nil => rfl
  | cons x m ih =>
    have hs := (Store.sorted_cons x m).1 h
    simp only [List.filter_cons]
    split
    · exact (Store.sorted_cons x _).2 ⟨fun e he => hs.1 e (List.mem_filter.1 he).1, ih hs.2⟩
    · exact ih hs.2

/-- A read after an insertion. -/
theorem Store.get_insert (d : Nat → α) (m : Store α) (k : Nat) (v : α) (j : Nat) :
    Store.get d (Store.insert m k v) j = if j = k then v else Store.get d m j := by
  induction m with
  | nil => simp [Store.insert, Store.get]
  | cons x m ih =>
    obtain ⟨k', v'⟩ := x
    simp only [Store.insert]
    split
    · simp [Store.get]
    · split
      · rename_i hk
        subst hk
        by_cases hj : j = k <;> simp [Store.get, hj]
      · rename_i h1 h2
        simp only [Store.get, ih]
        by_cases hj : j = k'
        · subst hj
          simp [Ne.symm h2]
        · simp [hj]

/-- A read after an erasure. -/
theorem Store.get_erase (d : Nat → α) (m : Store α) (k j : Nat) :
    Store.get d (Store.erase m k) j = if j = k then d k else Store.get d m j := by
  induction m with
  | nil => by_cases hj : j = k <;> simp [Store.erase, Store.get, hj]
  | cons x m ih =>
    obtain ⟨k', v'⟩ := x
    simp only [Store.erase]
    split
    · rename_i hk
      subst hk
      by_cases hj : j = k
      · subst hj
        simpa using ih
      · simp [Store.get, ih, hj]
    · rename_i hk
      simp only [Store.get, ih]
      by_cases hj : j = k'
      · subst hj
        simp [Ne.symm hk]
      · simp [hj]

variable [DecidableEq α]

theorem Store.sorted_of_wf {d : Nat → α} {m : Store α} (h : Store.wf d m = true) : Store.sorted m = true := by
  simp only [Store.wf, Bool.and_eq_true] at h
  exact h.1

theorem Store.wf_nil (d : Nat → α) : Store.wf d ([] : Store α) = true := rfl

/-- A read after a write: the key written reads the value, every other key as before. -/
theorem Store.get_put (d : Nat → α) (m : Store α) (k : Nat) (v : α) (j : Nat) :
    Store.get d (Store.put d m k v) j = if j = k then v else Store.get d m j := by
  unfold Store.put
  split
  · rename_i hv
    rw [Store.get_erase d m k j, hv]
  · exact Store.get_insert d m k v j

/-- The key written reads the value. -/
@[simp] theorem Store.get_put_self (d : Nat → α) (m : Store α) (k : Nat) (v : α) :
    Store.get d (Store.put d m k v) k = v := by
  simp [Store.get_put]

/-- Another key reads as before. -/
theorem Store.get_put_ne (d : Nat → α) (m : Store α) {k j : Nat} (v : α) (hj : j ≠ k) :
    Store.get d (Store.put d m k v) j = Store.get d m j := by
  simp [Store.get_put, hj]

/-- A write keeps the canonical form. -/
theorem Store.wf_put {d : Nat → α} {m : Store α} (h : Store.wf d m = true) (k : Nat) (v : α) :
    Store.wf d (Store.put d m k v) = true := by
  simp only [Store.wf, Bool.and_eq_true, List.all_eq_true] at h ⊢
  unfold Store.put
  split
  · exact ⟨Store.sorted_erase m k h.1, fun e he => h.2 e (Store.mem_erase m k e he)⟩
  · rename_i hv
    refine ⟨Store.sorted_insert m k v h.1, fun e he => ?_⟩
    rcases Store.mem_insert m k v e he with he | he
    · subst he
      simpa using hv
    · exact h.2 e he

/-- Leaving entries out keeps the canonical form. -/
theorem Store.wf_filter {d : Nat → α} {m : Store α} (h : Store.wf d m = true) (p : Nat × α → Bool) :
    Store.wf d (m.filter p) = true := by
  simp only [Store.wf, Bool.and_eq_true, List.all_eq_true] at h ⊢
  exact ⟨Store.sorted_filter m p h.1, fun e he => h.2 e (List.mem_filter.1 he).1⟩

theorem Store.mem_mapAll (d : Nat → α) (f : Nat → α → α) (m : Store α) (e : Nat × α) (h : e ∈ Store.mapAll d f m) :
    e.2 ≠ d e.1 ∧ ∃ v, (e.1, v) ∈ m := by
  induction m with
  | nil => simp [Store.mapAll] at h
  | cons x m ih =>
    obtain ⟨k', v'⟩ := x
    simp only [Store.mapAll] at h
    split at h
    · obtain ⟨h1, v, h2⟩ := ih h
      exact ⟨h1, v, by simp [h2]⟩
    · rename_i hv
      rcases List.mem_cons.1 h with h | h
      · subst h
        exact ⟨hv, v', by simp⟩
      · obtain ⟨h1, v, h2⟩ := ih h
        exact ⟨h1, v, by simp [h2]⟩

/-- A change of every listed value keeps the canonical form. -/
theorem Store.wf_mapAll {d : Nat → α} {m : Store α} (h : Store.wf d m = true) (f : Nat → α → α) :
    Store.wf d (Store.mapAll d f m) = true := by
  simp only [Store.wf, Bool.and_eq_true, List.all_eq_true] at h ⊢
  refine ⟨?_, fun e he => by simpa using (Store.mem_mapAll d f m e he).1⟩
  have hs := h.1
  clear h
  induction m with
  | nil => rfl
  | cons x m ih =>
    obtain ⟨k', v'⟩ := x
    have h := (Store.sorted_cons (k', v') m).1 hs
    simp only [Store.mapAll]
    split
    · exact ih h.2
    · refine (Store.sorted_cons _ _).2 ⟨fun e he => ?_, ih h.2⟩
      obtain ⟨_, v, hv⟩ := Store.mem_mapAll d f m e he
      exact h.1 (e.1, v) hv

/-- What a key reads after a change of every listed value. -/
theorem Store.get_mapAll {d : Nat → α} {m : Store α} (h : Store.wf d m = true) (f : Nat → α → α) (k : Nat)
    (hd : f k (d k) = d k) : Store.get d (Store.mapAll d f m) k = f k (Store.get d m k) := by
  have hs := Store.sorted_of_wf h
  clear h
  induction m with
  | nil => simp [Store.mapAll, Store.get, hd]
  | cons x m ih =>
    obtain ⟨k', v'⟩ := x
    have h := (Store.sorted_cons (k', v') m).1 hs
    simp only [Store.mapAll, Store.get]
    by_cases hk : k = k'
    · subst hk
      split
      · rename_i hv
        have : Store.get d (Store.mapAll d f m) k = d k := by
          apply Store.get_above
          intro e he
          obtain ⟨_, v, hv⟩ := Store.mem_mapAll d f m e he
          exact h.1 (e.1, v) hv
        simp [this, hv]
      · simp [Store.get]
    · split
      · simpa [hk] using ih h.2
      · simpa [Store.get, hk] using ih h.2

end Sys2Proof.Machine
end

