-- ==== Sys2Proof/Laws/Moves.lean ====
section
/-!
SUPPORT. How far an operation can change the state: the groups it may touch, with what every operation keeps (`Inv`) and what the
OTP may gain. Each shared operation has one lemma of this form, which cites those of the operations it calls.
-/

namespace Sys2Proof.Machine
open Sys2Proof

/-- From `s` to `t` at most the groups `fs` change, `Inv` is kept, and the OTP only gains. -/
structure Moves (fs : List Field) (s t : State) : Prop where
  only : Only fs s t
  inv : Inv s → Inv t
  gains : OtpGrows s.otp t.otp

theorem OtpGrows.refl (o : Otp) : OtpGrows o o := ⟨rfl, List.prefix_rfl, fun _ => Nat.le_refl _⟩

theorem OtpGrows.trans {o p q : Otp} (h : OtpGrows o p) (k : OtpGrows p q) : OtpGrows o q := by
  refine ⟨?_, h.seals.trans k.seals, fun i => Nat.le_trans (h.ratchet i) (k.ratchet i)⟩
  have h1 := k.rest
  rw [h.rest] at h1
  simpa using h1

theorem Same.refl (f : Field) (s : State) : Same f s s := by
  cases f <;> first | rfl | exact fun _ _ => rfl

theorem Same.trans {f : Field} {s t u : State} (h : Same f s t) (k : Same f t u) : Same f s u := by
  cases f <;> first | exact Eq.trans k h | exact fun a ha => (k a ha).trans (h a ha)

theorem Moves.refl (fs : List Field) (s : State) : Moves fs s s :=
  ⟨fun f _ => Same.refl f s, id, OtpGrows.refl _⟩

theorem Moves.trans {fs : List Field} {s t u : State} (h : Moves fs s t) (k : Moves fs t u) : Moves fs s u :=
  ⟨fun f hf => (h.only f hf).trans (k.only f hf), fun i => k.inv (h.inv i), h.gains.trans k.gains⟩

/-- The groups may be named more generously. -/
theorem Moves.mono {gs fs : List Field} {s t : State} (h : Moves gs s t) (hs : gs.all (fun g => fs.contains g) = true) :
    Moves fs s t :=
  ⟨fun f hf => h.only f (fun hg => hf (by simpa using List.all_eq_true.1 hs f hg)), h.inv, h.gains⟩

/-- Groups among groups. -/
theorem sub_of {fs gs hs : List Field} (h : gs.all (fun g => hs.contains g) = true) (k : fs.all (fun g => gs.contains g) = true) :
    fs.all (fun g => hs.contains g) = true := by
  simp only [List.all_eq_true, List.contains_iff_mem] at *
  exact fun x hx => h x (k x hx)

/-- One more operation, which touches groups among `fs`. -/
theorem Moves.step {gs fs : List Field} {s t u : State} (k : Moves gs t u) (hs : gs.all (fun g => fs.contains g) = true)
    (h : Moves fs s t) : Moves fs s u :=
  h.trans (k.mono hs)

theorem Moves.ite {fs : List Field} {s t u : State} {c : Prop} [Decidable c] (h : c → Moves fs s t) (k : ¬c → Moves fs s u) :
    Moves fs s (if c then t else u) := by
  split
  · exact h ‹_›
  · exact k ‹_›

theorem Moves.ite_fst {α : Type} {fs : List Field} {s : State} {t u : State × α} {c : Prop} [Decidable c]
    (h : c → Moves fs s t.1) (k : ¬c → Moves fs s u.1) : Moves fs s (if c then t else u).1 := by
  split
  · exact h ‹_›
  · exact k ‹_›

/-- A run of operations over a list. -/
theorem Moves.foldl {α : Type} {fs : List Field} {s t : State} (f : State → α → State) (l : List α)
    (hf : ∀ (u : State) (a : α), Moves fs u (f u a)) (h : Moves fs s t) : Moves fs s (l.foldl f t) := by
  induction l generalizing t with
  | nil => exact h
  | cons a l ih => exact ih (h.trans (hf t a))

/-- A run of operations that collects something beside the state. -/
theorem Moves.foldl_fst {α β : Type} {fs : List Field} {s : State} {t : State × β} (f : State × β → α → State × β) (l : List α)
    (hf : ∀ (u : State × β) (a : α), Moves fs u.1 (f u a).1) (h : Moves fs s t.1) : Moves fs s (l.foldl f t).1 := by
  induction l generalizing t with
  | nil => exact h
  | cons a l ih => exact ih (h.trans (hf t a))

/-- A direct update of the state `x`. -/
theorem Moves.upd {fs : List Field} {s x : State} {v2 : Store Word} {v3 v4 : Store (Option Word)} {v5 : Sys} {v6 : Clk}
    {v7 : Temple} {v8 : Tim} {v9 : Store Port} {v10 : Net} {v11 : Msn} {v12 : Sht} {v13 : Wrp} {v14 : Pen} {v15 : Slv} {v16 : Bal} {v17 : Bem}
    {v18 : Key} {v19 : Hst} {v20 : Par} {v21 : Evt} {v22 : Otp} {v23 : Nor} {v24 : Nand} {v25 : Nat} {v26 : List Out}
    (ho : Only fs x (State.mk x.pending v2 v3 v4 v5 v6 v7 v8 v9 v10 v11 v12 v13 v14 v15 v16 v17 v18 v19 v20 v21 v22 v23 v24 v25 v26))
    (hr : Store.wf regReset x.regs = true → Store.wf regReset v2 = true)
    (hp : Store.wf (fun _ => Port.blank) x.ports = true → Store.wf (fun _ => Port.blank) v9 = true)
    (he : ActOk x.evt.active → ActOk v21.active)
    (hq : QueuesOk x.hst.parts → QueuesOk v19.parts)
    (hs : OtpGrows x.otp v22 ∧ (x.otp.seals.length ≤ 32 → v22.seals.length ≤ 32))
    (h : Moves fs s x) :
    Moves fs s (State.mk x.pending v2 v3 v4 v5 v6 v7 v8 v9 v10 v11 v12 v13 v14 v15 v16 v17 v18 v19 v20 v21 v22 v23 v24 v25 v26) :=
  h.trans ⟨ho, fun i => ⟨hr i.regs, hp i.ports, he i.active, hq i.queues, hs.2 i.seals⟩, hs.1⟩

/-- The registers keep their canonical form. -/
theorem wf_regPut {m : Store Word} (h : Store.wf regReset m = true) (a : Nat) (w : Word) : Store.wf regReset (regPut m a w) = true :=
  Store.wf_put h a w

/-- A register written reads the value, every other register as before. -/
theorem get_regPut (m : Store Word) (a : Nat) (w : Word) (j : Nat) :
    Store.get regReset (regPut m a w) j = if j = a then w else Store.get regReset m j :=
  Store.get_put ..

/-- A register of another block reads as before. -/
theorem blk_regPut {fs : List Field} {m : Store Word} {k : Nat} (w : Word) (b : Fin 20) (hk : k / 0x10000 = b.val) (hs : Field.blk b ∈ fs)
    (c : Fin 20) (hc : Field.blk c ∉ fs) (a : Nat) (ha : a / 0x10000 = c.val) :
    Store.get regReset (regPut m k w) a = Store.get regReset m a := by
  rw [get_regPut]
  split
  · rename_i h
    subst h
    have : b = c := Fin.ext (hk.symm.trans ha)
    exact absurd (this ▸ hs) hc
  · rfl

theorem wf_regBumpW {m : Store Word} (h : Store.wf regReset m = true) (a n : Nat) : Store.wf regReset (regBumpW m a n) = true :=
  Store.wf_put h a _

theorem wf_regBumpS {m : Store Word} (h : Store.wf regReset m = true) (a n : Nat) : Store.wf regReset (regBumpS m a n) = true :=
  Store.wf_put h a _

/-- A partition's queue in a sound store. -/
theorem QueuesOk.get {m : Store Part} (h : QueuesOk m) (j : Nat) : (Store.get (fun _ => Part.blank) m j).evq.length ≤ 4096 := by
  induction m with
  | nil => exact Nat.zero_le _
  | cons x m ih =>
    obtain ⟨k, v⟩ := x
    simp only [Store.get]
    split
    · exact h (k, v) List.mem_cons_self
    · exact ih (fun e he => h e (List.mem_cons_of_mem _ he))

theorem QueuesOk.put {m : Store Part} (h : QueuesOk m) (j : Nat) {x : Part} (hx : x.evq.length ≤ 4096) :
    QueuesOk (Store.put (fun _ => Part.blank) m j x) := by
  unfold Store.put
  split
  · exact fun e he => h e (Store.mem_erase m j e he)
  · intro e he
    rcases Store.mem_insert m j x e he with he | he
    · exact he ▸ hx
    · exact h e he

theorem QueuesOk.mapAll {m : Store Part} (h : QueuesOk m) (f : Nat → Part → Part)
    (hf : ∀ k v, (f k v).evq.length ≤ v.evq.length) : QueuesOk (Store.mapAll (fun _ => Part.blank) f m) := by
  induction m with
  | nil => exact h
  | cons x m ih =>
    obtain ⟨k, v⟩ := x
    have hm : QueuesOk m := fun e he => h e (List.mem_cons_of_mem _ he)
    simp only [Store.mapAll]
    split
    · exact ih hm
    · intro e he
      rcases List.mem_cons.1 he with he | he
      · exact he ▸ Nat.le_trans (hf k v) (h (k, v) List.mem_cons_self)
      · exact ih hm e he

/-- However a command ends, it has changed at most the groups `fs`. -/
def Ends (fs : List Field) (s : State) (o : Host.Outcome State Fault Refusal) : Prop := ∀ t, o = .next t → Moves fs s t

theorem Ends.next {fs : List Field} {s t : State} (h : Moves fs s t) : Ends fs s (.next t) := by
  intro u hu
  cases hu
  exact h

theorem Ends.ite {fs : List Field} {s : State} {o p : Host.Outcome State Fault Refusal} {c : Prop} [Decidable c]
    (h : c → Ends fs s o) (k : ¬c → Ends fs s p) : Ends fs s (if c then o else p) := by
  split
  · exact h ‹_›
  · exact k ‹_›

theorem OtpGrows.same {o : Otp} : OtpGrows o o ∧ (o.seals.length ≤ 32 → o.seals.length ≤ 32) := ⟨OtpGrows.refl o, id⟩

/-! A group outside those an operation may touch is as before. -/

theorem Moves.pending {fs : List Field} {s t : State} (h : Moves fs s t) (hf : Field.pending ∉ fs := by decide) : t.pending = s.pending := h.only _ hf

theorem Moves.regs {fs : List Field} {s t : State} (h : Moves fs s t) (hf : Field.regs ∉ fs := by decide) : t.regs = s.regs := h.only _ hf

theorem Moves.snap {fs : List Field} {s t : State} (h : Moves fs s t) (hf : Field.snap ∉ fs := by decide) : t.snap = s.snap := h.only _ hf

theorem Moves.heldW {fs : List Field} {s t : State} (h : Moves fs s t) (hf : Field.heldW ∉ fs := by decide) : t.heldW = s.heldW := h.only _ hf

theorem Moves.sys {fs : List Field} {s t : State} (h : Moves fs s t) (hf : Field.sys ∉ fs := by decide) : t.sys = s.sys := h.only _ hf

theorem Moves.clk {fs : List Field} {s t : State} (h : Moves fs s t) (hf : Field.clk ∉ fs := by decide) : t.clk = s.clk := h.only _ hf

theorem Moves.tmp {fs : List Field} {s t : State} (h : Moves fs s t) (hf : Field.tmp ∉ fs := by decide) : t.tmp = s.tmp := h.only _ hf

theorem Moves.tim {fs : List Field} {s t : State} (h : Moves fs s t) (hf : Field.tim ∉ fs := by decide) : t.tim = s.tim := h.only _ hf

theorem Moves.ports {fs : List Field} {s t : State} (h : Moves fs s t) (hf : Field.ports ∉ fs := by decide) : t.ports = s.ports := h.only _ hf

theorem Moves.net {fs : List Field} {s t : State} (h : Moves fs s t) (hf : Field.net ∉ fs := by decide) : t.net = s.net := h.only _ hf

theorem Moves.msn {fs : List Field} {s t : State} (h : Moves fs s t) (hf : Field.msn ∉ fs := by decide) : t.msn = s.msn := h.only _ hf

theorem Moves.sht {fs : List Field} {s t : State} (h : Moves fs s t) (hf : Field.sht ∉ fs := by decide) : t.sht = s.sht := h.only _ hf

theorem Moves.wrp {fs : List Field} {s t : State} (h : Moves fs s t) (hf : Field.wrp ∉ fs := by decide) : t.wrp = s.wrp := h.only _ hf

theorem Moves.pen {fs : List Field} {s t : State} (h : Moves fs s t) (hf : Field.pen ∉ fs := by decide) : t.pen = s.pen := h.only _ hf

theorem Moves.slv {fs : List Field} {s t : State} (h : Moves fs s t) (hf : Field.slv ∉ fs := by decide) : t.slv = s.slv := h.only _ hf

theorem Moves.bal {fs : List Field} {s t : State} (h : Moves fs s t) (hf : Field.bal ∉ fs := by decide) : t.bal = s.bal := h.only _ hf

theorem Moves.bem {fs : List Field} {s t : State} (h : Moves fs s t) (hf : Field.bem ∉ fs := by decide) : t.bem = s.bem := h.only _ hf

theorem Moves.key {fs : List Field} {s t : State} (h : Moves fs s t) (hf : Field.key ∉ fs := by decide) : t.key = s.key := h.only _ hf

theorem Moves.hst {fs : List Field} {s t : State} (h : Moves fs s t) (hf : Field.hst ∉ fs := by decide) : t.hst = s.hst := h.only _ hf

theorem Moves.par {fs : List Field} {s t : State} (h : Moves fs s t) (hf : Field.par ∉ fs := by decide) : t.par = s.par := h.only _ hf

theorem Moves.evt {fs : List Field} {s t : State} (h : Moves fs s t) (hf : Field.evt ∉ fs := by decide) : t.evt = s.evt := h.only _ hf

theorem Moves.otp {fs : List Field} {s t : State} (h : Moves fs s t) (hf : Field.otp ∉ fs := by decide) : t.otp = s.otp := h.only _ hf

theorem Moves.nor {fs : List Field} {s t : State} (h : Moves fs s t) (hf : Field.nor ∉ fs := by decide) : t.nor = s.nor := h.only _ hf

theorem Moves.nand {fs : List Field} {s t : State} (h : Moves fs s t) (hf : Field.nand ∉ fs := by decide) : t.nand = s.nand := h.only _ hf

theorem Moves.fresh {fs : List Field} {s t : State} (h : Moves fs s t) (hf : Field.fresh ∉ fs := by decide) : t.fresh = s.fresh := h.only _ hf

theorem Moves.out {fs : List Field} {s t : State} (h : Moves fs s t) (hf : Field.out ∉ fs := by decide) : t.out = s.out := h.only _ hf

end Sys2Proof.Machine
end

