-- ==== Sys2Proof/Laws/Updates.lean ====
section
/-!
SUPPORT. How far a direct update of some groups of the state moves it, for each combination of groups the operations update
together.
-/

namespace Sys2Proof.Machine
open Sys2Proof

/-- An update of the groups `gs`: the blocks of registers apart. -/
theorem Only.upd {gs fs : List Field} {s t : State} (hs : gs.all (fun g => fs.contains g) = true)
    (hb : ∀ b, Field.blk b ∉ fs → ∀ a, a / 0x10000 = b.val → t.rg a = s.rg a)
    (h : ∀ f, (∀ b, f ≠ .blk b) → f ∉ gs → Same f s t) : Only fs s t := by
  intro f hf
  by_cases hk : ∃ b, f = .blk b
  · obtain ⟨b, rfl⟩ := hk
    exact hb b hf
  · exact h f (fun b hb => hk ⟨b, hb⟩) (fun hg => hf (by simpa using List.all_eq_true.1 hs f hg))

/-- One group that changes is among the groups named. -/
theorem Only.of {gs fs : List Field} {s t : State} (hs : gs.all (fun g => fs.contains g) = true) (h : Only gs s t) : Only fs s t :=
  fun f hf => h f (fun hg => hf (by simpa using List.all_eq_true.1 hs f hg))

theorem Moves.upd_regs {fs : List Field} {s x : State} {regs : Store Word}
    (hs : ([.regs] : List Field).all (fun g => fs.contains g) = true) (hb : ∀ b, Field.blk b ∉ fs → ∀ a, a / 0x10000 = b.val → Store.get regReset regs a = Store.get regReset x.regs a) (hr : Store.wf regReset x.regs = true → Store.wf regReset regs = true)
    (h : Moves fs s x) :
    Moves fs s (State.mk x.pending regs x.snap x.heldW x.sys x.clk x.tmp x.tim x.ports x.net x.msn x.sht x.wrp x.pen x.slv x.bal x.bem x.key x.hst x.par x.evt x.otp x.nor x.nand x.fresh x.out) :=
  Moves.upd (Only.upd hs (hb) (fun f hb hf => by cases f <;> first | exact (hf (by decide)).elim | rfl | exact (hb _ rfl).elim))
    hr id id id OtpGrows.same h

theorem Moves.upd_snap {fs : List Field} {s x : State} {snap : Store (Option Word)}
    (hs : ([.snap] : List Field).all (fun g => fs.contains g) = true) 
    (h : Moves fs s x) :
    Moves fs s (State.mk x.pending x.regs snap x.heldW x.sys x.clk x.tmp x.tim x.ports x.net x.msn x.sht x.wrp x.pen x.slv x.bal x.bem x.key x.hst x.par x.evt x.otp x.nor x.nand x.fresh x.out) :=
  Moves.upd (Only.upd hs (fun _ _ _ _ => rfl) (fun f hb hf => by cases f <;> first | exact (hf (by decide)).elim | rfl | exact (hb _ rfl).elim))
    id id id id OtpGrows.same h

theorem Moves.upd_heldW {fs : List Field} {s x : State} {heldW : Store (Option Word)}
    (hs : ([.heldW] : List Field).all (fun g => fs.contains g) = true) 
    (h : Moves fs s x) :
    Moves fs s (State.mk x.pending x.regs x.snap heldW x.sys x.clk x.tmp x.tim x.ports x.net x.msn x.sht x.wrp x.pen x.slv x.bal x.bem x.key x.hst x.par x.evt x.otp x.nor x.nand x.fresh x.out) :=
  Moves.upd (Only.upd hs (fun _ _ _ _ => rfl) (fun f hb hf => by cases f <;> first | exact (hf (by decide)).elim | rfl | exact (hb _ rfl).elim))
    id id id id OtpGrows.same h

theorem Moves.upd_sys {fs : List Field} {s x : State} {sys : Sys}
    (hs : ([.sys] : List Field).all (fun g => fs.contains g) = true) 
    (h : Moves fs s x) :
    Moves fs s (State.mk x.pending x.regs x.snap x.heldW sys x.clk x.tmp x.tim x.ports x.net x.msn x.sht x.wrp x.pen x.slv x.bal x.bem x.key x.hst x.par x.evt x.otp x.nor x.nand x.fresh x.out) :=
  Moves.upd (Only.upd hs (fun _ _ _ _ => rfl) (fun f hb hf => by cases f <;> first | exact (hf (by decide)).elim | rfl | exact (hb _ rfl).elim))
    id id id id OtpGrows.same h

theorem Moves.upd_clk {fs : List Field} {s x : State} {clk : Clk}
    (hs : ([.clk] : List Field).all (fun g => fs.contains g) = true) 
    (h : Moves fs s x) :
    Moves fs s (State.mk x.pending x.regs x.snap x.heldW x.sys clk x.tmp x.tim x.ports x.net x.msn x.sht x.wrp x.pen x.slv x.bal x.bem x.key x.hst x.par x.evt x.otp x.nor x.nand x.fresh x.out) :=
  Moves.upd (Only.upd hs (fun _ _ _ _ => rfl) (fun f hb hf => by cases f <;> first | exact (hf (by decide)).elim | rfl | exact (hb _ rfl).elim))
    id id id id OtpGrows.same h

theorem Moves.upd_tmp {fs : List Field} {s x : State} {tmp : Temple}
    (hs : ([.tmp] : List Field).all (fun g => fs.contains g) = true) 
    (h : Moves fs s x) :
    Moves fs s (State.mk x.pending x.regs x.snap x.heldW x.sys x.clk tmp x.tim x.ports x.net x.msn x.sht x.wrp x.pen x.slv x.bal x.bem x.key x.hst x.par x.evt x.otp x.nor x.nand x.fresh x.out) :=
  Moves.upd (Only.upd hs (fun _ _ _ _ => rfl) (fun f hb hf => by cases f <;> first | exact (hf (by decide)).elim | rfl | exact (hb _ rfl).elim))
    id id id id OtpGrows.same h

theorem Moves.upd_tim {fs : List Field} {s x : State} {tim : Tim}
    (hs : ([.tim] : List Field).all (fun g => fs.contains g) = true) 
    (h : Moves fs s x) :
    Moves fs s (State.mk x.pending x.regs x.snap x.heldW x.sys x.clk x.tmp tim x.ports x.net x.msn x.sht x.wrp x.pen x.slv x.bal x.bem x.key x.hst x.par x.evt x.otp x.nor x.nand x.fresh x.out) :=
  Moves.upd (Only.upd hs (fun _ _ _ _ => rfl) (fun f hb hf => by cases f <;> first | exact (hf (by decide)).elim | rfl | exact (hb _ rfl).elim))
    id id id id OtpGrows.same h

theorem Moves.upd_ports {fs : List Field} {s x : State} {ports : Store Port}
    (hs : ([.ports] : List Field).all (fun g => fs.contains g) = true) (hp : Store.wf (fun _ => Port.blank) x.ports = true → Store.wf (fun _ => Port.blank) ports = true)
    (h : Moves fs s x) :
    Moves fs s (State.mk x.pending x.regs x.snap x.heldW x.sys x.clk x.tmp x.tim ports x.net x.msn x.sht x.wrp x.pen x.slv x.bal x.bem x.key x.hst x.par x.evt x.otp x.nor x.nand x.fresh x.out) :=
  Moves.upd (Only.upd hs (fun _ _ _ _ => rfl) (fun f hb hf => by cases f <;> first | exact (hf (by decide)).elim | rfl | exact (hb _ rfl).elim))
    id hp id id OtpGrows.same h

theorem Moves.upd_net {fs : List Field} {s x : State} {net : Net}
    (hs : ([.net] : List Field).all (fun g => fs.contains g) = true) 
    (h : Moves fs s x) :
    Moves fs s (State.mk x.pending x.regs x.snap x.heldW x.sys x.clk x.tmp x.tim x.ports net x.msn x.sht x.wrp x.pen x.slv x.bal x.bem x.key x.hst x.par x.evt x.otp x.nor x.nand x.fresh x.out) :=
  Moves.upd (Only.upd hs (fun _ _ _ _ => rfl) (fun f hb hf => by cases f <;> first | exact (hf (by decide)).elim | rfl | exact (hb _ rfl).elim))
    id id id id OtpGrows.same h

theorem Moves.upd_msn {fs : List Field} {s x : State} {msn : Msn}
    (hs : ([.msn] : List Field).all (fun g => fs.contains g) = true) 
    (h : Moves fs s x) :
    Moves fs s (State.mk x.pending x.regs x.snap x.heldW x.sys x.clk x.tmp x.tim x.ports x.net msn x.sht x.wrp x.pen x.slv x.bal x.bem x.key x.hst x.par x.evt x.otp x.nor x.nand x.fresh x.out) :=
  Moves.upd (Only.upd hs (fun _ _ _ _ => rfl) (fun f hb hf => by cases f <;> first | exact (hf (by decide)).elim | rfl | exact (hb _ rfl).elim))
    id id id id OtpGrows.same h

theorem Moves.upd_sht {fs : List Field} {s x : State} {sht : Sht}
    (hs : ([.sht] : List Field).all (fun g => fs.contains g) = true) 
    (h : Moves fs s x) :
    Moves fs s (State.mk x.pending x.regs x.snap x.heldW x.sys x.clk x.tmp x.tim x.ports x.net x.msn sht x.wrp x.pen x.slv x.bal x.bem x.key x.hst x.par x.evt x.otp x.nor x.nand x.fresh x.out) :=
  Moves.upd (Only.upd hs (fun _ _ _ _ => rfl) (fun f hb hf => by cases f <;> first | exact (hf (by decide)).elim | rfl | exact (hb _ rfl).elim))
    id id id id OtpGrows.same h

theorem Moves.upd_wrp {fs : List Field} {s x : State} {wrp : Wrp}
    (hs : ([.wrp] : List Field).all (fun g => fs.contains g) = true) 
    (h : Moves fs s x) :
    Moves fs s (State.mk x.pending x.regs x.snap x.heldW x.sys x.clk x.tmp x.tim x.ports x.net x.msn x.sht wrp x.pen x.slv x.bal x.bem x.key x.hst x.par x.evt x.otp x.nor x.nand x.fresh x.out) :=
  Moves.upd (Only.upd hs (fun _ _ _ _ => rfl) (fun f hb hf => by cases f <;> first | exact (hf (by decide)).elim | rfl | exact (hb _ rfl).elim))
    id id id id OtpGrows.same h

theorem Moves.upd_pen {fs : List Field} {s x : State} {pen : Pen}
    (hs : ([.pen] : List Field).all (fun g => fs.contains g) = true) 
    (h : Moves fs s x) :
    Moves fs s (State.mk x.pending x.regs x.snap x.heldW x.sys x.clk x.tmp x.tim x.ports x.net x.msn x.sht x.wrp pen x.slv x.bal x.bem x.key x.hst x.par x.evt x.otp x.nor x.nand x.fresh x.out) :=
  Moves.upd (Only.upd hs (fun _ _ _ _ => rfl) (fun f hb hf => by cases f <;> first | exact (hf (by decide)).elim | rfl | exact (hb _ rfl).elim))
    id id id id OtpGrows.same h

theorem Moves.upd_slv {fs : List Field} {s x : State} {slv : Slv}
    (hs : ([.slv] : List Field).all (fun g => fs.contains g) = true) 
    (h : Moves fs s x) :
    Moves fs s (State.mk x.pending x.regs x.snap x.heldW x.sys x.clk x.tmp x.tim x.ports x.net x.msn x.sht x.wrp x.pen slv x.bal x.bem x.key x.hst x.par x.evt x.otp x.nor x.nand x.fresh x.out) :=
  Moves.upd (Only.upd hs (fun _ _ _ _ => rfl) (fun f hb hf => by cases f <;> first | exact (hf (by decide)).elim | rfl | exact (hb _ rfl).elim))
    id id id id OtpGrows.same h

theorem Moves.upd_bal {fs : List Field} {s x : State} {bal : Bal}
    (hs : ([.bal] : List Field).all (fun g => fs.contains g) = true) 
    (h : Moves fs s x) :
    Moves fs s (State.mk x.pending x.regs x.snap x.heldW x.sys x.clk x.tmp x.tim x.ports x.net x.msn x.sht x.wrp x.pen x.slv bal x.bem x.key x.hst x.par x.evt x.otp x.nor x.nand x.fresh x.out) :=
  Moves.upd (Only.upd hs (fun _ _ _ _ => rfl) (fun f hb hf => by cases f <;> first | exact (hf (by decide)).elim | rfl | exact (hb _ rfl).elim))
    id id id id OtpGrows.same h

theorem Moves.upd_bem {fs : List Field} {s x : State} {bem : Bem}
    (hs : ([.bem] : List Field).all (fun g => fs.contains g) = true) 
    (h : Moves fs s x) :
    Moves fs s (State.mk x.pending x.regs x.snap x.heldW x.sys x.clk x.tmp x.tim x.ports x.net x.msn x.sht x.wrp x.pen x.slv x.bal bem x.key x.hst x.par x.evt x.otp x.nor x.nand x.fresh x.out) :=
  Moves.upd (Only.upd hs (fun _ _ _ _ => rfl) (fun f hb hf => by cases f <;> first | exact (hf (by decide)).elim | rfl | exact (hb _ rfl).elim))
    id id id id OtpGrows.same h

theorem Moves.upd_key {fs : List Field} {s x : State} {key : Key}
    (hs : ([.key] : List Field).all (fun g => fs.contains g) = true) 
    (h : Moves fs s x) :
    Moves fs s (State.mk x.pending x.regs x.snap x.heldW x.sys x.clk x.tmp x.tim x.ports x.net x.msn x.sht x.wrp x.pen x.slv x.bal x.bem key x.hst x.par x.evt x.otp x.nor x.nand x.fresh x.out) :=
  Moves.upd (Only.upd hs (fun _ _ _ _ => rfl) (fun f hb hf => by cases f <;> first | exact (hf (by decide)).elim | rfl | exact (hb _ rfl).elim))
    id id id id OtpGrows.same h

theorem Moves.upd_hst {fs : List Field} {s x : State} {hst : Hst}
    (hs : ([.hst] : List Field).all (fun g => fs.contains g) = true) (hq : QueuesOk x.hst.parts → QueuesOk hst.parts)
    (h : Moves fs s x) :
    Moves fs s (State.mk x.pending x.regs x.snap x.heldW x.sys x.clk x.tmp x.tim x.ports x.net x.msn x.sht x.wrp x.pen x.slv x.bal x.bem x.key hst x.par x.evt x.otp x.nor x.nand x.fresh x.out) :=
  Moves.upd (Only.upd hs (fun _ _ _ _ => rfl) (fun f hb hf => by cases f <;> first | exact (hf (by decide)).elim | rfl | exact (hb _ rfl).elim))
    id id id hq OtpGrows.same h

theorem Moves.upd_par {fs : List Field} {s x : State} {par : Par}
    (hs : ([.par] : List Field).all (fun g => fs.contains g) = true) 
    (h : Moves fs s x) :
    Moves fs s (State.mk x.pending x.regs x.snap x.heldW x.sys x.clk x.tmp x.tim x.ports x.net x.msn x.sht x.wrp x.pen x.slv x.bal x.bem x.key x.hst par x.evt x.otp x.nor x.nand x.fresh x.out) :=
  Moves.upd (Only.upd hs (fun _ _ _ _ => rfl) (fun f hb hf => by cases f <;> first | exact (hf (by decide)).elim | rfl | exact (hb _ rfl).elim))
    id id id id OtpGrows.same h

theorem Moves.upd_evt {fs : List Field} {s x : State} {evt : Evt}
    (hs : ([.evt] : List Field).all (fun g => fs.contains g) = true) (he : ActOk x.evt.active → ActOk evt.active)
    (h : Moves fs s x) :
    Moves fs s (State.mk x.pending x.regs x.snap x.heldW x.sys x.clk x.tmp x.tim x.ports x.net x.msn x.sht x.wrp x.pen x.slv x.bal x.bem x.key x.hst x.par evt x.otp x.nor x.nand x.fresh x.out) :=
  Moves.upd (Only.upd hs (fun _ _ _ _ => rfl) (fun f hb hf => by cases f <;> first | exact (hf (by decide)).elim | rfl | exact (hb _ rfl).elim))
    id id he id OtpGrows.same h

theorem Moves.upd_otp {fs : List Field} {s x : State} {otp : Otp}
    (hs : ([.otp] : List Field).all (fun g => fs.contains g) = true) (ho : OtpGrows x.otp otp ∧ (x.otp.seals.length ≤ 32 → otp.seals.length ≤ 32))
    (h : Moves fs s x) :
    Moves fs s (State.mk x.pending x.regs x.snap x.heldW x.sys x.clk x.tmp x.tim x.ports x.net x.msn x.sht x.wrp x.pen x.slv x.bal x.bem x.key x.hst x.par x.evt otp x.nor x.nand x.fresh x.out) :=
  Moves.upd (Only.upd hs (fun _ _ _ _ => rfl) (fun f hb hf => by cases f <;> first | exact (hf (by decide)).elim | rfl | exact (hb _ rfl).elim))
    id id id id ho h

theorem Moves.upd_nor {fs : List Field} {s x : State} {nor : Nor}
    (hs : ([.nor] : List Field).all (fun g => fs.contains g) = true) 
    (h : Moves fs s x) :
    Moves fs s (State.mk x.pending x.regs x.snap x.heldW x.sys x.clk x.tmp x.tim x.ports x.net x.msn x.sht x.wrp x.pen x.slv x.bal x.bem x.key x.hst x.par x.evt x.otp nor x.nand x.fresh x.out) :=
  Moves.upd (Only.upd hs (fun _ _ _ _ => rfl) (fun f hb hf => by cases f <;> first | exact (hf (by decide)).elim | rfl | exact (hb _ rfl).elim))
    id id id id OtpGrows.same h

theorem Moves.upd_nand {fs : List Field} {s x : State} {nand : Nand}
    (hs : ([.nand] : List Field).all (fun g => fs.contains g) = true) 
    (h : Moves fs s x) :
    Moves fs s (State.mk x.pending x.regs x.snap x.heldW x.sys x.clk x.tmp x.tim x.ports x.net x.msn x.sht x.wrp x.pen x.slv x.bal x.bem x.key x.hst x.par x.evt x.otp x.nor nand x.fresh x.out) :=
  Moves.upd (Only.upd hs (fun _ _ _ _ => rfl) (fun f hb hf => by cases f <;> first | exact (hf (by decide)).elim | rfl | exact (hb _ rfl).elim))
    id id id id OtpGrows.same h

theorem Moves.upd_fresh {fs : List Field} {s x : State} {fresh : Nat}
    (hs : ([.fresh] : List Field).all (fun g => fs.contains g) = true) 
    (h : Moves fs s x) :
    Moves fs s (State.mk x.pending x.regs x.snap x.heldW x.sys x.clk x.tmp x.tim x.ports x.net x.msn x.sht x.wrp x.pen x.slv x.bal x.bem x.key x.hst x.par x.evt x.otp x.nor x.nand fresh x.out) :=
  Moves.upd (Only.upd hs (fun _ _ _ _ => rfl) (fun f hb hf => by cases f <;> first | exact (hf (by decide)).elim | rfl | exact (hb _ rfl).elim))
    id id id id OtpGrows.same h

theorem Moves.upd_out {fs : List Field} {s x : State} {out : List Out}
    (hs : ([.out] : List Field).all (fun g => fs.contains g) = true) 
    (h : Moves fs s x) :
    Moves fs s (State.mk x.pending x.regs x.snap x.heldW x.sys x.clk x.tmp x.tim x.ports x.net x.msn x.sht x.wrp x.pen x.slv x.bal x.bem x.key x.hst x.par x.evt x.otp x.nor x.nand x.fresh out) :=
  Moves.upd (Only.upd hs (fun _ _ _ _ => rfl) (fun f hb hf => by cases f <;> first | exact (hf (by decide)).elim | rfl | exact (hb _ rfl).elim))
    id id id id OtpGrows.same h

theorem Moves.upd_regs_slv {fs : List Field} {s x : State} {regs : Store Word} {slv : Slv}
    (hs : ([.regs, .slv] : List Field).all (fun g => fs.contains g) = true) (hb : ∀ b, Field.blk b ∉ fs → ∀ a, a / 0x10000 = b.val → Store.get regReset regs a = Store.get regReset x.regs a) (hr : Store.wf regReset x.regs = true → Store.wf regReset regs = true)
    (h : Moves fs s x) :
    Moves fs s (State.mk x.pending regs x.snap x.heldW x.sys x.clk x.tmp x.tim x.ports x.net x.msn x.sht x.wrp x.pen slv x.bal x.bem x.key x.hst x.par x.evt x.otp x.nor x.nand x.fresh x.out) :=
  Moves.upd (Only.upd hs (hb) (fun f hb hf => by cases f <;> first | exact (hf (by decide)).elim | rfl | exact (hb _ rfl).elim))
    hr id id id OtpGrows.same h

theorem Moves.upd_snap_heldW {fs : List Field} {s x : State} {snap : Store (Option Word)} {heldW : Store (Option Word)}
    (hs : ([.snap, .heldW] : List Field).all (fun g => fs.contains g) = true) 
    (h : Moves fs s x) :
    Moves fs s (State.mk x.pending x.regs snap heldW x.sys x.clk x.tmp x.tim x.ports x.net x.msn x.sht x.wrp x.pen x.slv x.bal x.bem x.key x.hst x.par x.evt x.otp x.nor x.nand x.fresh x.out) :=
  Moves.upd (Only.upd hs (fun _ _ _ _ => rfl) (fun f hb hf => by cases f <;> first | exact (hf (by decide)).elim | rfl | exact (hb _ rfl).elim))
    id id id id OtpGrows.same h

theorem Moves.upd_sys_tim {fs : List Field} {s x : State} {sys : Sys} {tim : Tim}
    (hs : ([.sys, .tim] : List Field).all (fun g => fs.contains g) = true) 
    (h : Moves fs s x) :
    Moves fs s (State.mk x.pending x.regs x.snap x.heldW sys x.clk x.tmp tim x.ports x.net x.msn x.sht x.wrp x.pen x.slv x.bal x.bem x.key x.hst x.par x.evt x.otp x.nor x.nand x.fresh x.out) :=
  Moves.upd (Only.upd hs (fun _ _ _ _ => rfl) (fun f hb hf => by cases f <;> first | exact (hf (by decide)).elim | rfl | exact (hb _ rfl).elim))
    id id id id OtpGrows.same h

theorem Moves.upd_sys_slv {fs : List Field} {s x : State} {sys : Sys} {slv : Slv}
    (hs : ([.sys, .slv] : List Field).all (fun g => fs.contains g) = true) 
    (h : Moves fs s x) :
    Moves fs s (State.mk x.pending x.regs x.snap x.heldW sys x.clk x.tmp x.tim x.ports x.net x.msn x.sht x.wrp x.pen slv x.bal x.bem x.key x.hst x.par x.evt x.otp x.nor x.nand x.fresh x.out) :=
  Moves.upd (Only.upd hs (fun _ _ _ _ => rfl) (fun f hb hf => by cases f <;> first | exact (hf (by decide)).elim | rfl | exact (hb _ rfl).elim))
    id id id id OtpGrows.same h

theorem Moves.upd_sys_bem {fs : List Field} {s x : State} {sys : Sys} {bem : Bem}
    (hs : ([.sys, .bem] : List Field).all (fun g => fs.contains g) = true) 
    (h : Moves fs s x) :
    Moves fs s (State.mk x.pending x.regs x.snap x.heldW sys x.clk x.tmp x.tim x.ports x.net x.msn x.sht x.wrp x.pen x.slv x.bal bem x.key x.hst x.par x.evt x.otp x.nor x.nand x.fresh x.out) :=
  Moves.upd (Only.upd hs (fun _ _ _ _ => rfl) (fun f hb hf => by cases f <;> first | exact (hf (by decide)).elim | rfl | exact (hb _ rfl).elim))
    id id id id OtpGrows.same h

theorem Moves.upd_sys_par {fs : List Field} {s x : State} {sys : Sys} {par : Par}
    (hs : ([.sys, .par] : List Field).all (fun g => fs.contains g) = true) 
    (h : Moves fs s x) :
    Moves fs s (State.mk x.pending x.regs x.snap x.heldW sys x.clk x.tmp x.tim x.ports x.net x.msn x.sht x.wrp x.pen x.slv x.bal x.bem x.key x.hst par x.evt x.otp x.nor x.nand x.fresh x.out) :=
  Moves.upd (Only.upd hs (fun _ _ _ _ => rfl) (fun f hb hf => by cases f <;> first | exact (hf (by decide)).elim | rfl | exact (hb _ rfl).elim))
    id id id id OtpGrows.same h

theorem Moves.upd_sys_evt {fs : List Field} {s x : State} {sys : Sys} {evt : Evt}
    (hs : ([.sys, .evt] : List Field).all (fun g => fs.contains g) = true) (he : ActOk x.evt.active → ActOk evt.active)
    (h : Moves fs s x) :
    Moves fs s (State.mk x.pending x.regs x.snap x.heldW sys x.clk x.tmp x.tim x.ports x.net x.msn x.sht x.wrp x.pen x.slv x.bal x.bem x.key x.hst x.par evt x.otp x.nor x.nand x.fresh x.out) :=
  Moves.upd (Only.upd hs (fun _ _ _ _ => rfl) (fun f hb hf => by cases f <;> first | exact (hf (by decide)).elim | rfl | exact (hb _ rfl).elim))
    id id he id OtpGrows.same h

theorem Moves.upd_sys_nor {fs : List Field} {s x : State} {sys : Sys} {nor : Nor}
    (hs : ([.sys, .nor] : List Field).all (fun g => fs.contains g) = true) 
    (h : Moves fs s x) :
    Moves fs s (State.mk x.pending x.regs x.snap x.heldW sys x.clk x.tmp x.tim x.ports x.net x.msn x.sht x.wrp x.pen x.slv x.bal x.bem x.key x.hst x.par x.evt x.otp nor x.nand x.fresh x.out) :=
  Moves.upd (Only.upd hs (fun _ _ _ _ => rfl) (fun f hb hf => by cases f <;> first | exact (hf (by decide)).elim | rfl | exact (hb _ rfl).elim))
    id id id id OtpGrows.same h

theorem Moves.upd_clk_tim {fs : List Field} {s x : State} {clk : Clk} {tim : Tim}
    (hs : ([.clk, .tim] : List Field).all (fun g => fs.contains g) = true) 
    (h : Moves fs s x) :
    Moves fs s (State.mk x.pending x.regs x.snap x.heldW x.sys clk x.tmp tim x.ports x.net x.msn x.sht x.wrp x.pen x.slv x.bal x.bem x.key x.hst x.par x.evt x.otp x.nor x.nand x.fresh x.out) :=
  Moves.upd (Only.upd hs (fun _ _ _ _ => rfl) (fun f hb hf => by cases f <;> first | exact (hf (by decide)).elim | rfl | exact (hb _ rfl).elim))
    id id id id OtpGrows.same h

theorem Moves.upd_clk_out {fs : List Field} {s x : State} {clk : Clk} {out : List Out}
    (hs : ([.clk, .out] : List Field).all (fun g => fs.contains g) = true) 
    (h : Moves fs s x) :
    Moves fs s (State.mk x.pending x.regs x.snap x.heldW x.sys clk x.tmp x.tim x.ports x.net x.msn x.sht x.wrp x.pen x.slv x.bal x.bem x.key x.hst x.par x.evt x.otp x.nor x.nand x.fresh out) :=
  Moves.upd (Only.upd hs (fun _ _ _ _ => rfl) (fun f hb hf => by cases f <;> first | exact (hf (by decide)).elim | rfl | exact (hb _ rfl).elim))
    id id id id OtpGrows.same h

theorem Moves.upd_tmp_nand {fs : List Field} {s x : State} {tmp : Temple} {nand : Nand}
    (hs : ([.tmp, .nand] : List Field).all (fun g => fs.contains g) = true) 
    (h : Moves fs s x) :
    Moves fs s (State.mk x.pending x.regs x.snap x.heldW x.sys x.clk tmp x.tim x.ports x.net x.msn x.sht x.wrp x.pen x.slv x.bal x.bem x.key x.hst x.par x.evt x.otp x.nor nand x.fresh x.out) :=
  Moves.upd (Only.upd hs (fun _ _ _ _ => rfl) (fun f hb hf => by cases f <;> first | exact (hf (by decide)).elim | rfl | exact (hb _ rfl).elim))
    id id id id OtpGrows.same h

theorem Moves.upd_msn_key {fs : List Field} {s x : State} {msn : Msn} {key : Key}
    (hs : ([.msn, .key] : List Field).all (fun g => fs.contains g) = true) 
    (h : Moves fs s x) :
    Moves fs s (State.mk x.pending x.regs x.snap x.heldW x.sys x.clk x.tmp x.tim x.ports x.net msn x.sht x.wrp x.pen x.slv x.bal x.bem key x.hst x.par x.evt x.otp x.nor x.nand x.fresh x.out) :=
  Moves.upd (Only.upd hs (fun _ _ _ _ => rfl) (fun f hb hf => by cases f <;> first | exact (hf (by decide)).elim | rfl | exact (hb _ rfl).elim))
    id id id id OtpGrows.same h

theorem Moves.upd_msn_nand {fs : List Field} {s x : State} {msn : Msn} {nand : Nand}
    (hs : ([.msn, .nand] : List Field).all (fun g => fs.contains g) = true) 
    (h : Moves fs s x) :
    Moves fs s (State.mk x.pending x.regs x.snap x.heldW x.sys x.clk x.tmp x.tim x.ports x.net msn x.sht x.wrp x.pen x.slv x.bal x.bem x.key x.hst x.par x.evt x.otp x.nor nand x.fresh x.out) :=
  Moves.upd (Only.upd hs (fun _ _ _ _ => rfl) (fun f hb hf => by cases f <;> first | exact (hf (by decide)).elim | rfl | exact (hb _ rfl).elim))
    id id id id OtpGrows.same h

theorem Moves.upd_sht_par {fs : List Field} {s x : State} {sht : Sht} {par : Par}
    (hs : ([.sht, .par] : List Field).all (fun g => fs.contains g) = true) 
    (h : Moves fs s x) :
    Moves fs s (State.mk x.pending x.regs x.snap x.heldW x.sys x.clk x.tmp x.tim x.ports x.net x.msn sht x.wrp x.pen x.slv x.bal x.bem x.key x.hst par x.evt x.otp x.nor x.nand x.fresh x.out) :=
  Moves.upd (Only.upd hs (fun _ _ _ _ => rfl) (fun f hb hf => by cases f <;> first | exact (hf (by decide)).elim | rfl | exact (hb _ rfl).elim))
    id id id id OtpGrows.same h

theorem Moves.upd_wrp_slv {fs : List Field} {s x : State} {wrp : Wrp} {slv : Slv}
    (hs : ([.wrp, .slv] : List Field).all (fun g => fs.contains g) = true) 
    (h : Moves fs s x) :
    Moves fs s (State.mk x.pending x.regs x.snap x.heldW x.sys x.clk x.tmp x.tim x.ports x.net x.msn x.sht wrp x.pen slv x.bal x.bem x.key x.hst x.par x.evt x.otp x.nor x.nand x.fresh x.out) :=
  Moves.upd (Only.upd hs (fun _ _ _ _ => rfl) (fun f hb hf => by cases f <;> first | exact (hf (by decide)).elim | rfl | exact (hb _ rfl).elim))
    id id id id OtpGrows.same h

theorem Moves.upd_wrp_nand {fs : List Field} {s x : State} {wrp : Wrp} {nand : Nand}
    (hs : ([.wrp, .nand] : List Field).all (fun g => fs.contains g) = true) 
    (h : Moves fs s x) :
    Moves fs s (State.mk x.pending x.regs x.snap x.heldW x.sys x.clk x.tmp x.tim x.ports x.net x.msn x.sht wrp x.pen x.slv x.bal x.bem x.key x.hst x.par x.evt x.otp x.nor nand x.fresh x.out) :=
  Moves.upd (Only.upd hs (fun _ _ _ _ => rfl) (fun f hb hf => by cases f <;> first | exact (hf (by decide)).elim | rfl | exact (hb _ rfl).elim))
    id id id id OtpGrows.same h

theorem Moves.upd_slv_bem {fs : List Field} {s x : State} {slv : Slv} {bem : Bem}
    (hs : ([.slv, .bem] : List Field).all (fun g => fs.contains g) = true) 
    (h : Moves fs s x) :
    Moves fs s (State.mk x.pending x.regs x.snap x.heldW x.sys x.clk x.tmp x.tim x.ports x.net x.msn x.sht x.wrp x.pen slv x.bal bem x.key x.hst x.par x.evt x.otp x.nor x.nand x.fresh x.out) :=
  Moves.upd (Only.upd hs (fun _ _ _ _ => rfl) (fun f hb hf => by cases f <;> first | exact (hf (by decide)).elim | rfl | exact (hb _ rfl).elim))
    id id id id OtpGrows.same h

theorem Moves.upd_slv_key {fs : List Field} {s x : State} {slv : Slv} {key : Key}
    (hs : ([.slv, .key] : List Field).all (fun g => fs.contains g) = true) 
    (h : Moves fs s x) :
    Moves fs s (State.mk x.pending x.regs x.snap x.heldW x.sys x.clk x.tmp x.tim x.ports x.net x.msn x.sht x.wrp x.pen slv x.bal x.bem key x.hst x.par x.evt x.otp x.nor x.nand x.fresh x.out) :=
  Moves.upd (Only.upd hs (fun _ _ _ _ => rfl) (fun f hb hf => by cases f <;> first | exact (hf (by decide)).elim | rfl | exact (hb _ rfl).elim))
    id id id id OtpGrows.same h

theorem Moves.upd_slv_par {fs : List Field} {s x : State} {slv : Slv} {par : Par}
    (hs : ([.slv, .par] : List Field).all (fun g => fs.contains g) = true) 
    (h : Moves fs s x) :
    Moves fs s (State.mk x.pending x.regs x.snap x.heldW x.sys x.clk x.tmp x.tim x.ports x.net x.msn x.sht x.wrp x.pen slv x.bal x.bem x.key x.hst par x.evt x.otp x.nor x.nand x.fresh x.out) :=
  Moves.upd (Only.upd hs (fun _ _ _ _ => rfl) (fun f hb hf => by cases f <;> first | exact (hf (by decide)).elim | rfl | exact (hb _ rfl).elim))
    id id id id OtpGrows.same h

theorem Moves.upd_slv_nand {fs : List Field} {s x : State} {slv : Slv} {nand : Nand}
    (hs : ([.slv, .nand] : List Field).all (fun g => fs.contains g) = true) 
    (h : Moves fs s x) :
    Moves fs s (State.mk x.pending x.regs x.snap x.heldW x.sys x.clk x.tmp x.tim x.ports x.net x.msn x.sht x.wrp x.pen slv x.bal x.bem x.key x.hst x.par x.evt x.otp x.nor nand x.fresh x.out) :=
  Moves.upd (Only.upd hs (fun _ _ _ _ => rfl) (fun f hb hf => by cases f <;> first | exact (hf (by decide)).elim | rfl | exact (hb _ rfl).elim))
    id id id id OtpGrows.same h

theorem Moves.upd_bem_nand {fs : List Field} {s x : State} {bem : Bem} {nand : Nand}
    (hs : ([.bem, .nand] : List Field).all (fun g => fs.contains g) = true) 
    (h : Moves fs s x) :
    Moves fs s (State.mk x.pending x.regs x.snap x.heldW x.sys x.clk x.tmp x.tim x.ports x.net x.msn x.sht x.wrp x.pen x.slv x.bal bem x.key x.hst x.par x.evt x.otp x.nor nand x.fresh x.out) :=
  Moves.upd (Only.upd hs (fun _ _ _ _ => rfl) (fun f hb hf => by cases f <;> first | exact (hf (by decide)).elim | rfl | exact (hb _ rfl).elim))
    id id id id OtpGrows.same h

theorem Moves.upd_key_par {fs : List Field} {s x : State} {key : Key} {par : Par}
    (hs : ([.key, .par] : List Field).all (fun g => fs.contains g) = true) 
    (h : Moves fs s x) :
    Moves fs s (State.mk x.pending x.regs x.snap x.heldW x.sys x.clk x.tmp x.tim x.ports x.net x.msn x.sht x.wrp x.pen x.slv x.bal x.bem key x.hst par x.evt x.otp x.nor x.nand x.fresh x.out) :=
  Moves.upd (Only.upd hs (fun _ _ _ _ => rfl) (fun f hb hf => by cases f <;> first | exact (hf (by decide)).elim | rfl | exact (hb _ rfl).elim))
    id id id id OtpGrows.same h

theorem Moves.upd_key_nand {fs : List Field} {s x : State} {key : Key} {nand : Nand}
    (hs : ([.key, .nand] : List Field).all (fun g => fs.contains g) = true) 
    (h : Moves fs s x) :
    Moves fs s (State.mk x.pending x.regs x.snap x.heldW x.sys x.clk x.tmp x.tim x.ports x.net x.msn x.sht x.wrp x.pen x.slv x.bal x.bem key x.hst x.par x.evt x.otp x.nor nand x.fresh x.out) :=
  Moves.upd (Only.upd hs (fun _ _ _ _ => rfl) (fun f hb hf => by cases f <;> first | exact (hf (by decide)).elim | rfl | exact (hb _ rfl).elim))
    id id id id OtpGrows.same h

theorem Moves.upd_par_nand {fs : List Field} {s x : State} {par : Par} {nand : Nand}
    (hs : ([.par, .nand] : List Field).all (fun g => fs.contains g) = true) 
    (h : Moves fs s x) :
    Moves fs s (State.mk x.pending x.regs x.snap x.heldW x.sys x.clk x.tmp x.tim x.ports x.net x.msn x.sht x.wrp x.pen x.slv x.bal x.bem x.key x.hst par x.evt x.otp x.nor nand x.fresh x.out) :=
  Moves.upd (Only.upd hs (fun _ _ _ _ => rfl) (fun f hb hf => by cases f <;> first | exact (hf (by decide)).elim | rfl | exact (hb _ rfl).elim))
    id id id id OtpGrows.same h

theorem Moves.upd_par_out {fs : List Field} {s x : State} {par : Par} {out : List Out}
    (hs : ([.par, .out] : List Field).all (fun g => fs.contains g) = true) 
    (h : Moves fs s x) :
    Moves fs s (State.mk x.pending x.regs x.snap x.heldW x.sys x.clk x.tmp x.tim x.ports x.net x.msn x.sht x.wrp x.pen x.slv x.bal x.bem x.key x.hst par x.evt x.otp x.nor x.nand x.fresh out) :=
  Moves.upd (Only.upd hs (fun _ _ _ _ => rfl) (fun f hb hf => by cases f <;> first | exact (hf (by decide)).elim | rfl | exact (hb _ rfl).elim))
    id id id id OtpGrows.same h

theorem Moves.upd_nand_fresh {fs : List Field} {s x : State} {nand : Nand} {fresh : Nat}
    (hs : ([.nand, .fresh] : List Field).all (fun g => fs.contains g) = true) 
    (h : Moves fs s x) :
    Moves fs s (State.mk x.pending x.regs x.snap x.heldW x.sys x.clk x.tmp x.tim x.ports x.net x.msn x.sht x.wrp x.pen x.slv x.bal x.bem x.key x.hst x.par x.evt x.otp x.nor nand fresh x.out) :=
  Moves.upd (Only.upd hs (fun _ _ _ _ => rfl) (fun f hb hf => by cases f <;> first | exact (hf (by decide)).elim | rfl | exact (hb _ rfl).elim))
    id id id id OtpGrows.same h

theorem Moves.upd_regs_snap_heldW {fs : List Field} {s x : State} {regs : Store Word} {snap : Store (Option Word)} {heldW : Store (Option Word)}
    (hs : ([.regs, .snap, .heldW] : List Field).all (fun g => fs.contains g) = true) (hb : ∀ b, Field.blk b ∉ fs → ∀ a, a / 0x10000 = b.val → Store.get regReset regs a = Store.get regReset x.regs a) (hr : Store.wf regReset x.regs = true → Store.wf regReset regs = true)
    (h : Moves fs s x) :
    Moves fs s (State.mk x.pending regs snap heldW x.sys x.clk x.tmp x.tim x.ports x.net x.msn x.sht x.wrp x.pen x.slv x.bal x.bem x.key x.hst x.par x.evt x.otp x.nor x.nand x.fresh x.out) :=
  Moves.upd (Only.upd hs (hb) (fun f hb hf => by cases f <;> first | exact (hf (by decide)).elim | rfl | exact (hb _ rfl).elim))
    hr id id id OtpGrows.same h

theorem Moves.upd_regs_hst_evt {fs : List Field} {s x : State} {regs : Store Word} {hst : Hst} {evt : Evt}
    (hs : ([.regs, .hst, .evt] : List Field).all (fun g => fs.contains g) = true) (hb : ∀ b, Field.blk b ∉ fs → ∀ a, a / 0x10000 = b.val → Store.get regReset regs a = Store.get regReset x.regs a) (hr : Store.wf regReset x.regs = true → Store.wf regReset regs = true) (hq : QueuesOk x.hst.parts → QueuesOk hst.parts) (he : ActOk x.evt.active → ActOk evt.active)
    (h : Moves fs s x) :
    Moves fs s (State.mk x.pending regs x.snap x.heldW x.sys x.clk x.tmp x.tim x.ports x.net x.msn x.sht x.wrp x.pen x.slv x.bal x.bem x.key hst x.par evt x.otp x.nor x.nand x.fresh x.out) :=
  Moves.upd (Only.upd hs (hb) (fun f hb hf => by cases f <;> first | exact (hf (by decide)).elim | rfl | exact (hb _ rfl).elim))
    hr id he hq OtpGrows.same h

theorem Moves.upd_sys_sht_par {fs : List Field} {s x : State} {sys : Sys} {sht : Sht} {par : Par}
    (hs : ([.sys, .sht, .par] : List Field).all (fun g => fs.contains g) = true) 
    (h : Moves fs s x) :
    Moves fs s (State.mk x.pending x.regs x.snap x.heldW sys x.clk x.tmp x.tim x.ports x.net x.msn sht x.wrp x.pen x.slv x.bal x.bem x.key x.hst par x.evt x.otp x.nor x.nand x.fresh x.out) :=
  Moves.upd (Only.upd hs (fun _ _ _ _ => rfl) (fun f hb hf => by cases f <;> first | exact (hf (by decide)).elim | rfl | exact (hb _ rfl).elim))
    id id id id OtpGrows.same h

theorem Moves.upd_sys_bem_nand {fs : List Field} {s x : State} {sys : Sys} {bem : Bem} {nand : Nand}
    (hs : ([.sys, .bem, .nand] : List Field).all (fun g => fs.contains g) = true) 
    (h : Moves fs s x) :
    Moves fs s (State.mk x.pending x.regs x.snap x.heldW sys x.clk x.tmp x.tim x.ports x.net x.msn x.sht x.wrp x.pen x.slv x.bal bem x.key x.hst x.par x.evt x.otp x.nor nand x.fresh x.out) :=
  Moves.upd (Only.upd hs (fun _ _ _ _ => rfl) (fun f hb hf => by cases f <;> first | exact (hf (by decide)).elim | rfl | exact (hb _ rfl).elim))
    id id id id OtpGrows.same h

theorem Moves.upd_sys_nor_fresh {fs : List Field} {s x : State} {sys : Sys} {nor : Nor} {fresh : Nat}
    (hs : ([.sys, .nor, .fresh] : List Field).all (fun g => fs.contains g) = true) 
    (h : Moves fs s x) :
    Moves fs s (State.mk x.pending x.regs x.snap x.heldW sys x.clk x.tmp x.tim x.ports x.net x.msn x.sht x.wrp x.pen x.slv x.bal x.bem x.key x.hst x.par x.evt x.otp nor x.nand fresh x.out) :=
  Moves.upd (Only.upd hs (fun _ _ _ _ => rfl) (fun f hb hf => by cases f <;> first | exact (hf (by decide)).elim | rfl | exact (hb _ rfl).elim))
    id id id id OtpGrows.same h

theorem Moves.upd_slv_key_nand {fs : List Field} {s x : State} {slv : Slv} {key : Key} {nand : Nand}
    (hs : ([.slv, .key, .nand] : List Field).all (fun g => fs.contains g) = true) 
    (h : Moves fs s x) :
    Moves fs s (State.mk x.pending x.regs x.snap x.heldW x.sys x.clk x.tmp x.tim x.ports x.net x.msn x.sht x.wrp x.pen slv x.bal x.bem key x.hst x.par x.evt x.otp x.nor nand x.fresh x.out) :=
  Moves.upd (Only.upd hs (fun _ _ _ _ => rfl) (fun f hb hf => by cases f <;> first | exact (hf (by decide)).elim | rfl | exact (hb _ rfl).elim))
    id id id id OtpGrows.same h

theorem Moves.upd_key_par_nand {fs : List Field} {s x : State} {key : Key} {par : Par} {nand : Nand}
    (hs : ([.key, .par, .nand] : List Field).all (fun g => fs.contains g) = true) 
    (h : Moves fs s x) :
    Moves fs s (State.mk x.pending x.regs x.snap x.heldW x.sys x.clk x.tmp x.tim x.ports x.net x.msn x.sht x.wrp x.pen x.slv x.bal x.bem key x.hst par x.evt x.otp x.nor nand x.fresh x.out) :=
  Moves.upd (Only.upd hs (fun _ _ _ _ => rfl) (fun f hb hf => by cases f <;> first | exact (hf (by decide)).elim | rfl | exact (hb _ rfl).elim))
    id id id id OtpGrows.same h

theorem Moves.upd_pen_bal_bem_key {fs : List Field} {s x : State} {pen : Pen} {bal : Bal} {bem : Bem} {key : Key}
    (hs : ([.pen, .bal, .bem, .key] : List Field).all (fun g => fs.contains g) = true) 
    (h : Moves fs s x) :
    Moves fs s (State.mk x.pending x.regs x.snap x.heldW x.sys x.clk x.tmp x.tim x.ports x.net x.msn x.sht x.wrp pen x.slv bal bem key x.hst x.par x.evt x.otp x.nor x.nand x.fresh x.out) :=
  Moves.upd (Only.upd hs (fun _ _ _ _ => rfl) (fun f hb hf => by cases f <;> first | exact (hf (by decide)).elim | rfl | exact (hb _ rfl).elim))
    id id id id OtpGrows.same h

theorem Moves.upd_snap_heldW_sys_clk_tmp_tim_ports_net_msn_sht_wrp_pen_slv_bal_key_hst_par {fs : List Field} {s x : State} {snap : Store (Option Word)} {heldW : Store (Option Word)} {sys : Sys} {clk : Clk} {tmp : Temple} {tim : Tim} {ports : Store Port} {net : Net} {msn : Msn} {sht : Sht} {wrp : Wrp} {pen : Pen} {slv : Slv} {bal : Bal} {key : Key} {hst : Hst} {par : Par}
    (hs : ([.snap, .heldW, .sys, .clk, .tmp, .tim, .ports, .net, .msn, .sht, .wrp, .pen, .slv, .bal, .key, .hst, .par] : List Field).all (fun g => fs.contains g) = true) (hp : Store.wf (fun _ => Port.blank) x.ports = true → Store.wf (fun _ => Port.blank) ports = true) (hq : QueuesOk x.hst.parts → QueuesOk hst.parts)
    (h : Moves fs s x) :
    Moves fs s (State.mk x.pending x.regs snap heldW sys clk tmp tim ports net msn sht wrp pen slv bal x.bem key hst par x.evt x.otp x.nor x.nand x.fresh x.out) :=
  Moves.upd (Only.upd hs (fun _ _ _ _ => rfl) (fun f hb hf => by cases f <;> first | exact (hf (by decide)).elim | rfl | exact (hb _ rfl).elim))
    id hp id hq OtpGrows.same h

theorem Moves.upd_regs_snap_heldW_sys_clk_tmp_tim_ports_net_msn_sht_wrp_pen_slv_bal_bem_key_hst_par_evt {fs : List Field} {s x : State} {regs : Store Word} {snap : Store (Option Word)} {heldW : Store (Option Word)} {sys : Sys} {clk : Clk} {tmp : Temple} {tim : Tim} {ports : Store Port} {net : Net} {msn : Msn} {sht : Sht} {wrp : Wrp} {pen : Pen} {slv : Slv} {bal : Bal} {bem : Bem} {key : Key} {hst : Hst} {par : Par} {evt : Evt}
    (hs : ([.regs, .snap, .heldW, .sys, .clk, .tmp, .tim, .ports, .net, .msn, .sht, .wrp, .pen, .slv, .bal, .bem, .key, .hst, .par, .evt] : List Field).all (fun g => fs.contains g) = true) (hb : ∀ b, Field.blk b ∉ fs → ∀ a, a / 0x10000 = b.val → Store.get regReset regs a = Store.get regReset x.regs a) (hr : Store.wf regReset x.regs = true → Store.wf regReset regs = true) (hp : Store.wf (fun _ => Port.blank) x.ports = true → Store.wf (fun _ => Port.blank) ports = true) (hq : QueuesOk x.hst.parts → QueuesOk hst.parts) (he : ActOk x.evt.active → ActOk evt.active)
    (h : Moves fs s x) :
    Moves fs s (State.mk x.pending regs snap heldW sys clk tmp tim ports net msn sht wrp pen slv bal bem key hst par evt x.otp x.nor x.nand x.fresh x.out) :=
  Moves.upd (Only.upd hs (hb) (fun f hb hf => by cases f <;> first | exact (hf (by decide)).elim | rfl | exact (hb _ rfl).elim))
    hr hp he hq OtpGrows.same h

end Sys2Proof.Machine
end

