-- ==== Sys2Proof/Laws/Ops.lean ====
section
/-!
SUPPORT. How far each operation of Machine/Ops.lean can change the state.
-/

namespace Sys2Proof.Machine
open Sys2Proof

/-! Events. -/

theorem Store.length_insert {α : Type} (m : Store α) (k : Nat) (v : α) : (Store.insert m k v).length ≤ m.length + 1 := by
  induction m with
  | nil => simp [Store.insert]
  | cons x m ih =>
    obtain ⟨k', v'⟩ := x
    simp only [Store.insert]
    split
    · simp
    · split <;> simp
      omega

theorem Store.length_insert_mem {α : Type} (m : Store α) (k : Nat) (v : α) (hs : Store.sorted m = true) (h : ∃ w, (k, w) ∈ m) :
    (Store.insert m k v).length = m.length := by
  induction m with
  | nil => simp at h
  | cons x m ih =>
    obtain ⟨k', v'⟩ := x
    have hs' := (Store.sorted_cons (k', v') m).1 hs
    simp only [Store.insert]
    obtain ⟨w, hw⟩ := h
    rcases List.mem_cons.1 hw with hw | hw
    · have : k = k' := by simpa using congrArg Prod.fst hw
      simp [this]
    · have hk : k' < k := hs'.1 (k, w) hw
      rw [if_neg (by omega), if_neg (by omega)]
      simpa using ih hs'.2 ⟨w, hw⟩

theorem oldestLesser_mem (m : List (Nat × ActEvt)) (i : Nat) (h : oldestLesser m = some i) : ∃ w, (i, w) ∈ m := by
  have key : ∀ (l : List (Nat × ActEvt)) (acc : Option (Nat × Nat)),
      (∀ p, acc = some p → ∃ w, (p.1, w) ∈ m) → (∀ e ∈ l, e ∈ m) →
      ∀ p, l.foldl olderLesser acc = some p → ∃ w, (p.1, w) ∈ m := by
    intro l
    induction l with
    | nil => exact fun acc h _ p hp => h p hp
    | cons x l ih =>
      intro acc h hl p hp
      refine ih _ (fun q hq => ?_) (fun e he => hl e (List.mem_cons_of_mem _ he)) p hp
      have hx : ∃ w, (x.1, w) ∈ m := ⟨x.2, hl x List.mem_cons_self⟩
      unfold olderLesser at hq
      split at hq
      · exact h q hq
      · split at hq
        · cases hq; exact hx
        · split at hq
          · cases hq; exact hx
          · cases hq; exact h _ rfl
  unfold oldestLesser at h
  obtain ⟨p, hp, rfl⟩ := Option.map_eq_some_iff.1 h
  exact key m none (by simp) (fun e he => he) p hp

/-- What an event operation keeps: the registers' canonical form, a sound active table, sound queues, and every register outside
the blocks HST and EVT. -/
structure EvCtx.Keeps (c d : EvCtx) : Prop where
  regs : Store.wf regReset c.regs = true → Store.wf regReset d.regs = true
  active : ActOk c.evt.active → ActOk d.evt.active
  queues : QueuesOk c.hst.parts → QueuesOk d.hst.parts
  blks : ∀ a, a / 0x10000 ≠ 0x11 → a / 0x10000 ≠ 0x13 → Store.get regReset d.regs a = Store.get regReset c.regs a

theorem EvCtx.Keeps.refl (c : EvCtx) : EvCtx.Keeps c c := ⟨id, id, id, fun _ _ _ => rfl⟩

theorem EvCtx.Keeps.trans {c d e : EvCtx} (h : EvCtx.Keeps c d) (k : EvCtx.Keeps d e) : EvCtx.Keeps c e :=
  ⟨fun x => k.regs (h.regs x), fun x => k.active (h.active x), fun x => k.queues (h.queues x),
    fun a h1 h2 => (k.blks a h1 h2).trans (h.blks a h1 h2)⟩

theorem EvCtx.Keeps.foldl {α : Type} {c d : EvCtx} (f : EvCtx → α → EvCtx) (l : List α) (hf : ∀ x a, EvCtx.Keeps x (f x a))
    (h : EvCtx.Keeps c d) : EvCtx.Keeps c (l.foldl f d) := by
  induction l generalizing d with
  | nil => exact h
  | cons a l ih => exact ih (h.trans (hf d a))

/-- The fold of the lowest severity is attained unless it is the start. -/
theorem lowestSev_mem (q : List QRec) (h : q ≠ []) : ∃ r ∈ q, r.ev.sev.code = lowestSev q := by
  have hle : ∀ r : QRec, r.ev.sev.code ≤ 2 := by
    intro r
    cases r.ev.sev <;> decide
  have key : ∀ (l : List QRec) (a : Nat), l.foldl (fun m r => min m r.ev.sev.code) a = a ∨
      ∃ r ∈ l, r.ev.sev.code = l.foldl (fun m r => min m r.ev.sev.code) a := by
    intro l
    induction l with
    | nil => exact fun a => .inl rfl
    | cons x l ih =>
      intro a
      rcases ih (min a x.ev.sev.code) with h | ⟨r, hr, h⟩
      · rcases Nat.le_total a x.ev.sev.code with hx | hx
        · left
          simpa [Nat.min_eq_left hx] using h
        · right
          exact ⟨x, List.mem_cons_self, by simpa [Nat.min_eq_right hx] using h.symm⟩
      · exact .inr ⟨r, List.mem_cons_of_mem _ hr, h⟩
  obtain ⟨x, l, rfl⟩ := List.exists_cons_of_ne_nil h
  unfold lowestSev
  rw [List.foldl_cons]
  rcases key l (min 3 x.ev.sev.code) with h | ⟨r, hr, h⟩
  · exact ⟨x, List.mem_cons_self, by rw [h, Nat.min_eq_right (Nat.le_trans (hle x) (by decide))]⟩
  · exact ⟨r, List.mem_cons_of_mem _ hr, h⟩

theorem length_dropOldest (m : Nat) (q : List QRec) (h : ∃ r ∈ q, r.ev.sev.code = m) :
    (dropOldest m q).length + 1 = q.length := by
  induction q with
  | nil => simp at h
  | cons x q ih =>
    unfold dropOldest
    split
    · rfl
    · rename_i hx
      obtain ⟨r, hr, h⟩ := h
      rcases List.mem_cons.1 hr with hr | hr
      · exact absurd (hr ▸ h) hx
      · simpa using ih ⟨r, hr, h⟩

/-- A queue never grows past its limit (R645, R646). -/
theorem Part.enqueue_le (p : Part) (e : EvRec) (h : p.evq.length ≤ 4096) : (p.enqueue e).1.evq.length ≤ 4096 := by
  unfold Part.enqueue
  split
  · simp
    omega
  · dsimp only
    split
    · exact h
    · have hne : p.evq ≠ [] := by
        intro h
        simp [h] at *
      have := length_dropOldest _ _ (lowestSev_mem p.evq hne)
      simp
      omega

theorem EvCtx.queueOne_keeps (e : EvRec) (sc : EvScope) (x : EvCtx × List Nat) (j : Nat) :
    EvCtx.Keeps x.1 (EvCtx.queueOne e sc x j).1 := by
  unfold EvCtx.queueOne
  split
  · refine ⟨fun h => ?_, id, fun h => h.put j (Part.enqueue_le _ e (h.get j)), fun a h1 h2 => ?_⟩
    · dsimp only
      split
      · exact wf_regBumpS h _ _
      · exact h
    · dsimp only
      split
      · refine (get_regPut ..).trans (if_neg ?_)
        rintro rfl
        exact h1 rfl
      · rfl
  · exact .refl _

theorem EvCtx.mk'_keeps (c : EvCtx) (code : Nat) (sev : Sev) (unit : Nat) (args : List Arg) (isEnd : Bool) :
    EvCtx.Keeps c (c.mk' code sev unit args isEnd).1 := by
  unfold EvCtx.mk'
  refine ⟨fun h => ?_, id, id, fun a h1 h2 => ?_⟩
  · dsimp only
    split
    · exact h
    · exact wf_regBumpW h _ _
  · dsimp only
    split
    · rfl
    · refine (get_regPut ..).trans (if_neg ?_)
      rintro rfl
      exact h2 rfl

theorem EvCtx.push_keeps (n : Nat) (c : EvCtx) (e : EvRec) (sc : EvScope) : EvCtx.Keeps c (EvCtx.push n c e sc) := by
  induction n generalizing c e sc with
  | zero => exact .refl _
  | succ n ih =>
    unfold EvCtx.push
    refine EvCtx.Keeps.foldl _ _ (fun x j => (EvCtx.mk'_keeps x _ _ _ _ _).trans (ih _ _ _)) ?_
    have key : ∀ (l : List Nat) (x : EvCtx × List Nat), EvCtx.Keeps x.1 (l.foldl (EvCtx.queueOne e sc) x).1 := by
      intro l
      induction l with
      | nil => exact fun x => .refl _
      | cons a l ih => exact fun x => (EvCtx.queueOne_keeps e sc x a).trans (ih _)
    exact key _ (c, [])

theorem EvCtx.record_keeps (c : EvCtx) (code : Nat) (sev : Sev) (unit : Nat) (args : List Arg) (isEnd : Bool) (sc : EvScope) :
    EvCtx.Keeps c (c.record code sev unit args isEnd sc).1 :=
  (EvCtx.mk'_keeps c code sev unit args isEnd).trans (EvCtx.push_keeps 9 _ _ sc)

theorem EvCtx.full_keeps (c : EvCtx) : EvCtx.Keeps c c.full := by
  unfold EvCtx.full
  split
  · exact .refl _
  · have h := EvCtx.record_keeps c Ev.ACTIVE_FULL .warning 0xFF [] false .general
    exact ⟨fun x => wf_regBumpS (h.regs x) _ _, h.active, h.queues,
      fun a h1 h2 => ((get_regPut ..).trans (if_neg (by rintro rfl; exact h2 rfl))).trans (h.blks a h1 h2)⟩

theorem EvCtx.activate_keeps (c : EvCtx) (a : ActEvt) : EvCtx.Keeps c (c.activate a) := by
  unfold EvCtx.activate
  split
  · rename_i hl
    refine ⟨id, fun h => ⟨Store.sorted_insert _ _ _ h.1, ?_⟩, id, fun _ _ _ => rfl⟩
    exact Nat.le_trans (Store.length_insert _ _ _) hl
  · refine (EvCtx.full_keeps c).trans ?_
    dsimp only
    split
    · split
      · rename_i i hi
        refine ⟨id, fun h => ⟨Store.sorted_insert _ _ _ h.1, ?_⟩, id, fun _ _ _ => rfl⟩
        have := Store.length_insert_mem _ i a h.1 (oldestLesser_mem _ i hi)
        exact this ▸ h.2
      · exact ⟨id, id, id, fun _ _ _ => rfl⟩
    · exact .refl _

theorem EvCtx.raise_keeps (c : EvCtx) (code : Nat) (sev : Sev) (unit : Nat) (args : List Arg) (sc : EvScope) (lasting : Bool) :
    EvCtx.Keeps c (c.raise code sev unit args sc lasting) := by
  unfold EvCtx.raise
  split
  · exact .refl _
  · have h := EvCtx.record_keeps c code sev unit args false sc
    dsimp only
    split
    · exact h.trans (EvCtx.activate_keeps _ _)
    · split
      · exact h.trans (EvCtx.activate_keeps _ _)
      · exact h

theorem EvCtx.checkFull_keeps (c : EvCtx) : EvCtx.Keeps c c.checkFull := by
  unfold EvCtx.checkFull
  split
  · have h := EvCtx.record_keeps c Ev.ACTIVE_FULL .warning 0xFF [] true .general
    exact ⟨h.regs, h.active, h.queues, h.blks⟩
  · exact .refl _

theorem ActOk.filter {m : List (Nat × ActEvt)} (h : ActOk m) (p : Nat × ActEvt → Bool) : ActOk (m.filter p) :=
  ⟨Store.sorted_filter m p h.1, Nat.le_trans (List.length_filter_le p m) h.2⟩

theorem EvCtx.endIf_keeps (c : EvCtx) (code : Nat) (p : EvRec → Bool) : EvCtx.Keeps c (c.endIf code p) := by
  unfold EvCtx.endIf
  refine EvCtx.Keeps.trans ?_ (EvCtx.checkFull_keeps _)
  exact EvCtx.Keeps.foldl _ _ (fun x a => EvCtx.record_keeps _ _ _ _ _ _ _) ⟨id, fun h => h.filter _, id, fun _ _ _ => rfl⟩

theorem EvCtx.expire_keeps (c : EvCtx) (t : Nat) : EvCtx.Keeps c (c.expire t) := by
  unfold EvCtx.expire
  refine EvCtx.Keeps.trans ?_ (EvCtx.checkFull_keeps _)
  exact ⟨id, fun h => h.filter _, id, fun _ _ _ => rfl⟩

/-- What events changed is put into the state. -/
theorem State.withEv_moves {s : State} {c : EvCtx} (h : EvCtx.Keeps s.evCtx c) :
    Moves [.regs, .blk 0x11, .blk 0x13, .hst, .evt] s (s.withEv c) := by
  refine Moves.upd_regs_hst_evt rfl (fun b hb a ha => h.blks a ?_ ?_) h.regs h.queues h.active (Moves.refl _ _)
  · rintro h
    have hbn : b = 0x11 := Fin.ext (ha.symm.trans h)
    subst hbn
    exact hb (by decide)
  · rintro h
    have hbn : b = 0x13 := Fin.ext (ha.symm.trans h)
    subst hbn
    exact hb (by decide)

/-- A register of block `b` is set. -/
theorem State.setReg_moves (b : Fin 20) (s : State) (a : Nat) (w : Word) (h : a / 0x10000 = b.val) :
    Moves [.regs, .blk b] s (s.setReg a w) := by
  have hs : ([Field.regs] : List Field).all (fun g => [Field.regs, Field.blk b].contains g) = true := by simp
  exact Moves.upd_regs hs (blk_regPut w b h (by simp)) (fun k => wf_regPut k a w) (Moves.refl _ _)

theorem State.cntW_moves (b : Fin 20) (s : State) (a n : Nat) (h : a / 0x10000 = b.val) :
    Moves [.regs, .blk b] s (s.cntW a n) := State.setReg_moves b s a _ h

theorem State.cntS_moves (b : Fin 20) (s : State) (a n : Nat) (h : a / 0x10000 = b.val) :
    Moves [.regs, .blk b] s (s.cntS a n) := State.setReg_moves b s a _ h

theorem State.setPart_moves (s : State) (j : Nat) (x : Part) (hx : QueuesOk s.hst.parts → x.evq.length ≤ 4096) :
    Moves [.hst] s (s.setPart j x) :=
  Moves.upd_hst rfl (fun h => h.put j (hx h)) (Moves.refl _ _)

theorem State.raise_moves (s : State) (a1 a2 a3 a4 a5 a6) :
    Moves [.regs, .hst, .evt, .blk 0x11, .blk 0x13] s (@State.raise s a1 a2 a3 a4 a5 a6) :=
  Moves.mono (State.withEv_moves (EvCtx.raise_keeps ..)) rfl

theorem State.used_moves (s : State) : Moves [.fresh] s (@State.used s) := by
  unfold State.used
  refine Moves.upd_fresh rfl ?_
  exact Moves.refl _ _

theorem State.emit_moves (s : State) (a1) : Moves [.out] s (@State.emit s a1) := by
  unfold State.emit
  refine Moves.upd_out rfl ?_
  exact Moves.refl _ _

theorem State.setPort_moves (s : State) (a1) (a2) : Moves [.ports] s (@State.setPort s a1 a2) := by
  unfold State.setPort
  refine Moves.upd_ports rfl ?_ ?_
  · exact fun h => Store.wf_put h _ _
  · exact Moves.refl _ _

theorem State.endEv_moves (s : State) (a1 a2) : Moves [.regs, .hst, .evt, .blk 0x11, .blk 0x13] s (@State.endEv s a1 a2) :=
  Moves.mono (State.withEv_moves (EvCtx.endIf_keeps ..)) rfl

theorem State.setIsl_moves (s : State) (a1) (a2) : Moves [.clk] s (@State.setIsl s a1 a2) := by
  unfold State.setIsl
  refine Moves.upd_clk rfl ?_
  exact Moves.refl _ _

theorem State.setSession_moves (s : State) (a1) (a2) (a3) : Moves [.hst] s (@State.setSession s a1 a2 a3) := by
  unfold State.setSession
  refine Moves.upd_hst rfl ?_ ?_
  · exact fun h => h
  · exact Moves.refl _ _

theorem repeatN_moves {fs : List Field} {s t : State} (f : State → State) (n : Nat) (hf : ∀ u, Moves fs u (f u)) (h : Moves fs s t) :
    Moves fs s (repeatN f n t) := by
  induction n generalizing t with
  | zero => exact h
  | succ n ih => exact ih (h.trans (hf t))

theorem State.emitAll_moves (s : State) (a1) : Moves [.out] s (@State.emitAll s a1) := by
  unfold State.emitAll
  refine Moves.upd_out rfl ?_
  exact Moves.refl _ _

theorem State.reach_moves (s : State) (a1) : Moves [.tim] s (@State.reach s a1) := by
  unfold State.reach
  refine Moves.upd_tim rfl ?_
  exact Moves.refl _ _

end Sys2Proof.Machine
end

