-- ==== Sys2Proof/Laws/Flags.lean ====
section
/-!
SUPPORT. How far each operation of Machine/Flags.lean can change the state.
-/

namespace Sys2Proof.Machine
open Sys2Proof

theorem State.answered_moves (s : State) (a1) (a2) (a3) : Moves [.out] s (@State.answered s a1 a2 a3) := by
  unfold State.answered
  split
  · exact Moves.refl _ _
  · split
    · refine Moves.ite (fun _ => ?_) (fun _ => ?_)
      · refine Moves.step (State.emit_moves _ _) rfl ?_
        exact Moves.refl _ _
      · refine Moves.step (State.emit_moves _ _) rfl ?_
        exact Moves.refl _ _
    · refine Moves.step (State.emit_moves _ _) rfl ?_
      exact Moves.refl _ _

theorem State.dropHeld_moves (s : State) (a1) (a2) : Moves [.heldW] s (@State.dropHeld s a1 a2) := by
  unfold State.dropHeld
  refine Moves.upd_heldW rfl ?_
  exact Moves.refl _ _

theorem State.tryWrite_moves {fs : List Field} {s t : State} (r : Requester) (a bytes : Nat) (v : Word)
    (eff : State → Word → State × Status) (hf : Moves fs t (eff t v).1) (h : Moves fs s t) :
    Moves fs s (t.tryWrite r a bytes v eff).1 := by
  unfold State.tryWrite
  split
  · exact h
  · exact h.trans hf
  · exact h

theorem State.writeRow_moves {fs : List Field} {s t : State} (r : Requester) (a : Nat) (v : Word)
    (eff : State → Word → State × Status) (hs : ([.out] : List Field).all (fun g => fs.contains g) = true)
    (hf : Moves fs t (eff t v).1) (h : Moves fs s t) :
    Moves fs s (t.writeRow r a v eff) :=
  Moves.step (State.answered_moves _ _ _ _) (sub_of hs rfl) (State.tryWrite_moves _ _ _ _ _ hf h)

theorem okEff_moves {fs : List Field} {s : State} (f : State → Word → State) (v : Word) (h : Moves fs s (f s v)) :
    Moves fs s (okEff f s v).1 := h

end Sys2Proof.Machine
end

