-- ==== Sys2Proof/Laws/PairOps.lean ====
section
/-!
SUPPORT. How far each operation of Machine/PairOps.lean can change the state.
-/

namespace Sys2Proof.Machine
open Sys2Proof

theorem State.pairSend_moves (s : State) (a1) : Moves [.par, .out] s (@State.pairSend s a1) := by
  unfold State.pairSend
  refine Moves.ite (fun _ => ?_) (fun _ => ?_)
  · exact Moves.refl _ _
  · dsimp only
    refine Moves.upd_par_out rfl ?_
    exact Moves.refl _ _

theorem State.pairParts_moves (s : State) (a1) (a2) : Moves [.par, .out] s (@State.pairParts s a1 a2) := by
  unfold State.pairParts
  dsimp only
  refine Moves.foldl _ _ (fun _ _ => ?_) (Moves.refl _ _)
  refine Moves.step (State.pairSend_moves _ _) rfl ?_
  exact Moves.refl _ _

theorem State.mirrorSend_moves (s : State) (a1) : Moves [.par, .out] s (@State.mirrorSend s a1) := by
  unfold State.mirrorSend
  exact State.pairParts_moves _ _ _

theorem State.campSend_moves (s : State) (a1) : Moves [.par, .out] s (@State.campSend s a1) := by
  unfold State.campSend
  exact State.pairParts_moves _ _ _

theorem State.mirrorOut_moves (s : State) (a1) : Moves [.par, .out] s (@State.mirrorOut s a1) := by
  unfold State.mirrorOut
  dsimp only
  refine Moves.ite (fun _ => ?_) (fun _ => ?_)
  · exact Moves.refl _ _
  · refine Moves.ite (fun _ => ?_) (fun _ => ?_)
    · refine Moves.upd_par rfl ?_
      exact Moves.refl _ _
    · refine Moves.ite (fun _ => ?_) (fun _ => ?_)
      · refine Moves.upd_par rfl ?_
        exact Moves.refl _ _
      · refine Moves.step (State.mirrorSend_moves _ _) rfl ?_
        refine Moves.upd_par rfl ?_
        exact Moves.refl _ _

theorem State.pairBoth_moves (s : State) (a1) : Moves [.out] s (@State.pairBoth s a1) := by
  unfold State.pairBoth
  refine Moves.ite (fun _ => ?_) (fun _ => ?_)
  · exact Moves.refl _ _
  · dsimp only
    refine Moves.upd_out rfl ?_
    exact Moves.refl _ _

theorem State.sendKey_moves (s : State) (a1) : Moves [.par, .out] s (@State.sendKey s a1) := by
  unfold State.sendKey
  refine Moves.ite (fun _ => ?_) (fun _ => ?_)
  · refine Moves.step (State.pairSend_moves _ _) rfl ?_
    exact Moves.refl _ _
  · exact Moves.refl _ _

end Sys2Proof.Machine
end

