-- ==== Sys2Proof/Laws/Legal.lean ====
section
/-!
SUPPORT. How far each operation of Machine/Legal.lean can change the state.
-/

namespace Sys2Proof.Machine
open Sys2Proof

theorem State.journal_moves (s : State) (a1) (a2) : Moves [.slv, .par, .out] s (@State.journal s a1 a2) := by
  unfold State.journal
  dsimp only
  refine Moves.step (State.mirrorOut_moves _ _) rfl ?_
  refine Moves.upd_slv rfl ?_
  exact Moves.refl _ _

theorem State.journalIf_moves (s : State) (a1) (a2) : Moves [.slv, .par, .out] s (@State.journalIf s a1 a2) := by
  unfold State.journalIf
  refine Moves.ite (fun _ => ?_) (fun _ => ?_)
  · refine Moves.step (State.journal_moves _ _ _) rfl ?_
    exact Moves.refl _ _
  · exact Moves.refl _ _

theorem State.auditRaw_moves (s : State) (a1) : Moves [.regs, .slv, .hst, .par, .evt, .nand, .out, .blk 0x0C, .blk 0x11, .blk 0x13] s (@State.auditRaw s a1) := by
  unfold State.auditRaw
  refine Moves.ite (fun _ => ?_) (fun _ => ?_)
  · exact Moves.refl _ _
  · dsimp only
    refine Moves.ite (fun _ => ?_) (fun _ => ?_)
    · refine Moves.step (State.raise_moves _ _ _ _ _ _ _) rfl ?_
      refine Moves.step (State.journalIf_moves _ _ _) rfl ?_
      refine Moves.upd_slv rfl ?_
      refine Moves.step (State.cntS_moves 12 _ _ _ rfl) rfl ?_
      refine Moves.upd_slv_nand rfl ?_
      exact Moves.refl _ _
    · refine Moves.step (State.cntS_moves 12 _ _ _ rfl) rfl ?_
      refine Moves.upd_slv_nand rfl ?_
      exact Moves.refl _ _

theorem State.setCauseRaw_moves (s : State) (a1) : Moves [.regs, .slv, .hst, .par, .evt, .out, .blk 0x11, .blk 0x13] s (@State.setCauseRaw s a1) := by
  unfold State.setCauseRaw
  refine Moves.ite (fun _ => ?_) (fun _ => ?_)
  · exact Moves.refl _ _
  · dsimp only
    refine Moves.step (State.raise_moves _ _ _ _ _ _ _) rfl ?_
    refine Moves.ite (fun _ => ?_) (fun _ => ?_)
    · refine Moves.upd_par rfl ?_
      refine Moves.step (State.journalIf_moves _ _ _) rfl ?_
      refine Moves.upd_slv rfl ?_
      exact Moves.refl _ _
    · refine Moves.step (State.journalIf_moves _ _ _) rfl ?_
      refine Moves.upd_slv rfl ?_
      exact Moves.refl _ _

theorem State.audit_moves (s : State) (a1) : Moves [.regs, .slv, .hst, .par, .evt, .nand, .out, .blk 0x0C, .blk 0x11, .blk 0x13] s (@State.audit s a1) := by
  unfold State.audit
  dsimp only
  refine Moves.ite (fun _ => ?_) (fun _ => ?_)
  · refine Moves.step (State.setCauseRaw_moves _ _) rfl ?_
    refine Moves.step (State.auditRaw_moves _ _) rfl ?_
    exact Moves.refl _ _
  · refine Moves.step (State.auditRaw_moves _ _) rfl ?_
    exact Moves.refl _ _

theorem State.setCard_moves (s : State) (a1) (a2) : Moves [.slv] s (@State.setCard s a1 a2) := by
  unfold State.setCard
  refine Moves.upd_slv rfl ?_
  exact Moves.refl _ _

theorem State.clearCause_moves (s : State) (a1) : Moves [.regs, .slv, .hst, .par, .evt, .nand, .out, .blk 0x0C, .blk 0x11, .blk 0x13] s (@State.clearCause s a1) := by
  unfold State.clearCause
  refine Moves.ite (fun _ => ?_) (fun _ => ?_)
  · exact Moves.refl _ _
  · dsimp only
    refine Moves.ite (fun _ => ?_) (fun _ => ?_)
    · refine Moves.step (State.endEv_moves _ _ _) rfl ?_
      refine Moves.ite (fun _ => ?_) (fun _ => ?_)
      · refine Moves.step (State.endEv_moves _ _ _) rfl ?_
        refine Moves.step (State.endEv_moves _ _ _) rfl ?_
        refine Moves.step (State.audit_moves _ _) rfl ?_
        refine Moves.step (State.journalIf_moves _ _ _) rfl ?_
        refine Moves.upd_slv rfl ?_
        exact Moves.refl _ _
      · refine Moves.step (State.endEv_moves _ _ _) rfl ?_
        refine Moves.step (State.audit_moves _ _) rfl ?_
        refine Moves.step (State.journalIf_moves _ _ _) rfl ?_
        refine Moves.upd_slv rfl ?_
        exact Moves.refl _ _
    · refine Moves.ite (fun _ => ?_) (fun _ => ?_)
      · refine Moves.step (State.endEv_moves _ _ _) rfl ?_
        refine Moves.step (State.endEv_moves _ _ _) rfl ?_
        refine Moves.step (State.audit_moves _ _) rfl ?_
        refine Moves.step (State.journalIf_moves _ _ _) rfl ?_
        refine Moves.upd_slv rfl ?_
        exact Moves.refl _ _
      · refine Moves.step (State.endEv_moves _ _ _) rfl ?_
        refine Moves.step (State.audit_moves _ _) rfl ?_
        refine Moves.step (State.journalIf_moves _ _ _) rfl ?_
        refine Moves.upd_slv rfl ?_
        exact Moves.refl _ _

theorem State.setLch_moves (s : State) (a1) (a2) : Moves [.slv] s (@State.setLch s a1 a2) := by
  unfold State.setLch
  refine Moves.upd_slv rfl ?_
  exact Moves.refl _ _

theorem State.holdChan_moves (s : State) (a1) (a2) (a3) : Moves [.regs, .slv, .hst, .par, .evt, .nand, .out, .blk 0x0C, .blk 0x11, .blk 0x13] s (@State.holdChan s a1 a2 a3) := by
  unfold State.holdChan
  dsimp only
  refine Moves.step (State.raise_moves _ _ _ _ _ _ _) rfl ?_
  refine Moves.ite (fun _ => ?_) (fun _ => ?_)
  · refine Moves.step (State.audit_moves _ _) rfl ?_
    refine Moves.step (State.journalIf_moves _ _ _) rfl ?_
    refine Moves.step (State.setLch_moves _ _ _) rfl ?_
    exact Moves.refl _ _
  · refine Moves.step (State.journalIf_moves _ _ _) rfl ?_
    refine Moves.step (State.setLch_moves _ _ _) rfl ?_
    exact Moves.refl _ _

theorem State.setCause_moves (s : State) (a1) : Moves [.regs, .slv, .hst, .par, .evt, .nand, .out, .blk 0x0C, .blk 0x11, .blk 0x13] s (@State.setCause s a1) := by
  unfold State.setCause
  refine Moves.ite (fun _ => ?_) (fun _ => ?_)
  · exact Moves.refl _ _
  · refine Moves.step (State.audit_moves _ _) rfl ?_
    refine Moves.step (State.setCauseRaw_moves _ _) rfl ?_
    exact Moves.refl _ _

end Sys2Proof.Machine
end

