-- ==== Sys2Proof/Laws/HostOps.lean ====
section
/-!
SUPPORT. How far each operation of Machine/HostOps.lean can change the state.
-/

namespace Sys2Proof.Machine
open Sys2Proof

theorem State.send_moves (s : State) (a1) (a2) (a3) : Moves [.regs, .hst, .out, .blk 0x10, .blk 0x11] s (@State.send s a1 a2 a3) := by
  unfold State.send
  refine Moves.ite (fun _ => ?_) (fun _ => ?_)
  · exact Moves.refl _ _
  · split
    · exact Moves.refl _ _
    · dsimp only
      refine Moves.step (State.setSession_moves _ _ _ _) rfl ?_
      refine Moves.step (State.cntW_moves 16 _ _ _ rfl) rfl ?_
      refine Moves.step (State.cntW_moves 17 _ _ _ rfl) rfl ?_
      refine Moves.step (State.emit_moves _ _) rfl ?_
      exact Moves.refl _ _

theorem State.endSession_moves (s : State) (a1) (a2) : Moves [.hst] s (@State.endSession s a1 a2) := by
  unfold State.endSession
  refine Moves.step (State.setSession_moves _ _ _ _) rfl ?_
  exact Moves.refl _ _

theorem State.takeDgram_moves (s : State) (a1) : Moves [.regs, .hst, .out, .blk 0x10, .blk 0x11] s (@State.takeDgram s a1).1 := by
  unfold State.takeDgram
  dsimp only
  refine Moves.ite_fst (fun _ => ?_) (fun _ => ?_)
  · dsimp only
    refine Moves.step (State.cntW_moves 17 _ _ _ rfl) rfl ?_
    refine Moves.step (State.cntW_moves 17 _ _ _ rfl) rfl ?_
    exact Moves.refl _ _
  · split
    · dsimp only
      refine Moves.step (State.cntW_moves 17 _ _ _ rfl) rfl ?_
      refine Moves.step (State.cntW_moves 17 _ _ _ rfl) rfl ?_
      exact Moves.refl _ _
    · refine Moves.ite_fst (fun _ => ?_) (fun _ => ?_)
      · dsimp only
        refine Moves.step (State.cntW_moves 17 _ _ _ rfl) rfl ?_
        refine Moves.step (State.cntW_moves 17 _ _ _ rfl) rfl ?_
        exact Moves.refl _ _
      · refine Moves.ite_fst (fun _ => ?_) (fun _ => ?_)
        · dsimp only
          refine Moves.step (State.cntW_moves 17 _ _ _ rfl) rfl ?_
          exact Moves.refl _ _
        · refine Moves.ite_fst (fun _ => ?_) (fun _ => ?_)
          · dsimp only
            refine Moves.step (State.cntW_moves 17 _ _ _ rfl) rfl ?_
            refine Moves.step (State.cntW_moves 16 _ _ _ rfl) rfl ?_
            refine Moves.step (State.cntW_moves 16 _ _ _ rfl) rfl ?_
            refine Moves.step (State.cntW_moves 17 _ _ _ rfl) rfl ?_
            exact Moves.refl _ _
          · refine Moves.ite_fst (fun _ => ?_) (fun _ => ?_)
            · dsimp only
              refine Moves.step (State.cntW_moves 17 _ _ _ rfl) rfl ?_
              refine Moves.step (State.cntW_moves 17 _ _ _ rfl) rfl ?_
              exact Moves.refl _ _
            · refine Moves.ite_fst (fun _ => ?_) (fun _ => ?_)
              · dsimp only
                refine Moves.step (State.endSession_moves _ _ _) rfl ?_
                refine Moves.step (State.cntW_moves 17 _ _ _ rfl) rfl ?_
                exact Moves.refl _ _
              · refine Moves.ite_fst (fun _ => ?_) (fun _ => ?_)
                · dsimp only
                  refine Moves.step (State.send_moves _ _ _ _) rfl ?_
                  refine Moves.step (State.cntW_moves 16 _ _ _ rfl) rfl ?_
                  refine Moves.step (State.setSession_moves _ _ _ _) rfl ?_
                  refine Moves.step (State.cntW_moves 17 _ _ _ rfl) rfl ?_
                  exact Moves.refl _ _
                · dsimp only
                  refine Moves.step (State.cntW_moves 16 _ _ _ rfl) rfl ?_
                  refine Moves.step (State.setSession_moves _ _ _ _) rfl ?_
                  refine Moves.step (State.cntW_moves 17 _ _ _ rfl) rfl ?_
                  exact Moves.refl _ _

theorem State.place_moves (s : State) (a1) (a2) : Moves [.hst] s (@State.place s a1 a2).1 := by
  unfold State.place
  dsimp only
  refine Moves.ite_fst (fun _ => ?_) (fun _ => ?_)
  · dsimp only
    refine Moves.step (State.setPart_moves _ _ _ ?_) rfl ?_
    · exact fun h => h.get _
    · exact Moves.refl _ _
  · dsimp only
    exact Moves.refl _ _

theorem State.objAnswer_moves (s : State) (a1) (a2) (a3) (a4) (a5) : Moves [.regs, .hst, .out, .blk 0x10, .blk 0x11] s (@State.objAnswer s a1 a2 a3 a4 a5) := by
  unfold State.objAnswer
  split
  · exact Moves.refl _ _
  · dsimp only
    refine Moves.ite (fun _ => ?_) (fun _ => ?_)
    · refine Moves.step (State.send_moves _ _ _ _) rfl ?_
      refine Moves.step (State.setSession_moves _ _ _ _) rfl ?_
      exact Moves.refl _ _
    · refine Moves.ite (fun _ => ?_) (fun _ => ?_)
      · refine Moves.step (State.send_moves _ _ _ _) rfl ?_
        refine Moves.step (State.setSession_moves _ _ _ _) rfl ?_
        exact Moves.refl _ _
      · refine Moves.ite (fun _ => ?_) (fun _ => ?_)
        · refine Moves.step (State.send_moves _ _ _ _) rfl ?_
          refine Moves.step (State.setSession_moves _ _ _ _) rfl ?_
          exact Moves.refl _ _
        · split
          · refine Moves.step (State.send_moves _ _ _ _) rfl ?_
            refine Moves.step (State.setSession_moves _ _ _ _) rfl ?_
            exact Moves.refl _ _
          · refine Moves.step (State.send_moves _ _ _ _) rfl ?_
            refine Moves.step (State.setSession_moves _ _ _ _) rfl ?_
            refine Moves.step (State.place_moves _ _ _) rfl ?_
            exact Moves.refl _ _

theorem State.objRun_moves {fs : List Field} {s : State} (o : ObjReq) (cls : Nat) (right : Item)
    (f : State → Session → List Nat → State × Option (Status × List Nat))
    (hs : ([.regs, .hst, .out, .blk 0x10, .blk 0x11] : List Field).all (fun g => fs.contains g) = true) (hf : ∀ u x a, Moves fs u (f u x a).1) :
    Moves fs s (s.objRun o cls right f) := by
  have ha : Moves fs s (s.takeDgram o.dg).1 := Moves.mono (State.takeDgram_moves _ _) (sub_of hs rfl)
  have hans : ∀ (u : State) (j k n : Nat) (st : Status) (bs : List Nat), Moves fs s u → Moves fs s (u.objAnswer j k n st bs) :=
    fun u j k n st bs h => Moves.step (State.objAnswer_moves _ _ _ _ _ _) (sub_of hs rfl) h
  have hset : ∀ (u : State) (j k : Nat) (x : Option Session), Moves fs s u → Moves fs s (u.setSession j k x) :=
    fun u j k x h => Moves.step (State.setSession_moves _ _ _ _) (sub_of hs rfl) h
  unfold State.objRun
  dsimp only
  refine Moves.ite (fun _ => ha) (fun _ => ?_)
  split
  · exact ha
  · split
    · exact Moves.step (State.send_moves _ _ _ _) (sub_of hs rfl) ha
    · exact Moves.step (State.send_moves _ _ _ _) (sub_of hs rfl) ha
    · refine Moves.ite (fun _ => Moves.step (State.send_moves _ _ _ _) (sub_of hs rfl) ha) (fun _ => ?_)
      refine Moves.ite (fun _ => hans _ _ _ _ _ _ (hset _ _ _ _ ha)) (fun _ => ?_)
      refine Moves.ite (fun _ => hans _ _ _ _ _ _ (hset _ _ _ _ ha)) (fun _ => ?_)
      refine Moves.ite (fun _ => hans _ _ _ _ _ _ (hset _ _ _ _ ha)) (fun _ => ?_)
      refine Moves.ite (fun _ => hans _ _ _ _ _ _ (hset _ _ _ _ ha)) (fun _ => ?_)
      split
      · exact hans _ _ _ _ _ _ (hset _ _ _ _ ha)
      · split
        · exact hans _ _ _ _ _ _ ((hset _ _ _ _ ha).trans (hf _ _ _))
        · exact hset _ _ _ _ ((hset _ _ _ _ ha).trans (hf _ _ _))

theorem State.decided_moves (s : State) (a1) (a2) (a3) : Moves [.hst] s (@State.decided s a1 a2 a3) := by
  unfold State.decided
  dsimp only
  refine Moves.step (State.setPart_moves _ _ _ ?_) rfl ?_
  · exact fun h => h.get _
  · exact Moves.refl _ _

theorem State.endMaintenance_moves (s : State) : Moves [.hst] s (@State.endMaintenance s) := by
  unfold State.endMaintenance
  dsimp only
  refine Moves.upd_hst rfl ?_ ?_
  · exact fun h => h
  · exact Moves.refl _ _

theorem State.endSessions_moves (s : State) : Moves [.hst] s (@State.endSessions s) := by
  unfold State.endSessions
  refine Moves.upd_hst rfl ?_ ?_
  · exact fun h => h
  · exact Moves.refl _ _

theorem State.linksDown_moves (s : State) : Moves [.regs, .hst, .evt, .blk 0x11, .blk 0x13] s (@State.linksDown s) := by
  unfold State.linksDown
  dsimp only
  refine Moves.foldl _ _ (fun _ _ => ?_) ?_
  · refine Moves.step (State.raise_moves _ _ _ _ _ _ _) rfl ?_
    exact Moves.refl _ _
  · refine Moves.upd_hst rfl ?_ ?_
    · exact fun h => h
    · exact Moves.refl _ _

end Sys2Proof.Machine
end

