-- ==== Sys2Proof/Laws/Selvedge.lean ====
section
/-!
SUPPORT. How far each operation of Machine/Selvedge.lean can change the state.
-/

namespace Sys2Proof.Machine
open Sys2Proof

theorem State.archive_moves (s : State) (a1) (a2) (a3) : Moves [.regs, .bem, .blk 0x0F] s (@State.archive s a1 a2 a3) := by
  unfold State.archive
  refine Moves.ite (fun _ => ?_) (fun _ => ?_)
  · refine Moves.step (State.cntW_moves 15 _ _ _ rfl) rfl ?_
    exact Moves.refl _ _
  · refine Moves.upd_bem rfl ?_
    exact Moves.refl _ _

theorem State.journalState_moves (s : State) : Moves [.regs, .wrp, .hst, .evt, .blk 0x11, .blk 0x13] s (@State.journalState s) := by
  unfold State.journalState
  refine Moves.ite (fun _ => ?_) (fun _ => ?_)
  · refine Moves.ite (fun _ => ?_) (fun _ => ?_)
    · refine Moves.step (State.endEv_moves _ _ _) rfl ?_
      refine Moves.upd_wrp rfl ?_
      exact Moves.refl _ _
    · exact Moves.refl _ _
  · refine Moves.ite (fun _ => ?_) (fun _ => ?_)
    · exact Moves.refl _ _
    · refine Moves.step (State.raise_moves _ _ _ _ _ _ _) rfl ?_
      refine Moves.upd_wrp rfl ?_
      exact Moves.refl _ _

theorem State.cardState_moves (s : State) (a1) (a2) : Moves [.regs, .slv, .hst, .par, .evt, .nand, .out, .blk 0x0C, .blk 0x11, .blk 0x13] s (@State.cardState s a1 a2) := by
  unfold State.cardState
  dsimp only
  refine Moves.step (State.raise_moves _ _ _ _ _ _ _) rfl ?_
  refine Moves.step (State.audit_moves _ _) rfl ?_
  refine Moves.step (State.journalIf_moves _ _ _) rfl ?_
  refine Moves.step (State.setCard_moves _ _ _) rfl ?_
  exact Moves.refl _ _

theorem State.activateCard_moves (s : State) (a1) (a2) : Moves [.regs, .slv, .hst, .par, .evt, .nand, .out, .blk 0x0C, .blk 0x11, .blk 0x13] s (@State.activateCard s a1 a2) := by
  unfold State.activateCard
  dsimp only
  refine Moves.step (State.cardState_moves _ _ _) rfl ?_
  refine Moves.upd_slv rfl ?_
  refine Moves.foldl _ _ (fun _ _ => ?_) ?_
  · refine Moves.step (State.cardState_moves _ _ _) rfl ?_
    exact Moves.refl _ _
  · exact Moves.refl _ _

theorem State.openDay_moves (s : State) (a1) (a2) : Moves [.slv] s (@State.openDay s a1 a2) := by
  unfold State.openDay
  dsimp only
  refine Moves.upd_slv rfl ?_
  exact Moves.refl _ _

theorem State.buildDay_moves (s : State) (a1) (a2) (a3) : Moves [.regs, .slv, .bem, .par, .out, .blk 0x0F] s (@State.buildDay s a1 a2 a3) := by
  unfold State.buildDay
  split
  · exact Moves.refl _ _
  · refine Moves.ite (fun _ => ?_) (fun _ => ?_)
    · exact Moves.refl _ _
    · split
      · exact Moves.refl _ _
      · dsimp only
        refine Moves.step (State.archive_moves _ _ _ _) rfl ?_
        refine Moves.step (State.journal_moves _ _ _) rfl ?_
        refine Moves.upd_slv rfl ?_
        refine Moves.foldl _ _ (fun _ _ => ?_) ?_
        · refine Moves.step (State.setLch_moves _ _ _) rfl ?_
          exact Moves.refl _ _
        · exact Moves.refl _ _

theorem State.buildDaysOf_moves (s : State) (a1) : Moves [.regs, .slv, .bem, .par, .out, .blk 0x0F] s (@State.buildDaysOf s a1) := by
  unfold State.buildDaysOf
  dsimp only
  refine Moves.foldl _ _ (fun _ _ => ?_) ?_
  · refine Moves.step (State.buildDay_moves _ _ _ _) rfl ?_
    exact Moves.refl _ _
  · exact Moves.refl _ _

theorem State.creditOuts_moves (s : State) (a1) (a2) (a3) : Moves [.slv] s (@State.creditOuts s a1 a2 a3) := by
  unfold State.creditOuts
  split
  · exact Moves.refl _ _
  · refine Moves.upd_slv rfl ?_
    exact Moves.refl _ _

theorem State.note_moves (s : State) (a1) (a2) : Moves [.regs, .slv, .hst, .par, .evt, .nand, .out, .blk 0x0C, .blk 0x11, .blk 0x13] s (@State.note s a1 a2) := by
  unfold State.note
  dsimp only
  split
  · refine Moves.step (State.cntW_moves 12 _ _ _ rfl) rfl ?_
    refine Moves.step (State.raise_moves _ _ _ _ _ _ _) rfl ?_
    refine Moves.step (State.journalIf_moves _ _ _) rfl ?_
    exact Moves.refl _ _
  · refine Moves.step (State.raise_moves _ _ _ _ _ _ _) rfl ?_
    refine Moves.step (State.journalIf_moves _ _ _) rfl ?_
    exact Moves.refl _ _
  · refine Moves.step (State.holdChan_moves _ _ _ _) rfl ?_
    exact Moves.refl _ _
  · refine Moves.step (State.raise_moves _ _ _ _ _ _ _) rfl ?_
    refine Moves.step (State.journalIf_moves _ _ _) rfl ?_
    exact Moves.refl _ _
  · refine Moves.step (State.creditOuts_moves _ _ _ _) rfl ?_
    exact Moves.refl _ _

theorem State.notes_moves (s : State) (a1) (a2) : Moves [.regs, .slv, .hst, .par, .evt, .nand, .out, .blk 0x0C, .blk 0x11, .blk 0x13] s (@State.notes s a1 a2) := by
  unfold State.notes
  refine Moves.foldl _ _ (fun _ _ => ?_) ?_
  · refine Moves.step (State.note_moves _ _ _) rfl ?_
    exact Moves.refl _ _
  · exact Moves.refl _ _

theorem State.takeBook_moves (s : State) (a1) (a2) : Moves [.regs, .slv, .hst, .par, .evt, .nand, .out, .blk 0x0C, .blk 0x11, .blk 0x13] s (@State.takeBook s a1 a2) := by
  unfold State.takeBook
  refine Moves.step (State.notes_moves _ _ _) rfl ?_
  refine Moves.step (State.cntW_moves 12 _ _ _ rfl) rfl ?_
  refine Moves.step (State.setLch_moves _ _ _) rfl ?_
  exact Moves.refl _ _

theorem State.boundarySettle_moves (s : State) (a1) (a2) : Moves [.regs, .slv, .hst, .par, .evt, .nand, .out, .blk 0x0C, .blk 0x11, .blk 0x13] s (@State.boundarySettle s a1 a2) := by
  unfold State.boundarySettle
  dsimp only
  refine Moves.ite (fun _ => ?_) (fun _ => ?_)
  · exact Moves.refl _ _
  · refine Moves.step (State.takeBook_moves _ _ _) rfl ?_
    exact Moves.refl _ _

theorem State.closeSet_moves (s : State) (a1) : Moves [.slv] s (@State.closeSet s a1) := by
  unfold State.closeSet
  dsimp only
  refine Moves.upd_slv rfl ?_
  exact Moves.refl _ _

theorem State.boundary_moves (s : State) (a1) : Moves [.regs, .slv, .bem, .hst, .par, .evt, .nand, .out, .blk 0x0C, .blk 0x0F, .blk 0x11, .blk 0x13] s (@State.boundary s a1) := by
  unfold State.boundary
  dsimp only
  refine Moves.step (State.cntW_moves 12 _ _ _ rfl) rfl ?_
  refine Moves.step (State.journal_moves _ _ _) rfl ?_
  refine Moves.upd_slv rfl ?_
  refine Moves.foldl _ _ (fun _ _ => ?_) ?_
  · refine Moves.step (State.closeSet_moves _ _) rfl ?_
    exact Moves.refl _ _
  · refine Moves.foldl _ _ (fun _ _ => ?_) ?_
    · refine Moves.step (State.cardState_moves _ _ _) rfl ?_
      exact Moves.refl _ _
    · refine Moves.foldl _ _ (fun _ _ => ?_) ?_
      · refine Moves.step (State.activateCard_moves _ _ _) rfl ?_
        exact Moves.refl _ _
      · refine Moves.foldl _ _ (fun _ _ => ?_) ?_
        · refine Moves.step (State.buildDaysOf_moves _ _) rfl ?_
          exact Moves.refl _ _
        · refine Moves.foldl _ _ (fun _ _ => ?_) ?_
          · refine Moves.step (State.openDay_moves _ _ _) rfl ?_
            exact Moves.refl _ _
          · refine Moves.foldl _ _ (fun _ _ => ?_) ?_
            · refine Moves.step (State.boundarySettle_moves _ _ _) rfl ?_
              exact Moves.refl _ _
            · exact Moves.refl _ _

theorem State.boundaries_moves (a0) (s : State) : Moves [.regs, .slv, .bem, .hst, .par, .evt, .nand, .out, .blk 0x0C, .blk 0x0F, .blk 0x11, .blk 0x13] s (@State.boundaries a0 s).1 := by
  induction a0 generalizing s with
  | zero => exact Moves.refl _ _
  | succ n ih =>
    unfold State.boundaries
    split
    · exact Moves.refl _ _
    · exact (Moves.mono (State.boundary_moves _ _) rfl).trans (ih _)

theorem State.dispose_moves (s : State) (a1) (a2) : Moves [.regs, .slv, .blk 0x0C] s (@State.dispose s a1 a2) := by
  unfold State.dispose
  refine Moves.upd_regs_slv rfl ?_ ?_ ?_
  · exact fun b hb => blk_regPut _ 0x0C (by split <;> decide) (by decide) b hb
  · exact fun h => wf_regPut h _ _
  · exact Moves.refl _ _

theorem State.copyFactor_moves (s : State) (a1) (a2) (a3) : Moves [.bal] s (@State.copyFactor s a1 a2 a3) := by
  unfold State.copyFactor
  refine Moves.upd_bal rfl ?_
  exact Moves.refl _ _

theorem State.penRange_moves (s : State) (a1) (a2) (a3) (a4) : Moves [.regs, .pen, .hst, .evt, .blk 0x11, .blk 0x13] s (@State.penRange s a1 a2 a3 a4) := by
  unfold State.penRange
  refine Moves.ite (fun _ => ?_) (fun _ => ?_)
  · exact Moves.refl _ _
  · dsimp only
    refine Moves.ite (fun _ => ?_) (fun _ => ?_)
    · exact Moves.refl _ _
    · refine Moves.step (State.raise_moves _ _ _ _ _ _ _) rfl ?_
      refine Moves.upd_pen rfl ?_
      exact Moves.refl _ _

/-- The PEN counters keep the registers' canonical form. -/
theorem wf_penCounts {m : Store Word} (h : Store.wf regReset m = true) (o : PenOut) : Store.wf regReset (penCounts m o) = true := by
  have key : ∀ (m : Store Word) (b : Bool) (k : Nat), Store.wf regReset m = true →
      Store.wf regReset (if b then regBumpW m k else m) = true := by
    intro m b k h
    split
    · exact wf_regBumpW h _ _
    · exact h
  unfold penCounts
  dsimp only
  have hm : Store.wf regReset (regBumpW m (R.PEN_CNT_k + 4 * 0)) = true := wf_regBumpW h _ _
  split
  · exact wf_regBumpS (key _ _ _ (key _ _ _ (key _ _ _ (key _ _ _ (key _ _ _ hm))))) _ _
  · exact key _ _ _ (key _ _ _ (key _ _ _ (key _ _ _ (key _ _ _ hm))))

/-- The PEN counters leave the registers of other blocks alone. -/
theorem blk_penCounts {m : Store Word} (o : PenOut) {c : Fin 20} (h : c ≠ 0x0B) {a : Nat} (ha : a / 0x10000 = c.val) :
    Store.get regReset (penCounts m o) a = Store.get regReset m a := by
  have hne : ∀ k, k / 0x10000 = 0x0B → a ≠ k := by
    rintro k hk rfl
    exact h (Fin.ext (ha.symm.trans hk))
  have hp : ∀ (m : Store Word) (k : Nat) (w : Word), k / 0x10000 = 0x0B →
      Store.get regReset (regPut m k w) a = Store.get regReset m a :=
    fun m k w hk => (get_regPut ..).trans (if_neg (hne k hk))
  have key : ∀ (m : Store Word) (b : Bool) (k : Nat), k / 0x10000 = 0x0B →
      Store.get regReset (if b then regBumpW m k else m) a = Store.get regReset m a := by
    intro m b k hk
    split
    · exact hp m k _ hk
    · rfl
  unfold penCounts
  dsimp only
  have hm : Store.get regReset (regBumpW m (R.PEN_CNT_k + 4 * 0)) a = Store.get regReset m a := hp m _ _ rfl
  split
  · exact (hp _ _ _ rfl).trans ((key _ _ _ rfl).trans ((key _ _ _ rfl).trans ((key _ _ _ rfl).trans ((key _ _ _ rfl).trans ((key _ _ _ rfl).trans hm)))))
  · exact (key _ _ _ rfl).trans ((key _ _ _ rfl).trans ((key _ _ _ rfl).trans ((key _ _ _ rfl).trans ((key _ _ _ rfl).trans hm))))

theorem State.decideReading_moves (s : State) (a1) : Moves [.regs, .pen, .slv, .bal, .bem, .hst, .par, .evt, .nand, .out, .blk 0x0B, .blk 0x0C, .blk 0x0F, .blk 0x11, .blk 0x13] s (@State.decideReading s a1) := by
  unfold State.decideReading
  dsimp only
  refine Moves.ite (fun _ => ?_) (fun _ => ?_)
  · refine Moves.step (State.dispose_moves _ _ _) rfl ?_
    exact Moves.refl _ _
  · refine Moves.ite (fun _ => ?_) (fun _ => ?_)
    · refine Moves.step (State.dispose_moves _ _ _) rfl ?_
      exact Moves.refl _ _
    · refine Moves.ite (fun _ => ?_) (fun _ => ?_)
      · refine Moves.step (State.dispose_moves _ _ _) rfl ?_
        exact Moves.refl _ _
      · refine Moves.ite (fun _ => ?_) (fun _ => ?_)
        · refine Moves.step (State.dispose_moves _ _ _) rfl ?_
          exact Moves.refl _ _
        · refine Moves.ite (fun _ => ?_) (fun _ => ?_)
          · refine Moves.step (State.dispose_moves _ _ _) rfl ?_
            refine Moves.step (State.journal_moves _ _ _) rfl ?_
            refine Moves.step (State.setLch_moves _ _ _) rfl ?_
            exact Moves.refl _ _
          · split
            · refine Moves.step (State.dispose_moves _ _ _) rfl ?_
              refine Moves.step (State.buildDaysOf_moves _ _) rfl ?_
              split
              · refine Moves.step (State.copyFactor_moves _ _ _ _) rfl ?_
                refine Moves.step (State.penRange_moves _ _ _ _ _) rfl ?_
                refine Moves.step (State.journal_moves _ _ _) rfl ?_
                refine Moves.step (State.notes_moves _ _ _) rfl ?_
                refine Moves.step (State.cntW_moves 12 _ _ _ rfl) rfl ?_
                refine Moves.upd_regs rfl ?_ ?_ ?_
                · (intro b hb a ha; split <;> first | rfl | exact blk_penCounts _ (by rintro rfl; exact hb (by decide)) ha)
                · (intro h; split <;> first | exact h | exact wf_penCounts h _)
                · refine Moves.step (State.setLch_moves _ _ _) rfl ?_
                  exact Moves.refl _ _
              · refine Moves.step (State.journal_moves _ _ _) rfl ?_
                refine Moves.step (State.notes_moves _ _ _) rfl ?_
                refine Moves.step (State.cntW_moves 12 _ _ _ rfl) rfl ?_
                refine Moves.upd_regs rfl ?_ ?_ ?_
                · (intro b hb a ha; split <;> first | rfl | exact blk_penCounts _ (by rintro rfl; exact hb (by decide)) ha)
                · exact fun h => h
                · refine Moves.step (State.setLch_moves _ _ _) rfl ?_
                  exact Moves.refl _ _
            · refine Moves.ite (fun _ => ?_) (fun _ => ?_)
              · refine Moves.step (State.dispose_moves _ _ _) rfl ?_
                refine Moves.step (State.journal_moves _ _ _) rfl ?_
                refine Moves.step (State.setLch_moves _ _ _) rfl ?_
                exact Moves.refl _ _
              · refine Moves.step (State.dispose_moves _ _ _) rfl ?_
                exact Moves.refl _ _

theorem execBoundary_ends (s : State) : Ends [.regs, .slv, .bem, .hst, .par, .evt, .nand, .out, .blk 0x0C, .blk 0x0F, .blk 0x11, .blk 0x13] s (@execBoundary s) := by
  unfold execBoundary
  refine Ends.ite (fun _ => ?_) (fun _ => ?_)
  · split
    · refine Ends.next ?_
      exact Moves.refl _ _
    · refine Ends.next ?_
      refine Moves.step (State.boundary_moves _ _) rfl ?_
      exact Moves.refl _ _
  · refine Ends.next ?_
    exact Moves.refl _ _

theorem execSealTreeBuilt_ends (s : State) : Ends [.slv, .key] s (@execSealTreeBuilt s) := by
  unfold execSealTreeBuilt
  split
  · refine Ends.next ?_
    exact Moves.refl _ _
  · dsimp only
    refine Ends.next ?_
    refine Moves.upd_slv_key rfl ?_
    exact Moves.refl _ _

theorem execSlvReading_ends (s : State) : Ends [.regs, .pen, .slv, .bal, .bem, .hst, .par, .evt, .nand, .out, .blk 0x0B, .blk 0x0C, .blk 0x0F, .blk 0x11, .blk 0x13] s (@execSlvReading s) := by
  unfold execSlvReading
  split
  · refine Ends.next ?_
    exact Moves.refl _ _
  · refine Ends.next ?_
    refine Moves.ite (fun _ => ?_) (fun _ => ?_)
    · exact Moves.refl _ _
    · refine Moves.step (State.decideReading_moves _ _) rfl ?_
      refine Moves.upd_slv rfl ?_
      exact Moves.refl _ _

theorem execSealSigned_ends (a0) (s : State) : Ends [.regs, .slv, .key, .hst, .par, .evt, .nand, .out, .blk 0x0C, .blk 0x11, .blk 0x13] s (@execSealSigned a0 s) := by
  unfold execSealSigned
  split
  · refine Ends.ite (fun _ => ?_) (fun _ => ?_)
    · refine Ends.next ?_
      refine Moves.upd_key rfl ?_
      exact Moves.refl _ _
    · dsimp only
      refine Ends.next ?_
      refine Moves.step (State.cntS_moves 12 _ _ _ rfl) rfl ?_
      refine Moves.step (State.raise_moves _ _ _ _ _ _ _) rfl ?_
      refine Moves.step (State.journalIf_moves _ _ _) rfl ?_
      refine Moves.upd_slv_key_nand rfl ?_
      exact Moves.refl _ _
  · refine Ends.next ?_
    exact Moves.refl _ _

end Sys2Proof.Machine
end

