-- ==== Sys2Proof/Laws/Outputs.lean ====
section
/-!
SUPPORT. How far each operation of Machine/Outputs.lean can change the state.
-/

namespace Sys2Proof.Machine
open Sys2Proof

theorem State.legalEffect_moves (s : State) : Moves [.slv] s (@State.legalEffect s) := by
  unfold State.legalEffect
  split
  · exact Moves.refl _ _
  · refine Moves.ite (fun _ => ?_) (fun _ => ?_)
    · exact Moves.refl _ _
    · refine Moves.upd_slv rfl ?_
      exact Moves.refl _ _

theorem State.cutPulses_moves (s : State) : Moves [.slv] s (@State.cutPulses s) := by
  unfold State.cutPulses
  refine Moves.upd_slv rfl ?_
  exact Moves.refl _ _

theorem State.cutAtT0_moves (s : State) : Moves [.slv, .par, .out] s (@State.cutAtT0 s) := by
  unfold State.cutAtT0
  dsimp only
  refine Moves.ite (fun _ => ?_) (fun _ => ?_)
  · refine Moves.step (State.journal_moves _ _ _) rfl ?_
    refine Moves.step (State.cutPulses_moves _) rfl ?_
    exact Moves.refl _ _
  · refine Moves.step (State.cutPulses_moves _) rfl ?_
    exact Moves.refl _ _

theorem State.ckptCycleDone_moves (s : State) : Moves [.regs, .bem, .hst, .evt, .blk 0x11, .blk 0x13] s (@State.ckptCycleDone s) := by
  unfold State.ckptCycleDone
  dsimp only
  refine Moves.ite (fun _ => ?_) (fun _ => ?_)
  · refine Moves.step (State.endEv_moves _ _ _) rfl ?_
    refine Moves.ite (fun _ => ?_) (fun _ => ?_)
    · refine Moves.step (State.endEv_moves _ _ _) rfl ?_
      refine Moves.upd_bem rfl ?_
      exact Moves.refl _ _
    · refine Moves.upd_bem rfl ?_
      exact Moves.refl _ _
  · refine Moves.ite (fun _ => ?_) (fun _ => ?_)
    · refine Moves.step (State.endEv_moves _ _ _) rfl ?_
      refine Moves.upd_bem rfl ?_
      exact Moves.refl _ _
    · refine Moves.upd_bem rfl ?_
      exact Moves.refl _ _

theorem State.serveSlice_moves (s : State) (a1) (a2) : Moves [.par, .out] s (@State.serveSlice s a1 a2) := by
  unfold State.serveSlice
  split
  · exact Moves.refl _ _
  · dsimp only
    refine Moves.ite (fun _ => ?_) (fun _ => ?_)
    · exact Moves.refl _ _
    · refine Moves.ite (fun _ => ?_) (fun _ => ?_)
      · refine Moves.upd_par rfl ?_
        refine Moves.step (State.pairSend_moves _ _) rfl ?_
        exact Moves.refl _ _
      · refine Moves.step (State.pairSend_moves _ _) rfl ?_
        refine Moves.upd_par rfl ?_
        refine Moves.step (State.pairSend_moves _ _) rfl ?_
        exact Moves.refl _ _

theorem State.copySlice_moves (s : State) : Moves [.regs, .slv, .bem, .hst, .par, .evt, .nand, .out, .blk 0x11, .blk 0x13] s (@State.copySlice s) := by
  unfold State.copySlice
  dsimp only
  refine Moves.ite (fun _ => ?_) (fun _ => ?_)
  · refine Moves.step (State.ckptCycleDone_moves _) rfl ?_
    refine Moves.step (State.serveSlice_moves _ _ _) rfl ?_
    refine Moves.ite (fun _ => ?_) (fun _ => ?_)
    · refine Moves.step (State.journal_moves _ _ _) rfl ?_
      refine Moves.upd_slv_nand rfl ?_
      exact Moves.refl _ _
    · refine Moves.step (State.journal_moves _ _ _) rfl ?_
      refine Moves.step (State.journal_moves _ _ _) rfl ?_
      refine Moves.upd_slv_nand rfl ?_
      exact Moves.refl _ _
  · refine Moves.step (State.serveSlice_moves _ _ _) rfl ?_
    refine Moves.ite (fun _ => ?_) (fun _ => ?_)
    · refine Moves.step (State.journal_moves _ _ _) rfl ?_
      refine Moves.upd_slv_nand rfl ?_
      exact Moves.refl _ _
    · refine Moves.step (State.journal_moves _ _ _) rfl ?_
      refine Moves.step (State.journal_moves _ _ _) rfl ?_
      refine Moves.upd_slv_nand rfl ?_
      exact Moves.refl _ _

theorem State.setOut_moves (s : State) (a1) (a2) : Moves [.slv] s (@State.setOut s a1 a2) := by
  unfold State.setOut
  refine Moves.upd_slv rfl ?_
  exact Moves.refl _ _

theorem execLegalPulseStart_ends (a0) (a1) (s : State) : Ends [.tim, .slv, .par, .out] s (@execLegalPulseStart a0 a1 s) := by
  unfold execLegalPulseStart
  dsimp only
  split
  · refine Ends.next ?_
    refine Moves.step (State.reach_moves _ _) rfl ?_
    exact Moves.refl _ _
  · refine Ends.ite (fun _ => ?_) (fun _ => ?_)
    · refine Ends.next ?_
      refine Moves.step (State.reach_moves _ _) rfl ?_
      exact Moves.refl _ _
    · refine Ends.ite (fun _ => ?_) (fun _ => ?_)
      · refine Ends.next ?_
        refine Moves.step (State.setOut_moves _ _ _) rfl ?_
        refine Moves.step (State.journal_moves _ _ _) rfl ?_
        refine Moves.step (State.reach_moves _ _) rfl ?_
        exact Moves.refl _ _
      · refine Ends.ite (fun _ => ?_) (fun _ => ?_)
        · refine Ends.next ?_
          refine Moves.step (State.reach_moves _ _) rfl ?_
          exact Moves.refl _ _
        · refine Ends.next ?_
          refine Moves.step (State.emit_moves _ _) rfl ?_
          refine Moves.step (State.setOut_moves _ _ _) rfl ?_
          refine Moves.step (State.reach_moves _ _) rfl ?_
          exact Moves.refl _ _

theorem execLegalCheckpointSlice_ends (s : State) : Ends [.regs, .slv, .bem, .hst, .par, .evt, .nand, .out, .blk 0x11, .blk 0x13] s (@execLegalCheckpointSlice s) := by
  unfold execLegalCheckpointSlice
  refine Ends.ite (fun _ => ?_) (fun _ => ?_)
  · refine Ends.next ?_
    refine Moves.step (State.copySlice_moves _) rfl ?_
    exact Moves.refl _ _
  · refine Ends.next ?_
    exact Moves.refl _ _

theorem execLegalPulseEnd_ends (a0) (a1) (s : State) : Ends [.tim, .slv, .out] s (@execLegalPulseEnd a0 a1 s) := by
  unfold execLegalPulseEnd
  dsimp only
  split
  · refine Ends.next ?_
    refine Moves.step (State.reach_moves _ _) rfl ?_
    exact Moves.refl _ _
  · refine Ends.ite (fun _ => ?_) (fun _ => ?_)
    · refine Ends.next ?_
      refine Moves.step (State.emit_moves _ _) rfl ?_
      refine Moves.step (State.setOut_moves _ _ _) rfl ?_
      refine Moves.step (State.reach_moves _ _) rfl ?_
      exact Moves.refl _ _
    · refine Ends.next ?_
      refine Moves.step (State.reach_moves _ _) rfl ?_
      exact Moves.refl _ _

end Sys2Proof.Machine
end

