-- ==== Sys2Proof/Laws/Authority.lean ====
section
/-!
SUPPORT. How far each operation of Machine/Authority.lean can change the state.
-/

namespace Sys2Proof.Machine
open Sys2Proof

theorem State.legalUnlock_moves (s : State) : Moves [.slv] s (@State.legalUnlock s).1 := by
  unfold State.legalUnlock
  refine Moves.ite_fst (fun _ => ?_) (fun _ => ?_)
  · dsimp only
    exact Moves.refl _ _
  · dsimp only
    refine Moves.upd_slv rfl ?_
    exact Moves.refl _ _

theorem State.authRecord_moves (s : State) (a1) (a2) (a3) (a4) : Moves [.regs, .slv, .hst, .par, .evt, .nand, .out, .blk 0x0C, .blk 0x11, .blk 0x13] s (@State.authRecord s a1 a2 a3 a4) := by
  unfold State.authRecord
  refine Moves.step (State.audit_moves _ _) rfl ?_
  refine Moves.step (State.journalIf_moves _ _ _) rfl ?_
  exact Moves.refl _ _

theorem State.reverify_moves (s : State) (a1) (a2) : Moves [.regs, .slv, .hst, .par, .evt, .nand, .out, .blk 0x0C, .blk 0x11, .blk 0x13] s (@State.reverify s a1 a2).1 := by
  unfold State.reverify
  split
  · dsimp only
    refine Moves.step (State.raise_moves _ _ _ _ _ _ _) rfl ?_
    refine Moves.step (State.audit_moves _ _) rfl ?_
    refine Moves.step (State.journalIf_moves _ _ _) rfl ?_
    refine Moves.upd_slv rfl ?_
    exact Moves.refl _ _
  · dsimp only
    refine Moves.step (State.legalEffect_moves _) rfl ?_
    refine Moves.step (State.endEv_moves _ _ _) rfl ?_
    refine Moves.step (State.audit_moves _ _) rfl ?_
    refine Moves.upd_slv rfl ?_
    refine Moves.step (State.clearCause_moves _ _) rfl ?_
    refine Moves.step (State.clearCause_moves _ _) rfl ?_
    refine Moves.step (State.clearCause_moves _ _) rfl ?_
    exact Moves.refl _ _

theorem State.sealProgram_moves (s : State) : Moves [.otp] s (@State.sealProgram s).1 := by
  unfold State.sealProgram
  refine Moves.ite_fst (fun _ => Moves.refl _ _) (fun _ => ?_)
  refine Moves.ite_fst (fun _ => Moves.refl _ _) (fun h => ?_)
  split
  · exact Moves.refl _ _
  · refine Moves.upd_otp rfl ⟨⟨rfl, List.prefix_append _ _, fun _ => Nat.le_refl _⟩, fun _ => ?_⟩ (Moves.refl _ _)
    simp
    omega

theorem State.authChan_moves {fs : List Field} {s : State} (o : ObjReq) (cmd : Nat) (f : State → Chid → State × Status)
    (hs : ([.regs, .slv, .hst, .par, .evt, .nand, .out, .blk 0x0C, .blk 0x10, .blk 0x11, .blk 0x13] : List Field).all (fun g => fs.contains g) = true) (hf : ∀ u c, Moves fs u (f u c).1) :
    Moves fs s (s.authChan o cmd f) := by
  unfold State.authChan
  refine State.objRun_moves _ _ _ _ (sub_of hs rfl) (fun u x a => ?_)
  dsimp only
  refine Moves.ite_fst (fun _ => Moves.refl _ _) (fun _ => ?_)
  refine Moves.ite_fst (fun _ => Moves.refl _ _) (fun _ => ?_)
  refine Moves.ite_fst (fun _ => Moves.refl _ _) (fun _ => ?_)
  refine Moves.ite_fst (fun _ => Moves.refl _ _) (fun _ => ?_)
  exact Moves.step (State.authRecord_moves _ _ _ _ _) (sub_of hs rfl) (hf _ _)

theorem State.authRun_moves {fs : List Field} {s : State} (o : ObjReq) (cmd arg : Nat) (f : State → State × Status)
    (hs : ([.regs, .slv, .hst, .par, .evt, .nand, .out, .blk 0x0C, .blk 0x10, .blk 0x11, .blk 0x13] : List Field).all (fun g => fs.contains g) = true) (hf : ∀ u, Moves fs u (f u).1) :
    Moves fs s (s.authRun o cmd arg f) := by
  unfold State.authRun
  refine State.objRun_moves _ _ _ _ (sub_of hs rfl) (fun u x a => ?_)
  refine Moves.ite_fst (fun _ => Moves.refl _ _) (fun _ => ?_)
  refine Moves.ite_fst (fun _ => Moves.refl _ _) (fun _ => ?_)
  exact Moves.step (State.authRecord_moves _ _ _ _ _) (sub_of hs rfl) (hf _)

theorem State.releaseChannel_moves (s : State) (a1) : Moves [.regs, .slv, .hst, .par, .evt, .nand, .out, .blk 0x0C, .blk 0x11, .blk 0x13] s (@State.releaseChannel s a1).1 := by
  unfold State.releaseChannel
  dsimp only
  refine Moves.ite_fst (fun _ => ?_) (fun _ => ?_)
  · dsimp only
    exact Moves.refl _ _
  · refine Moves.ite_fst (fun _ => ?_) (fun _ => ?_)
    · dsimp only
      exact Moves.refl _ _
    · dsimp only
      refine Moves.step (State.notes_moves _ _ _) rfl ?_
      refine Moves.step (State.endEv_moves _ _ _) rfl ?_
      refine Moves.step (State.audit_moves _ _) rfl ?_
      refine Moves.step (State.journalIf_moves _ _ _) rfl ?_
      refine Moves.step (State.setLch_moves _ _ _) rfl ?_
      exact Moves.refl _ _

theorem execLegalUnlock_ends (a0) (s : State) : Ends [.regs, .slv, .hst, .par, .evt, .nand, .out, .blk 0x0C, .blk 0x10, .blk 0x11, .blk 0x13] s (@execLegalUnlock a0 s) := by
  unfold execLegalUnlock
  refine Ends.next ?_
  refine Moves.trans ?_ (State.authRun_moves _ _ _ _ rfl (fun _ => ?_))
  · exact Moves.refl _ _
  · refine Moves.step (State.legalUnlock_moves _) rfl ?_
    exact Moves.refl _ _

theorem execReanchorConsent_ends (a0) (s : State) : Ends [.regs, .slv, .hst, .par, .evt, .nand, .out, .blk 0x0C, .blk 0x10, .blk 0x11, .blk 0x13] s (@execReanchorConsent a0 s) := by
  unfold execReanchorConsent
  refine Ends.next ?_
  refine Moves.trans ?_ (State.authChan_moves _ _ _ rfl (fun _ _ => ?_))
  · exact Moves.refl _ _
  · dsimp only
    refine Moves.step (State.setLch_moves _ _ _) rfl ?_
    exact Moves.refl _ _

theorem execReleaseChannel_ends (a0) (s : State) : Ends [.regs, .slv, .hst, .par, .evt, .nand, .out, .blk 0x0C, .blk 0x10, .blk 0x11, .blk 0x13] s (@execReleaseChannel a0 s) := by
  unfold execReleaseChannel
  refine Ends.next ?_
  refine Moves.trans ?_ (State.authChan_moves _ _ _ rfl (fun _ _ => ?_))
  · exact Moves.refl _ _
  · refine Moves.step (State.releaseChannel_moves _ _) rfl ?_
    exact Moves.refl _ _

theorem execSealProgram_ends (a0) (s : State) : Ends [.regs, .slv, .hst, .par, .evt, .otp, .nand, .out, .blk 0x0C, .blk 0x10, .blk 0x11, .blk 0x13] s (@execSealProgram a0 s) := by
  unfold execSealProgram
  refine Ends.next ?_
  refine Moves.trans ?_ (State.authRun_moves _ _ _ _ rfl (fun _ => ?_))
  · exact Moves.refl _ _
  · refine Moves.step (State.sealProgram_moves _) rfl ?_
    exact Moves.refl _ _

theorem execReanchorConsentExpiry_ends (a0) (s : State) : Ends [.slv] s (@execReanchorConsentExpiry a0 s) := by
  unfold execReanchorConsentExpiry
  split
  · refine Ends.next ?_
    exact Moves.refl _ _
  · refine Ends.ite (fun _ => ?_) (fun _ => ?_)
    · refine Ends.next ?_
      refine Moves.step (State.setLch_moves _ _ _) rfl ?_
      exact Moves.refl _ _
    · refine Ends.next ?_
      exact Moves.refl _ _

theorem execReleaseDevice_ends (a0) (s : State) : Ends [.regs, .slv, .hst, .par, .evt, .nand, .out, .blk 0x0C, .blk 0x10, .blk 0x11, .blk 0x13] s (@execReleaseDevice a0 s) := by
  unfold execReleaseDevice
  refine Ends.next ?_
  refine Moves.trans ?_ (State.authRun_moves _ _ _ _ rfl (fun _ => ?_))
  · exact Moves.refl _ _
  · dsimp only
    refine Moves.step (State.clearCause_moves _ _) rfl ?_
    exact Moves.refl _ _

theorem execHoldChannel_ends (a0) (s : State) : Ends [.regs, .slv, .hst, .par, .evt, .nand, .out, .blk 0x0C, .blk 0x10, .blk 0x11, .blk 0x13] s (@execHoldChannel a0 s) := by
  unfold execHoldChannel
  refine Ends.next ?_
  refine Moves.trans ?_ (State.authChan_moves _ _ _ rfl (fun _ _ => ?_))
  · exact Moves.refl _ _
  · dsimp only
    refine Moves.ite (fun _ => ?_) (fun _ => ?_)
    · exact Moves.refl _ _
    · refine Moves.step (State.holdChan_moves _ _ _ _) rfl ?_
      exact Moves.refl _ _

theorem execReverify_ends (a0) (a1) (a2) (s : State) : Ends [.regs, .slv, .hst, .par, .evt, .nand, .out, .blk 0x0C, .blk 0x10, .blk 0x11, .blk 0x13] s (@execReverify a0 a1 a2 s) := by
  unfold execReverify
  refine Ends.next ?_
  refine Moves.trans ?_ (State.authRun_moves _ _ _ _ rfl (fun _ => ?_))
  · exact Moves.refl _ _
  · refine Moves.step (State.reverify_moves _ _ _) rfl ?_
    exact Moves.refl _ _

theorem execHoldDevice_ends (a0) (s : State) : Ends [.regs, .slv, .hst, .par, .evt, .nand, .out, .blk 0x0C, .blk 0x10, .blk 0x11, .blk 0x13] s (@execHoldDevice a0 s) := by
  unfold execHoldDevice
  refine Ends.next ?_
  refine Moves.trans ?_ (State.authRun_moves _ _ _ _ rfl (fun _ => ?_))
  · exact Moves.refl _ _
  · dsimp only
    refine Moves.step (State.setCause_moves _ _) rfl ?_
    exact Moves.refl _ _

end Sys2Proof.Machine
end

