-- ==== Sys2Proof/Laws/Units.lean ====
section
/-!
SUPPORT. How far each operation of Machine/Units.lean can change the state.
-/

namespace Sys2Proof.Machine
open Sys2Proof

theorem State.unitDown_moves (s : State) (a1) (a2) : Moves [.regs, .sys, .hst, .evt, .blk 0x11, .blk 0x13] s (@State.unitDown s a1 a2) := by
  unfold State.unitDown
  refine Moves.ite (fun _ => ?_) (fun _ => ?_)
  · exact Moves.refl _ _
  · dsimp only
    refine Moves.step (State.raise_moves _ _ _ _ _ _ _) rfl ?_
    refine Moves.step (State.cntS_moves 19 _ _ _ rfl) rfl ?_
    refine Moves.upd_sys_evt rfl ?_ ?_
    · exact fun h => h
    · exact Moves.refl _ _

theorem State.unitError_moves (s : State) (a1) (a2) (a3) : Moves [.evt] s (@State.unitError s a1 a2 a3).1 := by
  unfold State.unitError
  dsimp only
  refine Moves.upd_evt rfl ?_ ?_
  · exact fun h => h
  · exact Moves.refl _ _

end Sys2Proof.Machine
end

