-- ==== Sys2Proof/Laws/Pen.lean ====
section
/-!
SUPPORT. How far each operation of Machine/Pen.lean can change the state.
-/

namespace Sys2Proof.Machine
open Sys2Proof

theorem State.setJob_moves (s : State) (a1) (a2) : Moves [.pen] s (@State.setJob s a1 a2) := by
  unfold State.setJob
  refine Moves.upd_pen rfl ?_
  exact Moves.refl _ _

theorem State.jobEnds_moves (s : State) (a1) (a2) : Moves [.regs, .pen, .hst, .evt, .blk 0x11, .blk 0x13] s (@State.jobEnds s a1 a2) := by
  unfold State.jobEnds
  dsimp only
  refine Moves.step (State.raise_moves _ _ _ _ _ _ _) rfl ?_
  split
  · refine Moves.step (State.setJob_moves _ _ _) rfl ?_
    refine Moves.upd_pen rfl ?_
    exact Moves.refl _ _
  · refine Moves.step (State.setJob_moves _ _ _) rfl ?_
    refine Moves.step (State.setJob_moves _ _ _) rfl ?_
    refine Moves.upd_pen rfl ?_
    exact Moves.refl _ _

theorem State.abortJob_moves (s : State) (a1) (a2) : Moves [.regs, .pen, .hst, .evt, .blk 0x11, .blk 0x13] s (@State.abortJob s a1 a2) := by
  unfold State.abortJob
  refine Moves.ite (fun _ => ?_) (fun _ => ?_)
  · refine Moves.step (State.jobEnds_moves _ _ _) rfl ?_
    exact Moves.refl _ _
  · exact Moves.refl _ _

theorem State.abortJobs_moves (s : State) (a1) : Moves [.regs, .pen, .hst, .evt, .blk 0x11, .blk 0x13] s (@State.abortJobs s a1) := by
  unfold State.abortJobs
  refine Moves.foldl _ _ (fun _ _ => ?_) ?_
  · refine Moves.step (State.abortJob_moves _ _ _) rfl ?_
    exact Moves.refl _ _
  · exact Moves.refl _ _

theorem State.penCheck_moves (s : State) : Moves [.regs, .pen, .slv, .hst, .par, .evt, .nand, .out, .blk 0x0C, .blk 0x11, .blk 0x13] s (@State.penCheck s) := by
  unfold State.penCheck
  refine Moves.ite (fun _ => ?_) (fun _ => ?_)
  · exact Moves.refl _ _
  · refine Moves.ite (fun _ => ?_) (fun _ => ?_)
    · refine Moves.upd_pen rfl ?_
      exact Moves.refl _ _
    · dsimp only
      refine Moves.step (State.abortJobs_moves _ _) rfl ?_
      refine Moves.step (State.raise_moves _ _ _ _ _ _ _) rfl ?_
      refine Moves.step (State.setCause_moves _ _) rfl ?_
      exact Moves.refl _ _

theorem State.failPipe_moves (s : State) (a1) : Moves [.regs, .sys, .pen, .slv, .hst, .par, .evt, .nand, .out, .blk 0x0C, .blk 0x11, .blk 0x13] s (@State.failPipe s a1) := by
  unfold State.failPipe
  refine Moves.ite (fun _ => ?_) (fun _ => ?_)
  · exact Moves.refl _ _
  · dsimp only
    refine Moves.step (State.penCheck_moves _) rfl ?_
    refine Moves.step (State.raise_moves _ _ _ _ _ _ _) rfl ?_
    refine Moves.upd_pen rfl ?_
    refine Moves.step (State.unitDown_moves _ _ _) rfl ?_
    exact Moves.refl _ _

theorem State.submitJob_moves (s : State) (a1) (a2) : Moves [.pen] s (@State.submitJob s a1 a2) := by
  unfold State.submitJob
  dsimp only
  refine Moves.step (State.setJob_moves _ _ _) rfl ?_
  refine Moves.upd_pen rfl ?_
  exact Moves.refl _ _

theorem State.penCtrlEff_moves (s : State) (a1) : Moves [.pen] s (@State.penCtrlEff s a1).1 := by
  unfold State.penCtrlEff
  dsimp only
  refine Moves.ite_fst (fun _ => ?_) (fun _ => ?_)
  · dsimp only
    exact Moves.refl _ _
  · dsimp only
    refine Moves.upd_pen rfl ?_
    exact Moves.refl _ _

theorem execPipeDisable_ends (a0) (a1) (s : State) : Ends [.pen, .out] s (@execPipeDisable a0 a1 s) := by
  unfold execPipeDisable
  refine Ends.next ?_
  refine State.writeRow_moves _ _ _ _ rfl ?_ ?_
  · refine Moves.step (State.penCtrlEff_moves _ _) rfl ?_
    exact Moves.refl _ _
  · exact Moves.refl _ _

theorem execPenSelfTest_ends (a0) (a1) (s : State) : Ends [.regs, .sys, .pen, .slv, .hst, .par, .evt, .nand, .out, .blk 0x0B, .blk 0x0C, .blk 0x11, .blk 0x13] s (@execPenSelfTest a0 a1 s) := by
  unfold execPenSelfTest
  refine Ends.next ?_
  refine Moves.ite (fun _ => ?_) (fun _ => ?_)
  · exact Moves.refl _ _
  · refine Moves.step (State.failPipe_moves _ _) rfl ?_
    refine Moves.step (State.cntS_moves 11 _ _ _ rfl) rfl ?_
    exact Moves.refl _ _

theorem execRecomputeJobEnd_ends (a0) (s : State) : Ends [.regs, .pen, .hst, .evt, .blk 0x0B, .blk 0x11, .blk 0x13] s (@execRecomputeJobEnd a0 s) := by
  unfold execRecomputeJobEnd
  refine Ends.next ?_
  dsimp only
  refine Moves.ite (fun _ => ?_) (fun _ => ?_)
  · exact Moves.refl _ _
  · split
    · refine Moves.step (State.raise_moves _ _ _ _ _ _ _) rfl ?_
      refine Moves.step (State.jobEnds_moves _ _ _) rfl ?_
      refine Moves.step (State.cntW_moves 11 _ _ _ rfl) rfl ?_
      exact Moves.refl _ _
    · refine Moves.step (State.jobEnds_moves _ _ _) rfl ?_
      refine Moves.step (State.cntW_moves 11 _ _ _ rfl) rfl ?_
      exact Moves.refl _ _

theorem execPipeEnable_ends (a0) (a1) (s : State) : Ends [.pen, .out] s (@execPipeEnable a0 a1 s) := by
  unfold execPipeEnable
  refine Ends.next ?_
  refine State.writeRow_moves _ _ _ _ rfl ?_ ?_
  · refine Moves.step (State.penCtrlEff_moves _ _) rfl ?_
    exact Moves.refl _ _
  · exact Moves.refl _ _

end Sys2Proof.Machine
end

