-- ==== Sys2Proof/Laws/Cards.lean ====
section
/-!
SUPPORT. How far each operation of Machine/Cards.lean can change the state.
-/

namespace Sys2Proof.Machine
open Sys2Proof

theorem State.cardDecided_moves (s : State) (a1) (a2) (a3) (a4) : Moves [.hst] s (@State.cardDecided s a1 a2 a3 a4) := by
  unfold State.cardDecided
  refine Moves.step (State.decided_moves _ _ _ _) rfl ?_
  refine Moves.step (State.setPart_moves _ _ _ ?_) rfl ?_
  · exact fun h => h.get _
  · exact Moves.refl _ _

theorem State.cardRefused_moves (s : State) (a1) (a2) (a3) (a4) (a5) : Moves [.regs, .slv, .hst, .evt, .blk 0x11, .blk 0x13] s (@State.cardRefused s a1 a2 a3 a4 a5) := by
  unfold State.cardRefused
  dsimp only
  refine Moves.step (State.cardDecided_moves _ _ _ _ _) rfl ?_
  refine Moves.step (State.raise_moves _ _ _ _ _ _ _) rfl ?_
  split
  · exact Moves.refl _ _
  · refine Moves.step (State.setCard_moves _ _ _) rfl ?_
    exact Moves.refl _ _

theorem State.pushCalendars_moves (s : State) (a1) : Moves [.msn] s (@State.pushCalendars s a1) := by
  unfold State.pushCalendars
  split
  · exact Moves.refl _ _
  · dsimp only
    refine Moves.upd_msn rfl ?_
    exact Moves.refl _ _

theorem State.signCard_moves (s : State) (a1) (a2) (a3) (a4) (a5) (a6) : Moves [.regs, .msn, .slv, .hst, .par, .evt, .nand, .out, .blk 0x0C, .blk 0x11, .blk 0x13] s (@State.signCard s a1 a2 a3 a4 a5 a6) := by
  unfold State.signCard
  dsimp only
  refine Moves.ite (fun _ => ?_) (fun _ => ?_)
  · refine Moves.step (State.cardRefused_moves _ _ _ _ _ _) rfl ?_
    exact Moves.refl _ _
  · refine Moves.ite (fun _ => ?_) (fun _ => ?_)
    · refine Moves.step (State.cardDecided_moves _ _ _ _ _) rfl ?_
      refine Moves.step (State.cardState_moves _ _ _) rfl ?_
      refine Moves.step (State.setCard_moves _ _ _) rfl ?_
      exact Moves.refl _ _
    · split
      · refine Moves.step (State.cardRefused_moves _ _ _ _ _ _) rfl ?_
        refine Moves.step (State.cardState_moves _ _ _) rfl ?_
        refine Moves.step (State.setCard_moves _ _ _) rfl ?_
        exact Moves.refl _ _
      · refine Moves.step (State.cardDecided_moves _ _ _ _ _) rfl ?_
        refine Moves.step (State.pushCalendars_moves _ _) rfl ?_
        refine Moves.step (State.cardState_moves _ _ _) rfl ?_
        refine Moves.step (State.setCard_moves _ _ _) rfl ?_
        exact Moves.refl _ _

theorem State.stageCard_moves (s : State) (a1) (a2) : Moves [.regs, .slv, .hst, .par, .evt, .nand, .out, .blk 0x0C, .blk 0x11, .blk 0x13] s (@State.stageCard s a1 a2) := by
  unfold State.stageCard
  split
  · refine Moves.step (State.cardRefused_moves _ _ _ _ _ _) rfl ?_
    exact Moves.refl _ _
  · refine Moves.step (State.cardRefused_moves _ _ _ _ _ _) rfl ?_
    exact Moves.refl _ _
  · refine Moves.step (State.cardDecided_moves _ _ _ _ _) rfl ?_
    refine Moves.step (State.cardState_moves _ _ _) rfl ?_
    refine Moves.step (State.setCard_moves _ _ _) rfl ?_
    exact Moves.refl _ _

theorem State.withdrawCard_moves (s : State) (a1) (a2) (a3) (a4) (a5) : Moves [.regs, .slv, .hst, .par, .evt, .nand, .out, .blk 0x0C, .blk 0x11, .blk 0x13] s (@State.withdrawCard s a1 a2 a3 a4 a5) := by
  unfold State.withdrawCard
  dsimp only
  refine Moves.ite (fun _ => ?_) (fun _ => ?_)
  · refine Moves.step (State.cardRefused_moves _ _ _ _ _ _) rfl ?_
    exact Moves.refl _ _
  · refine Moves.step (State.cardDecided_moves _ _ _ _ _) rfl ?_
    refine Moves.step (State.cardState_moves _ _ _) rfl ?_
    exact Moves.refl _ _

theorem execCardWithdraw_ends (a0) (s : State) : Ends [.regs, .slv, .hst, .par, .evt, .nand, .out, .blk 0x0C, .blk 0x11, .blk 0x13] s (@execCardWithdraw a0 s) := by
  unfold execCardWithdraw
  split
  · refine Ends.next ?_
    refine Moves.step (State.withdrawCard_moves _ _ _ _ _ _) rfl ?_
    refine Moves.upd_slv rfl ?_
    exact Moves.refl _ _
  · refine Ends.next ?_
    exact Moves.refl _ _

theorem execCardSign_ends (a0) (s : State) : Ends [.regs, .msn, .slv, .hst, .par, .evt, .nand, .out, .blk 0x0C, .blk 0x11, .blk 0x13] s (@execCardSign a0 s) := by
  unfold execCardSign
  split
  · refine Ends.next ?_
    refine Moves.step (State.signCard_moves _ _ _ _ _ _ _) rfl ?_
    refine Moves.upd_slv rfl ?_
    exact Moves.refl _ _
  · refine Ends.next ?_
    exact Moves.refl _ _

theorem execCardStage_ends (s : State) : Ends [.regs, .slv, .hst, .par, .evt, .nand, .out, .blk 0x0C, .blk 0x11, .blk 0x13] s (@execCardStage s) := by
  unfold execCardStage
  split
  · refine Ends.next ?_
    refine Moves.step (State.stageCard_moves _ _ _) rfl ?_
    refine Moves.upd_slv rfl ?_
    exact Moves.refl _ _
  · refine Ends.next ?_
    exact Moves.refl _ _

end Sys2Proof.Machine
end

