-- ==== Sys2Proof/Laws/PortOps.lean ====
section
/-!
SUPPORT. How far each operation of Machine/PortOps.lean can change the state.
-/

namespace Sys2Proof.Machine
open Sys2Proof

theorem State.setNbr_moves (s : State) (a1) (a2) : Moves [.net] s (@State.setNbr s a1 a2) := by
  unfold State.setNbr
  refine Moves.upd_net rfl ?_
  exact Moves.refl _ _

theorem State.numbered_moves (s : State) (a1) (a2) : Moves [.net, .fresh] s (@State.numbered s a1 a2).1 := by
  unfold State.numbered
  split
  · dsimp only
    refine Moves.step (State.setNbr_moves _ _ _) rfl ?_
    exact Moves.refl _ _
  · dsimp only
    refine Moves.step (State.used_moves _) rfl ?_
    exact Moves.refl _ _

theorem State.onNbr_moves (s : State) (a1) (a2) (a3) : Moves [.net] s (@State.onNbr s a1 a2 a3) := by
  unfold State.onNbr
  split
  · refine Moves.step (State.setNbr_moves _ _ _) rfl ?_
    exact Moves.refl _ _
  · exact Moves.refl _ _

theorem State.tally_moves (s : State) (a1) (a2) (a3) (a4) : Moves [.net] s (@State.tally s a1 a2 a3 a4) := by
  unfold State.tally
  split
  · exact Moves.refl _ _
  · split
    · refine Moves.step (State.onNbr_moves _ _ _ _) rfl ?_
      exact Moves.refl _ _
    · refine Moves.step (State.onNbr_moves _ _ _ _) rfl ?_
      exact Moves.refl _ _
    · exact Moves.refl _ _

theorem State.plcCnt_moves (s : State) (a1) (a2) : Moves [.regs, .blk 0x06] s (@State.plcCnt s a1 a2) := by
  unfold State.plcCnt
  refine Moves.step (State.cntW_moves 6 _ _ _ (by simp only [portBase]; omega)) rfl ?_
  exact Moves.refl _ _

theorem State.reqBack_moves (s : State) (a1) (a2) : Moves [.msn] s (@State.reqBack s a1 a2) := by
  unfold State.reqBack
  dsimp only
  split
  · exact Moves.refl _ _
  · refine Moves.upd_msn rfl ?_
    exact Moves.refl _ _

theorem State.radCnt_moves (s : State) (a1) (a2) : Moves [.regs, .blk 0x06] s (@State.radCnt s a1 a2) := by
  unfold State.radCnt
  refine Moves.step (State.cntW_moves 6 _ _ _ (by simp only [portBase]; omega)) rfl ?_
  exact Moves.refl _ _

theorem State.portCnt_moves (s : State) (a1) (a2) : Moves [.regs, .blk 0x06] s (@State.portCnt s a1 a2) := by
  unfold State.portCnt
  refine Moves.ite (fun _ => ?_) (fun _ => ?_)
  · refine Moves.step (State.plcCnt_moves _ _ _) rfl ?_
    exact Moves.refl _ _
  · refine Moves.step (State.radCnt_moves _ _ _) rfl ?_
    exact Moves.refl _ _

theorem State.giveBack_moves (s : State) (a1) (a2) (a3) : Moves [.regs, .net, .msn, .out, .blk 0x06] s (@State.giveBack s a1 a2 a3) := by
  unfold State.giveBack
  dsimp only
  split
  · refine Moves.step (State.reqBack_moves _ _ _) rfl ?_
    refine Moves.step (State.emit_moves _ _) rfl ?_
    refine Moves.ite (fun _ => ?_) (fun _ => ?_)
    · refine Moves.step (State.plcCnt_moves _ _ _) rfl ?_
      refine Moves.ite (fun _ => ?_) (fun _ => ?_)
      · refine Moves.step (State.portCnt_moves _ _ _) rfl ?_
        refine Moves.step (State.tally_moves _ _ _ _ _) rfl ?_
        exact Moves.refl _ _
      · refine Moves.step (State.tally_moves _ _ _ _ _) rfl ?_
        exact Moves.refl _ _
    · refine Moves.ite (fun _ => ?_) (fun _ => ?_)
      · refine Moves.step (State.portCnt_moves _ _ _) rfl ?_
        refine Moves.step (State.tally_moves _ _ _ _ _) rfl ?_
        exact Moves.refl _ _
      · refine Moves.step (State.tally_moves _ _ _ _ _) rfl ?_
        exact Moves.refl _ _
  · refine Moves.step (State.emit_moves _ _) rfl ?_
    refine Moves.ite (fun _ => ?_) (fun _ => ?_)
    · refine Moves.step (State.plcCnt_moves _ _ _) rfl ?_
      refine Moves.ite (fun _ => ?_) (fun _ => ?_)
      · refine Moves.step (State.portCnt_moves _ _ _) rfl ?_
        refine Moves.step (State.tally_moves _ _ _ _ _) rfl ?_
        exact Moves.refl _ _
      · refine Moves.step (State.tally_moves _ _ _ _ _) rfl ?_
        exact Moves.refl _ _
    · refine Moves.ite (fun _ => ?_) (fun _ => ?_)
      · refine Moves.step (State.portCnt_moves _ _ _) rfl ?_
        refine Moves.step (State.tally_moves _ _ _ _ _) rfl ?_
        exact Moves.refl _ _
      · refine Moves.step (State.tally_moves _ _ _ _ _) rfl ?_
        exact Moves.refl _ _

theorem State.onPort_moves (s : State) (a1) (a2) : Moves [.ports] s (@State.onPort s a1 a2) := by
  unfold State.onPort
  refine Moves.step (State.setPort_moves _ _ _) rfl ?_
  exact Moves.refl _ _

theorem State.post_moves (s : State) (a1) (a2) : Moves [.regs, .ports, .net, .msn, .fresh, .out, .blk 0x06] s (@State.post s a1 a2) := by
  unfold State.post
  refine Moves.ite (fun _ => ?_) (fun _ => ?_)
  · refine Moves.step (State.giveBack_moves _ _ _ _) rfl ?_
    exact Moves.refl _ _
  · refine Moves.ite (fun _ => ?_) (fun _ => ?_)
    · refine Moves.step (State.giveBack_moves _ _ _ _) rfl ?_
      exact Moves.refl _ _
    · dsimp only
      refine Moves.ite (fun _ => ?_) (fun _ => ?_)
      · refine Moves.step (State.onPort_moves _ _ _) rfl ?_
        refine Moves.step (State.numbered_moves _ _ _) rfl ?_
        exact Moves.refl _ _
      · refine Moves.step (State.onPort_moves _ _ _) rfl ?_
        refine Moves.step (State.numbered_moves _ _ _) rfl ?_
        exact Moves.refl _ _

theorem State.hear_moves (s : State) (a1) (a2) (a3) (a4) : Moves [.regs, .net, .hst, .evt, .blk 0x08, .blk 0x11, .blk 0x13] s (@State.hear s a1 a2 a3 a4).1 := by
  unfold State.hear
  split
  · dsimp only
    refine Moves.step (State.setNbr_moves _ _ _) rfl ?_
    exact Moves.refl _ _
  · dsimp only
    split
    · dsimp only
      refine Moves.step (State.setNbr_moves _ _ _) rfl ?_
      exact Moves.refl _ _
    · dsimp only
      refine Moves.ite (fun _ => ?_) (fun _ => ?_)
      · refine Moves.step (State.raise_moves _ _ _ _ _ _ _) rfl ?_
        refine Moves.upd_net rfl ?_
        refine Moves.step (State.cntW_moves 8 _ _ _ rfl) rfl ?_
        exact Moves.refl _ _
      · refine Moves.step (State.cntW_moves 8 _ _ _ rfl) rfl ?_
        exact Moves.refl _ _

theorem State.heardFrom_moves (s : State) (a1) (a2) (a3) (a4) : Moves [.ports, .net] s (@State.heardFrom s a1 a2 a3 a4) := by
  unfold State.heardFrom
  dsimp only
  split
  · refine Moves.step (State.onPort_moves _ _ _) rfl ?_
    refine Moves.ite (fun _ => ?_) (fun _ => ?_)
    · exact Moves.refl _ _
    · refine Moves.upd_net rfl ?_
      exact Moves.refl _ _
  · refine Moves.ite (fun _ => ?_) (fun _ => ?_)
    · exact Moves.refl _ _
    · refine Moves.upd_net rfl ?_
      exact Moves.refl _ _

theorem State.offAir_moves (s : State) (a1) (a2) : Moves [.ports] s (@State.offAir s a1 a2) := by
  unfold State.offAir
  refine Moves.step (State.onPort_moves _ _ _) rfl ?_
  exact Moves.refl _ _

theorem State.txEnd_moves (s : State) (a1) (a2) : Moves [.regs, .ports, .net, .msn, .out, .blk 0x06] s (@State.txEnd s a1 a2) := by
  unfold State.txEnd
  split
  · exact Moves.refl _ _
  · dsimp only
    refine Moves.ite (fun _ => ?_) (fun _ => ?_)
    · refine Moves.step (State.onPort_moves _ _ _) rfl ?_
      refine Moves.step (State.offAir_moves _ _ _) rfl ?_
      exact Moves.refl _ _
    · refine Moves.ite (fun _ => ?_) (fun _ => ?_)
      · refine Moves.step (State.onPort_moves _ _ _) rfl ?_
        refine Moves.step (State.offAir_moves _ _ _) rfl ?_
        exact Moves.refl _ _
      · refine Moves.step (State.giveBack_moves _ _ _ _) rfl ?_
        refine Moves.step (State.offAir_moves _ _ _) rfl ?_
        exact Moves.refl _ _

theorem State.settle_moves (s : State) (a1) (a2) : Moves [.regs, .ports, .net, .msn, .out, .blk 0x06] s (@State.settle s a1 a2) := by
  unfold State.settle
  split
  · refine Moves.ite (fun _ => ?_) (fun _ => ?_)
    · refine Moves.step (State.txEnd_moves _ _ _) rfl ?_
      exact Moves.refl _ _
    · exact Moves.refl _ _
  · exact Moves.refl _ _

theorem State.giveAll_moves (s : State) (a1) (a2) (a3) : Moves [.regs, .net, .msn, .out, .blk 0x06] s (@State.giveAll s a1 a2 a3) := by
  unfold State.giveAll
  refine Moves.foldl _ _ (fun _ _ => ?_) ?_
  · refine Moves.step (State.giveBack_moves _ _ _ _) rfl ?_
    exact Moves.refl _ _
  · exact Moves.refl _ _

theorem State.blockCheck_moves (s : State) (a1) (a2) : Moves [.regs, .ports, .net, .msn, .out, .blk 0x06] s (@State.blockCheck s a1 a2) := by
  unfold State.blockCheck
  dsimp only
  refine Moves.ite (fun _ => ?_) (fun _ => ?_)
  · refine Moves.step (State.onPort_moves _ _ _) rfl ?_
    refine Moves.ite (fun _ => ?_) (fun _ => ?_)
    · refine Moves.step (State.settle_moves _ _ _) rfl ?_
      exact Moves.refl _ _
    · exact Moves.refl _ _
  · refine Moves.ite (fun _ => ?_) (fun _ => ?_)
    · refine Moves.step (State.giveAll_moves _ _ _ _) rfl ?_
      refine Moves.step (State.onPort_moves _ _ _) rfl ?_
      refine Moves.step (State.offAir_moves _ _ _) rfl ?_
      refine Moves.ite (fun _ => ?_) (fun _ => ?_)
      · refine Moves.step (State.settle_moves _ _ _) rfl ?_
        exact Moves.refl _ _
      · exact Moves.refl _ _
    · refine Moves.step (State.giveAll_moves _ _ _ _) rfl ?_
      refine Moves.step (State.onPort_moves _ _ _) rfl ?_
      refine Moves.step (State.onPort_moves _ _ _) rfl ?_
      refine Moves.step (State.offAir_moves _ _ _) rfl ?_
      refine Moves.ite (fun _ => ?_) (fun _ => ?_)
      · refine Moves.step (State.settle_moves _ _ _) rfl ?_
        exact Moves.refl _ _
      · exact Moves.refl _ _

theorem State.blockAll_moves (s : State) (a1) : Moves [.regs, .ports, .net, .msn, .out, .blk 0x06] s (@State.blockAll s a1) := by
  unfold State.blockAll
  refine Moves.foldl _ _ (fun _ _ => ?_) ?_
  · refine Moves.ite (fun _ => ?_) (fun _ => ?_)
    · refine Moves.step (State.blockCheck_moves _ _ _) rfl ?_
      exact Moves.refl _ _
    · exact Moves.refl _ _
  · exact Moves.refl _ _

theorem State.irq_moves (s : State) (a1) (a2) : Moves [.ports, .out] s (@State.irq s a1 a2) := by
  unfold State.irq
  refine Moves.step (State.emit_moves _ _) rfl ?_
  refine Moves.step (State.setPort_moves _ _ _) rfl ?_
  exact Moves.refl _ _

theorem State.launchMiss_moves (s : State) (a1) (a2) : Moves [.regs, .ports, .net, .msn, .out, .blk 0x06] s (@State.launchMiss s a1 a2) := by
  unfold State.launchMiss
  refine Moves.ite (fun _ => ?_) (fun _ => ?_)
  · refine Moves.step (State.onPort_moves _ _ _) rfl ?_
    exact Moves.refl _ _
  · refine Moves.step (State.giveBack_moves _ _ _ _) rfl ?_
    exact Moves.refl _ _

theorem State.lateHeads_moves (a0 a1 a2) (s : State) : Moves [.regs, .ports, .net, .msn, .out, .blk 0x06] s (@State.lateHeads a0 a1 a2 s) := by
  induction a2 generalizing s with
  | nil => exact Moves.refl _ _
  | cons i r ih =>
    unfold State.lateHeads
    refine Moves.ite (fun _ => ?_) (fun _ => Moves.refl _ _)
    refine Moves.trans ?_ (ih _)
    exact Moves.step (State.launchMiss_moves _ _ _) rfl (Moves.mono (State.onPort_moves _ _ _) rfl)

theorem State.popLaunch_moves (s : State) (a1) (a2) : Moves [.regs, .ports, .net, .msn, .out, .blk 0x06] s (@State.popLaunch s a1 a2) := by
  unfold State.popLaunch
  dsimp only
  refine Moves.step (State.lateHeads_moves _ _ _ _) rfl ?_
  refine Moves.step (State.onPort_moves _ _ _) rfl ?_
  exact Moves.refl _ _

theorem State.postLaunch_moves (s : State) (a1) (a2) (a3) : Moves [.regs, .ports, .net, .msn, .fresh, .out, .blk 0x06] s (@State.postLaunch s a1 a2 a3) := by
  unfold State.postLaunch
  dsimp only
  refine Moves.ite (fun _ => ?_) (fun _ => ?_)
  · refine Moves.step (State.giveBack_moves _ _ _ _) rfl ?_
    exact Moves.refl _ _
  · refine Moves.ite (fun _ => ?_) (fun _ => ?_)
    · refine Moves.step (State.giveBack_moves _ _ _ _) rfl ?_
      exact Moves.refl _ _
    · refine Moves.ite (fun _ => ?_) (fun _ => ?_)
      · refine Moves.step (State.giveBack_moves _ _ _ _) rfl ?_
        exact Moves.refl _ _
      · refine Moves.step (State.lateHeads_moves _ _ _ _) rfl ?_
        refine Moves.step (State.onPort_moves _ _ _) rfl ?_
        refine Moves.step (State.numbered_moves _ _ _) rfl ?_
        exact Moves.refl _ _

theorem State.takeAck_moves (s : State) (a1) (a2) (a3) (a4) (a5) (a6) : Moves [.regs, .ports, .net, .msn, .hst, .evt, .out, .blk 0x06, .blk 0x08, .blk 0x11, .blk 0x13] s (@State.takeAck s a1 a2 a3 a4 a5 a6) := by
  unfold State.takeAck
  split
  · exact Moves.refl _ _
  · refine Moves.ite (fun _ => ?_) (fun _ => ?_)
    · dsimp only
      split
      · refine Moves.step (State.heardFrom_moves _ _ _ _ _) rfl ?_
        refine Moves.step (State.hear_moves _ _ _ _ _) rfl ?_
        refine Moves.step (State.giveBack_moves _ _ _ _) rfl ?_
        refine Moves.step (State.onPort_moves _ _ _) rfl ?_
        exact Moves.refl _ _
      · refine Moves.step (State.giveBack_moves _ _ _ _) rfl ?_
        refine Moves.step (State.onPort_moves _ _ _) rfl ?_
        exact Moves.refl _ _
    · exact Moves.refl _ _

end Sys2Proof.Machine
end

