-- ==== Sys2Proof/Laws/NetOps.lean ====
section
/-!
SUPPORT. How far each operation of Machine/NetOps.lean can change the state.
-/

namespace Sys2Proof.Machine
open Sys2Proof

theorem State.setNode_moves (s : State) (a1) (a2) : Moves [.net] s (@State.setNode s a1 a2) := by
  unfold State.setNode
  refine Moves.upd_net rfl ?_
  exact Moves.refl _ _

theorem State.lose_moves (s : State) (a1) : Moves [.net] s (@State.lose s a1) := by
  unfold State.lose
  refine Moves.step (State.setNode_moves _ _ _) rfl ?_
  exact Moves.refl _ _

theorem State.markRoutes_moves (s : State) : Moves [.net] s (@State.markRoutes s) := by
  unfold State.markRoutes
  dsimp only
  refine Moves.upd_net rfl ?_
  exact Moves.refl _ _

theorem State.takeRoute_moves (s : State) (a1) (a2) (a3) : Moves [.net] s (@State.takeRoute s a1 a2 a3) := by
  unfold State.takeRoute
  refine Moves.step (State.setNode_moves _ _ _) rfl ?_
  exact Moves.refl _ _

theorem State.sendOn_moves (s : State) (a1) (a2) (a3) (a4) (a5) (a6) (a7) : Moves [.regs, .ports, .net, .msn, .fresh, .out, .blk 0x06] s (@State.sendOn s a1 a2 a3 a4 a5 a6 a7) := by
  unfold State.sendOn
  dsimp only
  refine Moves.step (State.post_moves _ _ _) rfl ?_
  exact Moves.refl _ _

theorem State.cmdOn_moves (s : State) (a1) (a2) (a3) (a4) : Moves [.regs, .ports, .net, .msn, .fresh, .out, .blk 0x06] s (@State.cmdOn s a1 a2 a3 a4) := by
  unfold State.cmdOn
  refine Moves.step (State.sendOn_moves _ _ _ _ _ _ _ _) rfl ?_
  exact Moves.refl _ _

theorem State.recompute_moves (s : State) (a1) (a2) : Moves [.regs, .ports, .net, .msn, .fresh, .out, .blk 0x06, .blk 0x08] s (@State.recompute s a1 a2) := by
  unfold State.recompute
  dsimp only
  refine Moves.foldl _ _ (fun _ _ => ?_) ?_
  · refine Moves.step (State.cmdOn_moves _ _ _ _ _) rfl ?_
    exact Moves.refl _ _
  · refine Moves.step (State.markRoutes_moves _) rfl ?_
    refine Moves.foldl _ _ (fun _ _ => ?_) ?_
    · refine Moves.step (State.takeRoute_moves _ _ _ _) rfl ?_
      exact Moves.refl _ _
    · refine Moves.foldl _ _ (fun _ _ => ?_) ?_
      · refine Moves.step (State.lose_moves _ _) rfl ?_
        exact Moves.refl _ _
      · refine Moves.upd_net rfl ?_
        refine Moves.step (State.cntW_moves 8 _ _ _ rfl) rfl ?_
        exact Moves.refl _ _

theorem State.repairCells_moves (s : State) (a1) : Moves [.regs, .ports, .net, .msn, .fresh, .out, .blk 0x06, .blk 0x08] s (@State.repairCells s a1) := by
  unfold State.repairCells
  refine Moves.foldl _ _ (fun _ _ => ?_) (Moves.refl _ _)
  refine Moves.ite (fun _ => ?_) (fun _ => ?_)
  · refine Moves.step (State.recompute_moves _ _ _) rfl ?_
    exact Moves.refl _ _
  · exact Moves.refl _ _

theorem State.dueCell_moves (s : State) (a1) : Moves [.net] s (@State.dueCell s a1) := by
  unfold State.dueCell
  refine Moves.ite (fun _ => ?_) (fun _ => ?_)
  · exact Moves.refl _ _
  · refine Moves.upd_net rfl ?_
    exact Moves.refl _ _

theorem State.netCheck_moves (s : State) (a1) : Moves [.regs, .ports, .net, .msn, .fresh, .out, .blk 0x06, .blk 0x08] s (@State.netCheck s a1) := by
  unfold State.netCheck
  dsimp only
  refine Moves.foldl _ _ (fun _ _ => ?_) ?_
  · refine Moves.step (State.dueCell_moves _ _) rfl ?_
    exact Moves.refl _ _
  · refine Moves.step (State.repairCells_moves _ _) rfl ?_
    exact Moves.refl _ _

theorem State.toInbox_moves (s : State) (a1) (a2) (a3) : Moves [.net] s (@State.toInbox s a1 a2 a3) := by
  unfold State.toInbox
  refine Moves.upd_net rfl ?_
  exact Moves.refl _ _

theorem State.noteUplink_moves (s : State) (a1) (a2) : Moves [.msn] s (@State.noteUplink s a1 a2) := by
  unfold State.noteUplink
  split
  · exact Moves.refl _ _
  · dsimp only
    split
    · exact Moves.refl _ _
    · refine Moves.ite (fun _ => ?_) (fun _ => ?_)
      · refine Moves.upd_msn rfl ?_
        exact Moves.refl _ _
      · exact Moves.refl _ _

theorem State.joinAck_moves (s : State) (a1) (a2) (a3) : Moves [.regs, .ports, .net, .msn, .fresh, .out, .blk 0x06] s (@State.joinAck s a1 a2 a3) := by
  unfold State.joinAck
  dsimp only
  split
  · refine Moves.step (State.cmdOn_moves _ _ _ _ _) rfl ?_
    refine Moves.step (State.cmdOn_moves _ _ _ _ _) rfl ?_
    exact Moves.refl _ _
  · refine Moves.step (State.cmdOn_moves _ _ _ _ _) rfl ?_
    exact Moves.refl _ _

theorem State.downFlag_moves (s : State) (a1) (a2) : Moves [.net] s (@State.downFlag s a1 a2) := by
  unfold State.downFlag
  refine Moves.upd_net rfl ?_
  exact Moves.refl _ _

theorem State.relayUp_moves (s : State) (a1) (a2) : Moves [.regs, .net, .hst, .evt, .blk 0x11, .blk 0x13] s (@State.relayUp s a1 a2) := by
  unfold State.relayUp
  refine Moves.ite (fun _ => ?_) (fun _ => ?_)
  · exact Moves.refl _ _
  · dsimp only
    refine Moves.ite (fun _ => ?_) (fun _ => ?_)
    · refine Moves.step (State.dueCell_moves _ _) rfl ?_
      refine Moves.step (State.dueCell_moves _ _) rfl ?_
      refine Moves.step (State.raise_moves _ _ _ _ _ _ _) rfl ?_
      refine Moves.step (State.downFlag_moves _ _ _) rfl ?_
      refine Moves.step (State.setNode_moves _ _ _) rfl ?_
      exact Moves.refl _ _
    · refine Moves.step (State.dueCell_moves _ _) rfl ?_
      refine Moves.step (State.raise_moves _ _ _ _ _ _ _) rfl ?_
      refine Moves.step (State.downFlag_moves _ _ _) rfl ?_
      refine Moves.step (State.setNode_moves _ _ _) rfl ?_
      exact Moves.refl _ _

theorem State.upRoute_moves (s : State) (a1) (a2) (a3) (a4) : Moves [.regs, .ports, .net, .msn, .hst, .evt, .fresh, .out, .blk 0x06, .blk 0x11, .blk 0x13] s (@State.upRoute s a1 a2 a3 a4) := by
  unfold State.upRoute
  dsimp only
  refine Moves.ite (fun _ => ?_) (fun _ => ?_)
  · refine Moves.step (State.relayUp_moves _ _ _) rfl ?_
    exact Moves.refl _ _
  · refine Moves.ite (fun _ => ?_) (fun _ => ?_)
    · refine Moves.foldl _ _ (fun _ _ => ?_) ?_
      · refine Moves.step (State.onNbr_moves _ _ _ _) rfl ?_
        exact Moves.refl _ _
      · refine Moves.step (State.relayUp_moves _ _ _) rfl ?_
        exact Moves.refl _ _
    · refine Moves.step (State.markRoutes_moves _) rfl ?_
      refine Moves.step (State.joinAck_moves _ _ _ _) rfl ?_
      refine Moves.step (State.takeRoute_moves _ _ _ _) rfl ?_
      refine Moves.step (State.relayUp_moves _ _ _) rfl ?_
      exact Moves.refl _ _

theorem State.netSend_moves (s : State) (a1) (a2) (a3) (a4) (a5) : Moves [.regs, .ports, .net, .msn, .fresh, .out, .blk 0x06, .blk 0x08] s (@State.netSend s a1 a2 a3 a4 a5) := by
  unfold State.netSend
  dsimp only
  refine Moves.ite (fun _ => ?_) (fun _ => ?_)
  · refine Moves.step (State.sendOn_moves _ _ _ _ _ _ _ _) rfl ?_
    exact Moves.refl _ _
  · refine Moves.step (State.giveBack_moves _ _ _ _) rfl ?_
    refine Moves.step (State.cntW_moves 8 _ _ _ rfl) rfl ?_
    exact Moves.refl _ _

theorem State.transfer_moves (s : State) (a1) (a2) (a3) : Moves [.regs, .ports, .net, .msn, .fresh, .out, .blk 0x06, .blk 0x08] s (@State.transfer s a1 a2 a3) := by
  unfold State.transfer
  refine Moves.ite (fun _ => ?_) (fun _ => ?_)
  · refine Moves.step (State.netSend_moves _ _ _ _ _ _) rfl ?_
    exact Moves.refl _ _
  · refine Moves.step (State.cntW_moves 8 _ _ _ rfl) rfl ?_
    exact Moves.refl _ _

theorem State.queueJob_moves (s : State) (a1) : Moves [.key] s (@State.queueJob s a1) := by
  unfold State.queueJob
  dsimp only
  split
  · exact Moves.refl _ _
  · refine Moves.ite (fun _ => ?_) (fun _ => ?_)
    · exact Moves.refl _ _
    · refine Moves.upd_key rfl ?_
      exact Moves.refl _ _

theorem State.msnData_moves (s : State) (a1) (a2) (a3) : Moves [.regs, .key, .blk 0x09] s (@State.msnData s a1 a2 a3) := by
  unfold State.msnData
  split
  · refine Moves.step (State.cntW_moves 9 _ _ _ rfl) rfl ?_
    exact Moves.refl _ _
  · refine Moves.ite (fun _ => ?_) (fun _ => ?_)
    · refine Moves.step (State.cntW_moves 9 _ _ _ rfl) rfl ?_
      exact Moves.refl _ _
    · refine Moves.step (State.queueJob_moves _ _) rfl ?_
      exact Moves.refl _ _

theorem State.netTake_moves (s : State) (a1) (a2) (a3) : Moves [.regs, .ports, .net, .msn, .key, .hst, .evt, .fresh, .out, .blk 0x06, .blk 0x08, .blk 0x09, .blk 0x11, .blk 0x13] s (@State.netTake s a1 a2 a3) := by
  unfold State.netTake
  dsimp only
  split
  · refine Moves.ite (fun _ => ?_) (fun _ => ?_)
    · refine Moves.ite (fun _ => ?_) (fun _ => ?_)
      · exact Moves.refl _ _
      · refine Moves.step (State.noteUplink_moves _ _ _) rfl ?_
        refine Moves.step (State.setNode_moves _ _ _) rfl ?_
        exact Moves.refl _ _
    · refine Moves.ite (fun _ => ?_) (fun _ => ?_)
      · refine Moves.step (State.cntW_moves 8 _ _ _ rfl) rfl ?_
        refine Moves.ite (fun _ => ?_) (fun _ => ?_)
        · exact Moves.refl _ _
        · refine Moves.step (State.noteUplink_moves _ _ _) rfl ?_
          refine Moves.step (State.setNode_moves _ _ _) rfl ?_
          exact Moves.refl _ _
      · refine Moves.ite (fun _ => ?_) (fun _ => ?_)
        · refine Moves.step (State.transfer_moves _ _ _ _) rfl ?_
          refine Moves.step (State.upRoute_moves _ _ _ _ _) rfl ?_
          refine Moves.ite (fun _ => ?_) (fun _ => ?_)
          · exact Moves.refl _ _
          · refine Moves.step (State.noteUplink_moves _ _ _) rfl ?_
            refine Moves.step (State.setNode_moves _ _ _) rfl ?_
            exact Moves.refl _ _
        · refine Moves.step (State.msnData_moves _ _ _ _) rfl ?_
          refine Moves.step (State.upRoute_moves _ _ _ _ _) rfl ?_
          refine Moves.ite (fun _ => ?_) (fun _ => ?_)
          · exact Moves.refl _ _
          · refine Moves.step (State.noteUplink_moves _ _ _) rfl ?_
            refine Moves.step (State.setNode_moves _ _ _) rfl ?_
            exact Moves.refl _ _
  · refine Moves.ite (fun _ => ?_) (fun _ => ?_)
    · refine Moves.ite (fun _ => ?_) (fun _ => ?_)
      · exact Moves.refl _ _
      · refine Moves.step (State.noteUplink_moves _ _ _) rfl ?_
        refine Moves.step (State.setNode_moves _ _ _) rfl ?_
        exact Moves.refl _ _
    · refine Moves.ite (fun _ => ?_) (fun _ => ?_)
      · refine Moves.step (State.cntW_moves 8 _ _ _ rfl) rfl ?_
        refine Moves.ite (fun _ => ?_) (fun _ => ?_)
        · exact Moves.refl _ _
        · refine Moves.step (State.noteUplink_moves _ _ _) rfl ?_
          refine Moves.step (State.setNode_moves _ _ _) rfl ?_
          exact Moves.refl _ _
      · refine Moves.ite (fun _ => ?_) (fun _ => ?_)
        · refine Moves.step (State.transfer_moves _ _ _ _) rfl ?_
          refine Moves.step (State.upRoute_moves _ _ _ _ _) rfl ?_
          refine Moves.ite (fun _ => ?_) (fun _ => ?_)
          · exact Moves.refl _ _
          · refine Moves.step (State.noteUplink_moves _ _ _) rfl ?_
            refine Moves.step (State.setNode_moves _ _ _) rfl ?_
            exact Moves.refl _ _
        · split
          · refine Moves.step (State.toInbox_moves _ _ _ _) rfl ?_
            refine Moves.step (State.upRoute_moves _ _ _ _ _) rfl ?_
            refine Moves.ite (fun _ => ?_) (fun _ => ?_)
            · exact Moves.refl _ _
            · refine Moves.step (State.noteUplink_moves _ _ _) rfl ?_
              refine Moves.step (State.setNode_moves _ _ _) rfl ?_
              exact Moves.refl _ _
          · refine Moves.step (State.toInbox_moves _ _ _ _) rfl ?_
            refine Moves.step (State.upRoute_moves _ _ _ _ _) rfl ?_
            refine Moves.ite (fun _ => ?_) (fun _ => ?_)
            · exact Moves.refl _ _
            · refine Moves.step (State.noteUplink_moves _ _ _) rfl ?_
              refine Moves.step (State.setNode_moves _ _ _) rfl ?_
              exact Moves.refl _ _
          · refine Moves.step (State.toInbox_moves _ _ _ _) rfl ?_
            refine Moves.step (State.upRoute_moves _ _ _ _ _) rfl ?_
            refine Moves.ite (fun _ => ?_) (fun _ => ?_)
            · exact Moves.refl _ _
            · refine Moves.step (State.noteUplink_moves _ _ _) rfl ?_
              refine Moves.step (State.setNode_moves _ _ _) rfl ?_
              exact Moves.refl _ _
          · refine Moves.step (State.toInbox_moves _ _ _ _) rfl ?_
            refine Moves.step (State.upRoute_moves _ _ _ _ _) rfl ?_
            refine Moves.ite (fun _ => ?_) (fun _ => ?_)
            · exact Moves.refl _ _
            · refine Moves.step (State.noteUplink_moves _ _ _) rfl ?_
              refine Moves.step (State.setNode_moves _ _ _) rfl ?_
              exact Moves.refl _ _
          · refine Moves.ite (fun _ => ?_) (fun _ => ?_)
            · refine Moves.step (State.upRoute_moves _ _ _ _ _) rfl ?_
              refine Moves.ite (fun _ => ?_) (fun _ => ?_)
              · exact Moves.refl _ _
              · refine Moves.step (State.noteUplink_moves _ _ _) rfl ?_
                refine Moves.step (State.setNode_moves _ _ _) rfl ?_
                exact Moves.refl _ _
            · refine Moves.step (State.cntW_moves 8 _ _ _ rfl) rfl ?_
              refine Moves.step (State.upRoute_moves _ _ _ _ _) rfl ?_
              refine Moves.ite (fun _ => ?_) (fun _ => ?_)
              · exact Moves.refl _ _
              · refine Moves.step (State.noteUplink_moves _ _ _) rfl ?_
                refine Moves.step (State.setNode_moves _ _ _) rfl ?_
                exact Moves.refl _ _
          · refine Moves.step (State.upRoute_moves _ _ _ _ _) rfl ?_
            refine Moves.ite (fun _ => ?_) (fun _ => ?_)
            · exact Moves.refl _ _
            · refine Moves.step (State.noteUplink_moves _ _ _) rfl ?_
              refine Moves.step (State.setNode_moves _ _ _) rfl ?_
              exact Moves.refl _ _
  · refine Moves.step (State.toInbox_moves _ _ _ _) rfl ?_
    refine Moves.ite (fun _ => ?_) (fun _ => ?_)
    · exact Moves.refl _ _
    · refine Moves.step (State.noteUplink_moves _ _ _) rfl ?_
      refine Moves.step (State.setNode_moves _ _ _) rfl ?_
      exact Moves.refl _ _
  · refine Moves.step (State.toInbox_moves _ _ _ _) rfl ?_
    refine Moves.ite (fun _ => ?_) (fun _ => ?_)
    · exact Moves.refl _ _
    · refine Moves.step (State.noteUplink_moves _ _ _) rfl ?_
      refine Moves.step (State.setNode_moves _ _ _) rfl ?_
      exact Moves.refl _ _
  · refine Moves.ite (fun _ => ?_) (fun _ => ?_)
    · exact Moves.refl _ _
    · refine Moves.step (State.noteUplink_moves _ _ _) rfl ?_
      refine Moves.step (State.setNode_moves _ _ _) rfl ?_
      exact Moves.refl _ _

theorem State.releaseHeld_moves (s : State) (a1) (a2) : Moves [.ports] s (@State.releaseHeld s a1 a2) := by
  unfold State.releaseHeld
  dsimp only
  refine Moves.step (State.onPort_moves _ _ _) rfl ?_
  exact Moves.refl _ _

theorem State.cmdTo_moves (s : State) (a1) (a2) : Moves [.regs, .ports, .net, .msn, .fresh, .out, .blk 0x06, .blk 0x08] s (@State.cmdTo s a1 a2) := by
  unfold State.cmdTo
  refine Moves.step (State.netSend_moves _ _ _ _ _ _) rfl ?_
  exact Moves.refl _ _

theorem State.seen_moves (s : State) (a1) (a2) (a3) (a4) : Moves [.regs, .net, .blk 0x08] s (@State.seen s a1 a2 a3 a4).1 := by
  unfold State.seen
  dsimp only
  refine Moves.ite_fst (fun _ => ?_) (fun _ => ?_)
  · dsimp only
    refine Moves.step (State.cntW_moves 8 _ _ _ rfl) rfl ?_
    exact Moves.refl _ _
  · dsimp only
    refine Moves.upd_net rfl ?_
    refine Moves.ite (fun _ => ?_) (fun _ => ?_)
    · refine Moves.step (State.cntW_moves 8 _ _ _ rfl) rfl ?_
      exact Moves.refl _ _
    · exact Moves.refl _ _

theorem State.flood_moves (s : State) (a1) (a2) (a3) : Moves [.regs, .ports, .net, .msn, .fresh, .out, .blk 0x06, .blk 0x08] s (@State.flood s a1 a2 a3) := by
  unfold State.flood
  dsimp only
  refine Moves.foldl _ _ (fun _ _ => ?_) ?_
  · refine Moves.step (State.post_moves _ _ _) rfl ?_
    exact Moves.refl _ _
  · refine Moves.foldl _ _ (fun _ _ => ?_) ?_
    · refine Moves.step (State.seen_moves _ _ _ _ _) rfl ?_
      exact Moves.refl _ _
    · refine Moves.upd_net rfl ?_
      exact Moves.refl _ _

theorem State.endConn_moves (s : State) (a1) (a2) (a3) : Moves [.regs, .ports, .net, .msn, .fresh, .out, .blk 0x06, .blk 0x08] s (@State.endConn s a1 a2 a3) := by
  unfold State.endConn
  refine Moves.ite (fun _ => ?_) (fun _ => ?_)
  · dsimp only
    split
    · refine Moves.step (State.cmdTo_moves _ _ _) rfl ?_
      refine Moves.step (State.onPort_moves _ _ _) rfl ?_
      exact Moves.refl _ _
    · refine Moves.step (State.onPort_moves _ _ _) rfl ?_
      exact Moves.refl _ _
  · exact Moves.refl _ _

theorem State.rehome_moves (s : State) (a1) (a2) (a3) (a4) : Moves [.regs, .ports, .net, .msn, .fresh, .out, .blk 0x06, .blk 0x08] s (@State.rehome s a1 a2 a3 a4) := by
  unfold State.rehome
  dsimp only
  refine Moves.ite (fun _ => ?_) (fun _ => ?_)
  · refine Moves.step (State.cmdOn_moves _ _ _ _ _) rfl ?_
    refine Moves.step (State.markRoutes_moves _) rfl ?_
    refine Moves.step (State.joinAck_moves _ _ _ _) rfl ?_
    refine Moves.step (State.takeRoute_moves _ _ _ _) rfl ?_
    split
    · refine Moves.step (State.endConn_moves _ _ _ _) rfl ?_
      exact Moves.refl _ _
    · exact Moves.refl _ _
  · refine Moves.step (State.markRoutes_moves _) rfl ?_
    refine Moves.step (State.joinAck_moves _ _ _ _) rfl ?_
    refine Moves.step (State.takeRoute_moves _ _ _ _) rfl ?_
    split
    · refine Moves.step (State.endConn_moves _ _ _ _) rfl ?_
      exact Moves.refl _ _
    · exact Moves.refl _ _

theorem State.dropPort_moves (s : State) (a1) : Moves [.regs, .ports, .net, .msn, .hst, .evt, .fresh, .out, .blk 0x06, .blk 0x08, .blk 0x11, .blk 0x13] s (@State.dropPort s a1) := by
  unfold State.dropPort
  dsimp only
  refine Moves.step (State.raise_moves _ _ _ _ _ _ _) rfl ?_
  refine Moves.step (State.markRoutes_moves _) rfl ?_
  refine Moves.foldl_fst _ _ (fun _ _ => ?_) ?_
  · split
    · dsimp only
      refine Moves.step (State.rehome_moves _ _ _ _ _) rfl ?_
      exact Moves.refl _ _
    · dsimp only
      refine Moves.step (State.setNode_moves _ _ _) rfl ?_
      exact Moves.refl _ _
  · dsimp only
    refine Moves.upd_net rfl ?_
    exact Moves.refl _ _

theorem State.triesRound_moves (s : State) (a1) : Moves [.regs, .net, .hst, .evt, .blk 0x11, .blk 0x13] s (@State.triesRound s a1) := by
  unfold State.triesRound
  dsimp only
  refine Moves.foldl _ _ (fun _ _ => ?_) ?_
  · refine Moves.ite (fun _ => ?_) (fun _ => ?_)
    · refine Moves.step (State.setNode_moves _ _ _) rfl ?_
      exact Moves.refl _ _
    · refine Moves.step (State.raise_moves _ _ _ _ _ _ _) rfl ?_
      refine Moves.step (State.setNode_moves _ _ _) rfl ?_
      exact Moves.refl _ _
  · exact Moves.refl _ _

theorem State.rehomeRound_moves (s : State) (a1) : Moves [.regs, .ports, .net, .msn, .fresh, .out, .blk 0x06, .blk 0x08] s (@State.rehomeRound s a1) := by
  unfold State.rehomeRound
  dsimp only
  refine Moves.foldl _ _ (fun _ _ => ?_) ?_
  · split
    · refine Moves.ite (fun _ => ?_) (fun _ => ?_)
      · refine Moves.step (State.rehome_moves _ _ _ _ _) rfl ?_
        exact Moves.refl _ _
      · exact Moves.refl _ _
    · exact Moves.refl _ _
  · exact Moves.refl _ _

theorem State.openRounds_moves (s : State) (a1) (a2) : Moves [.regs, .ports, .net, .msn, .hst, .evt, .fresh, .out, .blk 0x06, .blk 0x08, .blk 0x11, .blk 0x13] s (@State.openRounds s a1 a2) := by
  unfold State.openRounds
  dsimp only
  refine Moves.ite (fun _ => ?_) (fun _ => ?_)
  · exact Moves.refl _ _
  · refine Moves.step (State.flood_moves _ _ _ _) rfl ?_
    refine Moves.foldl _ _ (fun _ _ => ?_) ?_
    · refine Moves.step (State.onPort_moves _ _ _) rfl ?_
      exact Moves.refl _ _
    · refine Moves.foldl _ _ (fun _ _ => ?_) ?_
      · refine Moves.step (State.rehomeRound_moves _ _) rfl ?_
        refine Moves.step (State.triesRound_moves _ _) rfl ?_
        exact Moves.refl _ _
      · refine Moves.upd_net rfl ?_
        exact Moves.refl _ _

theorem State.relayDown_moves (s : State) (a1) (a2) (a3) : Moves [.regs, .ports, .net, .msn, .hst, .evt, .fresh, .out, .blk 0x06, .blk 0x08, .blk 0x11, .blk 0x13] s (@State.relayDown s a1 a2 a3) := by
  unfold State.relayDown
  refine Moves.ite (fun _ => ?_) (fun _ => ?_)
  · exact Moves.refl _ _
  · dsimp only
    refine Moves.step (State.repairCells_moves _ _) rfl ?_
    refine Moves.step (State.recompute_moves _ _ _) rfl ?_
    refine Moves.step (State.raise_moves _ _ _ _ _ _ _) rfl ?_
    refine Moves.step (State.downFlag_moves _ _ _) rfl ?_
    refine Moves.step (State.setNode_moves _ _ _) rfl ?_
    exact Moves.refl _ _

theorem State.report_moves (s : State) (a1) (a2) (a3) : Moves [.net] s (@State.report s a1 a2 a3) := by
  unfold State.report
  refine Moves.upd_net rfl ?_
  exact Moves.refl _ _

theorem State.takeMsg_moves {α : Type} {s : State} {sel : NetMsg → Option α} {m : NetMsg} {a : α} {s' : State}
    (h : s.takeMsg sel = some (m, a, s')) : Moves [.net] s s' := by
  unfold State.takeMsg at h
  split at h
  · cases h
  · split at h
    · cases h
    · cases h
      exact Moves.upd_net rfl (Moves.refl _ _)

end Sys2Proof.Machine
end

