-- ==== Sys2Proof/Laws/Reed.lean ====
section
/-!
SUPPORT. How far each operation of Machine/Reed.lean can change the state.
-/

namespace Sys2Proof.Machine
open Sys2Proof

theorem State.accept_moves (s : State) (a1) (a2) (a3) (a4) (a5) : Moves [.regs, .ports, .net, .msn, .key, .hst, .evt, .fresh, .out, .blk 0x06, .blk 0x08, .blk 0x09, .blk 0x11, .blk 0x13] s (@State.accept s a1 a2 a3 a4 a5) := by
  unfold State.accept
  dsimp only
  split
  · refine Moves.ite (fun _ => ?_) (fun _ => ?_)
    · refine Moves.step (State.onPort_moves _ _ _) rfl ?_
      refine Moves.step (State.hear_moves _ _ _ _ _) rfl ?_
      exact Moves.refl _ _
    · refine Moves.step (State.hear_moves _ _ _ _ _) rfl ?_
      exact Moves.refl _ _
  · refine Moves.ite (fun _ => ?_) (fun _ => ?_)
    · refine Moves.step (State.portCnt_moves _ _ _) rfl ?_
      refine Moves.step (State.heardFrom_moves _ _ _ _ _) rfl ?_
      refine Moves.ite (fun _ => ?_) (fun _ => ?_)
      · refine Moves.step (State.onPort_moves _ _ _) rfl ?_
        refine Moves.step (State.hear_moves _ _ _ _ _) rfl ?_
        exact Moves.refl _ _
      · refine Moves.step (State.hear_moves _ _ _ _ _) rfl ?_
        exact Moves.refl _ _
    · refine Moves.ite (fun _ => ?_) (fun _ => ?_)
      · refine Moves.step (State.netCheck_moves _ _) rfl ?_
        split
        · refine Moves.ite (fun _ => ?_) (fun _ => ?_)
          · refine Moves.step (State.netTake_moves _ _ _ _) rfl ?_
            refine Moves.ite (fun _ => ?_) (fun _ => ?_)
            · refine Moves.step (State.setNbr_moves _ _ _) rfl ?_
              refine Moves.step (State.heardFrom_moves _ _ _ _ _) rfl ?_
              refine Moves.ite (fun _ => ?_) (fun _ => ?_)
              · refine Moves.step (State.onPort_moves _ _ _) rfl ?_
                refine Moves.step (State.hear_moves _ _ _ _ _) rfl ?_
                exact Moves.refl _ _
              · refine Moves.step (State.hear_moves _ _ _ _ _) rfl ?_
                exact Moves.refl _ _
            · refine Moves.step (State.heardFrom_moves _ _ _ _ _) rfl ?_
              refine Moves.ite (fun _ => ?_) (fun _ => ?_)
              · refine Moves.step (State.onPort_moves _ _ _) rfl ?_
                refine Moves.step (State.hear_moves _ _ _ _ _) rfl ?_
                exact Moves.refl _ _
              · refine Moves.step (State.hear_moves _ _ _ _ _) rfl ?_
                exact Moves.refl _ _
          · refine Moves.step (State.releaseHeld_moves _ _ _) rfl ?_
            refine Moves.step (State.netTake_moves _ _ _ _) rfl ?_
            refine Moves.ite (fun _ => ?_) (fun _ => ?_)
            · refine Moves.step (State.setNbr_moves _ _ _) rfl ?_
              refine Moves.step (State.heardFrom_moves _ _ _ _ _) rfl ?_
              refine Moves.ite (fun _ => ?_) (fun _ => ?_)
              · refine Moves.step (State.onPort_moves _ _ _) rfl ?_
                refine Moves.step (State.hear_moves _ _ _ _ _) rfl ?_
                exact Moves.refl _ _
              · refine Moves.step (State.hear_moves _ _ _ _ _) rfl ?_
                exact Moves.refl _ _
            · refine Moves.step (State.heardFrom_moves _ _ _ _ _) rfl ?_
              refine Moves.ite (fun _ => ?_) (fun _ => ?_)
              · refine Moves.step (State.onPort_moves _ _ _) rfl ?_
                refine Moves.step (State.hear_moves _ _ _ _ _) rfl ?_
                exact Moves.refl _ _
              · refine Moves.step (State.hear_moves _ _ _ _ _) rfl ?_
                exact Moves.refl _ _
        · refine Moves.step (State.netTake_moves _ _ _ _) rfl ?_
          refine Moves.ite (fun _ => ?_) (fun _ => ?_)
          · refine Moves.step (State.setNbr_moves _ _ _) rfl ?_
            refine Moves.step (State.heardFrom_moves _ _ _ _ _) rfl ?_
            refine Moves.ite (fun _ => ?_) (fun _ => ?_)
            · refine Moves.step (State.onPort_moves _ _ _) rfl ?_
              refine Moves.step (State.hear_moves _ _ _ _ _) rfl ?_
              exact Moves.refl _ _
            · refine Moves.step (State.hear_moves _ _ _ _ _) rfl ?_
              exact Moves.refl _ _
          · refine Moves.step (State.heardFrom_moves _ _ _ _ _) rfl ?_
            refine Moves.ite (fun _ => ?_) (fun _ => ?_)
            · refine Moves.step (State.onPort_moves _ _ _) rfl ?_
              refine Moves.step (State.hear_moves _ _ _ _ _) rfl ?_
              exact Moves.refl _ _
            · refine Moves.step (State.hear_moves _ _ _ _ _) rfl ?_
              exact Moves.refl _ _
      · refine Moves.ite (fun _ => ?_) (fun _ => ?_)
        · refine Moves.step (State.setNbr_moves _ _ _) rfl ?_
          refine Moves.step (State.heardFrom_moves _ _ _ _ _) rfl ?_
          refine Moves.ite (fun _ => ?_) (fun _ => ?_)
          · refine Moves.step (State.onPort_moves _ _ _) rfl ?_
            refine Moves.step (State.hear_moves _ _ _ _ _) rfl ?_
            exact Moves.refl _ _
          · refine Moves.step (State.hear_moves _ _ _ _ _) rfl ?_
            exact Moves.refl _ _
        · refine Moves.step (State.heardFrom_moves _ _ _ _ _) rfl ?_
          refine Moves.ite (fun _ => ?_) (fun _ => ?_)
          · refine Moves.step (State.onPort_moves _ _ _) rfl ?_
            refine Moves.step (State.hear_moves _ _ _ _ _) rfl ?_
            exact Moves.refl _ _
          · refine Moves.step (State.hear_moves _ _ _ _ _) rfl ?_
            exact Moves.refl _ _

theorem State.ackExpire_moves (s : State) (a1) (a2) : Moves [.regs, .ports, .net, .msn, .fresh, .out, .blk 0x06, .blk 0x08] s (@State.ackExpire s a1 a2) := by
  unfold State.ackExpire
  dsimp only
  split
  · exact Moves.refl _ _
  · refine Moves.ite (fun _ => ?_) (fun _ => ?_)
    · exact Moves.refl _ _
    · refine Moves.step (State.netCheck_moves _ _) rfl ?_
      refine Moves.ite (fun _ => ?_) (fun _ => ?_)
      · refine Moves.step (State.giveBack_moves _ _ _ _) rfl ?_
        refine Moves.step (State.onPort_moves _ _ _) rfl ?_
        exact Moves.refl _ _
      · refine Moves.ite (fun _ => ?_) (fun _ => ?_)
        · refine Moves.step (State.onPort_moves _ _ _) rfl ?_
          refine Moves.step (State.onPort_moves _ _ _) rfl ?_
          exact Moves.refl _ _
        · refine Moves.ite (fun _ => ?_) (fun _ => ?_)
          · refine Moves.step (State.onPort_moves _ _ _) rfl ?_
            refine Moves.step (State.used_moves _) rfl ?_
            refine Moves.step (State.onPort_moves _ _ _) rfl ?_
            exact Moves.refl _ _
          · refine Moves.step (State.onPort_moves _ _ _) rfl ?_
            refine Moves.step (State.used_moves _) rfl ?_
            refine Moves.step (State.onPort_moves _ _ _) rfl ?_
            exact Moves.refl _ _

theorem State.drainPort_moves (s : State) (a1) : Moves [.regs, .ports, .net, .msn, .out, .blk 0x06] s (@State.drainPort s a1) := by
  unfold State.drainPort
  dsimp only
  refine Moves.ite (fun _ => ?_) (fun _ => ?_)
  · exact Moves.refl _ _
  · refine Moves.step (State.giveAll_moves _ _ _ _) rfl ?_
    refine Moves.step (State.giveAll_moves _ _ _ _) rfl ?_
    refine Moves.step (State.onPort_moves _ _ _) rfl ?_
    exact Moves.refl _ _

theorem State.drained_moves (s : State) (a1) : Moves [.regs, .ports, .net, .msn, .hst, .evt, .fresh, .out, .blk 0x06, .blk 0x08, .blk 0x11, .blk 0x13] s (@State.drained s a1) := by
  unfold State.drained
  dsimp only
  refine Moves.foldl _ _ (fun _ _ => ?_) ?_
  · split
    · refine Moves.step (State.cmdTo_moves _ _ _) rfl ?_
      exact Moves.refl _ _
    · exact Moves.refl _ _
  · refine Moves.step (State.dropPort_moves _ _) rfl ?_
    refine Moves.step (State.setPort_moves _ _ _) rfl ?_
    refine Moves.ite (fun _ => ?_) (fun _ => ?_)
    · refine Moves.step (State.emit_moves _ _) rfl ?_
      exact Moves.refl _ _
    · exact Moves.refl _ _

theorem State.enableAt_moves (s : State) (a1) (a2) : Moves [.regs, .ports, .net, .msn, .hst, .evt, .fresh, .out, .blk 0x06, .blk 0x08, .blk 0x11, .blk 0x13] s (@State.enableAt s a1 a2) := by
  unfold State.enableAt
  dsimp only
  refine Moves.ite (fun _ => ?_) (fun _ => ?_)
  · refine Moves.step (State.openRounds_moves _ _ _) rfl ?_
    refine Moves.step (State.blockCheck_moves _ _ _) rfl ?_
    refine Moves.step (State.setPort_moves _ _ _) rfl ?_
    refine Moves.step (State.setPort_moves _ _ _) rfl ?_
    exact Moves.refl _ _
  · refine Moves.step (State.blockCheck_moves _ _ _) rfl ?_
    refine Moves.step (State.setPort_moves _ _ _) rfl ?_
    refine Moves.step (State.setPort_moves _ _ _) rfl ?_
    exact Moves.refl _ _

theorem State.startPort_moves (s : State) (a1) (a2) (a3) : Moves [.regs, .ports, .net, .msn, .hst, .evt, .fresh, .out, .blk 0x06, .blk 0x08, .blk 0x11, .blk 0x13] s (@State.startPort s a1 a2 a3) := by
  unfold State.startPort
  refine Moves.ite (fun _ => ?_) (fun _ => ?_)
  · refine Moves.step (State.enableAt_moves _ _ _) rfl ?_
    exact Moves.refl _ _
  · dsimp only
    refine Moves.ite (fun _ => ?_) (fun _ => ?_)
    · refine Moves.step (State.endEv_moves _ _ _) rfl ?_
      refine Moves.step (State.enableAt_moves _ _ _) rfl ?_
      refine Moves.step (State.emitAll_moves _ _) rfl ?_
      refine Moves.step (State.setPort_moves _ _ _) rfl ?_
      exact Moves.refl _ _
    · refine Moves.step (State.onPort_moves _ _ _) rfl ?_
      refine Moves.step (State.emitAll_moves _ _) rfl ?_
      refine Moves.step (State.setPort_moves _ _ _) rfl ?_
      exact Moves.refl _ _

theorem State.portCtrlEff_moves (a0) (a1) (a2) (s : State) (a4) : Moves [.regs, .ports, .net, .msn, .hst, .evt, .fresh, .out, .blk 0x06, .blk 0x08, .blk 0x11, .blk 0x13] s (@State.portCtrlEff a0 a1 a2 s a4).1 := by
  unfold State.portCtrlEff
  refine Moves.ite_fst (fun _ => ?_) (fun _ => ?_)
  · dsimp only
    refine Moves.step (State.drainPort_moves _ _) rfl ?_
    exact Moves.refl _ _
  · refine Moves.ite_fst (fun _ => ?_) (fun _ => ?_)
    · dsimp only
      exact Moves.refl _ _
    · refine Moves.ite_fst (fun _ => ?_) (fun _ => ?_)
      · dsimp only
        exact Moves.refl _ _
      · dsimp only
        refine Moves.step (State.startPort_moves _ _ _ _) rfl ?_
        exact Moves.refl _ _

theorem execXcvrFail_ends (a0) (a1) (s : State) : Ends [.regs, .tim, .ports, .net, .msn, .hst, .evt, .out, .blk 0x06, .blk 0x11, .blk 0x13] s (@execXcvrFail a0 a1 s) := by
  unfold execXcvrFail
  dsimp only
  refine Ends.next ?_
  refine Moves.ite (fun _ => ?_) (fun _ => ?_)
  · refine Moves.step (State.reach_moves _ _) rfl ?_
    exact Moves.refl _ _
  · refine Moves.step (State.blockCheck_moves _ _ _) rfl ?_
    refine Moves.step (State.raise_moves _ _ _ _ _ _ _) rfl ?_
    refine Moves.step (State.onPort_moves _ _ _) rfl ?_
    refine Moves.step (State.reach_moves _ _) rfl ?_
    exact Moves.refl _ _

theorem execPortDrainDone_ends (a0) (a1) (s : State) : Ends [.regs, .tim, .ports, .net, .msn, .hst, .evt, .fresh, .out, .blk 0x06, .blk 0x08, .blk 0x11, .blk 0x13] s (@execPortDrainDone a0 a1 s) := by
  unfold execPortDrainDone
  dsimp only
  refine Ends.next ?_
  refine Moves.ite (fun _ => ?_) (fun _ => ?_)
  · refine Moves.step (State.drained_moves _ _) rfl ?_
    refine Moves.ite (fun _ => ?_) (fun _ => ?_)
    · refine Moves.step (State.settle_moves _ _ _) rfl ?_
      refine Moves.step (State.reach_moves _ _) rfl ?_
      exact Moves.refl _ _
    · refine Moves.step (State.reach_moves _ _) rfl ?_
      exact Moves.refl _ _
  · refine Moves.ite (fun _ => ?_) (fun _ => ?_)
    · refine Moves.step (State.settle_moves _ _ _) rfl ?_
      refine Moves.step (State.reach_moves _ _) rfl ?_
      exact Moves.refl _ _
    · refine Moves.step (State.reach_moves _ _) rfl ?_
      exact Moves.refl _ _

theorem execXcvrReinit_ends (a0) (a1) (a2) (s : State) : Ends [.regs, .tim, .ports, .net, .msn, .hst, .evt, .out, .blk 0x06, .blk 0x11, .blk 0x13] s (@execXcvrReinit a0 a1 a2 s) := by
  unfold execXcvrReinit
  dsimp only
  refine Ends.next ?_
  refine Moves.ite (fun _ => ?_) (fun _ => ?_)
  · refine Moves.step (State.reach_moves _ _) rfl ?_
    exact Moves.refl _ _
  · refine Moves.ite (fun _ => ?_) (fun _ => ?_)
    · refine Moves.step (State.blockCheck_moves _ _ _) rfl ?_
      refine Moves.step (State.endEv_moves _ _ _) rfl ?_
      refine Moves.step (State.onPort_moves _ _ _) rfl ?_
      refine Moves.step (State.emitAll_moves _ _) rfl ?_
      refine Moves.step (State.reach_moves _ _) rfl ?_
      exact Moves.refl _ _
    · refine Moves.step (State.onPort_moves _ _ _) rfl ?_
      refine Moves.step (State.emitAll_moves _ _) rfl ?_
      refine Moves.step (State.reach_moves _ _) rfl ?_
      exact Moves.refl _ _

theorem execXcvrInitTimeout_ends (a0) (a1) (s : State) : Ends [.regs, .tim, .ports, .hst, .evt, .blk 0x11, .blk 0x13] s (@execXcvrInitTimeout a0 a1 s) := by
  unfold execXcvrInitTimeout
  dsimp only
  refine Ends.next ?_
  split
  · refine Moves.step (State.reach_moves _ _) rfl ?_
    exact Moves.refl _ _
  · refine Moves.ite (fun _ => ?_) (fun _ => ?_)
    · refine Moves.step (State.reach_moves _ _) rfl ?_
      exact Moves.refl _ _
    · refine Moves.step (State.raise_moves _ _ _ _ _ _ _) rfl ?_
      refine Moves.step (State.onPort_moves _ _ _) rfl ?_
      refine Moves.step (State.reach_moves _ _) rfl ?_
      exact Moves.refl _ _

theorem execBlockedQueueTimeout_ends (a0) (a1) (s : State) : Ends [.regs, .tim, .ports, .net, .msn, .out, .blk 0x06] s (@execBlockedQueueTimeout a0 a1 s) := by
  unfold execBlockedQueueTimeout
  dsimp only
  refine Ends.next ?_
  split
  · refine Moves.step (State.reach_moves _ _) rfl ?_
    exact Moves.refl _ _
  · refine Moves.ite (fun _ => ?_) (fun _ => ?_)
    · refine Moves.step (State.reach_moves _ _) rfl ?_
      exact Moves.refl _ _
    · refine Moves.step (State.giveAll_moves _ _ _ _) rfl ?_
      refine Moves.step (State.onPort_moves _ _ _) rfl ?_
      refine Moves.step (State.reach_moves _ _) rfl ?_
      exact Moves.refl _ _

theorem execPortEnable_ends (a0) (a1) (a2) (a3) (s : State) : Ends [.regs, .tim, .ports, .net, .msn, .hst, .evt, .fresh, .out, .blk 0x06, .blk 0x08, .blk 0x11, .blk 0x13] s (@execPortEnable a0 a1 a2 a3 s) := by
  unfold execPortEnable
  dsimp only
  refine Ends.next ?_
  refine State.writeRow_moves _ _ _ _ rfl ?_ ?_
  · refine Moves.step (State.portCtrlEff_moves _ _ _ _ _) rfl ?_
    exact Moves.refl _ _
  · refine Moves.step (State.reach_moves _ _) rfl ?_
    exact Moves.refl _ _

theorem execPortDisable_ends (a0) (a1) (s : State) : Ends [.regs, .ports, .net, .msn, .hst, .evt, .fresh, .out, .blk 0x06, .blk 0x08, .blk 0x11, .blk 0x13] s (@execPortDisable a0 a1 s) := by
  unfold execPortDisable
  refine Ends.next ?_
  refine State.writeRow_moves _ _ _ _ rfl ?_ ?_
  · refine Moves.step (State.portCtrlEff_moves _ _ _ _ _) rfl ?_
    exact Moves.refl _ _
  · exact Moves.refl _ _

end Sys2Proof.Machine
end

