-- ==== Sys2Proof/Laws/Zc.lean ====
section
/-!
SUPPORT. How far each operation of Machine/Zc.lean can change the state.
-/

namespace Sys2Proof.Machine
open Sys2Proof

theorem State.setHostQueue_moves (s : State) (a1) (a2) : Moves [.tim] s (@State.setHostQueue s a1 a2) := by
  unfold State.setHostQueue
  refine Moves.upd_tim rfl ?_
  exact Moves.refl _ _

theorem State.setZcGroup_moves (s : State) (a1) (a2) : Moves [.tim] s (@State.setZcGroup s a1 a2) := by
  unfold State.setZcGroup
  refine Moves.upd_tim rfl ?_
  exact Moves.refl _ _

theorem State.setZcPort_moves (s : State) (a1) (a2) : Moves [.tim] s (@State.setZcPort s a1 a2) := by
  unfold State.setZcPort
  refine Moves.upd_tim rfl ?_
  exact Moves.refl _ _

theorem execZcLoss_ends (a0) (a1) (s : State) : Ends [.regs, .tim, .ports, .net, .msn, .hst, .evt, .out, .blk 0x06, .blk 0x11, .blk 0x13] s (@execZcLoss a0 a1 s) := by
  unfold execZcLoss
  dsimp only
  refine Ends.next ?_
  refine Moves.ite (fun _ => ?_) (fun _ => ?_)
  · refine Moves.step (State.reach_moves _ _) rfl ?_
    exact Moves.refl _ _
  · refine Moves.ite (fun _ => ?_) (fun _ => ?_)
    · refine Moves.step (State.blockCheck_moves _ _ _) rfl ?_
      refine Moves.step (State.raise_moves _ _ _ _ _ _ _) rfl ?_
      refine Moves.step (State.onPort_moves _ _ _) rfl ?_
      split
      · refine Moves.step (State.setZcGroup_moves _ _ _) rfl ?_
        refine Moves.step (State.setZcPort_moves _ _ _) rfl ?_
        refine Moves.step (State.reach_moves _ _) rfl ?_
        exact Moves.refl _ _
      · refine Moves.ite (fun _ => ?_) (fun _ => ?_)
        · refine Moves.step (State.setZcPort_moves _ _ _) rfl ?_
          refine Moves.step (State.reach_moves _ _) rfl ?_
          exact Moves.refl _ _
        · refine Moves.step (State.setZcGroup_moves _ _ _) rfl ?_
          refine Moves.step (State.setZcPort_moves _ _ _) rfl ?_
          refine Moves.step (State.reach_moves _ _) rfl ?_
          exact Moves.refl _ _
    · split
      · refine Moves.step (State.setZcGroup_moves _ _ _) rfl ?_
        refine Moves.step (State.setZcPort_moves _ _ _) rfl ?_
        refine Moves.step (State.reach_moves _ _) rfl ?_
        exact Moves.refl _ _
      · refine Moves.ite (fun _ => ?_) (fun _ => ?_)
        · refine Moves.step (State.setZcPort_moves _ _ _) rfl ?_
          refine Moves.step (State.reach_moves _ _) rfl ?_
          exact Moves.refl _ _
        · refine Moves.step (State.setZcGroup_moves _ _ _) rfl ?_
          refine Moves.step (State.setZcPort_moves _ _ _) rfl ?_
          refine Moves.step (State.reach_moves _ _) rfl ?_
          exact Moves.refl _ _

theorem execLaunchPost_ends (a0) (a1) (a2) (a3) (a4) (a5) (s : State) : Ends [.regs, .tim, .ports, .net, .msn, .fresh, .out, .blk 0x06] s (@execLaunchPost a0 a1 a2 a3 a4 a5 s) := by
  unfold execLaunchPost
  refine Ends.next ?_
  refine Moves.ite (fun _ => ?_) (fun _ => ?_)
  · refine Moves.ite (fun _ => ?_) (fun _ => ?_)
    · refine Moves.step (State.emit_moves _ _) rfl ?_
      exact Moves.refl _ _
    · refine Moves.ite (fun _ => ?_) (fun _ => ?_)
      · refine Moves.step (State.emit_moves _ _) rfl ?_
        exact Moves.refl _ _
      · refine Moves.step (State.setHostQueue_moves _ _ _) rfl ?_
        exact Moves.refl _ _
  · refine Moves.step (State.postLaunch_moves _ _ _ _) rfl ?_
    exact Moves.refl _ _

theorem execZcEdge_ends (a0) (a1) (s : State) : Ends [.regs, .tim, .ports, .net, .msn, .hst, .evt, .out, .blk 0x06, .blk 0x11, .blk 0x13] s (@execZcEdge a0 a1 s) := by
  unfold execZcEdge
  dsimp only
  refine Ends.next ?_
  refine Moves.ite (fun _ => ?_) (fun _ => ?_)
  · refine Moves.step (State.reach_moves _ _) rfl ?_
    exact Moves.refl _ _
  · refine Moves.ite (fun _ => ?_) (fun _ => ?_)
    · refine Moves.step (State.blockCheck_moves _ _ _) rfl ?_
      refine Moves.step (State.endEv_moves _ _ _) rfl ?_
      refine Moves.step (State.onPort_moves _ _ _) rfl ?_
      refine Moves.ite (fun _ => ?_) (fun _ => ?_)
      · refine Moves.step (State.raise_moves _ _ _ _ _ _ _) rfl ?_
        refine Moves.ite (fun _ => ?_) (fun _ => ?_)
        · refine Moves.step (State.setZcPort_moves _ _ _) rfl ?_
          refine Moves.step (State.setZcGroup_moves _ _ _) rfl ?_
          refine Moves.step (State.setZcPort_moves _ _ _) rfl ?_
          refine Moves.step (State.reach_moves _ _) rfl ?_
          exact Moves.refl _ _
        · refine Moves.step (State.setZcPort_moves _ _ _) rfl ?_
          refine Moves.step (State.reach_moves _ _) rfl ?_
          exact Moves.refl _ _
      · refine Moves.ite (fun _ => ?_) (fun _ => ?_)
        · refine Moves.step (State.setZcPort_moves _ _ _) rfl ?_
          refine Moves.step (State.setZcGroup_moves _ _ _) rfl ?_
          refine Moves.step (State.setZcPort_moves _ _ _) rfl ?_
          refine Moves.step (State.reach_moves _ _) rfl ?_
          exact Moves.refl _ _
        · refine Moves.step (State.setZcPort_moves _ _ _) rfl ?_
          refine Moves.step (State.reach_moves _ _) rfl ?_
          exact Moves.refl _ _
    · refine Moves.ite (fun _ => ?_) (fun _ => ?_)
      · refine Moves.step (State.raise_moves _ _ _ _ _ _ _) rfl ?_
        refine Moves.ite (fun _ => ?_) (fun _ => ?_)
        · refine Moves.step (State.setZcPort_moves _ _ _) rfl ?_
          refine Moves.step (State.setZcGroup_moves _ _ _) rfl ?_
          refine Moves.step (State.setZcPort_moves _ _ _) rfl ?_
          refine Moves.step (State.reach_moves _ _) rfl ?_
          exact Moves.refl _ _
        · refine Moves.step (State.setZcPort_moves _ _ _) rfl ?_
          refine Moves.step (State.reach_moves _ _) rfl ?_
          exact Moves.refl _ _
      · refine Moves.ite (fun _ => ?_) (fun _ => ?_)
        · refine Moves.step (State.setZcPort_moves _ _ _) rfl ?_
          refine Moves.step (State.setZcGroup_moves _ _ _) rfl ?_
          refine Moves.step (State.setZcPort_moves _ _ _) rfl ?_
          refine Moves.step (State.reach_moves _ _) rfl ?_
          exact Moves.refl _ _
        · refine Moves.step (State.setZcPort_moves _ _ _) rfl ?_
          refine Moves.step (State.reach_moves _ _) rfl ?_
          exact Moves.refl _ _

end Sys2Proof.Machine
end

