-- ==== Sys2Proof/Laws/Plc.lean ====
section
/-!
SUPPORT. How far each operation of Machine/Plc.lean can change the state.
-/

namespace Sys2Proof.Machine
open Sys2Proof

theorem State.failedFrame_moves (s : State) (a1) (a2) (a3) : Moves [.net] s (@State.failedFrame s a1 a2 a3) := by
  unfold State.failedFrame
  refine Moves.step (State.onNbr_moves _ _ _ _) rfl ?_
  exact Moves.refl _ _

theorem State.launchBlocked_moves (s : State) (a1) (a2) : Moves [.regs, .ports, .net, .msn, .out, .blk 0x06] s (@State.launchBlocked s a1 a2) := by
  unfold State.launchBlocked
  dsimp only
  refine Moves.step (State.giveAll_moves _ _ _ _) rfl ?_
  refine Moves.step (State.onPort_moves _ _ _) rfl ?_
  exact Moves.refl _ _

theorem State.plcSend_moves (s : State) (a1) (a2) (a3) : Moves [.regs, .ports, .out, .blk 0x06] s (@State.plcSend s a1 a2 a3) := by
  unfold State.plcSend
  dsimp only
  refine Moves.step (State.onPort_moves _ _ _) rfl ?_
  refine Moves.ite (fun _ => ?_) (fun _ => ?_)
  · refine Moves.step (State.plcCnt_moves _ _ _) rfl ?_
    refine Moves.step (State.emit_moves _ _) rfl ?_
    refine Moves.step (State.plcCnt_moves _ _ _) rfl ?_
    exact Moves.refl _ _
  · refine Moves.step (State.emit_moves _ _) rfl ?_
    refine Moves.step (State.plcCnt_moves _ _ _) rfl ?_
    exact Moves.refl _ _

theorem State.launchSlot_moves (a0 a1 a2 a3) (s : State) : Moves [.regs, .ports, .net, .msn, .out, .blk 0x06] s (@State.launchSlot a0 a1 a2 a3 s).1 := by
  induction a3 generalizing s with
  | nil => exact Moves.refl _ _
  | cons i r ih =>
    unfold State.launchSlot
    refine Moves.ite_fst (fun _ => Moves.refl _ _) (fun _ => ?_)
    refine Moves.ite_fst (fun _ => ?_) (fun _ => ?_)
    · refine Moves.trans ?_ (ih _)
      exact Moves.step (State.launchMiss_moves _ _ _) rfl (Moves.mono (State.onPort_moves _ _ _) rfl)
    · exact Moves.step (State.plcSend_moves _ _ _ _) rfl (Moves.mono (State.popLaunch_moves _ _ _) rfl)

theorem State.phaseNote_moves (s : State) (a1) (a2) (a3) : Moves [.regs, .net, .hst, .evt, .blk 0x11, .blk 0x13] s (@State.phaseNote s a1 a2 a3) := by
  unfold State.phaseNote
  split
  · exact Moves.refl _ _
  · refine Moves.ite (fun _ => ?_) (fun _ => ?_)
    · refine Moves.step (State.setNbr_moves _ _ _) rfl ?_
      exact Moves.refl _ _
    · dsimp only
      refine Moves.ite (fun _ => ?_) (fun _ => ?_)
      · refine Moves.step (State.setNbr_moves _ _ _) rfl ?_
        exact Moves.refl _ _
      · refine Moves.ite (fun _ => ?_) (fun _ => ?_)
        · refine Moves.step (State.setNbr_moves _ _ _) rfl ?_
          exact Moves.refl _ _
        · refine Moves.step (State.raise_moves _ _ _ _ _ _ _) rfl ?_
          refine Moves.step (State.setNbr_moves _ _ _) rfl ?_
          exact Moves.refl _ _

theorem State.phaseFrom_moves (s : State) (a1) (a2) (a3) (a4) : Moves [.regs, .net, .hst, .evt, .blk 0x11, .blk 0x13] s (@State.phaseFrom s a1 a2 a3 a4) := by
  unfold State.phaseFrom
  split
  · refine Moves.ite (fun _ => ?_) (fun _ => ?_)
    · refine Moves.step (State.phaseNote_moves _ _ _ _) rfl ?_
      exact Moves.refl _ _
    · exact Moves.refl _ _
  · exact Moves.refl _ _

theorem State.queueSlot_moves (s : State) (a1) (a2) (a3) : Moves [.regs, .ports, .fresh, .out, .blk 0x06] s (@State.queueSlot s a1 a2 a3) := by
  unfold State.queueSlot
  split
  · exact Moves.refl _ _
  · refine Moves.ite (fun _ => ?_) (fun _ => ?_)
    · refine Moves.ite (fun _ => ?_) (fun _ => ?_)
      · refine Moves.step (State.used_moves _) rfl ?_
        refine Moves.step (State.onPort_moves _ _ _) rfl ?_
        exact Moves.refl _ _
      · exact Moves.refl _ _
    · refine Moves.ite (fun _ => ?_) (fun _ => ?_)
      · refine Moves.step (State.onPort_moves _ _ _) rfl ?_
        exact Moves.refl _ _
      · refine Moves.step (State.plcSend_moves _ _ _ _) rfl ?_
        refine Moves.step (State.onPort_moves _ _ _) rfl ?_
        exact Moves.refl _ _

theorem State.slotFrame_moves (s : State) (a1) (a2) (a3) : Moves [.regs, .ports, .net, .msn, .fresh, .out, .blk 0x06] s (@State.slotFrame s a1 a2 a3) := by
  unfold State.slotFrame
  dsimp only
  refine Moves.ite (fun _ => ?_) (fun _ => ?_)
  · refine Moves.step (State.launchSlot_moves _ _ _ _ _) rfl ?_
    exact Moves.refl _ _
  · refine Moves.step (State.queueSlot_moves _ _ _ _) rfl ?_
    refine Moves.step (State.launchSlot_moves _ _ _ _ _) rfl ?_
    exact Moves.refl _ _

theorem execImpulse_ends (a0) (a1) (a2) (s : State) : Ends [.regs, .tim, .ports, .net, .msn, .out, .blk 0x06] s (@execImpulse a0 a1 a2 s) := by
  unfold execImpulse
  dsimp only
  refine Ends.next ?_
  refine Moves.ite (fun _ => ?_) (fun _ => ?_)
  · refine Moves.ite (fun _ => ?_) (fun _ => ?_)
    · refine Moves.step (State.settle_moves _ _ _) rfl ?_
      refine Moves.step (State.reach_moves _ _) rfl ?_
      exact Moves.refl _ _
    · refine Moves.step (State.reach_moves _ _) rfl ?_
      exact Moves.refl _ _
  · refine Moves.ite (fun _ => ?_) (fun _ => ?_)
    · refine Moves.step (State.onPort_moves _ _ _) rfl ?_
      refine Moves.ite (fun _ => ?_) (fun _ => ?_)
      · refine Moves.step (State.settle_moves _ _ _) rfl ?_
        refine Moves.step (State.reach_moves _ _) rfl ?_
        exact Moves.refl _ _
      · refine Moves.step (State.reach_moves _ _) rfl ?_
        exact Moves.refl _ _
    · refine Moves.step (State.plcCnt_moves _ _ _) rfl ?_
      refine Moves.step (State.onPort_moves _ _ _) rfl ?_
      refine Moves.ite (fun _ => ?_) (fun _ => ?_)
      · refine Moves.step (State.settle_moves _ _ _) rfl ?_
        refine Moves.step (State.reach_moves _ _) rfl ?_
        exact Moves.refl _ _
      · refine Moves.step (State.reach_moves _ _) rfl ?_
        exact Moves.refl _ _

theorem execPlcCorrelationLost_ends (a0) (a1) (s : State) : Ends [.regs, .tim, .ports, .net, .msn, .fresh, .out, .blk 0x06, .blk 0x08] s (@execPlcCorrelationLost a0 a1 s) := by
  unfold execPlcCorrelationLost
  dsimp only
  refine Ends.next ?_
  refine Moves.ite (fun _ => ?_) (fun _ => ?_)
  · refine Moves.step (State.reach_moves _ _) rfl ?_
    exact Moves.refl _ _
  · split
    · refine Moves.ite (fun _ => ?_) (fun _ => ?_)
      · refine Moves.step (State.onPort_moves _ _ _) rfl ?_
        refine Moves.step (State.reach_moves _ _) rfl ?_
        exact Moves.refl _ _
      · refine Moves.step (State.reach_moves _ _) rfl ?_
        exact Moves.refl _ _
    · refine Moves.step (State.ackExpire_moves _ _ _) rfl ?_
      refine Moves.step (State.onPort_moves _ _ _) rfl ?_
      split
      · refine Moves.step (State.failedFrame_moves _ _ _ _) rfl ?_
        refine Moves.step (State.plcCnt_moves _ _ _) rfl ?_
        refine Moves.step (State.reach_moves _ _) rfl ?_
        exact Moves.refl _ _
      · refine Moves.step (State.plcCnt_moves _ _ _) rfl ?_
        refine Moves.step (State.reach_moves _ _) rfl ?_
        exact Moves.refl _ _

theorem execPlcHeaderDecoded_ends (a0) (a1) (a2) (a3) (a4) (a5) (s : State) : Ends [.regs, .tim, .ports, .net, .msn, .fresh, .out, .blk 0x06, .blk 0x08] s (@execPlcHeaderDecoded a0 a1 a2 a3 a4 a5 s) := by
  unfold execPlcHeaderDecoded
  dsimp only
  refine Ends.next ?_
  refine Moves.ite (fun _ => ?_) (fun _ => ?_)
  · refine Moves.step (State.reach_moves _ _) rfl ?_
    exact Moves.refl _ _
  · split
    · refine Moves.step (State.reach_moves _ _) rfl ?_
      exact Moves.refl _ _
    · split
      · refine Moves.step (State.reach_moves _ _) rfl ?_
        exact Moves.refl _ _
      · refine Moves.ite (fun _ => ?_) (fun _ => ?_)
        · refine Moves.step (State.onPort_moves _ _ _) rfl ?_
          refine Moves.step (State.reach_moves _ _) rfl ?_
          exact Moves.refl _ _
        · refine Moves.step (State.ackExpire_moves _ _ _) rfl ?_
          refine Moves.step (State.onPort_moves _ _ _) rfl ?_
          refine Moves.step (State.plcCnt_moves _ _ _) rfl ?_
          refine Moves.step (State.reach_moves _ _) rfl ?_
          exact Moves.refl _ _

theorem execPlcAckWaitExpiry_ends (a0) (a1) (s : State) : Ends [.regs, .tim, .ports, .net, .msn, .fresh, .out, .blk 0x06, .blk 0x08] s (@execPlcAckWaitExpiry a0 a1 s) := by
  unfold execPlcAckWaitExpiry
  dsimp only
  refine Ends.next ?_
  refine Moves.ite (fun _ => ?_) (fun _ => ?_)
  · refine Moves.step (State.ackExpire_moves _ _ _) rfl ?_
    refine Moves.step (State.settle_moves _ _ _) rfl ?_
    refine Moves.step (State.reach_moves _ _) rfl ?_
    exact Moves.refl _ _
  · refine Moves.step (State.reach_moves _ _) rfl ?_
    exact Moves.refl _ _

theorem execAfeResume_ends (a0) (a1) (s : State) : Ends [.regs, .tim, .ports, .net, .msn, .hst, .evt, .out, .blk 0x06, .blk 0x11, .blk 0x13] s (@execAfeResume a0 a1 s) := by
  unfold execAfeResume
  dsimp only
  refine Ends.next ?_
  refine Moves.ite (fun _ => ?_) (fun _ => ?_)
  · refine Moves.step (State.reach_moves _ _) rfl ?_
    exact Moves.refl _ _
  · refine Moves.step (State.blockCheck_moves _ _ _) rfl ?_
    refine Moves.step (State.endEv_moves _ _ _) rfl ?_
    refine Moves.step (State.onPort_moves _ _ _) rfl ?_
    refine Moves.step (State.reach_moves _ _) rfl ?_
    exact Moves.refl _ _

theorem execPlcDelimiterDetected_ends (a0) (a1) (s : State) : Ends [.tim, .ports] s (@execPlcDelimiterDetected a0 a1 s) := by
  unfold execPlcDelimiterDetected
  dsimp only
  refine Ends.next ?_
  refine Moves.ite (fun _ => ?_) (fun _ => ?_)
  · refine Moves.step (State.reach_moves _ _) rfl ?_
    exact Moves.refl _ _
  · split
    · refine Moves.ite (fun _ => ?_) (fun _ => ?_)
      · refine Moves.step (State.reach_moves _ _) rfl ?_
        exact Moves.refl _ _
      · refine Moves.step (State.onPort_moves _ _ _) rfl ?_
        refine Moves.step (State.reach_moves _ _) rfl ?_
        exact Moves.refl _ _
    · refine Moves.step (State.reach_moves _ _) rfl ?_
      exact Moves.refl _ _

theorem execPlcSlotStart_ends (a0) (a1) (a2) (s : State) : Ends [.regs, .tim, .ports, .net, .msn, .fresh, .out, .blk 0x06] s (@execPlcSlotStart a0 a1 a2 s) := by
  unfold execPlcSlotStart
  dsimp only
  refine Ends.next ?_
  refine Moves.ite (fun _ => ?_) (fun _ => ?_)
  · refine Moves.step (State.reach_moves _ _) rfl ?_
    exact Moves.refl _ _
  · refine Moves.ite (fun _ => ?_) (fun _ => ?_)
    · refine Moves.step (State.launchBlocked_moves _ _ _) rfl ?_
      refine Moves.step (State.blockCheck_moves _ _ _) rfl ?_
      refine Moves.step (State.settle_moves _ _ _) rfl ?_
      refine Moves.step (State.reach_moves _ _) rfl ?_
      exact Moves.refl _ _
    · refine Moves.ite (fun _ => ?_) (fun _ => ?_)
      · refine Moves.step (State.settle_moves _ _ _) rfl ?_
        refine Moves.step (State.reach_moves _ _) rfl ?_
        exact Moves.refl _ _
      · split
        · refine Moves.ite (fun _ => ?_) (fun _ => ?_)
          · refine Moves.step (State.plcSend_moves _ _ _ _) rfl ?_
            refine Moves.step (State.onPort_moves _ _ _) rfl ?_
            refine Moves.step (State.settle_moves _ _ _) rfl ?_
            refine Moves.step (State.settle_moves _ _ _) rfl ?_
            refine Moves.step (State.reach_moves _ _) rfl ?_
            exact Moves.refl _ _
          · refine Moves.step (State.slotFrame_moves _ _ _ _) rfl ?_
            refine Moves.step (State.settle_moves _ _ _) rfl ?_
            refine Moves.step (State.settle_moves _ _ _) rfl ?_
            refine Moves.step (State.reach_moves _ _) rfl ?_
            exact Moves.refl _ _
        · refine Moves.step (State.slotFrame_moves _ _ _ _) rfl ?_
          refine Moves.step (State.settle_moves _ _ _) rfl ?_
          refine Moves.step (State.settle_moves _ _ _) rfl ?_
          refine Moves.step (State.reach_moves _ _) rfl ?_
          exact Moves.refl _ _

theorem execPlcFrameReceived_ends (a0) (a1) (a2) (a3) (a4) (s : State) : Ends [.regs, .tim, .ports, .net, .msn, .key, .hst, .evt, .fresh, .out, .blk 0x06, .blk 0x08, .blk 0x09, .blk 0x11, .blk 0x13] s (@execPlcFrameReceived a0 a1 a2 a3 a4 s) := by
  unfold execPlcFrameReceived
  dsimp only
  refine Ends.next ?_
  refine Moves.ite (fun _ => ?_) (fun _ => ?_)
  · refine Moves.step (State.reach_moves _ _) rfl ?_
    exact Moves.refl _ _
  · split
    · refine Moves.step (State.reach_moves _ _) rfl ?_
      exact Moves.refl _ _
    · split
      · refine Moves.step (State.ackExpire_moves _ _ _) rfl ?_
        refine Moves.ite (fun _ => ?_) (fun _ => ?_)
        · refine Moves.step (State.failedFrame_moves _ _ _ _) rfl ?_
          refine Moves.step (State.plcCnt_moves _ _ _) rfl ?_
          refine Moves.step (State.onPort_moves _ _ _) rfl ?_
          refine Moves.step (State.settle_moves _ _ _) rfl ?_
          refine Moves.step (State.reach_moves _ _) rfl ?_
          exact Moves.refl _ _
        · split
          · refine Moves.step (State.failedFrame_moves _ _ _ _) rfl ?_
            refine Moves.step (State.plcCnt_moves _ _ _) rfl ?_
            refine Moves.step (State.plcCnt_moves _ _ _) rfl ?_
            refine Moves.step (State.onPort_moves _ _ _) rfl ?_
            refine Moves.step (State.settle_moves _ _ _) rfl ?_
            refine Moves.step (State.reach_moves _ _) rfl ?_
            exact Moves.refl _ _
          · split
            · refine Moves.ite (fun _ => ?_) (fun _ => ?_)
              · refine Moves.step (State.phaseFrom_moves _ _ _ _ _) rfl ?_
                refine Moves.step (State.takeAck_moves _ _ _ _ _ _ _) rfl ?_
                refine Moves.step (State.plcCnt_moves _ _ _) rfl ?_
                refine Moves.step (State.onPort_moves _ _ _) rfl ?_
                refine Moves.step (State.settle_moves _ _ _) rfl ?_
                refine Moves.step (State.reach_moves _ _) rfl ?_
                exact Moves.refl _ _
              · refine Moves.step (State.takeAck_moves _ _ _ _ _ _ _) rfl ?_
                refine Moves.step (State.plcCnt_moves _ _ _) rfl ?_
                refine Moves.step (State.onPort_moves _ _ _) rfl ?_
                refine Moves.step (State.settle_moves _ _ _) rfl ?_
                refine Moves.step (State.reach_moves _ _) rfl ?_
                exact Moves.refl _ _
            · refine Moves.step (State.takeAck_moves _ _ _ _ _ _ _) rfl ?_
              refine Moves.step (State.plcCnt_moves _ _ _) rfl ?_
              refine Moves.step (State.onPort_moves _ _ _) rfl ?_
              refine Moves.step (State.settle_moves _ _ _) rfl ?_
              refine Moves.step (State.reach_moves _ _) rfl ?_
              exact Moves.refl _ _
          · refine Moves.step (State.phaseFrom_moves _ _ _ _ _) rfl ?_
            refine Moves.step (State.accept_moves _ _ _ _ _ _) rfl ?_
            refine Moves.step (State.plcCnt_moves _ _ _) rfl ?_
            refine Moves.step (State.onPort_moves _ _ _) rfl ?_
            refine Moves.step (State.settle_moves _ _ _) rfl ?_
            refine Moves.step (State.reach_moves _ _) rfl ?_
            exact Moves.refl _ _
      · refine Moves.step (State.reach_moves _ _) rfl ?_
        exact Moves.refl _ _

theorem execPlcPreambleDetected_ends (a0) (a1) (a2) (s : State) : Ends [.regs, .tim, .ports, .net, .msn, .out, .blk 0x06] s (@execPlcPreambleDetected a0 a1 a2 s) := by
  unfold execPlcPreambleDetected
  dsimp only
  refine Ends.next ?_
  refine Moves.ite (fun _ => ?_) (fun _ => ?_)
  · refine Moves.step (State.reach_moves _ _) rfl ?_
    exact Moves.refl _ _
  · refine Moves.ite (fun _ => ?_) (fun _ => ?_)
    · refine Moves.step (State.settle_moves _ _ _) rfl ?_
      refine Moves.step (State.reach_moves _ _) rfl ?_
      exact Moves.refl _ _
    · refine Moves.step (State.onPort_moves _ _ _) rfl ?_
      refine Moves.step (State.settle_moves _ _ _) rfl ?_
      refine Moves.step (State.reach_moves _ _) rfl ?_
      exact Moves.refl _ _

theorem execPlcGainTrack_ends (a0) (a1) (a2) (s : State) : Ends [.tim, .ports] s (@execPlcGainTrack a0 a1 a2 s) := by
  unfold execPlcGainTrack
  dsimp only
  refine Ends.next ?_
  refine Moves.ite (fun _ => ?_) (fun _ => ?_)
  · refine Moves.step (State.reach_moves _ _) rfl ?_
    exact Moves.refl _ _
  · refine Moves.ite (fun _ => ?_) (fun _ => ?_)
    · refine Moves.step (State.reach_moves _ _) rfl ?_
      exact Moves.refl _ _
    · refine Moves.step (State.onPort_moves _ _ _) rfl ?_
      refine Moves.step (State.reach_moves _ _) rfl ?_
      exact Moves.refl _ _

theorem execAfeFail_ends (a0) (a1) (s : State) : Ends [.regs, .tim, .ports, .net, .msn, .hst, .evt, .out, .blk 0x06, .blk 0x11, .blk 0x13] s (@execAfeFail a0 a1 s) := by
  unfold execAfeFail
  dsimp only
  refine Ends.next ?_
  refine Moves.ite (fun _ => ?_) (fun _ => ?_)
  · refine Moves.step (State.reach_moves _ _) rfl ?_
    exact Moves.refl _ _
  · refine Moves.step (State.blockCheck_moves _ _ _) rfl ?_
    refine Moves.step (State.raise_moves _ _ _ _ _ _ _) rfl ?_
    refine Moves.step (State.onPort_moves _ _ _) rfl ?_
    refine Moves.step (State.reach_moves _ _) rfl ?_
    exact Moves.refl _ _

end Sys2Proof.Machine
end

