-- ==== Sys2Proof/Laws/Radio.lean ====
section
/-!
SUPPORT. How far each operation of Machine/Radio.lean can change the state.
-/

namespace Sys2Proof.Machine
open Sys2Proof

theorem State.busyListen_moves (s : State) (a1) (a2) (a3) (a4) : Moves [.regs, .ports, .net, .msn, .fresh, .out, .blk 0x06] s (@State.busyListen s a1 a2 a3 a4) := by
  unfold State.busyListen
  dsimp only
  refine Moves.ite (fun _ => ?_) (fun _ => ?_)
  · refine Moves.step (State.used_moves _) rfl ?_
    refine Moves.step (State.onPort_moves _ _ _) rfl ?_
    exact Moves.refl _ _
  · refine Moves.step (State.giveBack_moves _ _ _ _) rfl ?_
    refine Moves.step (State.radCnt_moves _ _ _) rfl ?_
    refine Moves.step (State.onPort_moves _ _ _) rfl ?_
    exact Moves.refl _ _

theorem State.mapConns_moves (s : State) (a1) (a2) : Moves [.regs, .ports, .net, .msn, .fresh, .out, .blk 0x06, .blk 0x08] s (@State.mapConns s a1 a2) := by
  unfold State.mapConns
  dsimp only
  refine Moves.foldl _ _ (fun _ _ => ?_) ?_
  · split
    · refine Moves.step (State.cmdTo_moves _ _ _) rfl ?_
      refine Moves.step (State.onPort_moves _ _ _) rfl ?_
      refine Moves.step (State.used_moves _) rfl ?_
      exact Moves.refl _ _
    · refine Moves.step (State.onPort_moves _ _ _) rfl ?_
      refine Moves.step (State.used_moves _) rfl ?_
      exact Moves.refl _ _
  · exact Moves.refl _ _

theorem State.holdFrame_moves (s : State) (a1) (a2) : Moves [.ports, .net, .fresh] s (@State.holdFrame s a1 a2) := by
  unfold State.holdFrame
  dsimp only
  refine Moves.step (State.onPort_moves _ _ _) rfl ?_
  refine Moves.step (State.numbered_moves _ _ _) rfl ?_
  exact Moves.refl _ _

theorem State.mapSets_moves (s : State) (a1) (a2) (a3) : Moves [.ports, .net, .fresh] s (@State.mapSets s a1 a2 a3) := by
  unfold State.mapSets
  dsimp only
  refine Moves.foldl _ _ (fun _ _ => ?_) ?_
  · refine Moves.step (State.holdFrame_moves _ _ _) rfl ?_
    exact Moves.refl _ _
  · exact Moves.refl _ _

theorem State.chmapEff_moves (a0) (a1) (a2) (s : State) (a4) : Moves [.regs, .heldW, .ports, .net, .msn, .fresh, .out, .blk 0x06, .blk 0x08] s (@State.chmapEff a0 a1 a2 s a4).1 := by
  unfold State.chmapEff
  dsimp only
  refine Moves.ite_fst (fun _ => ?_) (fun _ => ?_)
  · dsimp only
    exact Moves.refl _ _
  · refine Moves.ite_fst (fun _ => ?_) (fun _ => ?_)
    · dsimp only
      exact Moves.refl _ _
    · refine Moves.ite_fst (fun _ => ?_) (fun _ => ?_)
      · dsimp only
        exact Moves.refl _ _
      · refine Moves.ite_fst (fun _ => ?_) (fun _ => ?_)
        · dsimp only
          refine Moves.step (State.mapSets_moves _ _ _ _) rfl ?_
          refine Moves.step (State.flood_moves _ _ _ _) rfl ?_
          refine Moves.step (State.onPort_moves _ _ _) rfl ?_
          refine Moves.step (State.mapConns_moves _ _ _) rfl ?_
          refine Moves.step (State.dropHeld_moves _ _ _) rfl ?_
          refine Moves.step (State.setReg_moves 6 _ _ _ (by simp only [portBase]; omega)) rfl ?_
          refine Moves.step (State.setReg_moves 6 _ _ _ (by simp only [portBase]; omega)) rfl ?_
          exact Moves.refl _ _
        · dsimp only
          refine Moves.step (State.onPort_moves _ _ _) rfl ?_
          refine Moves.step (State.mapConns_moves _ _ _) rfl ?_
          refine Moves.step (State.dropHeld_moves _ _ _) rfl ?_
          refine Moves.step (State.setReg_moves 6 _ _ _ (by simp only [portBase]; omega)) rfl ?_
          refine Moves.step (State.setReg_moves 6 _ _ _ (by simp only [portBase]; omega)) rfl ?_
          exact Moves.refl _ _

theorem State.dutyAlarm_moves (s : State) (a1) : Moves [.regs, .ports, .hst, .evt, .blk 0x11, .blk 0x13] s (@State.dutyAlarm s a1) := by
  unfold State.dutyAlarm
  dsimp only
  refine Moves.ite (fun _ => ?_) (fun _ => ?_)
  · exact Moves.refl _ _
  · refine Moves.ite (fun _ => ?_) (fun _ => ?_)
    · refine Moves.step (State.raise_moves _ _ _ _ _ _ _) rfl ?_
      refine Moves.step (State.onPort_moves _ _ _) rfl ?_
      exact Moves.refl _ _
    · refine Moves.ite (fun _ => ?_) (fun _ => ?_)
      · refine Moves.step (State.endEv_moves _ _ _) rfl ?_
        refine Moves.step (State.onPort_moves _ _ _) rfl ?_
        exact Moves.refl _ _
      · exact Moves.refl _ _

theorem State.dutyHold_moves (s : State) (a1) (a2) (a3) : Moves [.ports] s (@State.dutyHold s a1 a2 a3) := by
  unfold State.dutyHold
  refine Moves.step (State.onPort_moves _ _ _) rfl ?_
  exact Moves.refl _ _

theorem State.onConn_moves (s : State) (a1) (a2) (a3) : Moves [.ports] s (@State.onConn s a1 a2 a3) := by
  unfold State.onConn
  refine Moves.step (State.onPort_moves _ _ _) rfl ?_
  exact Moves.refl _ _

theorem State.radSend_moves (s : State) (a1) (a2) (a3) (a4) : Moves [.regs, .ports, .out, .blk 0x06] s (@State.radSend s a1 a2 a3 a4) := by
  unfold State.radSend
  dsimp only
  refine Moves.step (State.onPort_moves _ _ _) rfl ?_
  refine Moves.step (State.emitAll_moves _ _) rfl ?_
  refine Moves.step (State.radCnt_moves _ _ _) rfl ?_
  exact Moves.refl _ _

theorem State.radFirst_moves (s : State) (a1) (a2) (a3) (a4) : Moves [.regs, .ports, .out, .blk 0x06] s (@State.radFirst s a1 a2 a3 a4) := by
  unfold State.radFirst
  dsimp only
  refine Moves.step (State.radSend_moves _ _ _ _ _) rfl ?_
  refine Moves.ite (fun _ => ?_) (fun _ => ?_)
  · refine Moves.step (State.radCnt_moves _ _ _) rfl ?_
    exact Moves.refl _ _
  · exact Moves.refl _ _

theorem State.tune_moves (s : State) (a1) (a2) : Moves [.ports, .out] s (@State.tune s a1 a2) := by
  unfold State.tune
  refine Moves.ite (fun _ => ?_) (fun _ => ?_)
  · exact Moves.refl _ _
  · refine Moves.step (State.emit_moves _ _) rfl ?_
    refine Moves.step (State.onPort_moves _ _ _) rfl ?_
    exact Moves.refl _ _

theorem State.unqueue_moves (s : State) (a1) (a2) : Moves [.ports] s (@State.unqueue s a1 a2) := by
  unfold State.unqueue
  refine Moves.step (State.onPort_moves _ _ _) rfl ?_
  exact Moves.refl _ _

theorem State.radStart_moves (s : State) (a1) (a2) : Moves [.regs, .ports, .out, .blk 0x06] s (@State.radStart s a1 a2) := by
  unfold State.radStart
  split
  · exact Moves.refl _ _
  · dsimp only
    refine Moves.ite (fun _ => ?_) (fun _ => ?_)
    · exact Moves.refl _ _
    · refine Moves.ite (fun _ => ?_) (fun _ => ?_)
      · refine Moves.step (State.dutyHold_moves _ _ _ _) rfl ?_
        exact Moves.refl _ _
      · refine Moves.ite (fun _ => ?_) (fun _ => ?_)
        · refine Moves.step (State.radCnt_moves _ _ _) rfl ?_
          refine Moves.step (State.tune_moves _ _ _) rfl ?_
          exact Moves.refl _ _
        · refine Moves.step (State.radFirst_moves _ _ _ _ _) rfl ?_
          refine Moves.step (State.unqueue_moves _ _ _) rfl ?_
          refine Moves.step (State.tune_moves _ _ _) rfl ?_
          exact Moves.refl _ _

theorem State.radKick_moves (s : State) (a1) (a2) : Moves [.regs, .ports, .out, .blk 0x06] s (@State.radKick s a1 a2) := by
  unfold State.radKick
  refine Moves.ite (fun _ => ?_) (fun _ => ?_)
  · refine Moves.step (State.radStart_moves _ _ _) rfl ?_
    exact Moves.refl _ _
  · exact Moves.refl _ _

theorem State.skipEvents_moves (s : State) (a1) (a2) : Moves [.regs, .ports, .blk 0x06] s (@State.skipEvents s a1 a2) := by
  unfold State.skipEvents
  dsimp only
  refine Moves.foldl _ _ (fun _ _ => ?_) ?_
  · refine Moves.step (State.radCnt_moves _ _ _) rfl ?_
    exact Moves.refl _ _
  · refine Moves.step (State.onPort_moves _ _ _) rfl ?_
    exact Moves.refl _ _

theorem State.radLaunch_moves (s : State) (a1) (a2) (a3) : Moves [.regs, .ports, .net, .msn, .out, .blk 0x06] s (@State.radLaunch s a1 a2 a3) := by
  unfold State.radLaunch
  dsimp only
  split
  · exact Moves.refl _ _
  · refine Moves.ite (fun _ => ?_) (fun _ => ?_)
    · exact Moves.refl _ _
    · refine Moves.ite (fun _ => ?_) (fun _ => ?_)
      · refine Moves.step (State.giveBack_moves _ _ _ _) rfl ?_
        refine Moves.step (State.popLaunch_moves _ _ _) rfl ?_
        exact Moves.refl _ _
      · refine Moves.ite (fun _ => ?_) (fun _ => ?_)
        · refine Moves.step (State.launchMiss_moves _ _ _) rfl ?_
          refine Moves.step (State.popLaunch_moves _ _ _) rfl ?_
          exact Moves.refl _ _
        · refine Moves.ite (fun _ => ?_) (fun _ => ?_)
          · refine Moves.step (State.launchMiss_moves _ _ _) rfl ?_
            refine Moves.step (State.popLaunch_moves _ _ _) rfl ?_
            exact Moves.refl _ _
          · refine Moves.ite (fun _ => ?_) (fun _ => ?_)
            · refine Moves.step (State.launchMiss_moves _ _ _) rfl ?_
              refine Moves.step (State.popLaunch_moves _ _ _) rfl ?_
              exact Moves.refl _ _
            · refine Moves.ite (fun _ => ?_) (fun _ => ?_)
              · refine Moves.step (State.radCnt_moves _ _ _) rfl ?_
                refine Moves.step (State.launchMiss_moves _ _ _) rfl ?_
                refine Moves.step (State.tune_moves _ _ _) rfl ?_
                refine Moves.step (State.skipEvents_moves _ _ _) rfl ?_
                refine Moves.step (State.popLaunch_moves _ _ _) rfl ?_
                exact Moves.refl _ _
              · refine Moves.step (State.radFirst_moves _ _ _ _ _) rfl ?_
                refine Moves.step (State.tune_moves _ _ _) rfl ?_
                refine Moves.step (State.skipEvents_moves _ _ _) rfl ?_
                refine Moves.step (State.popLaunch_moves _ _ _) rfl ?_
                exact Moves.refl _ _

theorem State.requeue_moves (s : State) (a1) (a2) (a3) : Moves [.ports] s (@State.requeue s a1 a2 a3) := by
  unfold State.requeue
  refine Moves.step (State.onPort_moves _ _ _) rfl ?_
  exact Moves.refl _ _

theorem State.rest_moves (s : State) (a1) (a2) : Moves [.regs, .ports, .out, .blk 0x06] s (@State.rest s a1 a2) := by
  unfold State.rest
  dsimp only
  refine Moves.step (State.radKick_moves _ _ _) rfl ?_
  refine Moves.ite (fun _ => ?_) (fun _ => ?_)
  · refine Moves.step (State.tune_moves _ _ _) rfl ?_
    exact Moves.refl _ _
  · exact Moves.refl _ _

theorem execLbtListenEnd_ends (a0) (a1) (a2) (s : State) : Ends [.regs, .tim, .ports, .net, .msn, .fresh, .out, .blk 0x06] s (@execLbtListenEnd a0 a1 a2 s) := by
  unfold execLbtListenEnd
  dsimp only
  refine Ends.next ?_
  refine Moves.ite (fun _ => ?_) (fun _ => ?_)
  · refine Moves.step (State.reach_moves _ _) rfl ?_
    exact Moves.refl _ _
  · split
    · refine Moves.step (State.reach_moves _ _) rfl ?_
      exact Moves.refl _ _
    · refine Moves.ite (fun _ => ?_) (fun _ => ?_)
      · refine Moves.step (State.busyListen_moves _ _ _ _ _) rfl ?_
        refine Moves.step (State.emit_moves _ _) rfl ?_
        refine Moves.step (State.reach_moves _ _) rfl ?_
        exact Moves.refl _ _
      · refine Moves.step (State.radStart_moves _ _ _) rfl ?_
        refine Moves.step (State.emit_moves _ _) rfl ?_
        refine Moves.step (State.reach_moves _ _) rfl ?_
        exact Moves.refl _ _

theorem execHopSlotStart_ends (a0) (a1) (s : State) : Ends [.regs, .tim, .ports, .out, .blk 0x06] s (@execHopSlotStart a0 a1 s) := by
  unfold execHopSlotStart
  dsimp only
  refine Ends.next ?_
  refine Moves.ite (fun _ => ?_) (fun _ => ?_)
  · refine Moves.step (State.reach_moves _ _) rfl ?_
    exact Moves.refl _ _
  · refine Moves.step (State.rest_moves _ _ _) rfl ?_
    split
    · refine Moves.ite (fun _ => ?_) (fun _ => ?_)
      · refine Moves.step (State.onPort_moves _ _ _) rfl ?_
        refine Moves.step (State.reach_moves _ _) rfl ?_
        exact Moves.refl _ _
      · refine Moves.step (State.reach_moves _ _) rfl ?_
        exact Moves.refl _ _
    · refine Moves.step (State.reach_moves _ _) rfl ?_
      exact Moves.refl _ _

theorem execMapUpdateTimer_ends (a0) (a1) (s : State) : Ends [.regs, .tim, .ports, .net, .msn, .fresh, .out, .blk 0x06, .blk 0x08] s (@execMapUpdateTimer a0 a1 s) := by
  unfold execMapUpdateTimer
  dsimp only
  refine Ends.next ?_
  split
  · refine Moves.ite (fun _ => ?_) (fun _ => ?_)
    · refine Moves.step (State.reach_moves _ _) rfl ?_
      exact Moves.refl _ _
    · refine Moves.step (State.flood_moves _ _ _ _) rfl ?_
      refine Moves.step (State.onPort_moves _ _ _) rfl ?_
      refine Moves.step (State.reach_moves _ _) rfl ?_
      exact Moves.refl _ _
  · refine Moves.step (State.reach_moves _ _) rfl ?_
    exact Moves.refl _ _

theorem execConnSupervisionTimeout_ends (a0) (a1) (a2) (s : State) : Ends [.regs, .tim, .ports, .hst, .evt, .blk 0x06, .blk 0x11, .blk 0x13] s (@execConnSupervisionTimeout a0 a1 a2 s) := by
  unfold execConnSupervisionTimeout
  dsimp only
  refine Ends.next ?_
  split
  · refine Moves.step (State.reach_moves _ _) rfl ?_
    exact Moves.refl _ _
  · refine Moves.ite (fun _ => ?_) (fun _ => ?_)
    · refine Moves.step (State.reach_moves _ _) rfl ?_
      exact Moves.refl _ _
    · refine Moves.step (State.raise_moves _ _ _ _ _ _ _) rfl ?_
      refine Moves.step (State.radCnt_moves _ _ _) rfl ?_
      refine Moves.step (State.onPort_moves _ _ _) rfl ?_
      refine Moves.step (State.reach_moves _ _) rfl ?_
      exact Moves.refl _ _

theorem execPendingFrameSend_ends (a0) (a1) (a2) (s : State) : Ends [.regs, .tim, .ports, .net, .msn, .fresh, .out, .blk 0x06] s (@execPendingFrameSend a0 a1 a2 s) := by
  unfold execPendingFrameSend
  dsimp only
  refine Ends.next ?_
  split
  · refine Moves.step (State.reach_moves _ _) rfl ?_
    exact Moves.refl _ _
  · refine Moves.ite (fun _ => ?_) (fun _ => ?_)
    · refine Moves.step (State.reach_moves _ _) rfl ?_
      exact Moves.refl _ _
    · split
      · refine Moves.step (State.rest_moves _ _ _) rfl ?_
        refine Moves.step (State.onPort_moves _ _ _) rfl ?_
        refine Moves.step (State.reach_moves _ _) rfl ?_
        exact Moves.refl _ _
      · split
        · refine Moves.ite (fun _ => ?_) (fun _ => ?_)
          · refine Moves.step (State.onPort_moves _ _ _) rfl ?_
            refine Moves.step (State.onPort_moves _ _ _) rfl ?_
            refine Moves.step (State.onPort_moves _ _ _) rfl ?_
            refine Moves.step (State.reach_moves _ _) rfl ?_
            exact Moves.refl _ _
          · refine Moves.ite (fun _ => ?_) (fun _ => ?_)
            · refine Moves.step (State.reach_moves _ _) rfl ?_
              exact Moves.refl _ _
            · refine Moves.ite (fun _ => ?_) (fun _ => ?_)
              · refine Moves.step (State.onPort_moves _ _ _) rfl ?_
                refine Moves.step (State.onPort_moves _ _ _) rfl ?_
                refine Moves.step (State.onPort_moves _ _ _) rfl ?_
                refine Moves.step (State.reach_moves _ _) rfl ?_
                exact Moves.refl _ _
              · refine Moves.ite (fun _ => ?_) (fun _ => ?_)
                · refine Moves.step (State.radCnt_moves _ _ _) rfl ?_
                  refine Moves.step (State.onPort_moves _ _ _) rfl ?_
                  refine Moves.step (State.onPort_moves _ _ _) rfl ?_
                  refine Moves.step (State.onPort_moves _ _ _) rfl ?_
                  refine Moves.step (State.reach_moves _ _) rfl ?_
                  exact Moves.refl _ _
                · refine Moves.step (State.radFirst_moves _ _ _ _ _) rfl ?_
                  refine Moves.step (State.onPort_moves _ _ _) rfl ?_
                  refine Moves.step (State.onPort_moves _ _ _) rfl ?_
                  refine Moves.step (State.reach_moves _ _) rfl ?_
                  exact Moves.refl _ _
        · refine Moves.ite (fun _ => ?_) (fun _ => ?_)
          · refine Moves.step (State.rest_moves _ _ _) rfl ?_
            refine Moves.ite (fun _ => ?_) (fun _ => ?_)
            · refine Moves.step (State.onPort_moves _ _ _) rfl ?_
              refine Moves.step (State.onPort_moves _ _ _) rfl ?_
              refine Moves.step (State.onPort_moves _ _ _) rfl ?_
              refine Moves.step (State.reach_moves _ _) rfl ?_
              exact Moves.refl _ _
            · refine Moves.step (State.requeue_moves _ _ _ _) rfl ?_
              refine Moves.step (State.onPort_moves _ _ _) rfl ?_
              refine Moves.step (State.onPort_moves _ _ _) rfl ?_
              refine Moves.step (State.reach_moves _ _) rfl ?_
              exact Moves.refl _ _
          · refine Moves.ite (fun _ => ?_) (fun _ => ?_)
            · refine Moves.step (State.reach_moves _ _) rfl ?_
              exact Moves.refl _ _
            · refine Moves.ite (fun _ => ?_) (fun _ => ?_)
              · refine Moves.step (State.busyListen_moves _ _ _ _ _) rfl ?_
                refine Moves.step (State.reach_moves _ _) rfl ?_
                exact Moves.refl _ _
              · refine Moves.ite (fun _ => ?_) (fun _ => ?_)
                · refine Moves.step (State.reach_moves _ _) rfl ?_
                  exact Moves.refl _ _
                · refine Moves.ite (fun _ => ?_) (fun _ => ?_)
                  · refine Moves.step (State.radCnt_moves _ _ _) rfl ?_
                    refine Moves.step (State.reach_moves _ _) rfl ?_
                    exact Moves.refl _ _
                  · refine Moves.step (State.radFirst_moves _ _ _ _ _) rfl ?_
                    refine Moves.step (State.onPort_moves _ _ _) rfl ?_
                    refine Moves.step (State.onPort_moves _ _ _) rfl ?_
                    refine Moves.step (State.reach_moves _ _) rfl ?_
                    exact Moves.refl _ _

theorem execRepeatCopyGap_ends (a0) (a1) (a2) (s : State) : Ends [.regs, .tim, .ports, .net, .msn, .fresh, .out, .blk 0x06, .blk 0x08] s (@execRepeatCopyGap a0 a1 a2 s) := by
  unfold execRepeatCopyGap
  dsimp only
  refine Ends.next ?_
  split
  · refine Moves.ite (fun _ => ?_) (fun _ => ?_)
    · refine Moves.step (State.reach_moves _ _) rfl ?_
      exact Moves.refl _ _
    · refine Moves.ite (fun _ => ?_) (fun _ => ?_)
      · refine Moves.step (State.giveBack_moves _ _ _ _) rfl ?_
        refine Moves.step (State.onPort_moves _ _ _) rfl ?_
        refine Moves.step (State.onPort_moves _ _ _) rfl ?_
        refine Moves.step (State.reach_moves _ _) rfl ?_
        exact Moves.refl _ _
      · refine Moves.ite (fun _ => ?_) (fun _ => ?_)
        · refine Moves.step (State.requeue_moves _ _ _ _) rfl ?_
          refine Moves.step (State.onPort_moves _ _ _) rfl ?_
          refine Moves.step (State.onPort_moves _ _ _) rfl ?_
          refine Moves.step (State.reach_moves _ _) rfl ?_
          exact Moves.refl _ _
        · refine Moves.ite (fun _ => ?_) (fun _ => ?_)
          · refine Moves.ite (fun _ => ?_) (fun _ => ?_)
            · refine Moves.step (State.netCheck_moves _ _) rfl ?_
              refine Moves.step (State.giveBack_moves _ _ _ _) rfl ?_
              refine Moves.step (State.onPort_moves _ _ _) rfl ?_
              refine Moves.step (State.onPort_moves _ _ _) rfl ?_
              refine Moves.step (State.reach_moves _ _) rfl ?_
              exact Moves.refl _ _
            · refine Moves.step (State.used_moves _) rfl ?_
              refine Moves.step (State.onPort_moves _ _ _) rfl ?_
              refine Moves.step (State.onPort_moves _ _ _) rfl ?_
              refine Moves.step (State.onPort_moves _ _ _) rfl ?_
              refine Moves.step (State.reach_moves _ _) rfl ?_
              exact Moves.refl _ _
          · refine Moves.ite (fun _ => ?_) (fun _ => ?_)
            · refine Moves.step (State.requeue_moves _ _ _ _) rfl ?_
              refine Moves.step (State.onPort_moves _ _ _) rfl ?_
              refine Moves.step (State.onPort_moves _ _ _) rfl ?_
              refine Moves.step (State.reach_moves _ _) rfl ?_
              exact Moves.refl _ _
            · refine Moves.ite (fun _ => ?_) (fun _ => ?_)
              · refine Moves.step (State.dutyHold_moves _ _ _ _) rfl ?_
                refine Moves.step (State.requeue_moves _ _ _ _) rfl ?_
                refine Moves.step (State.onPort_moves _ _ _) rfl ?_
                refine Moves.step (State.onPort_moves _ _ _) rfl ?_
                refine Moves.step (State.reach_moves _ _) rfl ?_
                exact Moves.refl _ _
              · refine Moves.ite (fun _ => ?_) (fun _ => ?_)
                · refine Moves.step (State.radCnt_moves _ _ _) rfl ?_
                  refine Moves.step (State.requeue_moves _ _ _ _) rfl ?_
                  refine Moves.step (State.onPort_moves _ _ _) rfl ?_
                  refine Moves.step (State.onPort_moves _ _ _) rfl ?_
                  refine Moves.step (State.reach_moves _ _) rfl ?_
                  exact Moves.refl _ _
                · refine Moves.step (State.radSend_moves _ _ _ _ _) rfl ?_
                  refine Moves.step (State.radCnt_moves _ _ _) rfl ?_
                  refine Moves.step (State.onPort_moves _ _ _) rfl ?_
                  refine Moves.step (State.onPort_moves _ _ _) rfl ?_
                  refine Moves.step (State.reach_moves _ _) rfl ?_
                  exact Moves.refl _ _
  · refine Moves.step (State.reach_moves _ _) rfl ?_
    exact Moves.refl _ _

theorem execRadioTxDone_ends (a0) (a1) (s : State) : Ends [.regs, .tim, .ports, .net, .msn, .hst, .evt, .out, .blk 0x06, .blk 0x11, .blk 0x13] s (@execRadioTxDone a0 a1 s) := by
  unfold execRadioTxDone
  dsimp only
  refine Ends.next ?_
  refine Moves.ite (fun _ => ?_) (fun _ => ?_)
  · refine Moves.step (State.reach_moves _ _) rfl ?_
    exact Moves.refl _ _
  · refine Moves.step (State.rest_moves _ _ _) rfl ?_
    refine Moves.step (State.dutyAlarm_moves _ _) rfl ?_
    refine Moves.step (State.txEnd_moves _ _ _) rfl ?_
    refine Moves.step (State.irq_moves _ _ _) rfl ?_
    refine Moves.step (State.reach_moves _ _) rfl ?_
    exact Moves.refl _ _

theorem execLaunchTimeReached_ends (a0) (a1) (a2) (a3) (s : State) : Ends [.regs, .tim, .ports, .net, .msn, .out, .blk 0x06] s (@execLaunchTimeReached a0 a1 a2 a3 s) := by
  unfold execLaunchTimeReached
  dsimp only
  refine Ends.next ?_
  refine Moves.ite (fun _ => ?_) (fun _ => ?_)
  · split
    · refine Moves.step (State.reach_moves _ _) rfl ?_
      exact Moves.refl _ _
    · refine Moves.ite (fun _ => ?_) (fun _ => ?_)
      · refine Moves.step (State.reach_moves _ _) rfl ?_
        exact Moves.refl _ _
      · refine Moves.ite (fun _ => ?_) (fun _ => ?_)
        · refine Moves.step (State.emit_moves _ _) rfl ?_
          refine Moves.step (State.setHostQueue_moves _ _ _) rfl ?_
          refine Moves.step (State.reach_moves _ _) rfl ?_
          exact Moves.refl _ _
        · refine Moves.step (State.emit_moves _ _) rfl ?_
          refine Moves.step (State.setHostQueue_moves _ _ _) rfl ?_
          refine Moves.step (State.reach_moves _ _) rfl ?_
          exact Moves.refl _ _
  · refine Moves.ite (fun _ => ?_) (fun _ => ?_)
    · refine Moves.step (State.radLaunch_moves _ _ _ _) rfl ?_
      refine Moves.step (State.reach_moves _ _) rfl ?_
      exact Moves.refl _ _
    · refine Moves.ite (fun _ => ?_) (fun _ => ?_)
      · refine Moves.step (State.launchBlocked_moves _ _ _) rfl ?_
        refine Moves.step (State.reach_moves _ _) rfl ?_
        exact Moves.refl _ _
      · refine Moves.step (State.reach_moves _ _) rfl ?_
        exact Moves.refl _ _

theorem execRadioSfdReceived_ends (a0) (a1) (s : State) : Ends [.tim, .ports, .out] s (@execRadioSfdReceived a0 a1 s) := by
  unfold execRadioSfdReceived
  dsimp only
  refine Ends.next ?_
  refine Moves.ite (fun _ => ?_) (fun _ => ?_)
  · refine Moves.step (State.reach_moves _ _) rfl ?_
    exact Moves.refl _ _
  · refine Moves.step (State.onPort_moves _ _ _) rfl ?_
    refine Moves.step (State.irq_moves _ _ _) rfl ?_
    refine Moves.step (State.reach_moves _ _) rfl ?_
    exact Moves.refl _ _

theorem execConnEventMissed_ends (a0) (a1) (a2) (s : State) : Ends [.regs, .tim, .ports, .out, .blk 0x06] s (@execConnEventMissed a0 a1 a2 s) := by
  unfold execConnEventMissed
  dsimp only
  refine Ends.next ?_
  split
  · refine Moves.step (State.reach_moves _ _) rfl ?_
    exact Moves.refl _ _
  · refine Moves.ite (fun _ => ?_) (fun _ => ?_)
    · refine Moves.step (State.reach_moves _ _) rfl ?_
      exact Moves.refl _ _
    · refine Moves.step (State.rest_moves _ _ _) rfl ?_
      refine Moves.step (State.onConn_moves _ _ _ _) rfl ?_
      refine Moves.step (State.radCnt_moves _ _ _) rfl ?_
      refine Moves.step (State.reach_moves _ _) rfl ?_
      exact Moves.refl _ _

theorem execDutyHoldExpiry_ends (a0) (a1) (s : State) : Ends [.regs, .tim, .ports, .net, .msn, .out, .blk 0x06] s (@execDutyHoldExpiry a0 a1 s) := by
  unfold execDutyHoldExpiry
  dsimp only
  refine Ends.next ?_
  split
  · refine Moves.ite (fun _ => ?_) (fun _ => ?_)
    · refine Moves.step (State.reach_moves _ _) rfl ?_
      exact Moves.refl _ _
    · split
      · refine Moves.step (State.giveBack_moves _ _ _ _) rfl ?_
        refine Moves.step (State.unqueue_moves _ _ _) rfl ?_
        refine Moves.step (State.onPort_moves _ _ _) rfl ?_
        refine Moves.step (State.reach_moves _ _) rfl ?_
        exact Moves.refl _ _
      · refine Moves.step (State.onPort_moves _ _ _) rfl ?_
        refine Moves.step (State.reach_moves _ _) rfl ?_
        exact Moves.refl _ _
  · refine Moves.step (State.reach_moves _ _) rfl ?_
    exact Moves.refl _ _

theorem execRadioAckTurnaround_ends (a0) (a1) (s : State) : Ends [.regs, .tim, .ports, .out, .blk 0x06] s (@execRadioAckTurnaround a0 a1 s) := by
  unfold execRadioAckTurnaround
  dsimp only
  refine Ends.next ?_
  split
  · refine Moves.step (State.reach_moves _ _) rfl ?_
    exact Moves.refl _ _
  · refine Moves.ite (fun _ => ?_) (fun _ => ?_)
    · refine Moves.step (State.reach_moves _ _) rfl ?_
      exact Moves.refl _ _
    · refine Moves.ite (fun _ => ?_) (fun _ => ?_)
      · refine Moves.step (State.onPort_moves _ _ _) rfl ?_
        refine Moves.step (State.reach_moves _ _) rfl ?_
        exact Moves.refl _ _
      · refine Moves.ite (fun _ => ?_) (fun _ => ?_)
        · refine Moves.step (State.rest_moves _ _ _) rfl ?_
          refine Moves.step (State.onPort_moves _ _ _) rfl ?_
          refine Moves.step (State.reach_moves _ _) rfl ?_
          exact Moves.refl _ _
        · refine Moves.ite (fun _ => ?_) (fun _ => ?_)
          · refine Moves.step (State.radCnt_moves _ _ _) rfl ?_
            refine Moves.step (State.onPort_moves _ _ _) rfl ?_
            refine Moves.step (State.reach_moves _ _) rfl ?_
            exact Moves.refl _ _
          · refine Moves.ite (fun _ => ?_) (fun _ => ?_)
            · refine Moves.step (State.radCnt_moves _ _ _) rfl ?_
              refine Moves.step (State.onPort_moves _ _ _) rfl ?_
              refine Moves.step (State.reach_moves _ _) rfl ?_
              exact Moves.refl _ _
            · refine Moves.ite (fun _ => ?_) (fun _ => ?_)
              · refine Moves.step (State.onPort_moves _ _ _) rfl ?_
                refine Moves.step (State.radSend_moves _ _ _ _ _) rfl ?_
                refine Moves.step (State.onPort_moves _ _ _) rfl ?_
                refine Moves.step (State.reach_moves _ _) rfl ?_
                exact Moves.refl _ _
              · refine Moves.step (State.radSend_moves _ _ _ _ _) rfl ?_
                refine Moves.step (State.onPort_moves _ _ _) rfl ?_
                refine Moves.step (State.reach_moves _ _) rfl ?_
                exact Moves.refl _ _

theorem execRadioRetryBackoff_ends (a0) (a1) (s : State) : Ends [.regs, .tim, .ports, .out, .blk 0x06] s (@execRadioRetryBackoff a0 a1 s) := by
  unfold execRadioRetryBackoff
  dsimp only
  refine Ends.next ?_
  split
  · refine Moves.step (State.reach_moves _ _) rfl ?_
    exact Moves.refl _ _
  · refine Moves.ite (fun _ => ?_) (fun _ => ?_)
    · refine Moves.step (State.reach_moves _ _) rfl ?_
      exact Moves.refl _ _
    · refine Moves.step (State.radKick_moves _ _ _) rfl ?_
      refine Moves.step (State.onPort_moves _ _ _) rfl ?_
      refine Moves.step (State.reach_moves _ _) rfl ?_
      exact Moves.refl _ _

theorem execDutyBinTick_ends (a0) (a1) (s : State) : Ends [.regs, .tim, .ports, .hst, .evt, .blk 0x11, .blk 0x13] s (@execDutyBinTick a0 a1 s) := by
  unfold execDutyBinTick
  dsimp only
  refine Ends.next ?_
  refine Moves.ite (fun _ => ?_) (fun _ => ?_)
  · refine Moves.step (State.reach_moves _ _) rfl ?_
    exact Moves.refl _ _
  · refine Moves.step (State.dutyAlarm_moves _ _) rfl ?_
    refine Moves.step (State.onPort_moves _ _ _) rfl ?_
    refine Moves.step (State.reach_moves _ _) rfl ?_
    exact Moves.refl _ _

theorem execChmapWrite_ends (a0) (a1) (a2) (a3) (s : State) : Ends [.regs, .heldW, .tim, .ports, .net, .msn, .fresh, .out, .blk 0x06, .blk 0x08] s (@execChmapWrite a0 a1 a2 a3 s) := by
  unfold execChmapWrite
  dsimp only
  refine Ends.next ?_
  refine State.writeRow_moves _ _ _ _ rfl ?_ ?_
  · refine Moves.step (State.chmapEff_moves _ _ _ _ _) rfl ?_
    exact Moves.refl _ _
  · refine Moves.step (State.reach_moves _ _) rfl ?_
    exact Moves.refl _ _

theorem execConnEvent_ends (a0) (a1) (a2) (s : State) : Ends [.regs, .tim, .ports, .out, .blk 0x06] s (@execConnEvent a0 a1 a2 s) := by
  unfold execConnEvent
  dsimp only
  refine Ends.next ?_
  split
  · refine Moves.step (State.reach_moves _ _) rfl ?_
    exact Moves.refl _ _
  · refine Moves.ite (fun _ => ?_) (fun _ => ?_)
    · refine Moves.step (State.reach_moves _ _) rfl ?_
      exact Moves.refl _ _
    · refine Moves.ite (fun _ => ?_) (fun _ => ?_)
      · refine Moves.step (State.onConn_moves _ _ _ _) rfl ?_
        refine Moves.step (State.radCnt_moves _ _ _) rfl ?_
        refine Moves.step (State.onConn_moves _ _ _ _) rfl ?_
        refine Moves.step (State.reach_moves _ _) rfl ?_
        exact Moves.refl _ _
      · refine Moves.ite (fun _ => ?_) (fun _ => ?_)
        · refine Moves.step (State.radCnt_moves _ _ _) rfl ?_
          refine Moves.step (State.onConn_moves _ _ _ _) rfl ?_
          refine Moves.step (State.reach_moves _ _) rfl ?_
          exact Moves.refl _ _
        · refine Moves.ite (fun _ => ?_) (fun _ => ?_)
          · refine Moves.step (State.emit_moves _ _) rfl ?_
            refine Moves.step (State.tune_moves _ _ _) rfl ?_
            refine Moves.step (State.onConn_moves _ _ _ _) rfl ?_
            refine Moves.ite (fun _ => ?_) (fun _ => ?_)
            · refine Moves.step (State.emit_moves _ _) rfl ?_
              refine Moves.step (State.radCnt_moves _ _ _) rfl ?_
              refine Moves.step (State.onPort_moves _ _ _) rfl ?_
              refine Moves.step (State.onConn_moves _ _ _ _) rfl ?_
              refine Moves.step (State.reach_moves _ _) rfl ?_
              exact Moves.refl _ _
            · refine Moves.step (State.onConn_moves _ _ _ _) rfl ?_
              refine Moves.step (State.reach_moves _ _) rfl ?_
              exact Moves.refl _ _
          · refine Moves.step (State.tune_moves _ _ _) rfl ?_
            refine Moves.step (State.onConn_moves _ _ _ _) rfl ?_
            refine Moves.ite (fun _ => ?_) (fun _ => ?_)
            · refine Moves.step (State.emit_moves _ _) rfl ?_
              refine Moves.step (State.radCnt_moves _ _ _) rfl ?_
              refine Moves.step (State.onPort_moves _ _ _) rfl ?_
              refine Moves.step (State.onConn_moves _ _ _ _) rfl ?_
              refine Moves.step (State.reach_moves _ _) rfl ?_
              exact Moves.refl _ _
            · refine Moves.step (State.onConn_moves _ _ _ _) rfl ?_
              refine Moves.step (State.reach_moves _ _) rfl ?_
              exact Moves.refl _ _

theorem execSleepyCoverStart_ends (a0) (a1) (a2) (a3) (s : State) : Ends [.regs, .tim, .ports, .net, .msn, .fresh, .out, .blk 0x06] s (@execSleepyCoverStart a0 a1 a2 a3 s) := by
  unfold execSleepyCoverStart
  dsimp only
  refine Ends.next ?_
  split
  · refine Moves.ite (fun _ => ?_) (fun _ => ?_)
    · refine Moves.step (State.reach_moves _ _) rfl ?_
      exact Moves.refl _ _
    · refine Moves.ite (fun _ => ?_) (fun _ => ?_)
      · refine Moves.step (State.busyListen_moves _ _ _ _ _) rfl ?_
        refine Moves.step (State.reach_moves _ _) rfl ?_
        exact Moves.refl _ _
      · refine Moves.ite (fun _ => ?_) (fun _ => ?_)
        · refine Moves.step (State.reach_moves _ _) rfl ?_
          exact Moves.refl _ _
        · refine Moves.ite (fun _ => ?_) (fun _ => ?_)
          · refine Moves.step (State.onPort_moves _ _ _) rfl ?_
            refine Moves.step (State.unqueue_moves _ _ _) rfl ?_
            refine Moves.step (State.reach_moves _ _) rfl ?_
            exact Moves.refl _ _
          · refine Moves.ite (fun _ => ?_) (fun _ => ?_)
            · refine Moves.step (State.reach_moves _ _) rfl ?_
              exact Moves.refl _ _
            · refine Moves.ite (fun _ => ?_) (fun _ => ?_)
              · refine Moves.step (State.dutyHold_moves _ _ _ _) rfl ?_
                refine Moves.step (State.reach_moves _ _) rfl ?_
                exact Moves.refl _ _
              · refine Moves.ite (fun _ => ?_) (fun _ => ?_)
                · refine Moves.step (State.radCnt_moves _ _ _) rfl ?_
                  refine Moves.step (State.tune_moves _ _ _) rfl ?_
                  refine Moves.step (State.reach_moves _ _) rfl ?_
                  exact Moves.refl _ _
                · refine Moves.ite (fun _ => ?_) (fun _ => ?_)
                  · refine Moves.step (State.radFirst_moves _ _ _ _ _) rfl ?_
                    refine Moves.step (State.unqueue_moves _ _ _) rfl ?_
                    refine Moves.step (State.tune_moves _ _ _) rfl ?_
                    refine Moves.step (State.reach_moves _ _) rfl ?_
                    exact Moves.refl _ _
                  · refine Moves.step (State.radSend_moves _ _ _ _ _) rfl ?_
                    refine Moves.step (State.radCnt_moves _ _ _) rfl ?_
                    refine Moves.step (State.onPort_moves _ _ _) rfl ?_
                    refine Moves.step (State.unqueue_moves _ _ _) rfl ?_
                    refine Moves.ite (fun _ => ?_) (fun _ => ?_)
                    · refine Moves.step (State.radCnt_moves _ _ _) rfl ?_
                      refine Moves.step (State.tune_moves _ _ _) rfl ?_
                      refine Moves.step (State.reach_moves _ _) rfl ?_
                      exact Moves.refl _ _
                    · refine Moves.step (State.tune_moves _ _ _) rfl ?_
                      refine Moves.step (State.reach_moves _ _) rfl ?_
                      exact Moves.refl _ _
  · refine Moves.step (State.reach_moves _ _) rfl ?_
    exact Moves.refl _ _

theorem execRadioRxErr_ends (a0) (a1) (s : State) : Ends [.regs, .tim, .ports, .net, .msn, .fresh, .out, .blk 0x06, .blk 0x08] s (@execRadioRxErr a0 a1 s) := by
  unfold execRadioRxErr
  dsimp only
  refine Ends.next ?_
  refine Moves.ite (fun _ => ?_) (fun _ => ?_)
  · refine Moves.step (State.reach_moves _ _) rfl ?_
    exact Moves.refl _ _
  · refine Moves.step (State.rest_moves _ _ _) rfl ?_
    refine Moves.step (State.ackExpire_moves _ _ _) rfl ?_
    refine Moves.step (State.radCnt_moves _ _ _) rfl ?_
    refine Moves.step (State.onPort_moves _ _ _) rfl ?_
    refine Moves.step (State.irq_moves _ _ _) rfl ?_
    refine Moves.step (State.reach_moves _ _) rfl ?_
    exact Moves.refl _ _

theorem execRadioAckWaitExpiry_ends (a0) (a1) (s : State) : Ends [.regs, .tim, .ports, .net, .msn, .fresh, .out, .blk 0x06, .blk 0x08] s (@execRadioAckWaitExpiry a0 a1 s) := by
  unfold execRadioAckWaitExpiry
  dsimp only
  refine Ends.next ?_
  refine Moves.ite (fun _ => ?_) (fun _ => ?_)
  · refine Moves.step (State.rest_moves _ _ _) rfl ?_
    refine Moves.step (State.ackExpire_moves _ _ _) rfl ?_
    refine Moves.step (State.reach_moves _ _) rfl ?_
    exact Moves.refl _ _
  · refine Moves.step (State.reach_moves _ _) rfl ?_
    exact Moves.refl _ _

theorem execRadioFrameReceived_ends (a0) (a1) (a2) (a3) (a4) (s : State) : Ends [.regs, .tim, .ports, .net, .msn, .key, .hst, .evt, .fresh, .out, .blk 0x06, .blk 0x08, .blk 0x09, .blk 0x11, .blk 0x13] s (@execRadioFrameReceived a0 a1 a2 a3 a4 s) := by
  unfold execRadioFrameReceived
  dsimp only
  refine Ends.next ?_
  refine Moves.ite (fun _ => ?_) (fun _ => ?_)
  · refine Moves.step (State.reach_moves _ _) rfl ?_
    exact Moves.refl _ _
  · split
    · refine Moves.step (State.reach_moves _ _) rfl ?_
      exact Moves.refl _ _
    · refine Moves.step (State.rest_moves _ _ _) rfl ?_
      refine Moves.step (State.ackExpire_moves _ _ _) rfl ?_
      refine Moves.ite (fun _ => ?_) (fun _ => ?_)
      · refine Moves.step (State.radCnt_moves _ _ _) rfl ?_
        refine Moves.step (State.emit_moves _ _) rfl ?_
        refine Moves.step (State.onPort_moves _ _ _) rfl ?_
        refine Moves.step (State.irq_moves _ _ _) rfl ?_
        refine Moves.step (State.reach_moves _ _) rfl ?_
        exact Moves.refl _ _
      · refine Moves.ite (fun _ => ?_) (fun _ => ?_)
        · refine Moves.step (State.radCnt_moves _ _ _) rfl ?_
          refine Moves.step (State.emit_moves _ _) rfl ?_
          refine Moves.step (State.onPort_moves _ _ _) rfl ?_
          refine Moves.step (State.irq_moves _ _ _) rfl ?_
          refine Moves.step (State.reach_moves _ _) rfl ?_
          exact Moves.refl _ _
        · refine Moves.ite (fun _ => ?_) (fun _ => ?_)
          · refine Moves.step (State.radCnt_moves _ _ _) rfl ?_
            refine Moves.step (State.emit_moves _ _) rfl ?_
            refine Moves.step (State.onPort_moves _ _ _) rfl ?_
            refine Moves.step (State.irq_moves _ _ _) rfl ?_
            refine Moves.step (State.reach_moves _ _) rfl ?_
            exact Moves.refl _ _
          · split
            · refine Moves.step (State.emit_moves _ _) rfl ?_
              refine Moves.step (State.onPort_moves _ _ _) rfl ?_
              refine Moves.step (State.irq_moves _ _ _) rfl ?_
              refine Moves.step (State.reach_moves _ _) rfl ?_
              exact Moves.refl _ _
            · refine Moves.step (State.takeAck_moves _ _ _ _ _ _ _) rfl ?_
              refine Moves.step (State.radCnt_moves _ _ _) rfl ?_
              refine Moves.step (State.emit_moves _ _) rfl ?_
              refine Moves.step (State.onPort_moves _ _ _) rfl ?_
              refine Moves.step (State.irq_moves _ _ _) rfl ?_
              refine Moves.step (State.reach_moves _ _) rfl ?_
              exact Moves.refl _ _
            · refine Moves.step (State.accept_moves _ _ _ _ _ _) rfl ?_
              refine Moves.step (State.radCnt_moves _ _ _) rfl ?_
              refine Moves.step (State.emit_moves _ _) rfl ?_
              refine Moves.step (State.onPort_moves _ _ _) rfl ?_
              refine Moves.step (State.irq_moves _ _ _) rfl ?_
              refine Moves.step (State.reach_moves _ _) rfl ?_
              exact Moves.refl _ _

end Sys2Proof.Machine
end

