-- ==== Sys2Proof/Laws/NetRows.lean ====
section
/-!
SUPPORT. How far each operation of Machine/NetRows.lean can change the state.
-/

namespace Sys2Proof.Machine
open Sys2Proof

theorem State.nbrSnap_moves (s : State) (a1) : Moves [.regs, .net, .blk 0x08] s (@State.nbrSnap s a1) := by
  unfold State.nbrSnap
  dsimp only
  refine Moves.upd_net rfl ?_
  refine Moves.step (State.setReg_moves 8 _ _ _ rfl) rfl ?_
  exact Moves.refl _ _

theorem State.netCtrlEff_moves (a0) (s : State) (a2) : Moves [.regs, .ports, .net, .msn, .hst, .evt, .fresh, .out, .blk 0x06, .blk 0x08, .blk 0x11, .blk 0x13] s (@State.netCtrlEff a0 s a2) := by
  unfold State.netCtrlEff
  dsimp only
  refine Moves.ite (fun _ => ?_) (fun _ => ?_)
  · refine Moves.step (State.openRounds_moves _ _ _) rfl ?_
    refine Moves.ite (fun _ => ?_) (fun _ => ?_)
    · refine Moves.foldl _ _ (fun _ _ => ?_) ?_
      · refine Moves.step (State.recompute_moves _ _ _) rfl ?_
        exact Moves.refl _ _
      · exact Moves.refl _ _
    · exact Moves.refl _ _
  · refine Moves.ite (fun _ => ?_) (fun _ => ?_)
    · refine Moves.foldl _ _ (fun _ _ => ?_) ?_
      · refine Moves.step (State.recompute_moves _ _ _) rfl ?_
        exact Moves.refl _ _
      · exact Moves.refl _ _
    · exact Moves.refl _ _

theorem execFloodEcho_ends (a0) (s : State) : Ends [.regs, .tim, .net, .blk 0x08] s (@execFloodEcho a0 s) := by
  unfold execFloodEcho
  dsimp only
  refine Ends.next ?_
  split
  · refine Moves.step (State.reach_moves _ _) rfl ?_
    exact Moves.refl _ _
  · refine Moves.step (State.seen_moves _ _ _ _ _) rfl ?_
    refine Moves.step (State.takeMsg_moves ‹_›) rfl ?_
    refine Moves.step (State.reach_moves _ _) rfl ?_
    exact Moves.refl _ _

theorem execRouteRecompute_ends (a0) (a1) (s : State) : Ends [.regs, .tim, .ports, .net, .msn, .fresh, .out, .blk 0x06, .blk 0x08] s (@execRouteRecompute a0 a1 s) := by
  unfold execRouteRecompute
  dsimp only
  refine Ends.next ?_
  refine Moves.ite (fun _ => ?_) (fun _ => ?_)
  · refine Moves.step (State.recompute_moves _ _ _) rfl ?_
    refine Moves.step (State.reach_moves _ _) rfl ?_
    exact Moves.refl _ _
  · refine Moves.ite (fun _ => ?_) (fun _ => ?_)
    · refine Moves.step (State.recompute_moves _ _ _) rfl ?_
      refine Moves.step (State.reach_moves _ _) rfl ?_
      exact Moves.refl _ _
    · refine Moves.step (State.reach_moves _ _) rfl ?_
      exact Moves.refl _ _

theorem execFloodOrphan_ends (a0) (s : State) : Ends [.regs, .tim, .ports, .net, .msn, .hst, .evt, .fresh, .out, .blk 0x06, .blk 0x08, .blk 0x11, .blk 0x13] s (@execFloodOrphan a0 s) := by
  unfold execFloodOrphan
  dsimp only
  refine Ends.next ?_
  split
  · refine Moves.step (State.reach_moves _ _) rfl ?_
    exact Moves.refl _ _
  · refine Moves.ite (fun _ => ?_) (fun _ => ?_)
    · refine Moves.step (State.seen_moves _ _ _ _ _) rfl ?_
      refine Moves.step (State.takeMsg_moves ‹_›) rfl ?_
      refine Moves.step (State.reach_moves _ _) rfl ?_
      exact Moves.refl _ _
    · refine Moves.ite (fun _ => ?_) (fun _ => ?_)
      · refine Moves.ite (fun _ => ?_) (fun _ => ?_)
        · refine Moves.step (State.seen_moves _ _ _ _ _) rfl ?_
          refine Moves.step (State.takeMsg_moves ‹_›) rfl ?_
          refine Moves.step (State.reach_moves _ _) rfl ?_
          exact Moves.refl _ _
        · refine Moves.step (State.markRoutes_moves _) rfl ?_
          refine Moves.step (State.lose_moves _ _) rfl ?_
          refine Moves.step (State.seen_moves _ _ _ _ _) rfl ?_
          refine Moves.step (State.takeMsg_moves ‹_›) rfl ?_
          refine Moves.step (State.reach_moves _ _) rfl ?_
          exact Moves.refl _ _
      · refine Moves.step (State.openRounds_moves _ _ _) rfl ?_
        refine Moves.ite (fun _ => ?_) (fun _ => ?_)
        · refine Moves.step (State.seen_moves _ _ _ _ _) rfl ?_
          refine Moves.step (State.takeMsg_moves ‹_›) rfl ?_
          refine Moves.step (State.reach_moves _ _) rfl ?_
          exact Moves.refl _ _
        · refine Moves.step (State.markRoutes_moves _) rfl ?_
          refine Moves.step (State.lose_moves _ _) rfl ?_
          refine Moves.step (State.seen_moves _ _ _ _ _) rfl ?_
          refine Moves.step (State.takeMsg_moves ‹_›) rfl ?_
          refine Moves.step (State.reach_moves _ _) rfl ?_
          exact Moves.refl _ _

theorem execNetCtrlDisc_ends (a0) (a1) (s : State) : Ends [.regs, .tim, .ports, .net, .msn, .hst, .evt, .fresh, .out, .blk 0x06, .blk 0x08, .blk 0x11, .blk 0x13] s (@execNetCtrlDisc a0 a1 s) := by
  unfold execNetCtrlDisc
  dsimp only
  refine Ends.next ?_
  refine State.writeRow_moves _ _ _ _ rfl ?_ ?_
  · refine okEff_moves _ _ ?_
    refine Moves.step (State.netCtrlEff_moves _ _ _) rfl ?_
    exact Moves.refl _ _
  · refine Moves.step (State.reach_moves _ _) rfl ?_
    exact Moves.refl _ _

theorem execJoinReq_ends (a0) (s : State) : Ends [.tim, .net] s (@execJoinReq a0 s) := by
  unfold execJoinReq
  dsimp only
  refine Ends.next ?_
  split
  · refine Moves.step (State.reach_moves _ _) rfl ?_
    exact Moves.refl _ _
  · refine Moves.upd_net rfl ?_
    refine Moves.step (State.report_moves _ _ _ _) rfl ?_
    refine Moves.step (State.takeMsg_moves ‹_›) rfl ?_
    refine Moves.step (State.reach_moves _ _) rfl ?_
    exact Moves.refl _ _

theorem execReportedLinkDrop_ends (a0) (s : State) : Ends [.regs, .tim, .ports, .net, .msn, .fresh, .out, .blk 0x06, .blk 0x08] s (@execReportedLinkDrop a0 s) := by
  unfold execReportedLinkDrop
  dsimp only
  refine Ends.next ?_
  refine Moves.step (State.repairCells_moves _ _) rfl ?_
  refine Moves.upd_net rfl ?_
  refine Moves.step (State.reach_moves _ _) rfl ?_
  exact Moves.refl _ _

theorem execJoinDecision_ends (a0) (a1) (s : State) : Ends [.regs, .tim, .ports, .net, .msn, .fresh, .out, .blk 0x06, .blk 0x08] s (@execJoinDecision a0 a1 s) := by
  unfold execJoinDecision
  dsimp only
  refine Ends.next ?_
  split
  · refine Moves.step (State.reach_moves _ _) rfl ?_
    exact Moves.refl _ _
  · refine Moves.ite (fun _ => ?_) (fun _ => ?_)
    · refine Moves.step (State.reach_moves _ _) rfl ?_
      exact Moves.refl _ _
    · refine Moves.ite (fun _ => ?_) (fun _ => ?_)
      · refine Moves.step (State.cntW_moves 8 _ _ _ rfl) rfl ?_
        split
        · refine Moves.step (State.cmdOn_moves _ _ _ _ _) rfl ?_
          refine Moves.upd_net rfl ?_
          refine Moves.step (State.reach_moves _ _) rfl ?_
          exact Moves.refl _ _
        · refine Moves.upd_net rfl ?_
          refine Moves.step (State.reach_moves _ _) rfl ?_
          exact Moves.refl _ _
      · split
        · split
          · refine Moves.step (State.cmdOn_moves _ _ _ _ _) rfl ?_
            refine Moves.upd_net rfl ?_
            refine Moves.step (State.reach_moves _ _) rfl ?_
            exact Moves.refl _ _
          · refine Moves.upd_net rfl ?_
            refine Moves.step (State.reach_moves _ _) rfl ?_
            exact Moves.refl _ _
        · refine Moves.step (State.markRoutes_moves _) rfl ?_
          refine Moves.step (State.joinAck_moves _ _ _ _) rfl ?_
          refine Moves.step (State.setNode_moves _ _ _) rfl ?_
          refine Moves.step (State.takeRoute_moves _ _ _ _) rfl ?_
          refine Moves.ite (fun _ => ?_) (fun _ => ?_)
          · split
            · refine Moves.step (State.endConn_moves _ _ _ _) rfl ?_
              refine Moves.upd_net rfl ?_
              refine Moves.step (State.reach_moves _ _) rfl ?_
              exact Moves.refl _ _
            · refine Moves.upd_net rfl ?_
              refine Moves.step (State.reach_moves _ _) rfl ?_
              exact Moves.refl _ _
          · refine Moves.upd_net rfl ?_
            refine Moves.step (State.reach_moves _ _) rfl ?_
            exact Moves.refl _ _

theorem execBeaconReceived_ends (a0) (s : State) : Ends [.regs, .tim, .net, .hst, .evt, .blk 0x11, .blk 0x13] s (@execBeaconReceived a0 s) := by
  unfold execBeaconReceived
  dsimp only
  refine Ends.next ?_
  split
  · refine Moves.step (State.reach_moves _ _) rfl ?_
    exact Moves.refl _ _
  · refine Moves.ite (fun _ => ?_) (fun _ => ?_)
    · refine Moves.step (State.takeMsg_moves ‹_›) rfl ?_
      refine Moves.step (State.reach_moves _ _) rfl ?_
      exact Moves.refl _ _
    · refine Moves.step (State.relayUp_moves _ _ _) rfl ?_
      refine Moves.step (State.onNbr_moves _ _ _ _) rfl ?_
      refine Moves.step (State.takeMsg_moves ‹_›) rfl ?_
      refine Moves.step (State.reach_moves _ _) rfl ?_
      exact Moves.refl _ _

theorem execBeaconMiss_ends (a0) (a1) (a2) (s : State) : Ends [.regs, .tim, .ports, .net, .msn, .hst, .evt, .fresh, .out, .blk 0x06, .blk 0x08, .blk 0x11, .blk 0x13] s (@execBeaconMiss a0 a1 a2 s) := by
  unfold execBeaconMiss
  dsimp only
  refine Ends.next ?_
  split
  · refine Moves.step (State.reach_moves _ _) rfl ?_
    exact Moves.refl _ _
  · split
    · refine Moves.step (State.reach_moves _ _) rfl ?_
      exact Moves.refl _ _
    · refine Moves.ite (fun _ => ?_) (fun _ => ?_)
      · refine Moves.step (State.reach_moves _ _) rfl ?_
        exact Moves.refl _ _
      · refine Moves.ite (fun _ => ?_) (fun _ => ?_)
        · refine Moves.step (State.relayDown_moves _ _ _ _) rfl ?_
          refine Moves.step (State.setNbr_moves _ _ _) rfl ?_
          refine Moves.step (State.reach_moves _ _) rfl ?_
          exact Moves.refl _ _
        · refine Moves.step (State.setNbr_moves _ _ _) rfl ?_
          refine Moves.step (State.reach_moves _ _) rfl ?_
          exact Moves.refl _ _

theorem execNetCtrlRecompute_ends (a0) (a1) (s : State) : Ends [.regs, .tim, .ports, .net, .msn, .hst, .evt, .fresh, .out, .blk 0x06, .blk 0x08, .blk 0x11, .blk 0x13] s (@execNetCtrlRecompute a0 a1 s) := by
  unfold execNetCtrlRecompute
  dsimp only
  refine Ends.next ?_
  refine State.writeRow_moves _ _ _ _ rfl ?_ ?_
  · refine okEff_moves _ _ ?_
    refine Moves.step (State.netCtrlEff_moves _ _ _) rfl ?_
    exact Moves.refl _ _
  · refine Moves.step (State.reach_moves _ _) rfl ?_
    exact Moves.refl _ _

theorem execNbrReport_ends (a0) (s : State) : Ends [.regs, .tim, .ports, .net, .msn, .fresh, .out, .blk 0x06, .blk 0x08] s (@execNbrReport a0 s) := by
  unfold execNbrReport
  dsimp only
  refine Ends.next ?_
  split
  · refine Moves.step (State.reach_moves _ _) rfl ?_
    exact Moves.refl _ _
  · refine Moves.step (State.netCheck_moves _ _) rfl ?_
    refine Moves.step (State.report_moves _ _ _ _) rfl ?_
    refine Moves.step (State.takeMsg_moves ‹_›) rfl ?_
    refine Moves.step (State.reach_moves _ _) rfl ?_
    exact Moves.refl _ _

theorem execConnReq_ends (a0) (s : State) : Ends [.regs, .tim, .ports, .net, .msn, .fresh, .out, .blk 0x06, .blk 0x08, .blk 0x09] s (@execConnReq a0 s) := by
  unfold execConnReq
  dsimp only
  refine Ends.next ?_
  split
  · refine Moves.step (State.reach_moves _ _) rfl ?_
    exact Moves.refl _ _
  · split
    · refine Moves.step (State.cmdTo_moves _ _ _) rfl ?_
      refine Moves.step (State.cntW_moves 9 _ _ _ rfl) rfl ?_
      refine Moves.step (State.takeMsg_moves ‹_›) rfl ?_
      refine Moves.step (State.reach_moves _ _) rfl ?_
      exact Moves.refl _ _
    · refine Moves.ite (fun _ => ?_) (fun _ => ?_)
      · refine Moves.step (State.cmdTo_moves _ _ _) rfl ?_
        refine Moves.step (State.cntW_moves 9 _ _ _ rfl) rfl ?_
        refine Moves.step (State.takeMsg_moves ‹_›) rfl ?_
        refine Moves.step (State.reach_moves _ _) rfl ?_
        exact Moves.refl _ _
      · refine Moves.ite (fun _ => ?_) (fun _ => ?_)
        · refine Moves.step (State.cmdTo_moves _ _ _) rfl ?_
          refine Moves.step (State.cntW_moves 9 _ _ _ rfl) rfl ?_
          refine Moves.step (State.takeMsg_moves ‹_›) rfl ?_
          refine Moves.step (State.reach_moves _ _) rfl ?_
          exact Moves.refl _ _
        · refine Moves.ite (fun _ => ?_) (fun _ => ?_)
          · refine Moves.step (State.cmdTo_moves _ _ _) rfl ?_
            refine Moves.step (State.cntW_moves 9 _ _ _ rfl) rfl ?_
            refine Moves.step (State.takeMsg_moves ‹_›) rfl ?_
            refine Moves.step (State.reach_moves _ _) rfl ?_
            exact Moves.refl _ _
          · split
            · refine Moves.step (State.cmdTo_moves _ _ _) rfl ?_
              refine Moves.step (State.cntW_moves 9 _ _ _ rfl) rfl ?_
              refine Moves.step (State.takeMsg_moves ‹_›) rfl ?_
              refine Moves.step (State.reach_moves _ _) rfl ?_
              exact Moves.refl _ _
            · refine Moves.step (State.onPort_moves _ _ _) rfl ?_
              refine Moves.step (State.cmdTo_moves _ _ _) rfl ?_
              refine Moves.step (State.used_moves _) rfl ?_
              refine Moves.step (State.used_moves _) rfl ?_
              refine Moves.step (State.onPort_moves _ _ _) rfl ?_
              refine Moves.step (State.takeMsg_moves ‹_›) rfl ?_
              refine Moves.step (State.reach_moves _ _) rfl ?_
              exact Moves.refl _ _

theorem execDiscoveryRoundTimer_ends (a0) (a1) (s : State) : Ends [.regs, .tim, .ports, .net, .msn, .hst, .evt, .fresh, .out, .blk 0x06, .blk 0x08, .blk 0x11, .blk 0x13] s (@execDiscoveryRoundTimer a0 a1 s) := by
  unfold execDiscoveryRoundTimer
  dsimp only
  refine Ends.next ?_
  refine Moves.ite (fun _ => ?_) (fun _ => ?_)
  · refine Moves.step (State.openRounds_moves _ _ _) rfl ?_
    refine Moves.step (State.reach_moves _ _) rfl ?_
    exact Moves.refl _ _
  · refine Moves.step (State.reach_moves _ _) rfl ?_
    exact Moves.refl _ _

theorem execNetNbrIdxWrite_ends (a0) (a1) (s : State) : Ends [.regs, .net, .out, .blk 0x08] s (@execNetNbrIdxWrite a0 a1 s) := by
  unfold execNetNbrIdxWrite
  refine Ends.next ?_
  refine State.writeRow_moves _ _ _ _ rfl ?_ ?_
  · refine okEff_moves _ _ ?_
    refine Moves.step (State.nbrSnap_moves _ _) rfl ?_
    exact Moves.refl _ _
  · exact Moves.refl _ _

theorem execRelayMiss_ends (a0) (s : State) : Ends [.regs, .tim, .ports, .net, .msn, .hst, .evt, .fresh, .out, .blk 0x06, .blk 0x08, .blk 0x11, .blk 0x13] s (@execRelayMiss a0 s) := by
  unfold execRelayMiss
  dsimp only
  refine Ends.next ?_
  split
  · refine Moves.step (State.reach_moves _ _) rfl ?_
    exact Moves.refl _ _
  · refine Moves.ite (fun _ => ?_) (fun _ => ?_)
    · refine Moves.step (State.relayDown_moves _ _ _ _) rfl ?_
      refine Moves.step (State.takeMsg_moves ‹_›) rfl ?_
      refine Moves.step (State.reach_moves _ _) rfl ?_
      exact Moves.refl _ _
    · refine Moves.step (State.takeMsg_moves ‹_›) rfl ?_
      refine Moves.step (State.reach_moves _ _) rfl ?_
      exact Moves.refl _ _

theorem execBeaconTimer_ends (a0) (a1) (s : State) : Ends [.regs, .tim, .ports, .net, .msn, .fresh, .out, .blk 0x06] s (@execBeaconTimer a0 a1 s) := by
  unfold execBeaconTimer
  dsimp only
  refine Ends.next ?_
  refine Moves.ite (fun _ => ?_) (fun _ => ?_)
  · refine Moves.step (State.reach_moves _ _) rfl ?_
    exact Moves.refl _ _
  · refine Moves.step (State.postLaunch_moves _ _ _ _) rfl ?_
    refine Moves.step (State.onPort_moves _ _ _) rfl ?_
    refine Moves.step (State.reach_moves _ _) rfl ?_
    exact Moves.refl _ _

end Sys2Proof.Machine
end

