-- ==== Sys2Proof/Laws/Guards.lean ====
section
/-!
SUPPORT. How far each operation of Machine/Guards.lean can change the state.
-/

namespace Sys2Proof.Machine
open Sys2Proof

theorem State.foreignWrite_moves (s : State) (g) : Moves [.regs, .hst, .evt, .fresh, .blk 0x0A, .blk 0x0E, .blk 0x0F, .blk 0x10, .blk 0x11, .blk 0x13] s (@State.foreignWrite s g) := by
  unfold State.foreignWrite
  refine Moves.ite (fun _ => ?_) (fun _ => ?_)
  · exact Moves.step (State.used_moves _) rfl (Moves.mono (State.raise_moves _ _ _ _ _ _ _) rfl)
  · cases g
    case warp => exact Moves.mono (State.cntS_moves 0x0A _ _ _ rfl) rfl
    case balance => exact Moves.mono (State.cntS_moves 0x0E _ _ _ rfl) rfl
    case beamMap => exact Moves.mono (State.cntS_moves 0x0F _ _ _ rfl) rfl
    case keyTable => exact Moves.mono (State.cntS_moves 0x10 _ _ _ rfl) rfl
    all_goals exact Moves.refl _ _

theorem State.writeIn_moves (s : State) (g) (a1) (a2) (a3) : Moves [.regs, .sht, .hst, .evt, .fresh, .blk 0x0A, .blk 0x0E, .blk 0x0F, .blk 0x10, .blk 0x11, .blk 0x13] s (@State.writeIn s g a1 a2 a3) := by
  unfold State.writeIn
  refine Moves.ite (fun _ => ?_) (fun _ => ?_)
  · refine Moves.upd_sht rfl ?_
    exact Moves.refl _ _
  · refine Moves.step (State.foreignWrite_moves _ _) rfl ?_
    exact Moves.refl _ _

theorem State.dramWrite_moves (s : State) (a1) (a2) (a3) : Moves [.regs, .sht, .hst, .evt, .fresh, .blk 0x0A, .blk 0x0E, .blk 0x0F, .blk 0x10, .blk 0x11, .blk 0x13] s (@State.dramWrite s a1 a2 a3) := by
  unfold State.dramWrite
  exact State.writeIn_moves _ _ _ _ _

theorem State.setCoreMem_moves (s : State) (a1) (a2) : Moves [.sht] s (@State.setCoreMem s a1 a2) := by
  unfold State.setCoreMem
  refine Moves.upd_sht rfl ?_
  exact Moves.refl _ _

theorem State.drainCore_moves (s : State) (a1) (a2) : Moves [.regs, .sht, .hst, .evt, .fresh, .blk 0x0A, .blk 0x0E, .blk 0x0F, .blk 0x10, .blk 0x11, .blk 0x13] s (@State.drainCore s a1 a2) := by
  unfold State.drainCore
  dsimp only
  refine Moves.foldl _ _ (fun _ _ => ?_) ?_
  · refine Moves.step (State.dramWrite_moves _ _ _ _) rfl ?_
    exact Moves.refl _ _
  · refine Moves.step (State.setCoreMem_moves _ _ _) rfl ?_
    exact Moves.refl _ _

theorem State.coreVisible_moves (s : State) (a1) : Moves [.regs, .sht, .hst, .evt, .fresh, .blk 0x0A, .blk 0x0E, .blk 0x0F, .blk 0x10, .blk 0x11, .blk 0x13] s (@State.coreVisible s a1) := by
  unfold State.coreVisible
  refine Moves.step (State.drainCore_moves _ _ _) rfl ?_
  exact Moves.refl _ _

theorem State.coreFresh_moves (s : State) (a1) : Moves [.regs, .sht, .hst, .evt, .fresh, .blk 0x0A, .blk 0x0E, .blk 0x0F, .blk 0x10, .blk 0x11, .blk 0x13] s (@State.coreFresh s a1) := by
  unfold State.coreFresh
  dsimp only
  refine Moves.step (State.setCoreMem_moves _ _ _) rfl ?_
  refine Moves.step (State.coreVisible_moves _ _) rfl ?_
  exact Moves.refl _ _

theorem State.setPmp_moves (s : State) (a1) (a2) : Moves [.sht] s (@State.setPmp s a1 a2) := by
  unfold State.setPmp
  dsimp only
  refine Moves.step (State.setCoreMem_moves _ _ _) rfl ?_
  exact Moves.refl _ _

theorem State.clearPmp_moves (s : State) (a1) : Moves [.sht] s (@State.clearPmp s a1) := by
  unfold State.clearPmp
  refine Moves.step (State.setPmp_moves _ _ _) rfl ?_
  exact Moves.refl _ _

theorem State.coreInvalidate_moves (s : State) (a1) : Moves [.sht] s (@State.coreInvalidate s a1) := by
  unfold State.coreInvalidate
  dsimp only
  refine Moves.step (State.setCoreMem_moves _ _ _) rfl ?_
  exact Moves.refl _ _

theorem State.windowRead_moves (s : State) (a1) (a2) (a3) : Moves [.sht, .fresh, .out] s (@State.windowRead s a1 a2 a3).1 := by
  unfold State.windowRead
  dsimp only
  split
  · dsimp only
    refine Moves.step (State.emit_moves _ _) rfl ?_
    exact Moves.refl _ _
  · split
    · dsimp only
      exact Moves.refl _ _
    · refine Moves.ite_fst (fun _ => ?_) (fun _ => ?_)
      · dsimp only
        refine Moves.step (State.used_moves _) rfl ?_
        exact Moves.refl _ _
      · dsimp only
        refine Moves.step (State.setCoreMem_moves _ _ _) rfl ?_
        refine Moves.step (State.used_moves _) rfl ?_
        exact Moves.refl _ _
    · dsimp only
      refine Moves.step (State.setCoreMem_moves _ _ _) rfl ?_
      exact Moves.refl _ _

theorem State.coreRead_moves (s : State) (a1) (a2) (a3) (a4) : Moves [.sht, .fresh, .out] s (@State.coreRead s a1 a2 a3 a4).1 := by
  unfold State.coreRead
  dsimp only
  split
  · dsimp only
    refine Moves.step (State.emit_moves _ _) rfl ?_
    exact Moves.refl _ _
  · refine Moves.ite_fst (fun _ => ?_) (fun _ => ?_)
    · dsimp only
      exact Moves.refl _ _
    · split
      · dsimp only
        exact Moves.refl _ _
      · dsimp only
        exact Moves.refl _ _
      · refine Moves.step (State.windowRead_moves _ _ _ _) rfl ?_
        exact Moves.refl _ _
      · dsimp only
        exact Moves.refl _ _
      · dsimp only
        exact Moves.refl _ _
      · dsimp only
        exact Moves.refl _ _

theorem State.coreWrite_moves (s : State) (a1) (a2) (a3) (a4) : Moves [.regs, .sht, .hst, .evt, .fresh, .out, .blk 0x0A, .blk 0x0E, .blk 0x0F, .blk 0x10, .blk 0x11, .blk 0x13] s (@State.coreWrite s a1 a2 a3 a4).1 := by
  unfold State.coreWrite
  dsimp only
  split
  · dsimp only
    refine Moves.step (State.emit_moves _ _) rfl ?_
    exact Moves.refl _ _
  · refine Moves.ite_fst (fun _ => ?_) (fun _ => ?_)
    · dsimp only
      exact Moves.refl _ _
    · split
      · dsimp only
        refine Moves.step (State.setCoreMem_moves _ _ _) rfl ?_
        exact Moves.refl _ _
      · dsimp only
        refine Moves.upd_sht rfl ?_
        exact Moves.refl _ _
      · dsimp only
        refine Moves.step (State.drainCore_moves _ _ _) rfl ?_
        refine Moves.step (State.used_moves _) rfl ?_
        refine Moves.step (State.setCoreMem_moves _ _ _) rfl ?_
        exact Moves.refl _ _
      · dsimp only
        exact Moves.refl _ _
      · dsimp only
        refine Moves.step (State.setCoreMem_moves _ _ _) rfl ?_
        exact Moves.refl _ _
      · dsimp only
        exact Moves.refl _ _

theorem State.partWrite_moves (s : State) (a1) : Moves [.regs, .out, .blk 0x0F] s (@State.partWrite s a1) := by
  unfold State.partWrite
  split
  · exact Moves.refl _ _
  · refine Moves.step (State.emit_moves _ _) rfl ?_
    exact Moves.refl _ _
  · refine Moves.step (State.emit_moves _ _) rfl ?_
    exact Moves.refl _ _
  · refine Moves.step (State.cntS_moves 15 _ _ _ rfl) rfl ?_
    exact Moves.refl _ _

end Sys2Proof.Machine
end

