-- ==== Sys2Proof/Laws/Shuttle.lean ====
section
/-!
SUPPORT. How far each operation of Machine/Shuttle.lean can change the state.
-/

namespace Sys2Proof.Machine
open Sys2Proof

theorem State.dropRequester_moves (s : State) (a1) : Moves [.snap, .heldW] s (@State.dropRequester s a1) := by
  unfold State.dropRequester
  dsimp only
  refine Moves.upd_snap_heldW rfl ?_
  exact Moves.refl _ _

theorem State.addCore_moves (s : State) (a1) : Moves [.regs, .snap, .heldW, .sht, .hst, .evt, .fresh, .blk 0x0A, .blk 0x0E, .blk 0x0F, .blk 0x10, .blk 0x11, .blk 0x13] s (@State.addCore s a1) := by
  unfold State.addCore
  dsimp only
  refine Moves.step (State.dropRequester_moves _ _) rfl ?_
  refine Moves.upd_sht rfl ?_
  refine Moves.step (State.coreFresh_moves _ _) rfl ?_
  exact Moves.refl _ _

theorem State.setReady_moves (s : State) (a1) (a2) : Moves [.sht] s (@State.setReady s a1 a2) := by
  unfold State.setReady
  refine Moves.upd_sht rfl ?_
  exact Moves.refl _ _

theorem State.countStrays_moves (s : State) : Moves [.regs, .sht, .blk 0x05] s (@State.countStrays s) := by
  unfold State.countStrays
  refine Moves.foldl _ _ (fun _ _ => ?_) ?_
  · dsimp only
    refine Moves.ite (fun _ => ?_) (fun _ => ?_)
    · exact Moves.refl _ _
    · refine Moves.step (State.cntS_moves 5 _ _ _ rfl) rfl ?_
      refine Moves.step (State.setReady_moves _ _ _) rfl ?_
      exact Moves.refl _ _
  · exact Moves.refl _ _

theorem State.setHolds_moves (s : State) (a1) (a2) : Moves [.sht] s (@State.setHolds s a1 a2) := by
  unfold State.setHolds
  refine Moves.upd_sht rfl ?_
  exact Moves.refl _ _

theorem State.serveOne_moves (s : State) (a1) : Moves [.regs, .sht, .out, .blk 0x05] s (@State.serveOne s a1) := by
  unfold State.serveOne
  split
  · exact Moves.refl _ _
  · dsimp only
    refine Moves.step (State.emit_moves _ _) rfl ?_
    refine Moves.step (State.cntW_moves 5 _ _ _ rfl) rfl ?_
    refine Moves.upd_sht rfl ?_
    refine Moves.step (State.setHolds_moves _ _ _) rfl ?_
    refine Moves.step (State.setReady_moves _ _ _) rfl ?_
    exact Moves.refl _ _

theorem State.serve_moves (s : State) : Moves [.regs, .sht, .out, .blk 0x05] s (@State.serve s) := by
  unfold State.serve
  dsimp only
  refine Moves.foldl _ _ (fun _ _ => ?_) ?_
  · refine Moves.step (State.serveOne_moves _ _) rfl ?_
    exact Moves.refl _ _
  · refine Moves.step (State.countStrays_moves _) rfl ?_
    exact Moves.refl _ _

theorem State.toTail_moves (s : State) (a1) : Moves [.sht] s (@State.toTail s a1) := by
  unfold State.toTail
  refine Moves.step (State.setReady_moves _ _ _) rfl ?_
  exact Moves.refl _ _

theorem State.poolLow_moves (s : State) : Moves [.regs, .hst, .evt, .blk 0x11, .blk 0x13] s (@State.poolLow s) := by
  unfold State.poolLow
  refine Moves.ite (fun _ => ?_) (fun _ => ?_)
  · refine Moves.step (State.raise_moves _ _ _ _ _ _ _) rfl ?_
    exact Moves.refl _ _
  · refine Moves.ite (fun _ => ?_) (fun _ => ?_)
    · refine Moves.step (State.endEv_moves _ _ _) rfl ?_
      exact Moves.refl _ _
    · exact Moves.refl _ _

theorem State.setDelay_moves (s : State) (a1) (a2) : Moves [.sht] s (@State.setDelay s a1 a2) := by
  unfold State.setDelay
  refine Moves.upd_sht rfl ?_
  exact Moves.refl _ _

theorem State.toDelay_moves (s : State) (a1) (a2) (a3) : Moves [.sht] s (@State.toDelay s a1 a2 a3) := by
  unfold State.toDelay
  refine Moves.step (State.setDelay_moves _ _ _) rfl ?_
  exact Moves.refl _ _

theorem State.take_moves (s : State) (a1) : Moves [.regs, .sht, .hst, .evt, .blk 0x05, .blk 0x11, .blk 0x13] s (@State.take s a1).1 := by
  unfold State.take
  dsimp only
  refine Moves.ite (fun _ => ?_) (fun _ => ?_)
  · refine Moves.step (State.toTail_moves _ _) rfl ?_
    refine Moves.step (State.poolLow_moves _) rfl ?_
    refine Moves.step (State.cntW_moves 5 _ _ _ rfl) rfl ?_
    refine Moves.upd_sht rfl ?_
    exact Moves.refl _ _
  · refine Moves.step (State.toDelay_moves _ _ _ _) rfl ?_
    refine Moves.step (State.poolLow_moves _) rfl ?_
    refine Moves.step (State.cntW_moves 5 _ _ _ rfl) rfl ?_
    refine Moves.upd_sht rfl ?_
    exact Moves.refl _ _

theorem State.hwPost_moves (s : State) (a1) : Moves [.regs, .sht, .hst, .evt, .out, .blk 0x05, .blk 0x11, .blk 0x13] s (@State.hwPost s a1) := by
  unfold State.hwPost
  dsimp only
  refine Moves.ite (fun _ => ?_) (fun _ => ?_)
  · exact Moves.refl _ _
  · refine Moves.ite (fun _ => ?_) (fun _ => ?_)
    · refine Moves.step (State.serve_moves _) rfl ?_
      refine Moves.step (State.take_moves _ _) rfl ?_
      exact Moves.refl _ _
    · refine Moves.upd_sht rfl ?_
      refine Moves.step (State.cntW_moves 5 _ _ _ rfl) rfl ?_
      split
      · exact Moves.refl _ _
      · refine Moves.step (State.cntW_moves 5 _ _ _ rfl) rfl ?_
        exact Moves.refl _ _
      · refine Moves.step (State.cntW_moves 5 _ _ _ rfl) rfl ?_
        exact Moves.refl _ _

theorem State.dropTask_moves (s : State) (a1) : Moves [.sht] s (@State.dropTask s a1) := by
  unfold State.dropTask
  refine Moves.upd_sht rfl ?_
  exact Moves.refl _ _

theorem State.refill_moves (s : State) : Moves [.regs, .sht, .hst, .evt, .blk 0x05, .blk 0x11, .blk 0x13] s (@State.refill s) := by
  unfold State.refill
  split
  · exact Moves.refl _ _
  · split
    · exact Moves.refl _ _
    · refine Moves.ite (fun _ => ?_) (fun _ => ?_)
      · dsimp only
        refine Moves.ite (fun _ => ?_) (fun _ => ?_)
        · refine Moves.step (State.endEv_moves _ _ _) rfl ?_
          refine Moves.step (State.take_moves _ _) rfl ?_
          refine Moves.upd_sht rfl ?_
          exact Moves.refl _ _
        · refine Moves.step (State.take_moves _ _) rfl ?_
          refine Moves.upd_sht rfl ?_
          exact Moves.refl _ _
      · exact Moves.refl _ _

theorem State.freeTask_moves (s : State) (a1) : Moves [.regs, .sht, .hst, .evt, .blk 0x05, .blk 0x11, .blk 0x13] s (@State.freeTask s a1) := by
  unfold State.freeTask
  dsimp only
  refine Moves.step (State.refill_moves _) rfl ?_
  refine Moves.step (State.poolLow_moves _) rfl ?_
  refine Moves.upd_sht rfl ?_
  exact Moves.refl _ _

theorem State.extracted_moves (s : State) (a1) (a2) : Moves [.msn] s (@State.extracted s a1 a2) := by
  unfold State.extracted
  refine Moves.ite (fun _ => ?_) (fun _ => ?_)
  · exact Moves.refl _ _
  · split
    · exact Moves.refl _ _
    · refine Moves.upd_msn rfl ?_
      exact Moves.refl _ _

theorem State.cancel_moves (s : State) (a1) (a2) : Moves [.regs, .msn, .sht, .hst, .evt, .blk 0x05, .blk 0x11, .blk 0x13] s (@State.cancel s a1 a2).1 := by
  unfold State.cancel
  split
  · refine Moves.ite_fst (fun _ => ?_) (fun _ => ?_)
    · dsimp only
      refine Moves.step (State.extracted_moves _ _ _) rfl ?_
      refine Moves.step (State.freeTask_moves _ _) rfl ?_
      refine Moves.step (State.dropTask_moves _ _) rfl ?_
      exact Moves.refl _ _
    · dsimp only
      exact Moves.refl _ _
  · refine Moves.ite_fst (fun _ => ?_) (fun _ => ?_)
    · dsimp only
      exact Moves.refl _ _
    · dsimp only
      exact Moves.refl _ _

theorem State.parkCore_moves (s : State) (a1) : Moves [.sht] s (@State.parkCore s a1) := by
  unfold State.parkCore
  refine Moves.upd_sht rfl ?_
  exact Moves.refl _ _

theorem State.withdrawCore_moves (s : State) (a1) : Moves [.sht, .out] s (@State.withdrawCore s a1) := by
  unfold State.withdrawCore
  dsimp only
  refine Moves.ite (fun _ => ?_) (fun _ => ?_)
  · refine Moves.step (State.emit_moves _ _) rfl ?_
    refine Moves.step (State.parkCore_moves _ _) rfl ?_
    refine Moves.upd_sht rfl ?_
    exact Moves.refl _ _
  · refine Moves.upd_sht rfl ?_
    exact Moves.refl _ _

theorem State.coreEnEff_moves (s : State) (a1) : Moves [.regs, .snap, .heldW, .sht, .hst, .evt, .fresh, .out, .blk 0x05, .blk 0x0A, .blk 0x0E, .blk 0x0F, .blk 0x10, .blk 0x11, .blk 0x13] s (@State.coreEnEff s a1) := by
  unfold State.coreEnEff
  refine Moves.step (State.serve_moves _) rfl ?_
  refine Moves.foldl _ _ (fun _ _ => ?_) ?_
  · dsimp only
    refine Moves.ite (fun _ => ?_) (fun _ => ?_)
    · exact Moves.refl _ _
    · refine Moves.ite (fun _ => ?_) (fun _ => ?_)
      · refine Moves.step (State.addCore_moves _ _) rfl ?_
        exact Moves.refl _ _
      · refine Moves.step (State.withdrawCore_moves _ _) rfl ?_
        exact Moves.refl _ _
  · exact Moves.refl _ _

theorem State.postAns_moves (s : State) (a1) (a2) (a3) : Moves [.out] s (@State.postAns s a1 a2 a3) := by
  unfold State.postAns
  refine Moves.step (State.emit_moves _ _) rfl ?_
  refine Moves.step (State.emit_moves _ _) rfl ?_
  exact Moves.refl _ _

theorem State.corePost_moves (s : State) (a1) (a2) : Moves [.regs, .sht, .hst, .evt, .out, .blk 0x05, .blk 0x11, .blk 0x13] s (@State.corePost s a1 a2) := by
  unfold State.corePost
  refine Moves.ite (fun _ => ?_) (fun _ => ?_)
  · refine Moves.step (State.postAns_moves _ _ _ _) rfl ?_
    exact Moves.refl _ _
  · dsimp only
    refine Moves.ite (fun _ => ?_) (fun _ => ?_)
    · refine Moves.ite (fun _ => ?_) (fun _ => ?_)
      · refine Moves.step (State.postAns_moves _ _ _ _) rfl ?_
        refine Moves.step (State.cntW_moves 5 _ _ _ rfl) rfl ?_
        refine Moves.upd_sht rfl ?_
        exact Moves.refl _ _
      · refine Moves.step (State.raise_moves _ _ _ _ _ _ _) rfl ?_
        split
        · refine Moves.step (State.postAns_moves _ _ _ _) rfl ?_
          refine Moves.step (State.cntW_moves 5 _ _ _ rfl) rfl ?_
          exact Moves.refl _ _
        · refine Moves.step (State.postAns_moves _ _ _ _) rfl ?_
          refine Moves.step (State.cntW_moves 5 _ _ _ rfl) rfl ?_
          exact Moves.refl _ _
    · refine Moves.ite (fun _ => ?_) (fun _ => ?_)
      · refine Moves.step (State.serve_moves _) rfl ?_
        refine Moves.step (State.postAns_moves _ _ _ _) rfl ?_
        refine Moves.step (State.take_moves _ _) rfl ?_
        exact Moves.refl _ _
      · split
        · refine Moves.step (State.postAns_moves _ _ _ _) rfl ?_
          refine Moves.step (State.cntW_moves 5 _ _ _ rfl) rfl ?_
          exact Moves.refl _ _
        · refine Moves.step (State.postAns_moves _ _ _ _) rfl ?_
          refine Moves.step (State.cntW_moves 5 _ _ _ rfl) rfl ?_
          exact Moves.refl _ _

theorem State.letGo_moves (s : State) (a1) : Moves [.sht] s (@State.letGo s a1) := by
  unfold State.letGo
  dsimp only
  refine Moves.ite (fun _ => ?_) (fun _ => ?_)
  · refine Moves.step (State.clearPmp_moves _ _) rfl ?_
    refine Moves.step (State.setHolds_moves _ _ _) rfl ?_
    exact Moves.refl _ _
  · refine Moves.step (State.parkCore_moves _ _) rfl ?_
    refine Moves.step (State.clearPmp_moves _ _) rfl ?_
    refine Moves.step (State.setHolds_moves _ _ _) rfl ?_
    exact Moves.refl _ _

theorem State.extEnd_moves {fs : List Field} {s : State} (c : Nat) (f : State → Task → State)
    (hs : ([.regs, .sht, .out, .blk 0x05] : List Field).all (fun g => fs.contains g) = true) (hf : ∀ u x, Moves fs u (f u x)) :
    Moves fs s (s.extEnd c f) := by
  unfold State.extEnd
  split
  · exact Moves.refl _ _
  · refine Moves.step (State.serve_moves _) (sub_of hs rfl) ?_
    exact (Moves.mono (State.letGo_moves _ _) (sub_of hs rfl)).trans (hf _ _)

theorem State.toHead_moves (s : State) (a1) : Moves [.sht] s (@State.toHead s a1) := by
  unfold State.toHead
  refine Moves.step (State.setReady_moves _ _ _) rfl ?_
  exact Moves.refl _ _

theorem State.failCore_moves (s : State) (a1) : Moves [.regs, .sys, .sht, .hst, .evt, .out, .blk 0x11, .blk 0x13] s (@State.failCore s a1) := by
  unfold State.failCore
  dsimp only
  refine Moves.step (State.parkCore_moves _ _) rfl ?_
  refine Moves.upd_sht rfl ?_
  split
  · refine Moves.ite (fun _ => ?_) (fun _ => ?_)
    · refine Moves.step (State.emit_moves _ _) rfl ?_
      refine Moves.step (State.unitDown_moves _ _ _) rfl ?_
      exact Moves.refl _ _
    · refine Moves.step (State.unitDown_moves _ _ _) rfl ?_
      exact Moves.refl _ _
  · refine Moves.step (State.toHead_moves _ _) rfl ?_
    refine Moves.step (State.setHolds_moves _ _ _) rfl ?_
    refine Moves.step (State.unitDown_moves _ _ _) rfl ?_
    exact Moves.refl _ _

theorem State.tickEff_moves (a0) (s : State) (a2) : Moves [.regs, .blk 0x05] s (@State.tickEff a0 s a2).1 := by
  unfold State.tickEff
  refine Moves.ite_fst (fun _ => ?_) (fun _ => ?_)
  · dsimp only
    exact Moves.refl _ _
  · dsimp only
    refine Moves.step (State.setReg_moves 5 _ _ _ (by simp only [R.SHT_TICK_k]; omega)) rfl ?_
    exact Moves.refl _ _

theorem State.resetCore_moves (s : State) (a1) : Moves [.regs, .snap, .heldW, .msn, .sht, .hst, .evt, .fresh, .blk 0x05, .blk 0x0A, .blk 0x0E, .blk 0x0F, .blk 0x10, .blk 0x11, .blk 0x13] s (@State.resetCore s a1) := by
  unfold State.resetCore
  dsimp only
  split
  · refine Moves.upd_sht rfl ?_
    refine Moves.step (State.coreFresh_moves _ _) rfl ?_
    refine Moves.step (State.dropRequester_moves _ _) rfl ?_
    exact Moves.refl _ _
  · refine Moves.ite (fun _ => ?_) (fun _ => ?_)
    · refine Moves.step (State.toHead_moves _ _) rfl ?_
      refine Moves.step (State.letGo_moves _ _) rfl ?_
      refine Moves.upd_sht rfl ?_
      refine Moves.step (State.coreFresh_moves _ _) rfl ?_
      refine Moves.step (State.dropRequester_moves _ _) rfl ?_
      exact Moves.refl _ _
    · refine Moves.step (State.raise_moves _ _ _ _ _ _ _) rfl ?_
      refine Moves.step (State.cntS_moves 5 _ _ _ rfl) rfl ?_
      refine Moves.step (State.extracted_moves _ _ _) rfl ?_
      refine Moves.step (State.freeTask_moves _ _) rfl ?_
      refine Moves.step (State.letGo_moves _ _) rfl ?_
      refine Moves.upd_sht rfl ?_
      refine Moves.step (State.coreFresh_moves _ _) rfl ?_
      refine Moves.step (State.dropRequester_moves _ _) rfl ?_
      exact Moves.refl _ _

theorem State.shtDone_moves {fs : List Field} {s : State} (c : Nat) (f : State → Task → State)
    (hs : ([.regs, .sht, .out, .blk 0x05] : List Field).all (fun g => fs.contains g) = true) (hf : ∀ u x, Moves fs u (f u x)) :
    Moves fs s (s.shtDone c f) := by
  unfold State.shtDone
  refine Moves.ite (fun _ => Moves.refl _ _) (fun _ => ?_)
  split
  · exact Moves.mono (State.emit_moves _ _) (sub_of hs rfl)
  · refine Moves.step (State.serve_moves _) (sub_of hs rfl) ?_
    exact (Moves.mono (State.letGo_moves _ _) (sub_of hs rfl)).trans (hf _ _)

theorem State.watchReset_moves (s : State) (a1) (a2) : Moves [.regs, .snap, .heldW, .sys, .msn, .sht, .hst, .evt, .fresh, .out, .blk 0x05, .blk 0x0A, .blk 0x0E, .blk 0x0F, .blk 0x10, .blk 0x11, .blk 0x13] s (@State.watchReset s a1 a2) := by
  unfold State.watchReset
  dsimp only
  refine Moves.ite (fun _ => ?_) (fun _ => ?_)
  · refine Moves.step (State.failCore_moves _ _) rfl ?_
    refine Moves.upd_sht rfl ?_
    refine Moves.step (State.resetCore_moves _ _) rfl ?_
    exact Moves.refl _ _
  · refine Moves.upd_sht rfl ?_
    refine Moves.step (State.resetCore_moves _ _) rfl ?_
    exact Moves.refl _ _

theorem execExtDone_ends (a0) (s : State) : Ends [.regs, .sht, .hst, .evt, .out, .blk 0x05, .blk 0x11, .blk 0x13] s (@execExtDone a0 s) := by
  unfold execExtDone
  refine Ends.next ?_
  refine Moves.trans ?_ (State.extEnd_moves _ _ rfl (fun _ _ => ?_))
  · exact Moves.refl _ _
  · refine Moves.step (State.freeTask_moves _ _) rfl ?_
    exact Moves.refl _ _

theorem execShtPost_ends (a0) (a1) (s : State) : Ends [.regs, .sht, .hst, .evt, .fresh, .out, .blk 0x05, .blk 0x0A, .blk 0x0E, .blk 0x0F, .blk 0x10, .blk 0x11, .blk 0x13] s (@execShtPost a0 a1 s) := by
  unfold execShtPost
  refine Ends.next ?_
  refine Moves.ite (fun _ => ?_) (fun _ => ?_)
  · refine Moves.step (State.corePost_moves _ _ _) rfl ?_
    refine Moves.step (State.coreVisible_moves _ _) rfl ?_
    exact Moves.refl _ _
  · exact Moves.refl _ _

theorem execCoreWithdraw_ends (a0) (a1) (s : State) : Ends [.regs, .snap, .heldW, .sht, .hst, .evt, .fresh, .out, .blk 0x05, .blk 0x0A, .blk 0x0E, .blk 0x0F, .blk 0x10, .blk 0x11, .blk 0x13] s (@execCoreWithdraw a0 a1 s) := by
  unfold execCoreWithdraw
  refine Ends.next ?_
  refine State.writeRow_moves _ _ _ _ rfl ?_ ?_
  · refine okEff_moves _ _ ?_
    refine Moves.step (State.coreEnEff_moves _ _) rfl ?_
    exact Moves.refl _ _
  · exact Moves.refl _ _

theorem execDelayListTick_ends (a0) (a1) (s : State) : Ends [.regs, .tim, .sht, .out, .blk 0x05] s (@execDelayListTick a0 a1 s) := by
  unfold execDelayListTick
  dsimp only
  refine Ends.next ?_
  refine Moves.step (State.serve_moves _) rfl ?_
  refine Moves.foldl _ _ (fun _ _ => ?_) ?_
  · refine Moves.step (State.toTail_moves _ _) rfl ?_
    exact Moves.refl _ _
  · refine Moves.step (State.setDelay_moves _ _ _) rfl ?_
    refine Moves.step (State.reach_moves _ _) rfl ?_
    exact Moves.refl _ _

theorem execExtDelay_ends (a0) (a1) (a2) (a3) (s : State) : Ends [.regs, .sht, .out, .blk 0x05] s (@execExtDelay a0 a1 a2 a3 s) := by
  unfold execExtDelay
  refine Ends.next ?_
  refine Moves.trans ?_ (State.extEnd_moves _ _ rfl (fun _ _ => ?_))
  · exact Moves.refl _ _
  · refine Moves.step (State.toDelay_moves _ _ _ _) rfl ?_
    exact Moves.refl _ _

theorem execShtDispatch_ends (a0) (s : State) : Ends [.regs, .sht, .out, .blk 0x05] s (@execShtDispatch a0 s) := by
  unfold execShtDispatch
  refine Ends.next ?_
  refine Moves.ite (fun _ => ?_) (fun _ => ?_)
  · exact Moves.refl _ _
  · dsimp only
    refine Moves.ite (fun _ => ?_) (fun _ => ?_)
    · refine Moves.step (State.emit_moves _ _) rfl ?_
      refine Moves.step (State.coreInvalidate_moves _ _) rfl ?_
      exact Moves.refl _ _
    · refine Moves.ite (fun _ => ?_) (fun _ => ?_)
      · refine Moves.step (State.emit_moves _ _) rfl ?_
        refine Moves.step (State.parkCore_moves _ _) rfl ?_
        refine Moves.step (State.coreInvalidate_moves _ _) rfl ?_
        exact Moves.refl _ _
      · refine Moves.step (State.serve_moves _) rfl ?_
        refine Moves.upd_sht rfl ?_
        refine Moves.step (State.coreInvalidate_moves _ _) rfl ?_
        exact Moves.refl _ _

theorem execExtRequeue_ends (a0) (a1) (s : State) : Ends [.regs, .sht, .out, .blk 0x05] s (@execExtRequeue a0 a1 s) := by
  unfold execExtRequeue
  refine Ends.next ?_
  refine Moves.trans ?_ (State.extEnd_moves _ _ rfl (fun _ _ => ?_))
  · exact Moves.refl _ _
  · refine Moves.step (State.toTail_moves _ _) rfl ?_
    exact Moves.refl _ _

theorem execExtYield_ends (a0) (a1) (s : State) : Ends [.regs, .sht, .out, .blk 0x05] s (@execExtYield a0 a1 s) := by
  unfold execExtYield
  refine Ends.next ?_
  refine Moves.trans ?_ (State.extEnd_moves _ _ rfl (fun _ _ => ?_))
  · exact Moves.refl _ _
  · refine Moves.step (State.toHead_moves _ _) rfl ?_
    exact Moves.refl _ _

theorem execExtPost_ends (a0) (a1) (a2) (a3) (a4) (a5) (a6) (s : State) : Ends [.regs, .sht, .hst, .evt, .fresh, .out, .blk 0x05, .blk 0x0A, .blk 0x0E, .blk 0x0F, .blk 0x10, .blk 0x11, .blk 0x13] s (@execExtPost a0 a1 a2 a3 a4 a5 a6 s) := by
  unfold execExtPost
  refine Ends.next ?_
  split
  · exact Moves.refl _ _
  · split
    · refine Moves.step (State.emit_moves _ _) rfl ?_
      exact Moves.refl _ _
    · dsimp only
      refine Moves.ite (fun _ => ?_) (fun _ => ?_)
      · refine Moves.step (State.coreVisible_moves _ _) rfl ?_
        exact Moves.refl _ _
      · refine Moves.ite (fun _ => ?_) (fun _ => ?_)
        · refine Moves.step (State.emit_moves _ _) rfl ?_
          refine Moves.step (State.coreVisible_moves _ _) rfl ?_
          exact Moves.refl _ _
        · refine Moves.step (State.corePost_moves _ _ _) rfl ?_
          refine Moves.step (State.used_moves _) rfl ?_
          refine Moves.step (State.used_moves _) rfl ?_
          refine Moves.step (State.coreVisible_moves _ _) rfl ?_
          exact Moves.refl _ _

theorem execExtFault_ends (a0) (a1) (s : State) : Ends [.regs, .sht, .hst, .evt, .out, .blk 0x05, .blk 0x11, .blk 0x13] s (@execExtFault a0 a1 s) := by
  unfold execExtFault
  refine Ends.next ?_
  split
  · exact Moves.refl _ _
  · refine Moves.step (State.serve_moves _) rfl ?_
    refine Moves.step (State.raise_moves _ _ _ _ _ _ _) rfl ?_
    refine Moves.step (State.freeTask_moves _ _) rfl ?_
    refine Moves.step (State.letGo_moves _ _) rfl ?_
    exact Moves.refl _ _

theorem execHwPostRetry_ends (a0) (s : State) : Ends [.regs, .sht, .hst, .evt, .out, .blk 0x05, .blk 0x11, .blk 0x13] s (@execHwPostRetry a0 s) := by
  unfold execHwPostRetry
  refine Ends.next ?_
  split
  · exact Moves.refl _ _
  · refine Moves.ite (fun _ => ?_) (fun _ => ?_)
    · dsimp only
      refine Moves.step (State.serve_moves _) rfl ?_
      refine Moves.step (State.take_moves _ _) rfl ?_
      refine Moves.upd_sht rfl ?_
      exact Moves.refl _ _
    · exact Moves.refl _ _

theorem execShtCancel_ends (a0) (a1) (s : State) : Ends [.regs, .msn, .sht, .hst, .evt, .out, .blk 0x05, .blk 0x11, .blk 0x13] s (@execShtCancel a0 a1 s) := by
  unfold execShtCancel
  refine Ends.next ?_
  refine Moves.ite (fun _ => ?_) (fun _ => ?_)
  · exact Moves.refl _ _
  · dsimp only
    refine Moves.step (State.serve_moves _) rfl ?_
    refine Moves.step (State.emit_moves _ _) rfl ?_
    refine Moves.step (State.cancel_moves _ _ _) rfl ?_
    exact Moves.refl _ _

theorem execExtBudgetOverrun_ends (a0) (a1) (s : State) : Ends [.regs, .tim, .sht, .hst, .evt, .out, .blk 0x05, .blk 0x11, .blk 0x13] s (@execExtBudgetOverrun a0 a1 s) := by
  unfold execExtBudgetOverrun
  dsimp only
  refine Ends.next ?_
  split
  · refine Moves.step (State.reach_moves _ _) rfl ?_
    exact Moves.refl _ _
  · refine Moves.ite (fun _ => ?_) (fun _ => ?_)
    · refine Moves.step (State.reach_moves _ _) rfl ?_
      exact Moves.refl _ _
    · refine Moves.ite (fun _ => ?_) (fun _ => ?_)
      · refine Moves.step (State.serve_moves _) rfl ?_
        refine Moves.step (State.toTail_moves _ _) rfl ?_
        refine Moves.step (State.letGo_moves _ _) rfl ?_
        refine Moves.step (State.reach_moves _ _) rfl ?_
        exact Moves.refl _ _
      · refine Moves.step (State.serve_moves _) rfl ?_
        refine Moves.step (State.raise_moves _ _ _ _ _ _ _) rfl ?_
        refine Moves.step (State.freeTask_moves _ _) rfl ?_
        refine Moves.step (State.letGo_moves _ _) rfl ?_
        refine Moves.step (State.reach_moves _ _) rfl ?_
        exact Moves.refl _ _

theorem execCoreAdd_ends (a0) (a1) (s : State) : Ends [.regs, .snap, .heldW, .sht, .hst, .evt, .fresh, .out, .blk 0x05, .blk 0x0A, .blk 0x0E, .blk 0x0F, .blk 0x10, .blk 0x11, .blk 0x13] s (@execCoreAdd a0 a1 s) := by
  unfold execCoreAdd
  refine Ends.next ?_
  refine State.writeRow_moves _ _ _ _ rfl ?_ ?_
  · refine okEff_moves _ _ ?_
    refine Moves.step (State.coreEnEff_moves _ _) rfl ?_
    exact Moves.refl _ _
  · exact Moves.refl _ _

theorem execShtDoneYield_ends (a0) (a1) (s : State) : Ends [.regs, .sht, .out, .blk 0x05] s (@execShtDoneYield a0 a1 s) := by
  unfold execShtDoneYield
  refine Ends.next ?_
  refine Moves.trans ?_ (State.shtDone_moves _ _ rfl (fun _ _ => ?_))
  · exact Moves.refl _ _
  · refine Moves.step (State.toHead_moves _ _) rfl ?_
    exact Moves.refl _ _

theorem execTaskWatchdog_ends (a0) (a1) (s : State) : Ends [.regs, .snap, .heldW, .sys, .tim, .msn, .sht, .hst, .evt, .fresh, .out, .blk 0x05, .blk 0x0A, .blk 0x0E, .blk 0x0F, .blk 0x10, .blk 0x11, .blk 0x13] s (@execTaskWatchdog a0 a1 s) := by
  unfold execTaskWatchdog
  dsimp only
  refine Ends.next ?_
  split
  · refine Moves.step (State.reach_moves _ _) rfl ?_
    exact Moves.refl _ _
  · refine Moves.ite (fun _ => ?_) (fun _ => ?_)
    · refine Moves.step (State.reach_moves _ _) rfl ?_
      exact Moves.refl _ _
    · refine Moves.step (State.serve_moves _) rfl ?_
      refine Moves.step (State.watchReset_moves _ _ _) rfl ?_
      refine Moves.step (State.raise_moves _ _ _ _ _ _ _) rfl ?_
      refine Moves.step (State.cntS_moves 5 _ _ _ rfl) rfl ?_
      refine Moves.step (State.reach_moves _ _) rfl ?_
      exact Moves.refl _ _

theorem execShtTickWrite_ends (a0) (a1) (a2) (s : State) : Ends [.regs, .out, .blk 0x05] s (@execShtTickWrite a0 a1 a2 s) := by
  unfold execShtTickWrite
  refine Ends.next ?_
  refine Moves.ite (fun _ => ?_) (fun _ => ?_)
  · refine State.writeRow_moves _ _ _ _ rfl ?_ ?_
    · refine Moves.step (State.tickEff_moves _ _ _) rfl ?_
      exact Moves.refl _ _
    · exact Moves.refl _ _
  · exact Moves.refl _ _

theorem execShtDoneDone_ends (a0) (s : State) : Ends [.regs, .msn, .sht, .hst, .evt, .out, .blk 0x05, .blk 0x11, .blk 0x13] s (@execShtDoneDone a0 s) := by
  unfold execShtDoneDone
  refine Ends.next ?_
  refine Moves.trans ?_ (State.shtDone_moves _ _ rfl (fun _ _ => ?_))
  · exact Moves.refl _ _
  · refine Moves.step (State.extracted_moves _ _ _) rfl ?_
    refine Moves.step (State.freeTask_moves _ _) rfl ?_
    exact Moves.refl _ _

theorem execShtDoneDelay_ends (a0) (a1) (a2) (a3) (s : State) : Ends [.regs, .sht, .out, .blk 0x05] s (@execShtDoneDelay a0 a1 a2 a3 s) := by
  unfold execShtDoneDelay
  refine Ends.next ?_
  refine Moves.trans ?_ (State.shtDone_moves _ _ rfl (fun _ _ => ?_))
  · exact Moves.refl _ _
  · refine Moves.step (State.toDelay_moves _ _ _ _) rfl ?_
    exact Moves.refl _ _

theorem execShtDoneRequeue_ends (a0) (a1) (s : State) : Ends [.regs, .sht, .out, .blk 0x05] s (@execShtDoneRequeue a0 a1 s) := by
  unfold execShtDoneRequeue
  refine Ends.next ?_
  refine Moves.trans ?_ (State.shtDone_moves _ _ rfl (fun _ _ => ?_))
  · exact Moves.refl _ _
  · refine Moves.step (State.toTail_moves _ _) rfl ?_
    exact Moves.refl _ _

theorem execExtCancel_ends (a0) (a1) (s : State) : Ends [.regs, .msn, .sht, .hst, .evt, .out, .blk 0x05, .blk 0x11, .blk 0x13] s (@execExtCancel a0 a1 s) := by
  unfold execExtCancel
  refine Ends.next ?_
  split
  · exact Moves.refl _ _
  · dsimp only
    refine Moves.step (State.serve_moves _) rfl ?_
    refine Moves.step (State.emit_moves _ _) rfl ?_
    refine Moves.step (State.cancel_moves _ _ _) rfl ?_
    exact Moves.refl _ _

end Sys2Proof.Machine
end

