-- ==== Sys2Proof/Laws/MsnOps.lean ====
section
/-!
SUPPORT. How far each operation of Machine/MsnOps.lean can change the state.
-/

namespace Sys2Proof.Machine
open Sys2Proof

theorem State.backfillGap_moves (s : State) (a1) (a2) (a3) : Moves [.regs, .msn, .hst, .evt, .blk 0x11, .blk 0x13] s (@State.backfillGap s a1 a2 a3) := by
  unfold State.backfillGap
  split
  · split
    · refine Moves.ite (fun _ => ?_) (fun _ => ?_)
      · dsimp only
        refine Moves.step (State.raise_moves _ _ _ _ _ _ _) rfl ?_
        refine Moves.upd_msn rfl ?_
        exact Moves.refl _ _
      · exact Moves.refl _ _
    · exact Moves.refl _ _
  · exact Moves.refl _ _

theorem State.campEnd_moves (s : State) : Moves [.regs, .msn, .hst, .evt, .nand, .blk 0x11, .blk 0x13] s (@State.campEnd s) := by
  unfold State.campEnd
  split
  · exact Moves.refl _ _
  · dsimp only
    refine Moves.step (State.raise_moves _ _ _ _ _ _ _) rfl ?_
    refine Moves.upd_msn_nand rfl ?_
    exact Moves.refl _ _

theorem State.due_moves (s : State) (a1) (a2) : Moves [.regs, .msn, .blk 0x09] s (@State.due s a1 a2) := by
  unfold State.due
  dsimp only
  refine Moves.ite (fun _ => ?_) (fun _ => ?_)
  · refine Moves.step (State.cntW_moves 9 _ _ _ rfl) rfl ?_
    refine Moves.upd_msn rfl ?_
    exact Moves.refl _ _
  · refine Moves.upd_msn rfl ?_
    exact Moves.refl _ _

theorem State.hwDesc_moves (s : State) (a1) (a2) (a3) (a4) : Moves [.fresh] s (@State.hwDesc s a1 a2 a3 a4).1 := by
  unfold State.hwDesc
  dsimp only
  refine Moves.step (State.used_moves _) rfl ?_
  refine Moves.step (State.used_moves _) rfl ?_
  refine Moves.step (State.used_moves _) rfl ?_
  refine Moves.step (State.used_moves _) rfl ?_
  refine Moves.step (State.used_moves _) rfl ?_
  exact Moves.refl _ _

theorem State.postSched_moves (s : State) : Moves [.regs, .sht, .hst, .evt, .fresh, .out, .blk 0x05, .blk 0x11, .blk 0x13] s (@State.postSched s) := by
  unfold State.postSched
  dsimp only
  refine Moves.step (State.hwPost_moves _ _) rfl ?_
  refine Moves.step (State.hwDesc_moves _ _ _ _ _) rfl ?_
  exact Moves.refl _ _

theorem State.campKick_moves (s : State) : Moves [.regs, .msn, .sht, .hst, .evt, .fresh, .out, .blk 0x05, .blk 0x09, .blk 0x11, .blk 0x13] s (@State.campKick s) := by
  unfold State.campKick
  split
  · exact Moves.refl _ _
  · refine Moves.ite (fun _ => ?_) (fun _ => ?_)
    · exact Moves.refl _ _
    · dsimp only
      refine Moves.foldl _ _ (fun _ _ => ?_) ?_
      · split
        · refine Moves.ite (fun _ => ?_) (fun _ => ?_)
          · exact Moves.refl _ _
          · refine Moves.step (State.postSched_moves _) rfl ?_
            refine Moves.step (State.due_moves _ _ _) rfl ?_
            exact Moves.refl _ _
        · exact Moves.refl _ _
      · refine Moves.upd_msn rfl ?_
        exact Moves.refl _ _

theorem State.campTarget_moves (s : State) (a1) (a2) : Moves [.msn] s (@State.campTarget s a1 a2) := by
  unfold State.campTarget
  split
  · exact Moves.refl _ _
  · refine Moves.upd_msn rfl ?_
    exact Moves.refl _ _

theorem State.setSess_moves (s : State) (a1) (a2) : Moves [.msn] s (@State.setSess s a1 a2) := by
  unfold State.setSess
  refine Moves.upd_msn rfl ?_
  exact Moves.refl _ _

theorem State.reqEnds_moves (s : State) (a1) : Moves [.msn] s (@State.reqEnds s a1) := by
  unfold State.reqEnds
  refine Moves.step (State.setSess_moves _ _ _) rfl ?_
  exact Moves.refl _ _

theorem State.campResp_moves (s : State) (a1) (a2) (a3) : Moves [.regs, .msn, .sht, .hst, .evt, .fresh, .out, .blk 0x05, .blk 0x09, .blk 0x11, .blk 0x13] s (@State.campResp s a1 a2 a3) := by
  unfold State.campResp
  dsimp only
  refine Moves.step (State.campKick_moves _) rfl ?_
  split
  · refine Moves.step (State.campTarget_moves _ _ _) rfl ?_
    refine Moves.step (State.reqEnds_moves _ _) rfl ?_
    exact Moves.refl _ _
  · refine Moves.step (State.campTarget_moves _ _ _) rfl ?_
    refine Moves.step (State.reqEnds_moves _ _) rfl ?_
    exact Moves.refl _ _
  · refine Moves.step (State.campTarget_moves _ _ _) rfl ?_
    refine Moves.step (State.reqEnds_moves _ _) rfl ?_
    exact Moves.refl _ _
  · refine Moves.step (State.campTarget_moves _ _ _) rfl ?_
    refine Moves.step (State.reqEnds_moves _ _) rfl ?_
    exact Moves.refl _ _
  · refine Moves.step (State.campTarget_moves _ _ _) rfl ?_
    refine Moves.step (State.reqEnds_moves _ _) rfl ?_
    exact Moves.refl _ _
  · refine Moves.step (State.reqEnds_moves _ _) rfl ?_
    exact Moves.refl _ _

theorem State.hostReadDone_moves (s : State) (a1) (a2) : Moves [.regs, .hst, .out, .blk 0x10, .blk 0x11] s (@State.hostReadDone s a1 a2) := by
  unfold State.hostReadDone
  refine Moves.step (State.objAnswer_moves _ _ _ _ _ _) rfl ?_
  exact Moves.refl _ _

theorem State.copyKey_moves (s : State) (a1) : Moves [.nand] s (@State.copyKey s a1) := by
  unfold State.copyKey
  refine Moves.ite (fun _ => ?_) (fun _ => ?_)
  · refine Moves.upd_nand rfl ?_
    exact Moves.refl _ _
  · exact Moves.refl _ _

theorem State.setKey_moves (s : State) (a1) (a2) : Moves [.key] s (@State.setKey s a1 a2) := by
  unfold State.setKey
  refine Moves.upd_key rfl ?_
  exact Moves.refl _ _

theorem State.closeAssoc_moves (s : State) (a1) : Moves [.msn, .key, .nand] s (@State.closeAssoc s a1) := by
  unfold State.closeAssoc
  dsimp only
  refine Moves.step (State.setSess_moves _ _ _) rfl ?_
  refine Moves.ite (fun _ => ?_) (fun _ => ?_)
  · exact Moves.refl _ _
  · refine Moves.step (State.copyKey_moves _ _) rfl ?_
    refine Moves.step (State.setKey_moves _ _ _) rfl ?_
    exact Moves.refl _ _

theorem State.resend_moves (s : State) (a1) : Moves [.msn, .key] s (@State.resend s a1) := by
  unfold State.resend
  dsimp only
  split
  · exact Moves.refl _ _
  · refine Moves.ite (fun _ => ?_) (fun _ => ?_)
    · refine Moves.step (State.queueJob_moves _ _) rfl ?_
      refine Moves.step (State.setSess_moves _ _ _) rfl ?_
      exact Moves.refl _ _
    · split
      · refine Moves.ite (fun _ => ?_) (fun _ => ?_)
        · refine Moves.step (State.queueJob_moves _ _) rfl ?_
          refine Moves.step (State.setSess_moves _ _ _) rfl ?_
          exact Moves.refl _ _
        · refine Moves.step (State.queueJob_moves _ _) rfl ?_
          refine Moves.step (State.setSess_moves _ _ _) rfl ?_
          exact Moves.refl _ _
      · refine Moves.step (State.queueJob_moves _ _) rfl ?_
        refine Moves.step (State.setSess_moves _ _ _) rfl ?_
        exact Moves.refl _ _

theorem State.hostReadsOut_moves (s : State) : Moves [.regs, .msn, .hst, .out, .blk 0x10, .blk 0x11] s (@State.hostReadsOut s) := by
  unfold State.hostReadsOut
  dsimp only
  refine Moves.foldl _ _ (fun _ _ => ?_) ?_
  · refine Moves.step (State.hostReadDone_moves _ _ _) rfl ?_
    exact Moves.refl _ _
  · refine Moves.upd_msn rfl ?_
    exact Moves.refl _ _

theorem State.hostReadMore_moves (s : State) (a1) (a2) (a3) (a4) : Moves [.regs, .msn, .hst, .out, .blk 0x10, .blk 0x11] s (@State.hostReadMore s a1 a2 a3 a4) := by
  unfold State.hostReadMore
  split
  · dsimp only
    refine Moves.step (State.hostReadsOut_moves _) rfl ?_
    refine Moves.upd_msn rfl ?_
    exact Moves.refl _ _
  · exact Moves.refl _ _

theorem State.hostReadTaken_moves (s : State) (a1) : Moves [.regs, .msn, .hst, .out, .blk 0x10, .blk 0x11] s (@State.hostReadTaken s a1) := by
  unfold State.hostReadTaken
  split
  · exact Moves.refl _ _
  · refine Moves.step (State.hostReadsOut_moves _) rfl ?_
    refine Moves.upd_msn rfl ?_
    exact Moves.refl _ _

theorem State.meterClock_moves (s : State) (a1) (a2) (a3) : Moves [.regs, .msn, .sht, .hst, .evt, .fresh, .out, .blk 0x05, .blk 0x09, .blk 0x11, .blk 0x13] s (@State.meterClock s a1 a2 a3) := by
  unfold State.meterClock
  split
  · exact Moves.refl _ _
  · dsimp only
    refine Moves.ite (fun _ => ?_) (fun _ => ?_)
    · refine Moves.ite (fun _ => ?_) (fun _ => ?_)
      · refine Moves.step (State.raise_moves _ _ _ _ _ _ _) rfl ?_
        refine Moves.step (State.setSess_moves _ _ _) rfl ?_
        exact Moves.refl _ _
      · refine Moves.step (State.postSched_moves _) rfl ?_
        refine Moves.step (State.due_moves _ _ _) rfl ?_
        refine Moves.step (State.raise_moves _ _ _ _ _ _ _) rfl ?_
        refine Moves.step (State.setSess_moves _ _ _) rfl ?_
        exact Moves.refl _ _
    · refine Moves.step (State.setSess_moves _ _ _) rfl ?_
      exact Moves.refl _ _

theorem State.readings_moves (s : State) (a1) (a2) (a3) (a4) (a5) : Moves [.regs, .msn, .sht, .hst, .evt, .fresh, .out, .blk 0x05, .blk 0x11, .blk 0x13] s (@State.readings s a1 a2 a3 a4 a5) := by
  unfold State.readings
  split
  · exact Moves.refl _ _
  · refine Moves.ite (fun _ => ?_) (fun _ => ?_)
    · exact Moves.refl _ _
    · refine Moves.ite (fun _ => ?_) (fun _ => ?_)
      · refine Moves.upd_msn rfl ?_
        exact Moves.refl _ _
      · dsimp only
        refine Moves.step (State.hwPost_moves _ _) rfl ?_
        refine Moves.upd_msn rfl ?_
        refine Moves.step (State.hwDesc_moves _ _ _ _ _) rfl ?_
        exact Moves.refl _ _

theorem State.readResp_moves (s : State) (a1) (a2) (a3) (a4) (a5) (a6) : Moves [.regs, .msn, .sht, .hst, .evt, .fresh, .out, .blk 0x05, .blk 0x10, .blk 0x11, .blk 0x13] s (@State.readResp s a1 a2 a3 a4 a5 a6) := by
  unfold State.readResp
  dsimp only
  refine Moves.step (State.hostReadMore_moves _ _ _ _ _) rfl ?_
  refine Moves.step (State.readings_moves _ _ _ _ _ _) rfl ?_
  refine Moves.ite (fun _ => ?_) (fun _ => ?_)
  · refine Moves.step (State.backfillGap_moves _ _ _ _) rfl ?_
    exact Moves.refl _ _
  · exact Moves.refl _ _

theorem State.reqFails_moves (s : State) (a1) : Moves [.regs, .msn, .sht, .hst, .evt, .fresh, .out, .blk 0x05, .blk 0x09, .blk 0x10, .blk 0x11, .blk 0x13] s (@State.reqFails s a1) := by
  unfold State.reqFails
  split
  · exact Moves.refl _ _
  · dsimp only
    split
    · refine Moves.step (State.hostReadDone_moves _ _ _) rfl ?_
      refine Moves.upd_msn rfl ?_
      refine Moves.step (State.reqEnds_moves _ _) rfl ?_
      exact Moves.refl _ _
    · refine Moves.ite (fun _ => ?_) (fun _ => ?_)
      · refine Moves.step (State.due_moves _ _ _) rfl ?_
        refine Moves.step (State.reqEnds_moves _ _) rfl ?_
        exact Moves.refl _ _
      · refine Moves.step (State.reqEnds_moves _ _) rfl ?_
        exact Moves.refl _ _
    · refine Moves.ite (fun _ => ?_) (fun _ => ?_)
      · refine Moves.step (State.reqEnds_moves _ _) rfl ?_
        exact Moves.refl _ _
      · refine Moves.step (State.campKick_moves _) rfl ?_
        refine Moves.step (State.campTarget_moves _ _ _) rfl ?_
        refine Moves.step (State.reqEnds_moves _ _) rfl ?_
        exact Moves.refl _ _
    · refine Moves.step (State.reqEnds_moves _ _) rfl ?_
      exact Moves.refl _ _

theorem State.restartTransfer_moves (s : State) (a1) : Moves [.regs, .msn, .blk 0x09] s (@State.restartTransfer s a1) := by
  unfold State.restartTransfer
  dsimp only
  split
  · refine Moves.step (State.cntW_moves 9 _ _ _ rfl) rfl ?_
    refine Moves.step (State.setSess_moves _ _ _) rfl ?_
    exact Moves.refl _ _
  · exact Moves.refl _ _

theorem State.takeApdu_moves (s : State) (a1) (a2) (a3) (a4) (a5) (a6) : Moves [.regs, .msn, .sht, .key, .hst, .evt, .nand, .fresh, .out, .blk 0x05, .blk 0x09, .blk 0x10, .blk 0x11, .blk 0x13] s (@State.takeApdu s a1 a2 a3 a4 a5 a6) := by
  unfold State.takeApdu
  dsimp only
  split
  · refine Moves.step (State.readings_moves _ _ _ _ _ _) rfl ?_
    refine Moves.step (State.meterClock_moves _ _ _ _) rfl ?_
    exact Moves.refl _ _
  · split
    · refine Moves.ite (fun _ => ?_) (fun _ => ?_)
      · refine Moves.step (State.reqEnds_moves _ _) rfl ?_
        refine Moves.step (State.setSess_moves _ _ _) rfl ?_
        refine Moves.step (State.readResp_moves _ _ _ _ _ _ _) rfl ?_
        refine Moves.step (State.meterClock_moves _ _ _ _) rfl ?_
        exact Moves.refl _ _
      · refine Moves.step (State.readings_moves _ _ _ _ _ _) rfl ?_
        refine Moves.step (State.meterClock_moves _ _ _ _) rfl ?_
        exact Moves.refl _ _
    · refine Moves.step (State.readings_moves _ _ _ _ _ _) rfl ?_
      refine Moves.step (State.meterClock_moves _ _ _ _) rfl ?_
      exact Moves.refl _ _
  · split
    · refine Moves.ite (fun _ => ?_) (fun _ => ?_)
      · exact Moves.refl _ _
      · refine Moves.ite (fun _ => ?_) (fun _ => ?_)
        · refine Moves.ite (fun _ => ?_) (fun _ => ?_)
          · refine Moves.step (State.resend_moves _ _) rfl ?_
            refine Moves.step (State.restartTransfer_moves _ _) rfl ?_
            exact Moves.refl _ _
          · exact Moves.refl _ _
        · refine Moves.ite (fun _ => ?_) (fun _ => ?_)
          · refine Moves.step (State.reqEnds_moves _ _) rfl ?_
            refine Moves.step (State.setSess_moves _ _ _) rfl ?_
            refine Moves.step (State.readResp_moves _ _ _ _ _ _ _) rfl ?_
            exact Moves.refl _ _
          · refine Moves.step (State.resend_moves _ _) rfl ?_
            refine Moves.step (State.setSess_moves _ _ _) rfl ?_
            refine Moves.step (State.readResp_moves _ _ _ _ _ _ _) rfl ?_
            exact Moves.refl _ _
    · exact Moves.refl _ _
  · refine Moves.ite (fun _ => ?_) (fun _ => ?_)
    · refine Moves.step (State.resend_moves _ _) rfl ?_
      refine Moves.step (State.restartTransfer_moves _ _) rfl ?_
      exact Moves.refl _ _
    · refine Moves.step (State.reqFails_moves _ _) rfl ?_
      exact Moves.refl _ _
  · refine Moves.ite (fun _ => ?_) (fun _ => ?_)
    · exact Moves.refl _ _
    · refine Moves.ite (fun _ => ?_) (fun _ => ?_)
      · refine Moves.step (State.resend_moves _ _) rfl ?_
        refine Moves.step (State.setSess_moves _ _ _) rfl ?_
        exact Moves.refl _ _
      · refine Moves.step (State.reqFails_moves _ _) rfl ?_
        exact Moves.refl _ _
  · refine Moves.step (State.closeAssoc_moves _ _) rfl ?_
    exact Moves.refl _ _
  · split
    · split
      · refine Moves.step (State.reqEnds_moves _ _) rfl ?_
        exact Moves.refl _ _
      · refine Moves.step (State.reqEnds_moves _ _) rfl ?_
        exact Moves.refl _ _
      · refine Moves.step (State.campResp_moves _ _ _ _) rfl ?_
        exact Moves.refl _ _
      · exact Moves.refl _ _
    · exact Moves.refl _ _
  · split
    · split
      · refine Moves.step (State.campResp_moves _ _ _ _) rfl ?_
        exact Moves.refl _ _
      · exact Moves.refl _ _
    · exact Moves.refl _ _
  · split
    · refine Moves.ite (fun _ => ?_) (fun _ => ?_)
      · refine Moves.step (State.resend_moves _ _) rfl ?_
        refine Moves.step (State.setSess_moves _ _ _) rfl ?_
        exact Moves.refl _ _
      · exact Moves.refl _ _
    · exact Moves.refl _ _
  · split
    · split
      · refine Moves.step (State.campResp_moves _ _ _ _) rfl ?_
        exact Moves.refl _ _
      · exact Moves.refl _ _
    · exact Moves.refl _ _
  · split
    · split
      · refine Moves.step (State.campResp_moves _ _ _ _) rfl ?_
        exact Moves.refl _ _
      · exact Moves.refl _ _
    · exact Moves.refl _ _
  · refine Moves.step (State.cntW_moves 9 _ _ _ rfl) rfl ?_
    exact Moves.refl _ _

end Sys2Proof.Machine
end

