-- ==== Sys2Proof/Laws/Msn.lean ====
section
/-!
SUPPORT. How far each operation of Machine/Msn.lean can change the state.
-/

namespace Sys2Proof.Machine
open Sys2Proof

theorem State.reloadKey_moves (s : State) (a1) : Moves [.regs, .key, .hst, .evt, .blk 0x10, .blk 0x11, .blk 0x13] s (@State.reloadKey s a1).1 := by
  unfold State.reloadKey
  dsimp only
  refine Moves.ite_fst (fun _ => ?_) (fun _ => ?_)
  · dsimp only
    refine Moves.step (State.setKey_moves _ _ _) rfl ?_
    refine Moves.step (State.cntW_moves 16 _ _ _ rfl) rfl ?_
    exact Moves.refl _ _
  · dsimp only
    refine Moves.step (State.raise_moves _ _ _ _ _ _ _) rfl ?_
    refine Moves.step (State.setKey_moves _ _ _) rfl ?_
    refine Moves.step (State.cntW_moves 16 _ _ _ rfl) rfl ?_
    exact Moves.refl _ _

theorem State.loadKey_moves (s : State) (a1) : Moves [.regs, .key, .hst, .evt, .blk 0x10, .blk 0x11, .blk 0x13] s (@State.loadKey s a1).1 := by
  unfold State.loadKey
  dsimp only
  refine Moves.ite_fst (fun _ => ?_) (fun _ => ?_)
  · dsimp only
    refine Moves.step (State.cntW_moves 16 _ _ _ rfl) rfl ?_
    exact Moves.refl _ _
  · refine Moves.step (State.reloadKey_moves _ _) rfl ?_
    refine Moves.step (State.cntW_moves 16 _ _ _ rfl) rfl ?_
    exact Moves.refl _ _

theorem State.msnCtrlEff_moves (s : State) (a1) : Moves [.regs, .msn, .sht, .hst, .evt, .fresh, .out, .blk 0x05, .blk 0x09, .blk 0x11, .blk 0x13] s (@State.msnCtrlEff s a1) := by
  unfold State.msnCtrlEff
  refine Moves.step (State.campKick_moves _) rfl ?_
  refine Moves.step (State.setReg_moves 9 _ _ _ rfl) rfl ?_
  exact Moves.refl _ _

theorem State.openApdu_moves (s : State) (a1) (a2) (a3) (a4) (a5) (a6) : Moves [.regs, .msn, .sht, .key, .hst, .evt, .nand, .fresh, .out, .blk 0x05, .blk 0x09, .blk 0x10, .blk 0x11, .blk 0x13] s (@State.openApdu s a1 a2 a3 a4 a5 a6) := by
  unfold State.openApdu
  dsimp only
  refine Moves.ite (fun _ => ?_) (fun _ => ?_)
  · refine Moves.step (State.cntW_moves 9 _ _ _ rfl) rfl ?_
    exact Moves.refl _ _
  · refine Moves.ite (fun _ => ?_) (fun _ => ?_)
    · refine Moves.ite (fun _ => ?_) (fun _ => ?_)
      · refine Moves.step (State.raise_moves _ _ _ _ _ _ _) rfl ?_
        refine Moves.step (State.cntW_moves 16 _ _ _ rfl) rfl ?_
        refine Moves.step (State.cntW_moves 9 _ _ _ rfl) rfl ?_
        refine Moves.step (State.setSess_moves _ _ _) rfl ?_
        exact Moves.refl _ _
      · refine Moves.step (State.cntW_moves 16 _ _ _ rfl) rfl ?_
        refine Moves.step (State.cntW_moves 9 _ _ _ rfl) rfl ?_
        refine Moves.step (State.setSess_moves _ _ _) rfl ?_
        exact Moves.refl _ _
    · refine Moves.step (State.takeApdu_moves _ _ _ _ _ _ _) rfl ?_
      refine Moves.step (State.setSess_moves _ _ _) rfl ?_
      exact Moves.refl _ _

theorem State.popJob_moves {s : State} {l : Nat} {j : LaneJob} {s' : State} (h : s.popJob l = some (j, s')) :
    Moves [.key] s s' := by
  unfold State.popJob at h
  split at h
  · cases h
  · cases h
    exact Moves.upd_key rfl (Moves.refl _ _)

theorem State.waitResv_moves (s : State) (a1) : Moves [.regs, .key, .hst, .evt, .blk 0x11, .blk 0x13] s (@State.waitResv s a1) := by
  unfold State.waitResv
  dsimp only
  refine Moves.ite (fun _ => ?_) (fun _ => ?_)
  · refine Moves.ite (fun _ => ?_) (fun _ => ?_)
    · exact Moves.refl _ _
    · refine Moves.upd_key rfl ?_
      exact Moves.refl _ _
  · refine Moves.step (State.raise_moves _ _ _ _ _ _ _) rfl ?_
    refine Moves.upd_key rfl ?_
    refine Moves.ite (fun _ => ?_) (fun _ => ?_)
    · exact Moves.refl _ _
    · refine Moves.upd_key rfl ?_
      exact Moves.refl _ _

theorem State.sealApdu_moves (s : State) (a1) (a2) (a3) : Moves [.regs, .ports, .net, .msn, .key, .hst, .evt, .fresh, .out, .blk 0x06, .blk 0x08, .blk 0x11, .blk 0x13] s (@State.sealApdu s a1 a2 a3) := by
  unfold State.sealApdu
  dsimp only
  split
  · refine Moves.ite (fun _ => ?_) (fun _ => ?_)
    · refine Moves.step (State.raise_moves _ _ _ _ _ _ _) rfl ?_
      refine Moves.step (State.setSess_moves _ _ _) rfl ?_
      exact Moves.refl _ _
    · refine Moves.ite (fun _ => ?_) (fun _ => ?_)
      · refine Moves.step (State.waitResv_moves _ _) rfl ?_
        exact Moves.refl _ _
      · refine Moves.step (State.netSend_moves _ _ _ _ _ _) rfl ?_
        refine Moves.step (State.used_moves _) rfl ?_
        refine Moves.step (State.used_moves _) rfl ?_
        refine Moves.step (State.setSess_moves _ _ _) rfl ?_
        exact Moves.refl _ _
  · refine Moves.step (State.waitResv_moves _ _) rfl ?_
    exact Moves.refl _ _
  · exact Moves.refl _ _

theorem execFwPause_ends (a0) (a1) (s : State) : Ends [.regs, .msn, .sht, .hst, .evt, .fresh, .out, .blk 0x05, .blk 0x09, .blk 0x11, .blk 0x13] s (@execFwPause a0 a1 s) := by
  unfold execFwPause
  refine Ends.next ?_
  refine State.writeRow_moves _ _ _ _ rfl ?_ ?_
  · refine okEff_moves _ _ ?_
    refine Moves.step (State.msnCtrlEff_moves _ _) rfl ?_
    exact Moves.refl _ _
  · exact Moves.refl _ _

theorem execCampaignActivateTime_ends (a0) (s : State) : Ends [.regs, .tim, .msn, .sht, .hst, .evt, .nand, .fresh, .out, .blk 0x05, .blk 0x09, .blk 0x11, .blk 0x13] s (@execCampaignActivateTime a0 s) := by
  unfold execCampaignActivateTime
  dsimp only
  refine Ends.next ?_
  split
  · refine Moves.step (State.reach_moves _ _) rfl ?_
    exact Moves.refl _ _
  · split
    · refine Moves.step (State.reach_moves _ _) rfl ?_
      exact Moves.refl _ _
    · refine Moves.ite (fun _ => ?_) (fun _ => ?_)
      · refine Moves.step (State.campEnd_moves _) rfl ?_
        refine Moves.foldl _ _ (fun _ _ => ?_) ?_
        · refine Moves.step (State.postSched_moves _) rfl ?_
          refine Moves.step (State.due_moves _ _ _) rfl ?_
          exact Moves.refl _ _
        · refine Moves.step (State.reach_moves _ _) rfl ?_
          exact Moves.refl _ _
      · refine Moves.step (State.reach_moves _ _) rfl ?_
        exact Moves.refl _ _

theorem execBfPause_ends (a0) (a1) (s : State) : Ends [.regs, .msn, .sht, .hst, .evt, .fresh, .out, .blk 0x05, .blk 0x09, .blk 0x11, .blk 0x13] s (@execBfPause a0 a1 s) := by
  unfold execBfPause
  refine Ends.next ?_
  refine State.writeRow_moves _ _ _ _ rfl ?_ ?_
  · refine okEff_moves _ _ ?_
    refine Moves.step (State.msnCtrlEff_moves _ _) rfl ?_
    exact Moves.refl _ _
  · exact Moves.refl _ _

theorem execPollDue_ends (a0) (a1) (s : State) : Ends [.regs, .tim, .msn, .sht, .hst, .evt, .fresh, .out, .blk 0x05, .blk 0x09, .blk 0x11, .blk 0x13] s (@execPollDue a0 a1 s) := by
  unfold execPollDue
  dsimp only
  refine Ends.next ?_
  split
  · refine Moves.step (State.reach_moves _ _) rfl ?_
    exact Moves.refl _ _
  · refine Moves.ite (fun _ => ?_) (fun _ => ?_)
    · refine Moves.step (State.postSched_moves _) rfl ?_
      refine Moves.step (State.due_moves _ _ _) rfl ?_
      refine Moves.step (State.setSess_moves _ _ _) rfl ?_
      refine Moves.step (State.reach_moves _ _) rfl ?_
      exact Moves.refl _ _
    · refine Moves.step (State.reach_moves _ _) rfl ?_
      exact Moves.refl _ _

theorem execSessionLifeExpiry_ends (a0) (a1) (s : State) : Ends [.tim, .msn, .key, .nand] s (@execSessionLifeExpiry a0 a1 s) := by
  unfold execSessionLifeExpiry
  dsimp only
  refine Ends.next ?_
  refine Moves.ite (fun _ => ?_) (fun _ => ?_)
  · refine Moves.step (State.closeAssoc_moves _ _) rfl ?_
    refine Moves.step (State.reach_moves _ _) rfl ?_
    exact Moves.refl _ _
  · refine Moves.step (State.reach_moves _ _) rfl ?_
    exact Moves.refl _ _

theorem execRespWaitExpiry_ends (a0) (a1) (s : State) : Ends [.regs, .tim, .msn, .sht, .key, .hst, .evt, .fresh, .out, .blk 0x05, .blk 0x09, .blk 0x10, .blk 0x11, .blk 0x13] s (@execRespWaitExpiry a0 a1 s) := by
  unfold execRespWaitExpiry
  dsimp only
  refine Ends.next ?_
  split
  · refine Moves.step (State.reach_moves _ _) rfl ?_
    exact Moves.refl _ _
  · refine Moves.ite (fun _ => ?_) (fun _ => ?_)
    · refine Moves.step (State.reach_moves _ _) rfl ?_
      exact Moves.refl _ _
    · refine Moves.ite (fun _ => ?_) (fun _ => ?_)
      · refine Moves.step (State.reqFails_moves _ _) rfl ?_
        refine Moves.step (State.cntW_moves 9 _ _ _ rfl) rfl ?_
        refine Moves.step (State.reach_moves _ _) rfl ?_
        exact Moves.refl _ _
      · refine Moves.ite (fun _ => ?_) (fun _ => ?_)
        · refine Moves.step (State.resend_moves _ _) rfl ?_
          refine Moves.step (State.restartTransfer_moves _ _) rfl ?_
          refine Moves.step (State.reach_moves _ _) rfl ?_
          exact Moves.refl _ _
        · refine Moves.step (State.resend_moves _ _) rfl ?_
          refine Moves.step (State.reach_moves _ _) rfl ?_
          exact Moves.refl _ _

theorem execRequestStart_ends (a0) (s : State) : Ends [.regs, .tim, .msn, .key, .blk 0x09] s (@execRequestStart a0 s) := by
  unfold execRequestStart
  dsimp only
  refine Ends.next ?_
  refine Moves.ite (fun _ => ?_) (fun _ => ?_)
  · refine Moves.upd_msn rfl ?_
    refine Moves.step (State.reach_moves _ _) rfl ?_
    exact Moves.refl _ _
  · split
    · refine Moves.upd_msn rfl ?_
      refine Moves.step (State.reach_moves _ _) rfl ?_
      exact Moves.refl _ _
    · refine Moves.ite (fun _ => ?_) (fun _ => ?_)
      · refine Moves.ite (fun _ => ?_) (fun _ => ?_)
        · refine Moves.step (State.resend_moves _ _) rfl ?_
          refine Moves.step (State.restartTransfer_moves _ _) rfl ?_
          refine Moves.step (State.setSess_moves _ _ _) rfl ?_
          refine Moves.upd_msn rfl ?_
          refine Moves.step (State.reach_moves _ _) rfl ?_
          exact Moves.refl _ _
        · refine Moves.step (State.resend_moves _ _) rfl ?_
          refine Moves.step (State.cntW_moves 9 _ _ _ rfl) rfl ?_
          refine Moves.step (State.setSess_moves _ _ _) rfl ?_
          refine Moves.upd_msn rfl ?_
          refine Moves.step (State.reach_moves _ _) rfl ?_
          exact Moves.refl _ _
      · refine Moves.step (State.resend_moves _ _) rfl ?_
        refine Moves.step (State.setSess_moves _ _ _) rfl ?_
        refine Moves.upd_msn rfl ?_
        refine Moves.step (State.reach_moves _ _) rfl ?_
        exact Moves.refl _ _

theorem execCryptoLaneJob_ends (a0) (a1) (a2) (s : State) : Ends [.regs, .tim, .ports, .net, .msn, .sht, .key, .hst, .evt, .nand, .fresh, .out, .blk 0x05, .blk 0x06, .blk 0x08, .blk 0x09, .blk 0x10, .blk 0x11, .blk 0x13] s (@execCryptoLaneJob a0 a1 a2 s) := by
  unfold execCryptoLaneJob
  dsimp only
  refine Ends.next ?_
  refine Moves.ite (fun _ => ?_) (fun _ => ?_)
  · refine Moves.step (State.reach_moves _ _) rfl ?_
    exact Moves.refl _ _
  · split
    · refine Moves.step (State.reach_moves _ _) rfl ?_
      exact Moves.refl _ _
    · refine Moves.ite (fun _ => ?_) (fun _ => ?_)
      · refine Moves.step (State.cntW_moves 5 _ _ _ rfl) rfl ?_
        refine Moves.step (State.popJob_moves ‹_›) rfl ?_
        refine Moves.step (State.reach_moves _ _) rfl ?_
        exact Moves.refl _ _
      · refine Moves.ite (fun _ => ?_) (fun _ => ?_)
        · refine Moves.step (State.openApdu_moves _ _ _ _ _ _ _) rfl ?_
          refine Moves.step (State.loadKey_moves _ _) rfl ?_
          refine Moves.step (State.popJob_moves ‹_›) rfl ?_
          refine Moves.step (State.reach_moves _ _) rfl ?_
          exact Moves.refl _ _
        · refine Moves.step (State.loadKey_moves _ _) rfl ?_
          refine Moves.step (State.popJob_moves ‹_›) rfl ?_
          refine Moves.step (State.reach_moves _ _) rfl ?_
          exact Moves.refl _ _
    · refine Moves.ite (fun _ => ?_) (fun _ => ?_)
      · refine Moves.step (State.sealApdu_moves _ _ _ _) rfl ?_
        refine Moves.step (State.loadKey_moves _ _) rfl ?_
        refine Moves.step (State.popJob_moves ‹_›) rfl ?_
        refine Moves.step (State.reach_moves _ _) rfl ?_
        exact Moves.refl _ _
      · refine Moves.step (State.loadKey_moves _ _) rfl ?_
        refine Moves.step (State.popJob_moves ‹_›) rfl ?_
        refine Moves.step (State.reach_moves _ _) rfl ?_
        exact Moves.refl _ _

theorem execBackfillStart_ends (a0) (a1) (s : State) : Ends [.regs, .tim, .msn, .sht, .hst, .evt, .fresh, .out, .blk 0x05, .blk 0x09, .blk 0x11, .blk 0x13] s (@execBackfillStart a0 a1 s) := by
  unfold execBackfillStart
  dsimp only
  refine Ends.next ?_
  split
  · refine Moves.ite (fun _ => ?_) (fun _ => ?_)
    · refine Moves.step (State.postSched_moves _) rfl ?_
      refine Moves.step (State.due_moves _ _ _) rfl ?_
      refine Moves.step (State.reach_moves _ _) rfl ?_
      exact Moves.refl _ _
    · refine Moves.step (State.reach_moves _ _) rfl ?_
      exact Moves.refl _ _
  · refine Moves.step (State.reach_moves _ _) rfl ?_
    exact Moves.refl _ _

theorem execCampaignBlock_ends (a0) (a1) (s : State) : Ends [.regs, .tim, .ports, .net, .msn, .sht, .hst, .evt, .fresh, .out, .blk 0x05, .blk 0x06, .blk 0x08, .blk 0x09, .blk 0x11, .blk 0x13] s (@execCampaignBlock a0 a1 s) := by
  unfold execCampaignBlock
  dsimp only
  refine Ends.next ?_
  split
  · refine Moves.step (State.reach_moves _ _) rfl ?_
    exact Moves.refl _ _
  · split
    · split
      · refine Moves.step (State.reach_moves _ _) rfl ?_
        exact Moves.refl _ _
      · refine Moves.ite (fun _ => ?_) (fun _ => ?_)
        · refine Moves.step (State.reach_moves _ _) rfl ?_
          exact Moves.refl _ _
        · refine Moves.step (State.campKick_moves _) rfl ?_
          refine Moves.step (State.flood_moves _ _ _ _) rfl ?_
          refine Moves.upd_msn rfl ?_
          refine Moves.step (State.reach_moves _ _) rfl ?_
          exact Moves.refl _ _
    · refine Moves.step (State.reach_moves _ _) rfl ?_
      exact Moves.refl _ _

theorem execTariffPushLate_ends (a0) (a1) (a2) (s : State) : Ends [.regs, .tim, .msn, .hst, .evt, .blk 0x11, .blk 0x13] s (@execTariffPushLate a0 a1 a2 s) := by
  unfold execTariffPushLate
  dsimp only
  refine Ends.next ?_
  refine Moves.ite (fun _ => ?_) (fun _ => ?_)
  · refine Moves.step (State.raise_moves _ _ _ _ _ _ _) rfl ?_
    refine Moves.upd_msn rfl ?_
    refine Moves.step (State.reach_moves _ _) rfl ?_
    exact Moves.refl _ _
  · refine Moves.step (State.reach_moves _ _) rfl ?_
    exact Moves.refl _ _

end Sys2Proof.Machine
end

