-- ==== Sys2Proof/Laws/Warp.lean ====
section
/-!
SUPPORT. How far each operation of Machine/Warp.lean can change the state.
-/

namespace Sys2Proof.Machine
open Sys2Proof

theorem State.setWch_moves (s : State) (a1) (a2) : Moves [.wrp] s (@State.setWch s a1 a2) := by
  unfold State.setWch
  refine Moves.upd_wrp rfl ?_
  exact Moves.refl _ _

theorem State.wcnt_moves (s : State) (a1) : Moves [.regs, .blk 0x0A] s (@State.wcnt s a1) := by
  unfold State.wcnt
  refine Moves.step (State.cntW_moves 10 _ _ _ (by simp only [R.WRP_CNT_k]; omega)) rfl ?_
  exact Moves.refl _ _

theorem State.wArchive_moves (s : State) (a1) : Moves [.regs, .bem, .blk 0x0A, .blk 0x0F] s (@State.wArchive s a1) := by
  unfold State.wArchive
  dsimp only
  refine Moves.ite (fun _ => ?_) (fun _ => ?_)
  · refine Moves.step (State.archive_moves _ _ _ _) rfl ?_
    exact Moves.refl _ _
  · refine Moves.step (State.wcnt_moves _ _) rfl ?_
    refine Moves.step (State.archive_moves _ _ _ _) rfl ?_
    exact Moves.refl _ _

theorem State.notOffered_moves (s : State) (a1) (a2) : Moves [.regs, .wrp, .bem, .blk 0x0A, .blk 0x0F] s (@State.notOffered s a1 a2) := by
  unfold State.notOffered
  dsimp only
  refine Moves.step (State.wArchive_moves _ _) rfl ?_
  refine Moves.step (State.wcnt_moves _ _) rfl ?_
  refine Moves.step (State.setWch_moves _ _ _) rfl ?_
  exact Moves.refl _ _

theorem State.trim_moves (s : State) (a1) : Moves [.regs, .wrp, .bem, .blk 0x0A, .blk 0x0F] s (@State.trim s a1) := by
  unfold State.trim
  dsimp only
  refine Moves.foldl _ _ (fun _ _ => ?_) ?_
  · refine Moves.step (State.notOffered_moves _ _ _) rfl ?_
    exact Moves.refl _ _
  · exact Moves.refl _ _

theorem State.setEpRec_moves (s : State) (a1) (a2) : Moves [.wrp] s (@State.setEpRec s a1 a2) := by
  unfold State.setEpRec
  refine Moves.upd_wrp rfl ?_
  exact Moves.refl _ _

theorem State.wJournal_moves (s : State) (a1) : Moves [.regs, .wrp, .bem, .hst, .evt, .blk 0x11, .blk 0x13] s (@State.wJournal s a1).1 := by
  unfold State.wJournal
  dsimp only
  refine Moves.ite (fun _ => ?_) (fun _ => ?_)
  · refine Moves.step (State.journalState_moves _) rfl ?_
    refine Moves.upd_wrp rfl ?_
    exact Moves.refl _ _
  · refine Moves.upd_bem rfl ?_
    refine Moves.step (State.journalState_moves _) rfl ?_
    refine Moves.upd_wrp rfl ?_
    exact Moves.refl _ _

theorem State.applyEntry_moves (s : State) (a1) : Moves [.regs, .wrp, .bal, .bem, .hst, .evt, .blk 0x11, .blk 0x13] s (@State.applyEntry s a1).1 := by
  unfold State.applyEntry
  dsimp only
  refine Moves.ite (fun _ => ?_) (fun _ => ?_)
  · refine Moves.upd_bal rfl ?_
    refine Moves.step (State.setWch_moves _ _ _) rfl ?_
    refine Moves.step (State.wJournal_moves _ _) rfl ?_
    exact Moves.refl _ _
  · refine Moves.step (State.setWch_moves _ _ _) rfl ?_
    refine Moves.step (State.wJournal_moves _ _) rfl ?_
    exact Moves.refl _ _

theorem State.acceptEntry_moves (s : State) (a1) : Moves [.regs, .wrp, .bal, .bem, .hst, .evt, .blk 0x0A, .blk 0x0F, .blk 0x11, .blk 0x13] s (@State.acceptEntry s a1) := by
  unfold State.acceptEntry
  dsimp only
  refine Moves.ite (fun _ => ?_) (fun _ => ?_)
  · refine Moves.step (State.trim_moves _ _) rfl ?_
    refine Moves.step (State.wcnt_moves _ _) rfl ?_
    refine Moves.step (State.setWch_moves _ _ _) rfl ?_
    refine Moves.step (State.setEpRec_moves _ _ _) rfl ?_
    refine Moves.step (State.applyEntry_moves _ _) rfl ?_
    exact Moves.refl _ _
  · refine Moves.step (State.wcnt_moves _ _) rfl ?_
    refine Moves.step (State.setWch_moves _ _ _) rfl ?_
    refine Moves.step (State.setEpRec_moves _ _ _) rfl ?_
    refine Moves.step (State.applyEntry_moves _ _) rfl ?_
    exact Moves.refl _ _

theorem State.rejectEntry_moves (s : State) (a1) (a2) (a3) : Moves [.regs, .wrp, .bal, .bem, .hst, .evt, .blk 0x0A, .blk 0x0F, .blk 0x11, .blk 0x13] s (@State.rejectEntry s a1 a2 a3) := by
  unfold State.rejectEntry
  dsimp only
  refine Moves.ite (fun _ => ?_) (fun _ => ?_)
  · refine Moves.step (State.raise_moves _ _ _ _ _ _ _) rfl ?_
    refine Moves.step (State.wArchive_moves _ _) rfl ?_
    refine Moves.step (State.setWch_moves _ _ _) rfl ?_
    refine Moves.step (State.applyEntry_moves _ _) rfl ?_
    refine Moves.step (State.wcnt_moves _ _) rfl ?_
    exact Moves.refl _ _
  · refine Moves.step (State.wArchive_moves _ _) rfl ?_
    refine Moves.step (State.setWch_moves _ _ _) rfl ?_
    refine Moves.step (State.applyEntry_moves _ _) rfl ?_
    refine Moves.step (State.wcnt_moves _ _) rfl ?_
    exact Moves.refl _ _

theorem State.baseEntry_moves (s : State) (a1) (a2) : Moves [.regs, .wrp, .bal, .bem, .hst, .evt, .blk 0x0A, .blk 0x0F, .blk 0x11, .blk 0x13] s (@State.baseEntry s a1 a2) := by
  unfold State.baseEntry
  dsimp only
  refine Moves.ite (fun _ => ?_) (fun _ => ?_)
  · refine Moves.step (State.rejectEntry_moves _ _ _ _) rfl ?_
    exact Moves.refl _ _
  · refine Moves.ite (fun _ => ?_) (fun _ => ?_)
    · refine Moves.step (State.acceptEntry_moves _ _) rfl ?_
      refine Moves.step (State.setWch_moves _ _ _) rfl ?_
      refine Moves.foldl _ _ (fun _ _ => ?_) ?_
      · refine Moves.step (State.notOffered_moves _ _ _) rfl ?_
        exact Moves.refl _ _
      · refine Moves.ite (fun _ => ?_) (fun _ => ?_)
        · refine Moves.step (State.wcnt_moves _ _) rfl ?_
          exact Moves.refl _ _
        · exact Moves.refl _ _
    · refine Moves.step (State.acceptEntry_moves _ _) rfl ?_
      refine Moves.ite (fun _ => ?_) (fun _ => ?_)
      · refine Moves.step (State.wcnt_moves _ _) rfl ?_
        exact Moves.refl _ _
      · exact Moves.refl _ _

theorem State.vee_moves (s : State) (a1) : Moves [.regs, .wrp, .bal, .bem, .hst, .evt, .blk 0x0A, .blk 0x0F, .blk 0x11, .blk 0x13] s (@State.vee s a1) := by
  unfold State.vee
  dsimp only
  refine Moves.ite (fun _ => ?_) (fun _ => ?_)
  · refine Moves.step (State.rejectEntry_moves _ _ _ _) rfl ?_
    exact Moves.refl _ _
  · refine Moves.ite (fun _ => ?_) (fun _ => ?_)
    · refine Moves.step (State.rejectEntry_moves _ _ _ _) rfl ?_
      exact Moves.refl _ _
    · refine Moves.ite (fun _ => ?_) (fun _ => ?_)
      · refine Moves.step (State.baseEntry_moves _ _ _) rfl ?_
        exact Moves.refl _ _
      · refine Moves.ite (fun _ => ?_) (fun _ => ?_)
        · refine Moves.step (State.baseEntry_moves _ _ _) rfl ?_
          exact Moves.refl _ _
        · split
          · refine Moves.ite (fun _ => ?_) (fun _ => ?_)
            · refine Moves.step (State.rejectEntry_moves _ _ _ _) rfl ?_
              exact Moves.refl _ _
            · refine Moves.step (State.acceptEntry_moves _ _) rfl ?_
              refine Moves.foldl _ _ (fun _ _ => ?_) ?_
              · refine Moves.step (State.wcnt_moves _ _) rfl ?_
                refine Moves.step (State.wArchive_moves _ _) rfl ?_
                refine Moves.step (State.applyEntry_moves _ _) rfl ?_
                exact Moves.refl _ _
              · refine Moves.ite (fun _ => ?_) (fun _ => ?_)
                · refine Moves.step (State.wcnt_moves _ _) rfl ?_
                  refine Moves.ite (fun _ => ?_) (fun _ => ?_)
                  · refine Moves.step (State.wcnt_moves _ _) rfl ?_
                    exact Moves.refl _ _
                  · exact Moves.refl _ _
                · refine Moves.ite (fun _ => ?_) (fun _ => ?_)
                  · refine Moves.step (State.wcnt_moves _ _) rfl ?_
                    exact Moves.refl _ _
                  · exact Moves.refl _ _
          · refine Moves.step (State.rejectEntry_moves _ _ _ _) rfl ?_
            exact Moves.refl _ _

theorem State.releaseOne_moves (s : State) (a1) (a2) : Moves [.regs, .wrp, .bal, .bem, .hst, .evt, .blk 0x0A, .blk 0x0F, .blk 0x11, .blk 0x13] s (@State.releaseOne s a1 a2) := by
  unfold State.releaseOne
  dsimp only
  refine Moves.step (State.setWch_moves _ _ _) rfl ?_
  refine Moves.ite (fun _ => ?_) (fun _ => ?_)
  · refine Moves.step (State.wcnt_moves _ _) rfl ?_
    refine Moves.step (State.setWch_moves _ _ _) rfl ?_
    exact Moves.refl _ _
  · refine Moves.step (State.vee_moves _ _) rfl ?_
    refine Moves.step (State.setWch_moves _ _ _) rfl ?_
    exact Moves.refl _ _

theorem State.release_moves (a0) (s : State) (a2) : Moves [.regs, .wrp, .bal, .bem, .hst, .evt, .blk 0x0A, .blk 0x0F, .blk 0x11, .blk 0x13] s (@State.release a0 s a2) := by
  induction a0 generalizing s with
  | zero => exact Moves.refl _ _
  | succ n ih =>
    unfold State.release
    dsimp only
    split
    · exact Moves.refl _ _
    · refine Moves.ite (fun _ => ?_) (fun _ => Moves.refl _ _)
      exact (Moves.mono (State.releaseOne_moves _ _ _) rfl).trans (ih _)

theorem State.releaseAll_moves (s : State) (a1) : Moves [.regs, .wrp, .bal, .bem, .hst, .evt, .blk 0x0A, .blk 0x0F, .blk 0x11, .blk 0x13] s (@State.releaseAll s a1) := by
  unfold State.releaseAll
  refine Moves.step (State.release_moves _ _ _) rfl ?_
  exact Moves.refl _ _

theorem State.closeGap_moves (s : State) (a1) : Moves [.regs, .wrp, .bal, .bem, .hst, .evt, .blk 0x0A, .blk 0x0F, .blk 0x11, .blk 0x13] s (@State.closeGap s a1) := by
  unfold State.closeGap
  split
  · exact Moves.refl _ _
  · refine Moves.step (State.releaseAll_moves _ _) rfl ?_
    refine Moves.step (State.releaseOne_moves _ _ _) rfl ?_
    exact Moves.refl _ _

theorem State.closeGaps_moves (s : State) (a1) : Moves [.regs, .wrp, .bal, .bem, .hst, .evt, .blk 0x0A, .blk 0x0F, .blk 0x11, .blk 0x13] s (@State.closeGaps s a1) := by
  unfold State.closeGaps
  refine repeatN_moves _ _ (fun _ => ?_) ?_
  · refine Moves.step (State.closeGap_moves _ _) rfl ?_
    exact Moves.refl _ _
  · exact Moves.refl _ _

theorem State.cmdResult_moves (s : State) (a1) : Moves [.wrp] s (@State.cmdResult s a1) := by
  unfold State.cmdResult
  refine Moves.upd_wrp rfl ?_
  exact Moves.refl _ _

theorem State.collapseLoop_moves (a0) (s : State) : Moves [.regs, .wrp, .bal, .bem, .hst, .evt, .blk 0x0A, .blk 0x0F, .blk 0x11, .blk 0x13] s (@State.collapseLoop a0 s) := by
  induction a0 generalizing s with
  | zero => exact Moves.refl _ _
  | succ n ih =>
    unfold State.collapseLoop
    refine Moves.ite (fun _ => Moves.refl _ _) (fun _ => ?_)
    split
    · exact Moves.refl _ _
    · exact (Moves.step (State.trim_moves _ _) rfl (Moves.mono (State.closeGaps_moves _ _) rfl)).trans (ih _)

theorem State.collapse_moves (s : State) : Moves [.regs, .wrp, .bal, .bem, .hst, .evt, .blk 0x0A, .blk 0x0F, .blk 0x11, .blk 0x13] s (@State.collapse s) := by
  unfold State.collapse
  refine Moves.ite (fun _ => ?_) (fun _ => ?_)
  · exact Moves.refl _ _
  · dsimp only
    refine Moves.step (State.raise_moves _ _ _ _ _ _ _) rfl ?_
    refine Moves.step (State.cntS_moves 10 _ _ _ rfl) rfl ?_
    refine Moves.step (State.collapseLoop_moves _ _) rfl ?_
    exact Moves.refl _ _

theorem State.disposed_moves (s : State) (a1) (a2) (a3) : Moves [.regs, .wrp, .bem, .hst, .evt, .blk 0x0A, .blk 0x0F, .blk 0x11, .blk 0x13] s (@State.disposed s a1 a2 a3) := by
  unfold State.disposed
  dsimp only
  split
  · refine Moves.step (State.setWch_moves _ _ _) rfl ?_
    refine Moves.ite (fun _ => ?_) (fun _ => ?_)
    · exact Moves.refl _ _
    · refine Moves.ite (fun _ => ?_) (fun _ => ?_)
      · refine Moves.step (State.wcnt_moves _ _) rfl ?_
        exact Moves.refl _ _
      · refine Moves.step (State.wcnt_moves _ _) rfl ?_
        exact Moves.refl _ _
  · split
    · refine Moves.step (State.trim_moves _ _) rfl ?_
      refine Moves.step (State.setWch_moves _ _ _) rfl ?_
      refine Moves.ite (fun _ => ?_) (fun _ => ?_)
      · exact Moves.refl _ _
      · refine Moves.ite (fun _ => ?_) (fun _ => ?_)
        · refine Moves.step (State.wcnt_moves _ _) rfl ?_
          exact Moves.refl _ _
        · refine Moves.step (State.wcnt_moves _ _) rfl ?_
          exact Moves.refl _ _
    · refine Moves.foldl _ _ (fun _ _ => ?_) ?_
      · refine Moves.step (State.trim_moves _ _) rfl ?_
        exact Moves.refl _ _
      · refine Moves.upd_wrp rfl ?_
        refine Moves.step (State.setWch_moves _ _ _) rfl ?_
        refine Moves.ite (fun _ => ?_) (fun _ => ?_)
        · exact Moves.refl _ _
        · refine Moves.ite (fun _ => ?_) (fun _ => ?_)
          · refine Moves.step (State.wcnt_moves _ _) rfl ?_
            exact Moves.refl _ _
          · refine Moves.step (State.wcnt_moves _ _) rfl ?_
            exact Moves.refl _ _
    · refine Moves.ite (fun _ => ?_) (fun _ => ?_)
      · refine Moves.ite (fun _ => ?_) (fun _ => ?_)
        · refine Moves.step (State.raise_moves _ _ _ _ _ _ _) rfl ?_
          refine Moves.step (State.wArchive_moves _ _) rfl ?_
          refine Moves.step (State.setWch_moves _ _ _) rfl ?_
          refine Moves.ite (fun _ => ?_) (fun _ => ?_)
          · exact Moves.refl _ _
          · refine Moves.ite (fun _ => ?_) (fun _ => ?_)
            · refine Moves.step (State.wcnt_moves _ _) rfl ?_
              exact Moves.refl _ _
            · refine Moves.step (State.wcnt_moves _ _) rfl ?_
              exact Moves.refl _ _
        · refine Moves.step (State.wArchive_moves _ _) rfl ?_
          refine Moves.step (State.setWch_moves _ _ _) rfl ?_
          refine Moves.ite (fun _ => ?_) (fun _ => ?_)
          · exact Moves.refl _ _
          · refine Moves.ite (fun _ => ?_) (fun _ => ?_)
            · refine Moves.step (State.wcnt_moves _ _) rfl ?_
              exact Moves.refl _ _
            · refine Moves.step (State.wcnt_moves _ _) rfl ?_
              exact Moves.refl _ _
      · refine Moves.step (State.raise_moves _ _ _ _ _ _ _) rfl ?_
        refine Moves.ite (fun _ => ?_) (fun _ => ?_)
        · refine Moves.step (State.raise_moves _ _ _ _ _ _ _) rfl ?_
          refine Moves.step (State.wArchive_moves _ _) rfl ?_
          refine Moves.step (State.setWch_moves _ _ _) rfl ?_
          refine Moves.ite (fun _ => ?_) (fun _ => ?_)
          · exact Moves.refl _ _
          · refine Moves.ite (fun _ => ?_) (fun _ => ?_)
            · refine Moves.step (State.wcnt_moves _ _) rfl ?_
              exact Moves.refl _ _
            · refine Moves.step (State.wcnt_moves _ _) rfl ?_
              exact Moves.refl _ _
        · refine Moves.step (State.wArchive_moves _ _) rfl ?_
          refine Moves.step (State.setWch_moves _ _ _) rfl ?_
          refine Moves.ite (fun _ => ?_) (fun _ => ?_)
          · exact Moves.refl _ _
          · refine Moves.ite (fun _ => ?_) (fun _ => ?_)
            · refine Moves.step (State.wcnt_moves _ _) rfl ?_
              exact Moves.refl _ _
            · refine Moves.step (State.wcnt_moves _ _) rfl ?_
              exact Moves.refl _ _
    · refine Moves.ite (fun _ => ?_) (fun _ => ?_)
      · refine Moves.step (State.wArchive_moves _ _) rfl ?_
        refine Moves.step (State.setWch_moves _ _ _) rfl ?_
        refine Moves.ite (fun _ => ?_) (fun _ => ?_)
        · exact Moves.refl _ _
        · refine Moves.ite (fun _ => ?_) (fun _ => ?_)
          · refine Moves.step (State.wcnt_moves _ _) rfl ?_
            exact Moves.refl _ _
          · refine Moves.step (State.wcnt_moves _ _) rfl ?_
            exact Moves.refl _ _
      · refine Moves.ite (fun _ => ?_) (fun _ => ?_)
        · refine Moves.step (State.endEv_moves _ _ _) rfl ?_
          refine Moves.step (State.wArchive_moves _ _) rfl ?_
          refine Moves.step (State.setWch_moves _ _ _) rfl ?_
          refine Moves.upd_wrp rfl ?_
          refine Moves.ite (fun _ => ?_) (fun _ => ?_)
          · exact Moves.refl _ _
          · refine Moves.ite (fun _ => ?_) (fun _ => ?_)
            · refine Moves.step (State.wcnt_moves _ _) rfl ?_
              exact Moves.refl _ _
            · refine Moves.step (State.wcnt_moves _ _) rfl ?_
              exact Moves.refl _ _
        · refine Moves.step (State.wArchive_moves _ _) rfl ?_
          refine Moves.step (State.setWch_moves _ _ _) rfl ?_
          refine Moves.upd_wrp rfl ?_
          refine Moves.ite (fun _ => ?_) (fun _ => ?_)
          · exact Moves.refl _ _
          · refine Moves.ite (fun _ => ?_) (fun _ => ?_)
            · refine Moves.step (State.wcnt_moves _ _) rfl ?_
              exact Moves.refl _ _
            · refine Moves.step (State.wcnt_moves _ _) rfl ?_
              exact Moves.refl _ _

theorem State.eccReset_moves (s : State) (a1) : Moves [.regs, .wrp, .hst, .evt, .blk 0x0A, .blk 0x11, .blk 0x13] s (@State.eccReset s a1) := by
  unfold State.eccReset
  split
  · exact Moves.refl _ _
  · dsimp only
    refine Moves.step (State.raise_moves _ _ _ _ _ _ _) rfl ?_
    refine Moves.step (State.cntS_moves 10 _ _ _ rfl) rfl ?_
    refine Moves.step (State.setEpRec_moves _ _ _) rfl ?_
    refine Moves.foldl _ _ (fun _ _ => ?_) ?_
    · refine Moves.step (State.setWch_moves _ _ _) rfl ?_
      exact Moves.refl _ _
    · exact Moves.refl _ _

theorem State.edit_moves (s : State) (a1) : Moves [.regs, .wrp, .bem, .hst, .evt, .blk 0x0A, .blk 0x0F, .blk 0x11, .blk 0x13] s (@State.edit s a1) := by
  unfold State.edit
  dsimp only
  refine Moves.ite (fun _ => ?_) (fun _ => ?_)
  · refine Moves.step (State.cmdResult_moves _ _) rfl ?_
    exact Moves.refl _ _
  · refine Moves.ite (fun _ => ?_) (fun _ => ?_)
    · refine Moves.step (State.cmdResult_moves _ _) rfl ?_
      exact Moves.refl _ _
    · refine Moves.step (State.cmdResult_moves _ _) rfl ?_
      refine Moves.step (State.wArchive_moves _ _) rfl ?_
      refine Moves.step (State.wJournal_moves _ _) rfl ?_
      exact Moves.refl _ _

theorem State.raiseIdx_moves (s : State) : Moves [.wrp] s (@State.raiseIdx s) := by
  unfold State.raiseIdx
  refine Moves.foldl _ _ (fun _ _ => ?_) ?_
  · dsimp only
    refine Moves.ite (fun _ => ?_) (fun _ => ?_)
    · refine Moves.step (State.setWch_moves _ _ _) rfl ?_
      exact Moves.refl _ _
    · exact Moves.refl _ _
  · exact Moves.refl _ _

theorem State.handOver_moves (s : State) (a1) (a2) : Moves [.regs, .wrp, .slv, .blk 0x0A] s (@State.handOver s a1 a2) := by
  unfold State.handOver
  dsimp only
  refine Moves.upd_slv rfl ?_
  refine Moves.step (State.wcnt_moves _ _) rfl ?_
  refine Moves.step (State.setWch_moves _ _ _) rfl ?_
  exact Moves.refl _ _

theorem State.loadSlices_moves (s : State) : Moves [.wrp] s (@State.loadSlices s) := by
  unfold State.loadSlices
  refine Moves.foldl _ _ (fun _ _ => ?_) ?_
  · split
    · exact Moves.refl _ _
    · dsimp only
      refine Moves.foldl _ _ (fun _ _ => ?_) ?_
      · refine Moves.ite (fun _ => ?_) (fun _ => ?_)
        · refine Moves.step (State.setWch_moves _ _ _) rfl ?_
          exact Moves.refl _ _
        · exact Moves.refl _ _
      · refine Moves.foldl _ _ (fun _ _ => ?_) ?_
        · refine Moves.ite (fun _ => ?_) (fun _ => ?_)
          · refine Moves.step (State.setEpRec_moves _ _ _) rfl ?_
            exact Moves.refl _ _
          · exact Moves.refl _ _
        · exact Moves.refl _ _
  · exact Moves.refl _ _

theorem State.reanchor_moves (s : State) (a1) : Moves [.wrp] s (@State.reanchor s a1) := by
  unfold State.reanchor
  dsimp only
  refine Moves.ite (fun _ => ?_) (fun _ => ?_)
  · refine Moves.step (State.cmdResult_moves _ _) rfl ?_
    exact Moves.refl _ _
  · refine Moves.ite (fun _ => ?_) (fun _ => ?_)
    · refine Moves.step (State.cmdResult_moves _ _) rfl ?_
      exact Moves.refl _ _
    · refine Moves.step (State.cmdResult_moves _ _) rfl ?_
      refine Moves.step (State.setWch_moves _ _ _) rfl ?_
      exact Moves.refl _ _

theorem State.recIdxEff_moves (s : State) (a1) : Moves [.regs, .wrp, .blk 0x0A] s (@State.recIdxEff s a1) := by
  unfold State.recIdxEff
  dsimp only
  refine Moves.upd_wrp rfl ?_
  refine Moves.step (State.setReg_moves 10 _ _ _ rfl) rfl ?_
  exact Moves.refl _ _

theorem State.wrpCtrlEff_moves (s : State) (a1) : Moves [.wrp] s (@State.wrpCtrlEff s a1) := by
  unfold State.wrpCtrlEff
  refine Moves.ite (fun _ => ?_) (fun _ => ?_)
  · refine Moves.upd_wrp rfl ?_
    exact Moves.refl _ _
  · exact Moves.refl _ _

theorem State.wrpCmdEff_moves (s : State) (a1) : Moves [.regs, .wrp, .bem, .hst, .evt, .blk 0x0A, .blk 0x0F, .blk 0x11, .blk 0x13] s (@State.wrpCmdEff s a1).1 := by
  unfold State.wrpCmdEff
  split
  · dsimp only
    refine Moves.step (State.reanchor_moves _ _) rfl ?_
    exact Moves.refl _ _
  · dsimp only
    refine Moves.step (State.edit_moves _ _) rfl ?_
    exact Moves.refl _ _
  · dsimp only
    exact Moves.refl _ _

theorem State.replayWarp_moves (s : State) : Moves [.wrp] s (@State.replayWarp s) := by
  unfold State.replayWarp
  refine Moves.foldl _ _ (fun _ _ => ?_) ?_
  · dsimp only
    refine Moves.ite (fun _ => ?_) (fun _ => ?_)
    · refine Moves.upd_wrp rfl ?_
      exact Moves.refl _ _
    · refine Moves.ite (fun _ => ?_) (fun _ => ?_)
      · refine Moves.step (State.setEpRec_moves _ _ _) rfl ?_
        refine Moves.step (State.setWch_moves _ _ _) rfl ?_
        refine Moves.upd_wrp rfl ?_
        exact Moves.refl _ _
      · refine Moves.step (State.setWch_moves _ _ _) rfl ?_
        refine Moves.upd_wrp rfl ?_
        exact Moves.refl _ _
  · exact Moves.refl _ _

theorem State.wGap_moves (s : State) (a1) (a2) (a3) : Moves [.regs, .wrp, .bal, .bem, .hst, .evt, .blk 0x0A, .blk 0x0F, .blk 0x11, .blk 0x13] s (@State.wGap s a1 a2 a3) := by
  unfold State.wGap
  dsimp only
  refine Moves.ite (fun _ => ?_) (fun _ => ?_)
  · refine Moves.step (State.wcnt_moves _ _) rfl ?_
    exact Moves.refl _ _
  · refine Moves.step (State.releaseAll_moves _ _) rfl ?_
    refine Moves.step (State.setWch_moves _ _ _) rfl ?_
    exact Moves.refl _ _

theorem State.wReading_moves (s : State) (a1) : Moves [.regs, .wrp, .bal, .bem, .hst, .evt, .blk 0x0A, .blk 0x0F, .blk 0x11, .blk 0x13] s (@State.wReading s a1) := by
  unfold State.wReading
  dsimp only
  refine Moves.ite (fun _ => ?_) (fun _ => ?_)
  · refine Moves.step (State.wcnt_moves _ _) rfl ?_
    exact Moves.refl _ _
  · refine Moves.ite (fun _ => ?_) (fun _ => ?_)
    · refine Moves.step (State.wcnt_moves _ _) rfl ?_
      refine Moves.step (State.setEpRec_moves _ _ _) rfl ?_
      exact Moves.refl _ _
    · refine Moves.ite (fun _ => ?_) (fun _ => ?_)
      · refine Moves.step (State.collapse_moves _) rfl ?_
        refine Moves.step (State.releaseAll_moves _ _) rfl ?_
        refine Moves.step (State.vee_moves _ _) rfl ?_
        refine Moves.step (State.setEpRec_moves _ _ _) rfl ?_
        exact Moves.refl _ _
      · refine Moves.step (State.collapse_moves _) rfl ?_
        refine Moves.step (State.setWch_moves _ _ _) rfl ?_
        refine Moves.step (State.setEpRec_moves _ _ _) rfl ?_
        exact Moves.refl _ _

theorem State.warpRebuild_moves (s : State) (a1) : Moves [.regs, .wrp, .hst, .evt, .blk 0x11, .blk 0x13] s (@State.warpRebuild s a1) := by
  unfold State.warpRebuild
  split
  · exact Moves.refl _ _
  · dsimp only
    refine Moves.ite (fun _ => ?_) (fun _ => ?_)
    · refine Moves.step (State.raiseIdx_moves _) rfl ?_
      refine Moves.upd_wrp rfl ?_
      exact Moves.refl _ _
    · refine Moves.ite (fun _ => ?_) (fun _ => ?_)
      · refine Moves.step (State.raiseIdx_moves _) rfl ?_
        refine Moves.step (State.replayWarp_moves _) rfl ?_
        refine Moves.step (State.loadSlices_moves _) rfl ?_
        refine Moves.upd_wrp rfl ?_
        exact Moves.refl _ _
      · refine Moves.step (State.raise_moves _ _ _ _ _ _ _) rfl ?_
        refine Moves.upd_wrp rfl ?_
        refine Moves.step (State.raiseIdx_moves _) rfl ?_
        refine Moves.upd_wrp rfl ?_
        exact Moves.refl _ _

theorem execWarpItem_ends (a0) (s : State) : Ends [.regs, .msn, .wrp, .bal, .bem, .hst, .evt, .out, .blk 0x0A, .blk 0x0F, .blk 0x10, .blk 0x11, .blk 0x13] s (@execWarpItem a0 s) := by
  unfold execWarpItem
  refine Ends.next ?_
  refine Moves.ite (fun _ => ?_) (fun _ => ?_)
  · exact Moves.refl _ _
  · split
    · refine Moves.step (State.hostReadTaken_moves _ _) rfl ?_
      refine Moves.step (State.wReading_moves _ _) rfl ?_
      exact Moves.refl _ _
    · exact Moves.refl _ _
    · split
      · dsimp only
        refine Moves.step (State.hostReadTaken_moves _ _) rfl ?_
        refine Moves.step (State.wReading_moves _ _) rfl ?_
        refine Moves.upd_msn rfl ?_
        exact Moves.refl _ _
      · exact Moves.refl _ _

theorem execDisposition_ends (s : State) : Ends [.regs, .wrp, .slv, .bem, .hst, .evt, .blk 0x0A, .blk 0x0F, .blk 0x11, .blk 0x13] s (@execDisposition s) := by
  unfold execDisposition
  refine Ends.next ?_
  split
  · exact Moves.refl _ _
  · refine Moves.step (State.disposed_moves _ _ _ _) rfl ?_
    refine Moves.upd_slv rfl ?_
    exact Moves.refl _ _

theorem execCkptNow_ends (a0) (s : State) : Ends [.wrp, .out] s (@execCkptNow a0 s) := by
  unfold execCkptNow
  refine Ends.next ?_
  refine State.writeRow_moves _ _ _ _ rfl ?_ ?_
  · refine okEff_moves _ _ ?_
    refine Moves.step (State.wrpCtrlEff_moves _ _) rfl ?_
    exact Moves.refl _ _
  · exact Moves.refl _ _

theorem execHoldProbe_ends (s : State) : Ends [.regs, .wrp, .slv, .blk 0x0A] s (@execHoldProbe s) := by
  unfold execHoldProbe
  refine Ends.next ?_
  split
  · exact Moves.refl _ _
  · refine Moves.ite (fun _ => ?_) (fun _ => ?_)
    · refine Moves.step (State.handOver_moves _ _ _) rfl ?_
      refine Moves.upd_wrp rfl ?_
      exact Moves.refl _ _
    · exact Moves.refl _ _

theorem execEdit_ends (a0) (a1) (s : State) : Ends [.regs, .wrp, .bem, .hst, .evt, .out, .blk 0x0A, .blk 0x0F, .blk 0x11, .blk 0x13] s (@execEdit a0 a1 s) := by
  unfold execEdit
  refine Ends.next ?_
  refine State.writeRow_moves _ _ _ _ rfl ?_ ?_
  · refine Moves.step (State.wrpCmdEff_moves _ _) rfl ?_
    exact Moves.refl _ _
  · exact Moves.refl _ _

theorem execReanchor_ends (a0) (a1) (s : State) : Ends [.regs, .wrp, .bem, .hst, .evt, .out, .blk 0x0A, .blk 0x0F, .blk 0x11, .blk 0x13] s (@execReanchor a0 a1 s) := by
  unfold execReanchor
  refine Ends.next ?_
  refine State.writeRow_moves _ _ _ _ rfl ?_ ?_
  · refine Moves.step (State.wrpCmdEff_moves _ _) rfl ?_
    exact Moves.refl _ _
  · exact Moves.refl _ _

theorem execHandoffOffer_ends (a0) (s : State) : Ends [.regs, .wrp, .slv, .blk 0x0A] s (@execHandoffOffer a0 s) := by
  unfold execHandoffOffer
  refine Ends.next ?_
  split
  · exact Moves.refl _ _
  · refine Moves.ite (fun _ => ?_) (fun _ => ?_)
    · refine Moves.step (State.handOver_moves _ _ _) rfl ?_
      exact Moves.refl _ _
    · exact Moves.refl _ _

theorem execGapReport_ends (s : State) : Ends [.regs, .msn, .wrp, .bal, .bem, .hst, .evt, .blk 0x0A, .blk 0x0F, .blk 0x11, .blk 0x13] s (@execGapReport s) := by
  unfold execGapReport
  refine Ends.next ?_
  split
  · refine Moves.step (State.wGap_moves _ _ _ _) rfl ?_
    refine Moves.upd_msn rfl ?_
    exact Moves.refl _ _
  · exact Moves.refl _ _

theorem execWarpCheckpointSlice_ends (s : State) : Ends [.regs, .wrp, .hst, .evt, .nand, .blk 0x11, .blk 0x13] s (@execWarpCheckpointSlice s) := by
  unfold execWarpCheckpointSlice
  dsimp only
  refine Ends.next ?_
  refine Moves.ite (fun _ => ?_) (fun _ => ?_)
  · refine Moves.step (State.journalState_moves _) rfl ?_
    exact Moves.refl _ _
  · refine Moves.upd_wrp_nand rfl ?_
    refine Moves.step (State.journalState_moves _) rfl ?_
    exact Moves.refl _ _

theorem execWrpRecIdxWrite_ends (a0) (a1) (s : State) : Ends [.regs, .wrp, .out, .blk 0x0A] s (@execWrpRecIdxWrite a0 a1 s) := by
  unfold execWrpRecIdxWrite
  refine Ends.next ?_
  refine State.writeRow_moves _ _ _ _ rfl ?_ ?_
  · refine okEff_moves _ _ ?_
    refine Moves.step (State.recIdxEff_moves _ _) rfl ?_
    exact Moves.refl _ _
  · exact Moves.refl _ _

theorem execGapWaitExpiry_ends (a0) (a1) (s : State) : Ends [.regs, .tim, .wrp, .bal, .bem, .hst, .evt, .blk 0x0A, .blk 0x0F, .blk 0x11, .blk 0x13] s (@execGapWaitExpiry a0 a1 s) := by
  unfold execGapWaitExpiry
  dsimp only
  refine Ends.next ?_
  split
  · refine Moves.step (State.reach_moves _ _) rfl ?_
    exact Moves.refl _ _
  · refine Moves.ite (fun _ => ?_) (fun _ => ?_)
    · refine Moves.step (State.closeGap_moves _ _) rfl ?_
      refine Moves.step (State.reach_moves _ _) rfl ?_
      exact Moves.refl _ _
    · refine Moves.step (State.reach_moves _ _) rfl ?_
      exact Moves.refl _ _

end Sys2Proof.Machine
end

