-- ==== Sys2Proof/Laws/Balance.lean ====
section
/-!
SUPPORT. How far each operation of Machine/Balance.lean can change the state.
-/

namespace Sys2Proof.Machine
open Sys2Proof

theorem State.setBal_moves (s : State) (a1) (a2) : Moves [.bal] s (@State.setBal s a1 a2) := by
  unfold State.setBal
  refine Moves.upd_bal rfl ?_
  exact Moves.refl _ _

theorem State.endNode_moves (s : State) (a1) (a2) : Moves [.regs, .hst, .evt, .blk 0x11, .blk 0x13] s (@State.endNode s a1 a2) := by
  unfold State.endNode
  refine Moves.step (State.endEv_moves _ _ _) rfl ?_
  exact Moves.refl _ _

theorem State.balReset_moves (s : State) (a1) : Moves [.regs, .bal, .hst, .evt, .blk 0x11, .blk 0x13] s (@State.balReset s a1) := by
  unfold State.balReset
  dsimp only
  refine Moves.step (State.endNode_moves _ _ _) rfl ?_
  refine Moves.step (State.endNode_moves _ _ _) rfl ?_
  refine Moves.step (State.setBal_moves _ _ _) rfl ?_
  exact Moves.refl _ _

theorem State.balCmdEff_moves (s : State) (a1) : Moves [.regs, .bal, .hst, .evt, .blk 0x11, .blk 0x13] s (@State.balCmdEff s a1).1 := by
  unfold State.balCmdEff
  split
  · dsimp only
    refine Moves.ite (fun _ => ?_) (fun _ => ?_)
    · refine Moves.step (State.balReset_moves _ _) rfl ?_
      exact Moves.refl _ _
    · exact Moves.refl _ _
  · dsimp only
    refine Moves.foldl _ _ (fun _ _ => ?_) ?_
    · refine Moves.step (State.balReset_moves _ _) rfl ?_
      exact Moves.refl _ _
    · exact Moves.refl _ _
  · dsimp only
    exact Moves.refl _ _

theorem State.balCtrlEff_moves (s : State) (a1) : Moves [.bal] s (@State.balCtrlEff s a1) := by
  unfold State.balCtrlEff
  refine Moves.ite (fun _ => ?_) (fun _ => ?_)
  · exact Moves.refl _ _
  · refine Moves.ite (fun _ => ?_) (fun _ => ?_)
    · dsimp only
      refine Moves.foldl _ _ (fun _ _ => ?_) ?_
      · refine Moves.step (State.setBal_moves _ _ _) rfl ?_
        exact Moves.refl _ _
      · refine Moves.upd_bal rfl ?_
        exact Moves.refl _ _
    · dsimp only
      refine Moves.upd_bal rfl ?_
      exact Moves.refl _ _

theorem State.bcnt_moves (s : State) (a1) (a2) : Moves [.regs, .blk 0x0E] s (@State.bcnt s a1 a2) := by
  unfold State.bcnt
  refine Moves.step (State.cntW_moves 14 _ _ _ (by simp only [R.BAL_CNT_k]; omega)) rfl ?_
  exact Moves.refl _ _

theorem State.balEvents_moves (s : State) (a1) (a2) (a3) (a4) : Moves [.regs, .hst, .evt, .blk 0x11, .blk 0x13] s (@State.balEvents s a1 a2 a3 a4) := by
  unfold State.balEvents
  dsimp only
  refine Moves.ite (fun _ => ?_) (fun _ => ?_)
  · refine Moves.step (State.raise_moves _ _ _ _ _ _ _) rfl ?_
    refine Moves.step (State.endNode_moves _ _ _) rfl ?_
    refine Moves.ite (fun _ => ?_) (fun _ => ?_)
    · refine Moves.step (State.raise_moves _ _ _ _ _ _ _) rfl ?_
      refine Moves.step (State.endNode_moves _ _ _) rfl ?_
      refine Moves.ite (fun _ => ?_) (fun _ => ?_)
      · refine Moves.step (State.raise_moves _ _ _ _ _ _ _) rfl ?_
        refine Moves.step (State.endNode_moves _ _ _) rfl ?_
        refine Moves.ite (fun _ => ?_) (fun _ => ?_)
        · refine Moves.step (State.raise_moves _ _ _ _ _ _ _) rfl ?_
          refine Moves.ite (fun _ => ?_) (fun _ => ?_)
          · refine Moves.step (State.raise_moves _ _ _ _ _ _ _) rfl ?_
            exact Moves.refl _ _
          · exact Moves.refl _ _
        · refine Moves.ite (fun _ => ?_) (fun _ => ?_)
          · refine Moves.step (State.raise_moves _ _ _ _ _ _ _) rfl ?_
            exact Moves.refl _ _
          · exact Moves.refl _ _
      · refine Moves.ite (fun _ => ?_) (fun _ => ?_)
        · refine Moves.step (State.raise_moves _ _ _ _ _ _ _) rfl ?_
          refine Moves.ite (fun _ => ?_) (fun _ => ?_)
          · refine Moves.step (State.raise_moves _ _ _ _ _ _ _) rfl ?_
            exact Moves.refl _ _
          · exact Moves.refl _ _
        · refine Moves.ite (fun _ => ?_) (fun _ => ?_)
          · refine Moves.step (State.raise_moves _ _ _ _ _ _ _) rfl ?_
            exact Moves.refl _ _
          · exact Moves.refl _ _
    · refine Moves.ite (fun _ => ?_) (fun _ => ?_)
      · refine Moves.step (State.raise_moves _ _ _ _ _ _ _) rfl ?_
        refine Moves.step (State.endNode_moves _ _ _) rfl ?_
        refine Moves.ite (fun _ => ?_) (fun _ => ?_)
        · refine Moves.step (State.raise_moves _ _ _ _ _ _ _) rfl ?_
          refine Moves.ite (fun _ => ?_) (fun _ => ?_)
          · refine Moves.step (State.raise_moves _ _ _ _ _ _ _) rfl ?_
            exact Moves.refl _ _
          · exact Moves.refl _ _
        · refine Moves.ite (fun _ => ?_) (fun _ => ?_)
          · refine Moves.step (State.raise_moves _ _ _ _ _ _ _) rfl ?_
            exact Moves.refl _ _
          · exact Moves.refl _ _
      · refine Moves.ite (fun _ => ?_) (fun _ => ?_)
        · refine Moves.step (State.raise_moves _ _ _ _ _ _ _) rfl ?_
          refine Moves.ite (fun _ => ?_) (fun _ => ?_)
          · refine Moves.step (State.raise_moves _ _ _ _ _ _ _) rfl ?_
            exact Moves.refl _ _
          · exact Moves.refl _ _
        · refine Moves.ite (fun _ => ?_) (fun _ => ?_)
          · refine Moves.step (State.raise_moves _ _ _ _ _ _ _) rfl ?_
            exact Moves.refl _ _
          · exact Moves.refl _ _
  · refine Moves.ite (fun _ => ?_) (fun _ => ?_)
    · refine Moves.step (State.raise_moves _ _ _ _ _ _ _) rfl ?_
      refine Moves.step (State.endNode_moves _ _ _) rfl ?_
      refine Moves.ite (fun _ => ?_) (fun _ => ?_)
      · refine Moves.step (State.raise_moves _ _ _ _ _ _ _) rfl ?_
        refine Moves.step (State.endNode_moves _ _ _) rfl ?_
        refine Moves.ite (fun _ => ?_) (fun _ => ?_)
        · refine Moves.step (State.raise_moves _ _ _ _ _ _ _) rfl ?_
          refine Moves.ite (fun _ => ?_) (fun _ => ?_)
          · refine Moves.step (State.raise_moves _ _ _ _ _ _ _) rfl ?_
            exact Moves.refl _ _
          · exact Moves.refl _ _
        · refine Moves.ite (fun _ => ?_) (fun _ => ?_)
          · refine Moves.step (State.raise_moves _ _ _ _ _ _ _) rfl ?_
            exact Moves.refl _ _
          · exact Moves.refl _ _
      · refine Moves.ite (fun _ => ?_) (fun _ => ?_)
        · refine Moves.step (State.raise_moves _ _ _ _ _ _ _) rfl ?_
          refine Moves.ite (fun _ => ?_) (fun _ => ?_)
          · refine Moves.step (State.raise_moves _ _ _ _ _ _ _) rfl ?_
            exact Moves.refl _ _
          · exact Moves.refl _ _
        · refine Moves.ite (fun _ => ?_) (fun _ => ?_)
          · refine Moves.step (State.raise_moves _ _ _ _ _ _ _) rfl ?_
            exact Moves.refl _ _
          · exact Moves.refl _ _
    · refine Moves.ite (fun _ => ?_) (fun _ => ?_)
      · refine Moves.step (State.raise_moves _ _ _ _ _ _ _) rfl ?_
        refine Moves.step (State.endNode_moves _ _ _) rfl ?_
        refine Moves.ite (fun _ => ?_) (fun _ => ?_)
        · refine Moves.step (State.raise_moves _ _ _ _ _ _ _) rfl ?_
          refine Moves.ite (fun _ => ?_) (fun _ => ?_)
          · refine Moves.step (State.raise_moves _ _ _ _ _ _ _) rfl ?_
            exact Moves.refl _ _
          · exact Moves.refl _ _
        · refine Moves.ite (fun _ => ?_) (fun _ => ?_)
          · refine Moves.step (State.raise_moves _ _ _ _ _ _ _) rfl ?_
            exact Moves.refl _ _
          · exact Moves.refl _ _
      · refine Moves.ite (fun _ => ?_) (fun _ => ?_)
        · refine Moves.step (State.raise_moves _ _ _ _ _ _ _) rfl ?_
          refine Moves.ite (fun _ => ?_) (fun _ => ?_)
          · refine Moves.step (State.raise_moves _ _ _ _ _ _ _) rfl ?_
            exact Moves.refl _ _
          · exact Moves.refl _ _
        · refine Moves.ite (fun _ => ?_) (fun _ => ?_)
          · refine Moves.step (State.raise_moves _ _ _ _ _ _ _) rfl ?_
            exact Moves.refl _ _
          · exact Moves.refl _ _

theorem State.balEnter_moves (s : State) : Moves [.regs, .bal, .hst, .evt, .blk 0x0E, .blk 0x11, .blk 0x13] s (@State.balEnter s) := by
  unfold State.balEnter
  dsimp only
  refine Moves.foldl _ _ (fun _ _ => ?_) ?_
  · refine Moves.ite (fun _ => ?_) (fun _ => ?_)
    · refine Moves.step (State.raise_moves _ _ _ _ _ _ _) rfl ?_
      refine Moves.step (State.balEvents_moves _ _ _ _ _) rfl ?_
      refine Moves.step (State.setBal_moves _ _ _) rfl ?_
      refine Moves.ite (fun _ => ?_) (fun _ => ?_)
      · exact Moves.refl _ _
      · refine Moves.step (State.bcnt_moves _ _ _) rfl ?_
        exact Moves.refl _ _
    · refine Moves.step (State.balEvents_moves _ _ _ _ _) rfl ?_
      refine Moves.step (State.setBal_moves _ _ _) rfl ?_
      refine Moves.ite (fun _ => ?_) (fun _ => ?_)
      · exact Moves.refl _ _
      · refine Moves.step (State.bcnt_moves _ _ _) rfl ?_
        exact Moves.refl _ _
  · refine Moves.upd_bal rfl ?_
    exact Moves.refl _ _

theorem State.balRecord_moves (s : State) (a1) : Moves [.regs, .bem, .blk 0x0E, .blk 0x0F] s (@State.balRecord s a1) := by
  unfold State.balRecord
  dsimp only
  refine Moves.ite (fun _ => ?_) (fun _ => ?_)
  · refine Moves.step (State.archive_moves _ _ _ _) rfl ?_
    exact Moves.refl _ _
  · refine Moves.step (State.bcnt_moves _ _ _) rfl ?_
    refine Moves.step (State.archive_moves _ _ _ _) rfl ?_
    exact Moves.refl _ _

theorem State.contribute_moves (s : State) (a1) (a2) (a3) (a4) : Moves [.regs, .bal, .blk 0x0E] s (@State.contribute s a1 a2 a3 a4) := by
  unfold State.contribute
  refine Moves.foldl _ _ (fun _ _ => ?_) ?_
  · dsimp only
    refine Moves.ite (fun _ => ?_) (fun _ => ?_)
    · refine Moves.step (State.bcnt_moves _ _ _) rfl ?_
      exact Moves.refl _ _
    · refine Moves.step (State.setBal_moves _ _ _) rfl ?_
      exact Moves.refl _ _
  · exact Moves.refl _ _

theorem State.evalPeriod_moves (s : State) (a1) (a2) (a3) (a4) : Moves [.regs, .bal, .bem, .hst, .evt, .blk 0x0E, .blk 0x0F, .blk 0x11, .blk 0x13] s (@State.evalPeriod s a1 a2 a3 a4) := by
  unfold State.evalPeriod
  dsimp only
  refine Moves.step (State.balEvents_moves _ _ _ _ _) rfl ?_
  refine Moves.step (State.balRecord_moves _ _) rfl ?_
  refine Moves.ite (fun _ => ?_) (fun _ => ?_)
  · refine Moves.step (State.bcnt_moves _ _ _) rfl ?_
    refine Moves.step (State.bcnt_moves _ _ _) rfl ?_
    refine Moves.step (State.setBal_moves _ _ _) rfl ?_
    exact Moves.refl _ _
  · refine Moves.step (State.bcnt_moves _ _ _) rfl ?_
    refine Moves.step (State.setBal_moves _ _ _) rfl ?_
    exact Moves.refl _ _

theorem State.evalNode_moves (a0) (s : State) (a2 a3 a4) : Moves [.regs, .bal, .bem, .hst, .evt, .blk 0x0E, .blk 0x0F, .blk 0x11, .blk 0x13] s (@State.evalNode a0 s a2 a3 a4) := by
  induction a0 generalizing s with
  | zero => exact Moves.refl _ _
  | succ n ih =>
    unfold State.evalNode
    dsimp only
    refine Moves.ite (fun _ => ?_) (fun _ => Moves.refl _ _)
    exact (Moves.mono (State.evalPeriod_moves _ _ _ _ _) rfl).trans (ih _)

theorem State.nodeIdxEff_moves (s : State) (a1) : Moves [.regs, .bal, .blk 0x0E] s (@State.nodeIdxEff s a1) := by
  unfold State.nodeIdxEff
  dsimp only
  refine Moves.upd_bal rfl ?_
  refine Moves.step (State.setReg_moves 14 _ _ _ rfl) rfl ?_
  exact Moves.refl _ _

theorem State.setBalCh_moves (s : State) (a1) (a2) : Moves [.bal] s (@State.setBalCh s a1 a2) := by
  unfold State.setBalCh
  refine Moves.upd_bal rfl ?_
  exact Moves.refl _ _

theorem State.tamper_moves (s : State) (a1) (a2) (a3) : Moves [.regs, .bal, .hst, .evt, .blk 0x0E, .blk 0x11, .blk 0x13] s (@State.tamper s a1 a2 a3) := by
  unfold State.tamper
  dsimp only
  refine Moves.ite (fun _ => ?_) (fun _ => ?_)
  · refine Moves.step (State.bcnt_moves _ _ _) rfl ?_
    refine Moves.step (State.setBal_moves _ _ _) rfl ?_
    exact Moves.refl _ _
  · refine Moves.step (State.raise_moves _ _ _ _ _ _ _) rfl ?_
    refine Moves.step (State.setBal_moves _ _ _) rfl ?_
    exact Moves.refl _ _

theorem execBalDisable_ends (a0) (s : State) : Ends [.bal, .out] s (@execBalDisable a0 s) := by
  unfold execBalDisable
  refine Ends.next ?_
  refine State.writeRow_moves _ _ _ _ rfl ?_ ?_
  · refine okEff_moves _ _ ?_
    refine Moves.step (State.balCtrlEff_moves _ _) rfl ?_
    exact Moves.refl _ _
  · exact Moves.refl _ _

theorem execBalEnable_ends (a0) (s : State) : Ends [.bal, .out] s (@execBalEnable a0 s) := by
  unfold execBalEnable
  refine Ends.next ?_
  refine State.writeRow_moves _ _ _ _ rfl ?_ ?_
  · refine okEff_moves _ _ ?_
    refine Moves.step (State.balCtrlEff_moves _ _) rfl ?_
    exact Moves.refl _ _
  · exact Moves.refl _ _

theorem execBalReset_ends (a0) (a1) (s : State) : Ends [.regs, .bal, .hst, .evt, .out, .blk 0x11, .blk 0x13] s (@execBalReset a0 a1 s) := by
  unfold execBalReset
  refine Ends.next ?_
  refine State.writeRow_moves _ _ _ _ rfl ?_ ?_
  · refine Moves.step (State.balCmdEff_moves _ _) rfl ?_
    exact Moves.refl _ _
  · exact Moves.refl _ _

theorem execBalFactorCopy_ends (s : State) : Ends [.bal] s (@execBalFactorCopy s) := by
  unfold execBalFactorCopy
  refine Ends.next ?_
  split
  · exact Moves.refl _ _
  · dsimp only
    refine Moves.ite (fun _ => ?_) (fun _ => ?_)
    · refine Moves.upd_bal rfl ?_
      exact Moves.refl _ _
    · refine Moves.step (State.setBalCh_moves _ _ _) rfl ?_
      refine Moves.upd_bal rfl ?_
      exact Moves.refl _ _

theorem execBalNodeIdxWrite_ends (a0) (a1) (s : State) : Ends [.regs, .bal, .out, .blk 0x0E] s (@execBalNodeIdxWrite a0 a1 s) := by
  unfold execBalNodeIdxWrite
  refine Ends.next ?_
  refine State.writeRow_moves _ _ _ _ rfl ?_ ?_
  · refine okEff_moves _ _ ?_
    refine Moves.step (State.nodeIdxEff_moves _ _) rfl ?_
    exact Moves.refl _ _
  · exact Moves.refl _ _

theorem execBalStateSave_ends (s : State) : Ends [.nand] s (@execBalStateSave s) := by
  unfold execBalStateSave
  refine Ends.next ?_
  refine Moves.ite (fun _ => ?_) (fun _ => ?_)
  · exact Moves.refl _ _
  · refine Moves.upd_nand rfl ?_
    exact Moves.refl _ _

theorem execBalResetAll_ends (a0) (s : State) : Ends [.regs, .bal, .hst, .evt, .out, .blk 0x11, .blk 0x13] s (@execBalResetAll a0 s) := by
  unfold execBalResetAll
  refine Ends.next ?_
  refine State.writeRow_moves _ _ _ _ rfl ?_ ?_
  · refine Moves.step (State.balCmdEff_moves _ _) rfl ?_
    exact Moves.refl _ _
  · exact Moves.refl _ _

theorem execBalNotification_ends (s : State) : Ends [.regs, .bal, .hst, .evt, .blk 0x0E, .blk 0x11, .blk 0x13] s (@execBalNotification s) := by
  unfold execBalNotification
  refine Ends.next ?_
  split
  · exact Moves.refl _ _
  · dsimp only
    refine Moves.ite (fun _ => ?_) (fun _ => ?_)
    · refine Moves.upd_bal rfl ?_
      exact Moves.refl _ _
    · refine Moves.ite (fun _ => ?_) (fun _ => ?_)
      · refine Moves.step (State.bcnt_moves _ _ _) rfl ?_
        refine Moves.upd_bal rfl ?_
        exact Moves.refl _ _
      · refine Moves.ite (fun _ => ?_) (fun _ => ?_)
        · refine Moves.ite (fun _ => ?_) (fun _ => ?_)
          · refine Moves.step (State.setBalCh_moves _ _ _) rfl ?_
            refine Moves.step (State.bcnt_moves _ _ _) rfl ?_
            refine Moves.upd_bal rfl ?_
            exact Moves.refl _ _
          · refine Moves.foldl _ _ (fun _ _ => ?_) ?_
            · refine Moves.step (State.contribute_moves _ _ _ _ _) rfl ?_
              exact Moves.refl _ _
            · refine Moves.step (State.setBalCh_moves _ _ _) rfl ?_
              refine Moves.step (State.bcnt_moves _ _ _) rfl ?_
              refine Moves.upd_bal rfl ?_
              exact Moves.refl _ _
        · refine Moves.foldl _ _ (fun _ _ => ?_) ?_
          · refine Moves.step (State.tamper_moves _ _ _ _) rfl ?_
            exact Moves.refl _ _
          · refine Moves.ite (fun _ => ?_) (fun _ => ?_)
            · refine Moves.step (State.setBalCh_moves _ _ _) rfl ?_
              refine Moves.step (State.bcnt_moves _ _ _) rfl ?_
              refine Moves.upd_bal rfl ?_
              exact Moves.refl _ _
            · refine Moves.foldl _ _ (fun _ _ => ?_) ?_
              · refine Moves.step (State.contribute_moves _ _ _ _ _) rfl ?_
                exact Moves.refl _ _
              · refine Moves.step (State.setBalCh_moves _ _ _) rfl ?_
                refine Moves.step (State.bcnt_moves _ _ _) rfl ?_
                refine Moves.upd_bal rfl ?_
                exact Moves.refl _ _

theorem execBalEvaluation_ends (a0) (s : State) : Ends [.regs, .tim, .bal, .bem, .hst, .evt, .blk 0x0E, .blk 0x0F, .blk 0x11, .blk 0x13] s (@execBalEvaluation a0 s) := by
  unfold execBalEvaluation
  dsimp only
  refine Ends.next ?_
  refine Moves.ite (fun _ => ?_) (fun _ => ?_)
  · refine Moves.step (State.reach_moves _ _) rfl ?_
    exact Moves.refl _ _
  · refine Moves.ite (fun _ => ?_) (fun _ => ?_)
    · refine Moves.step (State.reach_moves _ _) rfl ?_
      exact Moves.refl _ _
    · refine Moves.foldl _ _ (fun _ _ => ?_) ?_
      · refine Moves.ite (fun _ => ?_) (fun _ => ?_)
        · exact Moves.refl _ _
        · refine Moves.step (State.evalNode_moves _ _ _ _ _) rfl ?_
          exact Moves.refl _ _
      · refine Moves.upd_bal rfl ?_
        refine Moves.step (State.reach_moves _ _) rfl ?_
        exact Moves.refl _ _

end Sys2Proof.Machine
end

