-- ==== Sys2Proof/Laws/Beam.lean ====
section
/-!
SUPPORT. How far each operation of Machine/Beam.lean can change the state.
-/

namespace Sys2Proof.Machine
open Sys2Proof

theorem State.archFits_moves (s : State) : Moves [.regs, .bem, .hst, .evt, .blk 0x11, .blk 0x13] s (@State.archFits s) := by
  unfold State.archFits
  refine Moves.ite (fun _ => ?_) (fun _ => ?_)
  · refine Moves.step (State.endEv_moves _ _ _) rfl ?_
    refine Moves.upd_bem rfl ?_
    exact Moves.refl _ _
  · exact Moves.refl _ _

theorem State.bemW_moves (s : State) (a1) (a2) : Moves [.regs, .blk 0x0F] s (@State.bemW s a1 a2) := by
  unfold State.bemW
  refine Moves.step (State.cntW_moves 15 _ _ _ (by simp only [R.BEM_CNT_k]; omega)) rfl ?_
  exact Moves.refl _ _

theorem State.archFull_moves (s : State) (a1) : Moves [.regs, .bem, .hst, .evt, .blk 0x0F, .blk 0x11, .blk 0x13] s (@State.archFull s a1) := by
  unfold State.archFull
  dsimp only
  refine Moves.ite (fun _ => ?_) (fun _ => ?_)
  · refine Moves.step (State.bemW_moves _ _ _) rfl ?_
    exact Moves.refl _ _
  · refine Moves.step (State.raise_moves _ _ _ _ _ _ _) rfl ?_
    refine Moves.upd_bem rfl ?_
    refine Moves.step (State.bemW_moves _ _ _) rfl ?_
    exact Moves.refl _ _

theorem State.archReadOnly_moves (s : State) : Moves [.regs, .wrp, .bem, .hst, .evt, .nand, .blk 0x0F, .blk 0x11, .blk 0x13] s (@State.archReadOnly s) := by
  unfold State.archReadOnly
  refine Moves.ite (fun _ => ?_) (fun _ => ?_)
  · exact Moves.refl _ _
  · dsimp only
    refine Moves.step (State.journalState_moves _) rfl ?_
    refine Moves.step (State.raise_moves _ _ _ _ _ _ _) rfl ?_
    refine Moves.step (State.bemW_moves _ _ _) rfl ?_
    refine Moves.upd_bem_nand rfl ?_
    exact Moves.refl _ _

theorem State.setBlock_moves (s : State) (a1) (a2) : Moves [.nand] s (@State.setBlock s a1 a2) := by
  unfold State.setBlock
  refine Moves.upd_nand rfl ?_
  exact Moves.refl _ _

theorem State.space_moves {s : State} {p : Pool} {slc : Bool} {s' : State} {n : Nat} (h : s.space p slc = some (s', n)) :
    Moves [.nand] s s' := by
  unfold State.space at h
  dsimp only at h
  split at h
  · cases h
    exact State.setBlock_moves _ _ _
  · split at h
    · cases h
      exact Moves.step (State.setBlock_moves _ _ _) rfl (Moves.upd_nand rfl (Moves.refl _ _))
    · split at h
      · cases h
        exact State.setBlock_moves _ _ _
      · cases h

theorem State.program_moves {s : State} {p : Pool} {slc : Bool} {s' : State} {n : Nat} (h : s.program p slc = some (s', n)) :
    Moves [.regs, .nand, .blk 0x0F] s s' := by
  unfold State.program at h
  split at h
  · cases h
  · rename_i x hx
    cases h
    refine Moves.step (State.bemW_moves _ _ _) rfl ?_
    refine Moves.upd_nand rfl ?_
    exact Moves.step (State.setBlock_moves _ _ _) rfl (Moves.mono (State.space_moves hx) rfl)

theorem State.warpOut_moves (s : State) : Moves [.regs, .bem, .nand, .blk 0x0F] s (@State.warpOut s) := by
  unfold State.warpOut
  dsimp only
  refine Moves.ite (fun _ => Moves.refl _ _) (fun _ => ?_)
  refine Moves.upd_bem_nand rfl ?_
  split
  · exact Moves.mono (State.program_moves ‹_›) rfl
  · exact Moves.refl _ _

theorem State.unmap_moves (s : State) (a1) : Moves [.nand] s (@State.unmap s a1) := by
  unfold State.unmap
  dsimp only
  refine Moves.upd_nand rfl ?_
  exact Moves.refl _ _

theorem State.dropChunk_moves (s : State) (a1) : Moves [.regs, .nand, .blk 0x0F] s (@State.dropChunk s a1) := by
  unfold State.dropChunk
  dsimp only
  refine Moves.step (State.bemW_moves _ _ _) rfl ?_
  refine Moves.step (State.unmap_moves _ _) rfl ?_
  refine Moves.upd_nand rfl ?_
  exact Moves.refl _ _

theorem State.makeRoom_moves (a0) (s : State) : Moves [.regs, .nand, .blk 0x0F] s (@State.makeRoom a0 s) := by
  induction a0 generalizing s with
  | zero => exact Moves.refl _ _
  | succ n ih =>
    unfold State.makeRoom
    refine Moves.ite (fun _ => Moves.refl _ _) (fun _ => ?_)
    split
    · exact Moves.refl _ _
    · exact (Moves.mono (State.dropChunk_moves _ _) rfl).trans (ih _)

theorem State.chunkOut_moves {s : State} {rs : List ArchRec} {s' : State} (h : s.chunkOut rs = some s') :
    Moves [.regs, .nand, .blk 0x0F] s s' := by
  unfold State.chunkOut at h
  dsimp only at h
  split at h
  · cases h
  · split at h
    · cases h
    · rename_i h1
      cases h
      refine Moves.upd_nand rfl ?_
      exact Moves.step (State.program_moves h1) rfl (State.makeRoom_moves _ _)

theorem State.archiveOut_moves (s : State) : Moves [.regs, .bem, .hst, .evt, .nand, .blk 0x0F, .blk 0x11, .blk 0x13] s (@State.archiveOut s) := by
  unfold State.archiveOut
  dsimp only
  have h := Moves.mono (State.warpOut_moves s) (fs := [.regs, .bem, .hst, .evt, .nand, .blk 0x0F, .blk 0x11, .blk 0x13]) rfl
  split
  · exact h
  · split
    · refine Moves.step (State.archFits_moves _) rfl ?_
      exact Moves.step (State.chunkOut_moves ‹_›) rfl (Moves.upd_bem rfl h)
    · exact Moves.step (State.archFull_moves _ _) rfl (Moves.upd_bem rfl h)

theorem State.bemCmdEff_moves (s : State) (a1) : Moves [.regs, .nand, .blk 0x0F] s (@State.bemCmdEff s a1).1 := by
  unfold State.bemCmdEff
  dsimp only
  split
  · dsimp only
    exact Moves.refl _ _
  · refine Moves.ite_fst (fun _ => ?_) (fun _ => ?_)
    · dsimp only
      exact Moves.refl _ _
    · refine Moves.ite_fst (fun _ => ?_) (fun _ => ?_)
      · dsimp only
        refine Moves.step (State.bemW_moves _ _ _) rfl ?_
        exact Moves.refl _ _
      · dsimp only
        refine Moves.step (State.bemW_moves _ _ _) rfl ?_
        refine Moves.upd_nand rfl ?_
        exact Moves.refl _ _

theorem State.setChSt_moves (s : State) (a1) (a2) : Moves [.bem] s (@State.setChSt s a1 a2) := by
  unfold State.setChSt
  refine Moves.upd_bem rfl ?_
  exact Moves.refl _ _

theorem State.joinNand_moves (s : State) (a1) : Moves [.sys, .bem] s (@State.joinNand s a1) := by
  unfold State.joinNand
  dsimp only
  refine Moves.ite (fun _ => ?_) (fun _ => ?_)
  · exact Moves.refl _ _
  · refine Moves.step (State.setChSt_moves _ _ _) rfl ?_
    refine Moves.upd_sys_bem rfl ?_
    exact Moves.refl _ _

theorem State.drainNand_moves (s : State) (a1) : Moves [.bem] s (@State.drainNand s a1).1 := by
  unfold State.drainNand
  refine Moves.ite_fst (fun _ => ?_) (fun _ => ?_)
  · dsimp only
    exact Moves.refl _ _
  · dsimp only
    refine Moves.step (State.setChSt_moves _ _ _) rfl ?_
    refine Moves.upd_bem rfl ?_
    exact Moves.refl _ _

theorem State.bemCtrlEff_moves (s : State) (a1) : Moves [.sys, .bem] s (@State.bemCtrlEff s a1).1 := by
  unfold State.bemCtrlEff
  dsimp only
  refine Moves.ite_fst (fun _ => ?_) (fun _ => ?_)
  · refine Moves.foldl_fst _ _ (fun _ _ => ?_) ?_
    · refine Moves.ite_fst (fun _ => ?_) (fun _ => ?_)
      · exact Moves.refl _ _
      · refine Moves.ite_fst (fun _ => ?_) (fun _ => ?_)
        · refine Moves.step (State.drainNand_moves _ _) rfl ?_
          exact Moves.refl _ _
        · refine Moves.ite_fst (fun _ => ?_) (fun _ => ?_)
          · exact Moves.refl _ _
          · refine Moves.ite_fst (fun _ => ?_) (fun _ => ?_)
            · dsimp only
              refine Moves.step (State.joinNand_moves _ _) rfl ?_
              exact Moves.refl _ _
            · exact Moves.refl _ _
    · dsimp only
      exact Moves.refl _ _
  · dsimp only
    exact Moves.refl _ _

theorem State.bemS_moves (s : State) (a1) (a2) : Moves [.regs, .blk 0x0F] s (@State.bemS s a1 a2) := by
  unfold State.bemS
  refine Moves.step (State.cntS_moves 15 _ _ _ (by simp only [R.BEM_CNT_k]; omega)) rfl ?_
  exact Moves.refl _ _

theorem State.copyUnits_moves {s : State} {p : Pool} {slc : Bool} {us : List Nat} {s' : State} {cs : List (Nat × Nat)}
    (h : s.copyUnits p slc us = some (s', cs)) : Moves [.nand] s s' := by
  have key : ∀ (us : List Nat) (m : Option (State × List (Nat × Nat))), (∀ x, m = some x → Moves [.nand] s x.1) →
      ∀ x, us.foldl (copyUnit p slc) m = some x → Moves [.nand] s x.1 := by
    intro us
    induction us with
    | nil => exact fun m hm x hx => hm x hx
    | cons u us ih =>
      intro m hm x hx
      refine ih _ (fun y hy => ?_) x hx
      unfold copyUnit at hy
      split at hy
      · cases hy
      · split at hy
        · cases hy
        · rename_i h1
          cases hy
          exact (hm _ rfl).trans (State.space_moves h1)
  exact key us (some (s, [])) (fun x hx => by cases hx; exact Moves.refl _ _) _ h

theorem State.lifeCheck_moves (s : State) : Moves [.regs, .bem, .hst, .evt, .blk 0x11, .blk 0x13] s (@State.lifeCheck s) := by
  unfold State.lifeCheck
  refine Moves.ite (fun _ => ?_) (fun _ => ?_)
  · refine Moves.step (State.raise_moves _ _ _ _ _ _ _) rfl ?_
    refine Moves.upd_bem rfl ?_
    exact Moves.refl _ _
  · exact Moves.refl _ _

theorem State.legalSpare_moves (s : State) : Moves [.regs, .slv, .bem, .hst, .par, .evt, .nand, .out, .blk 0x0C, .blk 0x11, .blk 0x13] s (@State.legalSpare s) := by
  unfold State.legalSpare
  refine Moves.ite (fun _ => ?_) (fun _ => ?_)
  · refine Moves.ite (fun _ => ?_) (fun _ => ?_)
    · refine Moves.upd_nand rfl ?_
      exact Moves.refl _ _
    · refine Moves.step (State.setCause_moves _ _) rfl ?_
      refine Moves.upd_nand rfl ?_
      exact Moves.refl _ _
  · dsimp only
    refine Moves.ite (fun _ => ?_) (fun _ => ?_)
    · refine Moves.step (State.raise_moves _ _ _ _ _ _ _) rfl ?_
      refine Moves.upd_bem_nand rfl ?_
      exact Moves.refl _ _
    · refine Moves.upd_nand rfl ?_
      exact Moves.refl _ _

theorem State.retire_moves (s : State) (a1) : Moves [.regs, .wrp, .slv, .bem, .hst, .par, .evt, .nand, .out, .blk 0x0C, .blk 0x0F, .blk 0x11, .blk 0x13] s (@State.retire s a1) := by
  unfold State.retire
  dsimp only
  split
  · refine Moves.ite (fun _ => ?_) (fun _ => ?_)
    · refine Moves.step (State.archReadOnly_moves _) rfl ?_
      refine Moves.step (State.bemS_moves _ _ _) rfl ?_
      refine Moves.upd_nand rfl ?_
      exact Moves.refl _ _
    · refine Moves.step (State.lifeCheck_moves _) rfl ?_
      refine Moves.upd_nand rfl ?_
      refine Moves.step (State.bemS_moves _ _ _) rfl ?_
      refine Moves.upd_nand rfl ?_
      exact Moves.refl _ _
  · refine Moves.step (State.legalSpare_moves _) rfl ?_
    refine Moves.step (State.bemS_moves _ _ _) rfl ?_
    refine Moves.upd_nand rfl ?_
    exact Moves.refl _ _
  · refine Moves.upd_nand rfl ?_
    exact Moves.refl _ _

theorem State.eraseBlock_moves (s : State) (a1) : Moves [.regs, .wrp, .slv, .bem, .hst, .par, .evt, .nand, .out, .blk 0x0C, .blk 0x0F, .blk 0x11, .blk 0x13] s (@State.eraseBlock s a1) := by
  unfold State.eraseBlock
  dsimp only
  refine Moves.step (State.lifeCheck_moves _) rfl ?_
  refine Moves.ite (fun _ => ?_) (fun _ => ?_)
  · refine Moves.step (State.retire_moves _ _) rfl ?_
    refine Moves.step (State.setBlock_moves _ _ _) rfl ?_
    refine Moves.ite (fun _ => ?_) (fun _ => ?_)
    · refine Moves.step (State.bemW_moves _ _ _) rfl ?_
      exact Moves.refl _ _
    · exact Moves.refl _ _
  · refine Moves.step (State.setBlock_moves _ _ _) rfl ?_
    refine Moves.ite (fun _ => ?_) (fun _ => ?_)
    · refine Moves.step (State.bemW_moves _ _ _) rfl ?_
      exact Moves.refl _ _
    · exact Moves.refl _ _

theorem State.failNand_moves (s : State) (a1) : Moves [.regs, .sys, .slv, .bem, .hst, .evt, .nand, .blk 0x11, .blk 0x13] s (@State.failNand s a1) := by
  unfold State.failNand
  dsimp only
  refine Moves.ite (fun _ => ?_) (fun _ => ?_)
  · refine Moves.step (State.unitDown_moves _ _ _) rfl ?_
    refine Moves.step (State.setChSt_moves _ _ _) rfl ?_
    refine Moves.upd_bem_nand rfl ?_
    exact Moves.refl _ _
  · refine Moves.step (State.raise_moves _ _ _ _ _ _ _) rfl ?_
    refine Moves.upd_slv_bem rfl ?_
    refine Moves.step (State.unitDown_moves _ _ _) rfl ?_
    refine Moves.step (State.setChSt_moves _ _ _) rfl ?_
    refine Moves.upd_bem_nand rfl ?_
    exact Moves.refl _ _

theorem State.remap_moves (s : State) (a1) (a2) : Moves [.nand] s (@State.remap s a1 a2) := by
  unfold State.remap
  dsimp only
  refine Moves.upd_nand rfl ?_
  refine Moves.foldl _ _ (fun _ _ => ?_) ?_
  · refine Moves.step (State.setBlock_moves _ _ _) rfl ?_
    exact Moves.refl _ _
  · refine Moves.step (State.setBlock_moves _ _ _) rfl ?_
    exact Moves.refl _ _

theorem State.moveStep_moves (s : State) (a1 a2) : Moves [.regs, .wrp, .slv, .bem, .hst, .par, .evt, .nand, .out, .blk 0x0C, .blk 0x0F, .blk 0x11, .blk 0x13] s (@State.moveStep s a1 a2) := by
  unfold State.moveStep
  dsimp only
  split
  · split
    · exact Moves.refl _ _
    · split
      · exact Moves.refl _ _
      · refine Moves.step (State.bemW_moves _ _ _) rfl (Moves.upd_bem rfl ?_)
        exact Moves.step (State.copyUnits_moves ‹_›) rfl (Moves.upd_bem rfl (Moves.refl _ _))
  · refine Moves.ite (fun _ => ?_) (fun _ => ?_)
    · exact Moves.step (State.eraseBlock_moves _ _) rfl (Moves.upd_bem rfl (Moves.refl _ _))
    · exact Moves.step (State.remap_moves _ _ _) rfl (Moves.upd_bem rfl (Moves.refl _ _))

theorem State.recache_moves (s : State) : Moves [.bem] s (@State.recache s) := by
  unfold State.recache
  dsimp only
  refine Moves.ite (fun _ => ?_) (fun _ => ?_)
  · refine Moves.upd_bem rfl ?_
    exact Moves.refl _ _
  · exact Moves.refl _ _

theorem State.gcStep_moves (s : State) : Moves [.regs, .wrp, .slv, .bem, .hst, .par, .evt, .nand, .out, .blk 0x0C, .blk 0x0F, .blk 0x11, .blk 0x13] s (@State.gcStep s) := by
  unfold State.gcStep
  dsimp only
  refine Moves.step (State.recache_moves _) rfl ?_
  refine Moves.step (State.moveStep_moves _ _ _) rfl ?_
  exact Moves.refl _ _

theorem State.ringTrim_moves (s : State) : Moves [.nand] s (@State.ringTrim s) := by
  unfold State.ringTrim
  split
  · exact Moves.refl _ _
  · refine Moves.ite (fun _ => ?_) (fun _ => ?_)
    · exact Moves.refl _ _
    · refine Moves.step (State.unmap_moves _ _) rfl ?_
      refine Moves.upd_nand rfl ?_
      exact Moves.refl _ _

theorem State.journalOut_moves (s : State) : Moves [.regs, .slv, .nand, .blk 0x0F] s (@State.journalOut s) := by
  unfold State.journalOut
  dsimp only
  split
  · exact Moves.refl _ _
  · split
    · exact Moves.refl _ _
    · refine Moves.step (State.ringTrim_moves _) rfl ?_
      exact Moves.upd_slv_nand rfl (Moves.mono (State.program_moves ‹_›) rfl)

theorem State.listBlock_moves (s : State) (a1) (a2) : Moves [.regs, .nand, .blk 0x0F] s (@State.listBlock s a1 a2) := by
  unfold State.listBlock
  refine Moves.ite (fun _ => ?_) (fun _ => ?_)
  · exact Moves.refl _ _
  · dsimp only
    refine Moves.step (State.bemW_moves _ _ _) rfl ?_
    refine Moves.step (State.setBlock_moves _ _ _) rfl ?_
    exact Moves.refl _ _

theorem State.moveOff_moves (s : State) (a1) : Moves [.regs, .bem, .nand, .blk 0x0F] s (@State.moveOff s a1) := by
  unfold State.moveOff
  dsimp only
  refine Moves.upd_bem_nand rfl ?_
  refine Moves.foldl _ _ (fun u x => ?_) (Moves.refl _ _)
  split
  · refine Moves.step (State.bemW_moves _ _ _) rfl ?_
    exact Moves.step (State.remap_moves _ _ _) rfl (Moves.mono (State.copyUnits_moves ‹_›) rfl)
  · exact Moves.refl _ _

theorem State.nandLost_moves (s : State) (a1) : Moves [.nand] s (@State.nandLost s a1) := by
  unfold State.nandLost
  split
  · refine Moves.upd_nand rfl ?_
    exact Moves.refl _ _
  · exact Moves.refl _ _
  · exact Moves.refl _ _
  · exact Moves.refl _ _
  · dsimp only
    refine Moves.upd_nand rfl ?_
    exact Moves.refl _ _
  · refine Moves.upd_nand rfl ?_
    exact Moves.refl _ _
  · refine Moves.upd_nand rfl ?_
    exact Moves.refl _ _
  · refine Moves.upd_nand rfl ?_
    exact Moves.refl _ _
  · refine Moves.ite (fun _ => ?_) (fun _ => ?_)
    · refine Moves.upd_nand rfl ?_
      exact Moves.refl _ _
    · refine Moves.upd_nand rfl ?_
      exact Moves.refl _ _
  · dsimp only
    refine Moves.upd_nand rfl ?_
    exact Moves.refl _ _

theorem execNandChannelFail_ends (a0) (s : State) : Ends [.regs, .sys, .slv, .bem, .hst, .evt, .nand, .blk 0x11, .blk 0x13] s (@execNandChannelFail a0 s) := by
  unfold execNandChannelFail
  refine Ends.next ?_
  refine Moves.ite (fun _ => ?_) (fun _ => ?_)
  · refine Moves.step (State.failNand_moves _ _) rfl ?_
    exact Moves.refl _ _
  · exact Moves.refl _ _

theorem execGarbageCollection_ends (s : State) : Ends [.regs, .wrp, .slv, .bem, .hst, .par, .evt, .nand, .fresh, .out, .blk 0x0C, .blk 0x0F, .blk 0x11, .blk 0x13] s (@execGarbageCollection s) := by
  unfold execGarbageCollection
  refine Ends.next ?_
  refine Moves.ite (fun _ => ?_) (fun _ => ?_)
  · exact Moves.refl _ _
  · dsimp only
    refine Moves.ite (fun _ => ?_) (fun _ => ?_)
    · refine Moves.step (State.listBlock_moves _ _ _) rfl ?_
      refine Moves.step (State.used_moves _) rfl ?_
      refine Moves.step (State.used_moves _) rfl ?_
      exact Moves.refl _ _
    · refine Moves.step (State.gcStep_moves _) rfl ?_
      refine Moves.step (State.listBlock_moves _ _ _) rfl ?_
      refine Moves.step (State.used_moves _) rfl ?_
      refine Moves.step (State.used_moves _) rfl ?_
      exact Moves.refl _ _

theorem execNandOperationFail_ends (a0) (a1) (s : State) : Ends [.regs, .wrp, .slv, .bem, .hst, .par, .evt, .nand, .out, .blk 0x0C, .blk 0x0F, .blk 0x11, .blk 0x13] s (@execNandOperationFail a0 a1 s) := by
  unfold execNandOperationFail
  refine Ends.next ?_
  refine Moves.ite (fun _ => ?_) (fun _ => ?_)
  · exact Moves.refl _ _
  · dsimp only
    refine Moves.step (State.retire_moves _ _) rfl ?_
    refine Moves.ite (fun _ => ?_) (fun _ => ?_)
    · refine Moves.upd_bem_nand rfl ?_
      exact Moves.refl _ _
    · split
      · refine Moves.step (State.bemW_moves _ _ _) rfl ?_
        refine Moves.step (State.remap_moves _ _ _) rfl ?_
        refine Moves.upd_bem rfl ?_
        refine Moves.step (State.copyUnits_moves ‹_›) rfl ?_
        refine Moves.upd_bem rfl ?_
        exact Moves.refl _ _
      · refine Moves.upd_bem rfl ?_
        exact Moves.refl _ _

theorem execWearLevelMove_ends (a0) (s : State) : Ends [.regs, .wrp, .slv, .bem, .hst, .par, .evt, .nand, .out, .blk 0x0C, .blk 0x0F, .blk 0x11, .blk 0x13] s (@execWearLevelMove a0 s) := by
  unfold execWearLevelMove
  refine Ends.next ?_
  refine Moves.ite (fun _ => ?_) (fun _ => ?_)
  · exact Moves.refl _ _
  · split
    · exact Moves.refl _ _
    · refine Moves.step (State.moveStep_moves _ _ _) rfl ?_
      exact Moves.refl _ _

theorem execArchiveWrite_ends (s : State) : Ends [.regs, .wrp, .slv, .bem, .hst, .par, .evt, .nand, .out, .blk 0x0C, .blk 0x0F, .blk 0x11, .blk 0x13] s (@execArchiveWrite s) := by
  unfold execArchiveWrite
  refine Ends.next ?_
  refine Moves.ite (fun _ => ?_) (fun _ => ?_)
  · exact Moves.refl _ _
  · refine Moves.ite (fun _ => ?_) (fun _ => ?_)
    · refine Moves.step (State.bemW_moves _ _ _) rfl ?_
      refine Moves.upd_bem rfl ?_
      exact Moves.refl _ _
    · dsimp only
      refine Moves.step (State.recache_moves _) rfl ?_
      refine Moves.step (State.archiveOut_moves _) rfl ?_
      refine Moves.ite (fun _ => ?_) (fun _ => ?_)
      · refine Moves.step (State.gcStep_moves _) rfl ?_
        exact Moves.refl _ _
      · exact Moves.refl _ _

theorem execNandReadUncorrectable_ends (a0) (a1) (s : State) : Ends [.regs, .hst, .evt, .nand, .blk 0x0F, .blk 0x11, .blk 0x13] s (@execNandReadUncorrectable a0 a1 s) := by
  unfold execNandReadUncorrectable
  refine Ends.next ?_
  refine Moves.ite (fun _ => ?_) (fun _ => ?_)
  · exact Moves.refl _ _
  · dsimp only
    refine Moves.step (State.raise_moves _ _ _ _ _ _ _) rfl ?_
    refine Moves.step (State.cntS_moves 19 _ _ _ rfl) rfl ?_
    refine Moves.step (State.bemS_moves _ _ _) rfl ?_
    refine Moves.step (State.bemW_moves _ _ _) rfl ?_
    refine Moves.step (State.nandLost_moves _ _) rfl ?_
    exact Moves.refl _ _

theorem execJournalRecordWrite_ends (s : State) : Ends [.regs, .slv, .nand, .blk 0x0F] s (@execJournalRecordWrite s) := by
  unfold execJournalRecordWrite
  refine Ends.next ?_
  refine Moves.ite (fun _ => ?_) (fun _ => ?_)
  · exact Moves.refl _ _
  · refine Moves.step (State.journalOut_moves _) rfl ?_
    exact Moves.refl _ _

theorem execNandChannelDrainDone_ends (a0) (s : State) : Ends [.regs, .sys, .bem, .nand, .blk 0x0F] s (@execNandChannelDrainDone a0 s) := by
  unfold execNandChannelDrainDone
  refine Ends.next ?_
  refine Moves.ite (fun _ => ?_) (fun _ => ?_)
  · exact Moves.refl _ _
  · dsimp only
    refine Moves.step (State.setChSt_moves _ _ _) rfl ?_
    refine Moves.upd_sys rfl ?_
    refine Moves.step (State.moveOff_moves _ _) rfl ?_
    exact Moves.refl _ _

theorem execDiscard_ends (a0) (a1) (s : State) : Ends [.regs, .nand, .out, .blk 0x0F] s (@execDiscard a0 a1 s) := by
  unfold execDiscard
  refine Ends.next ?_
  refine State.writeRow_moves _ _ _ _ rfl ?_ ?_
  · refine Moves.step (State.bemCmdEff_moves _ _) rfl ?_
    exact Moves.refl _ _
  · exact Moves.refl _ _

theorem execNandChannelDrain_ends (a0) (a1) (s : State) : Ends [.sys, .bem, .out] s (@execNandChannelDrain a0 a1 s) := by
  unfold execNandChannelDrain
  refine Ends.next ?_
  refine State.writeRow_moves _ _ _ _ rfl ?_ ?_
  · refine Moves.step (State.bemCtrlEff_moves _ _) rfl ?_
    exact Moves.refl _ _
  · exact Moves.refl _ _

theorem execCacheFold_ends (s : State) : Ends [.regs, .wrp, .slv, .bem, .hst, .par, .evt, .nand, .out, .blk 0x0C, .blk 0x0F, .blk 0x11, .blk 0x13] s (@execCacheFold s) := by
  unfold execCacheFold
  refine Ends.next ?_
  refine Moves.ite (fun _ => ?_) (fun _ => ?_)
  · exact Moves.refl _ _
  · refine Moves.ite (fun _ => ?_) (fun _ => ?_)
    · refine Moves.step (State.recache_moves _) rfl ?_
      refine Moves.step (State.moveStep_moves _ _ _) rfl ?_
      exact Moves.refl _ _
    · exact Moves.refl _ _

theorem execNandChannelJoin_ends (a0) (a1) (s : State) : Ends [.sys, .bem, .out] s (@execNandChannelJoin a0 a1 s) := by
  unfold execNandChannelJoin
  refine Ends.next ?_
  refine State.writeRow_moves _ _ _ _ rfl ?_ ?_
  · refine Moves.step (State.bemCtrlEff_moves _ _) rfl ?_
    exact Moves.refl _ _
  · exact Moves.refl _ _

theorem execFastAggregation_ends (a0) (a1) (s : State) : Ends [.regs, .bem, .fresh, .blk 0x0F] s (@execFastAggregation a0 a1 s) := by
  unfold execFastAggregation
  refine Ends.next ?_
  dsimp only
  split
  · exact Moves.refl _ _
  · refine Moves.ite (fun _ => ?_) (fun _ => ?_)
    · exact Moves.refl _ _
    · refine Moves.ite (fun _ => ?_) (fun _ => ?_)
      · refine Moves.step (State.bemW_moves _ _ _) rfl ?_
        refine Moves.step (State.archive_moves _ _ _ _) rfl ?_
        refine Moves.upd_fresh rfl ?_
        exact Moves.refl _ _
      · refine Moves.step (State.archive_moves _ _ _ _) rfl ?_
        refine Moves.upd_fresh rfl ?_
        exact Moves.refl _ _

end Sys2Proof.Machine
end

