-- ==== Sys2Proof/Laws/Clock.lean ====
section
/-!
SUPPORT. How far each operation of Machine/Clock.lean can change the state.
-/

namespace Sys2Proof.Machine
open Sys2Proof

theorem State.pushRail_moves (s : State) (a1) (a2) : Moves [.clk, .out] s (@State.pushRail s a1 a2) := by
  unfold State.pushRail
  dsimp only
  refine Moves.ite (fun _ => ?_) (fun _ => ?_)
  · exact Moves.refl _ _
  · refine Moves.upd_clk_out rfl ?_
    exact Moves.refl _ _

theorem State.trimRail_moves (s : State) (a1) : Moves [.clk, .out] s (@State.trimRail s a1) := by
  unfold State.trimRail
  dsimp only
  refine Moves.ite (fun _ => ?_) (fun _ => ?_)
  · refine Moves.step (State.pushRail_moves _ _ _) rfl ?_
    exact Moves.refl _ _
  · exact Moves.refl _ _

theorem State.advanceOnce_moves (s : State) (a1) : Moves [.clk, .out] s (@State.advanceOnce s a1) := by
  unfold State.advanceOnce
  dsimp only
  refine Moves.ite (fun _ => ?_) (fun _ => ?_)
  · exact Moves.refl _ _
  · refine Moves.ite (fun _ => ?_) (fun _ => ?_)
    · refine Moves.step (State.setIsl_moves _ _ _) rfl ?_
      exact Moves.refl _ _
    · refine Moves.ite (fun _ => ?_) (fun _ => ?_)
      · refine Moves.ite (fun _ => ?_) (fun _ => ?_)
        · refine Moves.step (State.setIsl_moves _ _ _) rfl ?_
          exact Moves.refl _ _
        · refine Moves.ite (fun _ => ?_) (fun _ => ?_)
          · refine Moves.step (State.setIsl_moves _ _ _) rfl ?_
            exact Moves.refl _ _
          · refine Moves.ite (fun _ => ?_) (fun _ => ?_)
            · refine Moves.step (State.setIsl_moves _ _ _) rfl ?_
              exact Moves.refl _ _
            · refine Moves.step (State.pushRail_moves _ _ _) rfl ?_
              refine Moves.step (State.setIsl_moves _ _ _) rfl ?_
              exact Moves.refl _ _
      · refine Moves.ite (fun _ => ?_) (fun _ => ?_)
        · refine Moves.ite (fun _ => ?_) (fun _ => ?_)
          · refine Moves.step (State.setIsl_moves _ _ _) rfl ?_
            exact Moves.refl _ _
          · refine Moves.ite (fun _ => ?_) (fun _ => ?_)
            · refine Moves.step (State.setIsl_moves _ _ _) rfl ?_
              exact Moves.refl _ _
            · refine Moves.step (State.pushRail_moves _ _ _) rfl ?_
              refine Moves.step (State.setIsl_moves _ _ _) rfl ?_
              exact Moves.refl _ _
        · refine Moves.ite (fun _ => ?_) (fun _ => ?_)
          · refine Moves.step (State.setIsl_moves _ _ _) rfl ?_
            exact Moves.refl _ _
          · refine Moves.ite (fun _ => ?_) (fun _ => ?_)
            · refine Moves.step (State.trimRail_moves _ _) rfl ?_
              refine Moves.step (State.setIsl_moves _ _ _) rfl ?_
              exact Moves.refl _ _
            · refine Moves.step (State.setIsl_moves _ _ _) rfl ?_
              exact Moves.refl _ _

theorem State.advance_moves (s : State) (a1) : Moves [.clk, .tmp, .out] s (@State.advance s a1) := by
  unfold State.advance
  dsimp only
  refine Moves.ite (fun _ => ?_) (fun _ => ?_)
  · refine Moves.step (State.advanceOnce_moves _ _) rfl ?_
    exact Moves.refl _ _
  · refine Moves.ite (fun _ => ?_) (fun _ => ?_)
    · refine Moves.step (State.advanceOnce_moves _ _) rfl ?_
      refine Moves.step (State.advanceOnce_moves _ _) rfl ?_
      exact Moves.refl _ _
    · refine Moves.ite (fun _ => ?_) (fun _ => ?_)
      · refine Moves.upd_tmp rfl ?_
        refine Moves.step (State.advanceOnce_moves _ _) rfl ?_
        exact Moves.refl _ _
      · refine Moves.step (State.advanceOnce_moves _ _) rfl ?_
        exact Moves.refl _ _

theorem State.advanceRail_moves (s : State) (a1) : Moves [.clk, .tmp, .out] s (@State.advanceRail s a1) := by
  unfold State.advanceRail
  refine Moves.foldl _ _ (fun _ _ => ?_) ?_
  · refine Moves.ite (fun _ => ?_) (fun _ => ?_)
    · refine Moves.step (State.advance_moves _ _) rfl ?_
      exact Moves.refl _ _
    · exact Moves.refl _ _
  · exact Moves.refl _ _

theorem State.burn_moves (s : State) (a1 a2 a3) : Moves [.otp] s (@State.burn s a1 a2 a3) := by
  unfold State.burn
  refine Moves.ite (fun _ => ?_) (fun _ => Moves.refl _ _)
  refine Moves.upd_otp rfl ⟨⟨rfl, List.prefix_rfl, fun i => ?_⟩, id⟩ (Moves.refl _ _)
  simp only [Store.get_insert, Otp.ratchetOf]
  split
  · rename_i h
    exact h ▸ Nat.le_max_left _ _
  · exact Nat.le_refl _

theorem State.exhausted_moves (s : State) (a1) (a2) (a3) : Moves [.regs, .slv, .hst, .par, .evt, .nand, .out, .blk 0x0C, .blk 0x11, .blk 0x13] s (@State.exhausted s a1 a2 a3) := by
  unfold State.exhausted
  dsimp only
  refine Moves.ite (fun _ => ?_) (fun _ => ?_)
  · exact Moves.refl _ _
  · refine Moves.ite (fun _ => ?_) (fun _ => ?_)
    · refine Moves.step (State.setCause_moves _ _) rfl ?_
      refine Moves.step (State.raise_moves _ _ _ _ _ _ _) rfl ?_
      exact Moves.refl _ _
    · refine Moves.step (State.raise_moves _ _ _ _ _ _ _) rfl ?_
      exact Moves.refl _ _

theorem State.retarget_moves (s : State) (a1) : Moves [.clk, .tmp, .out] s (@State.retarget s a1) := by
  unfold State.retarget
  refine Moves.ite (fun _ => ?_) (fun _ => ?_)
  · refine Moves.step (State.advance_moves _ _) rfl ?_
    exact Moves.refl _ _
  · exact Moves.refl _ _

theorem State.newMargins_moves (s : State) (a1) (a2) (a3) : Moves [.regs, .clk, .slv, .hst, .par, .evt, .otp, .nand, .out, .blk 0x0C, .blk 0x11, .blk 0x13] s (@State.newMargins s a1 a2 a3) := by
  unfold State.newMargins
  dsimp only
  refine Moves.step (State.exhausted_moves _ _ _ _) rfl ?_
  refine Moves.ite (fun _ => ?_) (fun _ => ?_)
  · refine Moves.step (State.raise_moves _ _ _ _ _ _ _) rfl ?_
    refine Moves.step (State.burn_moves _ _ _ _) rfl ?_
    refine Moves.step (State.setIsl_moves _ _ _) rfl ?_
    exact Moves.refl _ _
  · refine Moves.step (State.burn_moves _ _ _ _) rfl ?_
    refine Moves.step (State.setIsl_moves _ _ _) rfl ?_
    exact Moves.refl _ _

theorem State.setMargins_moves (s : State) (a1) (a2) (a3) : Moves [.regs, .clk, .tmp, .slv, .hst, .par, .evt, .otp, .nand, .out, .blk 0x0C, .blk 0x11, .blk 0x13] s (@State.setMargins s a1 a2 a3) := by
  unfold State.setMargins
  refine Moves.step (State.retarget_moves _ _) rfl ?_
  refine Moves.step (State.newMargins_moves _ _ _ _) rfl ?_
  exact Moves.refl _ _

theorem State.measure_moves (s : State) (a1) (a2) : Moves [.regs, .clk, .tmp, .slv, .hst, .par, .evt, .otp, .nand, .out, .blk 0x0C, .blk 0x11, .blk 0x13] s (@State.measure s a1 a2) := by
  unfold State.measure
  dsimp only
  refine Moves.ite (fun _ => ?_) (fun _ => ?_)
  · exact Moves.refl _ _
  · refine Moves.ite (fun _ => ?_) (fun _ => ?_)
    · refine Moves.step (State.retarget_moves _ _) rfl ?_
      refine Moves.step (State.setIsl_moves _ _ _) rfl ?_
      exact Moves.refl _ _
    · refine Moves.step (State.setMargins_moves _ _ _ _) rfl ?_
      exact Moves.refl _ _

theorem State.railBack_moves (s : State) (a1) : Moves [.regs, .hst, .evt, .blk 0x11, .blk 0x13] s (@State.railBack s a1) := by
  unfold State.railBack
  refine Moves.step (State.endEv_moves _ _ _) rfl ?_
  exact Moves.refl _ _

theorem State.railFails_moves (s : State) (a1) : Moves [.regs, .clk, .tmp, .hst, .evt, .out, .blk 0x11, .blk 0x13] s (@State.railFails s a1) := by
  unfold State.railFails
  dsimp only
  refine Moves.step (State.raise_moves _ _ _ _ _ _ _) rfl ?_
  refine Moves.step (State.advanceRail_moves _ _) rfl ?_
  refine Moves.upd_clk rfl ?_
  exact Moves.refl _ _

theorem State.reaim_moves (s : State) (a1) : Moves [.clk, .tmp, .out] s (@State.reaim s a1) := by
  unfold State.reaim
  refine Moves.ite (fun _ => ?_) (fun _ => ?_)
  · exact Moves.refl _ _
  · refine Moves.step (State.advance_moves _ _) rfl ?_
    exact Moves.refl _ _

theorem State.setTgt_moves (s : State) (a1) (a2) : Moves [.clk, .tmp, .out] s (@State.setTgt s a1 a2) := by
  unfold State.setTgt
  dsimp only
  refine Moves.step (State.reaim_moves _ _) rfl ?_
  refine Moves.step (State.setIsl_moves _ _ _) rfl ?_
  exact Moves.refl _ _

theorem State.templeSkip_moves (a0) (s : State) : Moves [.clk, .tmp, .out] s (@State.templeSkip a0 s) := by
  induction a0 generalizing s with
  | zero => exact Moves.refl _ _
  | succ n ih =>
    unfold State.templeSkip
    dsimp only
    split
    · refine Moves.ite (fun _ => ?_) (fun _ => ?_)
      · exact (Moves.upd_tmp rfl (Moves.refl _ _)).trans (ih _)
      · refine Moves.ite (fun _ => ?_) (fun _ => Moves.refl _ _)
        refine Moves.ite (fun _ => ?_) (fun _ => ?_)
        · exact (Moves.step (State.setIsl_moves _ _ _) rfl (Moves.upd_tmp rfl (Moves.refl _ _))).trans (ih _)
        · refine Moves.step (State.retarget_moves _ _) rfl ?_
          exact Moves.step (State.setIsl_moves _ _ _) rfl (Moves.refl _ _)
    · exact Moves.refl _ _

theorem State.templeDaily_moves (s : State) (a1) : Moves [.regs, .clk, .hst, .evt, .blk 0x11, .blk 0x13] s (@State.templeDaily s a1) := by
  unfold State.templeDaily
  dsimp only
  refine Moves.ite (fun _ => ?_) (fun _ => ?_)
  · refine Moves.step (State.raise_moves _ _ _ _ _ _ _) rfl ?_
    refine Moves.step (State.setIsl_moves _ _ _) rfl ?_
    exact Moves.refl _ _
  · refine Moves.step (State.setIsl_moves _ _ _) rfl ?_
    exact Moves.refl _ _

theorem State.writeTemple_moves (s : State) : Moves [.tmp, .nand] s (@State.writeTemple s) := by
  unfold State.writeTemple
  dsimp only
  refine Moves.upd_tmp_nand rfl ?_
  exact Moves.refl _ _

theorem State.templeEnd_moves (s : State) : Moves [.regs, .clk, .tmp, .hst, .evt, .nand, .blk 0x11, .blk 0x13] s (@State.templeEnd s) := by
  unfold State.templeEnd
  split
  · dsimp only
    refine Moves.ite (fun _ => ?_) (fun _ => ?_)
    · refine Moves.step (State.writeTemple_moves _) rfl ?_
      refine Moves.foldl _ _ (fun _ _ => ?_) ?_
      · refine Moves.step (State.templeDaily_moves _ _) rfl ?_
        exact Moves.refl _ _
      · refine Moves.upd_tmp rfl ?_
        exact Moves.refl _ _
    · refine Moves.foldl _ _ (fun _ _ => ?_) ?_
      · refine Moves.step (State.templeDaily_moves _ _) rfl ?_
        exact Moves.refl _ _
      · refine Moves.upd_tmp rfl ?_
        exact Moves.refl _ _
  · exact Moves.refl _ _

theorem State.templeStart_moves (s : State) : Moves [.regs, .clk, .tmp, .hst, .evt, .nand, .out, .blk 0x11, .blk 0x13] s (@State.templeStart s) := by
  unfold State.templeStart
  split
  · exact Moves.refl _ _
  · refine Moves.step (State.templeEnd_moves _) rfl ?_
    refine Moves.step (State.templeSkip_moves _ _) rfl ?_
    refine Moves.upd_tmp rfl ?_
    exact Moves.refl _ _

theorem State.stepDown_moves (s : State) (a1) (a2) : Moves [.regs, .clk, .tmp, .slv, .hst, .par, .evt, .otp, .nand, .out, .blk 0x0C, .blk 0x11, .blk 0x13] s (@State.stepDown s a1 a2) := by
  unfold State.stepDown
  dsimp only
  refine Moves.ite (fun _ => ?_) (fun _ => ?_)
  · refine Moves.upd_tmp rfl ?_
    refine Moves.step (State.reaim_moves _ _) rfl ?_
    refine Moves.step (State.newMargins_moves _ _ _ _) rfl ?_
    exact Moves.refl _ _
  · refine Moves.step (State.reaim_moves _ _) rfl ?_
    refine Moves.step (State.newMargins_moves _ _ _ _) rfl ?_
    exact Moves.refl _ _

theorem execAvsRetryTimer_ends (a0) (a1) (s : State) : Ends [.regs, .clk, .tmp, .hst, .evt, .out, .blk 0x11, .blk 0x13] s (@execAvsRetryTimer a0 a1 s) := by
  unfold execAvsRetryTimer
  dsimp only
  split
  · refine Ends.next ?_
    exact Moves.refl _ _
  · refine Ends.ite (fun _ => ?_) (fun _ => ?_)
    · refine Ends.next ?_
      exact Moves.refl _ _
    · refine Ends.ite (fun _ => ?_) (fun _ => ?_)
      · refine Ends.next ?_
        refine Moves.ite (fun _ => ?_) (fun _ => ?_)
        · refine Moves.step (State.railBack_moves _ _) rfl ?_
          refine Moves.upd_clk rfl ?_
          refine Moves.step (State.emit_moves _ _) rfl ?_
          exact Moves.refl _ _
        · refine Moves.upd_clk rfl ?_
          refine Moves.step (State.emit_moves _ _) rfl ?_
          exact Moves.refl _ _
      · refine Ends.ite (fun _ => ?_) (fun _ => ?_)
        · refine Ends.next ?_
          refine Moves.step (State.emit_moves _ _) rfl ?_
          exact Moves.refl _ _
        · refine Ends.ite (fun _ => ?_) (fun _ => ?_)
          · refine Ends.next ?_
            refine Moves.step (State.railFails_moves _ _) rfl ?_
            refine Moves.step (State.emit_moves _ _) rfl ?_
            exact Moves.refl _ _
          · refine Ends.next ?_
            refine Moves.upd_clk rfl ?_
            refine Moves.step (State.emit_moves _ _) rfl ?_
            exact Moves.refl _ _

theorem execRegulatorSettled_ends (a0) (s : State) : Ends [.clk, .tmp, .out] s (@execRegulatorSettled a0 s) := by
  unfold execRegulatorSettled
  dsimp only
  refine Ends.ite (fun _ => ?_) (fun _ => ?_)
  · refine Ends.next ?_
    refine Moves.step (State.advance_moves _ _) rfl ?_
    refine Moves.step (State.setIsl_moves _ _ _) rfl ?_
    exact Moves.refl _ _
  · refine Ends.next ?_
    exact Moves.refl _ _

theorem execStepTargetWrite_ends (a0) (a1) (a2) (s : State) : Ends [.clk, .tmp, .out] s (@execStepTargetWrite a0 a1 a2 s) := by
  unfold execStepTargetWrite
  refine Ends.next ?_
  refine State.writeRow_moves _ _ _ _ rfl ?_ ?_
  · refine okEff_moves _ _ ?_
    refine Moves.step (State.setTgt_moves _ _ _) rfl ?_
    exact Moves.refl _ _
  · exact Moves.refl _ _

theorem execTempleMeasure_ends (a0) (s : State) : Ends [.regs, .clk, .tmp, .hst, .evt, .nand, .out, .blk 0x11, .blk 0x13] s (@execTempleMeasure a0 s) := by
  unfold execTempleMeasure
  refine Ends.next ?_
  refine State.writeRow_moves _ _ _ _ rfl ?_ ?_
  · refine okEff_moves _ _ ?_
    refine Moves.step (State.templeStart_moves _) rfl ?_
    exact Moves.refl _ _
  · exact Moves.refl _ _

theorem execTempleWindowEnd_ends (a0) (a1) (s : State) : Ends [.regs, .clk, .tmp, .tim, .slv, .hst, .par, .evt, .otp, .nand, .out, .blk 0x0C, .blk 0x11, .blk 0x13] s (@execTempleWindowEnd a0 a1 s) := by
  unfold execTempleWindowEnd
  dsimp only
  split
  · refine Ends.next ?_
    refine Moves.step (State.reach_moves _ _) rfl ?_
    exact Moves.refl _ _
  · refine Ends.ite (fun _ => ?_) (fun _ => ?_)
    · refine Ends.next ?_
      refine Moves.step (State.reach_moves _ _) rfl ?_
      exact Moves.refl _ _
    · refine Ends.next ?_
      refine Moves.step (State.templeEnd_moves _) rfl ?_
      refine Moves.step (State.templeSkip_moves _ _) rfl ?_
      refine Moves.upd_tmp rfl ?_
      refine Moves.step (State.measure_moves _ _ _) rfl ?_
      refine Moves.step (State.reach_moves _ _) rfl ?_
      exact Moves.refl _ _

theorem execSlackAlarm_ends (a0) (a1) (s : State) : Ends [.regs, .clk, .tmp, .slv, .hst, .par, .evt, .otp, .nand, .out, .blk 0x0C, .blk 0x11, .blk 0x13] s (@execSlackAlarm a0 a1 s) := by
  unfold execSlackAlarm
  dsimp only
  refine Ends.ite (fun _ => ?_) (fun _ => ?_)
  · refine Ends.next ?_
    exact Moves.refl _ _
  · refine Ends.ite (fun _ => ?_) (fun _ => ?_)
    · refine Ends.next ?_
      refine Moves.step (State.stepDown_moves _ _ _) rfl ?_
      exact Moves.refl _ _
    · refine Ends.next ?_
      refine Moves.step (State.setMargins_moves _ _ _ _) rfl ?_
      exact Moves.refl _ _

theorem execFrequencyStepTick_ends (a0) (s : State) : Ends [.clk, .tmp, .out] s (@execFrequencyStepTick a0 s) := by
  unfold execFrequencyStepTick
  dsimp only
  refine Ends.ite (fun _ => ?_) (fun _ => ?_)
  · refine Ends.next ?_
    refine Moves.step (State.advance_moves _ _) rfl ?_
    refine Moves.step (State.setIsl_moves _ _ _) rfl ?_
    exact Moves.refl _ _
  · refine Ends.next ?_
    exact Moves.refl _ _

theorem execTempleCycleTimer_ends (a0) (s : State) : Ends [.regs, .clk, .tmp, .tim, .hst, .evt, .nand, .out, .blk 0x11, .blk 0x13] s (@execTempleCycleTimer a0 s) := by
  unfold execTempleCycleTimer
  dsimp only
  refine Ends.ite (fun _ => ?_) (fun _ => ?_)
  · refine Ends.next ?_
    refine Moves.step (State.templeStart_moves _) rfl ?_
    refine Moves.step (State.reach_moves _ _) rfl ?_
    exact Moves.refl _ _
  · refine Ends.next ?_
    refine Moves.step (State.reach_moves _ _) rfl ?_
    exact Moves.refl _ _

end Sys2Proof.Machine
end

