-- ==== Sys2Proof/Laws/DataPort.lean ====
section
/-!
SUPPORT. How far each operation of Machine/DataPort.lean can change the state.
-/

namespace Sys2Proof.Machine
open Sys2Proof

theorem State.abandon_moves (s : State) (a1) : Moves [.regs, .hst, .blk 0x11] s (@State.abandon s a1) := by
  unfold State.abandon
  refine Moves.step (State.cntW_moves 17 _ _ _ rfl) rfl ?_
  refine Moves.step (State.setPart_moves _ _ _ ?_) rfl ?_
  · exact fun h => h.get _
  · exact Moves.refl _ _

theorem State.hand_moves (s : State) (a1) (a2) : Moves [.hst] s (@State.hand s a1 a2) := by
  unfold State.hand
  dsimp only
  refine Moves.step (State.setPart_moves _ _ _ ?_) rfl ?_
  · exact fun h => h.get _
  · exact Moves.refl _ _

theorem State.commitEff_moves (a0) (s : State) (a2) : Moves [.hst] s (@State.commitEff a0 s a2).1 := by
  unfold State.commitEff
  refine Moves.ite_fst (fun _ => ?_) (fun _ => ?_)
  · dsimp only
    exact Moves.refl _ _
  · split
    · dsimp only
      exact Moves.refl _ _
    · dsimp only
      split
      · dsimp only
        refine Moves.step (State.hand_moves _ _ _) rfl ?_
        exact Moves.refl _ _
      · dsimp only
        exact Moves.refl _ _

theorem State.takeUp_moves (s : State) (a1) (a2) : Moves [.hst] s (@State.takeUp s a1 a2) := by
  unfold State.takeUp
  dsimp only
  refine Moves.step (State.setPart_moves _ _ _ ?_) rfl ?_
  · exact fun h => h.get _
  · exact Moves.refl _ _

theorem State.commitRow_moves {fs : List Field} {s : State} (r : Requester) (code : Nat) (consume : State → Nat → Nat → State)
    (hs : ([.hst, .out] : List Field).all (fun g => fs.contains g) = true) (hf : ∀ u j n, Moves fs u (consume u j n)) :
    Moves fs s (s.commitRow r code consume) := by
  have hw : Moves fs s (s.writeRow r R.HST_DP_COMMIT (packWord [(31, 1, 1), (0, 8, code)]) (State.commitEff r)) :=
    State.writeRow_moves _ _ _ _ (sub_of hs rfl) (Moves.mono (State.commitEff_moves _ _ _) (sub_of hs rfl)) (Moves.refl _ _)
  unfold State.commitRow
  split
  · exact hw
  · rename_i j x _
    have h1 : Moves fs s (if s.handed j code then s
      else s.writeRow r R.HST_DP_COMMIT (packWord [(31, 1, 1), (0, 8, code)]) (State.commitEff r)) :=
      Moves.ite (fun _ => Moves.refl _ _) (fun _ => hw)
    refine Moves.ite (fun _ => ?_) (fun _ => h1)
    exact (Moves.step (State.takeUp_moves _ _ _) (sub_of hs rfl) h1).trans (hf _ _ _)

theorem State.dpAddrEff_moves (a0) (s : State) (a2) : Moves [.heldW, .hst] s (@State.dpAddrEff a0 s a2).1 := by
  unfold State.dpAddrEff
  split
  · dsimp only
    exact Moves.refl _ _
  · dsimp only
    refine Moves.ite_fst (fun _ => ?_) (fun _ => ?_)
    · dsimp only
      exact Moves.refl _ _
    · dsimp only
      refine Moves.step (State.dropHeld_moves _ _ _) rfl ?_
      refine Moves.step (State.setPart_moves _ _ _ ?_) rfl ?_
      · exact fun h => h.get _
      · exact Moves.refl _ _

theorem State.dpChunks_moves (a0 a1 a2 a3 a4 a5) (s : State) (a7 a8 a9) :
    Moves [.regs, .hst, .out, .blk 0x10, .blk 0x11] s (@State.dpChunks a0 a1 a2 a3 a4 a5 s a7 a8 a9) := by
  induction a5 generalizing s a7 a8 a9 with
  | zero => exact Moves.refl _ _
  | succ n ih =>
    unfold State.dpChunks
    dsimp only
    refine Moves.ite (fun _ => Moves.refl _ _) (fun _ => ?_)
    exact (Moves.mono (State.send_moves _ _ _ _) rfl).trans (ih _ _ _ _)

/-- A burst step leaves the event queue alone. -/
theorem Part.burstStep_evq (p : Part) (bsn idx : Nat) (start : Bool) (addr now : Nat) :
    (p.burstStep bsn idx start addr now).1.evq = p.evq := by
  unfold Part.burstStep
  dsimp only
  (repeat' split) <;> rfl

/-- A partition set last, with a queue that was sound at the start. -/
theorem Moves.setPart_of {fs : List Field} {s t : State} (h : Moves fs s t) (hs : ([.hst] : List Field).all (fun g => fs.contains g) = true)
    (j : Nat) (x : Part) (hx : QueuesOk s.hst.parts → x.evq.length ≤ 4096) : Moves fs s (t.setPart j x) where
  only := fun f hf => (h.only f hf).trans
    (Only.of hs (fun g hg => by cases g <;> first | exact (hg (by decide)).elim | rfl | exact fun _ _ => rfl) f hf)
  inv := fun i =>
    have k := h.inv i
    ⟨k.regs, k.ports, k.active, k.queues.put j (hx i.queues), k.seals⟩
  gains := h.gains

theorem State.dpData_moves (s : State) (a1 a2 a3 a4 a5 a6 a7) : Moves [.hst] s (@State.dpData s a1 a2 a3 a4 a5 a6 a7).1 := by
  have h : QueuesOk s.hst.parts → ((s.part a1).burstStep a3 a4 a5 a6 s.tim.cnt).1.evq.length ≤ 4096 :=
    fun h => by rw [Part.burstStep_evq]; exact h.get _
  unfold State.dpData
  dsimp only
  refine Moves.ite_fst (fun _ => State.setPart_moves _ _ _ h) (fun _ => ?_)
  split
  · exact Moves.setPart_of (State.setPart_moves _ _ _ h) rfl _ _ h
  · exact State.setPart_moves _ _ _ h

theorem execDpIdleTimeout_ends (a0) (a1) (s : State) : Ends [.regs, .tim, .hst, .blk 0x11] s (@execDpIdleTimeout a0 a1 s) := by
  unfold execDpIdleTimeout
  dsimp only
  refine Ends.next ?_
  refine Moves.ite (fun _ => ?_) (fun _ => ?_)
  · refine Moves.step (State.abandon_moves _ _) rfl ?_
    refine Moves.step (State.reach_moves _ _) rfl ?_
    exact Moves.refl _ _
  · refine Moves.step (State.reach_moves _ _) rfl ?_
    exact Moves.refl _ _

theorem execDpData_ends (a0) (a1) (a2) (a3) (a4) (a5) (s : State) : Ends [.regs, .hst, .out, .blk 0x10, .blk 0x11] s (@execDpData a0 a1 a2 a3 a4 a5 s) := by
  unfold execDpData
  dsimp only
  refine Ends.next ?_
  refine Moves.ite (fun _ => ?_) (fun _ => ?_)
  · refine Moves.step (State.takeDgram_moves _ _) rfl ?_
    exact Moves.refl _ _
  · refine Moves.step (State.send_moves _ _ _ _) rfl ?_
    split
    · refine Moves.step (State.cntW_moves 17 _ _ _ rfl) rfl ?_
      refine Moves.step (State.dpData_moves _ _ _ _ _ _ _ _) rfl ?_
      refine Moves.step (State.takeDgram_moves _ _) rfl ?_
      exact Moves.refl _ _
    · refine Moves.step (State.cntW_moves 17 _ _ _ rfl) rfl ?_
      refine Moves.step (State.dpData_moves _ _ _ _ _ _ _ _) rfl ?_
      refine Moves.step (State.takeDgram_moves _ _) rfl ?_
      exact Moves.refl _ _
    · refine Moves.step (State.dpData_moves _ _ _ _ _ _ _ _) rfl ?_
      refine Moves.step (State.takeDgram_moves _ _) rfl ?_
      exact Moves.refl _ _

theorem execHstDpAddrWrite_ends (a0) (a1) (s : State) : Ends [.heldW, .hst, .out] s (@execHstDpAddrWrite a0 a1 s) := by
  unfold execHstDpAddrWrite
  refine Ends.next ?_
  refine State.writeRow_moves _ _ _ _ rfl ?_ ?_
  · refine Moves.step (State.dpAddrEff_moves _ _ _) rfl ?_
    exact Moves.refl _ _
  · exact Moves.refl _ _

theorem execDpRead_ends (a0) (a1) (a2) (s : State) : Ends [.regs, .hst, .out, .blk 0x10, .blk 0x11] s (@execDpRead a0 a1 a2 s) := by
  unfold execDpRead
  dsimp only
  refine Ends.next ?_
  refine Moves.ite (fun _ => ?_) (fun _ => ?_)
  · refine Moves.step (State.takeDgram_moves _ _) rfl ?_
    exact Moves.refl _ _
  · split
    · refine Moves.step (State.dpChunks_moves _ _ _ _ _ _ _ _ _ _) rfl ?_
      refine Moves.step (State.takeDgram_moves _ _) rfl ?_
      exact Moves.refl _ _
    · refine Moves.step (State.send_moves _ _ _ _) rfl ?_
      refine Moves.step (State.takeDgram_moves _ _) rfl ?_
      exact Moves.refl _ _

end Sys2Proof.Machine
end

