-- ==== Sys2Proof/Laws/Key.lean ====
section
/-!
SUPPORT. How far each operation of Machine/Key.lean can change the state.
-/

namespace Sys2Proof.Machine
open Sys2Proof

theorem State.holdPkwk_moves (s : State) (a1) : Moves [.regs, .key, .hst, .evt, .nand, .blk 0x11, .blk 0x13] s (@State.holdPkwk s a1) := by
  unfold State.holdPkwk
  dsimp only
  refine Moves.step (State.endEv_moves _ _ _) rfl ?_
  refine Moves.upd_key_nand rfl ?_
  exact Moves.refl _ _

theorem State.genPkwk_moves (s : State) : Moves [.regs, .key, .hst, .evt, .nand, .fresh, .blk 0x11, .blk 0x13] s (@State.genPkwk s) := by
  unfold State.genPkwk
  refine Moves.ite (fun _ => ?_) (fun _ => ?_)
  · exact Moves.refl _ _
  · dsimp only
    refine Moves.step (State.raise_moves _ _ _ _ _ _ _) rfl ?_
    refine Moves.step (State.holdPkwk_moves _ _) rfl ?_
    refine Moves.step (State.used_moves _) rfl ?_
    exact Moves.refl _ _

theorem State.pkwkDue_moves (s : State) : Moves [.regs, .key, .hst, .evt, .nand, .fresh, .blk 0x11, .blk 0x13] s (@State.pkwkDue s) := by
  unfold State.pkwkDue
  refine Moves.ite (fun _ => ?_) (fun _ => ?_)
  · refine Moves.step (State.genPkwk_moves _) rfl ?_
    exact Moves.refl _ _
  · exact Moves.refl _ _

theorem State.moveJobs_moves (s : State) (a1) : Moves [.key] s (@State.moveJobs s a1) := by
  unfold State.moveJobs
  dsimp only
  refine Moves.ite (fun _ => ?_) (fun _ => ?_)
  · exact Moves.refl _ _
  · refine Moves.foldl _ _ (fun _ _ => ?_) ?_
    · refine Moves.step (State.queueJob_moves _ _) rfl ?_
      exact Moves.refl _ _
    · refine Moves.upd_key rfl ?_
      exact Moves.refl _ _

theorem State.failLane_moves (s : State) (a1) : Moves [.regs, .sys, .key, .hst, .evt, .blk 0x11, .blk 0x13] s (@State.failLane s a1) := by
  unfold State.failLane
  refine Moves.ite (fun _ => ?_) (fun _ => ?_)
  · exact Moves.refl _ _
  · dsimp only
    refine Moves.ite (fun _ => ?_) (fun _ => ?_)
    · refine Moves.step (State.raise_moves _ _ _ _ _ _ _) rfl ?_
      refine Moves.step (State.moveJobs_moves _ _) rfl ?_
      refine Moves.step (State.unitDown_moves _ _ _) rfl ?_
      refine Moves.step (State.raise_moves _ _ _ _ _ _ _) rfl ?_
      refine Moves.upd_key rfl ?_
      exact Moves.refl _ _
    · refine Moves.step (State.moveJobs_moves _ _) rfl ?_
      refine Moves.step (State.unitDown_moves _ _ _) rfl ?_
      refine Moves.step (State.raise_moves _ _ _ _ _ _ _) rfl ?_
      refine Moves.upd_key rfl ?_
      exact Moves.refl _ _

theorem State.grant_moves (s : State) (a1) : Moves [.msn, .key] s (@State.grant s a1) := by
  unfold State.grant
  dsimp only
  split
  · refine Moves.ite (fun _ => ?_) (fun _ => ?_)
    · refine Moves.step (State.resend_moves _ _) rfl ?_
      refine Moves.upd_key rfl ?_
      refine Moves.step (State.setSess_moves _ _ _) rfl ?_
      exact Moves.refl _ _
    · refine Moves.upd_key rfl ?_
      refine Moves.step (State.setSess_moves _ _ _) rfl ?_
      exact Moves.refl _ _
  · refine Moves.upd_key rfl ?_
    refine Moves.step (State.setSess_moves _ _ _) rfl ?_
    exact Moves.refl _ _

theorem State.importEntry_moves (a0) (x : State × Nat × Nat) (a2) : Moves [.regs, .ports, .net, .msn, .key, .hst, .par, .evt, .nand, .fresh, .out, .blk 0x06, .blk 0x08, .blk 0x11, .blk 0x13] x.1 (State.importEntry a0 x a2).1 := by
  unfold State.importEntry
  dsimp only
  refine Moves.ite_fst (fun _ => ?_) (fun _ => ?_)
  · dsimp only
    exact Moves.refl _ _
  · dsimp only
    split
    · refine Moves.step (State.endConn_moves _ _ _ _) rfl ?_
      refine Moves.step (State.sendKey_moves _ _) rfl ?_
      refine Moves.step (State.copyKey_moves _ _) rfl ?_
      refine Moves.upd_key_par rfl ?_
      refine Moves.step (State.endEv_moves _ _ _) rfl ?_
      refine Moves.step (State.setSess_moves _ _ _) rfl ?_
      refine Moves.step (State.setKey_moves _ _ _) rfl ?_
      refine Moves.step (State.closeAssoc_moves _ _) rfl ?_
      exact Moves.refl _ _
    · refine Moves.step (State.sendKey_moves _ _) rfl ?_
      refine Moves.step (State.copyKey_moves _ _) rfl ?_
      refine Moves.upd_key_par rfl ?_
      refine Moves.step (State.endEv_moves _ _ _) rfl ?_
      refine Moves.step (State.setSess_moves _ _ _) rfl ?_
      refine Moves.step (State.setKey_moves _ _ _) rfl ?_
      refine Moves.step (State.closeAssoc_moves _ _) rfl ?_
      exact Moves.refl _ _

theorem State.zeroSessions_moves (s : State) : Moves [.hst] s (@State.zeroSessions s) := by
  unfold State.zeroSessions
  dsimp only
  refine Moves.upd_hst rfl ?_ ?_
  · exact fun h => h
  · refine Moves.step (State.endSessions_moves _) rfl ?_
    exact Moves.refl _ _

theorem State.zeroKeys_moves (s : State) (a1) : Moves [.regs, .msn, .key, .hst, .evt, .blk 0x11, .blk 0x13] s (@State.zeroKeys s a1) := by
  unfold State.zeroKeys
  dsimp only
  refine Moves.step (State.raise_moves _ _ _ _ _ _ _) rfl ?_
  split
  · refine Moves.step (State.decided_moves _ _ _ _) rfl ?_
    refine Moves.upd_key rfl ?_
    refine Moves.foldl _ _ (fun _ _ => ?_) ?_
    · refine Moves.step (State.setSess_moves _ _ _) rfl ?_
      exact Moves.refl _ _
    · exact Moves.refl _ _
  · refine Moves.upd_key rfl ?_
    refine Moves.foldl _ _ (fun _ _ => ?_) ?_
    · refine Moves.step (State.setSess_moves _ _ _) rfl ?_
      exact Moves.refl _ _
    · exact Moves.refl _ _

theorem State.keyZeroEff_moves (s : State) (a1) : Moves [.regs, .msn, .key, .hst, .evt, .blk 0x11, .blk 0x13] s (@State.keyZeroEff s a1).1 := by
  unfold State.keyZeroEff
  refine Moves.ite_fst (fun _ => ?_) (fun _ => ?_)
  · dsimp only
    exact Moves.refl _ _
  · dsimp only
    split
    · refine Moves.step (State.zeroSessions_moves _) rfl ?_
      exact Moves.refl _ _
    · refine Moves.step (State.zeroKeys_moves _ _) rfl ?_
      exact Moves.refl _ _
    · refine Moves.step (State.zeroSessions_moves _) rfl ?_
      refine Moves.step (State.zeroKeys_moves _ _) rfl ?_
      exact Moves.refl _ _
    · exact Moves.refl _ _

theorem State.keyZero_moves (s : State) (a1) (a2) : Moves [.regs, .msn, .key, .hst, .evt, .out, .blk 0x11, .blk 0x13] s (@State.keyZero s a1 a2) := by
  unfold State.keyZero
  refine State.writeRow_moves _ _ _ _ rfl ?_ ?_
  · refine Moves.step (State.keyZeroEff_moves _ _) rfl ?_
    exact Moves.refl _ _
  · exact Moves.refl _ _

theorem State.laneEnEff_moves (s : State) (a1) : Moves [.key] s (@State.laneEnEff s a1).1 := by
  unfold State.laneEnEff
  dsimp only
  refine Moves.ite_fst (fun _ => ?_) (fun _ => ?_)
  · dsimp only
    exact Moves.refl _ _
  · dsimp only
    refine Moves.foldl _ _ (fun _ _ => ?_) ?_
    · refine Moves.step (State.moveJobs_moves _ _) rfl ?_
      exact Moves.refl _ _
    · refine Moves.upd_key rfl ?_
      exact Moves.refl _ _

theorem State.resvAcked_moves (s : State) (a1) (a2) : Moves [.msn, .key, .par] s (@State.resvAcked s a1 a2) := by
  unfold State.resvAcked
  dsimp only
  refine Moves.ite (fun _ => ?_) (fun _ => ?_)
  · refine Moves.step (State.grant_moves _ _) rfl ?_
    refine Moves.upd_par rfl ?_
    exact Moves.refl _ _
  · refine Moves.upd_par rfl ?_
    exact Moves.refl _ _

theorem State.storeCheck_moves (s : State) : Moves [.regs, .key, .hst, .evt, .blk 0x11, .blk 0x13] s (@State.storeCheck s) := by
  unfold State.storeCheck
  refine Moves.ite (fun _ => ?_) (fun _ => ?_)
  · refine Moves.step (State.endEv_moves _ _ _) rfl ?_
    refine Moves.upd_key rfl ?_
    exact Moves.refl _ _
  · exact Moves.refl _ _

theorem State.takeBatch_moves (a0) (s : State) (a2) (a3) : Moves [.regs, .key, .hst, .evt, .nand, .fresh, .blk 0x11, .blk 0x13] s (@State.takeBatch a0 s a2 a3) := by
  unfold State.takeBatch
  dsimp only
  split
  · refine Moves.step (State.decided_moves _ _ _ _) rfl ?_
    refine Moves.upd_key rfl ?_
    exact Moves.refl _ _
  · refine Moves.upd_key rfl ?_
    refine Moves.ite (fun _ => ?_) (fun _ => ?_)
    · exact Moves.refl _ _
    · refine Moves.step (State.genPkwk_moves _) rfl ?_
      exact Moves.refl _ _

theorem execLaneEnable_ends (a0) (a1) (s : State) : Ends [.key, .out] s (@execLaneEnable a0 a1 s) := by
  unfold execLaneEnable
  refine Ends.next ?_
  refine State.writeRow_moves _ _ _ _ rfl ?_ ?_
  · refine Moves.step (State.laneEnEff_moves _ _) rfl ?_
    exact Moves.refl _ _
  · exact Moves.refl _ _

theorem execTrngHealthPass_ends (s : State) : Ends [.regs, .key, .hst, .evt, .blk 0x11, .blk 0x13] s (@execTrngHealthPass s) := by
  unfold execTrngHealthPass
  refine Ends.next ?_
  refine Moves.ite (fun _ => ?_) (fun _ => ?_)
  · exact Moves.refl _ _
  · refine Moves.step (State.endEv_moves _ _ _) rfl ?_
    refine Moves.upd_key rfl ?_
    exact Moves.refl _ _

theorem execKeyCopyWritten_ends (a0) (s : State) : Ends [.regs, .msn, .key, .hst, .par, .evt, .nand, .out, .blk 0x11, .blk 0x13] s (@execKeyCopyWritten a0 s) := by
  unfold execKeyCopyWritten
  dsimp only
  refine Ends.next ?_
  refine Moves.ite (fun _ => ?_) (fun _ => ?_)
  · refine Moves.step (State.storeCheck_moves _) rfl ?_
    exact Moves.refl _ _
  · refine Moves.ite (fun _ => ?_) (fun _ => ?_)
    · refine Moves.step (State.storeCheck_moves _) rfl ?_
      exact Moves.refl _ _
    · refine Moves.ite (fun _ => ?_) (fun _ => ?_)
      · refine Moves.upd_key rfl ?_
        refine Moves.step (State.sendKey_moves _ _) rfl ?_
        refine Moves.step (State.copyKey_moves _ _) rfl ?_
        refine Moves.step (State.setKey_moves _ _ _) rfl ?_
        refine Moves.upd_par rfl ?_
        refine Moves.step (State.storeCheck_moves _) rfl ?_
        exact Moves.refl _ _
      · refine Moves.step (State.grant_moves _ _) rfl ?_
        refine Moves.step (State.sendKey_moves _ _) rfl ?_
        refine Moves.step (State.copyKey_moves _ _) rfl ?_
        refine Moves.step (State.setKey_moves _ _ _) rfl ?_
        refine Moves.upd_par rfl ?_
        refine Moves.step (State.storeCheck_moves _) rfl ?_
        exact Moves.refl _ _

theorem execZeroMeterKeys_ends (a0) (s : State) : Ends [.regs, .msn, .key, .hst, .evt, .out, .blk 0x11, .blk 0x13] s (@execZeroMeterKeys a0 s) := by
  unfold execZeroMeterKeys
  refine Ends.next ?_
  refine Moves.step (State.keyZero_moves _ _ _) rfl ?_
  exact Moves.refl _ _

theorem execKeyCertIssue_ends (a0) (s : State) : Ends [.regs, .key, .hst, .out, .blk 0x10, .blk 0x11] s (@execKeyCertIssue a0 s) := by
  unfold execKeyCertIssue
  refine Ends.next ?_
  refine Moves.trans ?_ (State.objRun_moves _ _ _ _ rfl (fun _ _ _ => ?_))
  · exact Moves.refl _ _
  · dsimp only
    refine Moves.ite_fst (fun _ => ?_) (fun _ => ?_)
    · dsimp only
      exact Moves.refl _ _
    · refine Moves.ite_fst (fun _ => ?_) (fun _ => ?_)
      · dsimp only
        exact Moves.refl _ _
      · refine Moves.ite_fst (fun _ => ?_) (fun _ => ?_)
        · dsimp only
          exact Moves.refl _ _
        · dsimp only
          refine Moves.upd_key rfl ?_
          refine Moves.step (State.setPart_moves _ _ _ ?_) rfl ?_
          · exact fun h => h.get _
          · exact Moves.refl _ _

theorem execKeyCertSigned_ends (s : State) : Ends [.regs, .key, .hst, .out, .blk 0x10, .blk 0x11] s (@execKeyCertSigned s) := by
  unfold execKeyCertSigned
  refine Ends.next ?_
  split
  · dsimp only
    refine Moves.step (State.objAnswer_moves _ _ _ _ _ _) rfl ?_
    refine Moves.step (State.setPart_moves _ _ _ ?_) rfl ?_
    · exact fun h => h.get _
    · refine Moves.upd_key rfl ?_
      exact Moves.refl _ _
  · exact Moves.refl _ _

theorem execZeroAll_ends (a0) (s : State) : Ends [.regs, .msn, .key, .hst, .evt, .out, .blk 0x11, .blk 0x13] s (@execZeroAll a0 s) := by
  unfold execZeroAll
  refine Ends.next ?_
  refine Moves.step (State.keyZero_moves _ _ _) rfl ?_
  exact Moves.refl _ _

theorem execKeyImportDone_ends (s : State) : Ends [.regs, .ports, .net, .msn, .key, .hst, .par, .evt, .nand, .fresh, .out, .blk 0x06, .blk 0x08, .blk 0x11, .blk 0x13] s (@execKeyImportDone s) := by
  unfold execKeyImportDone
  refine Ends.next ?_
  split
  · exact Moves.refl _ _
  · dsimp only
    split
    · refine Moves.ite (fun _ => ?_) (fun _ => ?_)
      · refine Moves.step (State.genPkwk_moves _) rfl ?_
        exact Moves.refl _ _
      · exact Moves.refl _ _
    · refine Moves.step (State.decided_moves _ _ _ _) rfl ?_
      refine Moves.step (State.raise_moves _ _ _ _ _ _ _) rfl ?_
      refine Moves.upd_key_nand rfl ?_
      refine Moves.foldl_fst _ _ (fun _ _ => ?_) ?_
      · refine Moves.step (State.importEntry_moves _ _ _) rfl ?_
        exact Moves.refl _ _
      · dsimp only
        refine Moves.ite (fun _ => ?_) (fun _ => ?_)
        · refine Moves.step (State.genPkwk_moves _) rfl ?_
          exact Moves.refl _ _
        · exact Moves.refl _ _

theorem execZeroSessions_ends (a0) (s : State) : Ends [.regs, .msn, .key, .hst, .evt, .out, .blk 0x11, .blk 0x13] s (@execZeroSessions a0 s) := by
  unfold execZeroSessions
  refine Ends.next ?_
  refine Moves.step (State.keyZero_moves _ _ _) rfl ?_
  exact Moves.refl _ _

theorem execZeroiseEraseDone_ends (s : State) : Ends [.regs, .key, .hst, .evt, .nand, .blk 0x11, .blk 0x13] s (@execZeroiseEraseDone s) := by
  unfold execZeroiseEraseDone
  refine Ends.next ?_
  refine Moves.ite (fun _ => ?_) (fun _ => ?_)
  · exact Moves.refl _ _
  · refine Moves.step (State.raise_moves _ _ _ _ _ _ _) rfl ?_
    refine Moves.upd_key_nand rfl ?_
    exact Moves.refl _ _

theorem execTrngHealthFail_ends (s : State) : Ends [.regs, .key, .hst, .evt, .blk 0x11, .blk 0x13] s (@execTrngHealthFail s) := by
  unfold execTrngHealthFail
  refine Ends.next ?_
  refine Moves.ite (fun _ => ?_) (fun _ => ?_)
  · exact Moves.refl _ _
  · refine Moves.step (State.raise_moves _ _ _ _ _ _ _) rfl ?_
    refine Moves.upd_key rfl ?_
    exact Moves.refl _ _

theorem execDpCommitKeyImport_ends (a0) (a1) (s : State) : Ends [.regs, .key, .hst, .evt, .nand, .fresh, .out, .blk 0x11, .blk 0x13] s (@execDpCommitKeyImport a0 a1 s) := by
  unfold execDpCommitKeyImport
  refine Ends.next ?_
  refine Moves.trans ?_ (State.commitRow_moves _ _ _ rfl (fun _ _ _ => ?_))
  · exact Moves.refl _ _
  · refine Moves.step (State.takeBatch_moves _ _ _ _) rfl ?_
    exact Moves.refl _ _

theorem execLaneDisable_ends (a0) (a1) (s : State) : Ends [.key, .out] s (@execLaneDisable a0 a1 s) := by
  unfold execLaneDisable
  refine Ends.next ?_
  refine State.writeRow_moves _ _ _ _ rfl ?_ ?_
  · refine Moves.step (State.laneEnEff_moves _ _) rfl ?_
    exact Moves.refl _ _
  · exact Moves.refl _ _

end Sys2Proof.Machine
end

