-- ==== Sys2Proof/Laws/LegalTime.lean ====
section
/-!
SUPPORT. How far each operation of Machine/LegalTime.lean can change the state.
-/

namespace Sys2Proof.Machine
open Sys2Proof

theorem State.latchOutage_moves (s : State) : Moves [.wrp, .slv, .par, .out] s (@State.latchOutage s) := by
  unfold State.latchOutage
  dsimp only
  refine Moves.step (State.journal_moves _ _ _) rfl ?_
  refine Moves.upd_wrp_slv rfl ?_
  exact Moves.refl _ _

theorem State.openHandoff_moves (s : State) : Moves [.wrp, .slv, .par, .out] s (@State.openHandoff s) := by
  unfold State.openHandoff
  refine Moves.ite (fun _ => ?_) (fun _ => ?_)
  · dsimp only
    refine Moves.ite (fun _ => ?_) (fun _ => ?_)
    · refine Moves.upd_slv rfl ?_
      exact Moves.refl _ _
    · refine Moves.step (State.latchOutage_moves _) rfl ?_
      refine Moves.upd_slv rfl ?_
      exact Moves.refl _ _
  · exact Moves.refl _ _

theorem State.forwardStep_moves (s : State) (a1) : Moves [.regs, .slv, .bem, .hst, .par, .evt, .nand, .out, .blk 0x0C, .blk 0x0F, .blk 0x11, .blk 0x13] s (@State.forwardStep s a1) := by
  unfold State.forwardStep
  dsimp only
  refine Moves.step (State.raise_moves _ _ _ _ _ _ _) rfl ?_
  refine Moves.step (State.boundaries_moves _ _) rfl ?_
  refine Moves.step (State.journal_moves _ _ _) rfl ?_
  exact Moves.refl _ _

theorem State.setback_moves (s : State) (a1) : Moves [.regs, .slv, .hst, .par, .evt, .nand, .out, .blk 0x0C, .blk 0x11, .blk 0x13] s (@State.setback s a1) := by
  unfold State.setback
  dsimp only
  refine Moves.step (State.raise_moves _ _ _ _ _ _ _) rfl ?_
  refine Moves.upd_slv rfl ?_
  refine Moves.ite (fun _ => ?_) (fun _ => ?_)
  · refine Moves.step (State.audit_moves _ _) rfl ?_
    refine Moves.step (State.journal_moves _ _ _) rfl ?_
    exact Moves.refl _ _
  · exact Moves.refl _ _

theorem State.legalTick_moves (s : State) (a1) : Moves [.regs, .tim, .wrp, .slv, .bem, .hst, .par, .evt, .nand, .out, .blk 0x0C, .blk 0x0F, .blk 0x11, .blk 0x13] s (@State.legalTick s a1) := by
  unfold State.legalTick
  dsimp only
  refine Moves.ite (fun _ => ?_) (fun _ => ?_)
  · refine Moves.upd_slv rfl ?_
    refine Moves.step (State.reach_moves _ _) rfl ?_
    exact Moves.refl _ _
  · refine Moves.ite (fun _ => ?_) (fun _ => ?_)
    · refine Moves.step (State.openHandoff_moves _) rfl ?_
      refine Moves.upd_slv rfl ?_
      refine Moves.step (State.reach_moves _ _) rfl ?_
      exact Moves.refl _ _
    · refine Moves.ite (fun _ => ?_) (fun _ => ?_)
      · refine Moves.step (State.openHandoff_moves _) rfl ?_
        refine Moves.step (State.setback_moves _ _) rfl ?_
        refine Moves.upd_slv rfl ?_
        refine Moves.step (State.reach_moves _ _) rfl ?_
        exact Moves.refl _ _
      · refine Moves.ite (fun _ => ?_) (fun _ => ?_)
        · refine Moves.step (State.openHandoff_moves _) rfl ?_
          refine Moves.upd_slv rfl ?_
          refine Moves.step (State.reach_moves _ _) rfl ?_
          exact Moves.refl _ _
        · refine Moves.ite (fun _ => ?_) (fun _ => ?_)
          · refine Moves.step (State.forwardStep_moves _ _) rfl ?_
            refine Moves.step (State.openHandoff_moves _) rfl ?_
            refine Moves.upd_slv rfl ?_
            refine Moves.step (State.reach_moves _ _) rfl ?_
            exact Moves.refl _ _
          · refine Moves.ite (fun _ => ?_) (fun _ => ?_)
            · refine Moves.step (State.journal_moves _ _ _) rfl ?_
              refine Moves.step (State.openHandoff_moves _) rfl ?_
              refine Moves.upd_slv rfl ?_
              refine Moves.step (State.reach_moves _ _) rfl ?_
              exact Moves.refl _ _
            · refine Moves.step (State.openHandoff_moves _) rfl ?_
              refine Moves.upd_slv rfl ?_
              refine Moves.step (State.reach_moves _ _) rfl ?_
              exact Moves.refl _ _

theorem execLegalTimeTick_ends (a0) (s : State) : Ends [.regs, .tim, .wrp, .slv, .bem, .hst, .par, .evt, .nand, .out, .blk 0x0C, .blk 0x0F, .blk 0x11, .blk 0x13] s (@execLegalTimeTick a0 s) := by
  unfold execLegalTimeTick
  refine Ends.ite (fun _ => ?_) (fun _ => ?_)
  · refine Ends.next ?_
    refine Moves.step (State.legalTick_moves _ _) rfl ?_
    exact Moves.refl _ _
  · refine Ends.next ?_
    refine Moves.step (State.reach_moves _ _) rfl ?_
    exact Moves.refl _ _

end Sys2Proof.Machine
end

