-- ==== Sys2Proof/Laws/Replay.lean ====
section
/-!
SUPPORT. How far each operation of Machine/Replay.lean can change the state.
-/

namespace Sys2Proof.Machine
open Sys2Proof

theorem State.auditDigest_moves (s : State) : Moves [.regs, .slv, .hst, .par, .evt, .nand, .out, .blk 0x0C, .blk 0x11, .blk 0x13] s (@State.auditDigest s) := by
  unfold State.auditDigest
  split
  · exact Moves.refl _ _
  · dsimp only
    refine Moves.upd_nand rfl ?_
    split
    · refine Moves.ite (fun _ => ?_) (fun _ => ?_)
      · exact Moves.refl _ _
      · refine Moves.step (State.audit_moves _ _) rfl ?_
        exact Moves.refl _ _
    · exact Moves.refl _ _

theorem State.loadLegal_moves (s : State) (a1) : Moves [.regs, .slv, .blk 0x0C] s (@State.loadLegal s a1).1 := by
  unfold State.loadLegal
  dsimp only
  refine Moves.upd_slv rfl ?_
  refine Moves.step (State.setReg_moves 12 _ _ _ rfl) rfl ?_
  exact Moves.refl _ _

theorem State.startCauses_moves (s : State) (a1) (a2) : Moves [.regs, .slv, .hst, .par, .evt, .nand, .out, .blk 0x0C, .blk 0x11, .blk 0x13] s (@State.startCauses s a1 a2) := by
  unfold State.startCauses
  dsimp only
  refine Moves.ite (fun _ => ?_) (fun _ => ?_)
  · refine Moves.step (State.setCause_moves _ _) rfl ?_
    refine Moves.ite (fun _ => ?_) (fun _ => ?_)
    · refine Moves.step (State.setCause_moves _ _) rfl ?_
      refine Moves.foldl _ _ (fun _ _ => ?_) ?_
      · refine Moves.ite (fun _ => ?_) (fun _ => ?_)
        · refine Moves.step (State.setCause_moves _ _) rfl ?_
          exact Moves.refl _ _
        · exact Moves.refl _ _
      · refine Moves.ite (fun _ => ?_) (fun _ => ?_)
        · refine Moves.step (State.raise_moves _ _ _ _ _ _ _) rfl ?_
          refine Moves.ite (fun _ => ?_) (fun _ => ?_)
          · refine Moves.step (State.raise_moves _ _ _ _ _ _ _) rfl ?_
            refine Moves.ite (fun _ => ?_) (fun _ => ?_)
            · refine Moves.step (State.raise_moves _ _ _ _ _ _ _) rfl ?_
              refine Moves.ite (fun _ => ?_) (fun _ => ?_)
              · refine Moves.step (State.raise_moves _ _ _ _ _ _ _) rfl ?_
                refine Moves.foldl _ _ (fun _ _ => ?_) ?_
                · refine Moves.ite (fun _ => ?_) (fun _ => ?_)
                  · refine Moves.step (State.raise_moves _ _ _ _ _ _ _) rfl ?_
                    exact Moves.refl _ _
                  · exact Moves.refl _ _
                · refine Moves.foldl _ _ (fun _ _ => ?_) ?_
                  · refine Moves.ite (fun _ => ?_) (fun _ => ?_)
                    · refine Moves.step (State.clearCause_moves _ _) rfl ?_
                      exact Moves.refl _ _
                    · exact Moves.refl _ _
                  · exact Moves.refl _ _
              · refine Moves.foldl _ _ (fun _ _ => ?_) ?_
                · refine Moves.ite (fun _ => ?_) (fun _ => ?_)
                  · refine Moves.step (State.raise_moves _ _ _ _ _ _ _) rfl ?_
                    exact Moves.refl _ _
                  · exact Moves.refl _ _
                · refine Moves.foldl _ _ (fun _ _ => ?_) ?_
                  · refine Moves.ite (fun _ => ?_) (fun _ => ?_)
                    · refine Moves.step (State.clearCause_moves _ _) rfl ?_
                      exact Moves.refl _ _
                    · exact Moves.refl _ _
                  · exact Moves.refl _ _
            · refine Moves.ite (fun _ => ?_) (fun _ => ?_)
              · refine Moves.step (State.raise_moves _ _ _ _ _ _ _) rfl ?_
                refine Moves.foldl _ _ (fun _ _ => ?_) ?_
                · refine Moves.ite (fun _ => ?_) (fun _ => ?_)
                  · refine Moves.step (State.raise_moves _ _ _ _ _ _ _) rfl ?_
                    exact Moves.refl _ _
                  · exact Moves.refl _ _
                · refine Moves.foldl _ _ (fun _ _ => ?_) ?_
                  · refine Moves.ite (fun _ => ?_) (fun _ => ?_)
                    · refine Moves.step (State.clearCause_moves _ _) rfl ?_
                      exact Moves.refl _ _
                    · exact Moves.refl _ _
                  · exact Moves.refl _ _
              · refine Moves.foldl _ _ (fun _ _ => ?_) ?_
                · refine Moves.ite (fun _ => ?_) (fun _ => ?_)
                  · refine Moves.step (State.raise_moves _ _ _ _ _ _ _) rfl ?_
                    exact Moves.refl _ _
                  · exact Moves.refl _ _
                · refine Moves.foldl _ _ (fun _ _ => ?_) ?_
                  · refine Moves.ite (fun _ => ?_) (fun _ => ?_)
                    · refine Moves.step (State.clearCause_moves _ _) rfl ?_
                      exact Moves.refl _ _
                    · exact Moves.refl _ _
                  · exact Moves.refl _ _
          · refine Moves.ite (fun _ => ?_) (fun _ => ?_)
            · refine Moves.step (State.raise_moves _ _ _ _ _ _ _) rfl ?_
              refine Moves.ite (fun _ => ?_) (fun _ => ?_)
              · refine Moves.step (State.raise_moves _ _ _ _ _ _ _) rfl ?_
                refine Moves.foldl _ _ (fun _ _ => ?_) ?_
                · refine Moves.ite (fun _ => ?_) (fun _ => ?_)
                  · refine Moves.step (State.raise_moves _ _ _ _ _ _ _) rfl ?_
                    exact Moves.refl _ _
                  · exact Moves.refl _ _
                · refine Moves.foldl _ _ (fun _ _ => ?_) ?_
                  · refine Moves.ite (fun _ => ?_) (fun _ => ?_)
                    · refine Moves.step (State.clearCause_moves _ _) rfl ?_
                      exact Moves.refl _ _
                    · exact Moves.refl _ _
                  · exact Moves.refl _ _
              · refine Moves.foldl _ _ (fun _ _ => ?_) ?_
                · refine Moves.ite (fun _ => ?_) (fun _ => ?_)
                  · refine Moves.step (State.raise_moves _ _ _ _ _ _ _) rfl ?_
                    exact Moves.refl _ _
                  · exact Moves.refl _ _
                · refine Moves.foldl _ _ (fun _ _ => ?_) ?_
                  · refine Moves.ite (fun _ => ?_) (fun _ => ?_)
                    · refine Moves.step (State.clearCause_moves _ _) rfl ?_
                      exact Moves.refl _ _
                    · exact Moves.refl _ _
                  · exact Moves.refl _ _
            · refine Moves.ite (fun _ => ?_) (fun _ => ?_)
              · refine Moves.step (State.raise_moves _ _ _ _ _ _ _) rfl ?_
                refine Moves.foldl _ _ (fun _ _ => ?_) ?_
                · refine Moves.ite (fun _ => ?_) (fun _ => ?_)
                  · refine Moves.step (State.raise_moves _ _ _ _ _ _ _) rfl ?_
                    exact Moves.refl _ _
                  · exact Moves.refl _ _
                · refine Moves.foldl _ _ (fun _ _ => ?_) ?_
                  · refine Moves.ite (fun _ => ?_) (fun _ => ?_)
                    · refine Moves.step (State.clearCause_moves _ _) rfl ?_
                      exact Moves.refl _ _
                    · exact Moves.refl _ _
                  · exact Moves.refl _ _
              · refine Moves.foldl _ _ (fun _ _ => ?_) ?_
                · refine Moves.ite (fun _ => ?_) (fun _ => ?_)
                  · refine Moves.step (State.raise_moves _ _ _ _ _ _ _) rfl ?_
                    exact Moves.refl _ _
                  · exact Moves.refl _ _
                · refine Moves.foldl _ _ (fun _ _ => ?_) ?_
                  · refine Moves.ite (fun _ => ?_) (fun _ => ?_)
                    · refine Moves.step (State.clearCause_moves _ _) rfl ?_
                      exact Moves.refl _ _
                    · exact Moves.refl _ _
                  · exact Moves.refl _ _
        · refine Moves.ite (fun _ => ?_) (fun _ => ?_)
          · refine Moves.step (State.raise_moves _ _ _ _ _ _ _) rfl ?_
            refine Moves.ite (fun _ => ?_) (fun _ => ?_)
            · refine Moves.step (State.raise_moves _ _ _ _ _ _ _) rfl ?_
              refine Moves.ite (fun _ => ?_) (fun _ => ?_)
              · refine Moves.step (State.raise_moves _ _ _ _ _ _ _) rfl ?_
                refine Moves.foldl _ _ (fun _ _ => ?_) ?_
                · refine Moves.ite (fun _ => ?_) (fun _ => ?_)
                  · refine Moves.step (State.raise_moves _ _ _ _ _ _ _) rfl ?_
                    exact Moves.refl _ _
                  · exact Moves.refl _ _
                · refine Moves.foldl _ _ (fun _ _ => ?_) ?_
                  · refine Moves.ite (fun _ => ?_) (fun _ => ?_)
                    · refine Moves.step (State.clearCause_moves _ _) rfl ?_
                      exact Moves.refl _ _
                    · exact Moves.refl _ _
                  · exact Moves.refl _ _
              · refine Moves.foldl _ _ (fun _ _ => ?_) ?_
                · refine Moves.ite (fun _ => ?_) (fun _ => ?_)
                  · refine Moves.step (State.raise_moves _ _ _ _ _ _ _) rfl ?_
                    exact Moves.refl _ _
                  · exact Moves.refl _ _
                · refine Moves.foldl _ _ (fun _ _ => ?_) ?_
                  · refine Moves.ite (fun _ => ?_) (fun _ => ?_)
                    · refine Moves.step (State.clearCause_moves _ _) rfl ?_
                      exact Moves.refl _ _
                    · exact Moves.refl _ _
                  · exact Moves.refl _ _
            · refine Moves.ite (fun _ => ?_) (fun _ => ?_)
              · refine Moves.step (State.raise_moves _ _ _ _ _ _ _) rfl ?_
                refine Moves.foldl _ _ (fun _ _ => ?_) ?_
                · refine Moves.ite (fun _ => ?_) (fun _ => ?_)
                  · refine Moves.step (State.raise_moves _ _ _ _ _ _ _) rfl ?_
                    exact Moves.refl _ _
                  · exact Moves.refl _ _
                · refine Moves.foldl _ _ (fun _ _ => ?_) ?_
                  · refine Moves.ite (fun _ => ?_) (fun _ => ?_)
                    · refine Moves.step (State.clearCause_moves _ _) rfl ?_
                      exact Moves.refl _ _
                    · exact Moves.refl _ _
                  · exact Moves.refl _ _
              · refine Moves.foldl _ _ (fun _ _ => ?_) ?_
                · refine Moves.ite (fun _ => ?_) (fun _ => ?_)
                  · refine Moves.step (State.raise_moves _ _ _ _ _ _ _) rfl ?_
                    exact Moves.refl _ _
                  · exact Moves.refl _ _
                · refine Moves.foldl _ _ (fun _ _ => ?_) ?_
                  · refine Moves.ite (fun _ => ?_) (fun _ => ?_)
                    · refine Moves.step (State.clearCause_moves _ _) rfl ?_
                      exact Moves.refl _ _
                    · exact Moves.refl _ _
                  · exact Moves.refl _ _
          · refine Moves.ite (fun _ => ?_) (fun _ => ?_)
            · refine Moves.step (State.raise_moves _ _ _ _ _ _ _) rfl ?_
              refine Moves.ite (fun _ => ?_) (fun _ => ?_)
              · refine Moves.step (State.raise_moves _ _ _ _ _ _ _) rfl ?_
                refine Moves.foldl _ _ (fun _ _ => ?_) ?_
                · refine Moves.ite (fun _ => ?_) (fun _ => ?_)
                  · refine Moves.step (State.raise_moves _ _ _ _ _ _ _) rfl ?_
                    exact Moves.refl _ _
                  · exact Moves.refl _ _
                · refine Moves.foldl _ _ (fun _ _ => ?_) ?_
                  · refine Moves.ite (fun _ => ?_) (fun _ => ?_)
                    · refine Moves.step (State.clearCause_moves _ _) rfl ?_
                      exact Moves.refl _ _
                    · exact Moves.refl _ _
                  · exact Moves.refl _ _
              · refine Moves.foldl _ _ (fun _ _ => ?_) ?_
                · refine Moves.ite (fun _ => ?_) (fun _ => ?_)
                  · refine Moves.step (State.raise_moves _ _ _ _ _ _ _) rfl ?_
                    exact Moves.refl _ _
                  · exact Moves.refl _ _
                · refine Moves.foldl _ _ (fun _ _ => ?_) ?_
                  · refine Moves.ite (fun _ => ?_) (fun _ => ?_)
                    · refine Moves.step (State.clearCause_moves _ _) rfl ?_
                      exact Moves.refl _ _
                    · exact Moves.refl _ _
                  · exact Moves.refl _ _
            · refine Moves.ite (fun _ => ?_) (fun _ => ?_)
              · refine Moves.step (State.raise_moves _ _ _ _ _ _ _) rfl ?_
                refine Moves.foldl _ _ (fun _ _ => ?_) ?_
                · refine Moves.ite (fun _ => ?_) (fun _ => ?_)
                  · refine Moves.step (State.raise_moves _ _ _ _ _ _ _) rfl ?_
                    exact Moves.refl _ _
                  · exact Moves.refl _ _
                · refine Moves.foldl _ _ (fun _ _ => ?_) ?_
                  · refine Moves.ite (fun _ => ?_) (fun _ => ?_)
                    · refine Moves.step (State.clearCause_moves _ _) rfl ?_
                      exact Moves.refl _ _
                    · exact Moves.refl _ _
                  · exact Moves.refl _ _
              · refine Moves.foldl _ _ (fun _ _ => ?_) ?_
                · refine Moves.ite (fun _ => ?_) (fun _ => ?_)
                  · refine Moves.step (State.raise_moves _ _ _ _ _ _ _) rfl ?_
                    exact Moves.refl _ _
                  · exact Moves.refl _ _
                · refine Moves.foldl _ _ (fun _ _ => ?_) ?_
                  · refine Moves.ite (fun _ => ?_) (fun _ => ?_)
                    · refine Moves.step (State.clearCause_moves _ _) rfl ?_
                      exact Moves.refl _ _
                    · exact Moves.refl _ _
                  · exact Moves.refl _ _
    · refine Moves.foldl _ _ (fun _ _ => ?_) ?_
      · refine Moves.ite (fun _ => ?_) (fun _ => ?_)
        · refine Moves.step (State.setCause_moves _ _) rfl ?_
          exact Moves.refl _ _
        · exact Moves.refl _ _
      · refine Moves.ite (fun _ => ?_) (fun _ => ?_)
        · refine Moves.step (State.raise_moves _ _ _ _ _ _ _) rfl ?_
          refine Moves.ite (fun _ => ?_) (fun _ => ?_)
          · refine Moves.step (State.raise_moves _ _ _ _ _ _ _) rfl ?_
            refine Moves.ite (fun _ => ?_) (fun _ => ?_)
            · refine Moves.step (State.raise_moves _ _ _ _ _ _ _) rfl ?_
              refine Moves.ite (fun _ => ?_) (fun _ => ?_)
              · refine Moves.step (State.raise_moves _ _ _ _ _ _ _) rfl ?_
                refine Moves.foldl _ _ (fun _ _ => ?_) ?_
                · refine Moves.ite (fun _ => ?_) (fun _ => ?_)
                  · refine Moves.step (State.raise_moves _ _ _ _ _ _ _) rfl ?_
                    exact Moves.refl _ _
                  · exact Moves.refl _ _
                · refine Moves.foldl _ _ (fun _ _ => ?_) ?_
                  · refine Moves.ite (fun _ => ?_) (fun _ => ?_)
                    · refine Moves.step (State.clearCause_moves _ _) rfl ?_
                      exact Moves.refl _ _
                    · exact Moves.refl _ _
                  · exact Moves.refl _ _
              · refine Moves.foldl _ _ (fun _ _ => ?_) ?_
                · refine Moves.ite (fun _ => ?_) (fun _ => ?_)
                  · refine Moves.step (State.raise_moves _ _ _ _ _ _ _) rfl ?_
                    exact Moves.refl _ _
                  · exact Moves.refl _ _
                · refine Moves.foldl _ _ (fun _ _ => ?_) ?_
                  · refine Moves.ite (fun _ => ?_) (fun _ => ?_)
                    · refine Moves.step (State.clearCause_moves _ _) rfl ?_
                      exact Moves.refl _ _
                    · exact Moves.refl _ _
                  · exact Moves.refl _ _
            · refine Moves.ite (fun _ => ?_) (fun _ => ?_)
              · refine Moves.step (State.raise_moves _ _ _ _ _ _ _) rfl ?_
                refine Moves.foldl _ _ (fun _ _ => ?_) ?_
                · refine Moves.ite (fun _ => ?_) (fun _ => ?_)
                  · refine Moves.step (State.raise_moves _ _ _ _ _ _ _) rfl ?_
                    exact Moves.refl _ _
                  · exact Moves.refl _ _
                · refine Moves.foldl _ _ (fun _ _ => ?_) ?_
                  · refine Moves.ite (fun _ => ?_) (fun _ => ?_)
                    · refine Moves.step (State.clearCause_moves _ _) rfl ?_
                      exact Moves.refl _ _
                    · exact Moves.refl _ _
                  · exact Moves.refl _ _
              · refine Moves.foldl _ _ (fun _ _ => ?_) ?_
                · refine Moves.ite (fun _ => ?_) (fun _ => ?_)
                  · refine Moves.step (State.raise_moves _ _ _ _ _ _ _) rfl ?_
                    exact Moves.refl _ _
                  · exact Moves.refl _ _
                · refine Moves.foldl _ _ (fun _ _ => ?_) ?_
                  · refine Moves.ite (fun _ => ?_) (fun _ => ?_)
                    · refine Moves.step (State.clearCause_moves _ _) rfl ?_
                      exact Moves.refl _ _
                    · exact Moves.refl _ _
                  · exact Moves.refl _ _
          · refine Moves.ite (fun _ => ?_) (fun _ => ?_)
            · refine Moves.step (State.raise_moves _ _ _ _ _ _ _) rfl ?_
              refine Moves.ite (fun _ => ?_) (fun _ => ?_)
              · refine Moves.step (State.raise_moves _ _ _ _ _ _ _) rfl ?_
                refine Moves.foldl _ _ (fun _ _ => ?_) ?_
                · refine Moves.ite (fun _ => ?_) (fun _ => ?_)
                  · refine Moves.step (State.raise_moves _ _ _ _ _ _ _) rfl ?_
                    exact Moves.refl _ _
                  · exact Moves.refl _ _
                · refine Moves.foldl _ _ (fun _ _ => ?_) ?_
                  · refine Moves.ite (fun _ => ?_) (fun _ => ?_)
                    · refine Moves.step (State.clearCause_moves _ _) rfl ?_
                      exact Moves.refl _ _
                    · exact Moves.refl _ _
                  · exact Moves.refl _ _
              · refine Moves.foldl _ _ (fun _ _ => ?_) ?_
                · refine Moves.ite (fun _ => ?_) (fun _ => ?_)
                  · refine Moves.step (State.raise_moves _ _ _ _ _ _ _) rfl ?_
                    exact Moves.refl _ _
                  · exact Moves.refl _ _
                · refine Moves.foldl _ _ (fun _ _ => ?_) ?_
                  · refine Moves.ite (fun _ => ?_) (fun _ => ?_)
                    · refine Moves.step (State.clearCause_moves _ _) rfl ?_
                      exact Moves.refl _ _
                    · exact Moves.refl _ _
                  · exact Moves.refl _ _
            · refine Moves.ite (fun _ => ?_) (fun _ => ?_)
              · refine Moves.step (State.raise_moves _ _ _ _ _ _ _) rfl ?_
                refine Moves.foldl _ _ (fun _ _ => ?_) ?_
                · refine Moves.ite (fun _ => ?_) (fun _ => ?_)
                  · refine Moves.step (State.raise_moves _ _ _ _ _ _ _) rfl ?_
                    exact Moves.refl _ _
                  · exact Moves.refl _ _
                · refine Moves.foldl _ _ (fun _ _ => ?_) ?_
                  · refine Moves.ite (fun _ => ?_) (fun _ => ?_)
                    · refine Moves.step (State.clearCause_moves _ _) rfl ?_
                      exact Moves.refl _ _
                    · exact Moves.refl _ _
                  · exact Moves.refl _ _
              · refine Moves.foldl _ _ (fun _ _ => ?_) ?_
                · refine Moves.ite (fun _ => ?_) (fun _ => ?_)
                  · refine Moves.step (State.raise_moves _ _ _ _ _ _ _) rfl ?_
                    exact Moves.refl _ _
                  · exact Moves.refl _ _
                · refine Moves.foldl _ _ (fun _ _ => ?_) ?_
                  · refine Moves.ite (fun _ => ?_) (fun _ => ?_)
                    · refine Moves.step (State.clearCause_moves _ _) rfl ?_
                      exact Moves.refl _ _
                    · exact Moves.refl _ _
                  · exact Moves.refl _ _
        · refine Moves.ite (fun _ => ?_) (fun _ => ?_)
          · refine Moves.step (State.raise_moves _ _ _ _ _ _ _) rfl ?_
            refine Moves.ite (fun _ => ?_) (fun _ => ?_)
            · refine Moves.step (State.raise_moves _ _ _ _ _ _ _) rfl ?_
              refine Moves.ite (fun _ => ?_) (fun _ => ?_)
              · refine Moves.step (State.raise_moves _ _ _ _ _ _ _) rfl ?_
                refine Moves.foldl _ _ (fun _ _ => ?_) ?_
                · refine Moves.ite (fun _ => ?_) (fun _ => ?_)
                  · refine Moves.step (State.raise_moves _ _ _ _ _ _ _) rfl ?_
                    exact Moves.refl _ _
                  · exact Moves.refl _ _
                · refine Moves.foldl _ _ (fun _ _ => ?_) ?_
                  · refine Moves.ite (fun _ => ?_) (fun _ => ?_)
                    · refine Moves.step (State.clearCause_moves _ _) rfl ?_
                      exact Moves.refl _ _
                    · exact Moves.refl _ _
                  · exact Moves.refl _ _
              · refine Moves.foldl _ _ (fun _ _ => ?_) ?_
                · refine Moves.ite (fun _ => ?_) (fun _ => ?_)
                  · refine Moves.step (State.raise_moves _ _ _ _ _ _ _) rfl ?_
                    exact Moves.refl _ _
                  · exact Moves.refl _ _
                · refine Moves.foldl _ _ (fun _ _ => ?_) ?_
                  · refine Moves.ite (fun _ => ?_) (fun _ => ?_)
                    · refine Moves.step (State.clearCause_moves _ _) rfl ?_
                      exact Moves.refl _ _
                    · exact Moves.refl _ _
                  · exact Moves.refl _ _
            · refine Moves.ite (fun _ => ?_) (fun _ => ?_)
              · refine Moves.step (State.raise_moves _ _ _ _ _ _ _) rfl ?_
                refine Moves.foldl _ _ (fun _ _ => ?_) ?_
                · refine Moves.ite (fun _ => ?_) (fun _ => ?_)
                  · refine Moves.step (State.raise_moves _ _ _ _ _ _ _) rfl ?_
                    exact Moves.refl _ _
                  · exact Moves.refl _ _
                · refine Moves.foldl _ _ (fun _ _ => ?_) ?_
                  · refine Moves.ite (fun _ => ?_) (fun _ => ?_)
                    · refine Moves.step (State.clearCause_moves _ _) rfl ?_
                      exact Moves.refl _ _
                    · exact Moves.refl _ _
                  · exact Moves.refl _ _
              · refine Moves.foldl _ _ (fun _ _ => ?_) ?_
                · refine Moves.ite (fun _ => ?_) (fun _ => ?_)
                  · refine Moves.step (State.raise_moves _ _ _ _ _ _ _) rfl ?_
                    exact Moves.refl _ _
                  · exact Moves.refl _ _
                · refine Moves.foldl _ _ (fun _ _ => ?_) ?_
                  · refine Moves.ite (fun _ => ?_) (fun _ => ?_)
                    · refine Moves.step (State.clearCause_moves _ _) rfl ?_
                      exact Moves.refl _ _
                    · exact Moves.refl _ _
                  · exact Moves.refl _ _
          · refine Moves.ite (fun _ => ?_) (fun _ => ?_)
            · refine Moves.step (State.raise_moves _ _ _ _ _ _ _) rfl ?_
              refine Moves.ite (fun _ => ?_) (fun _ => ?_)
              · refine Moves.step (State.raise_moves _ _ _ _ _ _ _) rfl ?_
                refine Moves.foldl _ _ (fun _ _ => ?_) ?_
                · refine Moves.ite (fun _ => ?_) (fun _ => ?_)
                  · refine Moves.step (State.raise_moves _ _ _ _ _ _ _) rfl ?_
                    exact Moves.refl _ _
                  · exact Moves.refl _ _
                · refine Moves.foldl _ _ (fun _ _ => ?_) ?_
                  · refine Moves.ite (fun _ => ?_) (fun _ => ?_)
                    · refine Moves.step (State.clearCause_moves _ _) rfl ?_
                      exact Moves.refl _ _
                    · exact Moves.refl _ _
                  · exact Moves.refl _ _
              · refine Moves.foldl _ _ (fun _ _ => ?_) ?_
                · refine Moves.ite (fun _ => ?_) (fun _ => ?_)
                  · refine Moves.step (State.raise_moves _ _ _ _ _ _ _) rfl ?_
                    exact Moves.refl _ _
                  · exact Moves.refl _ _
                · refine Moves.foldl _ _ (fun _ _ => ?_) ?_
                  · refine Moves.ite (fun _ => ?_) (fun _ => ?_)
                    · refine Moves.step (State.clearCause_moves _ _) rfl ?_
                      exact Moves.refl _ _
                    · exact Moves.refl _ _
                  · exact Moves.refl _ _
            · refine Moves.ite (fun _ => ?_) (fun _ => ?_)
              · refine Moves.step (State.raise_moves _ _ _ _ _ _ _) rfl ?_
                refine Moves.foldl _ _ (fun _ _ => ?_) ?_
                · refine Moves.ite (fun _ => ?_) (fun _ => ?_)
                  · refine Moves.step (State.raise_moves _ _ _ _ _ _ _) rfl ?_
                    exact Moves.refl _ _
                  · exact Moves.refl _ _
                · refine Moves.foldl _ _ (fun _ _ => ?_) ?_
                  · refine Moves.ite (fun _ => ?_) (fun _ => ?_)
                    · refine Moves.step (State.clearCause_moves _ _) rfl ?_
                      exact Moves.refl _ _
                    · exact Moves.refl _ _
                  · exact Moves.refl _ _
              · refine Moves.foldl _ _ (fun _ _ => ?_) ?_
                · refine Moves.ite (fun _ => ?_) (fun _ => ?_)
                  · refine Moves.step (State.raise_moves _ _ _ _ _ _ _) rfl ?_
                    exact Moves.refl _ _
                  · exact Moves.refl _ _
                · refine Moves.foldl _ _ (fun _ _ => ?_) ?_
                  · refine Moves.ite (fun _ => ?_) (fun _ => ?_)
                    · refine Moves.step (State.clearCause_moves _ _) rfl ?_
                      exact Moves.refl _ _
                    · exact Moves.refl _ _
                  · exact Moves.refl _ _
  · refine Moves.ite (fun _ => ?_) (fun _ => ?_)
    · refine Moves.step (State.setCause_moves _ _) rfl ?_
      refine Moves.foldl _ _ (fun _ _ => ?_) ?_
      · refine Moves.ite (fun _ => ?_) (fun _ => ?_)
        · refine Moves.step (State.setCause_moves _ _) rfl ?_
          exact Moves.refl _ _
        · exact Moves.refl _ _
      · refine Moves.ite (fun _ => ?_) (fun _ => ?_)
        · refine Moves.step (State.raise_moves _ _ _ _ _ _ _) rfl ?_
          refine Moves.ite (fun _ => ?_) (fun _ => ?_)
          · refine Moves.step (State.raise_moves _ _ _ _ _ _ _) rfl ?_
            refine Moves.ite (fun _ => ?_) (fun _ => ?_)
            · refine Moves.step (State.raise_moves _ _ _ _ _ _ _) rfl ?_
              refine Moves.ite (fun _ => ?_) (fun _ => ?_)
              · refine Moves.step (State.raise_moves _ _ _ _ _ _ _) rfl ?_
                refine Moves.foldl _ _ (fun _ _ => ?_) ?_
                · refine Moves.ite (fun _ => ?_) (fun _ => ?_)
                  · refine Moves.step (State.raise_moves _ _ _ _ _ _ _) rfl ?_
                    exact Moves.refl _ _
                  · exact Moves.refl _ _
                · refine Moves.foldl _ _ (fun _ _ => ?_) ?_
                  · refine Moves.ite (fun _ => ?_) (fun _ => ?_)
                    · refine Moves.step (State.clearCause_moves _ _) rfl ?_
                      exact Moves.refl _ _
                    · exact Moves.refl _ _
                  · exact Moves.refl _ _
              · refine Moves.foldl _ _ (fun _ _ => ?_) ?_
                · refine Moves.ite (fun _ => ?_) (fun _ => ?_)
                  · refine Moves.step (State.raise_moves _ _ _ _ _ _ _) rfl ?_
                    exact Moves.refl _ _
                  · exact Moves.refl _ _
                · refine Moves.foldl _ _ (fun _ _ => ?_) ?_
                  · refine Moves.ite (fun _ => ?_) (fun _ => ?_)
                    · refine Moves.step (State.clearCause_moves _ _) rfl ?_
                      exact Moves.refl _ _
                    · exact Moves.refl _ _
                  · exact Moves.refl _ _
            · refine Moves.ite (fun _ => ?_) (fun _ => ?_)
              · refine Moves.step (State.raise_moves _ _ _ _ _ _ _) rfl ?_
                refine Moves.foldl _ _ (fun _ _ => ?_) ?_
                · refine Moves.ite (fun _ => ?_) (fun _ => ?_)
                  · refine Moves.step (State.raise_moves _ _ _ _ _ _ _) rfl ?_
                    exact Moves.refl _ _
                  · exact Moves.refl _ _
                · refine Moves.foldl _ _ (fun _ _ => ?_) ?_
                  · refine Moves.ite (fun _ => ?_) (fun _ => ?_)
                    · refine Moves.step (State.clearCause_moves _ _) rfl ?_
                      exact Moves.refl _ _
                    · exact Moves.refl _ _
                  · exact Moves.refl _ _
              · refine Moves.foldl _ _ (fun _ _ => ?_) ?_
                · refine Moves.ite (fun _ => ?_) (fun _ => ?_)
                  · refine Moves.step (State.raise_moves _ _ _ _ _ _ _) rfl ?_
                    exact Moves.refl _ _
                  · exact Moves.refl _ _
                · refine Moves.foldl _ _ (fun _ _ => ?_) ?_
                  · refine Moves.ite (fun _ => ?_) (fun _ => ?_)
                    · refine Moves.step (State.clearCause_moves _ _) rfl ?_
                      exact Moves.refl _ _
                    · exact Moves.refl _ _
                  · exact Moves.refl _ _
          · refine Moves.ite (fun _ => ?_) (fun _ => ?_)
            · refine Moves.step (State.raise_moves _ _ _ _ _ _ _) rfl ?_
              refine Moves.ite (fun _ => ?_) (fun _ => ?_)
              · refine Moves.step (State.raise_moves _ _ _ _ _ _ _) rfl ?_
                refine Moves.foldl _ _ (fun _ _ => ?_) ?_
                · refine Moves.ite (fun _ => ?_) (fun _ => ?_)
                  · refine Moves.step (State.raise_moves _ _ _ _ _ _ _) rfl ?_
                    exact Moves.refl _ _
                  · exact Moves.refl _ _
                · refine Moves.foldl _ _ (fun _ _ => ?_) ?_
                  · refine Moves.ite (fun _ => ?_) (fun _ => ?_)
                    · refine Moves.step (State.clearCause_moves _ _) rfl ?_
                      exact Moves.refl _ _
                    · exact Moves.refl _ _
                  · exact Moves.refl _ _
              · refine Moves.foldl _ _ (fun _ _ => ?_) ?_
                · refine Moves.ite (fun _ => ?_) (fun _ => ?_)
                  · refine Moves.step (State.raise_moves _ _ _ _ _ _ _) rfl ?_
                    exact Moves.refl _ _
                  · exact Moves.refl _ _
                · refine Moves.foldl _ _ (fun _ _ => ?_) ?_
                  · refine Moves.ite (fun _ => ?_) (fun _ => ?_)
                    · refine Moves.step (State.clearCause_moves _ _) rfl ?_
                      exact Moves.refl _ _
                    · exact Moves.refl _ _
                  · exact Moves.refl _ _
            · refine Moves.ite (fun _ => ?_) (fun _ => ?_)
              · refine Moves.step (State.raise_moves _ _ _ _ _ _ _) rfl ?_
                refine Moves.foldl _ _ (fun _ _ => ?_) ?_
                · refine Moves.ite (fun _ => ?_) (fun _ => ?_)
                  · refine Moves.step (State.raise_moves _ _ _ _ _ _ _) rfl ?_
                    exact Moves.refl _ _
                  · exact Moves.refl _ _
                · refine Moves.foldl _ _ (fun _ _ => ?_) ?_
                  · refine Moves.ite (fun _ => ?_) (fun _ => ?_)
                    · refine Moves.step (State.clearCause_moves _ _) rfl ?_
                      exact Moves.refl _ _
                    · exact Moves.refl _ _
                  · exact Moves.refl _ _
              · refine Moves.foldl _ _ (fun _ _ => ?_) ?_
                · refine Moves.ite (fun _ => ?_) (fun _ => ?_)
                  · refine Moves.step (State.raise_moves _ _ _ _ _ _ _) rfl ?_
                    exact Moves.refl _ _
                  · exact Moves.refl _ _
                · refine Moves.foldl _ _ (fun _ _ => ?_) ?_
                  · refine Moves.ite (fun _ => ?_) (fun _ => ?_)
                    · refine Moves.step (State.clearCause_moves _ _) rfl ?_
                      exact Moves.refl _ _
                    · exact Moves.refl _ _
                  · exact Moves.refl _ _
        · refine Moves.ite (fun _ => ?_) (fun _ => ?_)
          · refine Moves.step (State.raise_moves _ _ _ _ _ _ _) rfl ?_
            refine Moves.ite (fun _ => ?_) (fun _ => ?_)
            · refine Moves.step (State.raise_moves _ _ _ _ _ _ _) rfl ?_
              refine Moves.ite (fun _ => ?_) (fun _ => ?_)
              · refine Moves.step (State.raise_moves _ _ _ _ _ _ _) rfl ?_
                refine Moves.foldl _ _ (fun _ _ => ?_) ?_
                · refine Moves.ite (fun _ => ?_) (fun _ => ?_)
                  · refine Moves.step (State.raise_moves _ _ _ _ _ _ _) rfl ?_
                    exact Moves.refl _ _
                  · exact Moves.refl _ _
                · refine Moves.foldl _ _ (fun _ _ => ?_) ?_
                  · refine Moves.ite (fun _ => ?_) (fun _ => ?_)
                    · refine Moves.step (State.clearCause_moves _ _) rfl ?_
                      exact Moves.refl _ _
                    · exact Moves.refl _ _
                  · exact Moves.refl _ _
              · refine Moves.foldl _ _ (fun _ _ => ?_) ?_
                · refine Moves.ite (fun _ => ?_) (fun _ => ?_)
                  · refine Moves.step (State.raise_moves _ _ _ _ _ _ _) rfl ?_
                    exact Moves.refl _ _
                  · exact Moves.refl _ _
                · refine Moves.foldl _ _ (fun _ _ => ?_) ?_
                  · refine Moves.ite (fun _ => ?_) (fun _ => ?_)
                    · refine Moves.step (State.clearCause_moves _ _) rfl ?_
                      exact Moves.refl _ _
                    · exact Moves.refl _ _
                  · exact Moves.refl _ _
            · refine Moves.ite (fun _ => ?_) (fun _ => ?_)
              · refine Moves.step (State.raise_moves _ _ _ _ _ _ _) rfl ?_
                refine Moves.foldl _ _ (fun _ _ => ?_) ?_
                · refine Moves.ite (fun _ => ?_) (fun _ => ?_)
                  · refine Moves.step (State.raise_moves _ _ _ _ _ _ _) rfl ?_
                    exact Moves.refl _ _
                  · exact Moves.refl _ _
                · refine Moves.foldl _ _ (fun _ _ => ?_) ?_
                  · refine Moves.ite (fun _ => ?_) (fun _ => ?_)
                    · refine Moves.step (State.clearCause_moves _ _) rfl ?_
                      exact Moves.refl _ _
                    · exact Moves.refl _ _
                  · exact Moves.refl _ _
              · refine Moves.foldl _ _ (fun _ _ => ?_) ?_
                · refine Moves.ite (fun _ => ?_) (fun _ => ?_)
                  · refine Moves.step (State.raise_moves _ _ _ _ _ _ _) rfl ?_
                    exact Moves.refl _ _
                  · exact Moves.refl _ _
                · refine Moves.foldl _ _ (fun _ _ => ?_) ?_
                  · refine Moves.ite (fun _ => ?_) (fun _ => ?_)
                    · refine Moves.step (State.clearCause_moves _ _) rfl ?_
                      exact Moves.refl _ _
                    · exact Moves.refl _ _
                  · exact Moves.refl _ _
          · refine Moves.ite (fun _ => ?_) (fun _ => ?_)
            · refine Moves.step (State.raise_moves _ _ _ _ _ _ _) rfl ?_
              refine Moves.ite (fun _ => ?_) (fun _ => ?_)
              · refine Moves.step (State.raise_moves _ _ _ _ _ _ _) rfl ?_
                refine Moves.foldl _ _ (fun _ _ => ?_) ?_
                · refine Moves.ite (fun _ => ?_) (fun _ => ?_)
                  · refine Moves.step (State.raise_moves _ _ _ _ _ _ _) rfl ?_
                    exact Moves.refl _ _
                  · exact Moves.refl _ _
                · refine Moves.foldl _ _ (fun _ _ => ?_) ?_
                  · refine Moves.ite (fun _ => ?_) (fun _ => ?_)
                    · refine Moves.step (State.clearCause_moves _ _) rfl ?_
                      exact Moves.refl _ _
                    · exact Moves.refl _ _
                  · exact Moves.refl _ _
              · refine Moves.foldl _ _ (fun _ _ => ?_) ?_
                · refine Moves.ite (fun _ => ?_) (fun _ => ?_)
                  · refine Moves.step (State.raise_moves _ _ _ _ _ _ _) rfl ?_
                    exact Moves.refl _ _
                  · exact Moves.refl _ _
                · refine Moves.foldl _ _ (fun _ _ => ?_) ?_
                  · refine Moves.ite (fun _ => ?_) (fun _ => ?_)
                    · refine Moves.step (State.clearCause_moves _ _) rfl ?_
                      exact Moves.refl _ _
                    · exact Moves.refl _ _
                  · exact Moves.refl _ _
            · refine Moves.ite (fun _ => ?_) (fun _ => ?_)
              · refine Moves.step (State.raise_moves _ _ _ _ _ _ _) rfl ?_
                refine Moves.foldl _ _ (fun _ _ => ?_) ?_
                · refine Moves.ite (fun _ => ?_) (fun _ => ?_)
                  · refine Moves.step (State.raise_moves _ _ _ _ _ _ _) rfl ?_
                    exact Moves.refl _ _
                  · exact Moves.refl _ _
                · refine Moves.foldl _ _ (fun _ _ => ?_) ?_
                  · refine Moves.ite (fun _ => ?_) (fun _ => ?_)
                    · refine Moves.step (State.clearCause_moves _ _) rfl ?_
                      exact Moves.refl _ _
                    · exact Moves.refl _ _
                  · exact Moves.refl _ _
              · refine Moves.foldl _ _ (fun _ _ => ?_) ?_
                · refine Moves.ite (fun _ => ?_) (fun _ => ?_)
                  · refine Moves.step (State.raise_moves _ _ _ _ _ _ _) rfl ?_
                    exact Moves.refl _ _
                  · exact Moves.refl _ _
                · refine Moves.foldl _ _ (fun _ _ => ?_) ?_
                  · refine Moves.ite (fun _ => ?_) (fun _ => ?_)
                    · refine Moves.step (State.clearCause_moves _ _) rfl ?_
                      exact Moves.refl _ _
                    · exact Moves.refl _ _
                  · exact Moves.refl _ _
    · refine Moves.foldl _ _ (fun _ _ => ?_) ?_
      · refine Moves.ite (fun _ => ?_) (fun _ => ?_)
        · refine Moves.step (State.setCause_moves _ _) rfl ?_
          exact Moves.refl _ _
        · exact Moves.refl _ _
      · refine Moves.ite (fun _ => ?_) (fun _ => ?_)
        · refine Moves.step (State.raise_moves _ _ _ _ _ _ _) rfl ?_
          refine Moves.ite (fun _ => ?_) (fun _ => ?_)
          · refine Moves.step (State.raise_moves _ _ _ _ _ _ _) rfl ?_
            refine Moves.ite (fun _ => ?_) (fun _ => ?_)
            · refine Moves.step (State.raise_moves _ _ _ _ _ _ _) rfl ?_
              refine Moves.ite (fun _ => ?_) (fun _ => ?_)
              · refine Moves.step (State.raise_moves _ _ _ _ _ _ _) rfl ?_
                refine Moves.foldl _ _ (fun _ _ => ?_) ?_
                · refine Moves.ite (fun _ => ?_) (fun _ => ?_)
                  · refine Moves.step (State.raise_moves _ _ _ _ _ _ _) rfl ?_
                    exact Moves.refl _ _
                  · exact Moves.refl _ _
                · refine Moves.foldl _ _ (fun _ _ => ?_) ?_
                  · refine Moves.ite (fun _ => ?_) (fun _ => ?_)
                    · refine Moves.step (State.clearCause_moves _ _) rfl ?_
                      exact Moves.refl _ _
                    · exact Moves.refl _ _
                  · exact Moves.refl _ _
              · refine Moves.foldl _ _ (fun _ _ => ?_) ?_
                · refine Moves.ite (fun _ => ?_) (fun _ => ?_)
                  · refine Moves.step (State.raise_moves _ _ _ _ _ _ _) rfl ?_
                    exact Moves.refl _ _
                  · exact Moves.refl _ _
                · refine Moves.foldl _ _ (fun _ _ => ?_) ?_
                  · refine Moves.ite (fun _ => ?_) (fun _ => ?_)
                    · refine Moves.step (State.clearCause_moves _ _) rfl ?_
                      exact Moves.refl _ _
                    · exact Moves.refl _ _
                  · exact Moves.refl _ _
            · refine Moves.ite (fun _ => ?_) (fun _ => ?_)
              · refine Moves.step (State.raise_moves _ _ _ _ _ _ _) rfl ?_
                refine Moves.foldl _ _ (fun _ _ => ?_) ?_
                · refine Moves.ite (fun _ => ?_) (fun _ => ?_)
                  · refine Moves.step (State.raise_moves _ _ _ _ _ _ _) rfl ?_
                    exact Moves.refl _ _
                  · exact Moves.refl _ _
                · refine Moves.foldl _ _ (fun _ _ => ?_) ?_
                  · refine Moves.ite (fun _ => ?_) (fun _ => ?_)
                    · refine Moves.step (State.clearCause_moves _ _) rfl ?_
                      exact Moves.refl _ _
                    · exact Moves.refl _ _
                  · exact Moves.refl _ _
              · refine Moves.foldl _ _ (fun _ _ => ?_) ?_
                · refine Moves.ite (fun _ => ?_) (fun _ => ?_)
                  · refine Moves.step (State.raise_moves _ _ _ _ _ _ _) rfl ?_
                    exact Moves.refl _ _
                  · exact Moves.refl _ _
                · refine Moves.foldl _ _ (fun _ _ => ?_) ?_
                  · refine Moves.ite (fun _ => ?_) (fun _ => ?_)
                    · refine Moves.step (State.clearCause_moves _ _) rfl ?_
                      exact Moves.refl _ _
                    · exact Moves.refl _ _
                  · exact Moves.refl _ _
          · refine Moves.ite (fun _ => ?_) (fun _ => ?_)
            · refine Moves.step (State.raise_moves _ _ _ _ _ _ _) rfl ?_
              refine Moves.ite (fun _ => ?_) (fun _ => ?_)
              · refine Moves.step (State.raise_moves _ _ _ _ _ _ _) rfl ?_
                refine Moves.foldl _ _ (fun _ _ => ?_) ?_
                · refine Moves.ite (fun _ => ?_) (fun _ => ?_)
                  · refine Moves.step (State.raise_moves _ _ _ _ _ _ _) rfl ?_
                    exact Moves.refl _ _
                  · exact Moves.refl _ _
                · refine Moves.foldl _ _ (fun _ _ => ?_) ?_
                  · refine Moves.ite (fun _ => ?_) (fun _ => ?_)
                    · refine Moves.step (State.clearCause_moves _ _) rfl ?_
                      exact Moves.refl _ _
                    · exact Moves.refl _ _
                  · exact Moves.refl _ _
              · refine Moves.foldl _ _ (fun _ _ => ?_) ?_
                · refine Moves.ite (fun _ => ?_) (fun _ => ?_)
                  · refine Moves.step (State.raise_moves _ _ _ _ _ _ _) rfl ?_
                    exact Moves.refl _ _
                  · exact Moves.refl _ _
                · refine Moves.foldl _ _ (fun _ _ => ?_) ?_
                  · refine Moves.ite (fun _ => ?_) (fun _ => ?_)
                    · refine Moves.step (State.clearCause_moves _ _) rfl ?_
                      exact Moves.refl _ _
                    · exact Moves.refl _ _
                  · exact Moves.refl _ _
            · refine Moves.ite (fun _ => ?_) (fun _ => ?_)
              · refine Moves.step (State.raise_moves _ _ _ _ _ _ _) rfl ?_
                refine Moves.foldl _ _ (fun _ _ => ?_) ?_
                · refine Moves.ite (fun _ => ?_) (fun _ => ?_)
                  · refine Moves.step (State.raise_moves _ _ _ _ _ _ _) rfl ?_
                    exact Moves.refl _ _
                  · exact Moves.refl _ _
                · refine Moves.foldl _ _ (fun _ _ => ?_) ?_
                  · refine Moves.ite (fun _ => ?_) (fun _ => ?_)
                    · refine Moves.step (State.clearCause_moves _ _) rfl ?_
                      exact Moves.refl _ _
                    · exact Moves.refl _ _
                  · exact Moves.refl _ _
              · refine Moves.foldl _ _ (fun _ _ => ?_) ?_
                · refine Moves.ite (fun _ => ?_) (fun _ => ?_)
                  · refine Moves.step (State.raise_moves _ _ _ _ _ _ _) rfl ?_
                    exact Moves.refl _ _
                  · exact Moves.refl _ _
                · refine Moves.foldl _ _ (fun _ _ => ?_) ?_
                  · refine Moves.ite (fun _ => ?_) (fun _ => ?_)
                    · refine Moves.step (State.clearCause_moves _ _) rfl ?_
                      exact Moves.refl _ _
                    · exact Moves.refl _ _
                  · exact Moves.refl _ _
        · refine Moves.ite (fun _ => ?_) (fun _ => ?_)
          · refine Moves.step (State.raise_moves _ _ _ _ _ _ _) rfl ?_
            refine Moves.ite (fun _ => ?_) (fun _ => ?_)
            · refine Moves.step (State.raise_moves _ _ _ _ _ _ _) rfl ?_
              refine Moves.ite (fun _ => ?_) (fun _ => ?_)
              · refine Moves.step (State.raise_moves _ _ _ _ _ _ _) rfl ?_
                refine Moves.foldl _ _ (fun _ _ => ?_) ?_
                · refine Moves.ite (fun _ => ?_) (fun _ => ?_)
                  · refine Moves.step (State.raise_moves _ _ _ _ _ _ _) rfl ?_
                    exact Moves.refl _ _
                  · exact Moves.refl _ _
                · refine Moves.foldl _ _ (fun _ _ => ?_) ?_
                  · refine Moves.ite (fun _ => ?_) (fun _ => ?_)
                    · refine Moves.step (State.clearCause_moves _ _) rfl ?_
                      exact Moves.refl _ _
                    · exact Moves.refl _ _
                  · exact Moves.refl _ _
              · refine Moves.foldl _ _ (fun _ _ => ?_) ?_
                · refine Moves.ite (fun _ => ?_) (fun _ => ?_)
                  · refine Moves.step (State.raise_moves _ _ _ _ _ _ _) rfl ?_
                    exact Moves.refl _ _
                  · exact Moves.refl _ _
                · refine Moves.foldl _ _ (fun _ _ => ?_) ?_
                  · refine Moves.ite (fun _ => ?_) (fun _ => ?_)
                    · refine Moves.step (State.clearCause_moves _ _) rfl ?_
                      exact Moves.refl _ _
                    · exact Moves.refl _ _
                  · exact Moves.refl _ _
            · refine Moves.ite (fun _ => ?_) (fun _ => ?_)
              · refine Moves.step (State.raise_moves _ _ _ _ _ _ _) rfl ?_
                refine Moves.foldl _ _ (fun _ _ => ?_) ?_
                · refine Moves.ite (fun _ => ?_) (fun _ => ?_)
                  · refine Moves.step (State.raise_moves _ _ _ _ _ _ _) rfl ?_
                    exact Moves.refl _ _
                  · exact Moves.refl _ _
                · refine Moves.foldl _ _ (fun _ _ => ?_) ?_
                  · refine Moves.ite (fun _ => ?_) (fun _ => ?_)
                    · refine Moves.step (State.clearCause_moves _ _) rfl ?_
                      exact Moves.refl _ _
                    · exact Moves.refl _ _
                  · exact Moves.refl _ _
              · refine Moves.foldl _ _ (fun _ _ => ?_) ?_
                · refine Moves.ite (fun _ => ?_) (fun _ => ?_)
                  · refine Moves.step (State.raise_moves _ _ _ _ _ _ _) rfl ?_
                    exact Moves.refl _ _
                  · exact Moves.refl _ _
                · refine Moves.foldl _ _ (fun _ _ => ?_) ?_
                  · refine Moves.ite (fun _ => ?_) (fun _ => ?_)
                    · refine Moves.step (State.clearCause_moves _ _) rfl ?_
                      exact Moves.refl _ _
                    · exact Moves.refl _ _
                  · exact Moves.refl _ _
          · refine Moves.ite (fun _ => ?_) (fun _ => ?_)
            · refine Moves.step (State.raise_moves _ _ _ _ _ _ _) rfl ?_
              refine Moves.ite (fun _ => ?_) (fun _ => ?_)
              · refine Moves.step (State.raise_moves _ _ _ _ _ _ _) rfl ?_
                refine Moves.foldl _ _ (fun _ _ => ?_) ?_
                · refine Moves.ite (fun _ => ?_) (fun _ => ?_)
                  · refine Moves.step (State.raise_moves _ _ _ _ _ _ _) rfl ?_
                    exact Moves.refl _ _
                  · exact Moves.refl _ _
                · refine Moves.foldl _ _ (fun _ _ => ?_) ?_
                  · refine Moves.ite (fun _ => ?_) (fun _ => ?_)
                    · refine Moves.step (State.clearCause_moves _ _) rfl ?_
                      exact Moves.refl _ _
                    · exact Moves.refl _ _
                  · exact Moves.refl _ _
              · refine Moves.foldl _ _ (fun _ _ => ?_) ?_
                · refine Moves.ite (fun _ => ?_) (fun _ => ?_)
                  · refine Moves.step (State.raise_moves _ _ _ _ _ _ _) rfl ?_
                    exact Moves.refl _ _
                  · exact Moves.refl _ _
                · refine Moves.foldl _ _ (fun _ _ => ?_) ?_
                  · refine Moves.ite (fun _ => ?_) (fun _ => ?_)
                    · refine Moves.step (State.clearCause_moves _ _) rfl ?_
                      exact Moves.refl _ _
                    · exact Moves.refl _ _
                  · exact Moves.refl _ _
            · refine Moves.ite (fun _ => ?_) (fun _ => ?_)
              · refine Moves.step (State.raise_moves _ _ _ _ _ _ _) rfl ?_
                refine Moves.foldl _ _ (fun _ _ => ?_) ?_
                · refine Moves.ite (fun _ => ?_) (fun _ => ?_)
                  · refine Moves.step (State.raise_moves _ _ _ _ _ _ _) rfl ?_
                    exact Moves.refl _ _
                  · exact Moves.refl _ _
                · refine Moves.foldl _ _ (fun _ _ => ?_) ?_
                  · refine Moves.ite (fun _ => ?_) (fun _ => ?_)
                    · refine Moves.step (State.clearCause_moves _ _) rfl ?_
                      exact Moves.refl _ _
                    · exact Moves.refl _ _
                  · exact Moves.refl _ _
              · refine Moves.foldl _ _ (fun _ _ => ?_) ?_
                · refine Moves.ite (fun _ => ?_) (fun _ => ?_)
                  · refine Moves.step (State.raise_moves _ _ _ _ _ _ _) rfl ?_
                    exact Moves.refl _ _
                  · exact Moves.refl _ _
                · refine Moves.foldl _ _ (fun _ _ => ?_) ?_
                  · refine Moves.ite (fun _ => ?_) (fun _ => ?_)
                    · refine Moves.step (State.clearCause_moves _ _) rfl ?_
                      exact Moves.refl _ _
                    · exact Moves.refl _ _
                  · exact Moves.refl _ _

theorem State.legalReplay_moves (s : State) : Moves [.regs, .slv, .bem, .hst, .par, .evt, .nand, .out, .blk 0x0C, .blk 0x0F, .blk 0x11, .blk 0x13] s (@State.legalReplay s) := by
  unfold State.legalReplay
  dsimp only
  refine Moves.ite (fun _ => ?_) (fun _ => ?_)
  · refine Moves.step (State.legalEffect_moves _) rfl ?_
    refine Moves.step (State.auditDigest_moves _) rfl ?_
    refine Moves.step (State.startCauses_moves _ _ _) rfl ?_
    refine Moves.step (State.loadLegal_moves _ _) rfl ?_
    refine Moves.upd_slv rfl ?_
    exact Moves.refl _ _
  · refine Moves.step (State.boundaries_moves _ _) rfl ?_
    refine Moves.step (State.legalEffect_moves _) rfl ?_
    refine Moves.step (State.auditDigest_moves _) rfl ?_
    refine Moves.step (State.startCauses_moves _ _ _) rfl ?_
    refine Moves.step (State.loadLegal_moves _ _) rfl ?_
    refine Moves.upd_slv rfl ?_
    exact Moves.refl _ _

end Sys2Proof.Machine
end

