-- ==== Sys2Proof/Laws/Run.lean ====
section
/-!
SUPPORT. How far each operation of Machine/Run.lean can change the state.
-/

namespace Sys2Proof.Machine
open Sys2Proof

theorem State.advanceResv_moves (s : State) : Moves [.key, .nand] s (@State.advanceResv s) := by
  unfold State.advanceResv
  dsimp only
  refine Moves.upd_key_nand rfl ?_
  exact Moves.refl _ _

theorem State.startResync_moves (s : State) : Moves [.par, .out] s (@State.startResync s) := by
  unfold State.startResync
  dsimp only
  refine Moves.ite (fun _ => ?_) (fun _ => ?_)
  · refine Moves.step (State.pairSend_moves _ _) rfl ?_
    refine Moves.step (State.pairSend_moves _ _) rfl ?_
    refine Moves.upd_par rfl ?_
    exact Moves.refl _ _
  · refine Moves.upd_par rfl ?_
    exact Moves.refl _ _

theorem State.dropClaim_moves (s : State) : Moves [.par] s (@State.dropClaim s) := by
  unfold State.dropClaim
  refine Moves.upd_par rfl ?_
  exact Moves.refl _ _

theorem State.campResume_moves (s : State) : Moves [.regs, .msn, .sht, .hst, .evt, .fresh, .out, .blk 0x05, .blk 0x09, .blk 0x11, .blk 0x13] s (@State.campResume s) := by
  unfold State.campResume
  split
  · exact Moves.refl _ _
  · dsimp only
    refine Moves.step (State.campKick_moves _) rfl ?_
    refine Moves.upd_msn rfl ?_
    exact Moves.refl _ _

theorem State.catchUp_moves (s : State) : Moves [.regs, .slv, .bem, .hst, .par, .evt, .nand, .out, .blk 0x0C, .blk 0x0F, .blk 0x11, .blk 0x13] s (@State.catchUp s) := by
  unfold State.catchUp
  refine Moves.ite (fun _ => ?_) (fun _ => ?_)
  · refine Moves.step (State.boundaries_moves _ _) rfl ?_
    exact Moves.refl _ _
  · exact Moves.refl _ _

theorem State.msnStop_moves (s : State) : Moves [.regs, .msn, .key, .hst, .out, .blk 0x10, .blk 0x11] s (@State.msnStop s) := by
  unfold State.msnStop
  dsimp only
  refine Moves.foldl _ _ (fun _ _ => ?_) ?_
  · refine Moves.step (State.hostReadDone_moves _ _ _) rfl ?_
    exact Moves.refl _ _
  · refine Moves.upd_msn_key rfl ?_
    exact Moves.refl _ _

theorem State.refuseInbox_moves (s : State) : Moves [.regs, .slv, .blk 0x0C] s (@State.refuseInbox s) := by
  unfold State.refuseInbox
  dsimp only
  refine Moves.foldl _ _ (fun _ _ => ?_) ?_
  · refine Moves.step (State.dispose_moves _ _ _) rfl ?_
    exact Moves.refl _ _
  · refine Moves.upd_slv rfl ?_
    exact Moves.refl _ _

theorem State.toStandby_moves (s : State) : Moves [.regs, .sys, .ports, .net, .msn, .slv, .key, .hst, .par, .out, .blk 0x06, .blk 0x0C, .blk 0x10, .blk 0x11] s (@State.toStandby s) := by
  unfold State.toStandby
  dsimp only
  refine Moves.step (State.startResync_moves _) rfl ?_
  refine Moves.upd_par rfl ?_
  refine Moves.step (State.msnStop_moves _) rfl ?_
  refine Moves.step (State.refuseInbox_moves _) rfl ?_
  refine Moves.upd_slv rfl ?_
  refine Moves.step (State.cutPulses_moves _) rfl ?_
  refine Moves.step (State.blockAll_moves _ _) rfl ?_
  refine Moves.upd_sys rfl ?_
  refine Moves.step (State.dropClaim_moves _) rfl ?_
  exact Moves.refl _ _

theorem State.claimLost_moves (s : State) : Moves [.regs, .sys, .ports, .net, .msn, .slv, .key, .hst, .par, .evt, .out, .blk 0x06, .blk 0x0C, .blk 0x10, .blk 0x11, .blk 0x13] s (@State.claimLost s) := by
  unfold State.claimLost
  refine Moves.step (State.raise_moves _ _ _ _ _ _ _) rfl ?_
  refine Moves.step (State.toStandby_moves _) rfl ?_
  exact Moves.refl _ _

theorem State.netFresh_moves (s : State) : Moves [.net] s (@State.netFresh s) := by
  unfold State.netFresh
  refine Moves.upd_net rfl ?_
  exact Moves.refl _ _

theorem State.roundsAll_moves (s : State) : Moves [.regs, .ports, .net, .msn, .hst, .evt, .fresh, .out, .blk 0x06, .blk 0x08, .blk 0x11, .blk 0x13] s (@State.roundsAll s) := by
  unfold State.roundsAll
  refine Moves.step (State.openRounds_moves _ _ _) rfl ?_
  exact Moves.refl _ _

theorem State.goActive_moves (s : State) : Moves [.sys] s (@State.goActive s) := by
  unfold State.goActive
  refine Moves.upd_sys rfl ?_
  exact Moves.refl _ _

theorem State.enterActive_moves (s : State) : Moves [.regs, .sys, .ports, .net, .msn, .sht, .wrp, .slv, .bal, .bem, .key, .hst, .par, .evt, .nand, .fresh, .out, .blk 0x05, .blk 0x06, .blk 0x08, .blk 0x09, .blk 0x0C, .blk 0x0E, .blk 0x0F, .blk 0x11, .blk 0x13] s (@State.enterActive s) := by
  unfold State.enterActive
  refine Moves.step (State.campResume_moves _) rfl ?_
  refine Moves.step (State.balEnter_moves _) rfl ?_
  refine Moves.step (State.roundsAll_moves _) rfl ?_
  refine Moves.step (State.pkwkDue_moves _) rfl ?_
  refine Moves.step (State.openHandoff_moves _) rfl ?_
  refine Moves.step (State.catchUp_moves _) rfl ?_
  refine Moves.step (State.blockAll_moves _ _) rfl ?_
  refine Moves.step (State.goActive_moves _) rfl ?_
  refine Moves.step (State.netFresh_moves _) rfl ?_
  exact Moves.refl _ _

theorem State.raiseClaim_moves (s : State) : Moves [.par, .nand] s (@State.raiseClaim s) := by
  unfold State.raiseClaim
  refine Moves.ite (fun _ => ?_) (fun _ => ?_)
  · exact Moves.refl _ _
  · dsimp only
    refine Moves.upd_par_nand rfl ?_
    exact Moves.refl _ _

theorem State.takeoverEnds_moves (s : State) : Moves [.regs, .pen, .hst, .evt, .blk 0x11, .blk 0x13] s (@State.takeoverEnds s) := by
  unfold State.takeoverEnds
  dsimp only
  refine Moves.step (State.abortJobs_moves _ _) rfl ?_
  refine Moves.step (State.endSessions_moves _) rfl ?_
  refine Moves.upd_hst rfl ?_ ?_
  · exact fun h => h.mapAll _ (fun _ _ => Nat.le_refl _)
  · exact Moves.refl _ _

theorem State.takeover_moves (s : State) : Moves [.regs, .sys, .ports, .net, .msn, .sht, .wrp, .pen, .slv, .bal, .bem, .key, .hst, .par, .evt, .nand, .fresh, .out, .blk 0x05, .blk 0x06, .blk 0x08, .blk 0x09, .blk 0x0C, .blk 0x0E, .blk 0x0F, .blk 0x10, .blk 0x11, .blk 0x12, .blk 0x13] s (@State.takeover s) := by
  unfold State.takeover
  dsimp only
  refine Moves.step (State.enterActive_moves _) rfl ?_
  refine Moves.step (State.raise_moves _ _ _ _ _ _ _) rfl ?_
  refine Moves.step (State.cntS_moves 18 _ _ _ rfl) rfl ?_
  refine Moves.step (State.goActive_moves _) rfl ?_
  refine Moves.upd_par rfl ?_
  refine Moves.step (State.msnStop_moves _) rfl ?_
  refine Moves.step (State.takeoverEnds_moves _) rfl ?_
  refine Moves.ite (fun _ => ?_) (fun _ => ?_)
  · refine Moves.step (State.setCause_moves _ _) rfl ?_
    refine Moves.ite (fun _ => ?_) (fun _ => ?_)
    · exact Moves.refl _ _
    · refine Moves.step (State.advanceResv_moves _) rfl ?_
      exact Moves.refl _ _
  · refine Moves.ite (fun _ => ?_) (fun _ => ?_)
    · exact Moves.refl _ _
    · refine Moves.step (State.advanceResv_moves _) rfl ?_
      exact Moves.refl _ _

end Sys2Proof.Machine
end

