-- ==== Sys2Proof/Laws/Pair.lean ====
section
/-!
SUPPORT. How far each operation of Machine/Pair.lean can change the state.
-/

namespace Sys2Proof.Machine
open Sys2Proof

theorem State.mirrorHold_moves (s : State) (a1) : Moves [.regs, .hst, .evt, .blk 0x11, .blk 0x13] s (@State.mirrorHold s a1) := by
  unfold State.mirrorHold
  split
  · refine Moves.step (State.raise_moves _ _ _ _ _ _ _) rfl ?_
    exact Moves.refl _ _
  · refine Moves.step (State.endEv_moves _ _ _) rfl ?_
    exact Moves.refl _ _
  · refine Moves.step (State.raise_moves _ _ _ _ _ _ _) rfl ?_
    exact Moves.refl _ _
  · refine Moves.step (State.endEv_moves _ _ _) rfl ?_
    exact Moves.refl _ _
  · exact Moves.refl _ _

theorem State.mirrorIdx_moves (s : State) (a1) : Moves [.wrp] s (@State.mirrorIdx s a1) := by
  unfold State.mirrorIdx
  split
  · dsimp only
    refine Moves.ite (fun _ => ?_) (fun _ => ?_)
    · refine Moves.step (State.setWch_moves _ _ _) rfl ?_
      exact Moves.refl _ _
    · exact Moves.refl _ _
  · exact Moves.refl _ _

theorem State.applyRec_moves (s : State) (a1) : Moves [.regs, .wrp, .slv, .hst, .par, .evt, .out, .blk 0x11, .blk 0x13] s (@State.applyRec s a1) := by
  unfold State.applyRec
  dsimp only
  refine Moves.step (State.mirrorIdx_moves _ _) rfl ?_
  refine Moves.step (State.mirrorHold_moves _ _) rfl ?_
  refine Moves.step (State.journal_moves _ _ _) rfl ?_
  refine Moves.upd_slv rfl ?_
  exact Moves.refl _ _

theorem State.applyAuth_moves (s : State) (a1) (a2) (a3) (a4) (a5) : Moves [.regs, .wrp, .slv, .hst, .par, .evt, .otp, .nand, .out, .blk 0x0C, .blk 0x11, .blk 0x13] s (@State.applyAuth s a1 a2 a3 a4 a5) := by
  unfold State.applyAuth
  dsimp only
  split
  · refine Moves.step (State.authRecord_moves _ _ _ _ _) rfl ?_
    refine Moves.step (State.reverify_moves _ _ _) rfl ?_
    exact Moves.refl _ _
  · refine Moves.step (State.authRecord_moves _ _ _ _ _) rfl ?_
    refine Moves.step (State.sealProgram_moves _) rfl ?_
    exact Moves.refl _ _
  · refine Moves.step (State.authRecord_moves _ _ _ _ _) rfl ?_
    refine Moves.step (State.legalUnlock_moves _) rfl ?_
    exact Moves.refl _ _
  · refine Moves.step (State.applyRec_moves _ _) rfl ?_
    exact Moves.refl _ _

theorem State.diverged_moves (s : State) (a1) : Moves [.regs, .hst, .par, .evt, .out, .blk 0x11, .blk 0x12, .blk 0x13] s (@State.diverged s a1) := by
  unfold State.diverged
  dsimp only
  refine Moves.step (State.startResync_moves _) rfl ?_
  refine Moves.step (State.raise_moves _ _ _ _ _ _ _) rfl ?_
  refine Moves.step (State.cntS_moves 18 _ _ _ rfl) rfl ?_
  exact Moves.refl _ _

theorem State.applySeal_moves (s : State) (a1) (a2) : Moves [.regs, .slv, .key, .hst, .par, .evt, .out, .blk 0x11, .blk 0x12, .blk 0x13] s (@State.applySeal s a1 a2) := by
  unfold State.applySeal
  split
  · refine Moves.upd_slv rfl ?_
    exact Moves.refl _ _
  · dsimp only
    refine Moves.ite (fun _ => ?_) (fun _ => ?_)
    · refine Moves.step (State.diverged_moves _ _) rfl ?_
      exact Moves.refl _ _
    · refine Moves.upd_slv_key rfl ?_
      exact Moves.refl _ _

theorem State.beat_moves (s : State) : Moves [.regs, .out, .blk 0x12] s (@State.beat s) := by
  unfold State.beat
  refine Moves.ite (fun _ => ?_) (fun _ => ?_)
  · refine Moves.step (State.cntW_moves 18 _ _ _ rfl) rfl ?_
    refine Moves.step (State.pairBoth_moves _ _) rfl ?_
    exact Moves.refl _ _
  · exact Moves.refl _ _

theorem State.busCheck_moves (s : State) (a1) (a2) : Moves [.regs, .hst, .par, .evt, .blk 0x11, .blk 0x13] s (@State.busCheck s a1 a2) := by
  unfold State.busCheck
  dsimp only
  refine Moves.ite (fun _ => ?_) (fun _ => ?_)
  · refine Moves.step (State.raise_moves _ _ _ _ _ _ _) rfl ?_
    refine Moves.upd_par rfl ?_
    exact Moves.refl _ _
  · refine Moves.ite (fun _ => ?_) (fun _ => ?_)
    · refine Moves.step (State.endEv_moves _ _ _) rfl ?_
      refine Moves.upd_par rfl ?_
      exact Moves.refl _ _
    · refine Moves.upd_par rfl ?_
      exact Moves.refl _ _

theorem State.goLive_moves (s : State) (a1) : Moves [.regs, .wrp, .slv, .bem, .hst, .par, .evt, .nand, .out, .blk 0x0C, .blk 0x11, .blk 0x13] s (@State.goLive s a1) := by
  unfold State.goLive
  dsimp only
  refine Moves.step (State.raiseIdx_moves _) rfl ?_
  refine Moves.step (State.clearCause_moves _ _) rfl ?_
  refine Moves.step (State.clearCause_moves _ _) rfl ?_
  refine Moves.step (State.raise_moves _ _ _ _ _ _ _) rfl ?_
  refine Moves.foldl _ _ (fun _ _ => ?_) ?_
  · refine Moves.step (State.copySlice_moves _) rfl ?_
    exact Moves.refl _ _
  · refine Moves.upd_slv_par rfl ?_
    exact Moves.refl _ _

theorem State.heardActive_moves (s : State) (a1) (a2) : Moves [.par, .out] s (@State.heardActive s a1 a2) := by
  unfold State.heardActive
  refine Moves.ite (fun _ => ?_) (fun _ => ?_)
  · exact Moves.refl _ _
  · dsimp only
    refine Moves.ite (fun _ => ?_) (fun _ => ?_)
    · refine Moves.ite (fun _ => ?_) (fun _ => ?_)
      · refine Moves.step (State.startResync_moves _) rfl ?_
        exact Moves.refl _ _
      · refine Moves.upd_par rfl ?_
        exact Moves.refl _ _
    · refine Moves.ite (fun _ => ?_) (fun _ => ?_)
      · refine Moves.step (State.startResync_moves _) rfl ?_
        exact Moves.refl _ _
      · exact Moves.refl _ _

theorem State.heardStandby_moves (s : State) (a1) : Moves [.par, .out] s (@State.heardStandby s a1) := by
  unfold State.heardStandby
  refine Moves.ite (fun _ => ?_) (fun _ => ?_)
  · exact Moves.refl _ _
  · dsimp only
    refine Moves.ite (fun _ => ?_) (fun _ => ?_)
    · refine Moves.foldl _ _ (fun _ _ => ?_) ?_
      · refine Moves.step (State.mirrorSend_moves _ _) rfl ?_
        refine Moves.upd_par rfl ?_
        exact Moves.refl _ _
      · refine Moves.upd_par rfl ?_
        exact Moves.refl _ _
    · refine Moves.ite (fun _ => ?_) (fun _ => ?_)
      · exact Moves.refl _ _
      · refine Moves.ite (fun _ => ?_) (fun _ => ?_)
        · refine Moves.upd_par rfl ?_
          exact Moves.refl _ _
        · refine Moves.upd_par rfl ?_
          exact Moves.refl _ _

theorem State.keyFailEnds_moves (s : State) : Moves [.regs, .hst, .par, .evt, .blk 0x11, .blk 0x13] s (@State.keyFailEnds s) := by
  unfold State.keyFailEnds
  refine Moves.ite (fun _ => ?_) (fun _ => ?_)
  · refine Moves.step (State.endEv_moves _ _ _) rfl ?_
    refine Moves.upd_par rfl ?_
    exact Moves.refl _ _
  · exact Moves.refl _ _

theorem State.linkLost_moves (s : State) : Moves [.regs, .hst, .par, .evt, .blk 0x11, .blk 0x13] s (@State.linkLost s) := by
  unfold State.linkLost
  refine Moves.ite (fun _ => ?_) (fun _ => ?_)
  · refine Moves.step (State.raise_moves _ _ _ _ _ _ _) rfl ?_
    refine Moves.upd_par rfl ?_
    exact Moves.refl _ _
  · exact Moves.refl _ _

theorem State.takeRec_moves (s : State) (a1) (a2) (a3) : Moves [.regs, .wrp, .slv, .key, .hst, .par, .evt, .otp, .nand, .out, .blk 0x0C, .blk 0x11, .blk 0x12, .blk 0x13] s (@State.takeRec s a1 a2 a3) := by
  unfold State.takeRec
  split
  · refine Moves.step (State.diverged_moves _ _) rfl ?_
    exact Moves.refl _ _
  · dsimp only
    refine Moves.ite (fun _ => ?_) (fun _ => ?_)
    · refine Moves.upd_par rfl ?_
      exact Moves.refl _ _
    · split
      · refine Moves.step (State.applySeal_moves _ _ _) rfl ?_
        refine Moves.upd_par rfl ?_
        exact Moves.refl _ _
      · refine Moves.step (State.applyAuth_moves _ _ _ _ _ _) rfl ?_
        refine Moves.upd_par rfl ?_
        exact Moves.refl _ _
      · refine Moves.step (State.applyRec_moves _ _) rfl ?_
        refine Moves.upd_par rfl ?_
        exact Moves.refl _ _

theorem State.mirrorRec_moves (a0) (a1) (s : State) (a3) : Moves [.regs, .wrp, .slv, .key, .hst, .par, .evt, .otp, .nand, .out, .blk 0x0C, .blk 0x11, .blk 0x12, .blk 0x13] s (@State.mirrorRec a0 a1 s a3) := by
  unfold State.mirrorRec
  split
  · refine Moves.upd_par rfl ?_
    exact Moves.refl _ _
  · refine Moves.upd_par rfl ?_
    exact Moves.refl _ _
  · exact Moves.refl _ _
  · exact Moves.refl _ _
  · refine Moves.ite (fun _ => ?_) (fun _ => ?_)
    · exact Moves.refl _ _
    · refine Moves.step (State.takeRec_moves _ _ _ _) rfl ?_
      exact Moves.refl _ _

theorem State.takeFack_moves (s : State) (a1) : Moves [.msn, .key, .par, .out] s (@State.takeFack s a1) := by
  unfold State.takeFack
  dsimp only
  refine Moves.foldl _ _ (fun _ _ => ?_) ?_
  · refine Moves.step (State.resvAcked_moves _ _ _) rfl ?_
    exact Moves.refl _ _
  · refine Moves.upd_par_out rfl ?_
    exact Moves.refl _ _

theorem State.pairIn_moves {fs : List Field} {s : State} (x : PairRx) (reliable : Bool) (f : State → State)
    (hs : ([.regs, .msn, .key, .par, .out, .blk 0x12] : List Field).all (fun g => fs.contains g) = true) (hf : ∀ u, Moves fs u (f u)) :
    Moves fs s (s.pairIn x reliable f) := by
  unfold State.pairIn
  refine Moves.ite (fun _ => Moves.refl _ _) (fun _ => ?_)
  refine Moves.ite (fun _ => Moves.mono (State.cntW_moves 0x12 _ _ _ rfl) (sub_of hs rfl)) (fun _ => ?_)
  have h : Moves fs s (s.takeFack x.fack) := Moves.mono (State.takeFack_moves _ _) (sub_of hs rfl)
  refine Moves.ite (fun _ => h.trans (hf _)) (fun _ => ?_)
  refine Moves.ite (fun _ => ?_) (fun _ => ?_)
  · refine Moves.step (State.beat_moves _) (sub_of hs rfl) ?_
    exact (Moves.upd_par (sub_of hs rfl) h).trans (hf _)
  · exact Moves.step (State.beat_moves _) (sub_of hs rfl) h

theorem State.pairKeyFails_moves (s : State) : Moves [.regs, .hst, .par, .evt, .blk 0x11, .blk 0x13] s (@State.pairKeyFails s) := by
  unfold State.pairKeyFails
  refine Moves.step (State.raise_moves _ _ _ _ _ _ _) rfl ?_
  refine Moves.upd_par rfl ?_
  exact Moves.refl _ _

theorem State.parCtrlEff_moves (s : State) (a1) : Moves [.regs, .sys, .ports, .net, .msn, .slv, .key, .hst, .par, .out, .blk 0x06, .blk 0x0C, .blk 0x10, .blk 0x11] s (@State.parCtrlEff s a1).1 := by
  unfold State.parCtrlEff
  refine Moves.ite_fst (fun _ => ?_) (fun _ => ?_)
  · dsimp only
    exact Moves.refl _ _
  · dsimp only
    refine Moves.ite_fst (fun _ => ?_) (fun _ => ?_)
    · dsimp only
      refine Moves.ite (fun _ => ?_) (fun _ => ?_)
      · refine Moves.step (State.startResync_moves _) rfl ?_
        exact Moves.refl _ _
      · exact Moves.refl _ _
    · refine Moves.ite_fst (fun _ => ?_) (fun _ => ?_)
      · dsimp only
        refine Moves.ite (fun _ => ?_) (fun _ => ?_)
        · refine Moves.step (State.startResync_moves _) rfl ?_
          exact Moves.refl _ _
        · exact Moves.refl _ _
      · refine Moves.ite_fst (fun _ => ?_) (fun _ => ?_)
        · dsimp only
          refine Moves.ite (fun _ => ?_) (fun _ => ?_)
          · refine Moves.step (State.startResync_moves _) rfl ?_
            exact Moves.refl _ _
          · exact Moves.refl _ _
        · dsimp only
          refine Moves.step (State.toStandby_moves _) rfl ?_
          refine Moves.step (State.pairBoth_moves _ _) rfl ?_
          refine Moves.ite (fun _ => ?_) (fun _ => ?_)
          · refine Moves.step (State.startResync_moves _) rfl ?_
            exact Moves.refl _ _
          · exact Moves.refl _ _

theorem State.renumber_moves (s : State) : Moves [.par] s (@State.renumber s) := by
  unfold State.renumber
  dsimp only
  refine Moves.upd_par rfl ?_
  exact Moves.refl _ _

theorem State.resendFrames_moves (s : State) : Moves [.out] s (@State.resendFrames s) := by
  unfold State.resendFrames
  dsimp only
  refine Moves.ite (fun _ => ?_) (fun _ => ?_)
  · exact Moves.refl _ _
  · refine Moves.upd_out rfl ?_
    exact Moves.refl _ _

theorem State.roundClaim_moves (s : State) : Moves [.par, .nand] s (@State.roundClaim s) := by
  unfold State.roundClaim
  dsimp only
  refine Moves.ite (fun _ => ?_) (fun _ => ?_)
  · exact Moves.refl _ _
  · refine Moves.ite (fun _ => ?_) (fun _ => ?_)
    · refine Moves.step (State.raiseClaim_moves _) rfl ?_
      exact Moves.refl _ _
    · exact Moves.refl _ _

theorem State.roundLost_moves (s : State) (a1) : Moves [.regs, .sys, .ports, .net, .msn, .slv, .key, .hst, .par, .evt, .out, .blk 0x06, .blk 0x0C, .blk 0x10, .blk 0x11, .blk 0x13] s (@State.roundLost s a1) := by
  unfold State.roundLost
  refine Moves.ite (fun _ => ?_) (fun _ => ?_)
  · exact Moves.refl _ _
  · split
    · refine Moves.step (State.claimLost_moves _) rfl ?_
      exact Moves.refl _ _
    · refine Moves.ite (fun _ => ?_) (fun _ => ?_)
      · exact Moves.refl _ _
      · dsimp only
        refine Moves.upd_sys rfl ?_
        refine Moves.step (State.dropClaim_moves _) rfl ?_
        exact Moves.refl _ _
    · refine Moves.ite (fun _ => ?_) (fun _ => ?_)
      · exact Moves.refl _ _
      · refine Moves.step (State.dropClaim_moves _) rfl ?_
        exact Moves.refl _ _

theorem State.roundRead_moves (s : State) (a1) : Moves [.regs, .sys, .par, .blk 0x12] s (@State.roundRead s a1) := by
  unfold State.roundRead
  split
  · refine Moves.upd_par rfl ?_
    exact Moves.refl _ _
  · dsimp only
    refine Moves.ite (fun _ => ?_) (fun _ => ?_)
    · refine Moves.step (State.cntW_moves 18 _ _ _ rfl) rfl ?_
      refine Moves.step (State.cntW_moves 18 _ _ _ rfl) rfl ?_
      refine Moves.ite (fun _ => ?_) (fun _ => ?_)
      · refine Moves.upd_sys_par rfl ?_
        exact Moves.refl _ _
      · refine Moves.upd_par rfl ?_
        exact Moves.refl _ _
    · refine Moves.step (State.cntW_moves 18 _ _ _ rfl) rfl ?_
      refine Moves.ite (fun _ => ?_) (fun _ => ?_)
      · refine Moves.upd_sys_par rfl ?_
        exact Moves.refl _ _
      · refine Moves.upd_par rfl ?_
        exact Moves.refl _ _

theorem State.roundWon_moves (s : State) : Moves [.regs, .sys, .ports, .net, .msn, .sht, .wrp, .pen, .slv, .bal, .bem, .key, .hst, .par, .evt, .nand, .fresh, .out, .blk 0x05, .blk 0x06, .blk 0x08, .blk 0x09, .blk 0x0C, .blk 0x0E, .blk 0x0F, .blk 0x10, .blk 0x11, .blk 0x12, .blk 0x13] s (@State.roundWon s) := by
  unfold State.roundWon
  refine Moves.ite (fun _ => ?_) (fun _ => ?_)
  · exact Moves.refl _ _
  · split
    · refine Moves.step (State.takeover_moves _) rfl ?_
      exact Moves.refl _ _
    · refine Moves.ite (fun _ => ?_) (fun _ => ?_)
      · refine Moves.upd_sys rfl ?_
        exact Moves.refl _ _
      · exact Moves.refl _ _
    · refine Moves.upd_sys rfl ?_
      exact Moves.refl _ _
    · exact Moves.refl _ _

theorem State.runChecks_moves (s : State) : Moves [.regs, .hst, .par, .evt, .out, .blk 0x11, .blk 0x13] s (@State.runChecks s) := by
  unfold State.runChecks
  split
  · dsimp only
    refine Moves.step (State.raise_moves _ _ _ _ _ _ _) rfl ?_
    refine Moves.step (State.endEv_moves _ _ _) rfl ?_
    refine Moves.upd_par rfl ?_
    exact Moves.refl _ _
  · refine Moves.ite (fun _ => ?_) (fun _ => ?_)
    · refine Moves.step (State.startResync_moves _) rfl ?_
      refine Moves.step (State.endEv_moves _ _ _) rfl ?_
      refine Moves.upd_par rfl ?_
      exact Moves.refl _ _
    · exact Moves.refl _ _

theorem State.sendHello_moves (s : State) : Moves [.par, .out] s (@State.sendHello s) := by
  unfold State.sendHello
  refine Moves.step (State.pairSend_moves _ _) rfl ?_
  refine Moves.upd_par rfl ?_
  exact Moves.refl _ _

theorem State.setLock_moves (s : State) (a1) (a2) : Moves [.par] s (@State.setLock s a1 a2) := by
  unfold State.setLock
  refine Moves.upd_par rfl ?_
  exact Moves.refl _ _

theorem State.splitCheck_moves (s : State) (a1) : Moves [.regs, .sys, .ports, .net, .msn, .slv, .key, .hst, .par, .evt, .out, .blk 0x06, .blk 0x0C, .blk 0x10, .blk 0x11, .blk 0x12, .blk 0x13] s (@State.splitCheck s a1) := by
  unfold State.splitCheck
  refine Moves.ite (fun _ => ?_) (fun _ => ?_)
  · exact Moves.refl _ _
  · dsimp only
    refine Moves.ite (fun _ => ?_) (fun _ => ?_)
    · refine Moves.step (State.toStandby_moves _) rfl ?_
      refine Moves.ite (fun _ => ?_) (fun _ => ?_)
      · exact Moves.refl _ _
      · refine Moves.step (State.raise_moves _ _ _ _ _ _ _) rfl ?_
        refine Moves.step (State.cntS_moves 18 _ _ _ rfl) rfl ?_
        exact Moves.refl _ _
    · refine Moves.ite (fun _ => ?_) (fun _ => ?_)
      · exact Moves.refl _ _
      · refine Moves.step (State.raise_moves _ _ _ _ _ _ _) rfl ?_
        refine Moves.step (State.cntS_moves 18 _ _ _ rfl) rfl ?_
        exact Moves.refl _ _

theorem State.unheard_moves (s : State) : Moves [.regs, .hst, .par, .evt, .blk 0x11, .blk 0x13] s (@State.unheard s) := by
  unfold State.unheard
  dsimp only
  refine Moves.ite (fun _ => ?_) (fun _ => ?_)
  · refine Moves.step (State.raise_moves _ _ _ _ _ _ _) rfl ?_
    refine Moves.upd_par rfl ?_
    exact Moves.refl _ _
  · refine Moves.step (State.linkLost_moves _) rfl ?_
    refine Moves.upd_par rfl ?_
    exact Moves.refl _ _

theorem execBulkSlice_ends (a0) (a1) (a2) (s : State) : Ends [.regs, .msn, .key, .par, .out, .blk 0x12] s (@execBulkSlice a0 a1 a2 s) := by
  unfold execBulkSlice
  refine Ends.next ?_
  refine Moves.trans ?_ (State.pairIn_moves _ _ _ rfl (fun _ => ?_))
  · exact Moves.refl _ _
  · refine Moves.ite (fun _ => ?_) (fun _ => ?_)
    · dsimp only
      refine Moves.upd_par rfl ?_
      exact Moves.refl _ _
    · exact Moves.refl _ _

theorem execKeyReq_ends (a0) (a1) (s : State) : Ends [.regs, .msn, .key, .hst, .par, .evt, .nand, .fresh, .out, .blk 0x11, .blk 0x12, .blk 0x13] s (@execKeyReq a0 a1 s) := by
  unfold execKeyReq
  refine Ends.next ?_
  refine Moves.trans ?_ (State.pairIn_moves _ _ _ rfl (fun _ => ?_))
  · exact Moves.refl _ _
  · refine Moves.ite (fun _ => ?_) (fun _ => ?_)
    · exact Moves.refl _ _
    · refine Moves.ite (fun _ => ?_) (fun _ => ?_)
      · refine Moves.step (State.pairKeyFails_moves _) rfl ?_
        exact Moves.refl _ _
      · dsimp only
        split
        · refine Moves.step (State.pkwkDue_moves _) rfl ?_
          exact Moves.refl _ _
        · refine Moves.upd_par rfl ?_
          split
          · refine Moves.step (State.campSend_moves _ _) rfl ?_
            refine Moves.foldl _ _ (fun _ _ => ?_) ?_
            · refine Moves.step (State.pairSend_moves _ _) rfl ?_
              exact Moves.refl _ _
            · refine Moves.step (State.pairSend_moves _ _) rfl ?_
              refine Moves.step (State.pkwkDue_moves _) rfl ?_
              exact Moves.refl _ _
          · refine Moves.foldl _ _ (fun _ _ => ?_) ?_
            · refine Moves.step (State.pairSend_moves _ _) rfl ?_
              exact Moves.refl _ _
            · refine Moves.step (State.pairSend_moves _ _) rfl ?_
              refine Moves.step (State.pkwkDue_moves _) rfl ?_
              exact Moves.refl _ _

theorem execParRelinquish_ends (a0) (s : State) : Ends [.regs, .sys, .ports, .net, .msn, .slv, .key, .hst, .par, .out, .blk 0x06, .blk 0x0C, .blk 0x10, .blk 0x11] s (@execParRelinquish a0 s) := by
  unfold execParRelinquish
  refine Ends.next ?_
  refine State.writeRow_moves _ _ _ _ rfl ?_ ?_
  · refine Moves.step (State.parCtrlEff_moves _ _) rfl ?_
    exact Moves.refl _ _
  · exact Moves.refl _ _

theorem execPairLaneDown_ends (a0) (s : State) : Ends [.regs, .hst, .par, .evt, .blk 0x11, .blk 0x13] s (@execPairLaneDown a0 s) := by
  unfold execPairLaneDown
  refine Ends.next ?_
  refine Moves.ite (fun _ => ?_) (fun _ => ?_)
  · refine Moves.step (State.raise_moves _ _ _ _ _ _ _) rfl ?_
    refine Moves.step (State.setLock_moves _ _ _) rfl ?_
    exact Moves.refl _ _
  · exact Moves.refl _ _

theorem execHeartbeatMiss_ends (a0) (s : State) : Ends [.regs, .tim, .hst, .par, .evt, .nand, .blk 0x11, .blk 0x12, .blk 0x13] s (@execHeartbeatMiss a0 s) := by
  unfold execHeartbeatMiss
  dsimp only
  refine Ends.next ?_
  refine Moves.ite (fun _ => ?_) (fun _ => ?_)
  · refine Moves.step (State.reach_moves _ _) rfl ?_
    exact Moves.refl _ _
  · refine Moves.ite (fun _ => ?_) (fun _ => ?_)
    · refine Moves.step (State.cntW_moves 18 _ _ _ rfl) rfl ?_
      refine Moves.upd_par rfl ?_
      refine Moves.step (State.reach_moves _ _) rfl ?_
      exact Moves.refl _ _
    · refine Moves.ite (fun _ => ?_) (fun _ => ?_)
      · refine Moves.step (State.raiseClaim_moves _) rfl ?_
        refine Moves.step (State.unheard_moves _) rfl ?_
        refine Moves.step (State.cntW_moves 18 _ _ _ rfl) rfl ?_
        refine Moves.upd_par rfl ?_
        refine Moves.step (State.reach_moves _ _) rfl ?_
        exact Moves.refl _ _
      · refine Moves.step (State.unheard_moves _) rfl ?_
        refine Moves.step (State.cntW_moves 18 _ _ _ rfl) rfl ?_
        refine Moves.upd_par rfl ?_
        refine Moves.step (State.reach_moves _ _) rfl ?_
        exact Moves.refl _ _

theorem execPairRetransmit_ends (s : State) : Ends [.regs, .out, .blk 0x12] s (@execPairRetransmit s) := by
  unfold execPairRetransmit
  refine Ends.next ?_
  refine Moves.ite (fun _ => ?_) (fun _ => ?_)
  · refine Moves.step (State.cntW_moves 18 _ _ _ rfl) rfl ?_
    refine Moves.step (State.resendFrames_moves _) rfl ?_
    exact Moves.refl _ _
  · exact Moves.refl _ _

theorem execKeyent_ends (a0) (a1) (s : State) : Ends [.regs, .msn, .key, .par, .nand, .out, .blk 0x12] s (@execKeyent a0 a1 s) := by
  unfold execKeyent
  refine Ends.next ?_
  refine Moves.trans ?_ (State.pairIn_moves _ _ _ rfl (fun _ => ?_))
  · exact Moves.refl _ _
  · refine Moves.ite (fun _ => ?_) (fun _ => ?_)
    · refine Moves.foldl _ _ (fun _ _ => ?_) ?_
      · refine Moves.step (State.copyKey_moves _ _) rfl ?_
        refine Moves.step (State.setKey_moves _ _ _) rfl ?_
        exact Moves.refl _ _
      · exact Moves.refl _ _
    · exact Moves.refl _ _

theorem execPairHello_ends (a0) (a1) (a2) (a3) (s : State) : Ends [.regs, .msn, .key, .hst, .par, .evt, .out, .blk 0x11, .blk 0x12, .blk 0x13] s (@execPairHello a0 a1 a2 a3 s) := by
  unfold execPairHello
  refine Ends.next ?_
  refine Moves.trans ?_ (State.pairIn_moves _ _ _ rfl (fun _ => ?_))
  · exact Moves.refl _ _
  · dsimp only
    refine Moves.ite (fun _ => ?_) (fun _ => ?_)
    · refine Moves.step (State.startResync_moves _) rfl ?_
      refine Moves.step (State.runChecks_moves _) rfl ?_
      refine Moves.ite (fun _ => ?_) (fun _ => ?_)
      · refine Moves.upd_par rfl ?_
        refine Moves.step (State.resendFrames_moves _) rfl ?_
        refine Moves.upd_par rfl ?_
        refine Moves.ite (fun _ => ?_) (fun _ => ?_)
        · refine Moves.step (State.renumber_moves _) rfl ?_
          exact Moves.refl _ _
        · refine Moves.step (State.sendHello_moves _) rfl ?_
          refine Moves.step (State.renumber_moves _) rfl ?_
          exact Moves.refl _ _
      · refine Moves.step (State.resendFrames_moves _) rfl ?_
        refine Moves.upd_par rfl ?_
        refine Moves.ite (fun _ => ?_) (fun _ => ?_)
        · refine Moves.step (State.renumber_moves _) rfl ?_
          exact Moves.refl _ _
        · refine Moves.step (State.sendHello_moves _) rfl ?_
          refine Moves.step (State.renumber_moves _) rfl ?_
          exact Moves.refl _ _
    · refine Moves.step (State.runChecks_moves _) rfl ?_
      refine Moves.ite (fun _ => ?_) (fun _ => ?_)
      · refine Moves.upd_par rfl ?_
        refine Moves.step (State.resendFrames_moves _) rfl ?_
        refine Moves.upd_par rfl ?_
        refine Moves.ite (fun _ => ?_) (fun _ => ?_)
        · refine Moves.step (State.renumber_moves _) rfl ?_
          exact Moves.refl _ _
        · refine Moves.step (State.sendHello_moves _) rfl ?_
          refine Moves.step (State.renumber_moves _) rfl ?_
          exact Moves.refl _ _
      · refine Moves.step (State.resendFrames_moves _) rfl ?_
        refine Moves.upd_par rfl ?_
        refine Moves.ite (fun _ => ?_) (fun _ => ?_)
        · refine Moves.step (State.renumber_moves _) rfl ?_
          exact Moves.refl _ _
        · refine Moves.step (State.sendHello_moves _) rfl ?_
          refine Moves.step (State.renumber_moves _) rfl ?_
          exact Moves.refl _ _

theorem execPairLaneUp_ends (a0) (s : State) : Ends [.regs, .hst, .par, .evt, .out, .blk 0x11, .blk 0x13] s (@execPairLaneUp a0 s) := by
  unfold execPairLaneUp
  refine Ends.next ?_
  refine Moves.ite (fun _ => ?_) (fun _ => ?_)
  · dsimp only
    refine Moves.ite (fun _ => ?_) (fun _ => ?_)
    · refine Moves.step (State.endEv_moves _ _ _) rfl ?_
      refine Moves.step (State.setLock_moves _ _ _) rfl ?_
      exact Moves.refl _ _
    · refine Moves.step (State.sendHello_moves _) rfl ?_
      refine Moves.step (State.endEv_moves _ _ _) rfl ?_
      refine Moves.step (State.setLock_moves _ _ _) rfl ?_
      exact Moves.refl _ _
  · exact Moves.refl _ _

theorem execClaimRound_ends (a0) (a1) (a2) (s : State) : Ends [.regs, .sys, .tim, .ports, .net, .msn, .sht, .wrp, .pen, .slv, .bal, .bem, .key, .hst, .par, .evt, .nand, .fresh, .out, .blk 0x05, .blk 0x06, .blk 0x08, .blk 0x09, .blk 0x0C, .blk 0x0E, .blk 0x0F, .blk 0x10, .blk 0x11, .blk 0x12, .blk 0x13] s (@execClaimRound a0 a1 a2 s) := by
  unfold execClaimRound
  dsimp only
  refine Ends.next ?_
  refine Moves.ite (fun _ => ?_) (fun _ => ?_)
  · refine Moves.step (State.reach_moves _ _) rfl ?_
    exact Moves.refl _ _
  · refine Moves.step (State.roundClaim_moves _) rfl ?_
    refine Moves.step (State.linkLost_moves _) rfl ?_
    refine Moves.step (State.roundWon_moves _) rfl ?_
    refine Moves.step (State.roundLost_moves _ _) rfl ?_
    refine Moves.step (State.busCheck_moves _ _ _) rfl ?_
    refine Moves.step (State.roundRead_moves _ _) rfl ?_
    refine Moves.step (State.reach_moves _ _) rfl ?_
    exact Moves.refl _ _

theorem execResyncReq_ends (a0) (s : State) : Ends [.regs, .msn, .key, .par, .out, .blk 0x12] s (@execResyncReq a0 s) := by
  unfold execResyncReq
  refine Ends.next ?_
  refine Moves.trans ?_ (State.pairIn_moves _ _ _ rfl (fun _ => ?_))
  · exact Moves.refl _ _
  · refine Moves.ite (fun _ => ?_) (fun _ => ?_)
    · refine Moves.upd_par rfl ?_
      exact Moves.refl _ _
    · exact Moves.refl _ _

theorem execBulkDone_ends (a0) (a1) (s : State) : Ends [.regs, .msn, .wrp, .slv, .bem, .key, .hst, .par, .evt, .nand, .out, .blk 0x0C, .blk 0x11, .blk 0x12, .blk 0x13] s (@execBulkDone a0 a1 s) := by
  unfold execBulkDone
  refine Ends.next ?_
  refine Moves.trans ?_ (State.pairIn_moves _ _ _ rfl (fun _ => ?_))
  · exact Moves.refl _ _
  · refine Moves.ite (fun _ => ?_) (fun _ => ?_)
    · refine Moves.step (State.goLive_moves _ _) rfl ?_
      exact Moves.refl _ _
    · exact Moves.refl _ _

theorem execMirror_ends (a0) (a1) (a2) (a3) (s : State) : Ends [.regs, .msn, .wrp, .slv, .key, .hst, .par, .evt, .otp, .nand, .out, .blk 0x0C, .blk 0x11, .blk 0x12, .blk 0x13] s (@execMirror a0 a1 a2 a3 s) := by
  unfold execMirror
  refine Ends.next ?_
  refine Moves.trans ?_ (State.pairIn_moves _ _ _ rfl (fun _ => ?_))
  · exact Moves.refl _ _
  · dsimp only
    refine Moves.ite (fun _ => ?_) (fun _ => ?_)
    · refine Moves.foldl _ _ (fun _ _ => ?_) ?_
      · refine Moves.step (State.mirrorRec_moves _ _ _ _) rfl ?_
        exact Moves.refl _ _
      · refine Moves.upd_par rfl ?_
        exact Moves.refl _ _
    · refine Moves.upd_par rfl ?_
      exact Moves.refl _ _

theorem execParResync_ends (a0) (s : State) : Ends [.regs, .sys, .ports, .net, .msn, .slv, .key, .hst, .par, .out, .blk 0x06, .blk 0x0C, .blk 0x10, .blk 0x11] s (@execParResync a0 s) := by
  unfold execParResync
  refine Ends.next ?_
  refine State.writeRow_moves _ _ _ _ rfl ?_ ?_
  · refine Moves.step (State.parCtrlEff_moves _ _) rfl ?_
    exact Moves.refl _ _
  · exact Moves.refl _ _

theorem execKeyXfer_ends (a0) (a1) (a2) (s : State) : Ends [.regs, .msn, .key, .hst, .par, .evt, .nand, .out, .blk 0x11, .blk 0x12, .blk 0x13] s (@execKeyXfer a0 a1 a2 s) := by
  unfold execKeyXfer
  refine Ends.next ?_
  refine Moves.trans ?_ (State.pairIn_moves _ _ _ rfl (fun _ => ?_))
  · exact Moves.refl _ _
  · refine Moves.ite (fun _ => ?_) (fun _ => ?_)
    · exact Moves.refl _ _
    · refine Moves.ite (fun _ => ?_) (fun _ => ?_)
      · refine Moves.step (State.pairKeyFails_moves _) rfl ?_
        exact Moves.refl _ _
      · dsimp only
        refine Moves.step (State.raise_moves _ _ _ _ _ _ _) rfl ?_
        refine Moves.step (State.endEv_moves _ _ _) rfl ?_
        refine Moves.upd_key_par_nand rfl ?_
        refine Moves.step (State.holdPkwk_moves _ _) rfl ?_
        exact Moves.refl _ _

theorem execRelinquishReceived_ends (a0) (a1) (s : State) : Ends [.regs, .msn, .key, .par, .out, .blk 0x12] s (@execRelinquishReceived a0 a1 s) := by
  unfold execRelinquishReceived
  refine Ends.next ?_
  refine Moves.trans ?_ (State.pairIn_moves _ _ _ rfl (fun _ => ?_))
  · exact Moves.refl _ _
  · refine Moves.ite (fun _ => ?_) (fun _ => ?_)
    · refine Moves.upd_par rfl ?_
      exact Moves.refl _ _
    · exact Moves.refl _ _

theorem execHeartbeatSend_ends (a0) (s : State) : Ends [.regs, .tim, .out, .blk 0x12] s (@execHeartbeatSend a0 s) := by
  unfold execHeartbeatSend
  dsimp only
  refine Ends.next ?_
  refine Moves.ite (fun _ => ?_) (fun _ => ?_)
  · refine Moves.step (State.beat_moves _) rfl ?_
    refine Moves.step (State.reach_moves _ _) rfl ?_
    exact Moves.refl _ _
  · refine Moves.step (State.reach_moves _ _) rfl ?_
    exact Moves.refl _ _

theorem execCampaignFrame_ends (a0) (a1) (s : State) : Ends [.regs, .msn, .key, .par, .nand, .out, .blk 0x12] s (@execCampaignFrame a0 a1 s) := by
  unfold execCampaignFrame
  refine Ends.next ?_
  refine Moves.trans (Moves.refl _ _) (State.pairIn_moves _ _ _ rfl (fun _ => ?_))
  · dsimp only
    refine Moves.ite (fun _ => ?_) (fun _ => ?_)
    · refine Moves.upd_par_nand rfl ?_
      exact Moves.refl _ _
    · refine Moves.upd_par rfl ?_
      exact Moves.refl _ _

theorem execHeartbeatReceived_ends (a0) (a1) (a2) (s : State) : Ends [.regs, .sys, .tim, .ports, .net, .msn, .slv, .key, .hst, .par, .evt, .out, .blk 0x06, .blk 0x0C, .blk 0x10, .blk 0x11, .blk 0x12, .blk 0x13] s (@execHeartbeatReceived a0 a1 a2 s) := by
  unfold execHeartbeatReceived
  refine Ends.next ?_
  refine Moves.trans ?_ (State.pairIn_moves _ _ _ rfl (fun _ => ?_))
  · refine Moves.step (State.reach_moves _ _) rfl ?_
    exact Moves.refl _ _
  · dsimp only
    refine Moves.ite (fun _ => ?_) (fun _ => ?_)
    · refine Moves.step (State.splitCheck_moves _ _) rfl ?_
      refine Moves.step (State.runChecks_moves _) rfl ?_
      refine Moves.ite (fun _ => ?_) (fun _ => ?_)
      · refine Moves.step (State.endEv_moves _ _ _) rfl ?_
        refine Moves.ite (fun _ => ?_) (fun _ => ?_)
        · refine Moves.upd_sys_par rfl ?_
          refine Moves.step (State.cntW_moves 18 _ _ _ rfl) rfl ?_
          exact Moves.refl _ _
        · refine Moves.upd_par rfl ?_
          refine Moves.step (State.cntW_moves 18 _ _ _ rfl) rfl ?_
          exact Moves.refl _ _
      · refine Moves.step (State.sendHello_moves _) rfl ?_
        refine Moves.step (State.endEv_moves _ _ _) rfl ?_
        refine Moves.ite (fun _ => ?_) (fun _ => ?_)
        · refine Moves.upd_sys_par rfl ?_
          refine Moves.step (State.cntW_moves 18 _ _ _ rfl) rfl ?_
          exact Moves.refl _ _
        · refine Moves.upd_par rfl ?_
          refine Moves.step (State.cntW_moves 18 _ _ _ rfl) rfl ?_
          exact Moves.refl _ _
    · refine Moves.step (State.keyFailEnds_moves _) rfl ?_
      refine Moves.step (State.heardActive_moves _ _ _) rfl ?_
      refine Moves.step (State.heardStandby_moves _ _) rfl ?_
      refine Moves.step (State.splitCheck_moves _ _) rfl ?_
      refine Moves.step (State.runChecks_moves _) rfl ?_
      refine Moves.ite (fun _ => ?_) (fun _ => ?_)
      · refine Moves.step (State.endEv_moves _ _ _) rfl ?_
        refine Moves.ite (fun _ => ?_) (fun _ => ?_)
        · refine Moves.upd_sys_par rfl ?_
          refine Moves.step (State.cntW_moves 18 _ _ _ rfl) rfl ?_
          exact Moves.refl _ _
        · refine Moves.upd_par rfl ?_
          refine Moves.step (State.cntW_moves 18 _ _ _ rfl) rfl ?_
          exact Moves.refl _ _
      · refine Moves.step (State.sendHello_moves _) rfl ?_
        refine Moves.step (State.endEv_moves _ _ _) rfl ?_
        refine Moves.ite (fun _ => ?_) (fun _ => ?_)
        · refine Moves.upd_sys_par rfl ?_
          refine Moves.step (State.cntW_moves 18 _ _ _ rfl) rfl ?_
          exact Moves.refl _ _
        · refine Moves.upd_par rfl ?_
          refine Moves.step (State.cntW_moves 18 _ _ _ rfl) rfl ?_
          exact Moves.refl _ _

end Sys2Proof.Machine
end

