-- ==== Sys2Proof/Laws/Ptp.lean ====
section
/-!
SUPPORT. How far each operation of Machine/Ptp.lean can change the state.
-/

namespace Sys2Proof.Machine
open Sys2Proof

theorem State.servoEvents_moves (s : State) (a1) (a2) (a3) : Moves [.regs, .hst, .evt, .blk 0x11, .blk 0x13] s (@State.servoEvents s a1 a2 a3) := by
  unfold State.servoEvents
  dsimp only
  refine Moves.ite (fun _ => ?_) (fun _ => ?_)
  · exact Moves.refl _ _
  · refine Moves.ite (fun _ => ?_) (fun _ => ?_)
    · refine Moves.step (State.endEv_moves _ _ _) rfl ?_
      refine Moves.ite (fun _ => ?_) (fun _ => ?_)
      · refine Moves.step (State.raise_moves _ _ _ _ _ _ _) rfl ?_
        refine Moves.ite (fun _ => ?_) (fun _ => ?_)
        · refine Moves.step (State.raise_moves _ _ _ _ _ _ _) rfl ?_
          refine Moves.ite (fun _ => ?_) (fun _ => ?_)
          · refine Moves.step (State.endEv_moves _ _ _) rfl ?_
            refine Moves.step (State.raise_moves _ _ _ _ _ _ _) rfl ?_
            exact Moves.refl _ _
          · exact Moves.refl _ _
        · refine Moves.ite (fun _ => ?_) (fun _ => ?_)
          · refine Moves.step (State.endEv_moves _ _ _) rfl ?_
            refine Moves.step (State.raise_moves _ _ _ _ _ _ _) rfl ?_
            exact Moves.refl _ _
          · exact Moves.refl _ _
      · refine Moves.ite (fun _ => ?_) (fun _ => ?_)
        · refine Moves.step (State.raise_moves _ _ _ _ _ _ _) rfl ?_
          refine Moves.ite (fun _ => ?_) (fun _ => ?_)
          · refine Moves.step (State.endEv_moves _ _ _) rfl ?_
            refine Moves.step (State.raise_moves _ _ _ _ _ _ _) rfl ?_
            exact Moves.refl _ _
          · exact Moves.refl _ _
        · refine Moves.ite (fun _ => ?_) (fun _ => ?_)
          · refine Moves.step (State.endEv_moves _ _ _) rfl ?_
            refine Moves.step (State.raise_moves _ _ _ _ _ _ _) rfl ?_
            exact Moves.refl _ _
          · exact Moves.refl _ _
    · refine Moves.ite (fun _ => ?_) (fun _ => ?_)
      · refine Moves.step (State.raise_moves _ _ _ _ _ _ _) rfl ?_
        refine Moves.ite (fun _ => ?_) (fun _ => ?_)
        · refine Moves.step (State.raise_moves _ _ _ _ _ _ _) rfl ?_
          refine Moves.ite (fun _ => ?_) (fun _ => ?_)
          · refine Moves.step (State.endEv_moves _ _ _) rfl ?_
            refine Moves.step (State.raise_moves _ _ _ _ _ _ _) rfl ?_
            exact Moves.refl _ _
          · exact Moves.refl _ _
        · refine Moves.ite (fun _ => ?_) (fun _ => ?_)
          · refine Moves.step (State.endEv_moves _ _ _) rfl ?_
            refine Moves.step (State.raise_moves _ _ _ _ _ _ _) rfl ?_
            exact Moves.refl _ _
          · exact Moves.refl _ _
      · refine Moves.ite (fun _ => ?_) (fun _ => ?_)
        · refine Moves.step (State.raise_moves _ _ _ _ _ _ _) rfl ?_
          refine Moves.ite (fun _ => ?_) (fun _ => ?_)
          · refine Moves.step (State.endEv_moves _ _ _) rfl ?_
            refine Moves.step (State.raise_moves _ _ _ _ _ _ _) rfl ?_
            exact Moves.refl _ _
          · exact Moves.refl _ _
        · refine Moves.ite (fun _ => ?_) (fun _ => ?_)
          · refine Moves.step (State.endEv_moves _ _ _) rfl ?_
            refine Moves.step (State.raise_moves _ _ _ _ _ _ _) rfl ?_
            exact Moves.refl _ _
          · exact Moves.refl _ _

theorem State.setDom_moves (s : State) (a1) (a2) : Moves [.tim] s (@State.setDom s a1 a2) := by
  unfold State.setDom
  refine Moves.upd_tim rfl ?_
  exact Moves.refl _ _

theorem State.startWatch_moves (s : State) : Moves [.sys] s (@State.startWatch s) := by
  unfold State.startWatch
  refine Moves.upd_sys rfl ?_
  exact Moves.refl _ _

theorem State.phase9_moves (s : State) : Moves [.sys] s (@State.phase9 s) := by
  unfold State.phase9
  refine Moves.ite (fun _ => ?_) (fun _ => ?_)
  · refine Moves.step (State.startWatch_moves _) rfl ?_
    exact Moves.refl _ _
  · exact Moves.refl _ _

theorem State.switchTo_moves (s : State) (a1) : Moves [.regs, .tim, .hst, .evt, .blk 0x11, .blk 0x13] s (@State.switchTo s a1) := by
  unfold State.switchTo
  refine Moves.ite (fun _ => ?_) (fun _ => ?_)
  · exact Moves.refl _ _
  · dsimp only
    refine Moves.step (State.raise_moves _ _ _ _ _ _ _) rfl ?_
    refine Moves.upd_tim rfl ?_
    exact Moves.refl _ _

theorem State.reselect_moves (s : State) : Moves [.regs, .tim, .hst, .evt, .blk 0x11, .blk 0x13] s (@State.reselect s) := by
  unfold State.reselect
  dsimp only
  refine Moves.ite (fun _ => ?_) (fun _ => ?_)
  · refine Moves.step (State.switchTo_moves _ _) rfl ?_
    exact Moves.refl _ _
  · refine Moves.ite (fun _ => ?_) (fun _ => ?_)
    · refine Moves.ite (fun _ => ?_) (fun _ => ?_)
      · exact Moves.refl _ _
      · refine Moves.ite (fun _ => ?_) (fun _ => ?_)
        · refine Moves.step (State.switchTo_moves _ _) rfl ?_
          exact Moves.refl _ _
        · exact Moves.refl _ _
    · refine Moves.ite (fun _ => ?_) (fun _ => ?_)
      · exact Moves.refl _ _
      · refine Moves.ite (fun _ => ?_) (fun _ => ?_)
        · refine Moves.step (State.switchTo_moves _ _) rfl ?_
          exact Moves.refl _ _
        · exact Moves.refl _ _

theorem State.servo_moves (s : State) (a1) (a2) : Moves [.regs, .sys, .tim, .hst, .evt, .blk 0x11, .blk 0x13] s (@State.servo s a1 a2) := by
  unfold State.servo
  dsimp only
  refine Moves.step (State.phase9_moves _) rfl ?_
  refine Moves.step (State.reselect_moves _) rfl ?_
  refine Moves.step (State.servoEvents_moves _ _ _ _) rfl ?_
  refine Moves.step (State.setDom_moves _ _ _) rfl ?_
  exact Moves.refl _ _

theorem State.discard_moves (s : State) (a1) (a2) (a3) : Moves [.regs, .sys, .tim, .hst, .evt, .blk 0x11, .blk 0x13] s (@State.discard s a1 a2 a3) := by
  unfold State.discard
  dsimp only
  refine Moves.ite (fun _ => ?_) (fun _ => ?_)
  · refine Moves.step (State.servo_moves _ _ _) rfl ?_
    exact Moves.refl _ _
  · refine Moves.step (State.setDom_moves _ _ _) rfl ?_
    exact Moves.refl _ _

theorem State.holdover_moves (s : State) (a1) : Moves [.regs, .sys, .tim, .hst, .evt, .blk 0x11, .blk 0x13] s (@State.holdover s a1) := by
  unfold State.holdover
  dsimp only
  refine Moves.ite (fun _ => ?_) (fun _ => ?_)
  · refine Moves.step (State.servo_moves _ _ _) rfl ?_
    exact Moves.refl _ _
  · exact Moves.refl _ _

theorem State.setTimCfg_moves (s : State) (a1) (a2) : Moves [.regs, .sys, .tim, .hst, .evt, .blk 0x04, .blk 0x11, .blk 0x13] s (@State.setTimCfg s a1 a2) := by
  unfold State.setTimCfg
  dsimp only
  refine Moves.ite (fun _ => ?_) (fun _ => ?_)
  · refine Moves.step (State.endEv_moves _ _ _) rfl ?_
    refine Moves.step (State.servo_moves _ _ _) rfl ?_
    refine Moves.step (State.setReg_moves 4 _ _ _ (by simp only [timBase]; split <;> omega)) rfl ?_
    exact Moves.refl _ _
  · refine Moves.step (State.setReg_moves 4 _ _ _ (by simp only [timBase]; split <;> omega)) rfl ?_
    exact Moves.refl _ _

theorem State.setTimCtrl_moves (s : State) (a1) : Moves [.regs, .tim, .hst, .evt, .blk 0x04, .blk 0x11, .blk 0x13] s (@State.setTimCtrl s a1) := by
  unfold State.setTimCtrl
  refine Moves.step (State.reselect_moves _) rfl ?_
  refine Moves.step (State.setReg_moves 4 _ _ _ rfl) rfl ?_
  exact Moves.refl _ _

theorem State.stepBy_moves (s : State) (a1) (a2) (a3) : Moves [.regs, .sys, .tim, .hst, .evt, .blk 0x11, .blk 0x13] s (@State.stepBy s a1 a2 a3) := by
  unfold State.stepBy
  dsimp only
  refine Moves.step (State.raise_moves _ _ _ _ _ _ _) rfl ?_
  refine Moves.step (State.servo_moves _ _ _) rfl ?_
  exact Moves.refl _ _

theorem State.sample_moves (s : State) (a1) (a2) : Moves [.regs, .sys, .tim, .hst, .evt, .blk 0x11, .blk 0x13] s (@State.sample s a1 a2) := by
  unfold State.sample
  dsimp only
  refine Moves.ite (fun _ => ?_) (fun _ => ?_)
  · refine Moves.ite (fun _ => ?_) (fun _ => ?_)
    · refine Moves.step (State.stepBy_moves _ _ _ _) rfl ?_
      exact Moves.refl _ _
    · refine Moves.step (State.discard_moves _ _ _ _) rfl ?_
      exact Moves.refl _ _
  · split
    · refine Moves.ite (fun _ => ?_) (fun _ => ?_)
      · refine Moves.step (State.setDom_moves _ _ _) rfl ?_
        exact Moves.refl _ _
      · refine Moves.step (State.servo_moves _ _ _) rfl ?_
        exact Moves.refl _ _
    · refine Moves.ite (fun _ => ?_) (fun _ => ?_)
      · refine Moves.step (State.servo_moves _ _ _) rfl ?_
        exact Moves.refl _ _
      · refine Moves.step (State.servo_moves _ _ _) rfl ?_
        exact Moves.refl _ _
    · refine Moves.ite (fun _ => ?_) (fun _ => ?_)
      · refine Moves.step (State.servo_moves _ _ _) rfl ?_
        exact Moves.refl _ _
      · refine Moves.step (State.servo_moves _ _ _) rfl ?_
        exact Moves.refl _ _
    · refine Moves.step (State.servo_moves _ _ _) rfl ?_
      exact Moves.refl _ _

theorem State.utcNews_moves (s : State) (a1) (a2) : Moves [.tim] s (@State.utcNews s a1 a2) := by
  unfold State.utcNews
  refine Moves.ite (fun _ => ?_) (fun _ => ?_)
  · refine Moves.upd_tim rfl ?_
    exact Moves.refl _ _
  · exact Moves.refl _ _

theorem execPtpAnnounce_ends (a0) (a1) (a2) (a3) (a4) (s : State) : Ends [.tim] s (@execPtpAnnounce a0 a1 a2 a3 a4 s) := by
  unfold execPtpAnnounce
  dsimp only
  refine Ends.ite (fun _ => ?_) (fun _ => ?_)
  · refine Ends.next ?_
    refine Moves.step (State.reach_moves _ _) rfl ?_
    exact Moves.refl _ _
  · refine Ends.ite (fun _ => ?_) (fun _ => ?_)
    · refine Ends.next ?_
      refine Moves.step (State.utcNews_moves _ _ _) rfl ?_
      refine Moves.step (State.setDom_moves _ _ _) rfl ?_
      refine Moves.step (State.reach_moves _ _) rfl ?_
      exact Moves.refl _ _
    · refine Ends.next ?_
      refine Moves.step (State.reach_moves _ _) rfl ?_
      exact Moves.refl _ _

theorem execPrefReturnTimer_ends (a0) (s : State) : Ends [.regs, .tim, .hst, .evt, .blk 0x11, .blk 0x13] s (@execPrefReturnTimer a0 s) := by
  unfold execPrefReturnTimer
  dsimp only
  refine Ends.ite (fun _ => ?_) (fun _ => ?_)
  · refine Ends.next ?_
    refine Moves.step (State.switchTo_moves _ _) rfl ?_
    refine Moves.step (State.reach_moves _ _) rfl ?_
    exact Moves.refl _ _
  · refine Ends.next ?_
    refine Moves.step (State.reach_moves _ _) rfl ?_
    exact Moves.refl _ _

theorem execPtpDelayReqTimer_ends (a0) (a1) (a2) (s : State) : Ends [.tim, .out] s (@execPtpDelayReqTimer a0 a1 a2 s) := by
  unfold execPtpDelayReqTimer
  dsimp only
  refine Ends.ite (fun _ => ?_) (fun _ => ?_)
  · refine Ends.next ?_
    refine Moves.step (State.reach_moves _ _) rfl ?_
    exact Moves.refl _ _
  · refine Ends.next ?_
    refine Moves.step (State.emit_moves _ _) rfl ?_
    refine Moves.step (State.setDom_moves _ _ _) rfl ?_
    refine Moves.step (State.reach_moves _ _) rfl ?_
    exact Moves.refl _ _

theorem execServoDisable_ends (a0) (a1) (s : State) : Ends [.regs, .sys, .tim, .hst, .evt, .out, .blk 0x04, .blk 0x11, .blk 0x13] s (@execServoDisable a0 a1 s) := by
  unfold execServoDisable
  refine Ends.next ?_
  refine State.writeRow_moves _ _ _ _ rfl ?_ ?_
  · refine okEff_moves _ _ ?_
    refine Moves.step (State.setTimCfg_moves _ _ _) rfl ?_
    exact Moves.refl _ _
  · exact Moves.refl _ _

theorem execPtpDelayResp_ends (a0) (a1) (a2) (a3) (a4) (a5) (s : State) : Ends [.tim] s (@execPtpDelayResp a0 a1 a2 a3 a4 a5 s) := by
  unfold execPtpDelayResp
  dsimp only
  split
  · refine Ends.next ?_
    exact Moves.refl _ _
  · refine Ends.ite (fun _ => ?_) (fun _ => ?_)
    · refine Ends.next ?_
      exact Moves.refl _ _
    · refine Ends.next ?_
      refine Moves.step (State.setDom_moves _ _ _) rfl ?_
      exact Moves.refl _ _

theorem execContinuitySlewTick_ends (a0) (s : State) : Ends [.tim] s (@execContinuitySlewTick a0 s) := by
  unfold execContinuitySlewTick
  dsimp only
  refine Ends.ite (fun _ => ?_) (fun _ => ?_)
  · refine Ends.next ?_
    refine Moves.upd_tim rfl ?_
    refine Moves.step (State.reach_moves _ _) rfl ?_
    exact Moves.refl _ _
  · refine Ends.next ?_
    refine Moves.upd_tim rfl ?_
    refine Moves.step (State.reach_moves _ _) rfl ?_
    exact Moves.refl _ _

theorem execAnnounceReceiptTimeout_ends (a0) (a1) (s : State) : Ends [.regs, .sys, .tim, .hst, .evt, .blk 0x11, .blk 0x13] s (@execAnnounceReceiptTimeout a0 a1 s) := by
  unfold execAnnounceReceiptTimeout
  dsimp only
  split
  · refine Ends.next ?_
    refine Moves.step (State.reach_moves _ _) rfl ?_
    exact Moves.refl _ _
  · refine Ends.ite (fun _ => ?_) (fun _ => ?_)
    · refine Ends.next ?_
      refine Moves.step (State.reach_moves _ _) rfl ?_
      exact Moves.refl _ _
    · refine Ends.next ?_
      refine Moves.step (State.holdover_moves _ _) rfl ?_
      refine Moves.step (State.setDom_moves _ _ _) rfl ?_
      refine Moves.step (State.reach_moves _ _) rfl ?_
      exact Moves.refl _ _

theorem execServoEnable_ends (a0) (a1) (s : State) : Ends [.regs, .sys, .tim, .hst, .evt, .out, .blk 0x04, .blk 0x11, .blk 0x13] s (@execServoEnable a0 a1 s) := by
  unfold execServoEnable
  refine Ends.next ?_
  refine State.writeRow_moves _ _ _ _ rfl ?_ ?_
  · refine okEff_moves _ _ ?_
    refine Moves.step (State.setTimCfg_moves _ _ _) rfl ?_
    exact Moves.refl _ _
  · exact Moves.refl _ _

theorem execSyncTimeout_ends (a0) (a1) (s : State) : Ends [.regs, .sys, .tim, .hst, .evt, .blk 0x11, .blk 0x13] s (@execSyncTimeout a0 a1 s) := by
  unfold execSyncTimeout
  dsimp only
  refine Ends.ite (fun _ => ?_) (fun _ => ?_)
  · refine Ends.next ?_
    refine Moves.step (State.holdover_moves _ _) rfl ?_
    refine Moves.step (State.reach_moves _ _) rfl ?_
    exact Moves.refl _ _
  · refine Ends.next ?_
    refine Moves.step (State.reach_moves _ _) rfl ?_
    exact Moves.refl _ _

theorem execPtpSync_ends (a0) (a1) (a2) (a3) (a4) (s : State) : Ends [.regs, .sys, .tim, .hst, .evt, .blk 0x11, .blk 0x13] s (@execPtpSync a0 a1 a2 a3 a4 s) := by
  unfold execPtpSync
  dsimp only
  refine Ends.ite (fun _ => ?_) (fun _ => ?_)
  · refine Ends.next ?_
    refine Moves.step (State.reach_moves _ _) rfl ?_
    exact Moves.refl _ _
  · refine Ends.next ?_
    refine Moves.step (State.sample_moves _ _ _) rfl ?_
    refine Moves.step (State.reach_moves _ _) rfl ?_
    exact Moves.refl _ _

theorem execPtpPdelayReq_ends (a0) (a1) (a2) (a3) (s : State) : Ends [.tim, .out] s (@execPtpPdelayReq a0 a1 a2 a3 s) := by
  unfold execPtpPdelayReq
  dsimp only
  refine Ends.ite (fun _ => ?_) (fun _ => ?_)
  · refine Ends.next ?_
    refine Moves.step (State.reach_moves _ _) rfl ?_
    exact Moves.refl _ _
  · refine Ends.next ?_
    refine Moves.step (State.emit_moves _ _) rfl ?_
    refine Moves.step (State.reach_moves _ _) rfl ?_
    exact Moves.refl _ _

end Sys2Proof.Machine
end

