-- ==== Sys2Proof/Laws/Power.lean ====
section
/-!
SUPPORT. How far each operation of Machine/Power.lean can change the state.
-/

namespace Sys2Proof.Machine
open Sys2Proof

theorem State.abandonStage_moves (s : State) : Moves [.sys, .nor, .fresh] s (@State.abandonStage s) := by
  unfold State.abandonStage
  refine Moves.ite (fun _ => ?_) (fun _ => ?_)
  · exact Moves.refl _ _
  · dsimp only
    refine Moves.upd_sys_nor_fresh rfl ?_
    exact Moves.refl _ _

theorem State.atT0_moves (s : State) (a1) (a2) : Moves [.snap, .heldW, .sys, .clk, .tmp, .tim, .ports, .net, .msn, .sht, .wrp, .pen, .slv, .bal, .key, .hst, .par, .nor, .fresh, .out] s (@State.atT0 s a1 a2) := by
  unfold State.atT0
  dsimp only
  refine Moves.upd_snap_heldW_sys_clk_tmp_tim_ports_net_msn_sht_wrp_pen_slv_bal_key_hst_par rfl ?_ ?_ ?_
  · exact fun _ => rfl
  · exact fun h => h
  · refine Moves.step (State.abandonStage_moves _) rfl ?_
    refine Moves.step (State.cutAtT0_moves _) rfl ?_
    refine Moves.step (State.dropClaim_moves _) rfl ?_
    refine Moves.ite (fun _ => ?_) (fun _ => ?_)
    · refine Moves.step (State.pairBoth_moves _ _) rfl ?_
      exact Moves.refl _ _
    · exact Moves.refl _ _

theorem State.cleared_moves (s : State) (a1) : Moves [.regs, .snap, .heldW, .sys, .clk, .tmp, .tim, .ports, .net, .msn, .sht, .wrp, .pen, .slv, .bal, .bem, .key, .hst, .par, .evt, .blk 0x00, .blk 0x01, .blk 0x02, .blk 0x03, .blk 0x04, .blk 0x05, .blk 0x06, .blk 0x07, .blk 0x08, .blk 0x09, .blk 0x0A, .blk 0x0B, .blk 0x0C, .blk 0x0D, .blk 0x0E, .blk 0x0F, .blk 0x10, .blk 0x11, .blk 0x12, .blk 0x13] s (@State.cleared s a1) := by
  unfold State.cleared
  refine Moves.upd_regs_snap_heldW_sys_clk_tmp_tim_ports_net_msn_sht_wrp_pen_slv_bal_bem_key_hst_par_evt rfl (fun b hb => absurd (by clear hb; revert b; decide) hb) ?_ ?_ ?_ ?_ (Moves.refl _ _)
  · exact fun _ => rfl
  · exact fun _ => rfl
  · exact fun _ e he => by simp [State.reset, Hst.reset] at he
  · exact fun _ => ⟨rfl, Nat.zero_le _⟩

theorem State.restartReq_moves (s : State) : Moves [.regs, .snap, .heldW, .sys, .clk, .tmp, .tim, .ports, .net, .msn, .sht, .wrp, .pen, .slv, .bal, .bem, .key, .hst, .par, .evt, .nor, .fresh, .out, .blk 0x00, .blk 0x01, .blk 0x02, .blk 0x03, .blk 0x04, .blk 0x05, .blk 0x06, .blk 0x07, .blk 0x08, .blk 0x09, .blk 0x0A, .blk 0x0B, .blk 0x0C, .blk 0x0D, .blk 0x0E, .blk 0x0F, .blk 0x10, .blk 0x11, .blk 0x12, .blk 0x13] s (@State.restartReq s) := by
  unfold State.restartReq
  split
  · refine Moves.step (State.atT0_moves _ _ _) rfl ?_
    exact Moves.refl _ _
  · refine Moves.step (State.atT0_moves _ _ _) rfl ?_
    exact Moves.refl _ _
  · refine Moves.step (State.cleared_moves _ _) rfl ?_
    refine Moves.step (State.abandonStage_moves _) rfl ?_
    exact Moves.refl _ _
  · exact Moves.refl _ _

theorem State.cfgCtrlEff_moves (s : State) (a1) : Moves [.regs, .snap, .heldW, .sys, .clk, .tmp, .tim, .ports, .net, .msn, .sht, .wrp, .pen, .slv, .bal, .bem, .key, .hst, .par, .evt, .nor, .fresh, .out, .blk 0x00, .blk 0x01, .blk 0x02, .blk 0x03, .blk 0x04, .blk 0x05, .blk 0x06, .blk 0x07, .blk 0x08, .blk 0x09, .blk 0x0A, .blk 0x0B, .blk 0x0C, .blk 0x0D, .blk 0x0E, .blk 0x0F, .blk 0x10, .blk 0x11, .blk 0x12, .blk 0x13] s (@State.cfgCtrlEff s a1).1 := by
  unfold State.cfgCtrlEff
  refine Moves.ite_fst (fun _ => ?_) (fun _ => ?_)
  · dsimp only
    refine Moves.step (State.restartReq_moves _) rfl ?_
    exact Moves.refl _ _
  · dsimp only
    exact Moves.refl _ _

theorem State.cutFlush_moves (s : State) : Moves [.nand, .fresh] s (@State.cutFlush s) := by
  unfold State.cutFlush
  refine Moves.ite (fun _ => ?_) (fun _ => ?_)
  · exact Moves.refl _ _
  · dsimp only
    refine Moves.upd_nand_fresh rfl ?_
    exact Moves.refl _ _

theorem State.ircRole_moves (s : State) : Moves [.regs, .sys, .ports, .net, .msn, .slv, .key, .hst, .par, .evt, .out, .blk 0x06, .blk 0x0C, .blk 0x10, .blk 0x11, .blk 0x13] s (@State.ircRole s) := by
  unfold State.ircRole
  refine Moves.ite (fun _ => ?_) (fun _ => ?_)
  · exact Moves.refl _ _
  · split
    · refine Moves.step (State.claimLost_moves _) rfl ?_
      exact Moves.refl _ _
    · refine Moves.ite (fun _ => ?_) (fun _ => ?_)
      · dsimp only
        refine Moves.upd_sys rfl ?_
        refine Moves.step (State.dropClaim_moves _) rfl ?_
        exact Moves.refl _ _
      · refine Moves.step (State.dropClaim_moves _) rfl ?_
        exact Moves.refl _ _
    · refine Moves.step (State.dropClaim_moves _) rfl ?_
      exact Moves.refl _ _

theorem State.powerFail_moves (s : State) : Moves [.snap, .heldW, .sys, .clk, .tmp, .tim, .ports, .net, .msn, .sht, .wrp, .pen, .slv, .bal, .key, .hst, .par, .nor, .fresh, .out] s (@State.powerFail s) := by
  unfold State.powerFail
  dsimp only
  split
  · exact Moves.refl _ _
  · refine Moves.ite (fun _ => ?_) (fun _ => ?_)
    · refine Moves.upd_sys rfl ?_
      refine Moves.step (State.atT0_moves _ _ _) rfl ?_
      exact Moves.refl _ _
    · refine Moves.upd_sys rfl ?_
      refine Moves.step (State.atT0_moves _ _ _) rfl ?_
      exact Moves.refl _ _
  · refine Moves.upd_sys rfl ?_
    refine Moves.step (State.atT0_moves _ _ _) rfl ?_
    exact Moves.refl _ _
  · refine Moves.upd_sys rfl ?_
    refine Moves.step (State.atT0_moves _ _ _) rfl ?_
    exact Moves.refl _ _
  · refine Moves.upd_sys rfl ?_
    refine Moves.step (State.atT0_moves _ _ _) rfl ?_
    exact Moves.refl _ _
  · refine Moves.upd_sys rfl ?_
    refine Moves.step (State.atT0_moves _ _ _) rfl ?_
    exact Moves.refl _ _
  · refine Moves.upd_sys rfl ?_
    exact Moves.refl _ _
  · refine Moves.upd_sys rfl ?_
    exact Moves.refl _ _

theorem State.sealOpens_moves (s : State) : Moves [.regs, .slv, .hst, .par, .evt, .nand, .out, .blk 0x0C, .blk 0x11, .blk 0x13] s (@State.sealOpens s) := by
  unfold State.sealOpens
  dsimp only
  refine Moves.step (State.raise_moves _ _ _ _ _ _ _) rfl ?_
  refine Moves.ite (fun _ => ?_) (fun _ => ?_)
  · refine Moves.step (State.setCause_moves _ _) rfl ?_
    exact Moves.refl _ _
  · refine Moves.step (State.setCauseRaw_moves _ _) rfl ?_
    exact Moves.refl _ _

theorem execPowerFailLatch_ends (a0) (s : State) : Ends [.snap, .heldW, .sys, .clk, .tmp, .tim, .ports, .net, .msn, .sht, .wrp, .pen, .slv, .bal, .key, .hst, .par, .nor, .fresh, .out] s (@execPowerFailLatch a0 s) := by
  unfold execPowerFailLatch
  refine Ends.next ?_
  refine Moves.step (State.powerFail_moves _) rfl ?_
  refine Moves.step (State.reach_moves _ _) rfl ?_
  exact Moves.refl _ _

theorem execFlushComplete_ends (a0) (s : State) : Ends [.sys, .bem, .nand] s (@execFlushComplete a0 s) := by
  unfold execFlushComplete
  refine Ends.ite (fun _ => ?_) (fun _ => ?_)
  · refine Ends.next ?_
    exact Moves.refl _ _
  · dsimp only
    refine Ends.next ?_
    refine Moves.upd_sys_bem_nand rfl ?_
    exact Moves.refl _ _

theorem execSealChange_ends (a0) (a1) (s : State) : Ends [.regs, .sys, .tim, .slv, .hst, .par, .evt, .nand, .out, .blk 0x0C, .blk 0x11, .blk 0x13] s (@execSealChange a0 a1 s) := by
  unfold execSealChange
  dsimp only
  refine Ends.ite (fun _ => ?_) (fun _ => ?_)
  · refine Ends.next ?_
    refine Moves.step (State.reach_moves _ _) rfl ?_
    exact Moves.refl _ _
  · refine Ends.ite (fun _ => ?_) (fun _ => ?_)
    · refine Ends.next ?_
      refine Moves.upd_sys rfl ?_
      refine Moves.step (State.reach_moves _ _) rfl ?_
      exact Moves.refl _ _
    · refine Ends.next ?_
      refine Moves.ite (fun _ => ?_) (fun _ => ?_)
      · refine Moves.step (State.audit_moves _ _) rfl ?_
        refine Moves.ite (fun _ => ?_) (fun _ => ?_)
        · refine Moves.step (State.endMaintenance_moves _) rfl ?_
          refine Moves.upd_sys rfl ?_
          refine Moves.step (State.reach_moves _ _) rfl ?_
          exact Moves.refl _ _
        · refine Moves.upd_slv rfl ?_
          refine Moves.step (State.sealOpens_moves _) rfl ?_
          refine Moves.upd_sys rfl ?_
          refine Moves.step (State.reach_moves _ _) rfl ?_
          exact Moves.refl _ _
      · refine Moves.ite (fun _ => ?_) (fun _ => ?_)
        · refine Moves.step (State.endMaintenance_moves _) rfl ?_
          refine Moves.upd_sys rfl ?_
          refine Moves.step (State.reach_moves _ _) rfl ?_
          exact Moves.refl _ _
        · refine Moves.upd_slv rfl ?_
          refine Moves.step (State.sealOpens_moves _) rfl ?_
          refine Moves.upd_sys rfl ?_
          refine Moves.step (State.reach_moves _ _) rfl ?_
          exact Moves.refl _ _

theorem execRefclkQualified_ends (a0) (s : State) : Ends [.regs, .clk, .tim, .ports, .net, .msn, .hst, .evt, .out, .blk 0x06, .blk 0x11, .blk 0x13] s (@execRefclkQualified a0 s) := by
  unfold execRefclkQualified
  dsimp only
  refine Ends.ite (fun _ => ?_) (fun _ => ?_)
  · refine Ends.next ?_
    refine Moves.step (State.reach_moves _ _) rfl ?_
    exact Moves.refl _ _
  · refine Ends.ite (fun _ => ?_) (fun _ => ?_)
    · refine Ends.next ?_
      refine Moves.upd_clk rfl ?_
      refine Moves.step (State.reach_moves _ _) rfl ?_
      exact Moves.refl _ _
    · refine Ends.next ?_
      refine Moves.step (State.blockAll_moves _ _) rfl ?_
      refine Moves.ite (fun _ => ?_) (fun _ => ?_)
      · refine Moves.step (State.raise_moves _ _ _ _ _ _ _) rfl ?_
        refine Moves.step (State.endEv_moves _ _ _) rfl ?_
        refine Moves.upd_clk_tim rfl ?_
        refine Moves.step (State.reach_moves _ _) rfl ?_
        exact Moves.refl _ _
      · refine Moves.step (State.endEv_moves _ _ _) rfl ?_
        refine Moves.upd_clk_tim rfl ?_
        refine Moves.step (State.reach_moves _ _) rfl ?_
        exact Moves.refl _ _

theorem execPorstNAssert_ends (s : State) : Ends [.regs, .snap, .heldW, .sys, .clk, .tmp, .tim, .ports, .net, .msn, .sht, .wrp, .pen, .slv, .bal, .bem, .key, .hst, .par, .evt, .nor, .nand, .fresh, .blk 0x00, .blk 0x01, .blk 0x02, .blk 0x03, .blk 0x04, .blk 0x05, .blk 0x06, .blk 0x07, .blk 0x08, .blk 0x09, .blk 0x0A, .blk 0x0B, .blk 0x0C, .blk 0x0D, .blk 0x0E, .blk 0x0F, .blk 0x10, .blk 0x11, .blk 0x12, .blk 0x13] s (@execPorstNAssert s) := by
  unfold execPorstNAssert
  dsimp only
  refine Ends.next ?_
  refine Moves.upd_sys rfl ?_
  refine Moves.step (State.cleared_moves _ _) rfl ?_
  refine Moves.step (State.abandonStage_moves _) rfl ?_
  refine Moves.step (State.cutFlush_moves _) rfl ?_
  exact Moves.refl _ _

theorem execSynthesiserRelock_ends (s : State) : Ends [.clk] s (@execSynthesiserRelock s) := by
  unfold execSynthesiserRelock
  refine Ends.next ?_
  refine Moves.upd_clk rfl ?_
  exact Moves.refl _ _

theorem execPorstNRelease_ends (a0) (a1) (a2) (a3) (a4) (a5) (s : State) : Ends [.regs, .snap, .heldW, .sys, .clk, .tmp, .tim, .ports, .net, .msn, .sht, .wrp, .pen, .slv, .bal, .bem, .key, .hst, .par, .evt, .blk 0x00, .blk 0x01, .blk 0x02, .blk 0x03, .blk 0x04, .blk 0x05, .blk 0x06, .blk 0x07, .blk 0x08, .blk 0x09, .blk 0x0A, .blk 0x0B, .blk 0x0C, .blk 0x0D, .blk 0x0E, .blk 0x0F, .blk 0x10, .blk 0x11, .blk 0x12, .blk 0x13] s (@execPorstNRelease a0 a1 a2 a3 a4 a5 s) := by
  unfold execPorstNRelease
  refine Ends.ite (fun _ => ?_) (fun _ => ?_)
  · refine Ends.next ?_
    exact Moves.refl _ _
  · dsimp only
    refine Ends.next ?_
    refine Moves.upd_sys rfl ?_
    refine Moves.step (State.cleared_moves _ _) rfl ?_
    exact Moves.refl _ _

theorem execFlushedReset_ends (s : State) : Ends [.regs, .snap, .heldW, .sys, .clk, .tmp, .tim, .ports, .net, .msn, .sht, .wrp, .pen, .slv, .bal, .bem, .key, .hst, .par, .evt, .blk 0x00, .blk 0x01, .blk 0x02, .blk 0x03, .blk 0x04, .blk 0x05, .blk 0x06, .blk 0x07, .blk 0x08, .blk 0x09, .blk 0x0A, .blk 0x0B, .blk 0x0C, .blk 0x0D, .blk 0x0E, .blk 0x0F, .blk 0x10, .blk 0x11, .blk 0x12, .blk 0x13] s (@execFlushedReset s) := by
  unfold execFlushedReset
  refine Ends.ite (fun _ => ?_) (fun _ => ?_)
  · refine Ends.next ?_
    exact Moves.refl _ _
  · refine Ends.next ?_
    refine Moves.step (State.cleared_moves _ _) rfl ?_
    exact Moves.refl _ _

theorem execRefclkLost_ends (a0) (a1) (s : State) : Ends [.regs, .sys, .clk, .tim, .ports, .net, .msn, .slv, .key, .hst, .par, .evt, .out, .blk 0x06, .blk 0x0C, .blk 0x10, .blk 0x11, .blk 0x13] s (@execRefclkLost a0 a1 s) := by
  unfold execRefclkLost
  dsimp only
  refine Ends.ite (fun _ => ?_) (fun _ => ?_)
  · refine Ends.next ?_
    refine Moves.step (State.reach_moves _ _) rfl ?_
    exact Moves.refl _ _
  · refine Ends.next ?_
    refine Moves.step (State.blockAll_moves _ _) rfl ?_
    refine Moves.step (State.ircRole_moves _) rfl ?_
    refine Moves.step (State.linksDown_moves _) rfl ?_
    refine Moves.step (State.endSessions_moves _) rfl ?_
    refine Moves.upd_hst rfl ?_ ?_
    · exact fun h => h
    · refine Moves.step (State.holdover_moves _ _) rfl ?_
      refine Moves.step (State.holdover_moves _ _) rfl ?_
      refine Moves.step (State.raise_moves _ _ _ _ _ _ _) rfl ?_
      refine Moves.step (State.emit_moves _ _) rfl ?_
      refine Moves.upd_clk_tim rfl ?_
      refine Moves.step (State.reach_moves _ _) rfl ?_
      exact Moves.refl _ _

theorem execRestart_ends (a0) (a1) (s : State) : Ends [.regs, .snap, .heldW, .sys, .clk, .tmp, .tim, .ports, .net, .msn, .sht, .wrp, .pen, .slv, .bal, .bem, .key, .hst, .par, .evt, .nor, .fresh, .out, .blk 0x00, .blk 0x01, .blk 0x02, .blk 0x03, .blk 0x04, .blk 0x05, .blk 0x06, .blk 0x07, .blk 0x08, .blk 0x09, .blk 0x0A, .blk 0x0B, .blk 0x0C, .blk 0x0D, .blk 0x0E, .blk 0x0F, .blk 0x10, .blk 0x11, .blk 0x12, .blk 0x13] s (@execRestart a0 a1 s) := by
  unfold execRestart
  refine Ends.next ?_
  refine State.writeRow_moves _ _ _ _ rfl ?_ ?_
  · refine Moves.step (State.cfgCtrlEff_moves _ _) rfl ?_
    exact Moves.refl _ _
  · exact Moves.refl _ _

end Sys2Proof.Machine
end

