-- ==== Sys2Proof/Laws/Islands.lean ====
section
/-!
SUPPORT. How far each operation of Machine/Islands.lean can change the state.
-/

namespace Sys2Proof.Machine
open Sys2Proof

theorem State.closeIsl_moves (s : State) (a1) : Moves [.regs, .clk, .ports, .net, .msn, .sht, .out, .blk 0x06] s (@State.closeIsl s a1) := by
  unfold State.closeIsl
  dsimp only
  refine Moves.ite (fun _ => ?_) (fun _ => ?_)
  · refine Moves.ite (fun _ => ?_) (fun _ => ?_)
    · refine Moves.step (State.setIsl_moves _ _ _) rfl ?_
      exact Moves.refl _ _
    · exact Moves.refl _ _
  · refine Moves.ite (fun _ => ?_) (fun _ => ?_)
    · refine Moves.step (State.setIsl_moves _ _ _) rfl ?_
      exact Moves.refl _ _
    · refine Moves.ite (fun _ => ?_) (fun _ => ?_)
      · refine Moves.foldl _ _ (fun _ _ => ?_) ?_
        · refine Moves.step (State.withdrawCore_moves _ _) rfl ?_
          exact Moves.refl _ _
        · refine Moves.step (State.setIsl_moves _ _ _) rfl ?_
          exact Moves.refl _ _
      · refine Moves.ite (fun _ => ?_) (fun _ => ?_)
        · refine Moves.foldl _ _ (fun _ _ => ?_) ?_
          · refine Moves.step (State.drainPort_moves _ _) rfl ?_
            exact Moves.refl _ _
          · refine Moves.step (State.setIsl_moves _ _ _) rfl ?_
            exact Moves.refl _ _
        · refine Moves.step (State.setIsl_moves _ _ _) rfl ?_
          exact Moves.refl _ _

theorem State.startGroup_moves (s : State) (a1) (a2) (a3) : Moves [.regs, .ports, .net, .msn, .hst, .evt, .fresh, .out, .blk 0x06, .blk 0x08, .blk 0x11, .blk 0x13] s (@State.startGroup s a1 a2 a3) := by
  unfold State.startGroup
  refine Moves.foldl _ _ (fun _ _ => ?_) ?_
  · refine Moves.step (State.startPort_moves _ _ _ _) rfl ?_
    refine Moves.step (State.setPort_moves _ _ _) rfl ?_
    exact Moves.refl _ _
  · exact Moves.refl _ _

theorem State.loadReg_moves (s : State) (x) : Moves [.regs, .blk 0x00, .blk 0x01, .blk 0x02, .blk 0x03, .blk 0x04, .blk 0x05, .blk 0x06, .blk 0x07, .blk 0x08, .blk 0x09, .blk 0x0A, .blk 0x0B, .blk 0x0C, .blk 0x0D, .blk 0x0E, .blk 0x0F, .blk 0x10, .blk 0x11, .blk 0x12, .blk 0x13] s (@State.loadReg s x) := by
  unfold State.loadReg State.setReg
  refine Moves.upd_regs rfl (fun b hb => absurd (by clear hb; revert b; decide) hb) (fun h => wf_regPut h _ _) (Moves.refl _ _)

theorem State.loadRegs_moves (s : State) (a1) : Moves [.regs, .tim, .blk 0x00, .blk 0x01, .blk 0x02, .blk 0x03, .blk 0x04, .blk 0x05, .blk 0x06, .blk 0x07, .blk 0x08, .blk 0x09, .blk 0x0A, .blk 0x0B, .blk 0x0C, .blk 0x0D, .blk 0x0E, .blk 0x0F, .blk 0x10, .blk 0x11, .blk 0x12, .blk 0x13] s (@State.loadRegs s a1) := by
  unfold State.loadRegs
  split
  · exact Moves.refl _ _
  · dsimp only
    refine Moves.ite (fun _ => ?_) (fun _ => ?_)
    · refine Moves.upd_tim rfl ?_
      refine Moves.foldl _ _ (fun _ _ => ?_) ?_
      · refine Moves.step (State.loadReg_moves _ _) rfl ?_
        exact Moves.refl _ _
      · refine Moves.foldl _ _ (fun _ _ => ?_) ?_
        · refine Moves.step (State.loadReg_moves _ _) rfl ?_
          exact Moves.refl _ _
        · exact Moves.refl _ _
    · refine Moves.foldl _ _ (fun _ _ => ?_) ?_
      · refine Moves.step (State.loadReg_moves _ _) rfl ?_
        exact Moves.refl _ _
      · refine Moves.foldl _ _ (fun _ _ => ?_) ?_
        · refine Moves.step (State.loadReg_moves _ _) rfl ?_
          exact Moves.refl _ _
        · exact Moves.refl _ _

theorem State.resetIsl_moves (s : State) (a1) : Moves [.regs, .snap, .heldW, .blk 0x00, .blk 0x01, .blk 0x02, .blk 0x03, .blk 0x04, .blk 0x05, .blk 0x06, .blk 0x07, .blk 0x08, .blk 0x09, .blk 0x0A, .blk 0x0B, .blk 0x0C, .blk 0x0D, .blk 0x0E, .blk 0x0F, .blk 0x10, .blk 0x11, .blk 0x12, .blk 0x13] s (@State.resetIsl s a1) := by
  unfold State.resetIsl
  dsimp only
  refine Moves.upd_regs_snap_heldW rfl ?_ ?_ ?_
  · exact fun b hb => absurd (by clear hb; revert b; decide) hb
  · exact fun h => Store.wf_filter h _
  · exact Moves.refl _ _

theorem State.openIsl_moves (s : State) (a1) : Moves [.regs, .snap, .heldW, .clk, .tmp, .tim, .out, .blk 0x00, .blk 0x01, .blk 0x02, .blk 0x03, .blk 0x04, .blk 0x05, .blk 0x06, .blk 0x07, .blk 0x08, .blk 0x09, .blk 0x0A, .blk 0x0B, .blk 0x0C, .blk 0x0D, .blk 0x0E, .blk 0x0F, .blk 0x10, .blk 0x11, .blk 0x12, .blk 0x13] s (@State.openIsl s a1) := by
  unfold State.openIsl
  dsimp only
  refine Moves.ite (fun _ => ?_) (fun _ => ?_)
  · exact Moves.refl _ _
  · refine Moves.step (State.loadRegs_moves _ _) rfl ?_
    refine Moves.step (State.trimRail_moves _ _) rfl ?_
    refine Moves.step (State.retarget_moves _ _) rfl ?_
    refine Moves.step (State.setIsl_moves _ _ _) rfl ?_
    refine Moves.step (State.resetIsl_moves _ _) rfl ?_
    exact Moves.refl _ _

theorem State.openJoin_moves (s : State) (a1) (a2) (a3) : Moves [.regs, .snap, .heldW, .clk, .tmp, .tim, .ports, .net, .msn, .sht, .hst, .evt, .fresh, .out, .blk 0x00, .blk 0x01, .blk 0x02, .blk 0x03, .blk 0x04, .blk 0x05, .blk 0x06, .blk 0x07, .blk 0x08, .blk 0x09, .blk 0x0A, .blk 0x0B, .blk 0x0C, .blk 0x0D, .blk 0x0E, .blk 0x0F, .blk 0x10, .blk 0x11, .blk 0x12, .blk 0x13] s (@State.openJoin s a1 a2 a3) := by
  unfold State.openJoin
  dsimp only
  refine Moves.ite (fun _ => ?_) (fun _ => ?_)
  · refine Moves.step (State.serve_moves _) rfl ?_
    refine Moves.foldl _ _ (fun _ _ => ?_) ?_
    · refine Moves.step (State.addCore_moves _ _) rfl ?_
      exact Moves.refl _ _
    · refine Moves.step (State.openIsl_moves _ _) rfl ?_
      exact Moves.refl _ _
  · refine Moves.ite (fun _ => ?_) (fun _ => ?_)
    · refine Moves.step (State.startGroup_moves _ _ _ _) rfl ?_
      refine Moves.step (State.openIsl_moves _ _) rfl ?_
      exact Moves.refl _ _
    · refine Moves.step (State.openIsl_moves _ _) rfl ?_
      exact Moves.refl _ _

theorem State.requestOpen_moves (s : State) (a1) (a2) (a3) : Moves [.regs, .snap, .heldW, .clk, .tmp, .tim, .ports, .net, .msn, .sht, .hst, .evt, .fresh, .out, .blk 0x00, .blk 0x01, .blk 0x02, .blk 0x03, .blk 0x04, .blk 0x05, .blk 0x06, .blk 0x07, .blk 0x08, .blk 0x09, .blk 0x0A, .blk 0x0B, .blk 0x0C, .blk 0x0D, .blk 0x0E, .blk 0x0F, .blk 0x10, .blk 0x11, .blk 0x12, .blk 0x13] s (@State.requestOpen s a1 a2 a3) := by
  unfold State.requestOpen
  refine Moves.ite (fun _ => ?_) (fun _ => ?_)
  · refine Moves.step (State.openJoin_moves _ _ _ _) rfl ?_
    exact Moves.refl _ _
  · dsimp only
    refine Moves.step (State.setIsl_moves _ _ _) rfl ?_
    refine Moves.ite (fun _ => ?_) (fun _ => ?_)
    · exact Moves.refl _ _
    · refine Moves.step (State.pushRail_moves _ _ _) rfl ?_
      exact Moves.refl _ _

theorem State.islEnEff_moves (a0) (a1) (s : State) (a3) : Moves [.regs, .snap, .heldW, .clk, .tmp, .tim, .ports, .net, .msn, .sht, .hst, .evt, .fresh, .out, .blk 0x00, .blk 0x01, .blk 0x02, .blk 0x03, .blk 0x04, .blk 0x05, .blk 0x06, .blk 0x07, .blk 0x08, .blk 0x09, .blk 0x0A, .blk 0x0B, .blk 0x0C, .blk 0x0D, .blk 0x0E, .blk 0x0F, .blk 0x10, .blk 0x11, .blk 0x12, .blk 0x13] s (@State.islEnEff a0 a1 s a3).1 := by
  unfold State.islEnEff
  dsimp only
  refine Moves.ite_fst (fun _ => ?_) (fun _ => ?_)
  · dsimp only
    exact Moves.refl _ _
  · dsimp only
    refine Moves.foldl _ _ (fun _ _ => ?_) ?_
    · refine Moves.ite (fun _ => ?_) (fun _ => ?_)
      · refine Moves.step (State.closeIsl_moves _ _) rfl ?_
        exact Moves.refl _ _
      · refine Moves.ite (fun _ => ?_) (fun _ => ?_)
        · refine Moves.step (State.setIsl_moves _ _ _) rfl ?_
          exact Moves.refl _ _
        · refine Moves.ite (fun _ => ?_) (fun _ => ?_)
          · exact Moves.refl _ _
          · refine Moves.step (State.requestOpen_moves _ _ _ _) rfl ?_
            exact Moves.refl _ _
    · exact Moves.refl _ _

theorem State.openWaiting_moves (s : State) (a1) : Moves [.regs, .snap, .heldW, .clk, .tmp, .tim, .ports, .net, .msn, .sht, .hst, .evt, .fresh, .out, .blk 0x00, .blk 0x01, .blk 0x02, .blk 0x03, .blk 0x04, .blk 0x05, .blk 0x06, .blk 0x07, .blk 0x08, .blk 0x09, .blk 0x0A, .blk 0x0B, .blk 0x0C, .blk 0x0D, .blk 0x0E, .blk 0x0F, .blk 0x10, .blk 0x11, .blk 0x12, .blk 0x13] s (@State.openWaiting s a1) := by
  unfold State.openWaiting
  refine Moves.foldl _ _ (fun _ _ => ?_) ?_
  · split
    · refine Moves.ite (fun _ => ?_) (fun _ => ?_)
      · refine Moves.step (State.requestOpen_moves _ _ _ _) rfl ?_
        exact Moves.refl _ _
      · exact Moves.refl _ _
    · exact Moves.refl _ _
  · exact Moves.refl _ _

theorem execIslandCloseComplete_ends (a0) (a1) (a2) (s : State) : Ends [.regs, .snap, .heldW, .clk, .tmp, .tim, .ports, .net, .msn, .sht, .hst, .evt, .fresh, .out, .blk 0x00, .blk 0x01, .blk 0x02, .blk 0x03, .blk 0x04, .blk 0x05, .blk 0x06, .blk 0x07, .blk 0x08, .blk 0x09, .blk 0x0A, .blk 0x0B, .blk 0x0C, .blk 0x0D, .blk 0x0E, .blk 0x0F, .blk 0x10, .blk 0x11, .blk 0x12, .blk 0x13] s (@execIslandCloseComplete a0 a1 a2 s) := by
  unfold execIslandCloseComplete
  dsimp only
  refine Ends.ite (fun _ => ?_) (fun _ => ?_)
  · refine Ends.next ?_
    refine Moves.step (State.reach_moves _ _) rfl ?_
    exact Moves.refl _ _
  · refine Ends.next ?_
    refine Moves.ite (fun _ => ?_) (fun _ => ?_)
    · refine Moves.step (State.requestOpen_moves _ _ _ _) rfl ?_
      refine Moves.step (State.trimRail_moves _ _) rfl ?_
      refine Moves.step (State.setIsl_moves _ _ _) rfl ?_
      refine Moves.step (State.reach_moves _ _) rfl ?_
      exact Moves.refl _ _
    · refine Moves.step (State.trimRail_moves _ _) rfl ?_
      refine Moves.step (State.setIsl_moves _ _ _) rfl ?_
      refine Moves.step (State.reach_moves _ _) rfl ?_
      exact Moves.refl _ _

theorem execAvsWriteSettled_ends (a0) (s : State) : Ends [.regs, .snap, .heldW, .clk, .tmp, .tim, .ports, .net, .msn, .sht, .hst, .evt, .fresh, .out, .blk 0x00, .blk 0x01, .blk 0x02, .blk 0x03, .blk 0x04, .blk 0x05, .blk 0x06, .blk 0x07, .blk 0x08, .blk 0x09, .blk 0x0A, .blk 0x0B, .blk 0x0C, .blk 0x0D, .blk 0x0E, .blk 0x0F, .blk 0x10, .blk 0x11, .blk 0x12, .blk 0x13] s (@execAvsWriteSettled a0 s) := by
  unfold execAvsWriteSettled
  dsimp only
  split
  · refine Ends.next ?_
    exact Moves.refl _ _
  · refine Ends.ite (fun _ => ?_) (fun _ => ?_)
    · refine Ends.next ?_
      exact Moves.refl _ _
    · refine Ends.next ?_
      refine Moves.step (State.openWaiting_moves _ _) rfl ?_
      refine Moves.step (State.advanceRail_moves _ _) rfl ?_
      refine Moves.ite (fun _ => ?_) (fun _ => ?_)
      · refine Moves.step (State.railBack_moves _ _) rfl ?_
        split
        · refine Moves.upd_clk rfl ?_
          exact Moves.refl _ _
        · refine Moves.step (State.emit_moves _ _) rfl ?_
          refine Moves.upd_clk rfl ?_
          exact Moves.refl _ _
      · split
        · refine Moves.upd_clk rfl ?_
          exact Moves.refl _ _
        · refine Moves.step (State.emit_moves _ _) rfl ?_
          refine Moves.upd_clk rfl ?_
          exact Moves.refl _ _

theorem execIslandOpen_ends (a0) (a1) (a2) (a3) (s : State) : Ends [.regs, .snap, .heldW, .clk, .tmp, .tim, .ports, .net, .msn, .sht, .hst, .evt, .fresh, .out, .blk 0x00, .blk 0x01, .blk 0x02, .blk 0x03, .blk 0x04, .blk 0x05, .blk 0x06, .blk 0x07, .blk 0x08, .blk 0x09, .blk 0x0A, .blk 0x0B, .blk 0x0C, .blk 0x0D, .blk 0x0E, .blk 0x0F, .blk 0x10, .blk 0x11, .blk 0x12, .blk 0x13] s (@execIslandOpen a0 a1 a2 a3 s) := by
  unfold execIslandOpen
  dsimp only
  refine Ends.next ?_
  refine State.writeRow_moves _ _ _ _ rfl ?_ ?_
  · refine Moves.step (State.islEnEff_moves _ _ _ _) rfl ?_
    exact Moves.refl _ _
  · refine Moves.step (State.reach_moves _ _) rfl ?_
    exact Moves.refl _ _

theorem execIslandClose_ends (a0) (a1) (s : State) : Ends [.regs, .snap, .heldW, .clk, .tmp, .tim, .ports, .net, .msn, .sht, .hst, .evt, .fresh, .out, .blk 0x00, .blk 0x01, .blk 0x02, .blk 0x03, .blk 0x04, .blk 0x05, .blk 0x06, .blk 0x07, .blk 0x08, .blk 0x09, .blk 0x0A, .blk 0x0B, .blk 0x0C, .blk 0x0D, .blk 0x0E, .blk 0x0F, .blk 0x10, .blk 0x11, .blk 0x12, .blk 0x13] s (@execIslandClose a0 a1 s) := by
  unfold execIslandClose
  refine Ends.next ?_
  refine State.writeRow_moves _ _ _ _ rfl ?_ ?_
  · refine Moves.step (State.islEnEff_moves _ _ _ _) rfl ?_
    exact Moves.refl _ _
  · exact Moves.refl _ _

end Sys2Proof.Machine
end

