-- ==== Sys2Proof/Laws/Startup.lean ====
section
/-!
SUPPORT. How far each operation of Machine/Startup.lean can change the state.
-/

namespace Sys2Proof.Machine
open Sys2Proof

theorem State.applyRatchet_moves (s : State) : Moves [.clk] s (@State.applyRatchet s) := by
  unfold State.applyRatchet
  refine Moves.foldl _ _ (fun _ _ => ?_) ?_
  · dsimp only
    refine Moves.step (State.setIsl_moves _ _ _) rfl ?_
    exact Moves.refl _ _
  · exact Moves.refl _ _

theorem State.avsStart_moves (s : State) (a1) : Moves [.clk, .out] s (@State.avsStart s a1) := by
  unfold State.avsStart
  dsimp only
  refine Moves.upd_clk_out rfl ?_
  exact Moves.refl _ _

theorem State.chooseSlot_moves (s : State) : Moves [.regs, .sys, .hst, .evt, .nor, .blk 0x11, .blk 0x13] s (@State.chooseSlot s) := by
  unfold State.chooseSlot
  dsimp only
  refine Moves.ite (fun _ => ?_) (fun _ => ?_)
  · refine Moves.step (State.raise_moves _ _ _ _ _ _ _) rfl ?_
    refine Moves.upd_sys_nor rfl ?_
    exact Moves.refl _ _
  · refine Moves.ite (fun _ => ?_) (fun _ => ?_)
    · refine Moves.upd_sys_nor rfl ?_
      exact Moves.refl _ _
    · refine Moves.upd_sys rfl ?_
      exact Moves.refl _ _

theorem State.closeHandoff_moves (s : State) : Moves [.regs, .slv, .blk 0x0C] s (@State.closeHandoff s) := by
  unfold State.closeHandoff
  refine Moves.step (State.refuseInbox_moves _) rfl ?_
  refine Moves.upd_slv rfl ?_
  exact Moves.refl _ _

theorem State.confirmBoot_moves (s : State) : Moves [.nor] s (@State.confirmBoot s) := by
  unfold State.confirmBoot
  dsimp only
  refine Moves.ite (fun _ => ?_) (fun _ => ?_)
  · refine Moves.upd_nor rfl ?_
    exact Moves.refl _ _
  · exact Moves.refl _ _

theorem State.decideRole_moves (s : State) (a1) : Moves [.sys] s (@State.decideRole s a1) := by
  unfold State.decideRole
  refine Moves.upd_sys rfl ?_
  exact Moves.refl _ _

theorem State.finishMoves_moves (s : State) : Moves [.regs, .wrp, .slv, .bem, .hst, .par, .evt, .nand, .out, .blk 0x0C, .blk 0x0F, .blk 0x11, .blk 0x13] s (@State.finishMoves s) := by
  unfold State.finishMoves
  dsimp only
  refine Moves.foldl _ _ (fun _ _ => ?_) ?_
  · refine Moves.ite (fun _ => ?_) (fun _ => ?_)
    · refine Moves.step (State.eraseBlock_moves _ _) rfl ?_
      exact Moves.refl _ _
    · exact Moves.refl _ _
  · refine Moves.upd_bem rfl ?_
    exact Moves.refl _ _

theorem State.firstOffset_moves (s : State) : Moves [.tim] s (@State.firstOffset s) := by
  unfold State.firstOffset
  dsimp only
  refine Moves.upd_tim rfl ?_
  exact Moves.refl _ _

theorem State.format_moves (s : State) (a1) : Moves [.regs, .sys, .bem, .hst, .evt, .nand, .blk 0x11, .blk 0x13] s (@State.format s a1) := by
  unfold State.format
  dsimp only
  refine Moves.step (State.raise_moves _ _ _ _ _ _ _) rfl ?_
  refine Moves.upd_sys_bem_nand rfl ?_
  exact Moves.refl _ _

theorem State.startFail_moves (s : State) (a1) (a2) : Moves [.regs, .hst, .evt, .blk 0x11, .blk 0x13] s (@State.startFail s a1 a2) := by
  unfold State.startFail
  refine Moves.step (State.raise_moves _ _ _ _ _ _ _) rfl ?_
  exact Moves.refl _ _

theorem State.halt_moves (s : State) (a1) : Moves [.regs, .sys, .hst, .evt, .blk 0x11, .blk 0x13] s (@State.halt s a1) := by
  unfold State.halt
  dsimp only
  refine Moves.upd_sys rfl ?_
  refine Moves.step (State.startFail_moves _ _ _) rfl ?_
  exact Moves.refl _ _

theorem State.loadImage_moves (s : State) (a1) : Moves [.regs, .tim, .pen, .bal, .bem, .key, .blk 0x00, .blk 0x01, .blk 0x02, .blk 0x03, .blk 0x04, .blk 0x05, .blk 0x06, .blk 0x07, .blk 0x08, .blk 0x09, .blk 0x0A, .blk 0x0B, .blk 0x0C, .blk 0x0D, .blk 0x0E, .blk 0x0F, .blk 0x10, .blk 0x11, .blk 0x12, .blk 0x13] s (@State.loadImage s a1) := by
  unfold State.loadImage
  dsimp only
  refine Moves.upd_pen_bal_bem_key rfl ?_
  refine Moves.foldl _ _ (fun _ _ => ?_) ?_
  · refine Moves.step (State.loadRegs_moves _ _) rfl ?_
    exact Moves.refl _ _
  · exact Moves.refl _ _

theorem State.loadKeys_moves (s : State) (a1) : Moves [.regs, .key, .hst, .evt, .fresh, .blk 0x11, .blk 0x13] s (@State.loadKeys s a1) := by
  unfold State.loadKeys
  dsimp only
  refine Moves.ite (fun _ => ?_) (fun _ => ?_)
  · refine Moves.step (State.raise_moves _ _ _ _ _ _ _) rfl ?_
    refine Moves.step (State.used_moves _) rfl ?_
    refine Moves.upd_key rfl ?_
    exact Moves.refl _ _
  · split
    · refine Moves.upd_key rfl ?_
      refine Moves.ite (fun _ => ?_) (fun _ => ?_)
      · refine Moves.upd_key rfl ?_
        exact Moves.refl _ _
      · refine Moves.upd_key rfl ?_
        exact Moves.refl _ _
    · refine Moves.step (State.startFail_moves _ _ _) rfl ?_
      refine Moves.step (State.raise_moves _ _ _ _ _ _ _) rfl ?_
      refine Moves.upd_key rfl ?_
      refine Moves.ite (fun _ => ?_) (fun _ => ?_)
      · refine Moves.upd_key rfl ?_
        exact Moves.refl _ _
      · refine Moves.upd_key rfl ?_
        exact Moves.refl _ _

theorem State.loadTemple_moves (s : State) (a1) : Moves [.regs, .clk, .tmp, .hst, .evt, .blk 0x11, .blk 0x13] s (@State.loadTemple s a1) := by
  unfold State.loadTemple
  dsimp only
  refine Moves.upd_tmp rfl ?_
  refine Moves.foldl _ _ (fun _ _ => ?_) ?_
  · refine Moves.step (State.raise_moves _ _ _ _ _ _ _) rfl ?_
    exact Moves.refl _ _
  · refine Moves.foldl _ _ (fun _ _ => ?_) ?_
    · split
      · refine Moves.step (State.setIsl_moves _ _ _) rfl ?_
        exact Moves.refl _ _
      · refine Moves.step (State.setIsl_moves _ _ _) rfl ?_
        exact Moves.refl _ _
    · exact Moves.refl _ _

theorem State.recoverFlush_moves (s : State) : Moves [.regs, .slv, .bem, .hst, .evt, .nand, .blk 0x0F, .blk 0x11, .blk 0x13] s (@State.recoverFlush s) := by
  unfold State.recoverFlush
  dsimp only
  split
  · refine Moves.ite (fun _ => ?_) (fun _ => ?_)
    · refine repeatN_moves _ _ (fun _ => ?_) ?_
      · refine Moves.step (State.archiveOut_moves _) rfl ?_
        exact Moves.refl _ _
      · refine Moves.upd_slv_bem rfl ?_
        refine Moves.ite (fun _ => ?_) (fun _ => ?_)
        · refine Moves.upd_nand rfl ?_
          exact Moves.refl _ _
        · refine repeatN_moves _ _ (fun _ => ?_) ?_
          · refine Moves.step (State.journalOut_moves _) rfl ?_
            exact Moves.refl _ _
          · refine Moves.upd_slv_nand rfl ?_
            exact Moves.refl _ _
    · refine Moves.upd_slv rfl ?_
      refine Moves.ite (fun _ => ?_) (fun _ => ?_)
      · refine Moves.upd_nand rfl ?_
        exact Moves.refl _ _
      · refine repeatN_moves _ _ (fun _ => ?_) ?_
        · refine Moves.step (State.journalOut_moves _) rfl ?_
          exact Moves.refl _ _
        · refine Moves.upd_slv_nand rfl ?_
          exact Moves.refl _ _
  · refine Moves.upd_bem rfl ?_
    refine Moves.ite (fun _ => ?_) (fun _ => ?_)
    · refine repeatN_moves _ _ (fun _ => ?_) ?_
      · refine Moves.step (State.archiveOut_moves _) rfl ?_
        exact Moves.refl _ _
      · refine Moves.upd_slv_bem rfl ?_
        refine Moves.ite (fun _ => ?_) (fun _ => ?_)
        · refine Moves.upd_nand rfl ?_
          exact Moves.refl _ _
        · refine repeatN_moves _ _ (fun _ => ?_) ?_
          · refine Moves.step (State.journalOut_moves _) rfl ?_
            exact Moves.refl _ _
          · refine Moves.upd_slv_nand rfl ?_
            exact Moves.refl _ _
    · refine Moves.upd_slv rfl ?_
      refine Moves.ite (fun _ => ?_) (fun _ => ?_)
      · refine Moves.upd_nand rfl ?_
        exact Moves.refl _ _
      · refine repeatN_moves _ _ (fun _ => ?_) ?_
        · refine Moves.step (State.journalOut_moves _) rfl ?_
          exact Moves.refl _ _
        · refine Moves.upd_slv_nand rfl ?_
          exact Moves.refl _ _
  · refine Moves.step (State.raise_moves _ _ _ _ _ _ _) rfl ?_
    refine Moves.upd_bem rfl ?_
    refine Moves.ite (fun _ => ?_) (fun _ => ?_)
    · refine repeatN_moves _ _ (fun _ => ?_) ?_
      · refine Moves.step (State.archiveOut_moves _) rfl ?_
        exact Moves.refl _ _
      · refine Moves.upd_slv_bem rfl ?_
        refine Moves.ite (fun _ => ?_) (fun _ => ?_)
        · refine Moves.upd_nand rfl ?_
          exact Moves.refl _ _
        · refine repeatN_moves _ _ (fun _ => ?_) ?_
          · refine Moves.step (State.journalOut_moves _) rfl ?_
            exact Moves.refl _ _
          · refine Moves.upd_slv_nand rfl ?_
            exact Moves.refl _ _
    · refine Moves.upd_slv rfl ?_
      refine Moves.ite (fun _ => ?_) (fun _ => ?_)
      · refine Moves.upd_nand rfl ?_
        exact Moves.refl _ _
      · refine repeatN_moves _ _ (fun _ => ?_) ?_
        · refine Moves.step (State.journalOut_moves _) rfl ?_
          exact Moves.refl _ _
        · refine Moves.upd_slv_nand rfl ?_
          exact Moves.refl _ _

theorem State.noArchive_moves (s : State) : Moves [.regs, .wrp, .bem, .hst, .evt, .blk 0x11, .blk 0x13] s (@State.noArchive s) := by
  unfold State.noArchive
  refine Moves.step (State.journalState_moves _) rfl ?_
  refine Moves.step (State.raise_moves _ _ _ _ _ _ _) rfl ?_
  refine Moves.upd_bem rfl ?_
  exact Moves.refl _ _

theorem State.mount_moves (s : State) (a1) : Moves [.regs, .sys, .wrp, .slv, .bem, .hst, .par, .evt, .nand, .out, .blk 0x0C, .blk 0x0F, .blk 0x11, .blk 0x13] s (@State.mount s a1) := by
  unfold State.mount
  split
  · refine Moves.ite (fun _ => ?_) (fun _ => ?_)
    · refine Moves.step (State.format_moves _ _) rfl ?_
      exact Moves.refl _ _
    · refine Moves.step (State.startFail_moves _ _ _) rfl ?_
      refine Moves.step (State.setCauseRaw_moves _ _) rfl ?_
      refine Moves.step (State.noArchive_moves _) rfl ?_
      exact Moves.refl _ _
  · refine Moves.ite (fun _ => ?_) (fun _ => ?_)
    · refine Moves.step (State.startFail_moves _ _ _) rfl ?_
      refine Moves.step (State.setCauseRaw_moves _ _) rfl ?_
      refine Moves.step (State.noArchive_moves _) rfl ?_
      exact Moves.refl _ _
    · dsimp only
      refine Moves.step (State.recoverFlush_moves _) rfl ?_
      refine Moves.step (State.finishMoves_moves _) rfl ?_
      refine Moves.ite (fun _ => ?_) (fun _ => ?_)
      · refine Moves.step (State.journalState_moves _) rfl ?_
        refine Moves.step (State.raise_moves _ _ _ _ _ _ _) rfl ?_
        refine Moves.ite (fun _ => ?_) (fun _ => ?_)
        · refine Moves.ite (fun _ => ?_) (fun _ => ?_)
          · refine Moves.upd_sys_bem rfl ?_
            exact Moves.refl _ _
          · refine Moves.step (State.startFail_moves _ _ _) rfl ?_
            refine Moves.step (State.setCauseRaw_moves _ _) rfl ?_
            refine Moves.upd_sys_bem rfl ?_
            exact Moves.refl _ _
        · refine Moves.step (State.startFail_moves _ _ _) rfl ?_
          refine Moves.step (State.noArchive_moves _) rfl ?_
          refine Moves.ite (fun _ => ?_) (fun _ => ?_)
          · refine Moves.upd_sys_bem rfl ?_
            exact Moves.refl _ _
          · refine Moves.step (State.startFail_moves _ _ _) rfl ?_
            refine Moves.step (State.setCauseRaw_moves _ _) rfl ?_
            refine Moves.upd_sys_bem rfl ?_
            exact Moves.refl _ _
      · refine Moves.ite (fun _ => ?_) (fun _ => ?_)
        · refine Moves.ite (fun _ => ?_) (fun _ => ?_)
          · refine Moves.upd_sys_bem rfl ?_
            exact Moves.refl _ _
          · refine Moves.step (State.startFail_moves _ _ _) rfl ?_
            refine Moves.step (State.setCauseRaw_moves _ _) rfl ?_
            refine Moves.upd_sys_bem rfl ?_
            exact Moves.refl _ _
        · refine Moves.step (State.startFail_moves _ _ _) rfl ?_
          refine Moves.step (State.noArchive_moves _) rfl ?_
          refine Moves.ite (fun _ => ?_) (fun _ => ?_)
          · refine Moves.upd_sys_bem rfl ?_
            exact Moves.refl _ _
          · refine Moves.step (State.startFail_moves _ _ _) rfl ?_
            refine Moves.step (State.setCauseRaw_moves _ _) rfl ?_
            refine Moves.upd_sys_bem rfl ?_
            exact Moves.refl _ _

theorem State.mountLevels_moves (s : State) : Moves [.bem] s (@State.mountLevels s) := by
  unfold State.mountLevels
  refine Moves.upd_bem rfl ?_
  exact Moves.refl _ _

theorem State.mountTargets_moves (s : State) (a1) : Moves [.regs, .bem, .hst, .evt, .blk 0x11, .blk 0x13] s (@State.mountTargets s a1) := by
  unfold State.mountTargets
  dsimp only
  refine Moves.foldl _ _ (fun _ _ => ?_) ?_
  · refine Moves.step (State.raise_moves _ _ _ _ _ _ _) rfl ?_
    exact Moves.refl _ _
  · refine Moves.upd_bem rfl ?_
    exact Moves.refl _ _

theorem State.openIsls_moves (s : State) (a1) : Moves [.regs, .snap, .heldW, .clk, .tmp, .tim, .out, .blk 0x00, .blk 0x01, .blk 0x02, .blk 0x03, .blk 0x04, .blk 0x05, .blk 0x06, .blk 0x07, .blk 0x08, .blk 0x09, .blk 0x0A, .blk 0x0B, .blk 0x0C, .blk 0x0D, .blk 0x0E, .blk 0x0F, .blk 0x10, .blk 0x11, .blk 0x12, .blk 0x13] s (@State.openIsls s a1) := by
  unfold State.openIsls
  refine Moves.foldl _ _ (fun _ _ => ?_) ?_
  · refine Moves.step (State.openIsl_moves _ _) rfl ?_
    exact Moves.refl _ _
  · exact Moves.refl _ _

theorem State.toPhase_moves (s : State) (a1) : Moves [.sys] s (@State.toPhase s a1) := by
  unfold State.toPhase
  refine Moves.upd_sys rfl ?_
  exact Moves.refl _ _

theorem State.phaseNine_moves (s : State) (a1) : Moves [.regs, .snap, .heldW, .sys, .clk, .tmp, .tim, .ports, .net, .msn, .sht, .hst, .par, .evt, .fresh, .out, .blk 0x00, .blk 0x01, .blk 0x02, .blk 0x03, .blk 0x04, .blk 0x05, .blk 0x06, .blk 0x07, .blk 0x08, .blk 0x09, .blk 0x0A, .blk 0x0B, .blk 0x0C, .blk 0x0D, .blk 0x0E, .blk 0x0F, .blk 0x10, .blk 0x11, .blk 0x12, .blk 0x13] s (@State.phaseNine s a1) := by
  unfold State.phaseNine
  dsimp only
  refine Moves.foldl _ _ (fun _ _ => ?_) ?_
  · refine Moves.step (State.startGroup_moves _ _ _ _) rfl ?_
    exact Moves.refl _ _
  · refine Moves.upd_sys_sht_par rfl ?_
    refine Moves.step (State.firstOffset_moves _) rfl ?_
    refine Moves.step (State.setReg_moves 4 _ _ _ rfl) rfl ?_
    refine Moves.step (State.openIsls_moves _ _) rfl ?_
    refine Moves.step (State.toPhase_moves _ _) rfl ?_
    exact Moves.refl _ _

theorem State.runZcMode_moves (s : State) : Moves [.regs, .blk 0x04] s (@State.runZcMode s) := by
  unfold State.runZcMode
  split
  · exact Moves.refl _ _
  · refine Moves.step (State.setReg_moves 4 _ _ _ rfl) rfl ?_
    exact Moves.refl _ _

theorem State.sealCompare_moves (s : State) (a1) : Moves [.regs, .slv, .hst, .par, .evt, .out, .blk 0x11, .blk 0x13] s (@State.sealCompare s a1) := by
  unfold State.sealCompare
  split
  · refine Moves.step (State.raise_moves _ _ _ _ _ _ _) rfl ?_
    refine Moves.step (State.setCauseRaw_moves _ _) rfl ?_
    exact Moves.refl _ _
  · refine Moves.ite (fun _ => ?_) (fun _ => ?_)
    · exact Moves.refl _ _
    · refine Moves.step (State.raise_moves _ _ _ _ _ _ _) rfl ?_
      refine Moves.step (State.setCauseRaw_moves _ _) rfl ?_
      exact Moves.refl _ _

theorem State.slotFails_moves (s : State) (a1) : Moves [.regs, .snap, .heldW, .sys, .clk, .tmp, .tim, .hst, .evt, .out, .blk 0x00, .blk 0x01, .blk 0x02, .blk 0x03, .blk 0x04, .blk 0x05, .blk 0x06, .blk 0x07, .blk 0x08, .blk 0x09, .blk 0x0A, .blk 0x0B, .blk 0x0C, .blk 0x0D, .blk 0x0E, .blk 0x0F, .blk 0x10, .blk 0x11, .blk 0x12, .blk 0x13] s (@State.slotFails s a1) := by
  unfold State.slotFails
  dsimp only
  refine Moves.ite (fun _ => ?_) (fun _ => ?_)
  · refine Moves.step (State.openIsl_moves _ _) rfl ?_
    refine Moves.upd_sys rfl ?_
    refine Moves.step (State.startFail_moves _ _ _) rfl ?_
    refine Moves.upd_sys rfl ?_
    exact Moves.refl _ _
  · refine Moves.step (State.raise_moves _ _ _ _ _ _ _) rfl ?_
    refine Moves.upd_sys rfl ?_
    refine Moves.step (State.startFail_moves _ _ _) rfl ?_
    refine Moves.upd_sys rfl ?_
    exact Moves.refl _ _

theorem State.stageDecided_moves (s : State) (a1) : Moves [.hst] s (@State.stageDecided s a1) := by
  unfold State.stageDecided
  split
  · exact Moves.refl _ _
  · refine Moves.step (State.decided_moves _ _ _ _) rfl ?_
    exact Moves.refl _ _

theorem State.takeImage_moves (a0) (a1) (s : State) (a3) (a4) : Moves [.sys, .slv, .hst] s (@State.takeImage a0 a1 s a3 a4) := by
  unfold State.takeImage
  dsimp only
  refine Moves.ite (fun _ => ?_) (fun _ => ?_)
  · refine Moves.step (State.decided_moves _ _ _ _) rfl ?_
    exact Moves.refl _ _
  · refine Moves.ite (fun _ => ?_) (fun _ => ?_)
    · refine Moves.step (State.decided_moves _ _ _ _) rfl ?_
      refine Moves.upd_sys rfl ?_
      exact Moves.refl _ _
    · refine Moves.upd_sys_slv rfl ?_
      exact Moves.refl _ _

theorem State.unitsMissing_moves (s : State) (a1) : Moves [.regs, .ports, .net, .msn, .hst, .evt, .fresh, .out, .blk 0x06, .blk 0x08, .blk 0x11, .blk 0x13] s (@State.unitsMissing s a1) := by
  unfold State.unitsMissing
  refine Moves.foldl _ _ (fun _ _ => ?_) ?_
  · refine Moves.step (State.dropPort_moves _ _) rfl ?_
    refine Moves.step (State.raise_moves _ _ _ _ _ _ _) rfl ?_
    exact Moves.refl _ _
  · exact Moves.refl _ _

theorem execRegionLayout_ends (s : State) : Ends [.regs, .snap, .heldW, .sys, .clk, .tmp, .tim, .hst, .evt, .out, .blk 0x00, .blk 0x01, .blk 0x02, .blk 0x03, .blk 0x04, .blk 0x05, .blk 0x06, .blk 0x07, .blk 0x08, .blk 0x09, .blk 0x0A, .blk 0x0B, .blk 0x0C, .blk 0x0D, .blk 0x0E, .blk 0x0F, .blk 0x10, .blk 0x11, .blk 0x12, .blk 0x13] s (@execRegionLayout s) := by
  unfold execRegionLayout
  refine Ends.next ?_
  split
  · exact Moves.refl _ _
  · refine Moves.ite (fun _ => ?_) (fun _ => ?_)
    · exact Moves.refl _ _
    · refine Moves.ite (fun _ => ?_) (fun _ => ?_)
      · refine Moves.step (State.halt_moves _ _) rfl ?_
        exact Moves.refl _ _
      · refine Moves.step (State.openIsl_moves _ _) rfl ?_
        refine Moves.upd_sys rfl ?_
        exact Moves.refl _ _

theorem execRunEntry_ends (a0) (a1) (s : State) : Ends [.regs, .sys, .tim, .ports, .net, .msn, .sht, .wrp, .slv, .bal, .bem, .key, .hst, .par, .evt, .nor, .nand, .fresh, .out, .blk 0x04, .blk 0x05, .blk 0x06, .blk 0x08, .blk 0x09, .blk 0x0C, .blk 0x0E, .blk 0x0F, .blk 0x11, .blk 0x13] s (@execRunEntry a0 a1 s) := by
  unfold execRunEntry
  dsimp only
  refine Ends.next ?_
  refine Moves.ite (fun _ => ?_) (fun _ => ?_)
  · refine Moves.step (State.reach_moves _ _) rfl ?_
    exact Moves.refl _ _
  · refine Moves.ite (fun _ => ?_) (fun _ => ?_)
    · refine Moves.step (State.enterActive_moves _) rfl ?_
      refine Moves.step (State.confirmBoot_moves _) rfl ?_
      refine Moves.upd_sys rfl ?_
      refine Moves.step (State.runZcMode_moves _) rfl ?_
      refine Moves.step (State.reach_moves _ _) rfl ?_
      exact Moves.refl _ _
    · refine Moves.step (State.startResync_moves _) rfl ?_
      refine Moves.step (State.closeHandoff_moves _) rfl ?_
      refine Moves.step (State.blockAll_moves _ _) rfl ?_
      refine Moves.upd_sys rfl ?_
      refine Moves.step (State.confirmBoot_moves _) rfl ?_
      refine Moves.upd_sys rfl ?_
      refine Moves.step (State.runZcMode_moves _) rfl ?_
      refine Moves.step (State.reach_moves _ _) rfl ?_
      exact Moves.refl _ _

theorem execStageProgramDone_ends (a0) (s : State) : Ends [.regs, .sys, .hst, .evt, .nor, .fresh, .blk 0x11, .blk 0x13] s (@execStageProgramDone a0 s) := by
  unfold execStageProgramDone
  refine Ends.next ?_
  refine Moves.ite (fun _ => ?_) (fun _ => ?_)
  · exact Moves.refl _ _
  · dsimp only
    refine Moves.ite (fun _ => ?_) (fun _ => ?_)
    · refine Moves.step (State.stageDecided_moves _ _) rfl ?_
      refine Moves.step (State.raise_moves _ _ _ _ _ _ _) rfl ?_
      refine Moves.upd_sys_nor rfl ?_
      exact Moves.refl _ _
    · refine Moves.step (State.stageDecided_moves _ _) rfl ?_
      refine Moves.upd_sys_nor_fresh rfl ?_
      exact Moves.refl _ _

theorem execRoleDecision_ends (a0) (s : State) : Ends [.sys, .tim, .par, .nand] s (@execRoleDecision a0 s) := by
  unfold execRoleDecision
  dsimp only
  refine Ends.next ?_
  refine Moves.ite (fun _ => ?_) (fun _ => ?_)
  · refine Moves.step (State.reach_moves _ _) rfl ?_
    exact Moves.refl _ _
  · refine Moves.ite (fun _ => ?_) (fun _ => ?_)
    · refine Moves.step (State.decideRole_moves _ _) rfl ?_
      refine Moves.step (State.reach_moves _ _) rfl ?_
      exact Moves.refl _ _
    · refine Moves.ite (fun _ => ?_) (fun _ => ?_)
      · refine Moves.step (State.reach_moves _ _) rfl ?_
        exact Moves.refl _ _
      · refine Moves.ite (fun _ => ?_) (fun _ => ?_)
        · refine Moves.step (State.decideRole_moves _ _) rfl ?_
          refine Moves.step (State.reach_moves _ _) rfl ?_
          exact Moves.refl _ _
        · refine Moves.step (State.raiseClaim_moves _) rfl ?_
          refine Moves.step (State.reach_moves _ _) rfl ?_
          exact Moves.refl _ _

theorem execLegalReplay_ends (s : State) : Ends [.regs, .sys, .slv, .bem, .hst, .par, .evt, .nand, .out, .blk 0x0C, .blk 0x0F, .blk 0x11, .blk 0x13] s (@execLegalReplay s) := by
  unfold execLegalReplay
  refine Ends.next ?_
  refine Moves.ite (fun _ => ?_) (fun _ => ?_)
  · refine Moves.step (State.toPhase_moves _ _) rfl ?_
    refine Moves.step (State.legalReplay_moves _) rfl ?_
    exact Moves.refl _ _
  · exact Moves.refl _ _

theorem execHaltedUartReport_ends (s : State) : Ends [.out] s (@execHaltedUartReport s) := by
  unfold execHaltedUartReport
  refine Ends.next ?_
  refine Moves.ite (fun _ => ?_) (fun _ => ?_)
  · refine Moves.step (State.emit_moves _ _) rfl ?_
    exact Moves.refl _ _
  · exact Moves.refl _ _

theorem execKeyRootDerivation_ends (a0) (a1) (a2) (a3) (s : State) : Ends [.regs, .snap, .heldW, .sys, .clk, .tmp, .tim, .ports, .net, .msn, .sht, .key, .hst, .par, .evt, .fresh, .out, .blk 0x00, .blk 0x01, .blk 0x02, .blk 0x03, .blk 0x04, .blk 0x05, .blk 0x06, .blk 0x07, .blk 0x08, .blk 0x09, .blk 0x0A, .blk 0x0B, .blk 0x0C, .blk 0x0D, .blk 0x0E, .blk 0x0F, .blk 0x10, .blk 0x11, .blk 0x12, .blk 0x13] s (@execKeyRootDerivation a0 a1 a2 a3 s) := by
  unfold execKeyRootDerivation
  dsimp only
  refine Ends.next ?_
  refine Moves.ite (fun _ => ?_) (fun _ => ?_)
  · refine Moves.step (State.reach_moves _ _) rfl ?_
    exact Moves.refl _ _
  · refine Moves.ite (fun _ => ?_) (fun _ => ?_)
    · refine Moves.step (State.halt_moves _ _) rfl ?_
      refine Moves.step (State.reach_moves _ _) rfl ?_
      exact Moves.refl _ _
    · refine Moves.step (State.phaseNine_moves _ _) rfl ?_
      refine Moves.step (State.loadKeys_moves _ _) rfl ?_
      refine Moves.step (State.reach_moves _ _) rfl ?_
      exact Moves.refl _ _

theorem execConfigCheck_ends (a0) (s : State) : Ends [.regs, .snap, .heldW, .sys, .clk, .tmp, .tim, .ports, .net, .msn, .pen, .slv, .bal, .bem, .key, .hst, .par, .evt, .nand, .fresh, .out, .blk 0x00, .blk 0x01, .blk 0x02, .blk 0x03, .blk 0x04, .blk 0x05, .blk 0x06, .blk 0x07, .blk 0x08, .blk 0x09, .blk 0x0A, .blk 0x0B, .blk 0x0C, .blk 0x0D, .blk 0x0E, .blk 0x0F, .blk 0x10, .blk 0x11, .blk 0x12, .blk 0x13] s (@execConfigCheck a0 s) := by
  unfold execConfigCheck
  refine Ends.next ?_
  split
  · exact Moves.refl _ _
  · refine Moves.ite (fun _ => ?_) (fun _ => ?_)
    · exact Moves.refl _ _
    · dsimp only
      refine Moves.ite (fun _ => ?_) (fun _ => ?_)
      · refine Moves.step (State.slotFails_moves _ _) rfl ?_
        exact Moves.refl _ _
      · refine Moves.upd_sys rfl ?_
        refine Moves.step (State.avsStart_moves _ _) rfl ?_
        refine Moves.ite (fun _ => ?_) (fun _ => ?_)
        · refine Moves.ite (fun _ => ?_) (fun _ => ?_)
          · refine Moves.step (State.setCauseRaw_moves _ _) rfl ?_
            refine Moves.step (State.sealCompare_moves _ _) rfl ?_
            refine Moves.step (State.unitsMissing_moves _ _) rfl ?_
            refine Moves.step (State.loadImage_moves _ _) rfl ?_
            exact Moves.refl _ _
          · refine Moves.step (State.sealCompare_moves _ _) rfl ?_
            refine Moves.step (State.unitsMissing_moves _ _) rfl ?_
            refine Moves.step (State.loadImage_moves _ _) rfl ?_
            exact Moves.refl _ _
        · refine Moves.step (State.sealOpens_moves _) rfl ?_
          refine Moves.ite (fun _ => ?_) (fun _ => ?_)
          · refine Moves.step (State.setCauseRaw_moves _ _) rfl ?_
            refine Moves.step (State.sealCompare_moves _ _) rfl ?_
            refine Moves.step (State.unitsMissing_moves _ _) rfl ?_
            refine Moves.step (State.loadImage_moves _ _) rfl ?_
            exact Moves.refl _ _
          · refine Moves.step (State.sealCompare_moves _ _) rfl ?_
            refine Moves.step (State.unitsMissing_moves _ _) rfl ?_
            refine Moves.step (State.loadImage_moves _ _) rfl ?_
            exact Moves.refl _ _

theorem execDpCommitImage_ends (a0) (a1) (a2) (s : State) : Ends [.sys, .slv, .hst, .out] s (@execDpCommitImage a0 a1 a2 s) := by
  unfold execDpCommitImage
  refine Ends.next ?_
  refine Moves.trans ?_ (State.commitRow_moves _ _ _ rfl (fun _ _ _ => ?_))
  · exact Moves.refl _ _
  · refine Moves.step (State.takeImage_moves _ _ _ _ _) rfl ?_
    exact Moves.refl _ _

theorem execWarpRebuild_ends (a0) (s : State) : Ends [.regs, .sys, .wrp, .hst, .evt, .blk 0x11, .blk 0x13] s (@execWarpRebuild a0 s) := by
  unfold execWarpRebuild
  refine Ends.next ?_
  refine Moves.ite (fun _ => ?_) (fun _ => ?_)
  · refine Moves.step (State.toPhase_moves _ _) rfl ?_
    refine Moves.step (State.warpRebuild_moves _ _) rfl ?_
    exact Moves.refl _ _
  · exact Moves.refl _ _

theorem execDramTrainingDone_ends (a0) (a1) (s : State) : Ends [.regs, .sys, .hst, .evt, .blk 0x11, .blk 0x13] s (@execDramTrainingDone a0 a1 s) := by
  unfold execDramTrainingDone
  refine Ends.next ?_
  refine Moves.ite (fun _ => ?_) (fun _ => ?_)
  · exact Moves.refl _ _
  · split
    · refine Moves.upd_sys rfl ?_
      exact Moves.refl _ _
    · refine Moves.step (State.halt_moves _ _) rfl ?_
      exact Moves.refl _ _

theorem execBistDone_ends (a0) (s : State) : Ends [.regs, .snap, .heldW, .sys, .clk, .tmp, .tim, .hst, .evt, .out, .blk 0x00, .blk 0x01, .blk 0x02, .blk 0x03, .blk 0x04, .blk 0x05, .blk 0x06, .blk 0x07, .blk 0x08, .blk 0x09, .blk 0x0A, .blk 0x0B, .blk 0x0C, .blk 0x0D, .blk 0x0E, .blk 0x0F, .blk 0x10, .blk 0x11, .blk 0x12, .blk 0x13] s (@execBistDone a0 s) := by
  unfold execBistDone
  refine Ends.next ?_
  refine Moves.ite (fun _ => ?_) (fun _ => ?_)
  · exact Moves.refl _ _
  · dsimp only
    refine Moves.ite (fun _ => ?_) (fun _ => ?_)
    · refine Moves.step (State.halt_moves _ _) rfl ?_
      refine Moves.step (State.toPhase_moves _ _) rfl ?_
      exact Moves.refl _ _
    · refine Moves.ite (fun _ => ?_) (fun _ => ?_)
      · refine Moves.step (State.halt_moves _ _) rfl ?_
        refine Moves.step (State.toPhase_moves _ _) rfl ?_
        exact Moves.refl _ _
      · refine Moves.ite (fun _ => ?_) (fun _ => ?_)
        · refine Moves.step (State.halt_moves _ _) rfl ?_
          refine Moves.upd_sys rfl ?_
          refine Moves.step (State.toPhase_moves _ _) rfl ?_
          exact Moves.refl _ _
        · refine Moves.step (State.openIsls_moves _ _) rfl ?_
          refine Moves.step (State.toPhase_moves _ _) rfl ?_
          refine Moves.step (State.applyRatchet_moves _) rfl ?_
          refine Moves.upd_sys rfl ?_
          refine Moves.step (State.toPhase_moves _ _) rfl ?_
          exact Moves.refl _ _

theorem execImageVerifyDone_ends (a0) (a1) (s : State) : Ends [.regs, .snap, .heldW, .sys, .clk, .tmp, .tim, .hst, .evt, .nor, .out, .blk 0x00, .blk 0x01, .blk 0x02, .blk 0x03, .blk 0x04, .blk 0x05, .blk 0x06, .blk 0x07, .blk 0x08, .blk 0x09, .blk 0x0A, .blk 0x0B, .blk 0x0C, .blk 0x0D, .blk 0x0E, .blk 0x0F, .blk 0x10, .blk 0x11, .blk 0x12, .blk 0x13] s (@execImageVerifyDone a0 a1 s) := by
  unfold execImageVerifyDone
  refine Ends.next ?_
  refine Moves.ite (fun _ => ?_) (fun _ => ?_)
  · exact Moves.refl _ _
  · refine Moves.ite (fun _ => ?_) (fun _ => ?_)
    · refine Moves.step (State.halt_moves _ _) rfl ?_
      exact Moves.refl _ _
    · dsimp only
      split
      · refine Moves.step (State.slotFails_moves _ _) rfl ?_
        refine Moves.ite (fun _ => ?_) (fun _ => ?_)
        · exact Moves.refl _ _
        · refine Moves.step (State.chooseSlot_moves _) rfl ?_
          refine Moves.ite (fun _ => ?_) (fun _ => ?_)
          · refine Moves.step (State.raise_moves _ _ _ _ _ _ _) rfl ?_
            exact Moves.refl _ _
          · exact Moves.refl _ _
      · refine Moves.ite (fun _ => ?_) (fun _ => ?_)
        · refine Moves.step (State.slotFails_moves _ _) rfl ?_
          refine Moves.ite (fun _ => ?_) (fun _ => ?_)
          · exact Moves.refl _ _
          · refine Moves.step (State.chooseSlot_moves _) rfl ?_
            refine Moves.ite (fun _ => ?_) (fun _ => ?_)
            · refine Moves.step (State.raise_moves _ _ _ _ _ _ _) rfl ?_
              exact Moves.refl _ _
            · exact Moves.refl _ _
        · refine Moves.step (State.openIsls_moves _ _) rfl ?_
          refine Moves.upd_sys_tim rfl ?_
          refine Moves.ite (fun _ => ?_) (fun _ => ?_)
          · exact Moves.refl _ _
          · refine Moves.step (State.chooseSlot_moves _) rfl ?_
            refine Moves.ite (fun _ => ?_) (fun _ => ?_)
            · refine Moves.step (State.raise_moves _ _ _ _ _ _ _) rfl ?_
              exact Moves.refl _ _
            · exact Moves.refl _ _

theorem execTimeWaitExpiry_ends (a0) (s : State) : Ends [.regs, .sys, .tim, .hst, .evt, .blk 0x11, .blk 0x13] s (@execTimeWaitExpiry a0 s) := by
  unfold execTimeWaitExpiry
  dsimp only
  refine Ends.next ?_
  refine Moves.ite (fun _ => ?_) (fun _ => ?_)
  · refine Moves.step (State.startWatch_moves _) rfl ?_
    refine Moves.step (State.startFail_moves _ _ _) rfl ?_
    refine Moves.step (State.reach_moves _ _) rfl ?_
    exact Moves.refl _ _
  · refine Moves.step (State.reach_moves _ _) rfl ?_
    exact Moves.refl _ _

theorem execBeamMount_ends (a0) (s : State) : Ends [.regs, .sys, .clk, .tmp, .wrp, .slv, .bem, .hst, .par, .evt, .nand, .out, .blk 0x0C, .blk 0x0F, .blk 0x11, .blk 0x13] s (@execBeamMount a0 s) := by
  unfold execBeamMount
  refine Ends.next ?_
  refine Moves.ite (fun _ => ?_) (fun _ => ?_)
  · exact Moves.refl _ _
  · dsimp only
    refine Moves.step (State.toPhase_moves _ _) rfl ?_
    refine Moves.step (State.templeStart_moves _) rfl ?_
    refine Moves.foldl _ _ (fun _ _ => ?_) ?_
    · refine Moves.step (State.retarget_moves _ _) rfl ?_
      exact Moves.refl _ _
    · refine Moves.foldl _ _ (fun _ _ => ?_) ?_
      · refine Moves.ite (fun _ => ?_) (fun _ => ?_)
        · refine Moves.step (State.exhausted_moves _ _ _ _) rfl ?_
          exact Moves.refl _ _
        · exact Moves.refl _ _
      · refine Moves.step (State.loadTemple_moves _ _) rfl ?_
        refine Moves.step (State.mountLevels_moves _) rfl ?_
        refine Moves.step (State.mount_moves _ _) rfl ?_
        refine Moves.step (State.mountTargets_moves _ _) rfl ?_
        exact Moves.refl _ _

end Sys2Proof.Machine
end

