-- ==== Sys2Proof/Laws/Faults.lean ====
section
/-!
SUPPORT. How far each operation of Machine/Faults.lean can change the state.
-/

namespace Sys2Proof.Machine
open Sys2Proof

theorem State.actIdxEff_moves (s : State) (a1) : Moves [.regs, .evt, .blk 0x13] s (@State.actIdxEff s a1) := by
  unfold State.actIdxEff
  dsimp only
  refine Moves.upd_evt rfl ?_ ?_
  · exact fun h => h
  · refine Moves.step (State.setReg_moves 19 _ _ _ rfl) rfl ?_
    exact Moves.refl _ _

theorem State.balLost_moves (s : State) (a1) : Moves [.bal] s (@State.balLost s a1) := by
  unfold State.balLost
  split
  · exact Moves.refl _ _
  · dsimp only
    refine Moves.step (State.setBal_moves _ _ _) rfl ?_
    exact Moves.refl _ _

theorem State.cardIdxEff_moves (s : State) (a1) : Moves [.regs, .slv, .blk 0x0D] s (@State.cardIdxEff s a1) := by
  unfold State.cardIdxEff
  dsimp only
  refine Moves.upd_slv rfl ?_
  refine Moves.step (State.setReg_moves 13 _ _ _ rfl) rfl ?_
  exact Moves.refl _ _

theorem State.regionLost_moves (s : State) (a1) (a2) (a3) : Moves [.hst] s (@State.regionLost s a1 a2 a3) := by
  unfold State.regionLost
  dsimp only
  refine Moves.ite (fun _ => ?_) (fun _ => ?_)
  · refine Moves.step (State.setPart_moves _ _ _ ?_) rfl ?_
    · exact fun h => h.get _
    · exact Moves.refl _ _
  · refine Moves.step (State.setPart_moves _ _ _ ?_) rfl ?_
    · exact fun h => h.get _
    · exact Moves.refl _ _

theorem State.dramResponse_moves (s : State) (a1) : Moves [.regs, .snap, .heldW, .sys, .clk, .tmp, .tim, .ports, .net, .msn, .sht, .wrp, .pen, .slv, .bal, .bem, .key, .hst, .par, .evt, .nor, .fresh, .out, .blk 0x00, .blk 0x01, .blk 0x02, .blk 0x03, .blk 0x04, .blk 0x05, .blk 0x06, .blk 0x07, .blk 0x08, .blk 0x09, .blk 0x0A, .blk 0x0B, .blk 0x0C, .blk 0x0D, .blk 0x0E, .blk 0x0F, .blk 0x10, .blk 0x11, .blk 0x12, .blk 0x13] s (@State.dramResponse s a1) := by
  unfold State.dramResponse
  split
  · refine Moves.step (State.restartReq_moves _) rfl ?_
    exact Moves.refl _ _
  · refine Moves.step (State.eccReset_moves _ _) rfl ?_
    exact Moves.refl _ _
  · dsimp only
    refine Moves.step (State.cntS_moves 10 _ _ _ rfl) rfl ?_
    refine Moves.step (State.setWch_moves _ _ _) rfl ?_
    exact Moves.refl _ _
  · exact Moves.refl _ _
  · exact Moves.refl _ _
  · refine Moves.step (State.balLost_moves _ _) rfl ?_
    exact Moves.refl _ _
  · refine Moves.step (State.restartReq_moves _) rfl ?_
    exact Moves.refl _ _
  · refine Moves.step (State.restartReq_moves _) rfl ?_
    exact Moves.refl _ _
  · refine Moves.step (State.reloadKey_moves _ _) rfl ?_
    refine Moves.step (State.setKey_moves _ _ _) rfl ?_
    exact Moves.refl _ _
  · refine Moves.upd_par rfl ?_
    exact Moves.refl _ _
  · dsimp only
    refine Moves.ite (fun _ => ?_) (fun _ => ?_)
    · refine Moves.step (State.cntS_moves 5 _ _ _ rfl) rfl ?_
      refine Moves.upd_sht rfl ?_
      exact Moves.refl _ _
    · exact Moves.refl _ _
  · refine Moves.step (State.regionLost_moves _ _ _ _) rfl ?_
    exact Moves.refl _ _
  · refine Moves.step (State.emit_moves _ _) rfl ?_
    exact Moves.refl _ _

theorem State.stopPort_moves (s : State) (a1) : Moves [.regs, .ports, .net, .msn, .hst, .evt, .fresh, .out, .blk 0x06, .blk 0x08, .blk 0x11, .blk 0x13] s (@State.stopPort s a1) := by
  unfold State.stopPort
  dsimp only
  refine Moves.ite (fun _ => ?_) (fun _ => ?_)
  · exact Moves.refl _ _
  · refine Moves.step (State.drained_moves _ _) rfl ?_
    refine Moves.step (State.giveAll_moves _ _ _ _) rfl ?_
    refine Moves.step (State.onPort_moves _ _ _) rfl ?_
    refine Moves.step (State.drainPort_moves _ _) rfl ?_
    exact Moves.refl _ _

theorem State.failUnit_moves (s : State) (a1) (a2) : Moves [.regs, .sys, .ports, .net, .msn, .sht, .pen, .slv, .bem, .key, .hst, .par, .evt, .nand, .fresh, .out, .blk 0x05, .blk 0x06, .blk 0x08, .blk 0x0C, .blk 0x11, .blk 0x13] s (@State.failUnit s a1 a2) := by
  unfold State.failUnit
  refine Moves.ite (fun _ => ?_) (fun _ => ?_)
  · exact Moves.refl _ _
  · split
    · refine Moves.step (State.serve_moves _) rfl ?_
      refine Moves.step (State.failCore_moves _ _) rfl ?_
      exact Moves.refl _ _
    · refine Moves.step (State.unitDown_moves _ _ _) rfl ?_
      refine Moves.step (State.stopPort_moves _ _) rfl ?_
      exact Moves.refl _ _
    · refine Moves.step (State.unitDown_moves _ _ _) rfl ?_
      refine Moves.foldl _ _ (fun _ _ => ?_) ?_
      · refine Moves.step (State.stopPort_moves _ _) rfl ?_
        exact Moves.refl _ _
      · exact Moves.refl _ _
    · refine Moves.step (State.failLane_moves _ _) rfl ?_
      exact Moves.refl _ _
    · refine Moves.step (State.failPipe_moves _ _) rfl ?_
      exact Moves.refl _ _
    · refine Moves.step (State.failNand_moves _ _) rfl ?_
      exact Moves.refl _ _

theorem State.killTask_moves (s : State) (a1) : Moves [.regs, .sht, .hst, .evt, .out, .blk 0x05, .blk 0x11, .blk 0x13] s (@State.killTask s a1) := by
  unfold State.killTask
  dsimp only
  split
  · refine Moves.step (State.serve_moves _) rfl ?_
    refine Moves.step (State.raise_moves _ _ _ _ _ _ _) rfl ?_
    refine Moves.step (State.cntS_moves 5 _ _ _ rfl) rfl ?_
    refine Moves.step (State.freeTask_moves _ _) rfl ?_
    refine Moves.step (State.dropTask_moves _ _) rfl ?_
    exact Moves.refl _ _
  · split
    · exact Moves.refl _ _
    · split
      · exact Moves.refl _ _
      · refine Moves.step (State.serve_moves _) rfl ?_
        refine Moves.step (State.raise_moves _ _ _ _ _ _ _) rfl ?_
        refine Moves.step (State.cntS_moves 5 _ _ _ rfl) rfl ?_
        refine Moves.step (State.freeTask_moves _ _) rfl ?_
        refine Moves.step (State.letGo_moves _ _) rfl ?_
        exact Moves.refl _ _

theorem State.rerunJob_moves (s : State) (a1) : Moves [.key] s (@State.rerunJob s a1) := by
  unfold State.rerunJob
  split
  · exact Moves.refl _ _
  · dsimp only
    split
    · exact Moves.refl _ _
    · refine Moves.upd_key rfl ?_
      exact Moves.refl _ _

theorem State.thirdFails_moves (s : State) (a1) (a2) (a3) : Moves [.regs, .sys, .ports, .net, .msn, .sht, .pen, .slv, .bem, .key, .hst, .par, .evt, .nand, .fresh, .out, .blk 0x05, .blk 0x06, .blk 0x08, .blk 0x0C, .blk 0x11, .blk 0x13] s (@State.thirdFails s a1 a2 a3) := by
  unfold State.thirdFails
  dsimp only
  refine Moves.ite (fun _ => ?_) (fun _ => ?_)
  · refine Moves.step (State.failUnit_moves _ _ _) rfl ?_
    refine Moves.step (State.unitError_moves _ _ _ _) rfl ?_
    exact Moves.refl _ _
  · refine Moves.step (State.unitError_moves _ _ _ _) rfl ?_
    exact Moves.refl _ _

theorem State.sramResponse_moves (s : State) (a1) (a2) : Moves [.regs, .snap, .heldW, .sys, .clk, .tmp, .tim, .ports, .net, .msn, .sht, .wrp, .pen, .slv, .bal, .bem, .key, .hst, .par, .evt, .nor, .nand, .fresh, .out, .blk 0x00, .blk 0x01, .blk 0x02, .blk 0x03, .blk 0x04, .blk 0x05, .blk 0x06, .blk 0x07, .blk 0x08, .blk 0x09, .blk 0x0A, .blk 0x0B, .blk 0x0C, .blk 0x0D, .blk 0x0E, .blk 0x0F, .blk 0x10, .blk 0x11, .blk 0x12, .blk 0x13] s (@State.sramResponse s a1 a2) := by
  unfold State.sramResponse
  split
  · exact Moves.refl _ _
  · refine Moves.step (State.restartReq_moves _) rfl ?_
    refine Moves.upd_slv rfl ?_
    exact Moves.refl _ _
  · refine Moves.step (State.serve_moves _) rfl ?_
    refine Moves.step (State.thirdFails_moves _ _ _ _) rfl ?_
    refine Moves.step (State.watchReset_moves _ _ _) rfl ?_
    exact Moves.refl _ _
  · refine Moves.step (State.serve_moves _) rfl ?_
    refine Moves.foldl _ _ (fun _ _ => ?_) ?_
    · refine Moves.step (State.resetCore_moves _ _) rfl ?_
      exact Moves.refl _ _
    · exact Moves.refl _ _
  · refine Moves.step (State.thirdFails_moves _ _ _ _) rfl ?_
    refine Moves.step (State.rerunJob_moves _ _) rfl ?_
    exact Moves.refl _ _
  · refine Moves.step (State.thirdFails_moves _ _ _ _) rfl ?_
    refine Moves.step (State.cntS_moves 11 _ _ _ rfl) rfl ?_
    exact Moves.refl _ _
  · dsimp only
    refine Moves.step (State.thirdFails_moves _ _ _ _) rfl ?_
    refine Moves.ite (fun _ => ?_) (fun _ => ?_)
    · refine Moves.step (State.portCnt_moves _ _ _) rfl ?_
      refine Moves.step (State.onPort_moves _ _ _) rfl ?_
      exact Moves.refl _ _
    · exact Moves.refl _ _
  · refine Moves.step (State.killTask_moves _ _) rfl ?_
    exact Moves.refl _ _
  · refine Moves.upd_net rfl ?_
    exact Moves.refl _ _
  · refine Moves.step (State.restartReq_moves _) rfl ?_
    exact Moves.refl _ _

theorem execJqdCardIdxWrite_ends (a0) (a1) (s : State) : Ends [.regs, .slv, .out, .blk 0x0D] s (@execJqdCardIdxWrite a0 a1 s) := by
  unfold execJqdCardIdxWrite
  refine Ends.next ?_
  refine State.writeRow_moves _ _ _ _ rfl ?_ ?_
  · refine okEff_moves _ _ ?_
    refine Moves.step (State.cardIdxEff_moves _ _) rfl ?_
    exact Moves.refl _ _
  · exact Moves.refl _ _

theorem execDramCe_ends (a0) (a1) (s : State) : Ends [.regs, .tim, .hst, .evt, .blk 0x11, .blk 0x13] s (@execDramCe a0 a1 s) := by
  unfold execDramCe
  dsimp only
  refine Ends.next ?_
  refine Moves.ite (fun _ => ?_) (fun _ => ?_)
  · refine Moves.step (State.reach_moves _ _) rfl ?_
    exact Moves.refl _ _
  · refine Moves.ite (fun _ => ?_) (fun _ => ?_)
    · refine Moves.step (State.raise_moves _ _ _ _ _ _ _) rfl ?_
      refine Moves.upd_evt rfl ?_ ?_
      · exact fun h => h
      · refine Moves.step (State.cntW_moves 19 _ _ _ rfl) rfl ?_
        refine Moves.step (State.reach_moves _ _) rfl ?_
        exact Moves.refl _ _
    · refine Moves.step (State.cntW_moves 19 _ _ _ rfl) rfl ?_
      refine Moves.step (State.reach_moves _ _) rfl ?_
      exact Moves.refl _ _

theorem execFabricParityError_ends (a0) (a1) (a2) (s : State) : Ends [.regs, .snap, .heldW, .sys, .clk, .tmp, .tim, .ports, .net, .msn, .sht, .wrp, .pen, .slv, .bal, .bem, .key, .hst, .par, .evt, .nor, .nand, .fresh, .out, .blk 0x00, .blk 0x01, .blk 0x02, .blk 0x03, .blk 0x04, .blk 0x05, .blk 0x06, .blk 0x07, .blk 0x08, .blk 0x09, .blk 0x0A, .blk 0x0B, .blk 0x0C, .blk 0x0D, .blk 0x0E, .blk 0x0F, .blk 0x10, .blk 0x11, .blk 0x12, .blk 0x13] s (@execFabricParityError a0 a1 a2 s) := by
  unfold execFabricParityError
  refine Ends.next ?_
  refine Moves.ite (fun _ => ?_) (fun _ => ?_)
  · exact Moves.refl _ _
  · dsimp only
    refine Moves.ite (fun _ => ?_) (fun _ => ?_)
    · refine Moves.step (State.cntW_moves 19 _ _ _ rfl) rfl ?_
      refine Moves.upd_evt rfl ?_ ?_
      · exact fun h => h
      · exact Moves.refl _ _
    · split
      · refine Moves.step (State.failUnit_moves _ _ _) rfl ?_
        refine Moves.step (State.raise_moves _ _ _ _ _ _ _) rfl ?_
        refine Moves.upd_evt rfl ?_ ?_
        · exact fun h => h
        · exact Moves.refl _ _
      · refine Moves.step (State.restartReq_moves _) rfl ?_
        refine Moves.step (State.raise_moves _ _ _ _ _ _ _) rfl ?_
        refine Moves.upd_evt rfl ?_ ?_
        · exact fun h => h
        · exact Moves.refl _ _

theorem execEvtActIdxWrite_ends (a0) (a1) (s : State) : Ends [.regs, .evt, .out, .blk 0x13] s (@execEvtActIdxWrite a0 a1 s) := by
  unfold execEvtActIdxWrite
  refine Ends.next ?_
  refine State.writeRow_moves _ _ _ _ rfl ?_ ?_
  · refine okEff_moves _ _ ?_
    refine Moves.step (State.actIdxEff_moves _ _) rfl ?_
    exact Moves.refl _ _
  · exact Moves.refl _ _

theorem execSramParityError_ends (a0) (a1) (s : State) : Ends [.regs, .snap, .heldW, .sys, .clk, .tmp, .tim, .ports, .net, .msn, .sht, .wrp, .pen, .slv, .bal, .bem, .key, .hst, .par, .evt, .nor, .nand, .fresh, .out, .blk 0x00, .blk 0x01, .blk 0x02, .blk 0x03, .blk 0x04, .blk 0x05, .blk 0x06, .blk 0x07, .blk 0x08, .blk 0x09, .blk 0x0A, .blk 0x0B, .blk 0x0C, .blk 0x0D, .blk 0x0E, .blk 0x0F, .blk 0x10, .blk 0x11, .blk 0x12, .blk 0x13] s (@execSramParityError a0 a1 s) := by
  unfold execSramParityError
  dsimp only
  refine Ends.next ?_
  refine Moves.ite (fun _ => ?_) (fun _ => ?_)
  · refine Moves.step (State.reach_moves _ _) rfl ?_
    exact Moves.refl _ _
  · refine Moves.step (State.sramResponse_moves _ _ _) rfl ?_
    refine Moves.step (State.raise_moves _ _ _ _ _ _ _) rfl ?_
    refine Moves.step (State.cntS_moves 19 _ _ _ rfl) rfl ?_
    refine Moves.step (State.reach_moves _ _) rfl ?_
    exact Moves.refl _ _

theorem execDramUe_ends (a0) (s : State) : Ends [.regs, .snap, .heldW, .sys, .clk, .tmp, .tim, .ports, .net, .msn, .sht, .wrp, .pen, .slv, .bal, .bem, .key, .hst, .par, .evt, .nor, .fresh, .out, .blk 0x00, .blk 0x01, .blk 0x02, .blk 0x03, .blk 0x04, .blk 0x05, .blk 0x06, .blk 0x07, .blk 0x08, .blk 0x09, .blk 0x0A, .blk 0x0B, .blk 0x0C, .blk 0x0D, .blk 0x0E, .blk 0x0F, .blk 0x10, .blk 0x11, .blk 0x12, .blk 0x13] s (@execDramUe a0 s) := by
  unfold execDramUe
  refine Ends.next ?_
  refine Moves.ite (fun _ => ?_) (fun _ => ?_)
  · exact Moves.refl _ _
  · refine Moves.step (State.dramResponse_moves _ _) rfl ?_
    refine Moves.step (State.raise_moves _ _ _ _ _ _ _) rfl ?_
    refine Moves.step (State.cntS_moves 19 _ _ _ rfl) rfl ?_
    exact Moves.refl _ _

theorem execPatrolScrub_ends (s : State) : Ends [] s (@execPatrolScrub s) := by
  unfold execPatrolScrub
  refine Ends.next ?_
  exact Moves.refl _ _

theorem execFaultHoldExpiry_ends (a0) (s : State) : Ends [.regs, .tim, .hst, .evt, .blk 0x11, .blk 0x13] s (@execFaultHoldExpiry a0 s) := by
  unfold execFaultHoldExpiry
  dsimp only
  refine Ends.next ?_
  refine Moves.step (State.withEv_moves (EvCtx.expire_keeps _ _)) rfl ?_
  refine Moves.step (State.reach_moves _ _) rfl ?_
  exact Moves.refl _ _

end Sys2Proof.Machine
end

