-- ==== Sys2Proof/Laws/HostSess.lean ====
section
/-!
SUPPORT. How far each operation of Machine/HostSess.lean can change the state.
-/

namespace Sys2Proof.Machine
open Sys2Proof

theorem State.clearHeld_moves (s : State) (a1) : Moves [.snap, .heldW] s (@State.clearHeld s a1) := by
  unfold State.clearHeld
  refine Moves.upd_snap_heldW rfl ?_
  exact Moves.refl _ _

theorem State.dropHs_moves (s : State) (a1) : Moves [.hst] s (@State.dropHs s a1) := by
  unfold State.dropHs
  refine Moves.upd_hst rfl ?_ ?_
  · exact fun h => h
  · exact Moves.refl _ _

theorem State.hsDevice_moves (s : State) (a1) : Moves [.regs, .out, .blk 0x11] s (@State.hsDevice s a1) := by
  unfold State.hsDevice
  dsimp only
  refine Moves.step (State.emitAll_moves _ _) rfl ?_
  refine Moves.foldl _ _ (fun _ _ => ?_) ?_
  · refine Moves.step (State.cntW_moves 17 _ _ _ rfl) rfl ?_
    exact Moves.refl _ _
  · exact Moves.refl _ _

theorem State.hsFails_moves (s : State) (a1) (a2) (a3) : Moves [.regs, .out, .blk 0x11] s (@State.hsFails s a1 a2 a3) := by
  unfold State.hsFails
  refine Moves.step (State.emit_moves _ _) rfl ?_
  refine Moves.step (State.cntW_moves 17 _ _ _ rfl) rfl ?_
  exact Moves.refl _ _

theorem State.mdioEff_moves (s : State) (a1) : Moves [.regs, .hst, .out, .blk 0x11] s (@State.mdioEff s a1).1 := by
  unfold State.mdioEff
  refine Moves.ite_fst (fun _ => ?_) (fun _ => ?_)
  · dsimp only
    exact Moves.refl _ _
  · refine Moves.ite_fst (fun _ => ?_) (fun _ => ?_)
    · dsimp only
      exact Moves.refl _ _
    · dsimp only
      refine Moves.ite_fst (fun _ => ?_) (fun _ => ?_)
      · dsimp only
        refine Moves.step (State.emit_moves _ _) rfl ?_
        refine Moves.upd_hst rfl ?_ ?_
        · exact fun h => h
        · refine Moves.step (State.setReg_moves 17 _ _ _ rfl) rfl ?_
          exact Moves.refl _ _
      · dsimp only
        refine Moves.step (State.setReg_moves 17 _ _ _ rfl) rfl ?_
        exact Moves.refl _ _

theorem State.notify_moves (s : State) (a1) (a2) : Moves [.regs, .hst, .out, .blk 0x10, .blk 0x11] s (@State.notify s a1 a2) := by
  unfold State.notify
  split
  · exact Moves.refl _ _
  · dsimp only
    refine Moves.ite (fun _ => ?_) (fun _ => ?_)
    · exact Moves.refl _ _
    · refine Moves.step (State.send_moves _ _ _ _) rfl ?_
      exact Moves.refl _ _

theorem execEvtAck_ends (a0) (a1) (s : State) : Ends [.regs, .hst, .out, .blk 0x10, .blk 0x11] s (@execEvtAck a0 a1 s) := by
  unfold execEvtAck
  dsimp only
  refine Ends.next ?_
  refine Moves.ite (fun _ => ?_) (fun _ => ?_)
  · refine Moves.step (State.takeDgram_moves _ _) rfl ?_
    exact Moves.refl _ _
  · refine Moves.step (State.setPart_moves _ _ _ ?_) rfl ?_
    · exact fun h => Nat.le_trans (List.length_filter_le _ _) (h.get _)
    · refine Moves.step (State.takeDgram_moves _ _) rfl ?_
      exact Moves.refl _ _

theorem execHandshakeTimeout_ends (a0) (a1) (s : State) : Ends [.tim, .hst] s (@execHandshakeTimeout a0 a1 s) := by
  unfold execHandshakeTimeout
  dsimp only
  refine Ends.next ?_
  split
  · refine Moves.step (State.reach_moves _ _) rfl ?_
    exact Moves.refl _ _
  · refine Moves.ite (fun _ => ?_) (fun _ => ?_)
    · refine Moves.step (State.dropHs_moves _ _) rfl ?_
      refine Moves.step (State.reach_moves _ _) rfl ?_
      exact Moves.refl _ _
    · refine Moves.step (State.reach_moves _ _) rfl ?_
      exact Moves.refl _ _

theorem execMdioStart_ends (a0) (a1) (s : State) : Ends [.regs, .hst, .out, .blk 0x11] s (@execMdioStart a0 a1 s) := by
  unfold execMdioStart
  refine Ends.next ?_
  refine State.writeRow_moves _ _ _ _ rfl ?_ ?_
  · refine Moves.step (State.mdioEff_moves _ _) rfl ?_
    exact Moves.refl _ _
  · exact Moves.refl _ _

theorem execSessionIdleTimeout_ends (a0) (a1) (a2) (s : State) : Ends [.tim, .hst] s (@execSessionIdleTimeout a0 a1 a2 s) := by
  unfold execSessionIdleTimeout
  dsimp only
  refine Ends.next ?_
  split
  · refine Moves.step (State.reach_moves _ _) rfl ?_
    exact Moves.refl _ _
  · refine Moves.ite (fun _ => ?_) (fun _ => ?_)
    · refine Moves.step (State.endSession_moves _ _ _) rfl ?_
      refine Moves.step (State.reach_moves _ _) rfl ?_
      exact Moves.refl _ _
    · refine Moves.step (State.reach_moves _ _) rfl ?_
      exact Moves.refl _ _

theorem execSubscribe_ends (a0) (a1) (s : State) : Ends [.regs, .hst, .out, .blk 0x10, .blk 0x11] s (@execSubscribe a0 a1 s) := by
  unfold execSubscribe
  dsimp only
  refine Ends.next ?_
  refine Moves.ite (fun _ => ?_) (fun _ => ?_)
  · refine Moves.step (State.takeDgram_moves _ _) rfl ?_
    exact Moves.refl _ _
  · split
    · refine Moves.step (State.takeDgram_moves _ _) rfl ?_
      exact Moves.refl _ _
    · refine Moves.step (State.notify_moves _ _ _) rfl ?_
      refine Moves.step (State.setSession_moves _ _ _ _) rfl ?_
      refine Moves.step (State.takeDgram_moves _ _) rfl ?_
      exact Moves.refl _ _

theorem execHsHost_ends (a0) (a1) (a2) (a3) (s : State) : Ends [.regs, .snap, .heldW, .tim, .hst, .out, .blk 0x10, .blk 0x11] s (@execHsHost a0 a1 a2 a3 s) := by
  unfold execHsHost
  dsimp only
  refine Ends.next ?_
  split
  · refine Moves.ite (fun _ => ?_) (fun _ => ?_)
    · refine Moves.step (State.cntW_moves 17 _ _ _ rfl) rfl ?_
      refine Moves.step (State.reach_moves _ _) rfl ?_
      exact Moves.refl _ _
    · refine Moves.step (State.reach_moves _ _) rfl ?_
      exact Moves.refl _ _
  · refine Moves.ite (fun _ => ?_) (fun _ => ?_)
    · refine Moves.ite (fun _ => ?_) (fun _ => ?_)
      · refine Moves.step (State.cntW_moves 17 _ _ _ rfl) rfl ?_
        refine Moves.step (State.reach_moves _ _) rfl ?_
        exact Moves.refl _ _
      · refine Moves.step (State.reach_moves _ _) rfl ?_
        exact Moves.refl _ _
    · refine Moves.ite (fun _ => ?_) (fun _ => ?_)
      · refine Moves.upd_hst rfl ?_ ?_
        · exact fun h => h
        · refine Moves.ite (fun _ => ?_) (fun _ => ?_)
          · refine Moves.step (State.cntW_moves 17 _ _ _ rfl) rfl ?_
            refine Moves.step (State.reach_moves _ _) rfl ?_
            exact Moves.refl _ _
          · refine Moves.step (State.reach_moves _ _) rfl ?_
            exact Moves.refl _ _
      · split
        · refine Moves.step (State.cntW_moves 16 _ _ _ rfl) rfl ?_
          refine Moves.step (State.hsFails_moves _ _ _ _) rfl ?_
          refine Moves.step (State.dropHs_moves _ _) rfl ?_
          refine Moves.ite (fun _ => ?_) (fun _ => ?_)
          · refine Moves.step (State.cntW_moves 17 _ _ _ rfl) rfl ?_
            refine Moves.step (State.reach_moves _ _) rfl ?_
            exact Moves.refl _ _
          · refine Moves.step (State.reach_moves _ _) rfl ?_
            exact Moves.refl _ _
        · refine Moves.step (State.send_moves _ _ _ _) rfl ?_
          refine Moves.step (State.clearHeld_moves _ _) rfl ?_
          refine Moves.step (State.setSession_moves _ _ _ _) rfl ?_
          refine Moves.step (State.dropHs_moves _ _) rfl ?_
          refine Moves.ite (fun _ => ?_) (fun _ => ?_)
          · refine Moves.step (State.cntW_moves 17 _ _ _ rfl) rfl ?_
            refine Moves.step (State.reach_moves _ _) rfl ?_
            exact Moves.refl _ _
          · refine Moves.step (State.reach_moves _ _) rfl ?_
            exact Moves.refl _ _

theorem execHostArpNdEcho_ends (a0) (a1) (s : State) : Ends [.out] s (@execHostArpNdEcho a0 a1 s) := by
  unfold execHostArpNdEcho
  dsimp only
  refine Ends.next ?_
  refine Moves.ite (fun _ => ?_) (fun _ => ?_)
  · refine Moves.step (State.emit_moves _ _) rfl ?_
    exact Moves.refl _ _
  · exact Moves.refl _ _

theorem execHostLinkChange_ends (a0) (a1) (s : State) : Ends [.regs, .hst, .evt, .blk 0x11, .blk 0x13] s (@execHostLinkChange a0 a1 s) := by
  unfold execHostLinkChange
  dsimp only
  refine Ends.next ?_
  refine Moves.ite (fun _ => ?_) (fun _ => ?_)
  · exact Moves.refl _ _
  · refine Moves.ite (fun _ => ?_) (fun _ => ?_)
    · refine Moves.step (State.raise_moves _ _ _ _ _ _ _) rfl ?_
      refine Moves.upd_hst rfl ?_ ?_
      · exact fun h => h
      · exact Moves.refl _ _
    · refine Moves.ite (fun _ => ?_) (fun _ => ?_)
      · refine Moves.step (State.raise_moves _ _ _ _ _ _ _) rfl ?_
        refine Moves.step (State.endEv_moves _ _ _) rfl ?_
        refine Moves.upd_hst rfl ?_ ?_
        · exact fun h => h
        · exact Moves.refl _ _
      · refine Moves.upd_hst rfl ?_ ?_
        · exact fun h => h
        · exact Moves.refl _ _

theorem execClose_ends (a0) (s : State) : Ends [.regs, .hst, .out, .blk 0x10, .blk 0x11] s (@execClose a0 s) := by
  unfold execClose
  dsimp only
  refine Ends.next ?_
  refine Moves.ite (fun _ => ?_) (fun _ => ?_)
  · refine Moves.step (State.endSession_moves _ _ _) rfl ?_
    refine Moves.step (State.takeDgram_moves _ _) rfl ?_
    exact Moves.refl _ _
  · refine Moves.step (State.takeDgram_moves _ _) rfl ?_
    exact Moves.refl _ _

theorem execNotifyTimer_ends (a0) (a1) (s : State) : Ends [.regs, .tim, .hst, .out, .blk 0x10, .blk 0x11] s (@execNotifyTimer a0 a1 s) := by
  unfold execNotifyTimer
  refine Ends.next ?_
  refine Moves.foldl _ _ (fun _ _ => ?_) ?_
  · refine Moves.step (State.notify_moves _ _ _) rfl ?_
    exact Moves.refl _ _
  · refine Moves.step (State.reach_moves _ _) rfl ?_
    exact Moves.refl _ _

theorem execMdioFrameDone_ends (a0) (s : State) : Ends [.regs, .hst, .blk 0x11] s (@execMdioFrameDone a0 s) := by
  unfold execMdioFrameDone
  refine Ends.next ?_
  refine Moves.ite (fun _ => ?_) (fun _ => ?_)
  · exact Moves.refl _ _
  · dsimp only
    refine Moves.step (State.setReg_moves 17 _ _ _ rfl) rfl ?_
    refine Moves.upd_hst rfl ?_ ?_
    · exact fun h => h
    · exact Moves.refl _ _

theorem execKeepalive_ends (a0) (s : State) : Ends [.regs, .hst, .out, .blk 0x10, .blk 0x11] s (@execKeepalive a0 s) := by
  unfold execKeepalive
  refine Ends.next ?_
  refine Moves.step (State.takeDgram_moves _ _) rfl ?_
  exact Moves.refl _ _

theorem execHsHello_ends (a0) (a1) (a2) (a3) (a4) (s : State) : Ends [.regs, .tim, .hst, .out, .blk 0x11] s (@execHsHello a0 a1 a2 a3 a4 s) := by
  unfold execHsHello
  dsimp only
  refine Ends.next ?_
  refine Moves.ite (fun _ => ?_) (fun _ => ?_)
  · refine Moves.step (State.reach_moves _ _) rfl ?_
    exact Moves.refl _ _
  · refine Moves.ite (fun _ => ?_) (fun _ => ?_)
    · refine Moves.step (State.cntW_moves 17 _ _ _ rfl) rfl ?_
      refine Moves.step (State.cntW_moves 17 _ _ _ rfl) rfl ?_
      refine Moves.step (State.reach_moves _ _) rfl ?_
      exact Moves.refl _ _
    · split
      · refine Moves.step (State.hsDevice_moves _ _) rfl ?_
        refine Moves.step (State.cntW_moves 17 _ _ _ rfl) rfl ?_
        refine Moves.step (State.reach_moves _ _) rfl ?_
        exact Moves.refl _ _
      · refine Moves.ite (fun _ => ?_) (fun _ => ?_)
        · refine Moves.step (State.hsFails_moves _ _ _ _) rfl ?_
          refine Moves.step (State.cntW_moves 17 _ _ _ rfl) rfl ?_
          refine Moves.step (State.reach_moves _ _) rfl ?_
          exact Moves.refl _ _
        · refine Moves.ite (fun _ => ?_) (fun _ => ?_)
          · refine Moves.step (State.hsFails_moves _ _ _ _) rfl ?_
            refine Moves.step (State.cntW_moves 17 _ _ _ rfl) rfl ?_
            refine Moves.step (State.reach_moves _ _) rfl ?_
            exact Moves.refl _ _
          · split
            · refine Moves.step (State.hsFails_moves _ _ _ _) rfl ?_
              refine Moves.step (State.cntW_moves 17 _ _ _ rfl) rfl ?_
              refine Moves.step (State.reach_moves _ _) rfl ?_
              exact Moves.refl _ _
            · refine Moves.step (State.hsDevice_moves _ _) rfl ?_
              refine Moves.step (State.cntW_moves 17 _ _ _ rfl) rfl ?_
              refine Moves.upd_hst rfl ?_ ?_
              · exact fun h => h
              · refine Moves.step (State.cntW_moves 17 _ _ _ rfl) rfl ?_
                refine Moves.step (State.reach_moves _ _) rfl ?_
                exact Moves.refl _ _

end Sys2Proof.Machine
end

