-- ==== Sys2Proof/Laws/Objects.lean ====
section
/-!
SUPPORT. How far each operation of Machine/Objects.lean can change the state.
-/

namespace Sys2Proof.Machine
open Sys2Proof

theorem State.epGet_moves {fs : List Field} {s : State} (o : ObjReq) (cls : Nat) (i : Item)
    (f : State → Nat → List Nat → State × Option (Status × List Nat))
    (hs : ([.regs, .hst, .out, .blk 0x10, .blk 0x11] : List Field).all (fun g => fs.contains g) = true) (hf : ∀ u e a, Moves fs u (f u e a).1) :
    Moves fs s (s.epGet o cls i f) := by
  unfold State.epGet
  refine State.objRun_moves _ _ _ _ (sub_of hs rfl) (fun u x a => ?_)
  split
  · exact hf _ _ _
  · exact Moves.refl _ _

theorem State.legalObjs_moves (s : State) (a1) (a2) : Moves [] s (@State.legalObjs s a1 a2).1 := by
  unfold State.legalObjs
  split
  · refine Moves.ite_fst (fun _ => ?_) (fun _ => ?_)
    · dsimp only
      exact Moves.refl _ _
    · dsimp only
      exact Moves.refl _ _
  · dsimp only
    exact Moves.refl _ _

theorem State.newJob_moves (s : State) (a1) (a2) : Moves [.regs, .pen, .hst, .evt, .blk 0x11, .blk 0x13] s (@State.newJob s a1 a2) := by
  unfold State.newJob
  dsimp only
  refine Moves.ite (fun _ => ?_) (fun _ => ?_)
  · refine Moves.step (State.abortJob_moves _ _ _) rfl ?_
    refine Moves.step (State.submitJob_moves _ _ _) rfl ?_
    exact Moves.refl _ _
  · refine Moves.step (State.submitJob_moves _ _ _) rfl ?_
    exact Moves.refl _ _

theorem State.takeCard_moves (a0) (s : State) (a2) (a3) : Moves [.slv, .hst] s (@State.takeCard a0 s a2 a3) := by
  unfold State.takeCard
  dsimp only
  refine Moves.ite (fun _ => ?_) (fun _ => ?_)
  · refine Moves.step (State.decided_moves _ _ _ _) rfl ?_
    exact Moves.refl _ _
  · split
    · refine Moves.step (State.decided_moves _ _ _ _) rfl ?_
      exact Moves.refl _ _
    · refine Moves.ite (fun _ => ?_) (fun _ => ?_)
      · refine Moves.step (State.decided_moves _ _ _ _) rfl ?_
        exact Moves.refl _ _
      · refine Moves.upd_slv rfl ?_
        exact Moves.refl _ _

theorem State.takeMeterImage_moves (s : State) (a1) (a2) : Moves [.regs, .msn, .sht, .hst, .par, .evt, .nand, .fresh, .out, .blk 0x05, .blk 0x09, .blk 0x11, .blk 0x13] s (@State.takeMeterImage s a1 a2) := by
  unfold State.takeMeterImage
  split
  · refine Moves.step (State.decided_moves _ _ _ _) rfl ?_
    exact Moves.refl _ _
  · split
    · refine Moves.step (State.decided_moves _ _ _ _) rfl ?_
      exact Moves.refl _ _
    · dsimp only
      refine Moves.step (State.decided_moves _ _ _ _) rfl ?_
      refine Moves.step (State.campKick_moves _) rfl ?_
      refine Moves.step (State.campSend_moves _ _) rfl ?_
      refine Moves.upd_msn_nand rfl ?_
      exact Moves.refl _ _

theorem State.takeRecompute_moves (s : State) (a1) (a2) : Moves [.regs, .pen, .hst, .evt, .blk 0x11, .blk 0x13] s (@State.takeRecompute s a1 a2) := by
  unfold State.takeRecompute
  dsimp only
  refine Moves.ite (fun _ => ?_) (fun _ => ?_)
  · refine Moves.step (State.decided_moves _ _ _ _) rfl ?_
    exact Moves.refl _ _
  · refine Moves.ite (fun _ => ?_) (fun _ => ?_)
    · refine Moves.step (State.decided_moves _ _ _ _) rfl ?_
      exact Moves.refl _ _
    · refine Moves.ite (fun _ => ?_) (fun _ => ?_)
      · refine Moves.step (State.decided_moves _ _ _ _) rfl ?_
        exact Moves.refl _ _
      · refine Moves.step (State.decided_moves _ _ _ _) rfl ?_
        refine Moves.step (State.newJob_moves _ _ _) rfl ?_
        exact Moves.refl _ _

theorem execFwCampaignActivate_ends (a0) (s : State) : Ends [.regs, .msn, .hst, .out, .blk 0x10, .blk 0x11] s (@execFwCampaignActivate a0 s) := by
  unfold execFwCampaignActivate
  refine Ends.next ?_
  refine Moves.trans ?_ (State.objRun_moves _ _ _ _ rfl (fun _ _ _ => ?_))
  · exact Moves.refl _ _
  · refine Moves.ite_fst (fun _ => ?_) (fun _ => ?_)
    · dsimp only
      exact Moves.refl _ _
    · refine Moves.ite_fst (fun _ => ?_) (fun _ => ?_)
      · dsimp only
        exact Moves.refl _ _
      · refine Moves.ite_fst (fun _ => ?_) (fun _ => ?_)
        · dsimp only
          exact Moves.refl _ _
        · split
          · dsimp only
            exact Moves.refl _ _
          · refine Moves.ite_fst (fun _ => ?_) (fun _ => ?_)
            · dsimp only
              exact Moves.refl _ _
            · dsimp only
              refine Moves.upd_msn rfl ?_
              exact Moves.refl _ _

theorem execGetLegalTotal_ends (a0) (s : State) : Ends [.regs, .hst, .out, .blk 0x10, .blk 0x11] s (@execGetLegalTotal a0 s) := by
  unfold execGetLegalTotal
  refine Ends.next ?_
  refine Moves.trans ?_ (State.epGet_moves _ _ _ _ rfl (fun _ _ _ => ?_))
  · exact Moves.refl _ _
  · refine Moves.step (State.legalObjs_moves _ _ _) rfl ?_
    exact Moves.refl _ _

theorem execReadNow_ends (a0) (s : State) : Ends [.regs, .msn, .hst, .out, .blk 0x09, .blk 0x10, .blk 0x11] s (@execReadNow a0 s) := by
  unfold execReadNow
  refine Ends.next ?_
  refine Moves.trans ?_ (State.epGet_moves _ _ _ _ rfl (fun _ _ _ => ?_))
  · exact Moves.refl _ _
  · refine Moves.ite_fst (fun _ => ?_) (fun _ => ?_)
    · dsimp only
      exact Moves.refl _ _
    · refine Moves.ite_fst (fun _ => ?_) (fun _ => ?_)
      · dsimp only
        exact Moves.refl _ _
      · refine Moves.ite_fst (fun _ => ?_) (fun _ => ?_)
        · dsimp only
          exact Moves.refl _ _
        · dsimp only
          refine Moves.step (State.due_moves _ _ _) rfl ?_
          exact Moves.refl _ _

theorem execGetMaxDemand_ends (a0) (s : State) : Ends [.regs, .hst, .out, .blk 0x10, .blk 0x11] s (@execGetMaxDemand a0 s) := by
  unfold execGetMaxDemand
  refine Ends.next ?_
  refine Moves.trans ?_ (State.epGet_moves _ _ _ _ rfl (fun _ _ _ => ?_))
  · exact Moves.refl _ _
  · refine Moves.step (State.legalObjs_moves _ _ _) rfl ?_
    exact Moves.refl _ _

theorem execFwCampaignAbort_ends (a0) (s : State) : Ends [.regs, .msn, .hst, .evt, .nand, .out, .blk 0x10, .blk 0x11, .blk 0x13] s (@execFwCampaignAbort a0 s) := by
  unfold execFwCampaignAbort
  refine Ends.next ?_
  refine Moves.trans ?_ (State.objRun_moves _ _ _ _ rfl (fun _ _ _ => ?_))
  · exact Moves.refl _ _
  · refine Moves.ite_fst (fun _ => ?_) (fun _ => ?_)
    · dsimp only
      exact Moves.refl _ _
    · refine Moves.ite_fst (fun _ => ?_) (fun _ => ?_)
      · dsimp only
        exact Moves.refl _ _
      · refine Moves.ite_fst (fun _ => ?_) (fun _ => ?_)
        · dsimp only
          exact Moves.refl _ _
        · dsimp only
          refine Moves.step (State.campEnd_moves _) rfl ?_
          refine Moves.upd_msn rfl ?_
          exact Moves.refl _ _

theorem execGetWarpRecord_ends (a0) (s : State) : Ends [.regs, .hst, .out, .blk 0x10, .blk 0x11] s (@execGetWarpRecord a0 s) := by
  unfold execGetWarpRecord
  refine Ends.next ?_
  refine Moves.trans ?_ (State.epGet_moves _ _ _ _ rfl (fun _ _ _ => ?_))
  · exact Moves.refl _ _
  · refine Moves.ite_fst (fun _ => ?_) (fun _ => ?_)
    · dsimp only
      exact Moves.refl _ _
    · dsimp only
      exact Moves.refl _ _

theorem execGetNode_ends (a0) (s : State) : Ends [.regs, .hst, .out, .blk 0x10, .blk 0x11] s (@execGetNode a0 s) := by
  unfold execGetNode
  refine Ends.next ?_
  refine Moves.trans ?_ (State.epGet_moves _ _ _ _ rfl (fun _ _ _ => ?_))
  · exact Moves.refl _ _
  · refine Moves.ite_fst (fun _ => ?_) (fun _ => ?_)
    · dsimp only
      exact Moves.refl _ _
    · split
      · dsimp only
        exact Moves.refl _ _
      · dsimp only
        exact Moves.refl _ _

theorem execRecomputeCancel_ends (a0) (s : State) : Ends [.regs, .pen, .hst, .evt, .out, .blk 0x10, .blk 0x11, .blk 0x13] s (@execRecomputeCancel a0 s) := by
  unfold execRecomputeCancel
  refine Ends.next ?_
  refine Moves.trans ?_ (State.objRun_moves _ _ _ _ rfl (fun _ _ _ => ?_))
  · exact Moves.refl _ _
  · refine Moves.ite_fst (fun _ => ?_) (fun _ => ?_)
    · dsimp only
      exact Moves.refl _ _
    · dsimp only
      refine Moves.step (State.abortJob_moves _ _ _) rfl ?_
      exact Moves.refl _ _

theorem execGetSeal_ends (a0) (s : State) : Ends [.regs, .hst, .out, .blk 0x10, .blk 0x11] s (@execGetSeal a0 s) := by
  unfold execGetSeal
  refine Ends.next ?_
  refine Moves.trans ?_ (State.objRun_moves _ _ _ _ rfl (fun _ _ _ => ?_))
  · exact Moves.refl _ _
  · refine Moves.ite_fst (fun _ => ?_) (fun _ => ?_)
    · dsimp only
      exact Moves.refl _ _
    · refine Moves.ite_fst (fun _ => ?_) (fun _ => ?_)
      · dsimp only
        exact Moves.refl _ _
      · split
        · dsimp only
          exact Moves.refl _ _
        · dsimp only
          exact Moves.refl _ _

theorem execGetLegalBlock_ends (a0) (s : State) : Ends [.regs, .hst, .out, .blk 0x10, .blk 0x11] s (@execGetLegalBlock a0 s) := by
  unfold execGetLegalBlock
  refine Ends.next ?_
  refine Moves.trans ?_ (State.epGet_moves _ _ _ _ rfl (fun _ _ _ => ?_))
  · exact Moves.refl _ _
  · split
    · dsimp only
      exact Moves.refl _ _
    · refine Moves.ite_fst (fun _ => ?_) (fun _ => ?_)
      · dsimp only
        exact Moves.refl _ _
      · dsimp only
        exact Moves.refl _ _

theorem execRecomputeSubmit_ends (a0) (s : State) : Ends [.regs, .pen, .hst, .evt, .out, .blk 0x10, .blk 0x11, .blk 0x13] s (@execRecomputeSubmit a0 s) := by
  unfold execRecomputeSubmit
  refine Ends.next ?_
  refine Moves.trans ?_ (State.objRun_moves _ _ _ _ rfl (fun _ _ _ => ?_))
  · exact Moves.refl _ _
  · dsimp only
    refine Moves.ite_fst (fun _ => ?_) (fun _ => ?_)
    · dsimp only
      exact Moves.refl _ _
    · refine Moves.ite_fst (fun _ => ?_) (fun _ => ?_)
      · dsimp only
        exact Moves.refl _ _
      · refine Moves.ite_fst (fun _ => ?_) (fun _ => ?_)
        · dsimp only
          exact Moves.refl _ _
        · refine Moves.ite_fst (fun _ => ?_) (fun _ => ?_)
          · dsimp only
            exact Moves.refl _ _
          · dsimp only
            refine Moves.step (State.newJob_moves _ _ _) rfl ?_
            exact Moves.refl _ _

theorem execDpCommitCard_ends (a0) (s : State) : Ends [.slv, .hst, .out] s (@execDpCommitCard a0 s) := by
  unfold execDpCommitCard
  dsimp only
  refine Ends.next ?_
  refine Moves.trans ?_ (State.commitRow_moves _ _ _ rfl (fun _ _ _ => ?_))
  · exact Moves.refl _ _
  · refine Moves.step (State.takeCard_moves _ _ _ _) rfl ?_
    exact Moves.refl _ _

theorem execGetBalance_ends (a0) (s : State) : Ends [.regs, .hst, .fresh, .out, .blk 0x10, .blk 0x11] s (@execGetBalance a0 s) := by
  unfold execGetBalance
  refine Ends.next ?_
  refine Moves.trans ?_ (State.objRun_moves _ _ _ _ rfl (fun _ _ _ => ?_))
  · exact Moves.refl _ _
  · split
    · refine Moves.ite_fst (fun _ => ?_) (fun _ => ?_)
      · dsimp only
        exact Moves.refl _ _
      · refine Moves.ite_fst (fun _ => ?_) (fun _ => ?_)
        · dsimp only
          exact Moves.refl _ _
        · dsimp only
          refine Moves.step (State.used_moves _) rfl ?_
          exact Moves.refl _ _
    · dsimp only
      exact Moves.refl _ _

theorem execGetFwCampaign_ends (a0) (s : State) : Ends [.regs, .hst, .out, .blk 0x10, .blk 0x11] s (@execGetFwCampaign a0 s) := by
  unfold execGetFwCampaign
  refine Ends.next ?_
  refine Moves.trans ?_ (State.objRun_moves _ _ _ _ rfl (fun _ _ _ => ?_))
  · exact Moves.refl _ _
  · refine Moves.ite_fst (fun _ => ?_) (fun _ => ?_)
    · dsimp only
      exact Moves.refl _ _
    · split
      · dsimp only
        exact Moves.refl _ _
      · dsimp only
        exact Moves.refl _ _

theorem execProof_ends (a0) (s : State) : Ends [.regs, .hst, .out, .blk 0x10, .blk 0x11] s (@execProof a0 s) := by
  unfold execProof
  refine Ends.next ?_
  refine Moves.trans ?_ (State.epGet_moves _ _ _ _ rfl (fun _ _ _ => ?_))
  · exact Moves.refl _ _
  · refine Moves.ite_fst (fun _ => ?_) (fun _ => ?_)
    · dsimp only
      exact Moves.refl _ _
    · refine Moves.ite_fst (fun _ => ?_) (fun _ => ?_)
      · dsimp only
        exact Moves.refl _ _
      · dsimp only
        split
        · dsimp only
          exact Moves.refl _ _
        · split
          · refine Moves.ite_fst (fun _ => ?_) (fun _ => ?_)
            · dsimp only
              exact Moves.refl _ _
            · dsimp only
              exact Moves.refl _ _
          · dsimp only
            exact Moves.refl _ _

theorem execDpCommitRecompute_ends (a0) (s : State) : Ends [.regs, .pen, .hst, .evt, .out, .blk 0x11, .blk 0x13] s (@execDpCommitRecompute a0 s) := by
  unfold execDpCommitRecompute
  refine Ends.next ?_
  refine Moves.trans ?_ (State.commitRow_moves _ _ _ rfl (fun _ _ _ => ?_))
  · exact Moves.refl _ _
  · refine Moves.step (State.takeRecompute_moves _ _ _) rfl ?_
    exact Moves.refl _ _

theorem execGetCard_ends (a0) (s : State) : Ends [.regs, .hst, .out, .blk 0x10, .blk 0x11] s (@execGetCard a0 s) := by
  unfold execGetCard
  refine Ends.next ?_
  refine Moves.trans ?_ (State.objRun_moves _ _ _ _ rfl (fun _ _ _ => ?_))
  · exact Moves.refl _ _
  · dsimp only
    refine Moves.ite_fst (fun _ => ?_) (fun _ => ?_)
    · dsimp only
      exact Moves.refl _ _
    · refine Moves.ite_fst (fun _ => ?_) (fun _ => ?_)
      · dsimp only
        exact Moves.refl _ _
      · refine Moves.ite_fst (fun _ => ?_) (fun _ => ?_)
        · dsimp only
          exact Moves.refl _ _
        · refine Moves.ite_fst (fun _ => ?_) (fun _ => ?_)
          · dsimp only
            exact Moves.refl _ _
          · refine Moves.ite_fst (fun _ => ?_) (fun _ => ?_)
            · dsimp only
              exact Moves.refl _ _
            · split
              · dsimp only
                exact Moves.refl _ _
              · dsimp only
                exact Moves.refl _ _

theorem execGetRecomputeJob_ends (a0) (s : State) : Ends [.regs, .hst, .out, .blk 0x10, .blk 0x11] s (@execGetRecomputeJob a0 s) := by
  unfold execGetRecomputeJob
  refine Ends.next ?_
  refine Moves.trans ?_ (State.objRun_moves _ _ _ _ rfl (fun _ _ _ => ?_))
  · exact Moves.refl _ _
  · refine Moves.ite_fst (fun _ => ?_) (fun _ => ?_)
    · dsimp only
      exact Moves.refl _ _
    · dsimp only
      exact Moves.refl _ _

theorem execGetArchive_ends (a0) (s : State) : Ends [.regs, .hst, .fresh, .out, .blk 0x10, .blk 0x11] s (@execGetArchive a0 s) := by
  unfold execGetArchive
  refine Ends.next ?_
  refine Moves.trans ?_ (State.epGet_moves _ _ _ _ rfl (fun _ _ _ => ?_))
  · exact Moves.refl _ _
  · split
    · refine Moves.ite_fst (fun _ => ?_) (fun _ => ?_)
      · dsimp only
        exact Moves.refl _ _
      · refine Moves.ite_fst (fun _ => ?_) (fun _ => ?_)
        · dsimp only
          exact Moves.refl _ _
        · dsimp only
          refine Moves.step (State.used_moves _) rfl ?_
          exact Moves.refl _ _
    · dsimp only
      exact Moves.refl _ _

theorem execDpCommitMeterImage_ends (a0) (s : State) : Ends [.regs, .msn, .sht, .hst, .par, .evt, .nand, .fresh, .out, .blk 0x05, .blk 0x09, .blk 0x11, .blk 0x13] s (@execDpCommitMeterImage a0 s) := by
  unfold execDpCommitMeterImage
  refine Ends.next ?_
  refine Moves.trans ?_ (State.commitRow_moves _ _ _ rfl (fun _ _ _ => ?_))
  · exact Moves.refl _ _
  · refine Moves.step (State.takeMeterImage_moves _ _ _) rfl ?_
    exact Moves.refl _ _

theorem execGetDayRecord_ends (a0) (s : State) : Ends [.regs, .hst, .out, .blk 0x10, .blk 0x11] s (@execGetDayRecord a0 s) := by
  unfold execGetDayRecord
  refine Ends.next ?_
  refine Moves.trans ?_ (State.epGet_moves _ _ _ _ rfl (fun _ _ _ => ?_))
  · exact Moves.refl _ _
  · refine Moves.ite_fst (fun _ => ?_) (fun _ => ?_)
    · dsimp only
      exact Moves.refl _ _
    · refine Moves.ite_fst (fun _ => ?_) (fun _ => ?_)
      · dsimp only
        exact Moves.refl _ _
      · split
        · dsimp only
          exact Moves.refl _ _
        · dsimp only
          exact Moves.refl _ _

end Sys2Proof.Machine
end

