-- ==== Sys2Proof/Laws/Operands.lean ====
section
/-!
SUPPORT. How far each operation of Machine/Operands.lean can change the state.
-/

namespace Sys2Proof.Machine
open Sys2Proof

theorem State.capture_moves (s : State) (a1) (a2) (a3) : Moves [.snap] s (@State.capture s a1 a2 a3) := by
  unfold State.capture
  refine Moves.foldl _ _ (fun _ _ => ?_) ?_
  · refine Moves.ite (fun _ => ?_) (fun _ => ?_)
    · exact Moves.refl _ _
    · dsimp only
      refine Moves.upd_snap rfl ?_
      exact Moves.refl _ _
  · exact Moves.refl _ _

theorem State.readReg_moves (s : State) (a1) (a2) : Moves [.snap, .fresh] s (@State.readReg s a1 a2).1 := by
  unfold State.readReg
  split
  · dsimp only
    exact Moves.refl _ _
  · dsimp only
    refine Moves.ite_fst (fun _ => ?_) (fun _ => ?_)
    · dsimp only
      refine Moves.ite (fun _ => ?_) (fun _ => ?_)
      · refine Moves.step (State.used_moves _) rfl ?_
        exact Moves.refl _ _
      · exact Moves.refl _ _
    · refine Moves.ite_fst (fun _ => ?_) (fun _ => ?_)
      · dsimp only
        refine Moves.step (State.capture_moves _ _ _ _) rfl ?_
        exact Moves.refl _ _
      · dsimp only
        exact Moves.refl _ _

end Sys2Proof.Machine
end

