-- ==== Sys2Proof/Laws/State.lean ====
section
/-!
SUPPORT. What each plain update of the state leaves alone, group by group.
-/

namespace Sys2Proof.Machine
open Sys2Proof

@[simp] theorem State.setPart_rest (s : State) (a1) (a2) :
    (@State.setPart s a1 a2).pending = s.pending ∧ (@State.setPart s a1 a2).regs = s.regs ∧
    (@State.setPart s a1 a2).snap = s.snap ∧ (@State.setPart s a1 a2).heldW = s.heldW ∧
    (@State.setPart s a1 a2).sys = s.sys ∧ (@State.setPart s a1 a2).clk = s.clk ∧ (@State.setPart s a1 a2).tmp = s.tmp ∧
    (@State.setPart s a1 a2).tim = s.tim ∧ (@State.setPart s a1 a2).ports = s.ports ∧ (@State.setPart s a1 a2).net = s.net ∧
    (@State.setPart s a1 a2).msn = s.msn ∧ (@State.setPart s a1 a2).sht = s.sht ∧ (@State.setPart s a1 a2).wrp = s.wrp ∧
    (@State.setPart s a1 a2).pen = s.pen ∧ (@State.setPart s a1 a2).slv = s.slv ∧ (@State.setPart s a1 a2).bal = s.bal ∧
    (@State.setPart s a1 a2).bem = s.bem ∧ (@State.setPart s a1 a2).key = s.key ∧ (@State.setPart s a1 a2).par = s.par ∧
    (@State.setPart s a1 a2).evt = s.evt ∧ (@State.setPart s a1 a2).otp = s.otp ∧ (@State.setPart s a1 a2).nor = s.nor ∧
    (@State.setPart s a1 a2).nand = s.nand ∧ (@State.setPart s a1 a2).fresh = s.fresh ∧
    (@State.setPart s a1 a2).out = s.out :=
  ⟨rfl, rfl, rfl, rfl, rfl, rfl, rfl, rfl, rfl, rfl, rfl, rfl, rfl, rfl, rfl, rfl, rfl, rfl, rfl, rfl, rfl, rfl, rfl, rfl, rfl⟩

@[simp] theorem State.setJob_rest (s : State) (a1) (a2) :
    (@State.setJob s a1 a2).pending = s.pending ∧ (@State.setJob s a1 a2).regs = s.regs ∧
    (@State.setJob s a1 a2).snap = s.snap ∧ (@State.setJob s a1 a2).heldW = s.heldW ∧ (@State.setJob s a1 a2).sys = s.sys ∧
    (@State.setJob s a1 a2).clk = s.clk ∧ (@State.setJob s a1 a2).tmp = s.tmp ∧ (@State.setJob s a1 a2).tim = s.tim ∧
    (@State.setJob s a1 a2).ports = s.ports ∧ (@State.setJob s a1 a2).net = s.net ∧ (@State.setJob s a1 a2).msn = s.msn ∧
    (@State.setJob s a1 a2).sht = s.sht ∧ (@State.setJob s a1 a2).wrp = s.wrp ∧ (@State.setJob s a1 a2).slv = s.slv ∧
    (@State.setJob s a1 a2).bal = s.bal ∧ (@State.setJob s a1 a2).bem = s.bem ∧ (@State.setJob s a1 a2).key = s.key ∧
    (@State.setJob s a1 a2).hst = s.hst ∧ (@State.setJob s a1 a2).par = s.par ∧ (@State.setJob s a1 a2).evt = s.evt ∧
    (@State.setJob s a1 a2).otp = s.otp ∧ (@State.setJob s a1 a2).nor = s.nor ∧ (@State.setJob s a1 a2).nand = s.nand ∧
    (@State.setJob s a1 a2).fresh = s.fresh ∧ (@State.setJob s a1 a2).out = s.out :=
  ⟨rfl, rfl, rfl, rfl, rfl, rfl, rfl, rfl, rfl, rfl, rfl, rfl, rfl, rfl, rfl, rfl, rfl, rfl, rfl, rfl, rfl, rfl, rfl, rfl, rfl⟩

@[simp] theorem State.raise_rest (s : State) (a1) (a2) (a3) (a4) (a5) (a6) :
    (@State.raise s a1 a2 a3 a4 a5 a6).pending = s.pending ∧ (@State.raise s a1 a2 a3 a4 a5 a6).snap = s.snap ∧
    (@State.raise s a1 a2 a3 a4 a5 a6).heldW = s.heldW ∧ (@State.raise s a1 a2 a3 a4 a5 a6).sys = s.sys ∧
    (@State.raise s a1 a2 a3 a4 a5 a6).clk = s.clk ∧ (@State.raise s a1 a2 a3 a4 a5 a6).tmp = s.tmp ∧
    (@State.raise s a1 a2 a3 a4 a5 a6).tim = s.tim ∧ (@State.raise s a1 a2 a3 a4 a5 a6).ports = s.ports ∧
    (@State.raise s a1 a2 a3 a4 a5 a6).net = s.net ∧ (@State.raise s a1 a2 a3 a4 a5 a6).msn = s.msn ∧
    (@State.raise s a1 a2 a3 a4 a5 a6).sht = s.sht ∧ (@State.raise s a1 a2 a3 a4 a5 a6).wrp = s.wrp ∧
    (@State.raise s a1 a2 a3 a4 a5 a6).pen = s.pen ∧ (@State.raise s a1 a2 a3 a4 a5 a6).slv = s.slv ∧
    (@State.raise s a1 a2 a3 a4 a5 a6).bal = s.bal ∧ (@State.raise s a1 a2 a3 a4 a5 a6).bem = s.bem ∧
    (@State.raise s a1 a2 a3 a4 a5 a6).key = s.key ∧ (@State.raise s a1 a2 a3 a4 a5 a6).par = s.par ∧
    (@State.raise s a1 a2 a3 a4 a5 a6).otp = s.otp ∧ (@State.raise s a1 a2 a3 a4 a5 a6).nor = s.nor ∧
    (@State.raise s a1 a2 a3 a4 a5 a6).nand = s.nand ∧ (@State.raise s a1 a2 a3 a4 a5 a6).fresh = s.fresh ∧
    (@State.raise s a1 a2 a3 a4 a5 a6).out = s.out :=
  ⟨rfl, rfl, rfl, rfl, rfl, rfl, rfl, rfl, rfl, rfl, rfl, rfl, rfl, rfl, rfl, rfl, rfl, rfl, rfl, rfl, rfl, rfl, rfl⟩

@[simp] theorem State.setNode_rest (s : State) (a1) (a2) :
    (@State.setNode s a1 a2).pending = s.pending ∧ (@State.setNode s a1 a2).regs = s.regs ∧
    (@State.setNode s a1 a2).snap = s.snap ∧ (@State.setNode s a1 a2).heldW = s.heldW ∧
    (@State.setNode s a1 a2).sys = s.sys ∧ (@State.setNode s a1 a2).clk = s.clk ∧ (@State.setNode s a1 a2).tmp = s.tmp ∧
    (@State.setNode s a1 a2).tim = s.tim ∧ (@State.setNode s a1 a2).ports = s.ports ∧ (@State.setNode s a1 a2).msn = s.msn ∧
    (@State.setNode s a1 a2).sht = s.sht ∧ (@State.setNode s a1 a2).wrp = s.wrp ∧ (@State.setNode s a1 a2).pen = s.pen ∧
    (@State.setNode s a1 a2).slv = s.slv ∧ (@State.setNode s a1 a2).bal = s.bal ∧ (@State.setNode s a1 a2).bem = s.bem ∧
    (@State.setNode s a1 a2).key = s.key ∧ (@State.setNode s a1 a2).hst = s.hst ∧ (@State.setNode s a1 a2).par = s.par ∧
    (@State.setNode s a1 a2).evt = s.evt ∧ (@State.setNode s a1 a2).otp = s.otp ∧ (@State.setNode s a1 a2).nor = s.nor ∧
    (@State.setNode s a1 a2).nand = s.nand ∧ (@State.setNode s a1 a2).fresh = s.fresh ∧
    (@State.setNode s a1 a2).out = s.out :=
  ⟨rfl, rfl, rfl, rfl, rfl, rfl, rfl, rfl, rfl, rfl, rfl, rfl, rfl, rfl, rfl, rfl, rfl, rfl, rfl, rfl, rfl, rfl, rfl, rfl, rfl⟩

@[simp] theorem State.markRoutes_rest (s : State) :
    (@State.markRoutes s).pending = s.pending ∧ (@State.markRoutes s).regs = s.regs ∧ (@State.markRoutes s).snap = s.snap ∧
    (@State.markRoutes s).heldW = s.heldW ∧ (@State.markRoutes s).sys = s.sys ∧ (@State.markRoutes s).clk = s.clk ∧
    (@State.markRoutes s).tmp = s.tmp ∧ (@State.markRoutes s).tim = s.tim ∧ (@State.markRoutes s).ports = s.ports ∧
    (@State.markRoutes s).msn = s.msn ∧ (@State.markRoutes s).sht = s.sht ∧ (@State.markRoutes s).wrp = s.wrp ∧
    (@State.markRoutes s).pen = s.pen ∧ (@State.markRoutes s).slv = s.slv ∧ (@State.markRoutes s).bal = s.bal ∧
    (@State.markRoutes s).bem = s.bem ∧ (@State.markRoutes s).key = s.key ∧ (@State.markRoutes s).hst = s.hst ∧
    (@State.markRoutes s).par = s.par ∧ (@State.markRoutes s).evt = s.evt ∧ (@State.markRoutes s).otp = s.otp ∧
    (@State.markRoutes s).nor = s.nor ∧ (@State.markRoutes s).nand = s.nand ∧ (@State.markRoutes s).fresh = s.fresh ∧
    (@State.markRoutes s).out = s.out :=
  ⟨rfl, rfl, rfl, rfl, rfl, rfl, rfl, rfl, rfl, rfl, rfl, rfl, rfl, rfl, rfl, rfl, rfl, rfl, rfl, rfl, rfl, rfl, rfl, rfl, rfl⟩

@[simp] theorem State.used_rest (s : State) :
    (@State.used s).pending = s.pending ∧ (@State.used s).regs = s.regs ∧ (@State.used s).snap = s.snap ∧
    (@State.used s).heldW = s.heldW ∧ (@State.used s).sys = s.sys ∧ (@State.used s).clk = s.clk ∧
    (@State.used s).tmp = s.tmp ∧ (@State.used s).tim = s.tim ∧ (@State.used s).ports = s.ports ∧
    (@State.used s).net = s.net ∧ (@State.used s).msn = s.msn ∧ (@State.used s).sht = s.sht ∧ (@State.used s).wrp = s.wrp ∧
    (@State.used s).pen = s.pen ∧ (@State.used s).slv = s.slv ∧ (@State.used s).bal = s.bal ∧ (@State.used s).bem = s.bem ∧
    (@State.used s).key = s.key ∧ (@State.used s).hst = s.hst ∧ (@State.used s).par = s.par ∧ (@State.used s).evt = s.evt ∧
    (@State.used s).otp = s.otp ∧ (@State.used s).nor = s.nor ∧ (@State.used s).nand = s.nand ∧
    (@State.used s).out = s.out :=
  ⟨rfl, rfl, rfl, rfl, rfl, rfl, rfl, rfl, rfl, rfl, rfl, rfl, rfl, rfl, rfl, rfl, rfl, rfl, rfl, rfl, rfl, rfl, rfl, rfl, rfl⟩

@[simp] theorem State.setNbr_rest (s : State) (a1) (a2) :
    (@State.setNbr s a1 a2).pending = s.pending ∧ (@State.setNbr s a1 a2).regs = s.regs ∧
    (@State.setNbr s a1 a2).snap = s.snap ∧ (@State.setNbr s a1 a2).heldW = s.heldW ∧ (@State.setNbr s a1 a2).sys = s.sys ∧
    (@State.setNbr s a1 a2).clk = s.clk ∧ (@State.setNbr s a1 a2).tmp = s.tmp ∧ (@State.setNbr s a1 a2).tim = s.tim ∧
    (@State.setNbr s a1 a2).ports = s.ports ∧ (@State.setNbr s a1 a2).msn = s.msn ∧ (@State.setNbr s a1 a2).sht = s.sht ∧
    (@State.setNbr s a1 a2).wrp = s.wrp ∧ (@State.setNbr s a1 a2).pen = s.pen ∧ (@State.setNbr s a1 a2).slv = s.slv ∧
    (@State.setNbr s a1 a2).bal = s.bal ∧ (@State.setNbr s a1 a2).bem = s.bem ∧ (@State.setNbr s a1 a2).key = s.key ∧
    (@State.setNbr s a1 a2).hst = s.hst ∧ (@State.setNbr s a1 a2).par = s.par ∧ (@State.setNbr s a1 a2).evt = s.evt ∧
    (@State.setNbr s a1 a2).otp = s.otp ∧ (@State.setNbr s a1 a2).nor = s.nor ∧ (@State.setNbr s a1 a2).nand = s.nand ∧
    (@State.setNbr s a1 a2).fresh = s.fresh ∧ (@State.setNbr s a1 a2).out = s.out :=
  ⟨rfl, rfl, rfl, rfl, rfl, rfl, rfl, rfl, rfl, rfl, rfl, rfl, rfl, rfl, rfl, rfl, rfl, rfl, rfl, rfl, rfl, rfl, rfl, rfl, rfl⟩

@[simp] theorem State.emit_rest (s : State) (a1) :
    (@State.emit s a1).pending = s.pending ∧ (@State.emit s a1).regs = s.regs ∧ (@State.emit s a1).snap = s.snap ∧
    (@State.emit s a1).heldW = s.heldW ∧ (@State.emit s a1).sys = s.sys ∧ (@State.emit s a1).clk = s.clk ∧
    (@State.emit s a1).tmp = s.tmp ∧ (@State.emit s a1).tim = s.tim ∧ (@State.emit s a1).ports = s.ports ∧
    (@State.emit s a1).net = s.net ∧ (@State.emit s a1).msn = s.msn ∧ (@State.emit s a1).sht = s.sht ∧
    (@State.emit s a1).wrp = s.wrp ∧ (@State.emit s a1).pen = s.pen ∧ (@State.emit s a1).slv = s.slv ∧
    (@State.emit s a1).bal = s.bal ∧ (@State.emit s a1).bem = s.bem ∧ (@State.emit s a1).key = s.key ∧
    (@State.emit s a1).hst = s.hst ∧ (@State.emit s a1).par = s.par ∧ (@State.emit s a1).evt = s.evt ∧
    (@State.emit s a1).otp = s.otp ∧ (@State.emit s a1).nor = s.nor ∧ (@State.emit s a1).nand = s.nand ∧
    (@State.emit s a1).fresh = s.fresh :=
  ⟨rfl, rfl, rfl, rfl, rfl, rfl, rfl, rfl, rfl, rfl, rfl, rfl, rfl, rfl, rfl, rfl, rfl, rfl, rfl, rfl, rfl, rfl, rfl, rfl, rfl⟩

@[simp] theorem State.toInbox_rest (s : State) (a1) (a2) (a3) :
    (@State.toInbox s a1 a2 a3).pending = s.pending ∧ (@State.toInbox s a1 a2 a3).regs = s.regs ∧
    (@State.toInbox s a1 a2 a3).snap = s.snap ∧ (@State.toInbox s a1 a2 a3).heldW = s.heldW ∧
    (@State.toInbox s a1 a2 a3).sys = s.sys ∧ (@State.toInbox s a1 a2 a3).clk = s.clk ∧
    (@State.toInbox s a1 a2 a3).tmp = s.tmp ∧ (@State.toInbox s a1 a2 a3).tim = s.tim ∧
    (@State.toInbox s a1 a2 a3).ports = s.ports ∧ (@State.toInbox s a1 a2 a3).msn = s.msn ∧
    (@State.toInbox s a1 a2 a3).sht = s.sht ∧ (@State.toInbox s a1 a2 a3).wrp = s.wrp ∧
    (@State.toInbox s a1 a2 a3).pen = s.pen ∧ (@State.toInbox s a1 a2 a3).slv = s.slv ∧
    (@State.toInbox s a1 a2 a3).bal = s.bal ∧ (@State.toInbox s a1 a2 a3).bem = s.bem ∧
    (@State.toInbox s a1 a2 a3).key = s.key ∧ (@State.toInbox s a1 a2 a3).hst = s.hst ∧
    (@State.toInbox s a1 a2 a3).par = s.par ∧ (@State.toInbox s a1 a2 a3).evt = s.evt ∧
    (@State.toInbox s a1 a2 a3).otp = s.otp ∧ (@State.toInbox s a1 a2 a3).nor = s.nor ∧
    (@State.toInbox s a1 a2 a3).nand = s.nand ∧ (@State.toInbox s a1 a2 a3).fresh = s.fresh ∧
    (@State.toInbox s a1 a2 a3).out = s.out :=
  ⟨rfl, rfl, rfl, rfl, rfl, rfl, rfl, rfl, rfl, rfl, rfl, rfl, rfl, rfl, rfl, rfl, rfl, rfl, rfl, rfl, rfl, rfl, rfl, rfl, rfl⟩

@[simp] theorem State.downFlag_rest (s : State) (a1) (a2) :
    (@State.downFlag s a1 a2).pending = s.pending ∧ (@State.downFlag s a1 a2).regs = s.regs ∧
    (@State.downFlag s a1 a2).snap = s.snap ∧ (@State.downFlag s a1 a2).heldW = s.heldW ∧
    (@State.downFlag s a1 a2).sys = s.sys ∧ (@State.downFlag s a1 a2).clk = s.clk ∧ (@State.downFlag s a1 a2).tmp = s.tmp ∧
    (@State.downFlag s a1 a2).tim = s.tim ∧ (@State.downFlag s a1 a2).ports = s.ports ∧
    (@State.downFlag s a1 a2).msn = s.msn ∧ (@State.downFlag s a1 a2).sht = s.sht ∧ (@State.downFlag s a1 a2).wrp = s.wrp ∧
    (@State.downFlag s a1 a2).pen = s.pen ∧ (@State.downFlag s a1 a2).slv = s.slv ∧ (@State.downFlag s a1 a2).bal = s.bal ∧
    (@State.downFlag s a1 a2).bem = s.bem ∧ (@State.downFlag s a1 a2).key = s.key ∧ (@State.downFlag s a1 a2).hst = s.hst ∧
    (@State.downFlag s a1 a2).par = s.par ∧ (@State.downFlag s a1 a2).evt = s.evt ∧ (@State.downFlag s a1 a2).otp = s.otp ∧
    (@State.downFlag s a1 a2).nor = s.nor ∧ (@State.downFlag s a1 a2).nand = s.nand ∧
    (@State.downFlag s a1 a2).fresh = s.fresh ∧ (@State.downFlag s a1 a2).out = s.out :=
  ⟨rfl, rfl, rfl, rfl, rfl, rfl, rfl, rfl, rfl, rfl, rfl, rfl, rfl, rfl, rfl, rfl, rfl, rfl, rfl, rfl, rfl, rfl, rfl, rfl, rfl⟩

@[simp] theorem State.setWch_rest (s : State) (a1) (a2) :
    (@State.setWch s a1 a2).pending = s.pending ∧ (@State.setWch s a1 a2).regs = s.regs ∧
    (@State.setWch s a1 a2).snap = s.snap ∧ (@State.setWch s a1 a2).heldW = s.heldW ∧ (@State.setWch s a1 a2).sys = s.sys ∧
    (@State.setWch s a1 a2).clk = s.clk ∧ (@State.setWch s a1 a2).tmp = s.tmp ∧ (@State.setWch s a1 a2).tim = s.tim ∧
    (@State.setWch s a1 a2).ports = s.ports ∧ (@State.setWch s a1 a2).net = s.net ∧ (@State.setWch s a1 a2).msn = s.msn ∧
    (@State.setWch s a1 a2).sht = s.sht ∧ (@State.setWch s a1 a2).pen = s.pen ∧ (@State.setWch s a1 a2).slv = s.slv ∧
    (@State.setWch s a1 a2).bal = s.bal ∧ (@State.setWch s a1 a2).bem = s.bem ∧ (@State.setWch s a1 a2).key = s.key ∧
    (@State.setWch s a1 a2).hst = s.hst ∧ (@State.setWch s a1 a2).par = s.par ∧ (@State.setWch s a1 a2).evt = s.evt ∧
    (@State.setWch s a1 a2).otp = s.otp ∧ (@State.setWch s a1 a2).nor = s.nor ∧ (@State.setWch s a1 a2).nand = s.nand ∧
    (@State.setWch s a1 a2).fresh = s.fresh ∧ (@State.setWch s a1 a2).out = s.out :=
  ⟨rfl, rfl, rfl, rfl, rfl, rfl, rfl, rfl, rfl, rfl, rfl, rfl, rfl, rfl, rfl, rfl, rfl, rfl, rfl, rfl, rfl, rfl, rfl, rfl, rfl⟩

@[simp] theorem State.setEpRec_rest (s : State) (a1) (a2) :
    (@State.setEpRec s a1 a2).pending = s.pending ∧ (@State.setEpRec s a1 a2).regs = s.regs ∧
    (@State.setEpRec s a1 a2).snap = s.snap ∧ (@State.setEpRec s a1 a2).heldW = s.heldW ∧
    (@State.setEpRec s a1 a2).sys = s.sys ∧ (@State.setEpRec s a1 a2).clk = s.clk ∧ (@State.setEpRec s a1 a2).tmp = s.tmp ∧
    (@State.setEpRec s a1 a2).tim = s.tim ∧ (@State.setEpRec s a1 a2).ports = s.ports ∧
    (@State.setEpRec s a1 a2).net = s.net ∧ (@State.setEpRec s a1 a2).msn = s.msn ∧ (@State.setEpRec s a1 a2).sht = s.sht ∧
    (@State.setEpRec s a1 a2).pen = s.pen ∧ (@State.setEpRec s a1 a2).slv = s.slv ∧ (@State.setEpRec s a1 a2).bal = s.bal ∧
    (@State.setEpRec s a1 a2).bem = s.bem ∧ (@State.setEpRec s a1 a2).key = s.key ∧ (@State.setEpRec s a1 a2).hst = s.hst ∧
    (@State.setEpRec s a1 a2).par = s.par ∧ (@State.setEpRec s a1 a2).evt = s.evt ∧ (@State.setEpRec s a1 a2).otp = s.otp ∧
    (@State.setEpRec s a1 a2).nor = s.nor ∧ (@State.setEpRec s a1 a2).nand = s.nand ∧
    (@State.setEpRec s a1 a2).fresh = s.fresh ∧ (@State.setEpRec s a1 a2).out = s.out :=
  ⟨rfl, rfl, rfl, rfl, rfl, rfl, rfl, rfl, rfl, rfl, rfl, rfl, rfl, rfl, rfl, rfl, rfl, rfl, rfl, rfl, rfl, rfl, rfl, rfl, rfl⟩

@[simp] theorem State.endEv_rest (s : State) (a1) (a2) :
    (@State.endEv s a1 a2).pending = s.pending ∧ (@State.endEv s a1 a2).snap = s.snap ∧
    (@State.endEv s a1 a2).heldW = s.heldW ∧ (@State.endEv s a1 a2).sys = s.sys ∧ (@State.endEv s a1 a2).clk = s.clk ∧
    (@State.endEv s a1 a2).tmp = s.tmp ∧ (@State.endEv s a1 a2).tim = s.tim ∧ (@State.endEv s a1 a2).ports = s.ports ∧
    (@State.endEv s a1 a2).net = s.net ∧ (@State.endEv s a1 a2).msn = s.msn ∧ (@State.endEv s a1 a2).sht = s.sht ∧
    (@State.endEv s a1 a2).wrp = s.wrp ∧ (@State.endEv s a1 a2).pen = s.pen ∧ (@State.endEv s a1 a2).slv = s.slv ∧
    (@State.endEv s a1 a2).bal = s.bal ∧ (@State.endEv s a1 a2).bem = s.bem ∧ (@State.endEv s a1 a2).key = s.key ∧
    (@State.endEv s a1 a2).par = s.par ∧ (@State.endEv s a1 a2).otp = s.otp ∧ (@State.endEv s a1 a2).nor = s.nor ∧
    (@State.endEv s a1 a2).nand = s.nand ∧ (@State.endEv s a1 a2).fresh = s.fresh ∧ (@State.endEv s a1 a2).out = s.out :=
  ⟨rfl, rfl, rfl, rfl, rfl, rfl, rfl, rfl, rfl, rfl, rfl, rfl, rfl, rfl, rfl, rfl, rfl, rfl, rfl, rfl, rfl, rfl, rfl⟩

@[simp] theorem State.setCard_rest (s : State) (a1) (a2) :
    (@State.setCard s a1 a2).pending = s.pending ∧ (@State.setCard s a1 a2).regs = s.regs ∧
    (@State.setCard s a1 a2).snap = s.snap ∧ (@State.setCard s a1 a2).heldW = s.heldW ∧
    (@State.setCard s a1 a2).sys = s.sys ∧ (@State.setCard s a1 a2).clk = s.clk ∧ (@State.setCard s a1 a2).tmp = s.tmp ∧
    (@State.setCard s a1 a2).tim = s.tim ∧ (@State.setCard s a1 a2).ports = s.ports ∧ (@State.setCard s a1 a2).net = s.net ∧
    (@State.setCard s a1 a2).msn = s.msn ∧ (@State.setCard s a1 a2).sht = s.sht ∧ (@State.setCard s a1 a2).wrp = s.wrp ∧
    (@State.setCard s a1 a2).pen = s.pen ∧ (@State.setCard s a1 a2).bal = s.bal ∧ (@State.setCard s a1 a2).bem = s.bem ∧
    (@State.setCard s a1 a2).key = s.key ∧ (@State.setCard s a1 a2).hst = s.hst ∧ (@State.setCard s a1 a2).par = s.par ∧
    (@State.setCard s a1 a2).evt = s.evt ∧ (@State.setCard s a1 a2).otp = s.otp ∧ (@State.setCard s a1 a2).nor = s.nor ∧
    (@State.setCard s a1 a2).nand = s.nand ∧ (@State.setCard s a1 a2).fresh = s.fresh ∧
    (@State.setCard s a1 a2).out = s.out :=
  ⟨rfl, rfl, rfl, rfl, rfl, rfl, rfl, rfl, rfl, rfl, rfl, rfl, rfl, rfl, rfl, rfl, rfl, rfl, rfl, rfl, rfl, rfl, rfl, rfl, rfl⟩

@[simp] theorem State.dropRequester_rest (s : State) (a1) :
    (@State.dropRequester s a1).pending = s.pending ∧ (@State.dropRequester s a1).regs = s.regs ∧
    (@State.dropRequester s a1).sys = s.sys ∧ (@State.dropRequester s a1).clk = s.clk ∧
    (@State.dropRequester s a1).tmp = s.tmp ∧ (@State.dropRequester s a1).tim = s.tim ∧
    (@State.dropRequester s a1).ports = s.ports ∧ (@State.dropRequester s a1).net = s.net ∧
    (@State.dropRequester s a1).msn = s.msn ∧ (@State.dropRequester s a1).sht = s.sht ∧
    (@State.dropRequester s a1).wrp = s.wrp ∧ (@State.dropRequester s a1).pen = s.pen ∧
    (@State.dropRequester s a1).slv = s.slv ∧ (@State.dropRequester s a1).bal = s.bal ∧
    (@State.dropRequester s a1).bem = s.bem ∧ (@State.dropRequester s a1).key = s.key ∧
    (@State.dropRequester s a1).hst = s.hst ∧ (@State.dropRequester s a1).par = s.par ∧
    (@State.dropRequester s a1).evt = s.evt ∧ (@State.dropRequester s a1).otp = s.otp ∧
    (@State.dropRequester s a1).nor = s.nor ∧ (@State.dropRequester s a1).nand = s.nand ∧
    (@State.dropRequester s a1).fresh = s.fresh ∧ (@State.dropRequester s a1).out = s.out :=
  ⟨rfl, rfl, rfl, rfl, rfl, rfl, rfl, rfl, rfl, rfl, rfl, rfl, rfl, rfl, rfl, rfl, rfl, rfl, rfl, rfl, rfl, rfl, rfl, rfl⟩

@[simp] theorem State.setCoreMem_rest (s : State) (a1) (a2) :
    (@State.setCoreMem s a1 a2).pending = s.pending ∧ (@State.setCoreMem s a1 a2).regs = s.regs ∧
    (@State.setCoreMem s a1 a2).snap = s.snap ∧ (@State.setCoreMem s a1 a2).heldW = s.heldW ∧
    (@State.setCoreMem s a1 a2).sys = s.sys ∧ (@State.setCoreMem s a1 a2).clk = s.clk ∧
    (@State.setCoreMem s a1 a2).tmp = s.tmp ∧ (@State.setCoreMem s a1 a2).tim = s.tim ∧
    (@State.setCoreMem s a1 a2).ports = s.ports ∧ (@State.setCoreMem s a1 a2).net = s.net ∧
    (@State.setCoreMem s a1 a2).msn = s.msn ∧ (@State.setCoreMem s a1 a2).wrp = s.wrp ∧
    (@State.setCoreMem s a1 a2).pen = s.pen ∧ (@State.setCoreMem s a1 a2).slv = s.slv ∧
    (@State.setCoreMem s a1 a2).bal = s.bal ∧ (@State.setCoreMem s a1 a2).bem = s.bem ∧
    (@State.setCoreMem s a1 a2).key = s.key ∧ (@State.setCoreMem s a1 a2).hst = s.hst ∧
    (@State.setCoreMem s a1 a2).par = s.par ∧ (@State.setCoreMem s a1 a2).evt = s.evt ∧
    (@State.setCoreMem s a1 a2).otp = s.otp ∧ (@State.setCoreMem s a1 a2).nor = s.nor ∧
    (@State.setCoreMem s a1 a2).nand = s.nand ∧ (@State.setCoreMem s a1 a2).fresh = s.fresh ∧
    (@State.setCoreMem s a1 a2).out = s.out :=
  ⟨rfl, rfl, rfl, rfl, rfl, rfl, rfl, rfl, rfl, rfl, rfl, rfl, rfl, rfl, rfl, rfl, rfl, rfl, rfl, rfl, rfl, rfl, rfl, rfl, rfl⟩

@[simp] theorem State.setIsl_rest (s : State) (a1) (a2) :
    (@State.setIsl s a1 a2).pending = s.pending ∧ (@State.setIsl s a1 a2).regs = s.regs ∧
    (@State.setIsl s a1 a2).snap = s.snap ∧ (@State.setIsl s a1 a2).heldW = s.heldW ∧ (@State.setIsl s a1 a2).sys = s.sys ∧
    (@State.setIsl s a1 a2).tmp = s.tmp ∧ (@State.setIsl s a1 a2).tim = s.tim ∧ (@State.setIsl s a1 a2).ports = s.ports ∧
    (@State.setIsl s a1 a2).net = s.net ∧ (@State.setIsl s a1 a2).msn = s.msn ∧ (@State.setIsl s a1 a2).sht = s.sht ∧
    (@State.setIsl s a1 a2).wrp = s.wrp ∧ (@State.setIsl s a1 a2).pen = s.pen ∧ (@State.setIsl s a1 a2).slv = s.slv ∧
    (@State.setIsl s a1 a2).bal = s.bal ∧ (@State.setIsl s a1 a2).bem = s.bem ∧ (@State.setIsl s a1 a2).key = s.key ∧
    (@State.setIsl s a1 a2).hst = s.hst ∧ (@State.setIsl s a1 a2).par = s.par ∧ (@State.setIsl s a1 a2).evt = s.evt ∧
    (@State.setIsl s a1 a2).otp = s.otp ∧ (@State.setIsl s a1 a2).nor = s.nor ∧ (@State.setIsl s a1 a2).nand = s.nand ∧
    (@State.setIsl s a1 a2).fresh = s.fresh ∧ (@State.setIsl s a1 a2).out = s.out :=
  ⟨rfl, rfl, rfl, rfl, rfl, rfl, rfl, rfl, rfl, rfl, rfl, rfl, rfl, rfl, rfl, rfl, rfl, rfl, rfl, rfl, rfl, rfl, rfl, rfl, rfl⟩

@[simp] theorem State.advanceResv_rest (s : State) :
    (@State.advanceResv s).pending = s.pending ∧ (@State.advanceResv s).regs = s.regs ∧
    (@State.advanceResv s).snap = s.snap ∧ (@State.advanceResv s).heldW = s.heldW ∧ (@State.advanceResv s).sys = s.sys ∧
    (@State.advanceResv s).clk = s.clk ∧ (@State.advanceResv s).tmp = s.tmp ∧ (@State.advanceResv s).tim = s.tim ∧
    (@State.advanceResv s).ports = s.ports ∧ (@State.advanceResv s).net = s.net ∧ (@State.advanceResv s).msn = s.msn ∧
    (@State.advanceResv s).sht = s.sht ∧ (@State.advanceResv s).wrp = s.wrp ∧ (@State.advanceResv s).pen = s.pen ∧
    (@State.advanceResv s).slv = s.slv ∧ (@State.advanceResv s).bal = s.bal ∧ (@State.advanceResv s).bem = s.bem ∧
    (@State.advanceResv s).hst = s.hst ∧ (@State.advanceResv s).par = s.par ∧ (@State.advanceResv s).evt = s.evt ∧
    (@State.advanceResv s).otp = s.otp ∧ (@State.advanceResv s).nor = s.nor ∧ (@State.advanceResv s).fresh = s.fresh ∧
    (@State.advanceResv s).out = s.out :=
  ⟨rfl, rfl, rfl, rfl, rfl, rfl, rfl, rfl, rfl, rfl, rfl, rfl, rfl, rfl, rfl, rfl, rfl, rfl, rfl, rfl, rfl, rfl, rfl, rfl⟩

@[simp] theorem State.setBlock_rest (s : State) (a1) (a2) :
    (@State.setBlock s a1 a2).pending = s.pending ∧ (@State.setBlock s a1 a2).regs = s.regs ∧
    (@State.setBlock s a1 a2).snap = s.snap ∧ (@State.setBlock s a1 a2).heldW = s.heldW ∧
    (@State.setBlock s a1 a2).sys = s.sys ∧ (@State.setBlock s a1 a2).clk = s.clk ∧ (@State.setBlock s a1 a2).tmp = s.tmp ∧
    (@State.setBlock s a1 a2).tim = s.tim ∧ (@State.setBlock s a1 a2).ports = s.ports ∧
    (@State.setBlock s a1 a2).net = s.net ∧ (@State.setBlock s a1 a2).msn = s.msn ∧ (@State.setBlock s a1 a2).sht = s.sht ∧
    (@State.setBlock s a1 a2).wrp = s.wrp ∧ (@State.setBlock s a1 a2).pen = s.pen ∧ (@State.setBlock s a1 a2).slv = s.slv ∧
    (@State.setBlock s a1 a2).bal = s.bal ∧ (@State.setBlock s a1 a2).bem = s.bem ∧ (@State.setBlock s a1 a2).key = s.key ∧
    (@State.setBlock s a1 a2).hst = s.hst ∧ (@State.setBlock s a1 a2).par = s.par ∧ (@State.setBlock s a1 a2).evt = s.evt ∧
    (@State.setBlock s a1 a2).otp = s.otp ∧ (@State.setBlock s a1 a2).nor = s.nor ∧
    (@State.setBlock s a1 a2).fresh = s.fresh ∧ (@State.setBlock s a1 a2).out = s.out :=
  ⟨rfl, rfl, rfl, rfl, rfl, rfl, rfl, rfl, rfl, rfl, rfl, rfl, rfl, rfl, rfl, rfl, rfl, rfl, rfl, rfl, rfl, rfl, rfl, rfl, rfl⟩

@[simp] theorem State.unmap_rest (s : State) (a1) :
    (@State.unmap s a1).pending = s.pending ∧ (@State.unmap s a1).regs = s.regs ∧ (@State.unmap s a1).snap = s.snap ∧
    (@State.unmap s a1).heldW = s.heldW ∧ (@State.unmap s a1).sys = s.sys ∧ (@State.unmap s a1).clk = s.clk ∧
    (@State.unmap s a1).tmp = s.tmp ∧ (@State.unmap s a1).tim = s.tim ∧ (@State.unmap s a1).ports = s.ports ∧
    (@State.unmap s a1).net = s.net ∧ (@State.unmap s a1).msn = s.msn ∧ (@State.unmap s a1).sht = s.sht ∧
    (@State.unmap s a1).wrp = s.wrp ∧ (@State.unmap s a1).pen = s.pen ∧ (@State.unmap s a1).slv = s.slv ∧
    (@State.unmap s a1).bal = s.bal ∧ (@State.unmap s a1).bem = s.bem ∧ (@State.unmap s a1).key = s.key ∧
    (@State.unmap s a1).hst = s.hst ∧ (@State.unmap s a1).par = s.par ∧ (@State.unmap s a1).evt = s.evt ∧
    (@State.unmap s a1).otp = s.otp ∧ (@State.unmap s a1).nor = s.nor ∧ (@State.unmap s a1).fresh = s.fresh ∧
    (@State.unmap s a1).out = s.out :=
  ⟨rfl, rfl, rfl, rfl, rfl, rfl, rfl, rfl, rfl, rfl, rfl, rfl, rfl, rfl, rfl, rfl, rfl, rfl, rfl, rfl, rfl, rfl, rfl, rfl, rfl⟩

@[simp] theorem State.dropClaim_rest (s : State) :
    (@State.dropClaim s).pending = s.pending ∧ (@State.dropClaim s).regs = s.regs ∧ (@State.dropClaim s).snap = s.snap ∧
    (@State.dropClaim s).heldW = s.heldW ∧ (@State.dropClaim s).sys = s.sys ∧ (@State.dropClaim s).clk = s.clk ∧
    (@State.dropClaim s).tmp = s.tmp ∧ (@State.dropClaim s).tim = s.tim ∧ (@State.dropClaim s).ports = s.ports ∧
    (@State.dropClaim s).net = s.net ∧ (@State.dropClaim s).msn = s.msn ∧ (@State.dropClaim s).sht = s.sht ∧
    (@State.dropClaim s).wrp = s.wrp ∧ (@State.dropClaim s).pen = s.pen ∧ (@State.dropClaim s).slv = s.slv ∧
    (@State.dropClaim s).bal = s.bal ∧ (@State.dropClaim s).bem = s.bem ∧ (@State.dropClaim s).key = s.key ∧
    (@State.dropClaim s).hst = s.hst ∧ (@State.dropClaim s).evt = s.evt ∧ (@State.dropClaim s).otp = s.otp ∧
    (@State.dropClaim s).nor = s.nor ∧ (@State.dropClaim s).nand = s.nand ∧ (@State.dropClaim s).fresh = s.fresh ∧
    (@State.dropClaim s).out = s.out :=
  ⟨rfl, rfl, rfl, rfl, rfl, rfl, rfl, rfl, rfl, rfl, rfl, rfl, rfl, rfl, rfl, rfl, rfl, rfl, rfl, rfl, rfl, rfl, rfl, rfl, rfl⟩

@[simp] theorem State.cutPulses_rest (s : State) :
    (@State.cutPulses s).pending = s.pending ∧ (@State.cutPulses s).regs = s.regs ∧ (@State.cutPulses s).snap = s.snap ∧
    (@State.cutPulses s).heldW = s.heldW ∧ (@State.cutPulses s).sys = s.sys ∧ (@State.cutPulses s).clk = s.clk ∧
    (@State.cutPulses s).tmp = s.tmp ∧ (@State.cutPulses s).tim = s.tim ∧ (@State.cutPulses s).ports = s.ports ∧
    (@State.cutPulses s).net = s.net ∧ (@State.cutPulses s).msn = s.msn ∧ (@State.cutPulses s).sht = s.sht ∧
    (@State.cutPulses s).wrp = s.wrp ∧ (@State.cutPulses s).pen = s.pen ∧ (@State.cutPulses s).bal = s.bal ∧
    (@State.cutPulses s).bem = s.bem ∧ (@State.cutPulses s).key = s.key ∧ (@State.cutPulses s).hst = s.hst ∧
    (@State.cutPulses s).par = s.par ∧ (@State.cutPulses s).evt = s.evt ∧ (@State.cutPulses s).otp = s.otp ∧
    (@State.cutPulses s).nor = s.nor ∧ (@State.cutPulses s).nand = s.nand ∧ (@State.cutPulses s).fresh = s.fresh ∧
    (@State.cutPulses s).out = s.out :=
  ⟨rfl, rfl, rfl, rfl, rfl, rfl, rfl, rfl, rfl, rfl, rfl, rfl, rfl, rfl, rfl, rfl, rfl, rfl, rfl, rfl, rfl, rfl, rfl, rfl, rfl⟩

@[simp] theorem State.avsStart_rest (s : State) (a1) :
    (@State.avsStart s a1).pending = s.pending ∧ (@State.avsStart s a1).regs = s.regs ∧
    (@State.avsStart s a1).snap = s.snap ∧ (@State.avsStart s a1).heldW = s.heldW ∧ (@State.avsStart s a1).sys = s.sys ∧
    (@State.avsStart s a1).tmp = s.tmp ∧ (@State.avsStart s a1).tim = s.tim ∧ (@State.avsStart s a1).ports = s.ports ∧
    (@State.avsStart s a1).net = s.net ∧ (@State.avsStart s a1).msn = s.msn ∧ (@State.avsStart s a1).sht = s.sht ∧
    (@State.avsStart s a1).wrp = s.wrp ∧ (@State.avsStart s a1).pen = s.pen ∧ (@State.avsStart s a1).slv = s.slv ∧
    (@State.avsStart s a1).bal = s.bal ∧ (@State.avsStart s a1).bem = s.bem ∧ (@State.avsStart s a1).key = s.key ∧
    (@State.avsStart s a1).hst = s.hst ∧ (@State.avsStart s a1).par = s.par ∧ (@State.avsStart s a1).evt = s.evt ∧
    (@State.avsStart s a1).otp = s.otp ∧ (@State.avsStart s a1).nor = s.nor ∧ (@State.avsStart s a1).nand = s.nand ∧
    (@State.avsStart s a1).fresh = s.fresh :=
  ⟨rfl, rfl, rfl, rfl, rfl, rfl, rfl, rfl, rfl, rfl, rfl, rfl, rfl, rfl, rfl, rfl, rfl, rfl, rfl, rfl, rfl, rfl, rfl, rfl⟩

@[simp] theorem State.setBal_rest (s : State) (a1) (a2) :
    (@State.setBal s a1 a2).pending = s.pending ∧ (@State.setBal s a1 a2).regs = s.regs ∧
    (@State.setBal s a1 a2).snap = s.snap ∧ (@State.setBal s a1 a2).heldW = s.heldW ∧ (@State.setBal s a1 a2).sys = s.sys ∧
    (@State.setBal s a1 a2).clk = s.clk ∧ (@State.setBal s a1 a2).tmp = s.tmp ∧ (@State.setBal s a1 a2).tim = s.tim ∧
    (@State.setBal s a1 a2).ports = s.ports ∧ (@State.setBal s a1 a2).net = s.net ∧ (@State.setBal s a1 a2).msn = s.msn ∧
    (@State.setBal s a1 a2).sht = s.sht ∧ (@State.setBal s a1 a2).wrp = s.wrp ∧ (@State.setBal s a1 a2).pen = s.pen ∧
    (@State.setBal s a1 a2).slv = s.slv ∧ (@State.setBal s a1 a2).bem = s.bem ∧ (@State.setBal s a1 a2).key = s.key ∧
    (@State.setBal s a1 a2).hst = s.hst ∧ (@State.setBal s a1 a2).par = s.par ∧ (@State.setBal s a1 a2).evt = s.evt ∧
    (@State.setBal s a1 a2).otp = s.otp ∧ (@State.setBal s a1 a2).nor = s.nor ∧ (@State.setBal s a1 a2).nand = s.nand ∧
    (@State.setBal s a1 a2).fresh = s.fresh ∧ (@State.setBal s a1 a2).out = s.out :=
  ⟨rfl, rfl, rfl, rfl, rfl, rfl, rfl, rfl, rfl, rfl, rfl, rfl, rfl, rfl, rfl, rfl, rfl, rfl, rfl, rfl, rfl, rfl, rfl, rfl, rfl⟩

@[simp] theorem State.setChSt_rest (s : State) (a1) (a2) :
    (@State.setChSt s a1 a2).pending = s.pending ∧ (@State.setChSt s a1 a2).regs = s.regs ∧
    (@State.setChSt s a1 a2).snap = s.snap ∧ (@State.setChSt s a1 a2).heldW = s.heldW ∧
    (@State.setChSt s a1 a2).sys = s.sys ∧ (@State.setChSt s a1 a2).clk = s.clk ∧ (@State.setChSt s a1 a2).tmp = s.tmp ∧
    (@State.setChSt s a1 a2).tim = s.tim ∧ (@State.setChSt s a1 a2).ports = s.ports ∧ (@State.setChSt s a1 a2).net = s.net ∧
    (@State.setChSt s a1 a2).msn = s.msn ∧ (@State.setChSt s a1 a2).sht = s.sht ∧ (@State.setChSt s a1 a2).wrp = s.wrp ∧
    (@State.setChSt s a1 a2).pen = s.pen ∧ (@State.setChSt s a1 a2).slv = s.slv ∧ (@State.setChSt s a1 a2).bal = s.bal ∧
    (@State.setChSt s a1 a2).key = s.key ∧ (@State.setChSt s a1 a2).hst = s.hst ∧ (@State.setChSt s a1 a2).par = s.par ∧
    (@State.setChSt s a1 a2).evt = s.evt ∧ (@State.setChSt s a1 a2).otp = s.otp ∧ (@State.setChSt s a1 a2).nor = s.nor ∧
    (@State.setChSt s a1 a2).nand = s.nand ∧ (@State.setChSt s a1 a2).fresh = s.fresh ∧
    (@State.setChSt s a1 a2).out = s.out :=
  ⟨rfl, rfl, rfl, rfl, rfl, rfl, rfl, rfl, rfl, rfl, rfl, rfl, rfl, rfl, rfl, rfl, rfl, rfl, rfl, rfl, rfl, rfl, rfl, rfl, rfl⟩

@[simp] theorem State.openDay_rest (s : State) (a1) (a2) :
    (@State.openDay s a1 a2).pending = s.pending ∧ (@State.openDay s a1 a2).regs = s.regs ∧
    (@State.openDay s a1 a2).snap = s.snap ∧ (@State.openDay s a1 a2).heldW = s.heldW ∧
    (@State.openDay s a1 a2).sys = s.sys ∧ (@State.openDay s a1 a2).clk = s.clk ∧ (@State.openDay s a1 a2).tmp = s.tmp ∧
    (@State.openDay s a1 a2).tim = s.tim ∧ (@State.openDay s a1 a2).ports = s.ports ∧ (@State.openDay s a1 a2).net = s.net ∧
    (@State.openDay s a1 a2).msn = s.msn ∧ (@State.openDay s a1 a2).sht = s.sht ∧ (@State.openDay s a1 a2).wrp = s.wrp ∧
    (@State.openDay s a1 a2).pen = s.pen ∧ (@State.openDay s a1 a2).bal = s.bal ∧ (@State.openDay s a1 a2).bem = s.bem ∧
    (@State.openDay s a1 a2).key = s.key ∧ (@State.openDay s a1 a2).hst = s.hst ∧ (@State.openDay s a1 a2).par = s.par ∧
    (@State.openDay s a1 a2).evt = s.evt ∧ (@State.openDay s a1 a2).otp = s.otp ∧ (@State.openDay s a1 a2).nor = s.nor ∧
    (@State.openDay s a1 a2).nand = s.nand ∧ (@State.openDay s a1 a2).fresh = s.fresh ∧
    (@State.openDay s a1 a2).out = s.out :=
  ⟨rfl, rfl, rfl, rfl, rfl, rfl, rfl, rfl, rfl, rfl, rfl, rfl, rfl, rfl, rfl, rfl, rfl, rfl, rfl, rfl, rfl, rfl, rfl, rfl, rfl⟩

@[simp] theorem State.setLch_rest (s : State) (a1) (a2) :
    (@State.setLch s a1 a2).pending = s.pending ∧ (@State.setLch s a1 a2).regs = s.regs ∧
    (@State.setLch s a1 a2).snap = s.snap ∧ (@State.setLch s a1 a2).heldW = s.heldW ∧ (@State.setLch s a1 a2).sys = s.sys ∧
    (@State.setLch s a1 a2).clk = s.clk ∧ (@State.setLch s a1 a2).tmp = s.tmp ∧ (@State.setLch s a1 a2).tim = s.tim ∧
    (@State.setLch s a1 a2).ports = s.ports ∧ (@State.setLch s a1 a2).net = s.net ∧ (@State.setLch s a1 a2).msn = s.msn ∧
    (@State.setLch s a1 a2).sht = s.sht ∧ (@State.setLch s a1 a2).wrp = s.wrp ∧ (@State.setLch s a1 a2).pen = s.pen ∧
    (@State.setLch s a1 a2).bal = s.bal ∧ (@State.setLch s a1 a2).bem = s.bem ∧ (@State.setLch s a1 a2).key = s.key ∧
    (@State.setLch s a1 a2).hst = s.hst ∧ (@State.setLch s a1 a2).par = s.par ∧ (@State.setLch s a1 a2).evt = s.evt ∧
    (@State.setLch s a1 a2).otp = s.otp ∧ (@State.setLch s a1 a2).nor = s.nor ∧ (@State.setLch s a1 a2).nand = s.nand ∧
    (@State.setLch s a1 a2).fresh = s.fresh ∧ (@State.setLch s a1 a2).out = s.out :=
  ⟨rfl, rfl, rfl, rfl, rfl, rfl, rfl, rfl, rfl, rfl, rfl, rfl, rfl, rfl, rfl, rfl, rfl, rfl, rfl, rfl, rfl, rfl, rfl, rfl, rfl⟩

@[simp] theorem State.closeSet_rest (s : State) (a1) :
    (@State.closeSet s a1).pending = s.pending ∧ (@State.closeSet s a1).regs = s.regs ∧
    (@State.closeSet s a1).snap = s.snap ∧ (@State.closeSet s a1).heldW = s.heldW ∧ (@State.closeSet s a1).sys = s.sys ∧
    (@State.closeSet s a1).clk = s.clk ∧ (@State.closeSet s a1).tmp = s.tmp ∧ (@State.closeSet s a1).tim = s.tim ∧
    (@State.closeSet s a1).ports = s.ports ∧ (@State.closeSet s a1).net = s.net ∧ (@State.closeSet s a1).msn = s.msn ∧
    (@State.closeSet s a1).sht = s.sht ∧ (@State.closeSet s a1).wrp = s.wrp ∧ (@State.closeSet s a1).pen = s.pen ∧
    (@State.closeSet s a1).bal = s.bal ∧ (@State.closeSet s a1).bem = s.bem ∧ (@State.closeSet s a1).key = s.key ∧
    (@State.closeSet s a1).hst = s.hst ∧ (@State.closeSet s a1).par = s.par ∧ (@State.closeSet s a1).evt = s.evt ∧
    (@State.closeSet s a1).otp = s.otp ∧ (@State.closeSet s a1).nor = s.nor ∧ (@State.closeSet s a1).nand = s.nand ∧
    (@State.closeSet s a1).fresh = s.fresh ∧ (@State.closeSet s a1).out = s.out :=
  ⟨rfl, rfl, rfl, rfl, rfl, rfl, rfl, rfl, rfl, rfl, rfl, rfl, rfl, rfl, rfl, rfl, rfl, rfl, rfl, rfl, rfl, rfl, rfl, rfl, rfl⟩

@[simp] theorem State.setReady_rest (s : State) (a1) (a2) :
    (@State.setReady s a1 a2).pending = s.pending ∧ (@State.setReady s a1 a2).regs = s.regs ∧
    (@State.setReady s a1 a2).snap = s.snap ∧ (@State.setReady s a1 a2).heldW = s.heldW ∧
    (@State.setReady s a1 a2).sys = s.sys ∧ (@State.setReady s a1 a2).clk = s.clk ∧ (@State.setReady s a1 a2).tmp = s.tmp ∧
    (@State.setReady s a1 a2).tim = s.tim ∧ (@State.setReady s a1 a2).ports = s.ports ∧
    (@State.setReady s a1 a2).net = s.net ∧ (@State.setReady s a1 a2).msn = s.msn ∧ (@State.setReady s a1 a2).wrp = s.wrp ∧
    (@State.setReady s a1 a2).pen = s.pen ∧ (@State.setReady s a1 a2).slv = s.slv ∧ (@State.setReady s a1 a2).bal = s.bal ∧
    (@State.setReady s a1 a2).bem = s.bem ∧ (@State.setReady s a1 a2).key = s.key ∧ (@State.setReady s a1 a2).hst = s.hst ∧
    (@State.setReady s a1 a2).par = s.par ∧ (@State.setReady s a1 a2).evt = s.evt ∧ (@State.setReady s a1 a2).otp = s.otp ∧
    (@State.setReady s a1 a2).nor = s.nor ∧ (@State.setReady s a1 a2).nand = s.nand ∧
    (@State.setReady s a1 a2).fresh = s.fresh ∧ (@State.setReady s a1 a2).out = s.out :=
  ⟨rfl, rfl, rfl, rfl, rfl, rfl, rfl, rfl, rfl, rfl, rfl, rfl, rfl, rfl, rfl, rfl, rfl, rfl, rfl, rfl, rfl, rfl, rfl, rfl, rfl⟩

@[simp] theorem State.setHolds_rest (s : State) (a1) (a2) :
    (@State.setHolds s a1 a2).pending = s.pending ∧ (@State.setHolds s a1 a2).regs = s.regs ∧
    (@State.setHolds s a1 a2).snap = s.snap ∧ (@State.setHolds s a1 a2).heldW = s.heldW ∧
    (@State.setHolds s a1 a2).sys = s.sys ∧ (@State.setHolds s a1 a2).clk = s.clk ∧ (@State.setHolds s a1 a2).tmp = s.tmp ∧
    (@State.setHolds s a1 a2).tim = s.tim ∧ (@State.setHolds s a1 a2).ports = s.ports ∧
    (@State.setHolds s a1 a2).net = s.net ∧ (@State.setHolds s a1 a2).msn = s.msn ∧ (@State.setHolds s a1 a2).wrp = s.wrp ∧
    (@State.setHolds s a1 a2).pen = s.pen ∧ (@State.setHolds s a1 a2).slv = s.slv ∧ (@State.setHolds s a1 a2).bal = s.bal ∧
    (@State.setHolds s a1 a2).bem = s.bem ∧ (@State.setHolds s a1 a2).key = s.key ∧ (@State.setHolds s a1 a2).hst = s.hst ∧
    (@State.setHolds s a1 a2).par = s.par ∧ (@State.setHolds s a1 a2).evt = s.evt ∧ (@State.setHolds s a1 a2).otp = s.otp ∧
    (@State.setHolds s a1 a2).nor = s.nor ∧ (@State.setHolds s a1 a2).nand = s.nand ∧
    (@State.setHolds s a1 a2).fresh = s.fresh ∧ (@State.setHolds s a1 a2).out = s.out :=
  ⟨rfl, rfl, rfl, rfl, rfl, rfl, rfl, rfl, rfl, rfl, rfl, rfl, rfl, rfl, rfl, rfl, rfl, rfl, rfl, rfl, rfl, rfl, rfl, rfl, rfl⟩

@[simp] theorem State.setDelay_rest (s : State) (a1) (a2) :
    (@State.setDelay s a1 a2).pending = s.pending ∧ (@State.setDelay s a1 a2).regs = s.regs ∧
    (@State.setDelay s a1 a2).snap = s.snap ∧ (@State.setDelay s a1 a2).heldW = s.heldW ∧
    (@State.setDelay s a1 a2).sys = s.sys ∧ (@State.setDelay s a1 a2).clk = s.clk ∧ (@State.setDelay s a1 a2).tmp = s.tmp ∧
    (@State.setDelay s a1 a2).tim = s.tim ∧ (@State.setDelay s a1 a2).ports = s.ports ∧
    (@State.setDelay s a1 a2).net = s.net ∧ (@State.setDelay s a1 a2).msn = s.msn ∧ (@State.setDelay s a1 a2).wrp = s.wrp ∧
    (@State.setDelay s a1 a2).pen = s.pen ∧ (@State.setDelay s a1 a2).slv = s.slv ∧ (@State.setDelay s a1 a2).bal = s.bal ∧
    (@State.setDelay s a1 a2).bem = s.bem ∧ (@State.setDelay s a1 a2).key = s.key ∧ (@State.setDelay s a1 a2).hst = s.hst ∧
    (@State.setDelay s a1 a2).par = s.par ∧ (@State.setDelay s a1 a2).evt = s.evt ∧ (@State.setDelay s a1 a2).otp = s.otp ∧
    (@State.setDelay s a1 a2).nor = s.nor ∧ (@State.setDelay s a1 a2).nand = s.nand ∧
    (@State.setDelay s a1 a2).fresh = s.fresh ∧ (@State.setDelay s a1 a2).out = s.out :=
  ⟨rfl, rfl, rfl, rfl, rfl, rfl, rfl, rfl, rfl, rfl, rfl, rfl, rfl, rfl, rfl, rfl, rfl, rfl, rfl, rfl, rfl, rfl, rfl, rfl, rfl⟩

@[simp] theorem State.setSess_rest (s : State) (a1) (a2) :
    (@State.setSess s a1 a2).pending = s.pending ∧ (@State.setSess s a1 a2).regs = s.regs ∧
    (@State.setSess s a1 a2).snap = s.snap ∧ (@State.setSess s a1 a2).heldW = s.heldW ∧
    (@State.setSess s a1 a2).sys = s.sys ∧ (@State.setSess s a1 a2).clk = s.clk ∧ (@State.setSess s a1 a2).tmp = s.tmp ∧
    (@State.setSess s a1 a2).tim = s.tim ∧ (@State.setSess s a1 a2).ports = s.ports ∧ (@State.setSess s a1 a2).net = s.net ∧
    (@State.setSess s a1 a2).sht = s.sht ∧ (@State.setSess s a1 a2).wrp = s.wrp ∧ (@State.setSess s a1 a2).pen = s.pen ∧
    (@State.setSess s a1 a2).slv = s.slv ∧ (@State.setSess s a1 a2).bal = s.bal ∧ (@State.setSess s a1 a2).bem = s.bem ∧
    (@State.setSess s a1 a2).key = s.key ∧ (@State.setSess s a1 a2).hst = s.hst ∧ (@State.setSess s a1 a2).par = s.par ∧
    (@State.setSess s a1 a2).evt = s.evt ∧ (@State.setSess s a1 a2).otp = s.otp ∧ (@State.setSess s a1 a2).nor = s.nor ∧
    (@State.setSess s a1 a2).nand = s.nand ∧ (@State.setSess s a1 a2).fresh = s.fresh ∧
    (@State.setSess s a1 a2).out = s.out :=
  ⟨rfl, rfl, rfl, rfl, rfl, rfl, rfl, rfl, rfl, rfl, rfl, rfl, rfl, rfl, rfl, rfl, rfl, rfl, rfl, rfl, rfl, rfl, rfl, rfl, rfl⟩

@[simp] theorem State.dropTask_rest (s : State) (a1) :
    (@State.dropTask s a1).pending = s.pending ∧ (@State.dropTask s a1).regs = s.regs ∧
    (@State.dropTask s a1).snap = s.snap ∧ (@State.dropTask s a1).heldW = s.heldW ∧ (@State.dropTask s a1).sys = s.sys ∧
    (@State.dropTask s a1).clk = s.clk ∧ (@State.dropTask s a1).tmp = s.tmp ∧ (@State.dropTask s a1).tim = s.tim ∧
    (@State.dropTask s a1).ports = s.ports ∧ (@State.dropTask s a1).net = s.net ∧ (@State.dropTask s a1).msn = s.msn ∧
    (@State.dropTask s a1).wrp = s.wrp ∧ (@State.dropTask s a1).pen = s.pen ∧ (@State.dropTask s a1).slv = s.slv ∧
    (@State.dropTask s a1).bal = s.bal ∧ (@State.dropTask s a1).bem = s.bem ∧ (@State.dropTask s a1).key = s.key ∧
    (@State.dropTask s a1).hst = s.hst ∧ (@State.dropTask s a1).par = s.par ∧ (@State.dropTask s a1).evt = s.evt ∧
    (@State.dropTask s a1).otp = s.otp ∧ (@State.dropTask s a1).nor = s.nor ∧ (@State.dropTask s a1).nand = s.nand ∧
    (@State.dropTask s a1).fresh = s.fresh ∧ (@State.dropTask s a1).out = s.out :=
  ⟨rfl, rfl, rfl, rfl, rfl, rfl, rfl, rfl, rfl, rfl, rfl, rfl, rfl, rfl, rfl, rfl, rfl, rfl, rfl, rfl, rfl, rfl, rfl, rfl, rfl⟩

@[simp] theorem State.dropHeld_rest (s : State) (a1) (a2) :
    (@State.dropHeld s a1 a2).pending = s.pending ∧ (@State.dropHeld s a1 a2).regs = s.regs ∧
    (@State.dropHeld s a1 a2).snap = s.snap ∧ (@State.dropHeld s a1 a2).sys = s.sys ∧
    (@State.dropHeld s a1 a2).clk = s.clk ∧ (@State.dropHeld s a1 a2).tmp = s.tmp ∧ (@State.dropHeld s a1 a2).tim = s.tim ∧
    (@State.dropHeld s a1 a2).ports = s.ports ∧ (@State.dropHeld s a1 a2).net = s.net ∧
    (@State.dropHeld s a1 a2).msn = s.msn ∧ (@State.dropHeld s a1 a2).sht = s.sht ∧ (@State.dropHeld s a1 a2).wrp = s.wrp ∧
    (@State.dropHeld s a1 a2).pen = s.pen ∧ (@State.dropHeld s a1 a2).slv = s.slv ∧ (@State.dropHeld s a1 a2).bal = s.bal ∧
    (@State.dropHeld s a1 a2).bem = s.bem ∧ (@State.dropHeld s a1 a2).key = s.key ∧ (@State.dropHeld s a1 a2).hst = s.hst ∧
    (@State.dropHeld s a1 a2).par = s.par ∧ (@State.dropHeld s a1 a2).evt = s.evt ∧ (@State.dropHeld s a1 a2).otp = s.otp ∧
    (@State.dropHeld s a1 a2).nor = s.nor ∧ (@State.dropHeld s a1 a2).nand = s.nand ∧
    (@State.dropHeld s a1 a2).fresh = s.fresh ∧ (@State.dropHeld s a1 a2).out = s.out :=
  ⟨rfl, rfl, rfl, rfl, rfl, rfl, rfl, rfl, rfl, rfl, rfl, rfl, rfl, rfl, rfl, rfl, rfl, rfl, rfl, rfl, rfl, rfl, rfl, rfl, rfl⟩

@[simp] theorem State.clearHeld_rest (s : State) (a1) :
    (@State.clearHeld s a1).pending = s.pending ∧ (@State.clearHeld s a1).regs = s.regs ∧
    (@State.clearHeld s a1).sys = s.sys ∧ (@State.clearHeld s a1).clk = s.clk ∧ (@State.clearHeld s a1).tmp = s.tmp ∧
    (@State.clearHeld s a1).tim = s.tim ∧ (@State.clearHeld s a1).ports = s.ports ∧ (@State.clearHeld s a1).net = s.net ∧
    (@State.clearHeld s a1).msn = s.msn ∧ (@State.clearHeld s a1).sht = s.sht ∧ (@State.clearHeld s a1).wrp = s.wrp ∧
    (@State.clearHeld s a1).pen = s.pen ∧ (@State.clearHeld s a1).slv = s.slv ∧ (@State.clearHeld s a1).bal = s.bal ∧
    (@State.clearHeld s a1).bem = s.bem ∧ (@State.clearHeld s a1).key = s.key ∧ (@State.clearHeld s a1).hst = s.hst ∧
    (@State.clearHeld s a1).par = s.par ∧ (@State.clearHeld s a1).evt = s.evt ∧ (@State.clearHeld s a1).otp = s.otp ∧
    (@State.clearHeld s a1).nor = s.nor ∧ (@State.clearHeld s a1).nand = s.nand ∧ (@State.clearHeld s a1).fresh = s.fresh ∧
    (@State.clearHeld s a1).out = s.out :=
  ⟨rfl, rfl, rfl, rfl, rfl, rfl, rfl, rfl, rfl, rfl, rfl, rfl, rfl, rfl, rfl, rfl, rfl, rfl, rfl, rfl, rfl, rfl, rfl, rfl⟩

@[simp] theorem State.setKey_rest (s : State) (a1) (a2) :
    (@State.setKey s a1 a2).pending = s.pending ∧ (@State.setKey s a1 a2).regs = s.regs ∧
    (@State.setKey s a1 a2).snap = s.snap ∧ (@State.setKey s a1 a2).heldW = s.heldW ∧ (@State.setKey s a1 a2).sys = s.sys ∧
    (@State.setKey s a1 a2).clk = s.clk ∧ (@State.setKey s a1 a2).tmp = s.tmp ∧ (@State.setKey s a1 a2).tim = s.tim ∧
    (@State.setKey s a1 a2).ports = s.ports ∧ (@State.setKey s a1 a2).net = s.net ∧ (@State.setKey s a1 a2).msn = s.msn ∧
    (@State.setKey s a1 a2).sht = s.sht ∧ (@State.setKey s a1 a2).wrp = s.wrp ∧ (@State.setKey s a1 a2).pen = s.pen ∧
    (@State.setKey s a1 a2).slv = s.slv ∧ (@State.setKey s a1 a2).bal = s.bal ∧ (@State.setKey s a1 a2).bem = s.bem ∧
    (@State.setKey s a1 a2).hst = s.hst ∧ (@State.setKey s a1 a2).par = s.par ∧ (@State.setKey s a1 a2).evt = s.evt ∧
    (@State.setKey s a1 a2).otp = s.otp ∧ (@State.setKey s a1 a2).nor = s.nor ∧ (@State.setKey s a1 a2).nand = s.nand ∧
    (@State.setKey s a1 a2).fresh = s.fresh ∧ (@State.setKey s a1 a2).out = s.out :=
  ⟨rfl, rfl, rfl, rfl, rfl, rfl, rfl, rfl, rfl, rfl, rfl, rfl, rfl, rfl, rfl, rfl, rfl, rfl, rfl, rfl, rfl, rfl, rfl, rfl, rfl⟩

@[simp] theorem State.parkCore_rest (s : State) (a1) :
    (@State.parkCore s a1).pending = s.pending ∧ (@State.parkCore s a1).regs = s.regs ∧
    (@State.parkCore s a1).snap = s.snap ∧ (@State.parkCore s a1).heldW = s.heldW ∧ (@State.parkCore s a1).sys = s.sys ∧
    (@State.parkCore s a1).clk = s.clk ∧ (@State.parkCore s a1).tmp = s.tmp ∧ (@State.parkCore s a1).tim = s.tim ∧
    (@State.parkCore s a1).ports = s.ports ∧ (@State.parkCore s a1).net = s.net ∧ (@State.parkCore s a1).msn = s.msn ∧
    (@State.parkCore s a1).wrp = s.wrp ∧ (@State.parkCore s a1).pen = s.pen ∧ (@State.parkCore s a1).slv = s.slv ∧
    (@State.parkCore s a1).bal = s.bal ∧ (@State.parkCore s a1).bem = s.bem ∧ (@State.parkCore s a1).key = s.key ∧
    (@State.parkCore s a1).hst = s.hst ∧ (@State.parkCore s a1).par = s.par ∧ (@State.parkCore s a1).evt = s.evt ∧
    (@State.parkCore s a1).otp = s.otp ∧ (@State.parkCore s a1).nor = s.nor ∧ (@State.parkCore s a1).nand = s.nand ∧
    (@State.parkCore s a1).fresh = s.fresh ∧ (@State.parkCore s a1).out = s.out :=
  ⟨rfl, rfl, rfl, rfl, rfl, rfl, rfl, rfl, rfl, rfl, rfl, rfl, rfl, rfl, rfl, rfl, rfl, rfl, rfl, rfl, rfl, rfl, rfl, rfl, rfl⟩

@[simp] theorem State.cmdResult_rest (s : State) (a1) :
    (@State.cmdResult s a1).pending = s.pending ∧ (@State.cmdResult s a1).regs = s.regs ∧
    (@State.cmdResult s a1).snap = s.snap ∧ (@State.cmdResult s a1).heldW = s.heldW ∧ (@State.cmdResult s a1).sys = s.sys ∧
    (@State.cmdResult s a1).clk = s.clk ∧ (@State.cmdResult s a1).tmp = s.tmp ∧ (@State.cmdResult s a1).tim = s.tim ∧
    (@State.cmdResult s a1).ports = s.ports ∧ (@State.cmdResult s a1).net = s.net ∧ (@State.cmdResult s a1).msn = s.msn ∧
    (@State.cmdResult s a1).sht = s.sht ∧ (@State.cmdResult s a1).pen = s.pen ∧ (@State.cmdResult s a1).slv = s.slv ∧
    (@State.cmdResult s a1).bal = s.bal ∧ (@State.cmdResult s a1).bem = s.bem ∧ (@State.cmdResult s a1).key = s.key ∧
    (@State.cmdResult s a1).hst = s.hst ∧ (@State.cmdResult s a1).par = s.par ∧ (@State.cmdResult s a1).evt = s.evt ∧
    (@State.cmdResult s a1).otp = s.otp ∧ (@State.cmdResult s a1).nor = s.nor ∧ (@State.cmdResult s a1).nand = s.nand ∧
    (@State.cmdResult s a1).fresh = s.fresh ∧ (@State.cmdResult s a1).out = s.out :=
  ⟨rfl, rfl, rfl, rfl, rfl, rfl, rfl, rfl, rfl, rfl, rfl, rfl, rfl, rfl, rfl, rfl, rfl, rfl, rfl, rfl, rfl, rfl, rfl, rfl, rfl⟩

@[simp] theorem State.copyFactor_rest (s : State) (a1) (a2) (a3) :
    (@State.copyFactor s a1 a2 a3).pending = s.pending ∧ (@State.copyFactor s a1 a2 a3).regs = s.regs ∧
    (@State.copyFactor s a1 a2 a3).snap = s.snap ∧ (@State.copyFactor s a1 a2 a3).heldW = s.heldW ∧
    (@State.copyFactor s a1 a2 a3).sys = s.sys ∧ (@State.copyFactor s a1 a2 a3).clk = s.clk ∧
    (@State.copyFactor s a1 a2 a3).tmp = s.tmp ∧ (@State.copyFactor s a1 a2 a3).tim = s.tim ∧
    (@State.copyFactor s a1 a2 a3).ports = s.ports ∧ (@State.copyFactor s a1 a2 a3).net = s.net ∧
    (@State.copyFactor s a1 a2 a3).msn = s.msn ∧ (@State.copyFactor s a1 a2 a3).sht = s.sht ∧
    (@State.copyFactor s a1 a2 a3).wrp = s.wrp ∧ (@State.copyFactor s a1 a2 a3).pen = s.pen ∧
    (@State.copyFactor s a1 a2 a3).slv = s.slv ∧ (@State.copyFactor s a1 a2 a3).bem = s.bem ∧
    (@State.copyFactor s a1 a2 a3).key = s.key ∧ (@State.copyFactor s a1 a2 a3).hst = s.hst ∧
    (@State.copyFactor s a1 a2 a3).par = s.par ∧ (@State.copyFactor s a1 a2 a3).evt = s.evt ∧
    (@State.copyFactor s a1 a2 a3).otp = s.otp ∧ (@State.copyFactor s a1 a2 a3).nor = s.nor ∧
    (@State.copyFactor s a1 a2 a3).nand = s.nand ∧ (@State.copyFactor s a1 a2 a3).fresh = s.fresh ∧
    (@State.copyFactor s a1 a2 a3).out = s.out :=
  ⟨rfl, rfl, rfl, rfl, rfl, rfl, rfl, rfl, rfl, rfl, rfl, rfl, rfl, rfl, rfl, rfl, rfl, rfl, rfl, rfl, rfl, rfl, rfl, rfl, rfl⟩

@[simp] theorem State.decideRole_rest (s : State) (a1) :
    (@State.decideRole s a1).pending = s.pending ∧ (@State.decideRole s a1).regs = s.regs ∧
    (@State.decideRole s a1).snap = s.snap ∧ (@State.decideRole s a1).heldW = s.heldW ∧
    (@State.decideRole s a1).clk = s.clk ∧ (@State.decideRole s a1).tmp = s.tmp ∧ (@State.decideRole s a1).tim = s.tim ∧
    (@State.decideRole s a1).ports = s.ports ∧ (@State.decideRole s a1).net = s.net ∧ (@State.decideRole s a1).msn = s.msn ∧
    (@State.decideRole s a1).sht = s.sht ∧ (@State.decideRole s a1).wrp = s.wrp ∧ (@State.decideRole s a1).pen = s.pen ∧
    (@State.decideRole s a1).slv = s.slv ∧ (@State.decideRole s a1).bal = s.bal ∧ (@State.decideRole s a1).bem = s.bem ∧
    (@State.decideRole s a1).key = s.key ∧ (@State.decideRole s a1).hst = s.hst ∧ (@State.decideRole s a1).par = s.par ∧
    (@State.decideRole s a1).evt = s.evt ∧ (@State.decideRole s a1).otp = s.otp ∧ (@State.decideRole s a1).nor = s.nor ∧
    (@State.decideRole s a1).nand = s.nand ∧ (@State.decideRole s a1).fresh = s.fresh ∧
    (@State.decideRole s a1).out = s.out :=
  ⟨rfl, rfl, rfl, rfl, rfl, rfl, rfl, rfl, rfl, rfl, rfl, rfl, rfl, rfl, rfl, rfl, rfl, rfl, rfl, rfl, rfl, rfl, rfl, rfl, rfl⟩

@[simp] theorem State.setDom_rest (s : State) (a1) (a2) :
    (@State.setDom s a1 a2).pending = s.pending ∧ (@State.setDom s a1 a2).regs = s.regs ∧
    (@State.setDom s a1 a2).snap = s.snap ∧ (@State.setDom s a1 a2).heldW = s.heldW ∧ (@State.setDom s a1 a2).sys = s.sys ∧
    (@State.setDom s a1 a2).clk = s.clk ∧ (@State.setDom s a1 a2).tmp = s.tmp ∧ (@State.setDom s a1 a2).ports = s.ports ∧
    (@State.setDom s a1 a2).net = s.net ∧ (@State.setDom s a1 a2).msn = s.msn ∧ (@State.setDom s a1 a2).sht = s.sht ∧
    (@State.setDom s a1 a2).wrp = s.wrp ∧ (@State.setDom s a1 a2).pen = s.pen ∧ (@State.setDom s a1 a2).slv = s.slv ∧
    (@State.setDom s a1 a2).bal = s.bal ∧ (@State.setDom s a1 a2).bem = s.bem ∧ (@State.setDom s a1 a2).key = s.key ∧
    (@State.setDom s a1 a2).hst = s.hst ∧ (@State.setDom s a1 a2).par = s.par ∧ (@State.setDom s a1 a2).evt = s.evt ∧
    (@State.setDom s a1 a2).otp = s.otp ∧ (@State.setDom s a1 a2).nor = s.nor ∧ (@State.setDom s a1 a2).nand = s.nand ∧
    (@State.setDom s a1 a2).fresh = s.fresh ∧ (@State.setDom s a1 a2).out = s.out :=
  ⟨rfl, rfl, rfl, rfl, rfl, rfl, rfl, rfl, rfl, rfl, rfl, rfl, rfl, rfl, rfl, rfl, rfl, rfl, rfl, rfl, rfl, rfl, rfl, rfl, rfl⟩

@[simp] theorem State.startWatch_rest (s : State) :
    (@State.startWatch s).pending = s.pending ∧ (@State.startWatch s).regs = s.regs ∧ (@State.startWatch s).snap = s.snap ∧
    (@State.startWatch s).heldW = s.heldW ∧ (@State.startWatch s).clk = s.clk ∧ (@State.startWatch s).tmp = s.tmp ∧
    (@State.startWatch s).tim = s.tim ∧ (@State.startWatch s).ports = s.ports ∧ (@State.startWatch s).net = s.net ∧
    (@State.startWatch s).msn = s.msn ∧ (@State.startWatch s).sht = s.sht ∧ (@State.startWatch s).wrp = s.wrp ∧
    (@State.startWatch s).pen = s.pen ∧ (@State.startWatch s).slv = s.slv ∧ (@State.startWatch s).bal = s.bal ∧
    (@State.startWatch s).bem = s.bem ∧ (@State.startWatch s).key = s.key ∧ (@State.startWatch s).hst = s.hst ∧
    (@State.startWatch s).par = s.par ∧ (@State.startWatch s).evt = s.evt ∧ (@State.startWatch s).otp = s.otp ∧
    (@State.startWatch s).nor = s.nor ∧ (@State.startWatch s).nand = s.nand ∧ (@State.startWatch s).fresh = s.fresh ∧
    (@State.startWatch s).out = s.out :=
  ⟨rfl, rfl, rfl, rfl, rfl, rfl, rfl, rfl, rfl, rfl, rfl, rfl, rfl, rfl, rfl, rfl, rfl, rfl, rfl, rfl, rfl, rfl, rfl, rfl, rfl⟩

@[simp] theorem State.emitAll_rest (s : State) (a1) :
    (@State.emitAll s a1).pending = s.pending ∧ (@State.emitAll s a1).regs = s.regs ∧ (@State.emitAll s a1).snap = s.snap ∧
    (@State.emitAll s a1).heldW = s.heldW ∧ (@State.emitAll s a1).sys = s.sys ∧ (@State.emitAll s a1).clk = s.clk ∧
    (@State.emitAll s a1).tmp = s.tmp ∧ (@State.emitAll s a1).tim = s.tim ∧ (@State.emitAll s a1).ports = s.ports ∧
    (@State.emitAll s a1).net = s.net ∧ (@State.emitAll s a1).msn = s.msn ∧ (@State.emitAll s a1).sht = s.sht ∧
    (@State.emitAll s a1).wrp = s.wrp ∧ (@State.emitAll s a1).pen = s.pen ∧ (@State.emitAll s a1).slv = s.slv ∧
    (@State.emitAll s a1).bal = s.bal ∧ (@State.emitAll s a1).bem = s.bem ∧ (@State.emitAll s a1).key = s.key ∧
    (@State.emitAll s a1).hst = s.hst ∧ (@State.emitAll s a1).par = s.par ∧ (@State.emitAll s a1).evt = s.evt ∧
    (@State.emitAll s a1).otp = s.otp ∧ (@State.emitAll s a1).nor = s.nor ∧ (@State.emitAll s a1).nand = s.nand ∧
    (@State.emitAll s a1).fresh = s.fresh :=
  ⟨rfl, rfl, rfl, rfl, rfl, rfl, rfl, rfl, rfl, rfl, rfl, rfl, rfl, rfl, rfl, rfl, rfl, rfl, rfl, rfl, rfl, rfl, rfl, rfl, rfl⟩

@[simp] theorem State.netFresh_rest (s : State) :
    (@State.netFresh s).pending = s.pending ∧ (@State.netFresh s).regs = s.regs ∧ (@State.netFresh s).snap = s.snap ∧
    (@State.netFresh s).heldW = s.heldW ∧ (@State.netFresh s).sys = s.sys ∧ (@State.netFresh s).clk = s.clk ∧
    (@State.netFresh s).tmp = s.tmp ∧ (@State.netFresh s).tim = s.tim ∧ (@State.netFresh s).ports = s.ports ∧
    (@State.netFresh s).msn = s.msn ∧ (@State.netFresh s).sht = s.sht ∧ (@State.netFresh s).wrp = s.wrp ∧
    (@State.netFresh s).pen = s.pen ∧ (@State.netFresh s).slv = s.slv ∧ (@State.netFresh s).bal = s.bal ∧
    (@State.netFresh s).bem = s.bem ∧ (@State.netFresh s).key = s.key ∧ (@State.netFresh s).hst = s.hst ∧
    (@State.netFresh s).par = s.par ∧ (@State.netFresh s).evt = s.evt ∧ (@State.netFresh s).otp = s.otp ∧
    (@State.netFresh s).nor = s.nor ∧ (@State.netFresh s).nand = s.nand ∧ (@State.netFresh s).fresh = s.fresh ∧
    (@State.netFresh s).out = s.out :=
  ⟨rfl, rfl, rfl, rfl, rfl, rfl, rfl, rfl, rfl, rfl, rfl, rfl, rfl, rfl, rfl, rfl, rfl, rfl, rfl, rfl, rfl, rfl, rfl, rfl, rfl⟩

@[simp] theorem State.goActive_rest (s : State) :
    (@State.goActive s).pending = s.pending ∧ (@State.goActive s).regs = s.regs ∧ (@State.goActive s).snap = s.snap ∧
    (@State.goActive s).heldW = s.heldW ∧ (@State.goActive s).clk = s.clk ∧ (@State.goActive s).tmp = s.tmp ∧
    (@State.goActive s).tim = s.tim ∧ (@State.goActive s).ports = s.ports ∧ (@State.goActive s).net = s.net ∧
    (@State.goActive s).msn = s.msn ∧ (@State.goActive s).sht = s.sht ∧ (@State.goActive s).wrp = s.wrp ∧
    (@State.goActive s).pen = s.pen ∧ (@State.goActive s).slv = s.slv ∧ (@State.goActive s).bal = s.bal ∧
    (@State.goActive s).bem = s.bem ∧ (@State.goActive s).key = s.key ∧ (@State.goActive s).hst = s.hst ∧
    (@State.goActive s).par = s.par ∧ (@State.goActive s).evt = s.evt ∧ (@State.goActive s).otp = s.otp ∧
    (@State.goActive s).nor = s.nor ∧ (@State.goActive s).nand = s.nand ∧ (@State.goActive s).fresh = s.fresh ∧
    (@State.goActive s).out = s.out :=
  ⟨rfl, rfl, rfl, rfl, rfl, rfl, rfl, rfl, rfl, rfl, rfl, rfl, rfl, rfl, rfl, rfl, rfl, rfl, rfl, rfl, rfl, rfl, rfl, rfl, rfl⟩

@[simp] theorem State.firstOffset_rest (s : State) :
    (@State.firstOffset s).pending = s.pending ∧ (@State.firstOffset s).regs = s.regs ∧
    (@State.firstOffset s).snap = s.snap ∧ (@State.firstOffset s).heldW = s.heldW ∧ (@State.firstOffset s).sys = s.sys ∧
    (@State.firstOffset s).clk = s.clk ∧ (@State.firstOffset s).tmp = s.tmp ∧ (@State.firstOffset s).ports = s.ports ∧
    (@State.firstOffset s).net = s.net ∧ (@State.firstOffset s).msn = s.msn ∧ (@State.firstOffset s).sht = s.sht ∧
    (@State.firstOffset s).wrp = s.wrp ∧ (@State.firstOffset s).pen = s.pen ∧ (@State.firstOffset s).slv = s.slv ∧
    (@State.firstOffset s).bal = s.bal ∧ (@State.firstOffset s).bem = s.bem ∧ (@State.firstOffset s).key = s.key ∧
    (@State.firstOffset s).hst = s.hst ∧ (@State.firstOffset s).par = s.par ∧ (@State.firstOffset s).evt = s.evt ∧
    (@State.firstOffset s).otp = s.otp ∧ (@State.firstOffset s).nor = s.nor ∧ (@State.firstOffset s).nand = s.nand ∧
    (@State.firstOffset s).fresh = s.fresh ∧ (@State.firstOffset s).out = s.out :=
  ⟨rfl, rfl, rfl, rfl, rfl, rfl, rfl, rfl, rfl, rfl, rfl, rfl, rfl, rfl, rfl, rfl, rfl, rfl, rfl, rfl, rfl, rfl, rfl, rfl, rfl⟩

@[simp] theorem State.reach_rest (s : State) (a1) :
    (@State.reach s a1).pending = s.pending ∧ (@State.reach s a1).regs = s.regs ∧ (@State.reach s a1).snap = s.snap ∧
    (@State.reach s a1).heldW = s.heldW ∧ (@State.reach s a1).sys = s.sys ∧ (@State.reach s a1).clk = s.clk ∧
    (@State.reach s a1).tmp = s.tmp ∧ (@State.reach s a1).ports = s.ports ∧ (@State.reach s a1).net = s.net ∧
    (@State.reach s a1).msn = s.msn ∧ (@State.reach s a1).sht = s.sht ∧ (@State.reach s a1).wrp = s.wrp ∧
    (@State.reach s a1).pen = s.pen ∧ (@State.reach s a1).slv = s.slv ∧ (@State.reach s a1).bal = s.bal ∧
    (@State.reach s a1).bem = s.bem ∧ (@State.reach s a1).key = s.key ∧ (@State.reach s a1).hst = s.hst ∧
    (@State.reach s a1).par = s.par ∧ (@State.reach s a1).evt = s.evt ∧ (@State.reach s a1).otp = s.otp ∧
    (@State.reach s a1).nor = s.nor ∧ (@State.reach s a1).nand = s.nand ∧ (@State.reach s a1).fresh = s.fresh ∧
    (@State.reach s a1).out = s.out :=
  ⟨rfl, rfl, rfl, rfl, rfl, rfl, rfl, rfl, rfl, rfl, rfl, rfl, rfl, rfl, rfl, rfl, rfl, rfl, rfl, rfl, rfl, rfl, rfl, rfl, rfl⟩

@[simp] theorem State.mountLevels_rest (s : State) :
    (@State.mountLevels s).pending = s.pending ∧ (@State.mountLevels s).regs = s.regs ∧
    (@State.mountLevels s).snap = s.snap ∧ (@State.mountLevels s).heldW = s.heldW ∧ (@State.mountLevels s).sys = s.sys ∧
    (@State.mountLevels s).clk = s.clk ∧ (@State.mountLevels s).tmp = s.tmp ∧ (@State.mountLevels s).tim = s.tim ∧
    (@State.mountLevels s).ports = s.ports ∧ (@State.mountLevels s).net = s.net ∧ (@State.mountLevels s).msn = s.msn ∧
    (@State.mountLevels s).sht = s.sht ∧ (@State.mountLevels s).wrp = s.wrp ∧ (@State.mountLevels s).pen = s.pen ∧
    (@State.mountLevels s).slv = s.slv ∧ (@State.mountLevels s).bal = s.bal ∧ (@State.mountLevels s).key = s.key ∧
    (@State.mountLevels s).hst = s.hst ∧ (@State.mountLevels s).par = s.par ∧ (@State.mountLevels s).evt = s.evt ∧
    (@State.mountLevels s).otp = s.otp ∧ (@State.mountLevels s).nor = s.nor ∧ (@State.mountLevels s).nand = s.nand ∧
    (@State.mountLevels s).fresh = s.fresh ∧ (@State.mountLevels s).out = s.out :=
  ⟨rfl, rfl, rfl, rfl, rfl, rfl, rfl, rfl, rfl, rfl, rfl, rfl, rfl, rfl, rfl, rfl, rfl, rfl, rfl, rfl, rfl, rfl, rfl, rfl, rfl⟩

@[simp] theorem State.toPhase_rest (s : State) (a1) :
    (@State.toPhase s a1).pending = s.pending ∧ (@State.toPhase s a1).regs = s.regs ∧ (@State.toPhase s a1).snap = s.snap ∧
    (@State.toPhase s a1).heldW = s.heldW ∧ (@State.toPhase s a1).clk = s.clk ∧ (@State.toPhase s a1).tmp = s.tmp ∧
    (@State.toPhase s a1).tim = s.tim ∧ (@State.toPhase s a1).ports = s.ports ∧ (@State.toPhase s a1).net = s.net ∧
    (@State.toPhase s a1).msn = s.msn ∧ (@State.toPhase s a1).sht = s.sht ∧ (@State.toPhase s a1).wrp = s.wrp ∧
    (@State.toPhase s a1).pen = s.pen ∧ (@State.toPhase s a1).slv = s.slv ∧ (@State.toPhase s a1).bal = s.bal ∧
    (@State.toPhase s a1).bem = s.bem ∧ (@State.toPhase s a1).key = s.key ∧ (@State.toPhase s a1).hst = s.hst ∧
    (@State.toPhase s a1).par = s.par ∧ (@State.toPhase s a1).evt = s.evt ∧ (@State.toPhase s a1).otp = s.otp ∧
    (@State.toPhase s a1).nor = s.nor ∧ (@State.toPhase s a1).nand = s.nand ∧ (@State.toPhase s a1).fresh = s.fresh ∧
    (@State.toPhase s a1).out = s.out :=
  ⟨rfl, rfl, rfl, rfl, rfl, rfl, rfl, rfl, rfl, rfl, rfl, rfl, rfl, rfl, rfl, rfl, rfl, rfl, rfl, rfl, rfl, rfl, rfl, rfl, rfl⟩

@[simp] theorem State.renumber_rest (s : State) :
    (@State.renumber s).pending = s.pending ∧ (@State.renumber s).regs = s.regs ∧ (@State.renumber s).snap = s.snap ∧
    (@State.renumber s).heldW = s.heldW ∧ (@State.renumber s).sys = s.sys ∧ (@State.renumber s).clk = s.clk ∧
    (@State.renumber s).tmp = s.tmp ∧ (@State.renumber s).tim = s.tim ∧ (@State.renumber s).ports = s.ports ∧
    (@State.renumber s).net = s.net ∧ (@State.renumber s).msn = s.msn ∧ (@State.renumber s).sht = s.sht ∧
    (@State.renumber s).wrp = s.wrp ∧ (@State.renumber s).pen = s.pen ∧ (@State.renumber s).slv = s.slv ∧
    (@State.renumber s).bal = s.bal ∧ (@State.renumber s).bem = s.bem ∧ (@State.renumber s).key = s.key ∧
    (@State.renumber s).hst = s.hst ∧ (@State.renumber s).evt = s.evt ∧ (@State.renumber s).otp = s.otp ∧
    (@State.renumber s).nor = s.nor ∧ (@State.renumber s).nand = s.nand ∧ (@State.renumber s).fresh = s.fresh ∧
    (@State.renumber s).out = s.out :=
  ⟨rfl, rfl, rfl, rfl, rfl, rfl, rfl, rfl, rfl, rfl, rfl, rfl, rfl, rfl, rfl, rfl, rfl, rfl, rfl, rfl, rfl, rfl, rfl, rfl, rfl⟩

@[simp] theorem State.report_rest (s : State) (a1) (a2) (a3) :
    (@State.report s a1 a2 a3).pending = s.pending ∧ (@State.report s a1 a2 a3).regs = s.regs ∧
    (@State.report s a1 a2 a3).snap = s.snap ∧ (@State.report s a1 a2 a3).heldW = s.heldW ∧
    (@State.report s a1 a2 a3).sys = s.sys ∧ (@State.report s a1 a2 a3).clk = s.clk ∧
    (@State.report s a1 a2 a3).tmp = s.tmp ∧ (@State.report s a1 a2 a3).tim = s.tim ∧
    (@State.report s a1 a2 a3).ports = s.ports ∧ (@State.report s a1 a2 a3).msn = s.msn ∧
    (@State.report s a1 a2 a3).sht = s.sht ∧ (@State.report s a1 a2 a3).wrp = s.wrp ∧
    (@State.report s a1 a2 a3).pen = s.pen ∧ (@State.report s a1 a2 a3).slv = s.slv ∧
    (@State.report s a1 a2 a3).bal = s.bal ∧ (@State.report s a1 a2 a3).bem = s.bem ∧
    (@State.report s a1 a2 a3).key = s.key ∧ (@State.report s a1 a2 a3).hst = s.hst ∧
    (@State.report s a1 a2 a3).par = s.par ∧ (@State.report s a1 a2 a3).evt = s.evt ∧
    (@State.report s a1 a2 a3).otp = s.otp ∧ (@State.report s a1 a2 a3).nor = s.nor ∧
    (@State.report s a1 a2 a3).nand = s.nand ∧ (@State.report s a1 a2 a3).fresh = s.fresh ∧
    (@State.report s a1 a2 a3).out = s.out :=
  ⟨rfl, rfl, rfl, rfl, rfl, rfl, rfl, rfl, rfl, rfl, rfl, rfl, rfl, rfl, rfl, rfl, rfl, rfl, rfl, rfl, rfl, rfl, rfl, rfl, rfl⟩

@[simp] theorem State.setBalCh_rest (s : State) (a1) (a2) :
    (@State.setBalCh s a1 a2).pending = s.pending ∧ (@State.setBalCh s a1 a2).regs = s.regs ∧
    (@State.setBalCh s a1 a2).snap = s.snap ∧ (@State.setBalCh s a1 a2).heldW = s.heldW ∧
    (@State.setBalCh s a1 a2).sys = s.sys ∧ (@State.setBalCh s a1 a2).clk = s.clk ∧ (@State.setBalCh s a1 a2).tmp = s.tmp ∧
    (@State.setBalCh s a1 a2).tim = s.tim ∧ (@State.setBalCh s a1 a2).ports = s.ports ∧
    (@State.setBalCh s a1 a2).net = s.net ∧ (@State.setBalCh s a1 a2).msn = s.msn ∧ (@State.setBalCh s a1 a2).sht = s.sht ∧
    (@State.setBalCh s a1 a2).wrp = s.wrp ∧ (@State.setBalCh s a1 a2).pen = s.pen ∧ (@State.setBalCh s a1 a2).slv = s.slv ∧
    (@State.setBalCh s a1 a2).bem = s.bem ∧ (@State.setBalCh s a1 a2).key = s.key ∧ (@State.setBalCh s a1 a2).hst = s.hst ∧
    (@State.setBalCh s a1 a2).par = s.par ∧ (@State.setBalCh s a1 a2).evt = s.evt ∧ (@State.setBalCh s a1 a2).otp = s.otp ∧
    (@State.setBalCh s a1 a2).nor = s.nor ∧ (@State.setBalCh s a1 a2).nand = s.nand ∧
    (@State.setBalCh s a1 a2).fresh = s.fresh ∧ (@State.setBalCh s a1 a2).out = s.out :=
  ⟨rfl, rfl, rfl, rfl, rfl, rfl, rfl, rfl, rfl, rfl, rfl, rfl, rfl, rfl, rfl, rfl, rfl, rfl, rfl, rfl, rfl, rfl, rfl, rfl, rfl⟩

@[simp] theorem State.setHostQueue_rest (s : State) (a1) (a2) :
    (@State.setHostQueue s a1 a2).pending = s.pending ∧ (@State.setHostQueue s a1 a2).regs = s.regs ∧
    (@State.setHostQueue s a1 a2).snap = s.snap ∧ (@State.setHostQueue s a1 a2).heldW = s.heldW ∧
    (@State.setHostQueue s a1 a2).sys = s.sys ∧ (@State.setHostQueue s a1 a2).clk = s.clk ∧
    (@State.setHostQueue s a1 a2).tmp = s.tmp ∧ (@State.setHostQueue s a1 a2).ports = s.ports ∧
    (@State.setHostQueue s a1 a2).net = s.net ∧ (@State.setHostQueue s a1 a2).msn = s.msn ∧
    (@State.setHostQueue s a1 a2).sht = s.sht ∧ (@State.setHostQueue s a1 a2).wrp = s.wrp ∧
    (@State.setHostQueue s a1 a2).pen = s.pen ∧ (@State.setHostQueue s a1 a2).slv = s.slv ∧
    (@State.setHostQueue s a1 a2).bal = s.bal ∧ (@State.setHostQueue s a1 a2).bem = s.bem ∧
    (@State.setHostQueue s a1 a2).key = s.key ∧ (@State.setHostQueue s a1 a2).hst = s.hst ∧
    (@State.setHostQueue s a1 a2).par = s.par ∧ (@State.setHostQueue s a1 a2).evt = s.evt ∧
    (@State.setHostQueue s a1 a2).otp = s.otp ∧ (@State.setHostQueue s a1 a2).nor = s.nor ∧
    (@State.setHostQueue s a1 a2).nand = s.nand ∧ (@State.setHostQueue s a1 a2).fresh = s.fresh ∧
    (@State.setHostQueue s a1 a2).out = s.out :=
  ⟨rfl, rfl, rfl, rfl, rfl, rfl, rfl, rfl, rfl, rfl, rfl, rfl, rfl, rfl, rfl, rfl, rfl, rfl, rfl, rfl, rfl, rfl, rfl, rfl, rfl⟩

@[simp] theorem State.setLock_rest (s : State) (a1) (a2) :
    (@State.setLock s a1 a2).pending = s.pending ∧ (@State.setLock s a1 a2).regs = s.regs ∧
    (@State.setLock s a1 a2).snap = s.snap ∧ (@State.setLock s a1 a2).heldW = s.heldW ∧
    (@State.setLock s a1 a2).sys = s.sys ∧ (@State.setLock s a1 a2).clk = s.clk ∧ (@State.setLock s a1 a2).tmp = s.tmp ∧
    (@State.setLock s a1 a2).tim = s.tim ∧ (@State.setLock s a1 a2).ports = s.ports ∧ (@State.setLock s a1 a2).net = s.net ∧
    (@State.setLock s a1 a2).msn = s.msn ∧ (@State.setLock s a1 a2).sht = s.sht ∧ (@State.setLock s a1 a2).wrp = s.wrp ∧
    (@State.setLock s a1 a2).pen = s.pen ∧ (@State.setLock s a1 a2).slv = s.slv ∧ (@State.setLock s a1 a2).bal = s.bal ∧
    (@State.setLock s a1 a2).bem = s.bem ∧ (@State.setLock s a1 a2).key = s.key ∧ (@State.setLock s a1 a2).hst = s.hst ∧
    (@State.setLock s a1 a2).evt = s.evt ∧ (@State.setLock s a1 a2).otp = s.otp ∧ (@State.setLock s a1 a2).nor = s.nor ∧
    (@State.setLock s a1 a2).nand = s.nand ∧ (@State.setLock s a1 a2).fresh = s.fresh ∧
    (@State.setLock s a1 a2).out = s.out :=
  ⟨rfl, rfl, rfl, rfl, rfl, rfl, rfl, rfl, rfl, rfl, rfl, rfl, rfl, rfl, rfl, rfl, rfl, rfl, rfl, rfl, rfl, rfl, rfl, rfl, rfl⟩

@[simp] theorem State.setOut_rest (s : State) (a1) (a2) :
    (@State.setOut s a1 a2).pending = s.pending ∧ (@State.setOut s a1 a2).regs = s.regs ∧
    (@State.setOut s a1 a2).snap = s.snap ∧ (@State.setOut s a1 a2).heldW = s.heldW ∧ (@State.setOut s a1 a2).sys = s.sys ∧
    (@State.setOut s a1 a2).clk = s.clk ∧ (@State.setOut s a1 a2).tmp = s.tmp ∧ (@State.setOut s a1 a2).tim = s.tim ∧
    (@State.setOut s a1 a2).ports = s.ports ∧ (@State.setOut s a1 a2).net = s.net ∧ (@State.setOut s a1 a2).msn = s.msn ∧
    (@State.setOut s a1 a2).sht = s.sht ∧ (@State.setOut s a1 a2).wrp = s.wrp ∧ (@State.setOut s a1 a2).pen = s.pen ∧
    (@State.setOut s a1 a2).bal = s.bal ∧ (@State.setOut s a1 a2).bem = s.bem ∧ (@State.setOut s a1 a2).key = s.key ∧
    (@State.setOut s a1 a2).hst = s.hst ∧ (@State.setOut s a1 a2).par = s.par ∧ (@State.setOut s a1 a2).evt = s.evt ∧
    (@State.setOut s a1 a2).otp = s.otp ∧ (@State.setOut s a1 a2).nor = s.nor ∧ (@State.setOut s a1 a2).nand = s.nand ∧
    (@State.setOut s a1 a2).fresh = s.fresh ∧ (@State.setOut s a1 a2).out = s.out :=
  ⟨rfl, rfl, rfl, rfl, rfl, rfl, rfl, rfl, rfl, rfl, rfl, rfl, rfl, rfl, rfl, rfl, rfl, rfl, rfl, rfl, rfl, rfl, rfl, rfl, rfl⟩

@[simp] theorem State.setZcGroup_rest (s : State) (a1) (a2) :
    (@State.setZcGroup s a1 a2).pending = s.pending ∧ (@State.setZcGroup s a1 a2).regs = s.regs ∧
    (@State.setZcGroup s a1 a2).snap = s.snap ∧ (@State.setZcGroup s a1 a2).heldW = s.heldW ∧
    (@State.setZcGroup s a1 a2).sys = s.sys ∧ (@State.setZcGroup s a1 a2).clk = s.clk ∧
    (@State.setZcGroup s a1 a2).tmp = s.tmp ∧ (@State.setZcGroup s a1 a2).ports = s.ports ∧
    (@State.setZcGroup s a1 a2).net = s.net ∧ (@State.setZcGroup s a1 a2).msn = s.msn ∧
    (@State.setZcGroup s a1 a2).sht = s.sht ∧ (@State.setZcGroup s a1 a2).wrp = s.wrp ∧
    (@State.setZcGroup s a1 a2).pen = s.pen ∧ (@State.setZcGroup s a1 a2).slv = s.slv ∧
    (@State.setZcGroup s a1 a2).bal = s.bal ∧ (@State.setZcGroup s a1 a2).bem = s.bem ∧
    (@State.setZcGroup s a1 a2).key = s.key ∧ (@State.setZcGroup s a1 a2).hst = s.hst ∧
    (@State.setZcGroup s a1 a2).par = s.par ∧ (@State.setZcGroup s a1 a2).evt = s.evt ∧
    (@State.setZcGroup s a1 a2).otp = s.otp ∧ (@State.setZcGroup s a1 a2).nor = s.nor ∧
    (@State.setZcGroup s a1 a2).nand = s.nand ∧ (@State.setZcGroup s a1 a2).fresh = s.fresh ∧
    (@State.setZcGroup s a1 a2).out = s.out :=
  ⟨rfl, rfl, rfl, rfl, rfl, rfl, rfl, rfl, rfl, rfl, rfl, rfl, rfl, rfl, rfl, rfl, rfl, rfl, rfl, rfl, rfl, rfl, rfl, rfl, rfl⟩

@[simp] theorem State.setZcPort_rest (s : State) (a1) (a2) :
    (@State.setZcPort s a1 a2).pending = s.pending ∧ (@State.setZcPort s a1 a2).regs = s.regs ∧
    (@State.setZcPort s a1 a2).snap = s.snap ∧ (@State.setZcPort s a1 a2).heldW = s.heldW ∧
    (@State.setZcPort s a1 a2).sys = s.sys ∧ (@State.setZcPort s a1 a2).clk = s.clk ∧
    (@State.setZcPort s a1 a2).tmp = s.tmp ∧ (@State.setZcPort s a1 a2).ports = s.ports ∧
    (@State.setZcPort s a1 a2).net = s.net ∧ (@State.setZcPort s a1 a2).msn = s.msn ∧
    (@State.setZcPort s a1 a2).sht = s.sht ∧ (@State.setZcPort s a1 a2).wrp = s.wrp ∧
    (@State.setZcPort s a1 a2).pen = s.pen ∧ (@State.setZcPort s a1 a2).slv = s.slv ∧
    (@State.setZcPort s a1 a2).bal = s.bal ∧ (@State.setZcPort s a1 a2).bem = s.bem ∧
    (@State.setZcPort s a1 a2).key = s.key ∧ (@State.setZcPort s a1 a2).hst = s.hst ∧
    (@State.setZcPort s a1 a2).par = s.par ∧ (@State.setZcPort s a1 a2).evt = s.evt ∧
    (@State.setZcPort s a1 a2).otp = s.otp ∧ (@State.setZcPort s a1 a2).nor = s.nor ∧
    (@State.setZcPort s a1 a2).nand = s.nand ∧ (@State.setZcPort s a1 a2).fresh = s.fresh ∧
    (@State.setZcPort s a1 a2).out = s.out :=
  ⟨rfl, rfl, rfl, rfl, rfl, rfl, rfl, rfl, rfl, rfl, rfl, rfl, rfl, rfl, rfl, rfl, rfl, rfl, rfl, rfl, rfl, rfl, rfl, rfl, rfl⟩

end Sys2Proof.Machine
end

