-- ==== Sys2Proof/Laws/Reach.lean ====
section
/-!
SUPPORT. The counter's advance (`State.reach`) changes only TIM_CNT: every other reading of the state is as before.
-/

namespace Sys2Proof.Machine
open Sys2Proof

@[simp] theorem State.ackWaitOf_reach (s : State) (n : Nat) (a1) : @State.ackWaitOf (s.reach n) a1 = @State.ackWaitOf s a1 := rfl
@[simp] theorem State.activates_reach (s : State) (n : Nat) (a1) (a2) : @State.activates (s.reach n) a1 a2 = @State.activates s a1 a2 := rfl
@[simp] theorem State.active_reach (s : State) (n : Nat) (a1) (a2) : @State.active (s.reach n) a1 a2 = @State.active s a1 a2 := rfl
@[simp] theorem State.aggregated_reach (s : State) (n : Nat) (a1) (a2) : @State.aggregated (s.reach n) a1 a2 = @State.aggregated s a1 a2 := rfl
@[simp] theorem State.announceN_reach (s : State) (n : Nat) (a1) : @State.announceN (s.reach n) a1 = @State.announceN s a1 := rfl
@[simp] theorem State.archErases_reach (s : State) (n : Nat) : @State.archErases (s.reach n) = @State.archErases s := rfl
@[simp] theorem State.archUnits_reach (s : State) (n : Nat) (a1) : @State.archUnits (s.reach n) a1 = @State.archUnits s a1 := rfl
@[simp] theorem State.archived_reach (s : State) (n : Nat) (a1) : @State.archived (s.reach n) a1 = @State.archived s a1 := rfl
@[simp] theorem State.asym_reach (s : State) (n : Nat) (a1) : @State.asym (s.reach n) a1 = @State.asym s a1 := rfl
@[simp] theorem State.auxActive_reach (s : State) (n : Nat) (a1) : @State.auxActive (s.reach n) a1 = @State.auxActive s a1 := rfl
@[simp] theorem State.auxInterrupt_reach (s : State) (n : Nat) (a1) (a2) : @State.auxInterrupt (s.reach n) a1 a2 = @State.auxInterrupt s a1 a2 := rfl
@[simp] theorem State.awake_reach (s : State) (n : Nat) (a1) : @State.awake (s.reach n) a1 = @State.awake s a1 := rfl
@[simp] theorem State.backbone_reach (s : State) (n : Nat) (a1) : @State.backbone (s.reach n) a1 = @State.backbone s a1 := rfl
@[simp] theorem State.balCh_reach (s : State) (n : Nat) (a1) : @State.balCh (s.reach n) a1 = @State.balCh s a1 := rfl
@[simp] theorem State.balNodes_reach (s : State) (n : Nat) : @State.balNodes (s.reach n) = @State.balNodes s := rfl
@[simp] theorem State.balOn_reach (s : State) (n : Nat) : @State.balOn (s.reach n) = @State.balOn s := rfl
@[simp] theorem State.balSt_reach (s : State) (n : Nat) (a1) : @State.balSt (s.reach n) a1 = @State.balSt s a1 := rfl
@[simp] theorem State.bandF_reach (s : State) (n : Nat) (a1) : @State.bandF (s.reach n) a1 = @State.bandF s a1 := rfl
@[simp] theorem State.baseChan_reach (s : State) (n : Nat) (a1) (a2) : @State.baseChan (s.reach n) a1 a2 = @State.baseChan s a1 a2 := rfl
@[simp] theorem State.batchCheck_reach (s : State) (n : Nat) (a1) (a2) : @State.batchCheck (s.reach n) a1 a2 = @State.batchCheck s a1 a2 := rfl
@[simp] theorem State.beaconDue_reach (s : State) (n : Nat) (a1) (a2) : @State.beaconDue (s.reach n) a1 a2 = @State.beaconDue s a1 a2 := rfl
@[simp] theorem State.beaconLaunch_reach (s : State) (n : Nat) (a1) (a2) : @State.beaconLaunch (s.reach n) a1 a2 = @State.beaconLaunch s a1 a2 := rfl
@[simp] theorem State.beaconS_reach (s : State) (n : Nat) : @State.beaconS (s.reach n) = @State.beaconS s := rfl
@[simp] theorem State.beamUp_reach (s : State) (n : Nat) : @State.beamUp (s.reach n) = @State.beamUp s := rfl
@[simp] theorem State.bestVia_reach (s : State) (n : Nat) (a1) (a2) (a3) : @State.bestVia (s.reach n) a1 a2 a3 = @State.bestVia s a1 a2 a3 := rfl
@[simp] theorem State.between_reach (s : State) (n : Nat) (a1) (a2) : @State.between (s.reach n) a1 a2 = @State.between s a1 a2 := rfl
@[simp] theorem State.blocksOf_reach (s : State) (n : Nat) (a1) (a2) : @State.blocksOf (s.reach n) a1 a2 = @State.blocksOf s a1 a2 := rfl
@[simp] theorem State.bookCtx_reach (s : State) (n : Nat) (a1) : @State.bookCtx (s.reach n) a1 = @State.bookCtx s a1 := rfl
@[simp] theorem State.bootStep_reach (s : State) (n : Nat) (a1) (a2) : @State.bootStep (s.reach n) a1 a2 = @State.bootStep s a1 a2 := rfl
@[simp] theorem State.boundFuel_reach (s : State) (n : Nat) : @State.boundFuel (s.reach n) = @State.boundFuel s := rfl
@[simp] theorem State.cacheBytes_reach (s : State) (n : Nat) : @State.cacheBytes (s.reach n) = @State.cacheBytes s := rfl
@[simp] theorem State.campPort_reach (s : State) (n : Nat) (a1) (a2) : @State.campPort (s.reach n) a1 a2 = @State.campPort s a1 a2 := rfl
@[simp] theorem State.campRehome_reach (s : State) (n : Nat) (a1) : @State.campRehome (s.reach n) a1 = @State.campRehome s a1 := rfl
@[simp] theorem State.campWant_reach (s : State) (n : Nat) (a1) (a2) (a3) : @State.campWant (s.reach n) a1 a2 a3 = @State.campWant s a1 a2 a3 := rfl
@[simp] theorem State.cap_reach (s : State) (n : Nat) (a1) : @State.cap (s.reach n) a1 = @State.cap s a1 := rfl
@[simp] theorem State.captureNs_reach (s : State) (n : Nat) (a1) (a2) : @State.captureNs (s.reach n) a1 a2 = @State.captureNs s a1 a2 := rfl
@[simp] theorem State.card_reach (s : State) (n : Nat) (a1) : @State.card (s.reach n) a1 = @State.card s a1 := rfl
@[simp] theorem State.cardHidden_reach (s : State) (n : Nat) (a1) (a2) : @State.cardHidden (s.reach n) a1 a2 = @State.cardHidden s a1 a2 := rfl
@[simp] theorem State.cardHist_reach (s : State) (n : Nat) (a1) : @State.cardHist (s.reach n) a1 = @State.cardHist s a1 := rfl
@[simp] theorem State.cardPlan_reach (s : State) (n : Nat) (a1) : @State.cardPlan (s.reach n) a1 = @State.cardPlan s a1 := rfl
@[simp] theorem State.cardsOf_reach (s : State) (n : Nat) (a1) : @State.cardsOf (s.reach n) a1 = @State.cardsOf s a1 := rfl
@[simp] theorem State.cell_reach (s : State) (n : Nat) (a1) : @State.cell (s.reach n) a1 = @State.cell s a1 := rfl
@[simp] theorem State.cellLimit_reach (s : State) (n : Nat) (a1) : @State.cellLimit (s.reach n) a1 = @State.cellLimit s a1 := rfl
@[simp] theorem State.cellRoom_reach (s : State) (n : Nat) (a1) (a2) : @State.cellRoom (s.reach n) a1 a2 = @State.cellRoom s a1 a2 := rfl
@[simp] theorem State.cellSize_reach (s : State) (n : Nat) (a1) (a2) : @State.cellSize (s.reach n) a1 a2 = @State.cellSize s a1 a2 := rfl
@[simp] theorem State.centre_reach (s : State) (n : Nat) (a1) (a2) : @State.centre (s.reach n) a1 a2 = @State.centre s a1 a2 := rfl
@[simp] theorem State.certDigest_reach (s : State) (n : Nat) (a1) : @State.certDigest (s.reach n) a1 = @State.certDigest s a1 := rfl
@[simp] theorem State.chBase_reach (s : State) (n : Nat) (a1) : @State.chBase (s.reach n) a1 = @State.chBase s a1 := rfl
@[simp] theorem State.chEnWith_reach (s : State) (n : Nat) (a1) (a2) : @State.chEnWith (s.reach n) a1 a2 = @State.chEnWith s a1 a2 := rfl
@[simp] theorem State.chErases_reach (s : State) (n : Nat) (a1) : @State.chErases (s.reach n) a1 = @State.chErases s a1 := rfl
@[simp] theorem State.chSt_reach (s : State) (n : Nat) (a1) : @State.chSt (s.reach n) a1 = @State.chSt s a1 := rfl
@[simp] theorem State.chUnits_reach (s : State) (n : Nat) (a1) (a2) : @State.chUnits (s.reach n) a1 a2 = @State.chUnits s a1 a2 := rfl
@[simp] theorem State.checkAll_reach (s : State) (n : Nat) (a1) (a2) : @State.checkAll (s.reach n) a1 a2 = @State.checkAll s a1 a2 := rfl
@[simp] theorem State.chids_reach (s : State) (n : Nat) : @State.chids (s.reach n) = @State.chids s := rfl
@[simp] theorem State.chidsOk_reach (s : State) (n : Nat) (a1) (a2) : @State.chidsOk (s.reach n) a1 a2 = @State.chidsOk s a1 a2 := rfl
@[simp] theorem State.chmapReg_reach (s : State) (n : Nat) (a1) : @State.chmapReg (s.reach n) a1 = @State.chmapReg s a1 := rfl
@[simp] theorem State.chooseHop_reach (s : State) (n : Nat) (a1) : @State.chooseHop (s.reach n) a1 = @State.chooseHop s a1 := rfl
@[simp] theorem State.claimBall_reach (s : State) (n : Nat) : @State.claimBall (s.reach n) = @State.claimBall s := rfl
@[simp] theorem State.claimLevels_reach (s : State) (n : Nat) : @State.claimLevels (s.reach n) = @State.claimLevels s := rfl
@[simp] theorem State.clockTol_reach (s : State) (n : Nat) : @State.clockTol (s.reach n) = @State.clockTol s := rfl
@[simp] theorem State.clusterOn_reach (s : State) (n : Nat) (a1) : @State.clusterOn (s.reach n) a1 = @State.clusterOn s a1 := rfl
@[simp] theorem State.clustersUp_reach (s : State) (n : Nat) : @State.clustersUp (s.reach n) = @State.clustersUp s := rfl
@[simp] theorem State.commitStatus_reach (s : State) (n : Nat) (a1) (a2) (a3) : @State.commitStatus (s.reach n) a1 a2 a3 = @State.commitStatus s a1 a2 a3 := rfl
@[simp] theorem State.completeCode_reach (s : State) (n : Nat) (a1) : @State.completeCode (s.reach n) a1 = @State.completeCode s a1 := rfl
@[simp] theorem State.connChan_reach (s : State) (n : Nat) (a1) (a2) : @State.connChan (s.reach n) a1 a2 = @State.connChan s a1 a2 := rfl
@[simp] theorem State.connClash_reach (s : State) (n : Nat) (a1) (a2) (a3) : @State.connClash (s.reach n) a1 a2 a3 = @State.connClash s a1 a2 a3 := rfl
@[simp] theorem State.connNow_reach (s : State) (n : Nat) (a1) (a2) (a3) : @State.connNow (s.reach n) a1 a2 a3 = @State.connNow s a1 a2 a3 := rfl
@[simp] theorem State.connW_reach (s : State) (n : Nat) (a1) (a2) : @State.connW (s.reach n) a1 a2 = @State.connW s a1 a2 := rfl
@[simp] theorem State.connWin_reach (s : State) (n : Nat) (a1) : @State.connWin (s.reach n) a1 = @State.connWin s a1 := rfl
@[simp] theorem State.connected_reach (s : State) (n : Nat) (a1) (a2) : @State.connected (s.reach n) a1 a2 = @State.connected s a1 a2 := rfl
@[simp] theorem State.consumerDown_reach (s : State) (n : Nat) (a1) : @State.consumerDown (s.reach n) a1 = @State.consumerDown s a1 := rfl
@[simp] theorem State.contractCfg_reach (s : State) (n : Nat) (a1) : @State.contractCfg (s.reach n) a1 = @State.contractCfg s a1 := rfl
@[simp] theorem State.contractOf_reach (s : State) (n : Nat) (a1) : @State.contractOf (s.reach n) a1 = @State.contractOf s a1 := rfl
@[simp] theorem State.contractScope_reach (s : State) (n : Nat) (a1) (a2) : @State.contractScope (s.reach n) a1 a2 = @State.contractScope s a1 a2 := rfl
@[simp] theorem State.contracts_reach (s : State) (n : Nat) : @State.contracts (s.reach n) = @State.contracts s := rfl
@[simp] theorem State.control_reach (s : State) (n : Nat) (a1) (a2) (a3) : @State.control (s.reach n) a1 a2 a3 = @State.control s a1 a2 a3 := rfl
@[simp] theorem State.convOf_reach (s : State) (n : Nat) (a1) : @State.convOf (s.reach n) a1 = @State.convOf s a1 := rfl
@[simp] theorem State.convert_reach (s : State) (n : Nat) (a1) (a2) (a3) (a4) (a5) : @State.convert (s.reach n) a1 a2 a3 a4 a5 = @State.convert s a1 a2 a3 a4 a5 := rfl
@[simp] theorem State.convert'_reach (s : State) (n : Nat) (a1) : @State.convert' (s.reach n) a1 = @State.convert' s a1 := rfl
@[simp] theorem State.coreMem_reach (s : State) (n : Nat) (a1) : @State.coreMem (s.reach n) a1 = @State.coreMem s a1 := rfl
@[simp] theorem State.coreRuns_reach (s : State) (n : Nat) (a1) : @State.coreRuns (s.reach n) a1 = @State.coreRuns s a1 := rfl
@[simp] theorem State.coresUsable_reach (s : State) (n : Nat) : @State.coresUsable (s.reach n) = @State.coresUsable s := rfl
@[simp] theorem State.costMax_reach (s : State) (n : Nat) : @State.costMax (s.reach n) = @State.costMax s := rfl
@[simp] theorem State.coverWait_reach (s : State) (n : Nat) : @State.coverWait (s.reach n) = @State.coverWait s := rfl
@[simp] theorem State.coverage_reach (s : State) (n : Nat) (a1) : @State.coverage (s.reach n) a1 = @State.coverage s a1 := rfl
@[simp] theorem State.crossingBefore_reach (s : State) (n : Nat) (a1) (a2) : @State.crossingBefore (s.reach n) a1 a2 = @State.crossingBefore s a1 a2 := rfl
@[simp] theorem State.dayChans_reach (s : State) (n : Nat) (a1) (a2) : @State.dayChans (s.reach n) a1 a2 = @State.dayChans s a1 a2 := rfl
@[simp] theorem State.dayRec_reach (s : State) (n : Nat) (a1) (a2) : @State.dayRec (s.reach n) a1 a2 = @State.dayRec s a1 a2 := rfl
@[simp] theorem State.dayRecord_reach (s : State) (n : Nat) (a1) (a2) : @State.dayRecord (s.reach n) a1 a2 = @State.dayRecord s a1 a2 := rfl
@[simp] theorem State.decidePost_reach (s : State) (n : Nat) (a1) : @State.decidePost (s.reach n) a1 = @State.decidePost s a1 := rfl
@[simp] theorem State.decideRoute_reach (s : State) (n : Nat) (a1) (a2) (a3) (a4) : @State.decideRoute (s.reach n) a1 a2 a3 a4 = @State.decideRoute s a1 a2 a3 a4 := rfl
@[simp] theorem State.delayList_reach (s : State) (n : Nat) (a1) : @State.delayList (s.reach n) a1 = @State.delayList s a1 := rfl
@[simp] theorem State.departs_reach (s : State) (n : Nat) (a1) (a2) : @State.departs (s.reach n) a1 a2 = @State.departs s a1 a2 := rfl
@[simp] theorem State.detects_reach (s : State) (n : Nat) : @State.detects (s.reach n) = @State.detects s := rfl
@[simp] theorem State.devHold_reach (s : State) (n : Nat) : @State.devHold (s.reach n) = @State.devHold s := rfl
@[simp] theorem State.dgLimit_reach (s : State) (n : Nat) (a1) : @State.dgLimit (s.reach n) a1 = @State.dgLimit s a1 := rfl
@[simp] theorem State.direct_reach (s : State) (n : Nat) (a1) (a2) : @State.direct (s.reach n) a1 a2 = @State.direct s a1 a2 := rfl
@[simp] theorem State.discWin_reach (s : State) (n : Nat) : @State.discWin (s.reach n) = @State.discWin s := rfl
@[simp] theorem State.dpReadable_reach (s : State) (n : Nat) (a1) (a2) (a3) (a4) : @State.dpReadable (s.reach n) a1 a2 a3 a4 = @State.dpReadable s a1 a2 a3 a4 := rfl
@[simp] theorem State.dpTarget_reach (s : State) (n : Nat) (a1) (a2) (a3) (a4) : @State.dpTarget (s.reach n) a1 a2 a3 a4 = @State.dpTarget s a1 a2 a3 a4 := rfl
@[simp] theorem State.drainFits_reach (s : State) (n : Nat) (a1) : @State.drainFits (s.reach n) a1 = @State.drainFits s a1 := rfl
@[simp] theorem State.drainedIsl_reach (s : State) (n : Nat) (a1) : @State.drainedIsl (s.reach n) a1 = @State.drainedIsl s a1 := rfl
@[simp] theorem State.dramByte_reach (s : State) (n : Nat) (a1) : @State.dramByte (s.reach n) a1 = @State.dramByte s a1 := rfl
@[simp] theorem State.dramRead_reach (s : State) (n : Nat) (a1) (a2) : @State.dramRead (s.reach n) a1 a2 = @State.dramRead s a1 a2 := rfl
@[simp] theorem State.drawn_reach (s : State) (n : Nat) (a1) : @State.drawn (s.reach n) a1 = @State.drawn s a1 := rfl
@[simp] theorem State.dueBoundary_reach (s : State) (n : Nat) : @State.dueBoundary (s.reach n) = @State.dueBoundary s := rfl
@[simp] theorem State.dutyBudget_reach (s : State) (n : Nat) (a1) : @State.dutyBudget (s.reach n) a1 = @State.dutyBudget s a1 := rfl
@[simp] theorem State.dutyOver_reach (s : State) (n : Nat) (a1) (a2) (a3) : @State.dutyOver (s.reach n) a1 a2 a3 = @State.dutyOver s a1 a2 a3 := rfl
@[simp] theorem State.dwellOver_reach (s : State) (n : Nat) (a1) (a2) (a3) : @State.dwellOver (s.reach n) a1 a2 a3 = @State.dwellOver s a1 a2 a3 := rfl
@[simp] theorem State.dwellUs_reach (s : State) (n : Nat) (a1) (a2) (a3) : @State.dwellUs (s.reach n) a1 a2 a3 = @State.dwellUs s a1 a2 a3 := rfl
@[simp] theorem State.dwellWin_reach (s : State) (n : Nat) (a1) : @State.dwellWin (s.reach n) a1 = @State.dwellWin s a1 := rfl
@[simp] theorem State.eligible_reach (s : State) (n : Nat) (a1) (a2) : @State.eligible (s.reach n) a1 a2 = @State.eligible s a1 a2 := rfl
@[simp] theorem State.emittedList_reach (s : State) (n : Nat) (a1) : @State.emittedList (s.reach n) a1 = @State.emittedList s a1 := rfl
@[simp] theorem State.entryDay_reach (s : State) (n : Nat) (a1) : @State.entryDay (s.reach n) a1 = @State.entryDay s a1 := rfl
@[simp] theorem State.epCfg_reach (s : State) (n : Nat) (a1) : @State.epCfg (s.reach n) a1 = @State.epCfg s a1 := rfl
@[simp] theorem State.epIdx_reach (s : State) (n : Nat) (a1) : @State.epIdx (s.reach n) a1 = @State.epIdx s a1 := rfl
@[simp] theorem State.epRec_reach (s : State) (n : Nat) (a1) : @State.epRec (s.reach n) a1 = @State.epRec s a1 := rfl
@[simp] theorem State.epScope_reach (s : State) (n : Nat) (a1) (a2) : @State.epScope (s.reach n) a1 a2 = @State.epScope s a1 a2 := rfl
@[simp] theorem State.erased_reach (s : State) (n : Nat) (a1) : @State.erased (s.reach n) a1 = @State.erased s a1 := rfl
@[simp] theorem State.estMaxPct_reach (s : State) (n : Nat) : @State.estMaxPct (s.reach n) = @State.estMaxPct s := rfl
@[simp] theorem State.estimates_reach (s : State) (n : Nat) (a1) (a2) (a3) (a4) : @State.estimates (s.reach n) a1 a2 a3 a4 = @State.estimates s a1 a2 a3 a4 := rfl
@[simp] theorem State.everLocked_reach (s : State) (n : Nat) : @State.everLocked (s.reach n) = @State.everLocked s := rfl
@[simp] theorem State.extCfg_reach (s : State) (n : Nat) (a1) : @State.extCfg (s.reach n) a1 = @State.extCfg s a1 := rfl
@[simp] theorem State.extTask_reach (s : State) (n : Nat) (a1) : @State.extTask (s.reach n) a1 = @State.extTask s a1 := rfl
@[simp] theorem State.fastSeconds_reach (s : State) (n : Nat) (a1) (a2) : @State.fastSeconds (s.reach n) a1 a2 = @State.fastSeconds s a1 a2 := rfl
@[simp] theorem State.faultN_reach (s : State) (n : Nat) : @State.faultN (s.reach n) = @State.faultN s := rfl
@[simp] theorem State.fieldBase_reach (s : State) (n : Nat) : @State.fieldBase (s.reach n) = @State.fieldBase s := rfl
@[simp] theorem State.forwards_reach (s : State) (n : Nat) (a1) (a2) (a3) : @State.forwards (s.reach n) a1 a2 a3 = @State.forwards s a1 a2 a3 := rfl
@[simp] theorem State.fpIn_reach (s : State) (n : Nat) (a1) : @State.fpIn (s.reach n) a1 = @State.fpIn s a1 := rfl
@[simp] theorem State.fpOut_reach (s : State) (n : Nat) (a1) : @State.fpOut (s.reach n) a1 = @State.fpOut s a1 := rfl
@[simp] theorem State.free_reach (s : State) (n : Nat) : @State.free (s.reach n) = @State.free s := rfl
@[simp] theorem State.freeF_reach (s : State) (n : Nat) : @State.freeF (s.reach n) = @State.freeF s := rfl
@[simp] theorem State.freeSession_reach (s : State) (n : Nat) (a1) : @State.freeSession (s.reach n) a1 = @State.freeSession s a1 := rfl
@[simp] theorem State.freeSlot_reach (s : State) (n : Nat) : @State.freeSlot (s.reach n) = @State.freeSlot s := rfl
@[simp] theorem State.fullest_reach (s : State) (n : Nat) : @State.fullest (s.reach n) = @State.fullest s := rfl
@[simp] theorem State.futTol_reach (s : State) (n : Nat) : @State.futTol (s.reach n) = @State.futTol s := rfl
@[simp] theorem State.fwBusy_reach (s : State) (n : Nat) (a1) : @State.fwBusy (s.reach n) a1 = @State.fwBusy s a1 := rfl
@[simp] theorem State.gapWait_reach (s : State) (n : Nat) : @State.gapWait (s.reach n) = @State.gapWait s := rfl
@[simp] theorem State.gateable_reach (s : State) (n : Nat) (a1) : @State.gateable (s.reach n) a1 = @State.gateable s a1 := rfl
@[simp] theorem State.gcReserve_reach (s : State) (n : Nat) : @State.gcReserve (s.reach n) = @State.gcReserve s := rfl
@[simp] theorem State.groupPorts_reach (s : State) (n : Nat) (a1) : @State.groupPorts (s.reach n) a1 = @State.groupPorts s a1 := rfl
@[simp] theorem State.handed_reach (s : State) (n : Nat) (a1) (a2) : @State.handed (s.reach n) a1 a2 = @State.handed s a1 a2 := rfl
@[simp] theorem State.hasSram_reach (s : State) (n : Nat) (a1) : @State.hasSram (s.reach n) a1 = @State.hasSram s a1 := rfl
@[simp] theorem State.headroom_reach (s : State) (n : Nat) (a1) (a2) : @State.headroom (s.reach n) a1 a2 = @State.headroom s a1 a2 := rfl
@[simp] theorem State.heldOr_reach (s : State) (n : Nat) (a1) (a2) (a3) : @State.heldOr (s.reach n) a1 a2 a3 = @State.heldOr s a1 a2 a3 := rfl
@[simp] theorem State.holds_reach (s : State) (n : Nat) (a1) : @State.holds (s.reach n) a1 = @State.holds s a1 := rfl
@[simp] theorem State.holdsFor_reach (s : State) (n : Nat) (a1) (a2) : @State.holdsFor (s.reach n) a1 a2 = @State.holdsFor s a1 a2 := rfl
@[simp] theorem State.holidays_reach (s : State) (n : Nat) : @State.holidays (s.reach n) = @State.holidays s := rfl
@[simp] theorem State.hopChan_reach (s : State) (n : Nat) (a1) (a2) : @State.hopChan (s.reach n) a1 a2 = @State.hopChan s a1 a2 := rfl
@[simp] theorem State.hopInfo_reach (s : State) (n : Nat) (a1) : @State.hopInfo (s.reach n) a1 = @State.hopInfo s a1 := rfl
@[simp] theorem State.hopPen_reach (s : State) (n : Nat) : @State.hopPen (s.reach n) = @State.hopPen s := rfl
@[simp] theorem State.hopSlot_reach (s : State) (n : Nat) (a1) (a2) : @State.hopSlot (s.reach n) a1 a2 = @State.hopSlot s a1 a2 := rfl
@[simp] theorem State.hopSlotNs_reach (s : State) (n : Nat) (a1) : @State.hopSlotNs (s.reach n) a1 = @State.hopSlotNs s a1 := rfl
@[simp] theorem State.hopping_reach (s : State) (n : Nat) (a1) : @State.hopping (s.reach n) a1 = @State.hopping s a1 := rfl
@[simp] theorem State.hostPort_reach (s : State) (n : Nat) (a1) : @State.hostPort (s.reach n) a1 = @State.hostPort s a1 := rfl
@[simp] theorem State.hostPortOn_reach (s : State) (n : Nat) (a1) : @State.hostPortOn (s.reach n) a1 = @State.hostPortOn s a1 := rfl
@[simp] theorem State.hostPortWord_reach (s : State) (n : Nat) (a1) : @State.hostPortWord (s.reach n) a1 = @State.hostPortWord s a1 := rfl
@[simp] theorem State.hostQueue_reach (s : State) (n : Nat) (a1) : @State.hostQueue (s.reach n) a1 = @State.hostQueue s a1 := rfl
@[simp] theorem State.hostReadOf_reach (s : State) (n : Nat) (a1) (a2) (a3) (a4) : @State.hostReadOf (s.reach n) a1 a2 a3 a4 = @State.hostReadOf s a1 a2 a3 a4 := rfl
@[simp] theorem State.hsRole_reach (s : State) (n : Nat) (a1) (a2) : @State.hsRole (s.reach n) a1 a2 = @State.hsRole s a1 a2 := rfl
@[simp] theorem State.hstPart_reach (s : State) (n : Nat) (a1) : @State.hstPart (s.reach n) a1 = @State.hstPart s a1 := rfl
@[simp] theorem State.hyst_reach (s : State) (n : Nat) : @State.hyst (s.reach n) = @State.hyst s := rfl
@[simp] theorem State.idsKey_reach (s : State) (n : Nat) : @State.idsKey (s.reach n) = @State.idsKey s := rfl
@[simp] theorem State.imageCheck_reach (s : State) (n : Nat) (a1) (a2) : @State.imageCheck (s.reach n) a1 a2 = @State.imageCheck s a1 a2 := rfl
@[simp] theorem State.inEvent_reach (s : State) (n : Nat) (a1) (a2) : @State.inEvent (s.reach n) a1 a2 = @State.inEvent s a1 a2 := rfl
@[simp] theorem State.inFlush_reach (s : State) (n : Nat) : @State.inFlush (s.reach n) = @State.inFlush s := rfl
@[simp] theorem State.inOutage_reach (s : State) (n : Nat) (a1) (a2) : @State.inOutage (s.reach n) a1 a2 = @State.inOutage s a1 a2 := rfl
@[simp] theorem State.inPhase_reach (s : State) (n : Nat) (a1) : @State.inPhase (s.reach n) a1 = @State.inPhase s a1 := rfl
@[simp] theorem State.inReset_reach (s : State) (n : Nat) : @State.inReset (s.reach n) = @State.inReset s := rfl
@[simp] theorem State.inRounds_reach (s : State) (n : Nat) : @State.inRounds (s.reach n) = @State.inRounds s := rfl
@[simp] theorem State.inUse_reach (s : State) (n : Nat) : @State.inUse (s.reach n) = @State.inUse s := rfl
@[simp] theorem State.indexInstant_reach (s : State) (n : Nat) (a1) (a2) : @State.indexInstant (s.reach n) a1 a2 = @State.indexInstant s a1 a2 := rfl
@[simp] theorem State.initXfers_reach (s : State) (n : Nat) (a1) (a2) : @State.initXfers (s.reach n) a1 a2 = @State.initXfers s a1 a2 := rfl
@[simp] theorem State.ircFlag_reach (s : State) (n : Nat) : @State.ircFlag (s.reach n) = @State.ircFlag s := rfl
@[simp] theorem State.isBoundary_reach (s : State) (n : Nat) (a1) : @State.isBoundary (s.reach n) a1 = @State.isBoundary s a1 := rfl
@[simp] theorem State.isPlc_reach (s : State) (n : Nat) (a1) : @State.isPlc (s.reach n) a1 = @State.isPlc s a1 := rfl
@[simp] theorem State.isRadio_reach (s : State) (n : Nat) (a1) : @State.isRadio (s.reach n) a1 = @State.isRadio s a1 := rfl
@[simp] theorem State.isVictim_reach (s : State) (n : Nat) (a1) : @State.isVictim (s.reach n) a1 = @State.isVictim s a1 := rfl
@[simp] theorem State.isl_reach (s : State) (n : Nat) (a1) : @State.isl (s.reach n) a1 = @State.isl s a1 := rfl
@[simp] theorem State.islDown_reach (s : State) (n : Nat) (a1) : @State.islDown (s.reach n) a1 = @State.islDown s a1 := rfl
@[simp] theorem State.islEn_reach (s : State) (n : Nat) : @State.islEn (s.reach n) = @State.islEn s := rfl
@[simp] theorem State.islWant_reach (s : State) (n : Nat) : @State.islWant (s.reach n) = @State.islWant s := rfl
@[simp] theorem State.jbufFull_reach (s : State) (n : Nat) : @State.jbufFull (s.reach n) = @State.jbufFull s := rfl
@[simp] theorem State.job_reach (s : State) (n : Nat) (a1) : @State.job (s.reach n) a1 = @State.job s a1 := rfl
@[simp] theorem State.journals_reach (s : State) (n : Nat) : @State.journals (s.reach n) = @State.journals s := rfl
@[simp] theorem State.jrec_reach (s : State) (n : Nat) (a1) (a2) : @State.jrec (s.reach n) a1 a2 = @State.jrec s a1 a2 := rfl
@[simp] theorem State.keyBusy_reach (s : State) (n : Nat) (a1) : @State.keyBusy (s.reach n) a1 = @State.keyBusy s a1 := rfl
@[simp] theorem State.keyGood_reach (s : State) (n : Nat) (a1) : @State.keyGood (s.reach n) a1 = @State.keyGood s a1 := rfl
@[simp] theorem State.keyIs_reach (s : State) (n : Nat) (a1) (a2) (a3) : @State.keyIs (s.reach n) a1 a2 a3 = @State.keyIs s a1 a2 a3 := rfl
@[simp] theorem State.keyOf_reach (s : State) (n : Nat) (a1) : @State.keyOf (s.reach n) a1 = @State.keyOf s a1 := rfl
@[simp] theorem State.kindOf_reach (s : State) (n : Nat) (a1) : @State.kindOf (s.reach n) a1 = @State.kindOf s a1 := rfl
@[simp] theorem State.kinds_reach (s : State) (n : Nat) (a1) (a2) : @State.kinds (s.reach n) a1 a2 = @State.kinds s a1 a2 := rfl
@[simp] theorem State.lagLimit_reach (s : State) (n : Nat) (a1) (a2) : @State.lagLimit (s.reach n) a1 a2 = @State.lagLimit s a1 a2 := rfl
@[simp] theorem State.laneLock_reach (s : State) (n : Nat) (a1) : @State.laneLock (s.reach n) a1 = @State.laneLock s a1 := rfl
@[simp] theorem State.laneUp_reach (s : State) (n : Nat) : @State.laneUp (s.reach n) = @State.laneUp s := rfl
@[simp] theorem State.lanesOn_reach (s : State) (n : Nat) : @State.lanesOn (s.reach n) = @State.lanesOn s := rfl
@[simp] theorem State.lanesUsable_reach (s : State) (n : Nat) : @State.lanesUsable (s.reach n) = @State.lanesUsable s := rfl
@[simp] theorem State.lch_reach (s : State) (n : Nat) (a1) : @State.lch (s.reach n) a1 = @State.lch s a1 := rfl
@[simp] theorem State.leavesOf_reach (s : State) (n : Nat) (a1) : @State.leavesOf (s.reach n) a1 = @State.leavesOf s a1 := rfl
@[simp] theorem State.legalDay_reach (s : State) (n : Nat) (a1) (a2) : @State.legalDay (s.reach n) a1 a2 = @State.legalDay s a1 a2 := rfl
@[simp] theorem State.legalDays_reach (s : State) (n : Nat) : @State.legalDays (s.reach n) = @State.legalDays s := rfl
@[simp] theorem State.legalDigest_reach (s : State) (n : Nat) : @State.legalDigest (s.reach n) = @State.legalDigest s := rfl
@[simp] theorem State.legalNs_reach (s : State) (n : Nat) : @State.legalNs (s.reach n) = @State.legalNs s := rfl
@[simp] theorem State.legalPad_reach (s : State) (n : Nat) (a1) : @State.legalPad (s.reach n) a1 = @State.legalPad s a1 := rfl
@[simp] theorem State.legalReserve_reach (s : State) (n : Nat) : @State.legalReserve (s.reach n) = @State.legalReserve s := rfl
@[simp] theorem State.legalSlice_reach (s : State) (n : Nat) (a1) : @State.legalSlice (s.reach n) a1 = @State.legalSlice s a1 := rfl
@[simp] theorem State.legalWin_reach (s : State) (n : Nat) : @State.legalWin (s.reach n) = @State.legalWin s := rfl
@[simp] theorem State.life_reach (s : State) (n : Nat) : @State.life (s.reach n) = @State.life s := rfl
@[simp] theorem State.listen_reach (s : State) (n : Nat) (a1) : @State.listen (s.reach n) a1 = @State.listen s a1 := rfl
@[simp] theorem State.listenBusy_reach (s : State) (n : Nat) (a1) (a2) (a3) : @State.listenBusy (s.reach n) a1 a2 a3 = @State.listenBusy s a1 a2 a3 := rfl
@[simp] theorem State.liveUnit_reach (s : State) (n : Nat) (a1) : @State.liveUnit (s.reach n) a1 = @State.liveUnit s a1 := rfl
@[simp] theorem State.lockLim_reach (s : State) (n : Nat) (a1) : @State.lockLim (s.reach n) a1 = @State.lockLim s a1 := rfl
@[simp] theorem State.logSync_reach (s : State) (n : Nat) (a1) : @State.logSync (s.reach n) a1 = @State.logSync s a1 := rfl
@[simp] theorem State.mapAtStart_reach (s : State) (n : Nat) (a1) (a2) : @State.mapAtStart (s.reach n) a1 a2 = @State.mapAtStart s a1 a2 := rfl
@[simp] theorem State.mask_reach (s : State) (n : Nat) (a1) : @State.mask (s.reach n) a1 = @State.mask s a1 := rfl
@[simp] theorem State.mayClaim_reach (s : State) (n : Nat) : @State.mayClaim (s.reach n) = @State.mayClaim s := rfl
@[simp] theorem State.mayRead_reach (s : State) (n : Nat) (a1) (a2) (a3) : @State.mayRead (s.reach n) a1 a2 a3 = @State.mayRead s a1 a2 a3 := rfl
@[simp] theorem State.mayWrite_reach (s : State) (n : Nat) (a1) (a2) (a3) : @State.mayWrite (s.reach n) a1 a2 a3 = @State.mayWrite s a1 a2 a3 := rfl
@[simp] theorem State.mcTarget_reach (s : State) (n : Nat) (a1) : @State.mcTarget (s.reach n) a1 = @State.mcTarget s a1 := rfl
@[simp] theorem State.mesh_reach (s : State) (n : Nat) (a1) : @State.mesh (s.reach n) a1 = @State.mesh s a1 := rfl
@[simp] theorem State.meterTai_reach (s : State) (n : Nat) (a1) (a2) (a3) : @State.meterTai (s.reach n) a1 a2 a3 = @State.meterTai s a1 a2 a3 := rfl
@[simp] theorem State.minuteEnd_reach (s : State) (n : Nat) (a1) : @State.minuteEnd (s.reach n) a1 = @State.minuteEnd s a1 := rfl
@[simp] theorem State.mirrors_reach (s : State) (n : Nat) : @State.mirrors (s.reach n) = @State.mirrors s := rfl
@[simp] theorem State.modulus_reach (s : State) (n : Nat) (a1) : @State.modulus (s.reach n) a1 = @State.modulus s a1 := rfl
@[simp] theorem State.moved_reach (s : State) (n : Nat) (a1) (a2) : @State.moved (s.reach n) a1 a2 = @State.moved s a1 a2 := rfl
@[simp] theorem State.msgContract_reach (s : State) (n : Nat) (a1) : @State.msgContract (s.reach n) a1 = @State.msgContract s a1 := rfl
@[simp] theorem State.nActive_reach (s : State) (n : Nat) (a1) : @State.nActive (s.reach n) a1 = @State.nActive s a1 := rfl
@[simp] theorem State.nandCfg_reach (s : State) (n : Nat) : @State.nandCfg (s.reach n) = @State.nandCfg s := rfl
@[simp] theorem State.nandList_reach (s : State) (n : Nat) : @State.nandList (s.reach n) = @State.nandList s := rfl
@[simp] theorem State.nandOn_reach (s : State) (n : Nat) (a1) : @State.nandOn (s.reach n) a1 = @State.nandOn s a1 := rfl
@[simp] theorem State.needsAck_reach (s : State) (n : Nat) : @State.needsAck (s.reach n) = @State.needsAck s := rfl
@[simp] theorem State.nextCapture_reach (s : State) (n : Nat) (a1) : @State.nextCapture (s.reach n) a1 = @State.nextCapture s a1 := rfl
@[simp] theorem State.node_reach (s : State) (n : Nat) (a1) : @State.node (s.reach n) a1 = @State.node s a1 := rfl
@[simp] theorem State.nodeScope_reach (s : State) (n : Nat) (a1) (a2) : @State.nodeScope (s.reach n) a1 a2 = @State.nodeScope s a1 a2 := rfl
@[simp] theorem State.objArg_reach (s : State) (n : Nat) (a1) (a2) (a3) : @State.objArg (s.reach n) a1 a2 a3 = @State.objArg s a1 a2 a3 := rfl
@[simp] theorem State.octets_reach (s : State) (n : Nat) (a1) (a2) : @State.octets (s.reach n) a1 a2 = @State.octets s a1 a2 := rfl
@[simp] theorem State.offer_reach (s : State) (n : Nat) (a1) (a2) : @State.offer (s.reach n) a1 a2 = @State.offer s a1 a2 := rfl
@[simp] theorem State.onProbe_reach (s : State) (n : Nat) (a1) : @State.onProbe (s.reach n) a1 = @State.onProbe s a1 := rfl
@[simp] theorem State.openCount_reach (s : State) (n : Nat) (a1) : @State.openCount (s.reach n) a1 = @State.openCount s a1 := rfl
@[simp] theorem State.openNeed_reach (s : State) (n : Nat) (a1) : @State.openNeed (s.reach n) a1 = @State.openNeed s a1 := rfl
@[simp] theorem State.openReady_reach (s : State) (n : Nat) (a1) : @State.openReady (s.reach n) a1 = @State.openReady s a1 := rfl
@[simp] theorem State.openReqs_reach (s : State) (n : Nat) : @State.openReqs (s.reach n) = @State.openReqs s := rfl
@[simp] theorem State.outCfg_reach (s : State) (n : Nat) (a1) : @State.outCfg (s.reach n) a1 = @State.outCfg s a1 := rfl
@[simp] theorem State.outLevel_reach (s : State) (n : Nat) (a1) : @State.outLevel (s.reach n) a1 = @State.outLevel s a1 := rfl
@[simp] theorem State.outSt_reach (s : State) (n : Nat) (a1) : @State.outSt (s.reach n) a1 = @State.outSt s a1 := rfl
@[simp] theorem State.outWants_reach (s : State) (n : Nat) (a1) (a2) : @State.outWants (s.reach n) a1 a2 = @State.outWants s a1 a2 := rfl
@[simp] theorem State.outstanding_reach (s : State) (n : Nat) : @State.outstanding (s.reach n) = @State.outstanding s := rfl
@[simp] theorem State.owed_reach (s : State) (n : Nat) (a1) : @State.owed (s.reach n) a1 = @State.owed s a1 := rfl
@[simp] theorem State.ownHeld_reach (s : State) (n : Nat) : @State.ownHeld (s.reach n) = @State.ownHeld s := rfl
@[simp] theorem State.ownPart_reach (s : State) (n : Nat) (a1) : @State.ownPart (s.reach n) a1 = @State.ownPart s a1 := rfl
@[simp] theorem State.ownPost_reach (s : State) (n : Nat) (a1) : @State.ownPost (s.reach n) a1 = @State.ownPost s a1 := rfl
@[simp] theorem State.ownReg_reach (s : State) (n : Nat) (a1) (a2) : @State.ownReg (s.reach n) a1 a2 = @State.ownReg s a1 a2 := rfl
@[simp] theorem State.pagesFree_reach (s : State) (n : Nat) (a1) (a2) : @State.pagesFree (s.reach n) a1 a2 = @State.pagesFree s a1 a2 := rfl
@[simp] theorem State.pairCheck_reach (s : State) (n : Nat) : @State.pairCheck (s.reach n) = @State.pairCheck s := rfl
@[simp] theorem State.pairFrame_reach (s : State) (n : Nat) (a1) (a2) : @State.pairFrame (s.reach n) a1 a2 = @State.pairFrame s a1 a2 := rfl
@[simp] theorem State.pairKeyed_reach (s : State) (n : Nat) : @State.pairKeyed (s.reach n) = @State.pairKeyed s := rfl
@[simp] theorem State.pairLane_reach (s : State) (n : Nat) : @State.pairLane (s.reach n) = @State.pairLane s := rfl
@[simp] theorem State.pairLive_reach (s : State) (n : Nat) : @State.pairLive (s.reach n) = @State.pairLive s := rfl
@[simp] theorem State.pairUp_reach (s : State) (n : Nat) : @State.pairUp (s.reach n) = @State.pairUp s := rfl
@[simp] theorem State.part_reach (s : State) (n : Nat) (a1) : @State.part (s.reach n) a1 = @State.part s a1 := rfl
@[simp] theorem State.partAddr_reach (s : State) (n : Nat) : @State.partAddr (s.reach n) = @State.partAddr s := rfl
@[simp] theorem State.partTakes_reach (s : State) (n : Nat) (a1) (a2) : @State.partTakes (s.reach n) a1 a2 = @State.partTakes s a1 a2 := rfl
@[simp] theorem State.pastMax_reach (s : State) (n : Nat) : @State.pastMax (s.reach n) = @State.pastMax s := rfl
@[simp] theorem State.peerThere_reach (s : State) (n : Nat) : @State.peerThere (s.reach n) = @State.peerThere s := rfl
@[simp] theorem State.penCtrlWord_reach (s : State) (n : Nat) (a1) (a2) : @State.penCtrlWord (s.reach n) a1 a2 = @State.penCtrlWord s a1 a2 := rfl
@[simp] theorem State.pensUsable_reach (s : State) (n : Nat) : @State.pensUsable (s.reach n) = @State.pensUsable s := rfl
@[simp] theorem State.phaseOf_reach (s : State) (n : Nat) (a1) (a2) (a3) : @State.phaseOf (s.reach n) a1 a2 a3 = @State.phaseOf s a1 a2 a3 := rfl
@[simp] theorem State.pick_reach (s : State) (n : Nat) (a1) : @State.pick (s.reach n) a1 = @State.pick s a1 := rfl
@[simp] theorem State.pipes_reach (s : State) (n : Nat) : @State.pipes (s.reach n) = @State.pipes s := rfl
@[simp] theorem State.placeConn_reach (s : State) (n : Nat) (a1) (a2) (a3) : @State.placeConn (s.reach n) a1 a2 a3 = @State.placeConn s a1 a2 a3 := rfl
@[simp] theorem State.planIsland_reach (s : State) (n : Nat) (a1) (a2) (a3) : @State.planIsland (s.reach n) a1 a2 a3 = @State.planIsland s a1 a2 a3 := rfl
@[simp] theorem State.plcEnd_reach (s : State) (n : Nat) (a1) (a2) (a3) : @State.plcEnd (s.reach n) a1 a2 a3 = @State.plcEnd s a1 a2 a3 := rfl
@[simp] theorem State.pollDelay_reach (s : State) (n : Nat) : @State.pollDelay (s.reach n) = @State.pollDelay s := rfl
@[simp] theorem State.pollOffset_reach (s : State) (n : Nat) (a1) : @State.pollOffset (s.reach n) a1 = @State.pollOffset s a1 := rfl
@[simp] theorem State.poolBlocks_reach (s : State) (n : Nat) (a1) : @State.poolBlocks (s.reach n) a1 = @State.poolBlocks s a1 := rfl
@[simp] theorem State.poolPages_reach (s : State) (n : Nat) : @State.poolPages (s.reach n) = @State.poolPages s := rfl
@[simp] theorem State.poolSize_reach (s : State) (n : Nat) (a1) : @State.poolSize (s.reach n) a1 = @State.poolSize s a1 := rfl
@[simp] theorem State.port_reach (s : State) (n : Nat) (a1) : @State.port (s.reach n) a1 = @State.port s a1 := rfl
@[simp] theorem State.portAddr_reach (s : State) (n : Nat) (a1) : @State.portAddr (s.reach n) a1 = @State.portAddr s a1 := rfl
@[simp] theorem State.portBlocked_reach (s : State) (n : Nat) (a1) : @State.portBlocked (s.reach n) a1 = @State.portBlocked s a1 := rfl
@[simp] theorem State.portHears_reach (s : State) (n : Nat) (a1) : @State.portHears (s.reach n) a1 = @State.portHears s a1 := rfl
@[simp] theorem State.portHeld_reach (s : State) (n : Nat) (a1) : @State.portHeld (s.reach n) a1 = @State.portHeld s a1 := rfl
@[simp] theorem State.portListed_reach (s : State) (n : Nat) (a1) : @State.portListed (s.reach n) a1 = @State.portListed s a1 := rfl
@[simp] theorem State.portMode_reach (s : State) (n : Nat) (a1) : @State.portMode (s.reach n) a1 = @State.portMode s a1 := rfl
@[simp] theorem State.portOn_reach (s : State) (n : Nat) (a1) : @State.portOn (s.reach n) a1 = @State.portOn s a1 := rfl
@[simp] theorem State.portStamp_reach (s : State) (n : Nat) (a1) (a2) : @State.portStamp (s.reach n) a1 a2 = @State.portStamp s a1 a2 := rfl
@[simp] theorem State.portsUsable_reach (s : State) (n : Nat) : @State.portsUsable (s.reach n) = @State.portsUsable s := rfl
@[simp] theorem State.preamble_reach (s : State) (n : Nat) (a1) : @State.preamble (s.reach n) a1 = @State.preamble s a1 := rfl
@[simp] theorem State.pref_reach (s : State) (n : Nat) : @State.pref (s.reach n) = @State.pref s := rfl
@[simp] theorem State.privPart_reach (s : State) (n : Nat) (a1) : @State.privPart (s.reach n) a1 = @State.privPart s a1 := rfl
@[simp] theorem State.probeNext_reach (s : State) (n : Nat) : @State.probeNext (s.reach n) = @State.probeNext s := rfl
@[simp] theorem State.psetOf_reach (s : State) (n : Nat) (a1) : @State.psetOf (s.reach n) a1 = @State.psetOf s a1 := rfl
@[simp] theorem State.ptpRuns_reach (s : State) (n : Nat) : @State.ptpRuns (s.reach n) = @State.ptpRuns s := rfl
@[simp] theorem State.pubDigest_reach (s : State) (n : Nat) (a1) : @State.pubDigest (s.reach n) a1 = @State.pubDigest s a1 := rfl
@[simp] theorem State.queueUsed_reach (s : State) (n : Nat) : @State.queueUsed (s.reach n) = @State.queueUsed s := rfl
@[simp] theorem State.radAckWait_reach (s : State) (n : Nat) (a1) : @State.radAckWait (s.reach n) a1 = @State.radAckWait s a1 := rfl
@[simp] theorem State.radAir_reach (s : State) (n : Nat) (a1) (a2) (a3) : @State.radAir (s.reach n) a1 a2 a3 = @State.radAir s a1 a2 a3 := rfl
@[simp] theorem State.radCfg_reach (s : State) (n : Nat) (a1) : @State.radCfg (s.reach n) a1 = @State.radCfg s a1 := rfl
@[simp] theorem State.radDiv_reach (s : State) (n : Nat) (a1) : @State.radDiv (s.reach n) a1 = @State.radDiv s a1 := rfl
@[simp] theorem State.railNeed_reach (s : State) (n : Nat) (a1) : @State.railNeed (s.reach n) a1 = @State.railNeed s a1 := rfl
@[simp] theorem State.railShare_reach (s : State) (n : Nat) (a1) (a2) : @State.railShare (s.reach n) a1 a2 = @State.railShare s a1 a2 := rfl
@[simp] theorem State.rank_reach (s : State) (n : Nat) : @State.rank (s.reach n) = @State.rank s := rfl
@[simp] theorem State.rated_reach (s : State) (n : Nat) (a1) : @State.rated (s.reach n) a1 = @State.rated s a1 := rfl
@[simp] theorem State.readBal_reach (s : State) (n : Nat) (a1) : @State.readBal (s.reach n) a1 = @State.readBal s a1 := rfl
@[simp] theorem State.readCfg_reach (s : State) (n : Nat) (a1) : @State.readCfg (s.reach n) a1 = @State.readCfg s a1 := rfl
@[simp] theorem State.readCkv_reach (s : State) (n : Nat) (a1) : @State.readCkv (s.reach n) a1 = @State.readCkv s a1 := rfl
@[simp] theorem State.readEvt_reach (s : State) (n : Nat) (a1) : @State.readEvt (s.reach n) a1 = @State.readEvt s a1 := rfl
@[simp] theorem State.readGlb_reach (s : State) (n : Nat) (a1) : @State.readGlb (s.reach n) a1 = @State.readGlb s a1 := rfl
@[simp] theorem State.readHst_reach (s : State) (n : Nat) (a1) (a2) : @State.readHst (s.reach n) a1 a2 = @State.readHst s a1 a2 := rfl
@[simp] theorem State.readJqd_reach (s : State) (n : Nat) (a1) : @State.readJqd (s.reach n) a1 = @State.readJqd s a1 := rfl
@[simp] theorem State.readKey_reach (s : State) (n : Nat) (a1) : @State.readKey (s.reach n) a1 = @State.readKey s a1 := rfl
@[simp] theorem State.readMsn_reach (s : State) (n : Nat) (a1) : @State.readMsn (s.reach n) a1 = @State.readMsn s a1 := rfl
@[simp] theorem State.readNet_reach (s : State) (n : Nat) (a1) : @State.readNet (s.reach n) a1 = @State.readNet s a1 := rfl
@[simp] theorem State.readPar_reach (s : State) (n : Nat) (a1) : @State.readPar (s.reach n) a1 = @State.readPar s a1 := rfl
@[simp] theorem State.readPen_reach (s : State) (n : Nat) (a1) (a2) : @State.readPen (s.reach n) a1 a2 = @State.readPen s a1 a2 := rfl
@[simp] theorem State.readSht_reach (s : State) (n : Nat) (a1) : @State.readSht (s.reach n) a1 = @State.readSht s a1 := rfl
@[simp] theorem State.readSlv_reach (s : State) (n : Nat) (a1) : @State.readSlv (s.reach n) a1 = @State.readSlv s a1 := rfl
@[simp] theorem State.readWrp_reach (s : State) (n : Nat) (a1) : @State.readWrp (s.reach n) a1 = @State.readWrp s a1 := rfl
@[simp] theorem State.readable_reach (s : State) (n : Nat) (a1) : @State.readable (s.reach n) a1 = @State.readable s a1 := rfl
@[simp] theorem State.readingOf_reach (s : State) (n : Nat) (a1) (a2) (a3) (a4) : @State.readingOf (s.reach n) a1 a2 a3 a4 = @State.readingOf s a1 a2 a3 a4 := rfl
@[simp] theorem State.readsAs_reach (s : State) (n : Nat) (a1) : @State.readsAs (s.reach n) a1 = @State.readsAs s a1 := rfl
@[simp] theorem State.readyList_reach (s : State) (n : Nat) (a1) : @State.readyList (s.reach n) a1 = @State.readyList s a1 := rfl
@[simp] theorem State.recheck_reach (s : State) (n : Nat) (a1) : @State.recheck (s.reach n) a1 = @State.recheck s a1 := rfl
@[simp] theorem State.regionAt_reach (s : State) (n : Nat) (a1) : @State.regionAt (s.reach n) a1 = @State.regionAt s a1 := rfl
@[simp] theorem State.regionSize_reach (s : State) (n : Nat) (a1) : @State.regionSize (s.reach n) a1 = @State.regionSize s a1 := rfl
@[simp] theorem State.relax_reach (s : State) (n : Nat) (a1) (a2) (a3) : @State.relax (s.reach n) a1 a2 a3 = @State.relax s a1 a2 a3 := rfl
@[simp] theorem State.repairBlocks_reach (s : State) (n : Nat) (a1) (a2) : @State.repairBlocks (s.reach n) a1 a2 = @State.repairBlocks s a1 a2 := rfl
@[simp] theorem State.reportH_reach (s : State) (n : Nat) : @State.reportH (s.reach n) = @State.reportH s := rfl
@[simp] theorem State.reqBlock_reach (s : State) (n : Nat) (a1) (a2) : @State.reqBlock (s.reach n) a1 a2 = @State.reqBlock s a1 a2 := rfl
@[simp] theorem State.reqTries_reach (s : State) (n : Nat) : @State.reqTries (s.reach n) = @State.reqTries s := rfl
@[simp] theorem State.requester_reach (s : State) (n : Nat) (a1) (a2) : @State.requester (s.reach n) a1 a2 = @State.requester s a1 a2 := rfl
@[simp] theorem State.respWait_reach (s : State) (n : Nat) : @State.respWait (s.reach n) = @State.respWait s := rfl
@[simp] theorem State.resvLimit_reach (s : State) (n : Nat) (a1) : @State.resvLimit (s.reach n) a1 = @State.resvLimit s a1 := rfl
@[simp] theorem State.retDays_reach (s : State) (n : Nat) (a1) : @State.retDays (s.reach n) a1 = @State.retDays s a1 := rfl
@[simp] theorem State.retFast_reach (s : State) (n : Nat) : @State.retFast (s.reach n) = @State.retFast s := rfl
@[simp] theorem State.retryDraw_reach (s : State) (n : Nat) (a1) : @State.retryDraw (s.reach n) a1 = @State.retryDraw s a1 := rfl
@[simp] theorem State.reverifyFail_reach (s : State) (n : Nat) (a1) (a2) : @State.reverifyFail (s.reach n) a1 a2 = @State.reverifyFail s a1 a2 := rfl
@[simp] theorem State.rflags_reach (s : State) (n : Nat) : @State.rflags (s.reach n) = @State.rflags s := rfl
@[simp] theorem State.rg_reach (s : State) (n : Nat) (a1) : @State.rg (s.reach n) a1 = @State.rg s a1 := rfl
@[simp] theorem State.rg64_reach (s : State) (n : Nat) (a1) : @State.rg64 (s.reach n) a1 = @State.rg64 s a1 := rfl
@[simp] theorem State.ridxOf_reach (s : State) (n : Nat) (a1) (a2) : @State.ridxOf (s.reach n) a1 a2 = @State.ridxOf s a1 a2 := rfl
@[simp] theorem State.right_reach (s : State) (n : Nat) (a1) (a2) (a3) : @State.right (s.reach n) a1 a2 a3 = @State.right s a1 a2 a3 := rfl
@[simp] theorem State.ringFloor_reach (s : State) (n : Nat) : @State.ringFloor (s.reach n) = @State.ringFloor s := rfl
@[simp] theorem State.ringSize_reach (s : State) (n : Nat) : @State.ringSize (s.reach n) = @State.ringSize s := rfl
@[simp] theorem State.roleOf_reach (s : State) (n : Nat) (a1) (a2) : @State.roleOf (s.reach n) a1 a2 = @State.roleOf s a1 a2 := rfl
@[simp] theorem State.root_reach (s : State) (n : Nat) : @State.root (s.reach n) = @State.root s := rfl
@[simp] theorem State.routeBroken_reach (s : State) (n : Nat) (a1) : @State.routeBroken (s.reach n) a1 = @State.routeBroken s a1 := rfl
@[simp] theorem State.routeCost_reach (s : State) (n : Nat) (a1) (a2) (a3) : @State.routeCost (s.reach n) a1 a2 a3 = @State.routeCost s a1 a2 a3 := rfl
@[simp] theorem State.rsv_reach (s : State) (n : Nat) (a1) : @State.rsv (s.reach n) a1 = @State.rsv s a1 := rfl
@[simp] theorem State.runArchive_reach (s : State) (n : Nat) (a1) (a2) : @State.runArchive (s.reach n) a1 a2 = @State.runArchive s a1 a2 := rfl
@[simp] theorem State.runHost_reach (s : State) (n : Nat) (a1) (a2) : @State.runHost (s.reach n) a1 a2 = @State.runHost s a1 a2 := rfl
@[simp] theorem State.running_reach (s : State) (n : Nat) : @State.running (s.reach n) = @State.running s := rfl
@[simp] theorem State.runs_reach (s : State) (n : Nat) (a1) (a2) (a3) : @State.runs (s.reach n) a1 a2 a3 = @State.runs s a1 a2 a3 := rfl
@[simp] theorem State.rxLat_reach (s : State) (n : Nat) (a1) : @State.rxLat (s.reach n) a1 = @State.rxLat s a1 := rfl
@[simp] theorem State.rxTime_reach (s : State) (n : Nat) (a1) (a2) (a3) : @State.rxTime (s.reach n) a1 a2 a3 = @State.rxTime s a1 a2 a3 := rfl
@[simp] theorem State.sCache_reach (s : State) (n : Nat) : @State.sCache (s.reach n) = @State.sCache s := rfl
@[simp] theorem State.sMax_reach (s : State) (n : Nat) : @State.sMax (s.reach n) = @State.sMax s := rfl
@[simp] theorem State.sMin_reach (s : State) (n : Nat) : @State.sMin (s.reach n) = @State.sMin s := rfl
@[simp] theorem State.sealOf_reach (s : State) (n : Nat) (a1) : @State.sealOf (s.reach n) a1 = @State.sealOf s a1 := rfl
@[simp] theorem State.seqFloor_reach (s : State) (n : Nat) : @State.seqFloor (s.reach n) = @State.seqFloor s := rfl
@[simp] theorem State.sess_reach (s : State) (n : Nat) (a1) : @State.sess (s.reach n) a1 = @State.sess s a1 := rfl
@[simp] theorem State.sessIdle_reach (s : State) (n : Nat) : @State.sessIdle (s.reach n) = @State.sessIdle s := rfl
@[simp] theorem State.sessLife_reach (s : State) (n : Nat) : @State.sessLife (s.reach n) = @State.sessLife s := rfl
@[simp] theorem State.sessOpen_reach (s : State) (n : Nat) (a1) : @State.sessOpen (s.reach n) a1 = @State.sessOpen s a1 := rfl
@[simp] theorem State.sessState_reach (s : State) (n : Nat) : @State.sessState (s.reach n) = @State.sessState s := rfl
@[simp] theorem State.session_reach (s : State) (n : Nat) (a1) (a2) : @State.session (s.reach n) a1 a2 = @State.session s a1 a2 := rfl
@[simp] theorem State.setChan_reach (s : State) (n : Nat) (a1) (a2) : @State.setChan (s.reach n) a1 a2 = @State.setChan s a1 a2 := rfl
@[simp] theorem State.setPhy_reach (s : State) (n : Nat) (a1) (a2) : @State.setPhy (s.reach n) a1 a2 = @State.setPhy s a1 a2 := rfl
@[simp] theorem State.settleBook_reach (s : State) (n : Nat) (a1) (a2) : @State.settleBook (s.reach n) a1 a2 = @State.settleBook s a1 a2 := rfl
@[simp] theorem State.sleepyAt_reach (s : State) (n : Nat) (a1) (a2) : @State.sleepyAt (s.reach n) a1 a2 = @State.sleepyAt s a1 a2 := rfl
@[simp] theorem State.slotAt_reach (s : State) (n : Nat) (a1) (a2) : @State.slotAt (s.reach n) a1 a2 = @State.slotAt s a1 a2 := rfl
@[simp] theorem State.slotCount_reach (s : State) (n : Nat) : @State.slotCount (s.reach n) = @State.slotCount s := rfl
@[simp] theorem State.slvBooks_reach (s : State) (n : Nat) : @State.slvBooks (s.reach n) = @State.slvBooks s := rfl
@[simp] theorem State.slvUp_reach (s : State) (n : Nat) : @State.slvUp (s.reach n) = @State.slvUp s := rfl
@[simp] theorem State.spillHead_reach (s : State) (n : Nat) : @State.spillHead (s.reach n) = @State.spillHead s := rfl
@[simp] theorem State.spread_reach (s : State) (n : Nat) : @State.spread (s.reach n) = @State.spread s := rfl
@[simp] theorem State.stageCheck_reach (s : State) (n : Nat) (a1) (a2) : @State.stageCheck (s.reach n) a1 a2 = @State.stageCheck s a1 a2 := rfl
@[simp] theorem State.stageCode_reach (s : State) (n : Nat) (a1) : @State.stageCode (s.reach n) a1 = @State.stageCode s a1 := rfl
@[simp] theorem State.stageOwner_reach (s : State) (n : Nat) : @State.stageOwner (s.reach n) = @State.stageOwner s := rfl
@[simp] theorem State.stampBeacon_reach (s : State) (n : Nat) (a1) (a2) (a3) : @State.stampBeacon (s.reach n) a1 a2 a3 = @State.stampBeacon s a1 a2 a3 := rfl
@[simp] theorem State.stampIrc_reach (s : State) (n : Nat) (a1) : @State.stampIrc (s.reach n) a1 = @State.stampIrc s a1 := rfl
@[simp] theorem State.stampNs_reach (s : State) (n : Nat) (a1) : @State.stampNs (s.reach n) a1 = @State.stampNs s a1 := rfl
@[simp] theorem State.stampOf_reach (s : State) (n : Nat) (a1) : @State.stampOf (s.reach n) a1 = @State.stampOf s a1 := rfl
@[simp] theorem State.standbyLive_reach (s : State) (n : Nat) : @State.standbyLive (s.reach n) = @State.standbyLive s := rfl
@[simp] theorem State.stepLim_reach (s : State) (n : Nat) (a1) : @State.stepLim (s.reach n) a1 = @State.stepLim s a1 := rfl
@[simp] theorem State.strays_reach (s : State) (n : Nat) (a1) : @State.strays (s.reach n) a1 = @State.strays s a1 := rfl
@[simp] theorem State.syncShown_reach (s : State) (n : Nat) : @State.syncShown (s.reach n) = @State.syncShown s := rfl
@[simp] theorem State.sysWrites_reach (s : State) (n : Nat) : @State.sysWrites (s.reach n) = @State.sysWrites s := rfl
@[simp] theorem State.theftClear_reach (s : State) (n : Nat) : @State.theftClear (s.reach n) = @State.theftClear s := rfl
@[simp] theorem State.tickOf_reach (s : State) (n : Nat) (a1) : @State.tickOf (s.reach n) a1 = @State.tickOf s a1 := rfl
@[simp] theorem State.timCfg_reach (s : State) (n : Nat) (a1) : @State.timCfg (s.reach n) a1 = @State.timCfg s a1 := rfl
@[simp] theorem State.timEn_reach (s : State) (n : Nat) (a1) : @State.timEn (s.reach n) a1 = @State.timEn s a1 := rfl
@[simp] theorem State.timeWait_reach (s : State) (n : Nat) : @State.timeWait (s.reach n) = @State.timeWait s := rfl
@[simp] theorem State.transferOut_reach (s : State) (n : Nat) (a1) (a2) : @State.transferOut (s.reach n) a1 a2 = @State.transferOut s a1 a2 := rfl
@[simp] theorem State.treadle_reach (s : State) (n : Nat) : @State.treadle (s.reach n) = @State.treadle s := rfl
@[simp] theorem State.txLat_reach (s : State) (n : Nat) (a1) : @State.txLat (s.reach n) a1 = @State.txLat s a1 := rfl
@[simp] theorem State.txNs_reach (s : State) (n : Nat) (a1) : @State.txNs (s.reach n) a1 = @State.txNs s a1 := rfl
@[simp] theorem State.txTime_reach (s : State) (n : Nat) (a1) (a2) (a3) : @State.txTime (s.reach n) a1 a2 a3 = @State.txTime s a1 a2 a3 := rfl
@[simp] theorem State.txenInactive_reach (s : State) (n : Nat) (a1) : @State.txenInactive (s.reach n) a1 = @State.txenInactive s a1 := rfl
@[simp] theorem State.udpPort_reach (s : State) (n : Nat) : @State.udpPort (s.reach n) = @State.udpPort s := rfl
@[simp] theorem State.unmet_reach (s : State) (n : Nat) (a1) : @State.unmet (s.reach n) a1 = @State.unmet s a1 := rfl
@[simp] theorem State.unsealed_reach (s : State) (n : Nat) (a1) : @State.unsealed (s.reach n) a1 = @State.unsealed s a1 := rfl
@[simp] theorem State.uplinkOnly_reach (s : State) (n : Nat) (a1) : @State.uplinkOnly (s.reach n) a1 = @State.uplinkOnly s a1 := rfl
@[simp] theorem State.usable_reach (s : State) (n : Nat) (a1) (a2) : @State.usable (s.reach n) a1 a2 = @State.usable s a1 a2 := rfl
@[simp] theorem State.usedOf_reach (s : State) (n : Nat) (a1) : @State.usedOf (s.reach n) a1 = @State.usedOf s a1 := rfl
@[simp] theorem State.userCap_reach (s : State) (n : Nat) : @State.userCap (s.reach n) = @State.userCap s := rfl
@[simp] theorem State.utcOff_reach (s : State) (n : Nat) : @State.utcOff (s.reach n) = @State.utcOff s := rfl
@[simp] theorem State.victimOf_reach (s : State) (n : Nat) (a1) : @State.victimOf (s.reach n) a1 = @State.victimOf s a1 := rfl
@[simp] theorem State.vplan_reach (s : State) (n : Nat) (a1) (a2) (a3) : @State.vplan (s.reach n) a1 a2 a3 = @State.vplan s a1 a2 a3 := rfl
@[simp] theorem State.vset_reach (s : State) (n : Nat) (a1) (a2) (a3) : @State.vset (s.reach n) a1 a2 a3 = @State.vset s a1 a2 a3 := rfl
@[simp] theorem State.vtrim_reach (s : State) (n : Nat) (a1) (a2) : @State.vtrim (s.reach n) a1 a2 = @State.vtrim s a1 a2 := rfl
@[simp] theorem State.waitOver_reach (s : State) (n : Nat) (a1) (a2) (a3) : @State.waitOver (s.reach n) a1 a2 a3 = @State.waitOver s a1 a2 a3 := rfl
@[simp] theorem State.waitingTask_reach (s : State) (n : Nat) (a1) : @State.waitingTask (s.reach n) a1 = @State.waitingTask s a1 := rfl
@[simp] theorem State.waitsOnRail_reach (s : State) (n : Nat) (a1) (a2) : @State.waitsOnRail (s.reach n) a1 a2 = @State.waitsOnRail s a1 a2 := rfl
@[simp] theorem State.warpSlice_reach (s : State) (n : Nat) (a1) : @State.warpSlice (s.reach n) a1 = @State.warpSlice s a1 := rfl
@[simp] theorem State.wch_reach (s : State) (n : Nat) (a1) : @State.wch (s.reach n) a1 = @State.wch s a1 := rfl
@[simp] theorem State.wchans_reach (s : State) (n : Nat) : @State.wchans (s.reach n) = @State.wchans s := rfl
@[simp] theorem State.wearSpread_reach (s : State) (n : Nat) (a1) : @State.wearSpread (s.reach n) a1 = @State.wearSpread s a1 := rfl
@[simp] theorem State.wholeJournal_reach (s : State) (n : Nat) : @State.wholeJournal (s.reach n) = @State.wholeJournal s := rfl
@[simp] theorem State.withHeader_reach (s : State) (n : Nat) (a1) (a2) : @State.withHeader (s.reach n) a1 a2 = @State.withHeader s a1 a2 := rfl
@[simp] theorem State.zcAt_reach (s : State) (n : Nat) (a1) : @State.zcAt (s.reach n) a1 = @State.zcAt s a1 := rfl
@[simp] theorem State.zcGrid_reach (s : State) (n : Nat) (a1) : @State.zcGrid (s.reach n) a1 = @State.zcGrid s a1 := rfl
@[simp] theorem State.zcGroup_reach (s : State) (n : Nat) (a1) : @State.zcGroup (s.reach n) a1 = @State.zcGroup s a1 := rfl
@[simp] theorem State.zcMode_reach (s : State) (n : Nat) : @State.zcMode (s.reach n) = @State.zcMode s := rfl
@[simp] theorem State.zcOfs_reach (s : State) (n : Nat) (a1) (a2) : @State.zcOfs (s.reach n) a1 a2 = @State.zcOfs s a1 a2 := rfl
@[simp] theorem State.zcPeriod_reach (s : State) (n : Nat) (a1) : @State.zcPeriod (s.reach n) a1 = @State.zcPeriod s a1 := rfl
@[simp] theorem State.zcPort_reach (s : State) (n : Nat) (a1) : @State.zcPort (s.reach n) a1 = @State.zcPort s a1 := rfl
@[simp] theorem State.zcRef_reach (s : State) (n : Nat) (a1) : @State.zcRef (s.reach n) a1 = @State.zcRef s a1 := rfl
@[simp] theorem State.zcRuns_reach (s : State) (n : Nat) : @State.zcRuns (s.reach n) = @State.zcRuns s := rfl
@[simp] theorem State.zcValid_reach (s : State) (n : Nat) (a1) : @State.zcValid (s.reach n) a1 = @State.zcValid s a1 := rfl
@[simp] theorem State.zoneOf_reach (s : State) (n : Nat) (a1) : @State.zoneOf (s.reach n) a1 = @State.zoneOf s a1 := rfl
@[simp] theorem accessCheck_reach (s : State) (n : Nat) (a1) (a2) (a3) (a4) : @accessCheck (s.reach n) a1 a2 a3 a4 = @accessCheck s a1 a2 a3 a4 := rfl
@[simp] theorem portRegOk_reach (s : State) (n : Nat) (a1) : @portRegOk (s.reach n) a1 = @portRegOk s a1 := rfl
@[simp] theorem privileged_reach (s : State) (n : Nat) (a1) : @privileged (s.reach n) a1 = @privileged s a1 := rfl
@[simp] theorem regDefined_reach (s : State) (n : Nat) (a1) : @regDefined (s.reach n) a1 = @regDefined s a1 := rfl
@[simp] theorem regGated_reach (s : State) (n : Nat) (a1) : @regGated (s.reach n) a1 = @regGated s a1 := rfl
@[simp] theorem stateAnswer_reach (s : State) (n : Nat) (a1) (a2) (a3) : @stateAnswer (s.reach n) a1 a2 a3 = @stateAnswer s a1 a2 a3 := rfl

end Sys2Proof.Machine
end

