-- ==== Sys2Proof/Laws/Reg.lean ====
section
/-!
SUPPORT. How far each operation of Machine/Reg.lean can change the state.
-/

namespace Sys2Proof.Machine
open Sys2Proof

theorem State.ownWrite_moves (r : Requester) (f : Part → Part) (s : State) (hf : ∀ p, (f p).evq = p.evq) :
    Moves [.hst] s (State.ownWrite r f s).1 := by
  unfold State.ownWrite
  split
  · exact Moves.refl _ _
  · exact State.setPart_moves _ _ _ (fun h => by rw [hf]; exact h.get _)

theorem State.storeReg_moves (s : State) (a1 a2 a3) : Moves [.regs, .blk 0x00, .blk 0x01, .blk 0x02, .blk 0x03, .blk 0x04, .blk 0x05, .blk 0x06, .blk 0x07, .blk 0x08, .blk 0x09, .blk 0x0A, .blk 0x0B, .blk 0x0C, .blk 0x0D, .blk 0x0E, .blk 0x0F, .blk 0x10, .blk 0x11, .blk 0x12, .blk 0x13] s (@State.storeReg s a1 a2 a3) := by
  unfold State.storeReg State.setReg
  refine Moves.upd_regs rfl (fun b hb => absurd (by clear hb; revert b; decide) hb) (fun h => wf_regPut h _ _) (Moves.refl _ _)

theorem State.hstEff_moves (a0) (a1) (a2) (s : State) (a4) : Moves [.regs, .heldW, .hst, .out, .blk 0x00, .blk 0x01, .blk 0x02, .blk 0x03, .blk 0x04, .blk 0x05, .blk 0x06, .blk 0x07, .blk 0x08, .blk 0x09, .blk 0x0A, .blk 0x0B, .blk 0x0C, .blk 0x0D, .blk 0x0E, .blk 0x0F, .blk 0x10, .blk 0x11, .blk 0x12, .blk 0x13] s (@State.hstEff a0 a1 a2 s a4).1 := by
  unfold State.hstEff
  split
  · refine Moves.step (State.dpAddrEff_moves _ _ _) rfl ?_
    exact Moves.refl _ _
  · refine Moves.step (State.ownWrite_moves _ _ _ (fun _ => rfl)) rfl ?_
    exact Moves.refl _ _
  · refine Moves.step (State.ownWrite_moves _ _ _ (fun _ => rfl)) rfl ?_
    exact Moves.refl _ _
  · refine Moves.step (State.commitEff_moves _ _ _) rfl ?_
    exact Moves.refl _ _
  · refine Moves.step (State.mdioEff_moves _ _) rfl ?_
    exact Moves.refl _ _
  · dsimp only
    refine Moves.step (State.storeReg_moves _ _ _ _) rfl ?_
    exact Moves.refl _ _

theorem State.rptEff_moves (a0) (a1) (a2) (s : State) (a4) : Moves [.regs, .heldW, .ports, .net, .msn, .hst, .evt, .fresh, .out, .blk 0x00, .blk 0x01, .blk 0x02, .blk 0x03, .blk 0x04, .blk 0x05, .blk 0x06, .blk 0x07, .blk 0x08, .blk 0x09, .blk 0x0A, .blk 0x0B, .blk 0x0C, .blk 0x0D, .blk 0x0E, .blk 0x0F, .blk 0x10, .blk 0x11, .blk 0x12, .blk 0x13] s (@State.rptEff a0 a1 a2 s a4).1 := by
  unfold State.rptEff
  dsimp only
  refine Moves.ite_fst (fun _ => ?_) (fun _ => ?_)
  · dsimp only
    refine Moves.step (State.used_moves _) rfl ?_
    refine Moves.step (State.portCtrlEff_moves _ _ _ _ _) rfl ?_
    exact Moves.refl _ _
  · refine Moves.ite_fst (fun _ => ?_) (fun _ => ?_)
    · refine Moves.step (State.chmapEff_moves _ _ _ _ _) rfl ?_
      exact Moves.refl _ _
    · dsimp only
      refine Moves.step (State.storeReg_moves _ _ _ _) rfl ?_
      exact Moves.refl _ _

theorem State.storeWide_moves (s : State) (a1) (a2) (a3) (a4) (a5) : Moves [.regs, .heldW, .blk 0x00, .blk 0x01, .blk 0x02, .blk 0x03, .blk 0x04, .blk 0x05, .blk 0x06, .blk 0x07, .blk 0x08, .blk 0x09, .blk 0x0A, .blk 0x0B, .blk 0x0C, .blk 0x0D, .blk 0x0E, .blk 0x0F, .blk 0x10, .blk 0x11, .blk 0x12, .blk 0x13] s (@State.storeWide s a1 a2 a3 a4 a5) := by
  unfold State.storeWide
  refine Moves.foldl _ _ (fun _ _ => ?_) ?_
  · refine Moves.ite (fun _ => ?_) (fun _ => ?_)
    · exact Moves.refl _ _
    · dsimp only
      refine Moves.step (State.dropHeld_moves _ _ _) rfl ?_
      refine Moves.step (State.storeReg_moves _ _ _ _) rfl ?_
      exact Moves.refl _ _
  · refine Moves.step (State.storeReg_moves _ _ _ _) rfl ?_
    exact Moves.refl _ _

theorem State.writeEff_moves (a0) (a1) (s : State) (a3) : Moves [.regs, .snap, .heldW, .sys, .clk, .tmp, .tim, .ports, .net, .msn, .sht, .wrp, .pen, .slv, .bal, .bem, .key, .hst, .par, .evt, .nor, .nand, .fresh, .out, .blk 0x00, .blk 0x01, .blk 0x02, .blk 0x03, .blk 0x04, .blk 0x05, .blk 0x06, .blk 0x07, .blk 0x08, .blk 0x09, .blk 0x0A, .blk 0x0B, .blk 0x0C, .blk 0x0D, .blk 0x0E, .blk 0x0F, .blk 0x10, .blk 0x11, .blk 0x12, .blk 0x13] s (@State.writeEff a0 a1 s a3).1 := by
  unfold State.writeEff
  dsimp only
  split
  · dsimp only
    exact Moves.refl _ _
  · refine Moves.ite_fst (fun _ => ?_) (fun _ => ?_)
    · refine Moves.ite_fst (fun _ => ?_) (fun _ => ?_)
      · dsimp only
        exact Moves.refl _ _
      · dsimp only
        refine Moves.upd_heldW rfl ?_
        exact Moves.refl _ _
    · split
      · dsimp only
        refine Moves.step (State.used_moves _) rfl ?_
        refine Moves.step (State.islEnEff_moves _ _ _ _) rfl ?_
        exact Moves.refl _ _
      · dsimp only
        refine Moves.ite (fun _ => ?_) (fun _ => ?_)
        · refine Moves.step (State.templeStart_moves _) rfl ?_
          exact Moves.refl _ _
        · exact Moves.refl _ _
      · refine Moves.step (State.cfgCtrlEff_moves _ _) rfl ?_
        exact Moves.refl _ _
      · dsimp only
        refine Moves.step (State.setTimCtrl_moves _ _) rfl ?_
        exact Moves.refl _ _
      · dsimp only
        refine Moves.step (State.setTimCfg_moves _ _ _) rfl ?_
        exact Moves.refl _ _
      · dsimp only
        refine Moves.step (State.setTimCfg_moves _ _ _) rfl ?_
        exact Moves.refl _ _
      · dsimp only
        refine Moves.step (State.coreEnEff_moves _ _) rfl ?_
        exact Moves.refl _ _
      · dsimp only
        refine Moves.step (State.netCtrlEff_moves _ _ _) rfl ?_
        exact Moves.refl _ _
      · dsimp only
        refine Moves.step (State.nbrSnap_moves _ _) rfl ?_
        exact Moves.refl _ _
      · dsimp only
        refine Moves.step (State.msnCtrlEff_moves _ _) rfl ?_
        exact Moves.refl _ _
      · dsimp only
        refine Moves.step (State.wrpCtrlEff_moves _ _) rfl ?_
        exact Moves.refl _ _
      · refine Moves.step (State.wrpCmdEff_moves _ _) rfl ?_
        exact Moves.refl _ _
      · dsimp only
        refine Moves.step (State.recIdxEff_moves _ _) rfl ?_
        exact Moves.refl _ _
      · refine Moves.step (State.penCtrlEff_moves _ _) rfl ?_
        exact Moves.refl _ _
      · dsimp only
        refine Moves.step (State.cardIdxEff_moves _ _) rfl ?_
        exact Moves.refl _ _
      · dsimp only
        refine Moves.step (State.balCtrlEff_moves _ _) rfl ?_
        exact Moves.refl _ _
      · refine Moves.step (State.balCmdEff_moves _ _) rfl ?_
        exact Moves.refl _ _
      · dsimp only
        refine Moves.step (State.nodeIdxEff_moves _ _) rfl ?_
        exact Moves.refl _ _
      · refine Moves.step (State.bemCtrlEff_moves _ _) rfl ?_
        exact Moves.refl _ _
      · refine Moves.step (State.bemCmdEff_moves _ _) rfl ?_
        exact Moves.refl _ _
      · refine Moves.step (State.laneEnEff_moves _ _) rfl ?_
        exact Moves.refl _ _
      · refine Moves.step (State.keyZeroEff_moves _ _) rfl ?_
        exact Moves.refl _ _
      · refine Moves.step (State.parCtrlEff_moves _ _) rfl ?_
        exact Moves.refl _ _
      · dsimp only
        refine Moves.step (State.actIdxEff_moves _ _) rfl ?_
        exact Moves.refl _ _
      · split
        · dsimp only
          refine Moves.step (State.setTgt_moves _ _ _) rfl ?_
          exact Moves.refl _ _
        · refine Moves.step (State.tickEff_moves _ _ _) rfl ?_
          exact Moves.refl _ _
        · refine Moves.step (State.rptEff_moves _ _ _ _ _) rfl ?_
          exact Moves.refl _ _
        · refine Moves.step (State.hstEff_moves _ _ _ _ _) rfl ?_
          exact Moves.refl _ _
        · refine Moves.ite_fst (fun _ => ?_) (fun _ => ?_)
          · dsimp only
            refine Moves.step (State.storeReg_moves _ _ _ _) rfl ?_
            exact Moves.refl _ _
          · dsimp only
            refine Moves.step (State.storeWide_moves _ _ _ _ _ _) rfl ?_
            exact Moves.refl _ _

theorem State.tryRead_moves (s : State) (a1) (a2) (a3) : Moves [.snap, .fresh] s (@State.tryRead s a1 a2 a3).1 := by
  unfold State.tryRead
  split
  · dsimp only
    exact Moves.refl _ _
  · refine Moves.ite_fst (fun _ => ?_) (fun _ => ?_)
    · dsimp only
      exact Moves.refl _ _
    · dsimp only
      refine Moves.step (State.readReg_moves _ _ _) rfl ?_
      exact Moves.refl _ _
  · dsimp only
    exact Moves.refl _ _

theorem State.regOp_moves (s : State) (a1) (a2) : Moves [.regs, .snap, .heldW, .sys, .clk, .tmp, .tim, .ports, .net, .msn, .sht, .wrp, .pen, .slv, .bal, .bem, .key, .hst, .par, .evt, .nor, .nand, .fresh, .out, .blk 0x00, .blk 0x01, .blk 0x02, .blk 0x03, .blk 0x04, .blk 0x05, .blk 0x06, .blk 0x07, .blk 0x08, .blk 0x09, .blk 0x0A, .blk 0x0B, .blk 0x0C, .blk 0x0D, .blk 0x0E, .blk 0x0F, .blk 0x10, .blk 0x11, .blk 0x12, .blk 0x13] s (@State.regOp s a1 a2).1 := by
  unfold State.regOp
  refine Moves.ite_fst (fun _ => ?_) (fun _ => ?_)
  · dsimp only
    refine State.tryWrite_moves _ _ _ _ _ ?_ ?_
    · refine Moves.step (State.writeEff_moves _ _ _ _) rfl ?_
      exact Moves.refl _ _
    · exact Moves.refl _ _
  · dsimp only
    refine Moves.step (State.tryRead_moves _ _ _ _) rfl ?_
    exact Moves.refl _ _

theorem State.regOps_moves (s : State) (a1 a2) : Moves [.regs, .snap, .heldW, .sys, .clk, .tmp, .tim, .ports, .net, .msn, .sht, .wrp, .pen, .slv, .bal, .bem, .key, .hst, .par, .evt, .nor, .nand, .fresh, .out, .blk 0x00, .blk 0x01, .blk 0x02, .blk 0x03, .blk 0x04, .blk 0x05, .blk 0x06, .blk 0x07, .blk 0x08, .blk 0x09, .blk 0x0A, .blk 0x0B, .blk 0x0C, .blk 0x0D, .blk 0x0E, .blk 0x0F, .blk 0x10, .blk 0x11, .blk 0x12, .blk 0x13] s (@State.regOps s a1 a2).1 := by
  induction a2 generalizing s with
  | nil => exact Moves.refl _ _
  | cons o os ih => exact (Moves.mono (State.regOp_moves _ _ _) rfl).trans (ih _)

theorem execRegReq_ends (a0) (a1) (a2) (s : State) : Ends [.regs, .snap, .heldW, .sys, .clk, .tmp, .tim, .ports, .net, .msn, .sht, .wrp, .pen, .slv, .bal, .bem, .key, .hst, .par, .evt, .nor, .nand, .fresh, .out, .blk 0x00, .blk 0x01, .blk 0x02, .blk 0x03, .blk 0x04, .blk 0x05, .blk 0x06, .blk 0x07, .blk 0x08, .blk 0x09, .blk 0x0A, .blk 0x0B, .blk 0x0C, .blk 0x0D, .blk 0x0E, .blk 0x0F, .blk 0x10, .blk 0x11, .blk 0x12, .blk 0x13] s (@execRegReq a0 a1 a2 s) := by
  unfold execRegReq
  dsimp only
  refine Ends.next ?_
  refine Moves.ite (fun _ => ?_) (fun _ => ?_)
  · refine Moves.step (State.takeDgram_moves _ _) rfl ?_
    exact Moves.refl _ _
  · split
    · refine Moves.step (State.takeDgram_moves _ _) rfl ?_
      exact Moves.refl _ _
    · split
      · refine Moves.step (State.send_moves _ _ _ _) rfl ?_
        refine Moves.step (State.takeDgram_moves _ _) rfl ?_
        exact Moves.refl _ _
      · refine Moves.step (State.send_moves _ _ _ _) rfl ?_
        refine Moves.step (State.takeDgram_moves _ _) rfl ?_
        exact Moves.refl _ _
      · refine Moves.ite (fun _ => ?_) (fun _ => ?_)
        · refine Moves.step (State.send_moves _ _ _ _) rfl ?_
          refine Moves.step (State.takeDgram_moves _ _) rfl ?_
          exact Moves.refl _ _
        · split
          · refine Moves.step (State.regOps_moves _ _ _) rfl ?_
            refine Moves.step (State.setSession_moves _ _ _ _) rfl ?_
            refine Moves.step (State.takeDgram_moves _ _) rfl ?_
            exact Moves.refl _ _
          · refine Moves.step (State.send_moves _ _ _ _) rfl ?_
            refine Moves.step (State.setSession_moves _ _ _ _) rfl ?_
            refine Moves.step (State.regOps_moves _ _ _) rfl ?_
            refine Moves.step (State.setSession_moves _ _ _ _) rfl ?_
            refine Moves.step (State.takeDgram_moves _ _) rfl ?_
            exact Moves.refl _ _

theorem execWideValueLowWordRead_ends (a0) (a1) (a2) (s : State) : Ends [.snap, .fresh, .out] s (@execWideValueLowWordRead a0 a1 a2 s) := by
  unfold execWideValueLowWordRead
  dsimp only
  refine Ends.next ?_
  refine Moves.step (State.answered_moves _ _ _ _) rfl ?_
  refine Moves.step (State.tryRead_moves _ _ _ _) rfl ?_
  exact Moves.refl _ _

theorem execRegisterWrite_ends (a0) (a1) (a2) (a3) (s : State) : Ends [.regs, .snap, .heldW, .sys, .clk, .tmp, .tim, .ports, .net, .msn, .sht, .wrp, .pen, .slv, .bal, .bem, .key, .hst, .par, .evt, .nor, .nand, .fresh, .out, .blk 0x00, .blk 0x01, .blk 0x02, .blk 0x03, .blk 0x04, .blk 0x05, .blk 0x06, .blk 0x07, .blk 0x08, .blk 0x09, .blk 0x0A, .blk 0x0B, .blk 0x0C, .blk 0x0D, .blk 0x0E, .blk 0x0F, .blk 0x10, .blk 0x11, .blk 0x12, .blk 0x13] s (@execRegisterWrite a0 a1 a2 a3 s) := by
  unfold execRegisterWrite
  dsimp only
  refine Ends.next ?_
  refine Moves.step (State.answered_moves _ _ _ _) rfl ?_
  refine State.tryWrite_moves _ _ _ _ _ ?_ ?_
  · refine Moves.step (State.writeEff_moves _ _ _ _) rfl ?_
    exact Moves.refl _ _
  · exact Moves.refl _ _

end Sys2Proof.Machine
end

