-- ==== Sys2Proof/Laws/Step.lean ====
section
/-!
SUPPORT. How far each operation of Machine/Step.lean can change the state.
-/

namespace Sys2Proof.Machine
open Sys2Proof

theorem State.withFetchWord_same (s : State) (a1 a2) : State.withFetchWord s a1 a2 = s := rfl

end Sys2Proof.Machine
end

