-- ==== Sys2Proof/Tests/Slice0.lean ====
section
/-!
SUPPORT. Tests: ill-formed commands that the check refuses, values the spec works out itself, and a witness for every clause of a
statement that has hypotheses.
-/

namespace Sys2Proof.Machine
open Sys2Proof

set_option Elab.async false

/-- EUI-64s used by the tests: the unit's field ports stand at multiples of 128. -/
def eu : Nat := 0x0011223344000000
/-- The EUI-64 of endpoint `e`. -/
def eue (e : Nat) : Nat := 0xAABB000000000000 + e

/-- The image of the tests. -/
def im0 : Image :=
  { hdr := { magic := 0x4B594F5244494D47, format := 0x00020000, target := 0x8064, seq := 7, len := 0xB000, sectCount := 9, signer := 0,
             pk := 1, legalDigest := 77, buildTime := 1000 * second,
             table := [⟨1, 0, 0x1000, 4096⟩, ⟨2, 0, 0x2000, 4096⟩, ⟨3, 0, 0x3000, 4096⟩, ⟨4, 0, 0x4000, 4096⟩, ⟨5, 0, 0x5000, 4096⟩,
                       ⟨6, 0, 0x6000, 4096⟩, ⟨7, 0, 0x7000, 4096⟩, ⟨8, 0, 0x8000, 4096⟩, ⟨0xFF, 0, 0x9000, 4096⟩] },
    signerDigest := 1, legalComputed := 77, avsHi := 0, avsLo := 1,
    sigOk := true, restOk := true, regs := [], dramGiB := 32,
    nand := { nCh := 8, chMask := 255, nTgt := 1, nLun := 1, nPlane := 2, page := 16384, ppb := 384, bpp := 256, tMode := 800,
              eTlc := 10000, eSlc := 100000, tProgTlc := 1000000, tProgSlc := 200000 },
    vddio := 255, compat := false, ringEntries := 4096, peerEui := eu + 2 ^ 20, peerDigest := 5, prio := 3,
    ports := [⟨0, false, .release, false, 0, 0⟩, ⟨1, false, .release, false, 0, 0⟩, ⟨8, true, .release, false, 10, 60⟩,
              ⟨9, true, .release, false, 10, 60⟩],
    fieldBase := some eu, relays := [eue 100], meshCells := [0, 8], hostPorts := [(0, ⟨.base1000, none, true, some 1, []⟩), (1, ⟨.base1000, some 5, false, none, []⟩)],
    parts := [⟨0, [⟨11, .operator⟩, ⟨12, .authority⟩], 3, true, .all⟩, ⟨1, [⟨13, .supplier⟩], 1, false, .contracts [5]⟩],
    udpPort := 5000, sessIdleS := 120, domA := ⟨3, 0, 0⟩, domB := ⟨3, 0, 0⟩, timeWaitS := 60, asym := [],
    eps := [⟨0, eue 0, 0, 900, 60, 0, false, [(0, ⟨false, 0, 9, 0, 2, [1, 0, 1, 8, 0, 255]⟩), (1, ⟨true, 0, 9, 0, 2, [1, 0, 2, 8, 0, 255]⟩)]⟩,
            ⟨1, eue 1, 2, 1, 60, 0, true, [(0, ⟨false, 0, 9, 0, 1, [1, 0, 1, 8, 0, 255]⟩)]⟩,
            ⟨2, eue 2, 1, 3600, 60, 1000, false, [(0, ⟨false, 1, 9, 0, 3, [1, 0, 1, 8, 0, 255]⟩)]⟩],
    psets := [(0, ⟨1, 1000, 5, 10, 0, 0, 0, 1000, 1000, 1000, 0, 0, 0⟩)], holidays := [],
    balNodes := [(0, ⟨2, none, 0, 0, 0, 1, 100, 1000, 0, 5000, 10, 3, [⟨false, true, 0⟩, ⟨true, true, 4⟩], []⟩)],
    srcPrio := [], exts := [⟨0, 16, 1, [64], 1000⟩],
    lchans := [⟨0, 9, false, 1, 0, 1000, none⟩, ⟨1, 9, true, 0, 0, 1000, some ⟨1, 0, 0, 0, 100, 0, 0, 0, 0, 0, 0, 100, 0, 0⟩⟩, ⟨4, 9, false, 1, 0, 1000, none⟩, ⟨8, 9, false, 1, 0, 1000, none⟩],
    contracts := [⟨5, 101, 102⟩], bindings := [(0, 5), (1, 5), (2, 0)],
    outputs := [(0, ⟨.pulse 0 false 255 10 100, .driveLow, .driveHigh⟩), (1, ⟨.alarm true none true, .driveLow, .driveHigh⟩)],
    zsets := [], ringOk := true }

/-- A clocked island. -/
def onIsl : Island := { Island.blank with en := true, mv := 800, limit := 12, tgt := 6, cur := 6, goal := 6 }

/-- OTP of the tests. -/
def otp0 : Otp := { Otp.blank with root := 9, rootOk := true, eui := eu, signers := [1], seals := [77] }

/-- The session of slot 0 in partition 0. -/
def ses0 : Session := ⟨.operator, 40, none, [], 0, 0, true, none, [], [], 0⟩
/-- The session of an authority. -/
def sesA : Session := ⟨.authority, 41, some 5, [5], 0, 0, false, some 3, [(2, .regs [(.ok, 9)])], [], 0⟩
/-- The session of a supplier. -/
def sesS : Session := ⟨.supplier, 42, none, [], 0, 0, false, none, [], [], 0⟩
/-- The session of a consumer. -/
def sesC : Session := ⟨.consumer, 43, none, [], 0, 0, false, none, [], [], 0⟩

/-- An ACTIVE unit without a pair: every island clocked, two PLC and two radio ports on, a mounted archive, keys and legal time. -/
def live : State :=
  { State.reset with
    sys := { Sys.reset with
      st := .active, phase := 11, role := 1, image := some im0, cores := 2 ^ 32 - 1, ports := 2 ^ 64 - 1, nands := 255, pens := 15,
      lanes := 65535, dramA := 16, dramB := 16, placed := true, sealClosed := true, heddle := true, rstout := false },
    regs := [(0x050404, 100), (0x050408, 200), (0x060000, 1), (0x060400, 1), (0x062000, 2), (0x062400, 2)],
    clk := { Clk.reset with islands := (upTo 22).map (fun i => (i, onIsl)), irc := false, refOk := true },
    tim := { Tim.reset with
      cnt := 1000000, ircAt := none, domA := { Tim.reset.domA with state := .locked, everLocked := true, offset := 1000000 * second * 2 ^ 16 },
      utcOffs := [(0, 37)] },
    ports := [(0, { Port.blank with en := true }), (1, { Port.blank with en := true }), (8, { Port.blank with en := true }),
              (9, { Port.blank with en := true })],
    net := { Net.reset with nbrs := [(0, { Nbr.blank with eui := eue 0, port := 0 })],
                            nodes := [(eue 0, { NodeRec.blank with st := .joined, hasRoute := true })] },
    sht := { Sht.reset with accepting := true, coreEn := 2 ^ 32 - 1, running := 2 ^ 32 - 1 },
    wrp := { Wrp.reset with eps := im0.freshEps, chans := im0.freshChans },
    pen := { Pen.reset with pipeEn := 15 },
    slv := { Slv.reset with jseq := 100, ltSt := .track, lt := 1000000 * second * 2 ^ 16, ltRun := true, verified := true, handoff := true },
    bal := { Bal.reset with en := true },
    bem := { Bem.reset with mounted := true, chEn := 255 },
    key := { Key.reset with ready := true, tableOk := true, trngOk := true, pkwk := some ⟨3, 1, false⟩, pgenMax := 1, laneEn := 65535,
                            table := [(0, ⟨8, 65536, 0, 1, 1, true, false, true⟩), (1, ⟨9, 65536, 0, 1, 1, true, false, true⟩)] },
    hst := { Hst.reset with sessions := [(0, some ses0), (1, some sesA), (2, some sesC), (4, some sesS)], nextSid := 50, link := [(0, true)] },
    otp := otp0,
    nor := { Nor.blank with slotA := some im0, slotB := some { im0 with hdr := { im0.hdr with seq := 8, magic := 0 } }, copy0 := BootRec.bytes ⟨4, false, false, 0⟩ },
    nand := { Nand.blank with owner := some eu, pkwk := some ⟨3, 1, false⟩, pgenMax := 1, archBlocks := 1000, spareArch := 10, spareArch0 := 10,
                              spareLegal := 10, spareLegal0 := 10 } }

/-- An ACTIVE unit of a pair whose standby is heard. -/
def pairA : State :=
  { live with
    sys := { live.sys with pairEn := true },
    par := { Par.reset with lane0 := true, lane1 := true, heard := true, everHeard := true, peerRole := 2, peerSync := .live, claim := 0x105,
                            wire := 0x105, epoch := 1, won := 2, peerHello := some (eu + 2 ^ 20, 5), helloSent := true } }

/-- A STANDBY unit in step. -/
def pairS : State :=
  { live with
    sys := { live.sys with pairEn := true, st := .standby, role := 2, heddle := false },
    par := { Par.reset with lane0 := true, lane1 := true, heard := true, everHeard := true, peerRole := 1, sync := .live, wire := 0x105, epoch := 1,
                            peerHello := some (eu + 2 ^ 20, 5), helloSent := true, mjseq := 50 } }

/-- A unit in START at phase `n`. -/
def start (n : Nat) : State := { live with sys := { live.sys with st := .start, phase := n, role := 0, heddle := false } }

/-- A unit in a state without a run state's services. -/
def inSt (st : RunSt) : State := { live with sys := { live.sys with st := st, role := 0, heddle := false } }
/-- `s` with parts changed. -/
def sysOf (f : Sys → Sys) (s : State) : State := { s with sys := f s.sys }
/-- `s` with another Treadle state. -/
def clkOf (f : Clk → Clk) (s : State) : State := { s with clk := f s.clk }
/-- `s` with another time unit. -/
def timOf (f : Tim → Tim) (s : State) : State := { s with tim := f s.tim }
/-- `s` with another domain A. -/
def domOf (f : Domain → Domain) (s : State) : State := { s with tim := { s.tim with domA := f s.tim.domA } }
/-- `s` with another field network state. -/
def netOf (f : Net → Net) (s : State) : State := { s with net := f s.net }
/-- `s` with other meter sessions. -/
def msnOf (f : Msn → Msn) (s : State) : State := { s with msn := f s.msn }
/-- `s` with another Shuttle. -/
def shtOf (f : Sht → Sht) (s : State) : State := { s with sht := f s.sht }
/-- `s` with another Warp. -/
def wrpOf (f : Wrp → Wrp) (s : State) : State := { s with wrp := f s.wrp }
/-- `s` with another Property Engine. -/
def penOf (f : Pen → Pen) (s : State) : State := { s with pen := f s.pen }
/-- `s` with another Selvedge. -/
def slvOf (f : Slv → Slv) (s : State) : State := { s with slv := f s.slv }
/-- `s` with another Balance Engine. -/
def balOf (f : Bal → Bal) (s : State) : State := { s with bal := f s.bal }
/-- `s` with another Beam. -/
def bemOf (f : Bem → Bem) (s : State) : State := { s with bem := f s.bem }
/-- `s` with another NAND content. -/
def nandOf (f : Nand → Nand) (s : State) : State := { s with nand := f s.nand }
/-- `s` with another key unit. -/
def keyOf' (f : Key → Key) (s : State) : State := { s with key := f s.key }
/-- `s` with another host unit. -/
def hstOf (f : Hst → Hst) (s : State) : State := { s with hst := f s.hst }
/-- `s` with another Pair Link. -/
def parOf (f : Par → Par) (s : State) : State := { s with par := f s.par }
/-- `s` with another event unit. -/
def evtOf (f : Evt → Evt) (s : State) : State := { s with evt := f s.evt }
/-- `s` with another NOR. -/
def norOf (f : Nor → Nor) (s : State) : State := { s with nor := f s.nor }
/-- `s` with an image changed. -/
def imgOf (f : Image → Image) (s : State) : State := { s with sys := { s.sys with image := s.sys.image.map f } }
/-- `s` with island `i` changed. -/
def islOf (i : Nat) (f : Island → Island) (s : State) : State := s.setIsl i (f (s.isl i))
/-- `s` with register `a` at a value. -/
def regOf (a : Nat) (v : Word) (s : State) : State := s.setReg a v

/-- A unit of a pair in START at phase `n`. -/
def startP (n : Nat) : State := { pairA with sys := { pairA.sys with st := .start, phase := n, role := 0, heddle := false } }

/-- A state with the SEAL input open. -/
def unsealed (s : State) : State := { s with sys := { s.sys with sealClosed := false } }

/-- A unicast frame to endpoint 0. -/
def frame0 : Frame := ⟨.data, true, false, some (eue 0), 1, eu, 40, .empty⟩
/-- An acknowledgement of it for port 0. -/
def ack0 : Frame := ⟨.ack, false, false, some eu, 1, eue 0, 15, .empty⟩
/-- The frame, waiting. -/
def item0 : TxItem := ⟨frame0, .net, none, false, 1, 0, none, 0⟩

/-- Port `p` with crossing edges live, the last at counter value 1,000,000, one every 20 ms. -/
def crossing (p : Nat) (s : State) : State :=
  { s with tim := { s.tim with
      zcPorts := Store.put (fun _ => ZcPort.blank) s.tim.zcPorts p ⟨true, 1000000, 0, 0, [1000000]⟩,
      zcGroups := Store.put (fun _ => ZcGroup.blank) s.tim.zcGroups (p / 8) { ZcGroup.blank with period := 8000000 } } }
/-- Port `p` receives, as far as `r` says. -/
def hearing (p : Nat) (r : Rx) (s : State) : State := s.onPort p (fun x => { x with rx := some r })

/-- A descriptor of a core's task of source class `src`. -/
def desc0 (src : Nat) : PostDesc := ⟨3, 0, false, src, 0, 2 ^ 32 - 1, 64, 0, 0, 0, 0⟩
/-- A task of source class `src`. -/
def task0 (src : Nat) : Task := ⟨desc0 src, 0, 0, 5, false, 0⟩
/-- `live` with core 0 holding `x` since `u`. -/
def holding (x : Task) (u : Nat) : State := shtOf (fun h => { h with held := [(0, some (x, u))], used := [(x.d.src, 1)] }) live
/-- A reading entry of channel `ch`, index `k`. -/
def ent (ch k cap tot : Nat) : Entry := ⟨ch, k, cap, 0, 0, tot, 0, 0, 0, 0, 0, .actual, 0⟩
/-- `live` with channel `ch` of Warp changed. -/
def chOf (ch : Chid) (f : Chan → Chan) (s : State) : State := s.setWch ch (f (s.wch ch))
/-- `live` with legal channel `ch` of Selvedge changed. -/
def lchOf (ch : Chid) (f : LChan → LChan) (s : State) : State := slvOf (fun x => { x with chans := [(ch, f (s.lch ch))] }) s
/-- `live` with item `m` waiting for Warp. -/
def withItem (m : WarpItem) (s : State) : State := msnOf (fun x => { x with toWarp := [m] }) s
/-- `live` with card slot `i` holding `c`. -/
def withCard (i : Nat) (c : CardSlot) (s : State) : State := slvOf (fun x => { x with cards := [(i, c)] }) s
/-- `live` with a card message waiting. -/
def withMsg (m : CardMsg) (s : State) : State := slvOf (fun x => { x with cardIn := [m] }) s
/-- A tariff card of contract `c` that activates at `t`. -/
def card0 (c t : Nat) : CardBody :=
  { CardBody.default with cver := 1, contract := c, cardId := 1, actAt := t, demandMin := 15, nrates := 1 }

/-- A whole year's card of contract 5 with one rate. -/
def card5 (t : Nat) : CardBody :=
  { card0 5 t with nseasons := 1, seasons := [⟨1, 1, [0, 0, 0, 0, 0, 0, 0]⟩], profiles := [[(0, 0)]] }
/-- A request of authority command `cmd` for endpoint `ep`. -/
def auth (cmd ep : Nat) : ObjReq := ⟨⟨0, 1, 0, 41, 6, 100, true⟩, 9, [0x80, 0, 0x90, cmd, 0, 0], ep, false, []⟩
/-- A seal header. -/
def hdr0 : SealHdr := ⟨86400, 5, 1, 0, 77, 0, 0, 0, eu, 0⟩

/-- `live` with room in its archive. -/
def roomy : State := nandOf (fun x => { x with archBlocks := 4000 }) live
/-- An archive record waiting. -/
def arec0 : ArchRec := ⟨.interval, 11, .entry (ent 0 1 5 50), false, false, 0⟩
/-- A checkpoint record of the journal. -/
def jrec (n : Nat) : JRec := ⟨n, 0, 0, false, false, false, .ckpt 0 0, []⟩
/-- A block of the archive holding map unit `u`. -/
def blk (u : Nat) : Block := ⟨.archive, 0, 3, [u], 1, false, false⟩

/-- A request of the operator's session for object `oid`. -/
def req0 (oid : List Nat) (arg : List Nat := []) (target : Nat := 0) : ObjReq := ⟨⟨0, 0, 0, 40, 6, 100, true⟩, 9, (oid ++ [0, 0, 0, 0, 0]).take 6, target, false, arg⟩
/-- A period of time from `a` to `b` ns as an argument. -/
def period (a b : Nat) : List Nat := leBytes 10 (tsPack a) ++ leBytes 10 (tsPack b)
/-- `live` with one archived record. -/
def archived (d : ArchData) (st : Stream) : State := nandOf (fun x => { x with archive := [⟨st, 11, d, false, false, 0⟩] }) live
/-- A day record of endpoint 0. -/
def dayRec0 : DayRec := ⟨0, 86437, 5, 1, false, false, []⟩
/-- `live` with partition 0's region `r` committed with `bs`. -/
def committed (r : Nat) (bs : List Nat) : State :=
  live.setPart 0 { Part.blank with commitLen := bs.length, regions := [(r, ⟨storeBytes [] 0 bs, [(0, bs.length)], [], false, false⟩)] }

/-- The header and section table of the tests' image with CFG_SEQ `q`, as bytes. -/
def hdrBytes (q : Nat) : List Nat :=
  beBytes 8 0x4B594F5244494D47 ++ leBytes 4 0x00020000 ++ leBytes 4 0x8064 ++ leBytes 8 q ++ leBytes 4 0xB000 ++ leBytes 4 9 ++
    List.replicate 16 0 ++ beBytes 64 1 ++ beBytes 32 77 ++ leBytes 10 (tsPack (1000 * second)) ++ List.replicate 102 0 ++
    im0.hdr.table.flatMap (fun e => leBytes 2 e.type ++ leBytes 2 e.inst ++ leBytes 4 e.ofs ++ leBytes 4 e.len ++ [0, 0, 0, 0])

/-- The first number below a bound that passes a test is 0 when 0 passes it. -/
theorem upTo_find_zero (n : Nat) (p : Nat → Bool) (h : p 0 = true) : (upTo (n + 1)).find? p = some 0 := by
  induction n with
  | zero => simp [upTo, h]
  | succ n ih => rw [upTo, List.find?_append, ih]; rfl

/-- A card table without entries has slot 0 free. -/
theorem freeSlot_zero (s : State) (h : s.slv.cards = []) : s.freeSlot = some 0 := by
  unfold State.freeSlot
  rw [h]
  exact upTo_find_zero 4095 _ rfl

/-- A STAGE message of a blank card. -/
def cardBytes : List Nat := [1, 0, 0, 0] ++ leBytes 4 1056 ++ List.replicate 1056 0
/-- `live` with that message committed. -/
def cardUnit : State := committed 5 cardBytes
/-- A range taken in two parts. -/
theorem upTo_map_add (f : Nat → Nat) (m n : Nat) : (upTo (m + n)).map f = (upTo m).map f ++ (upTo n).map (fun i => f (m + i)) := by
  induction n with
  | zero => simp [upTo]
  | succ n ih => rw [← Nat.add_assoc]; simp [upTo, ih]

/-- A range mapped to 0. -/
theorem upTo_map_zero (f : Nat → Nat) (n : Nat) (h : ∀ i, f i = 0) : (upTo n).map f = List.replicate n 0 := by
  induction n with
  | zero => rfl
  | succ n ih => simp [upTo, ih, h, List.replicate_succ']

/-- The bytes of the CARD region of `cardUnit` that are not 0. -/
theorem cardUnit_data : ((cardUnit.part 0).region 5).data = [(0, 1#8), (4, 0x20#8), (5, 4#8)] := by decide +kernel

/-- What the CARD region of `cardUnit` reads. -/
theorem cardUnit_read : ((cardUnit.part 0).region 5).read 0 (cardUnit.part 0).commitLen = cardBytes := by
  have e : (cardUnit.part 0).commitLen = 8 + 1056 := by decide +kernel
  unfold Region.read
  rw [e, cardUnit_data, upTo_map_add, upTo_map_zero _ 1056 (by intro i; rw [Store.get, if_neg (by omega), Store.get, if_neg (by omega), Store.get, if_neg (by omega)]; rfl)]
  rfl

/-- A key batch of one entry. -/
def keyBytes : List Nat :=
  [0x4B, 0x59, 0x4B, 0x49, 0x4D, 0x50, 0x30, 0x31, 0, 0x11, 0x22, 0x33, 0x44, 0, 0, 0, 7, 0, 0, 0, 0, 0, 0, 0, 1, 0, 0, 0] ++
    List.replicate 1652 0
/-- `live` with that batch committed. -/
def keyUnit : State :=
  live.setPart 0 { Part.blank with
    commitLen := 1680
    regions := [(2, ⟨[(0, 0x4B#8), (1, 0x59#8), (2, 0x4B#8), (3, 0x49#8), (4, 0x4D#8), (5, 0x50#8), (6, 0x30#8), (7, 0x31#8),
      (9, 0x11#8), (10, 0x22#8), (11, 0x33#8), (12, 0x44#8), (16, 7#8), (24, 1#8)], [(0, 1680)], [], false, false⟩)] }
/-- The bytes of the KEY_IMPORT region of `keyUnit` that are not 0. -/
theorem keyUnit_data : ((keyUnit.part 0).region 2).data =
    [(0, 0x4B#8), (1, 0x59#8), (2, 0x4B#8), (3, 0x49#8), (4, 0x4D#8), (5, 0x50#8), (6, 0x30#8), (7, 0x31#8), (9, 0x11#8), (10, 0x22#8),
     (11, 0x33#8), (12, 0x44#8), (16, 7#8), (24, 1#8)] := rfl

/-- What the KEY_IMPORT region of `keyUnit` reads. -/
theorem keyUnit_read : ((keyUnit.part 0).region 2).read 0 (keyUnit.part 0).commitLen = keyBytes := by
  have e : (keyUnit.part 0).commitLen = 28 + 1652 := by decide +kernel
  unfold Region.read
  rw [e, keyUnit_data, upTo_map_add, upTo_map_zero _ 1652 (by
    intro i
    simp only [Store.get]
    repeat rw [if_neg (by omega)]
    rfl)]
  rfl

/-- The batch passes the checks. -/
theorem keyUnit_check :
    keyUnit.batchCheck 0 (parseBatch (((keyUnit.part 0).region 2).read 0 (keyUnit.part 0).commitLen) (some [some 5])) = none := by
  rw [keyUnit_read]
  have n : keyBytes.length = 1680 := by
    simp only [keyBytes, List.length_append, List.length_replicate, List.length_cons, List.length_nil]
  have l : (parseBatch keyBytes (some [some 5])).lenOk = true := by
    unfold parseBatch
    simp only [n]
    decide +kernel
  have t : (parseBatch keyBytes (some [some 5])).target = keyUnit.otp.eui := by decide +kernel
  have g : (parseBatch keyBytes (some [some 5])).tagOk = true := rfl
  have o : ¬ (parseBatch keyBytes (some [some 5])).no ≤ keyUnit.key.lastBatch := by decide +kernel
  have p : keyUnit.privPart 0 = true := by decide +kernel
  have a : keyUnit.sys.st = .active := rfl
  unfold State.batchCheck
  simp [l, t, g, o, p, a]

/-- `live` with the card message committed in partition 1. -/
def cardUnit1 : State := live.setPart 1 (cardUnit.part 0)
/-- What its CARD region reads. -/
theorem cardUnit1_read : ((cardUnit1.part 1).region 5).read 0 (cardUnit1.part 1).commitLen = cardBytes := by
  have e : cardUnit1.part 1 = cardUnit.part 0 := by decide +kernel
  rw [e, cardUnit_read]

/-! Well-formedness: one ill-formed command for each check. -/

/-- The datagram of the tests. -/
def dg0 : Dg := ⟨0, 0, 0, 40, 6, 100, true⟩

/-- An address beyond the P-view (R12). -/
theorem test_wf_address : (Instr.registerWrite .uart (2 ^ 24) 4 0).wf = false := by decide
/-- A counter value beyond 64 bits (R175). -/
theorem test_wf_count : (Instr.powerFailLatch (2 ^ 64)).wf = false := by decide
/-- Field port 64. -/
theorem test_wf_port : (Instr.zcEdge 64 5).wf = false := by decide
/-- Host port 4. -/
theorem test_wf_host_port : (Instr.hostLinkChange 4 true).wf = false := by decide
/-- Partition 8. -/
theorem test_wf_partition : (Instr.recomputeJobEnd 8).wf = false := by decide
/-- Session slot 4. -/
theorem test_wf_slot : (Instr.sessionIdleTimeout 0 4 5).wf = false := by decide
/-- Island 22 (R88). -/
theorem test_wf_island : (Instr.frequencyStepTick 22).wf = false := by decide
/-- A step beyond four bits (R113). -/
theorem test_wf_step : (Instr.stepTargetWrite .uart 3 16).wf = false := by decide
/-- Core 32. -/
theorem test_wf_core : (Instr.shtDispatch 32).wf = false := by decide
/-- Delay list 8 (R394). -/
theorem test_wf_delay_list : (Instr.delayListTick 8 5).wf = false := by decide
/-- Source class 64. -/
theorem test_wf_class : (Instr.hwPostRetry 64).wf = false := by decide
/-- Crypto lane 16. -/
theorem test_wf_lane : (Instr.laneDisable .uart 16).wf = false := by decide
/-- Pipe 4. -/
theorem test_wf_pipe : (Instr.penSelfTest 4 true).wf = false := by decide
/-- NAND channel 8. -/
theorem test_wf_nand : (Instr.nandChannelFail 8).wf = false := by decide
/-- DRAM channel 2. -/
theorem test_wf_dram : (Instr.dramCe 2 5).wf = false := by decide
/-- Lane 2 of the Pair Link. -/
theorem test_wf_pair_lane : (Instr.pairLaneUp 2).wf = false := by decide
/-- Legal output 8. -/
theorem test_wf_output : (Instr.legalPulseEnd 5 8).wf = false := by decide
/-- Balance node 65,536 (R553). -/
theorem test_wf_node : (Instr.balReset .uart 65536).wf = false := by decide
/-- Card slot 4,096 (R534). -/
theorem test_wf_card : (Instr.tariffPushLate 0 4096 5).wf = false := by decide
/-- Slice 1,024 of the legal checkpoint (R515). -/
theorem test_wf_slice : (Instr.bulkSlice ⟨0, 1, 0, true, true, false, ⟨0, 1⟩⟩ 1024 ⟨[], none, 0⟩).wf = false := by decide
/-- An endpoint beyond 20 bits. -/
theorem test_wf_endpoint : (Instr.keyCopyWritten (2 ^ 20)).wf = false := by decide
/-- A channel beyond 22 bits (R422). -/
theorem test_wf_channel : (Instr.handoffOffer (2 ^ 22)).wf = false := by decide
/-- A number longer than an EUI-64. -/
theorem test_wf_eui : (Instr.joinDecision (2 ^ 64) 5).wf = false := by decide
/-- A requester that does not exist. -/
theorem test_wf_requester : (Instr.templeMeasure (.core 32)).wf = false := by decide
/-- A datagram with a SEQ beyond 40 bits. -/
theorem test_wf_datagram : (Instr.keepalive { dg0 with seq := 2 ^ 40 }).wf = false := by decide
/-- An object request with an OBJ_ID of five bytes. -/
theorem test_wf_object : (Instr.getNode ⟨dg0, 9, [0x80, 0, 0x30, 0, 0], 0, false, []⟩).wf = false := by decide
/-- Well-formed commands pass. -/
theorem test_wf_accepts : (Instr.registerWrite .uart 0x8000FC 4 0).wf = true ∧ (Instr.keepalive dg0).wf = true ∧
    (Instr.getNode (req0 [0x80, 0, 0x30])).wf = true := by decide

/-! Values that the spec works out itself. -/

/-- The stored timestamp of the worked example of 00_scope.md. -/
theorem test_timestamp :
    leBytes 10 (tsPack (1932854400 * second + 250000000)) = [0x80, 0xB2, 0xE6, 0x0E, 0x80, 0x04, 0x35, 0x73, 0, 0] := by
  decide +kernel
/-- Airtimes of 06_plc_ports.md's example in band plan A: 228.0 ms for 120 bytes and 48.0 ms for the ACK. -/
theorem test_plc_airtime_a : plcAir false 120 = 228000 * 400 ∧ plcAir false 15 = 48000 * 400 := by decide
/-- Airtime of 08_field_network.md's example in band plan F: 23.4 ms for one block. -/
theorem test_plc_airtime_f : plcAir true 60 = 23400 * 400 := by decide
/-- Airtime of 07_radio_ports.md's example: 74.08 ms for 396 preamble octets and 63 octets at 50 kb/s. -/
theorem test_radio_airtime : live.radAir 8 396 63 = 74080 * 400 := by decide +kernel
/-- The NAND of 15_beam_archive.md's example with `c` channels, `t` targets and `l` LUNs. -/
def flushCfg (c t l : Nat) : NandCfg :=
  { NandCfg.none with
    nCh := c, nTgt := t, nLun := l, nPlane := 4, page := 16384, tMode := 800, tProgTlc := 2000000, tProgSlc := 250000 }

/-- T_FLUSH of 15_beam_archive.md's example: 4.311 ms with eight channels. -/
theorem test_flush_time :
    (flushCfg 8 2 2).tFlush / 1000 = 4310 ∧ (flushCfg 1 1 1).tFlush = 35000000 := by decide
/-- 00_scope.md's example: the only writable field of CKV_ISL_EN is RW/RO, so that an S-view write has none; a P-view write sets EN
and ignores bits 31:22 and bit 0. -/
theorem test_island_enable_views : writeMask R.CKV_ISL_EN = 0 ∧ writeMask (0x800000 + R.CKV_ISL_EN) = 0x3FFFFE := by decide +kernel

/-! Witnesses of the statements: for each clause with hypotheses, states and operands that meet all of them. -/

/-- States and operands that meet the hypotheses of each clause of ResetsPowerFailAndFlush. -/
theorem test_wit_ResetsPowerFailAndFlush :
    (∃ (s : State),
      s.sys.st = .reset) ∧
    (∃ (s : State),
      s.sys.st = .reset) ∧
    (∃ (s : State),
      (s.running = true ∨ (s.sys.st = .start ∧ 6 ≤ s.sys.phase))) ∧
    (∃ (s : State),
      (s.sys.st = .recovery ∨ s.sys.st = .halted ∨ (s.sys.st = .start ∧ s.sys.phase < 6))) ∧
    (∃ (s : State),
      (s.sys.st = .flush ∨ s.sys.st = .flushed)) ∧
    (∃ (r : Requester) (v : Word) (s : State),
      Permits s r (0x800000 + R.CFG_CTRL) ∧ field v 31 16 = 0xD064 ∧ bit v 0 = true ∧ s.running = true) ∧
    (∃ (r : Requester) (v : Word) (s : State),
      Permits s r (0x800000 + R.CFG_CTRL) ∧ field v 31 16 = 0xD064 ∧ bit v 0 = true ∧ s.sys.st = .recovery) ∧
    (∃ (r : Requester) (v : Word) (s : State),
      Permits s r (0x800000 + R.CFG_CTRL) ∧ (field v 31 16 ≠ 0xD064 ∨ bit v 0 = false)) ∧
    (∃ (s : State),
      s.sys.st = .flush ∧ s.bem.mounted = true) ∧
    (∃ (s : State),
      s.sys.st = .flush ∧ s.bem.mounted = false) ∧
    (∃ (s : State),
      s.sys.st = .flushed) :=
  ⟨⟨(inSt .reset : State), by decide +kernel⟩,
   ⟨(inSt .reset : State), by decide +kernel⟩,
   ⟨live, by decide +kernel⟩,
   ⟨(State.reset : State), by decide +kernel⟩,
   ⟨(inSt .flush : State), by decide +kernel⟩,
   ⟨(.slot 0 0 : Requester), (0xD0640001 : Word), live, by unfold Permits; decide +kernel⟩,
   ⟨(.recovery : Requester), (0xD0640001 : Word), (inSt .recovery : State), by unfold Permits; decide +kernel⟩,
   ⟨(.slot 0 0 : Requester), (0 : Word), live, by unfold Permits; decide +kernel⟩,
   ⟨(inSt .flush : State), by decide +kernel⟩,
   ⟨(bemOf (fun x => { x with mounted := false }) (inSt .flush) : State), by decide +kernel⟩,
   ⟨(inSt .flushed : State), by decide +kernel⟩⟩

/-- States and operands that meet the hypotheses of each clause of SealAndClockSource. -/
theorem test_wit_SealAndClockSource :
    (∃ (s : State),
      s.sys.st ≠ .reset ∧ s.sys.sealClosed = true ∧ s.slvUp = true) ∧
    (∃ (s : State),
      s.sys.st ≠ .reset ∧ s.sys.sealClosed = false ∧ s.slvUp = true) ∧
    (∃ (c : Bool) (s : State),
      s.sys.st ≠ .reset ∧ s.sys.sealClosed ≠ c ∧ s.slvUp = false) ∧
    (∃ (c : Bool) (s : State),
      s.sys.sealClosed = c) ∧
    (∃ (s : State),
      s.sys.st ≠ .reset ∧ s.clk.refOk = false ∧ s.clk.irc = true) ∧
    (∃ (s : State),
      s.sys.st ≠ .reset ∧ s.clk.refOk = false ∧ s.clk.irc = false) ∧
    (∃ (s : State),
      s.sys.st ≠ .reset ∧ s.clk.refOk = true) ∧
    (∃ (s : State),
      s.sys.st ≠ .reset ∧ s.clk.refOk = true) ∧
    (∃ (s : State),
      s.sys.st ≠ .reset ∧ s.clk.refOk = false) :=
  ⟨⟨live, by decide +kernel⟩,
   ⟨(unsealed live : State), by decide +kernel⟩,
   ⟨false, (inSt .flush : State), by decide +kernel⟩,
   ⟨(live.sys.sealClosed : Bool), live, by decide +kernel⟩,
   ⟨(State.reset : State), by decide +kernel⟩,
   ⟨(clkOf (fun x => { x with refOk := false }) live : State), by decide +kernel⟩,
   ⟨live, by decide +kernel⟩,
   ⟨live, by decide +kernel⟩,
   ⟨(State.reset : State), by decide +kernel⟩⟩

/-- States and operands that meet the hypotheses of each clause of StartToRegions. -/
theorem test_wit_StartToRegions :
    (∃ (b : Bist) (s : State),
      s.sys.st = .start ∧ s.sys.phase ≤ 1 ∧ b.otpOk = true ∧ b.sysOk = true ∧ Nat.land s.otp.fuseCore b.cores % 2 ^ 32 ≠ 0 ∧
      b.portMask s.otp.fusePort ≠ 0 ∧ Nat.land s.otp.fuseNand b.nands % 2 ^ 8 ≠ 0 ∧ Nat.land s.otp.fusePen b.pens % 2 ^ 4 ≠ 0 ∧
      Nat.land s.otp.fuseLane b.lanes % 2 ^ 16 ≠ 0) ∧
    (∃ (b : Bist) (s : State),
      s.sys.st = .start ∧ s.sys.phase ≤ 1 ∧ b.otpOk = false) ∧
    (∃ (b : Bist) (s : State),
      s.sys.st = .start ∧ s.sys.phase ≤ 1 ∧ b.otpOk = true ∧ b.sysOk = false) ∧
    (∃ (b : Bist) (s : State),
      s.sys.st = .start ∧ s.sys.phase ≤ 1 ∧ b.otpOk = true ∧ b.sysOk = true ∧
      (Nat.land s.otp.fuseCore b.cores % 2 ^ 32 = 0 ∨ b.portMask s.otp.fusePort = 0 ∨ Nat.land s.otp.fuseNand b.nands % 2 ^ 8 = 0 ∨ Nat.land s.otp.fusePen b.pens % 2 ^ 4 = 0 ∨ Nat.land s.otp.fuseLane b.lanes % 2 ^ 16 = 0)) ∧
    (∃ (s : State),
      s.inPhase 2 = true ∧ s.sys.dramA = 0) ∧
    (∃ (a : Option Nat) (b : Option Nat) (s : State),
      s.inPhase 2 = true ∧ s.sys.dramA = 0 ∧ (a = none ∨ b = none)) ∧
    (∃ (n : Nat) (im : Image) (s : State),
      s.inPhase 2 = true ∧ s.sys.dramA ≠ 0 ∧ 2048 ≤ n ∧ s.nor.slot s.slotTried = some im ∧ checkHead s.otp im = 0) ∧
    (∃ (n : Nat) (s : State),
      s.inPhase 2 = true ∧ s.sys.dramA ≠ 0 ∧ 2048 ≤ n ∧ s.slotCode s.slotTried ≠ 0 ∧ s.sys.otherFailed = false) ∧
    (∃ (n : Nat) (s : State),
      s.inPhase 2 = true ∧ s.sys.dramA ≠ 0 ∧ 2048 ≤ n ∧ s.slotCode s.slotTried ≠ 0 ∧ s.sys.otherFailed = true) ∧
    (∃ (n : Nat) (s : State),
      s.inPhase 2 = true ∧ s.sys.dramA ≠ 0 ∧ n < 2048) ∧
    (∃ (n : Nat) (s : State),
      s.inPhase 2 = true ∧ s.sys.dramA ≠ 0 ∧ 2048 ≤ n ∧ s.sys.otherFailed = false ∧ s.nor.boot.trial = true ∧
      s.nor.boot.count + 1 < 2 ^ 32) ∧
    (∃ (v : Nat) (im : Image) (s : State),
      s.inPhase 3 = true ∧ s.sys.image = some im ∧ checkBody s.sys.pairEn v im = 0) ∧
    (∃ (v : Nat) (im : Image) (s : State),
      s.inPhase 3 = true ∧ s.sys.image = some im ∧ checkBody s.sys.pairEn v im ≠ 0 ∧ s.sys.otherFailed = false) ∧
    (∃ (v : Nat) (im : Image) (s : State),
      s.inPhase 3 = true ∧ s.sys.image = some im ∧ checkBody s.sys.pairEn v im ≠ 0 ∧ s.sys.otherFailed = true) ∧
    (∃ (im : Image) (s : State),
      s.inPhase 4 = true ∧ s.sys.image = some im ∧ s.sys.dramA = s.sys.dramB ∧ s.sys.dramA + s.sys.dramB = im.dramGiB) ∧
    (∃ (im : Image) (s : State),
      s.inPhase 4 = true ∧ s.sys.image = some im ∧ (s.sys.dramA ≠ s.sys.dramB ∨ s.sys.dramA + s.sys.dramB ≠ im.dramGiB)) :=
  ⟨⟨(⟨true, true, 2 ^ 32 - 1, 255, 2 ^ 64 - 1, 255, 255, 15, 65535⟩ : Bist), (State.reset : State), by decide +kernel⟩,
   ⟨(⟨false, true, 0, 0, 0, 0, 0, 0, 0⟩ : Bist), (State.reset : State), by decide +kernel⟩,
   ⟨(⟨true, false, 0, 0, 0, 0, 0, 0, 0⟩ : Bist), (State.reset : State), by decide +kernel⟩,
   ⟨(⟨true, true, 0, 0, 0, 0, 0, 0, 0⟩ : Bist), (State.reset : State), by decide +kernel⟩,
   ⟨(sysOf (fun x => { x with dramA := 0 }) (start 2) : State), by decide +kernel⟩,
   ⟨none, none, (sysOf (fun x => { x with dramA := 0 }) (start 2) : State), by decide +kernel⟩,
   ⟨(2048 : Nat), (Option.get ((sysOf (fun x => { x with otherFailed := true }) (start 2) : State).nor.slot (sysOf (fun x => { x with otherFailed := true }) (start 2) : State).slotTried) (by decide +kernel) : Image), (sysOf (fun x => { x with otherFailed := true }) (start 2) : State),
      by decide +kernel⟩,
   ⟨(2048 : Nat), (norOf (fun x => { x with copy0 := BootRec.bytes ⟨4, true, false, 0⟩ }) (start 2) : State), by decide +kernel⟩,
   ⟨(2048 : Nat), (sysOf (fun x => { x with otherFailed := true, slot := true }) (start 2) : State), by decide +kernel⟩,
   ⟨(2047 : Nat), (sysOf (fun x => { x with otherFailed := true }) (start 2) : State), by decide +kernel⟩,
   ⟨(2048 : Nat), (norOf (fun x => { x with copy0 := BootRec.bytes ⟨4, false, true, 2⟩ }) (start 2) : State), by decide +kernel⟩,
   ⟨(255 : Nat), (Option.get ((start 3 : State).sys.image) (by decide +kernel) : Image), (start 3 : State), by decide +kernel⟩,
   ⟨(0 : Nat), (Option.get ((start 3 : State).sys.image) (by decide +kernel) : Image), (start 3 : State), by decide +kernel⟩,
   ⟨(0 : Nat), (Option.get ((sysOf (fun x => { x with otherFailed := true }) (start 3) : State).sys.image) (by decide +kernel) : Image), (sysOf (fun x => { x with otherFailed := true }) (start 3) : State),
      by decide +kernel⟩,
   ⟨(Option.get ((start 4 : State).sys.image) (by decide +kernel) : Image), (start 4 : State), by decide +kernel⟩,
   ⟨(Option.get ((sysOf (fun x => { x with dramB := 8 }) (start 4) : State).sys.image) (by decide +kernel) : Image), (sysOf (fun x => { x with dramB := 8 }) (start 4) : State),
      by decide +kernel⟩⟩

/-- States and operands that meet the hypotheses of each clause of StartToRun. -/
theorem test_wit_StartToRun :
    (∃ (s : State),
      s.inPhase 5 = true ∧ s.nand.owner = some s.otp.eui) ∧
    (∃ (s : State),
      s.inPhase 5 = true ∧ s.nand.owner = none ∧ s.otp.seals = []) ∧
    (∃ (s : State),
      s.inPhase 5 = true ∧ s.nand.owner = none ∧ s.otp.seals ≠ []) ∧
    (∃ (e : Nat) (s : State),
      s.inPhase 5 = true ∧ s.nand.owner = some e ∧ e ≠ s.otp.eui) ∧
    (∃ (s : State),
      s.inPhase 6 = true) ∧
    (∃ (s : State),
      s.inPhase 7 = true) ∧
    (∃ (s : State),
      s.inPhase 8 = true ∧ (s.otp.rootOk = true ∨ s.sys.dbgEn = true)) ∧
    (∃ (k : Bool) (s : State),
      s.inPhase 8 = true ∧ (k = false ∨ (s.otp.rootOk = false ∧ s.sys.dbgEn = false))) ∧
    (∃ (n : Nat) (s : State),
      s.inPhase 9 = true ∧ s.sys.phaseAt + s.timeWait ≤ max s.tim.cnt n) ∧
    (∃ (n : Nat) (s : State),
      s.inPhase 9 = true ∧ max s.tim.cnt n < s.sys.phaseAt + s.timeWait) ∧
    (∃ (s : State),
      s.inPhase 10 = true ∧ s.par.claim = 0 ∧ s.sys.pairEn = false) ∧
    (∃ (n : Nat) (s : State),
      s.inPhase 10 = true ∧ s.par.claim = 0 ∧ s.sys.pairEn = true ∧ s.sys.phaseAt + msCounts 40 ≤ max s.tim.cnt n ∧
      (s.clk.irc = true ∨ s.peerThere = true)) ∧
    (∃ (n : Nat) (s : State),
      s.inPhase 10 = true ∧ s.par.claim = 0 ∧ s.sys.pairEn = true ∧ s.sys.phaseAt + msCounts 40 ≤ max s.tim.cnt n ∧ s.clk.irc = false ∧
      s.peerThere = false) ∧
    (∃ (n : Nat) (s : State),
      s.inPhase 10 = true ∧ s.sys.pairEn = true ∧ max s.tim.cnt n < s.sys.phaseAt + msCounts 40) ∧
    (∃ (s : State),
      s.inPhase 11 = true ∧ s.sys.role = 1) ∧
    (∃ (s : State),
      s.inPhase 11 = true ∧ s.sys.role = 2) ∧
    (∃ (s : State),
      s.sys.st = .halted ∧ s.sys.sealClosed = false) ∧
    (∃ (s : State),
      s.sys.st = .halted ∧ s.sys.sealClosed = true) :=
  ⟨⟨(start 5 : State), by decide +kernel⟩,
   ⟨({ nandOf (fun x => { x with owner := none }) (start 5) with otp := { otp0 with seals := [] } } : State), by decide +kernel⟩,
   ⟨(nandOf (fun x => { x with owner := none }) (start 5) : State), by decide +kernel⟩,
   ⟨(Option.get ((nandOf (fun x => { x with owner := some 6 }) (start 5) : State).nand.owner) (by decide +kernel) : Nat), (nandOf (fun x => { x with owner := some 6 }) (start 5) : State),
      by decide +kernel⟩,
   ⟨(start 6 : State), by decide +kernel⟩,
   ⟨(start 7 : State), by decide +kernel⟩,
   ⟨(start 8 : State), by decide +kernel⟩,
   ⟨(false ∨ ((start 8 : State).otp.rootOk = false ∧ (start 8 : State).sys.dbgEn = false) : Bool), (start 8 : State), by decide +kernel⟩,
   ⟨(40000000000 : Nat), (start 9 : State), by decide +kernel⟩,
   ⟨(0 : Nat), (start 9 : State), by decide +kernel⟩,
   ⟨(start 10 : State), by decide +kernel⟩,
   ⟨(30000000 : Nat), (parOf (fun x => { x with claim := 0 }) (startP 10) : State), by decide +kernel⟩,
   ⟨(30000000 : Nat), (parOf (fun x => { x with claim := 0, heard := false, wire := 0 }) (startP 10) : State), by decide +kernel⟩,
   ⟨(0 : Nat), (parOf (fun x => { x with claim := 0 }) (startP 10) : State), by decide +kernel⟩,
   ⟨(sysOf (fun x => { x with role := 1 }) (start 11) : State), by decide +kernel⟩,
   ⟨(sysOf (fun x => { x with role := 2 }) (startP 11) : State), by decide +kernel⟩,
   ⟨(unsealed (inSt .halted) : State), by decide +kernel⟩,
   ⟨(inSt .halted : State), by decide +kernel⟩⟩

/-- States and operands that meet the hypotheses of each clause of Staging. -/
theorem test_wit_Staging :
    (∃ (r : Requester) (im : Image) (v : Nat) (j : Nat) (role : Role) (s : State),
      Commits s r 0x01 j role ∧ s.sys.stage ≠ .verifying ∧ s.sys.stage ≠ .writing ∧ s.stageCheck v (s.withHeader j im) = 0) ∧
    (∃ (r : Requester) (im : Image) (v : Nat) (j : Nat) (role : Role) (s : State),
      Commits s r 0x01 j role ∧ s.sys.stage ≠ .verifying ∧ s.sys.stage ≠ .writing ∧ s.stageCheck v (s.withHeader j im) ≠ 0) ∧
    (∃ (r : Requester) (j : Nat) (role : Role) (s : State),
      Commits s r 0x01 j role ∧ (s.sys.stage = .verifying ∨ s.sys.stage = .writing)) ∧
    (∃ (s : State),
      s.sys.stage = .writing ∧ (s.running = true ∨ s.sys.st = .recovery) ∧ s.nor.boot.count + 1 < 2 ^ 32) ∧
    (∃ (s : State),
      s.sys.stage = .writing ∧ (s.running = true ∨ s.sys.st = .recovery)) :=
  ⟨⟨(.slot 0 0 : Requester), im0, (255 : Nat), (0 : Nat), (.operator : Role), (committed 1 (hdrBytes 8) : State),
      by unfold Commits Permits; decide +kernel⟩,
   ⟨(.slot 0 0 : Requester), ({ im0 with hdr := { im0.hdr with seq := 8 } } : Image), (255 : Nat), (0 : Nat), (.operator : Role), (live.setPart 0 ({ Part.blank with commitLen := 16, regions := [(1, ⟨[], [(0, 16)], [], false, false⟩)] }) : State),
      by unfold Commits Permits; decide +kernel⟩,
   ⟨(.slot 0 0 : Requester), (0 : Nat), (.operator : Role), (sysOf (fun x => { x with stage := .writing, staged := some { im0 with hdr := { im0.hdr with seq := 8 } } }) live : State),
      by unfold Commits Permits; decide +kernel⟩,
   ⟨(sysOf (fun x => { x with stage := .writing, staged := some { im0 with hdr := { im0.hdr with seq := 8 } } }) live : State),
      by decide +kernel⟩,
   ⟨(sysOf (fun x => { x with stage := .writing, staged := some { im0 with hdr := { im0.hdr with seq := 8 } } }) live : State),
      by decide +kernel⟩⟩

/-- States and operands that meet the hypotheses of each clause of IslandsGate. -/
theorem test_wit_IslandsGate :
    (∃ (r : Requester) (i : Nat) (s : State),
      Permits s r (0x800000 + R.CKV_ISL_EN) ∧ Settled s ∧ i < 22 ∧ (s.isl i).en = true ∧ (s.isl i).closing = false ∧ s.gateable i = true) ∧
    (∃ (r : Requester) (i : Nat) (s : State),
      Permits s r (0x800000 + R.CKV_ISL_EN) ∧ Settled s ∧ i < 22 ∧ (s.isl i).closing = true) ∧
    (∃ (r : Requester) (i : Nat) (s : State),
      Permits s r (0x800000 + R.CKV_ISL_EN) ∧ Settled s ∧ i < 22 ∧ (s.isl i).en = false) ∧
    (∃ (r : Requester) (i : Nat) (s : State),
      Permits s r (0x800000 + R.CKV_ISL_EN) ∧ 0 < i ∧ i < 22 ∧ (s.isl i).en = true ∧ s.gateable i = false) ∧
    (∃ (i : Nat) (s : State),
      s.running = true ∧ (s.isl i).closing = true ∧ (s.isl i).reopen = false ∧ s.drainedIsl i = true) ∧
    (∃ (i : Nat) (s : State),
      s.running = true ∧ i < 22 ∧ (s.isl i).closing = true ∧ (s.isl i).reopen = true ∧ s.drainedIsl i = true) ∧
    (∃ (i : Nat) (s : State),
      s.running = true ∧ s.drainedIsl i = false) ∧
    (∃ (r : Requester) (i : Nat) (s : State),
      Permits s r (0x800000 + R.CKV_ISL_EN) ∧ Settled s ∧ 0 < i ∧ i < 22 ∧ (s.isl i).en = false ∧ (s.isl i).opening = none ∧
      s.openReady i = true) ∧
    (∃ (r : Requester) (i : Nat) (s : State),
      Permits s r (0x800000 + R.CKV_ISL_EN) ∧ Settled s ∧ 0 < i ∧ i < 22 ∧ (s.isl i).en = false ∧ (s.isl i).opening = none ∧
      s.openReady i = false ∧ (s.clk.rail (onHi i)).fail = false) ∧
    (∃ (r : Requester) (i : Nat) (s : State),
      Permits s r (0x800000 + R.CKV_ISL_EN) ∧ Settled s ∧ 0 < i ∧ i < 22 ∧ (s.isl i).closing = true) ∧
    (∃ (r : Requester) (i : Nat) (s : State),
      Permits s r (0x800000 + R.CKV_ISL_EN) ∧ Settled s ∧ 0 < i ∧ i < 22 ∧ (s.isl i).en = true ∧ (s.isl i).closing = false) :=
  ⟨⟨(.slot 0 0 : Requester), (3 : Nat), (islOf 6 (fun x => { x with en := false }) live : State),
      by unfold Permits Settled; decide +kernel⟩,
   ⟨(.slot 0 0 : Requester), (3 : Nat), (islOf 3 (fun x => { x with closing := true }) live : State),
      by unfold Permits Settled; decide +kernel⟩,
   ⟨(.slot 0 0 : Requester), (6 : Nat), (islOf 6 (fun x => { x with en := false }) live : State),
      by unfold Permits Settled; decide +kernel⟩,
   ⟨(.slot 0 0 : Requester), (7 : Nat), (islOf 7 (fun x => { x with closing := true }) live : State), by unfold Permits; decide +kernel⟩,
   ⟨(7 : Nat), (islOf 7 (fun x => { x with closing := true }) live : State), by decide +kernel⟩,
   ⟨(10 : Nat), (islOf 10 (fun x => { x with closing := true, reopen := true }) live : State), by decide +kernel⟩,
   ⟨(6 : Nat), (islOf 7 (fun x => { x with closing := true }) live : State), by decide +kernel⟩,
   ⟨(.slot 0 0 : Requester), (6 : Nat), (islOf 6 (fun x => { x with en := false }) live : State),
      by unfold Permits Settled; decide +kernel⟩,
   ⟨(.slot 0 0 : Requester), (10 : Nat), (clkOf (fun x => { x with hi := ⟨650, false, [], 0⟩, lo := ⟨650, false, [], 0⟩ }) (islOf 10 (fun x => { x with en := false }) live) : State),
      by unfold Permits Settled; decide +kernel⟩,
   ⟨(.slot 0 0 : Requester), (3 : Nat), (islOf 3 (fun x => { x with closing := true }) live : State),
      by unfold Permits Settled; decide +kernel⟩,
   ⟨(.slot 0 0 : Requester), (7 : Nat), (islOf 6 (fun x => { x with en := false }) live : State),
      by unfold Permits Settled; decide +kernel⟩⟩

/-- States and operands that meet the hypotheses of each clause of OperatingPoints. -/
theorem test_wit_OperatingPoints :
    (∃ (r : Requester) (i : Nat) (n : Nat) (s : State),
      Permits s r (0x800000 + stepAddr i) ∧ n < 16) ∧
    (∃ (i : Nat) (s : State),
      s.treadle = true ∧ s.clk.hold = false ∧ steppable i = true ∧ (s.isl i).en = true ∧ (s.isl i).trans = .stepping) ∧
    (∃ (s : State),
      s.clk.hold = true) ∧
    (∃ (i : Nat) (s : State),
      s.treadle = true ∧ (s.isl i).en = true ∧ ((s.isl i).trans = .voltUp ∨ (s.isl i).trans = .voltDown)) ∧
    (∃ (hi : Bool) (mv : Nat) (rest : List Nat) (s : State),
      s.treadle = true ∧ s.clk.avsOn = true ∧ (s.clk.rail hi).queue = mv :: rest) ∧
    (∃ (hi : Bool) (mv : Nat) (rest : List Nat) (s : State),
      s.treadle = true ∧ s.clk.avsOn = true ∧ (s.clk.rail hi).queue = mv :: rest) ∧
    (∃ (hi : Bool) (mv : Nat) (rest : List Nat) (s : State),
      s.treadle = true ∧ s.clk.avsOn = true ∧ (s.clk.rail hi).queue = mv :: rest ∧ (s.clk.rail hi).fail = false ∧
      (s.clk.rail hi).retries < 2) ∧
    (∃ (hi : Bool) (mv : Nat) (rest : List Nat) (s : State),
      s.treadle = true ∧ s.clk.avsOn = true ∧ (s.clk.rail hi).queue = mv :: rest ∧ (s.clk.rail hi).fail = false ∧
      2 ≤ (s.clk.rail hi).retries) ∧
    (∃ (hi : Bool) (mv : Nat) (rest : List Nat) (s : State),
      s.treadle = true ∧ s.clk.avsOn = true ∧ (s.clk.rail hi).queue = mv :: rest ∧ (s.clk.rail hi).fail = true) :=
  ⟨⟨(.slot 0 0 : Requester), (3 : Nat), (0 : Nat), (islOf 3 (fun x => { x with trans := .stepping, goal := 12 }) live : State),
      by unfold Permits; decide +kernel⟩,
   ⟨(3 : Nat), (islOf 3 (fun x => { x with trans := .stepping, goal := 12 }) live : State), by decide +kernel⟩,
   ⟨(clkOf (fun x => { x with hold := true }) live : State), by decide +kernel⟩,
   ⟨(3 : Nat), (islOf 3 (fun x => { x with trans := .voltUp }) live : State), by decide +kernel⟩,
   ⟨true, (List.head (((clkOf (fun x => { x with avsOn := true, hi := ⟨800, false, [840, 820], 0⟩ }) live : State).clk.rail true).queue) (by decide +kernel) : Nat), (List.tail (((clkOf (fun x => { x with avsOn := true, hi := ⟨800, false, [840, 820], 0⟩ }) live : State).clk.rail true).queue) : List Nat), (clkOf (fun x => { x with avsOn := true, hi := ⟨800, false, [840, 820], 0⟩ }) live : State),
      by decide +kernel⟩,
   ⟨true, (List.head (((clkOf (fun x => { x with avsOn := true, hi := ⟨800, false, [840, 820], 0⟩ }) live : State).clk.rail true).queue) (by decide +kernel) : Nat), (List.tail (((clkOf (fun x => { x with avsOn := true, hi := ⟨800, false, [840, 820], 0⟩ }) live : State).clk.rail true).queue) : List Nat), (clkOf (fun x => { x with avsOn := true, hi := ⟨800, false, [840, 820], 0⟩ }) live : State),
      by decide +kernel⟩,
   ⟨true, (List.head (((clkOf (fun x => { x with avsOn := true, hi := ⟨800, false, [840, 820], 0⟩ }) live : State).clk.rail true).queue) (by decide +kernel) : Nat), (List.tail (((clkOf (fun x => { x with avsOn := true, hi := ⟨800, false, [840, 820], 0⟩ }) live : State).clk.rail true).queue) : List Nat), (clkOf (fun x => { x with avsOn := true, hi := ⟨800, false, [840, 820], 0⟩ }) live : State),
      by decide +kernel⟩,
   ⟨true, (List.head (((clkOf (fun x => { x with avsOn := true, hi := ⟨800, false, [840, 820], 2⟩ }) live : State).clk.rail true).queue) (by decide +kernel) : Nat), (List.tail (((clkOf (fun x => { x with avsOn := true, hi := ⟨800, false, [840, 820], 2⟩ }) live : State).clk.rail true).queue) : List Nat), (clkOf (fun x => { x with avsOn := true, hi := ⟨800, false, [840, 820], 2⟩ }) live : State),
      by decide +kernel⟩,
   ⟨true, (List.head (((clkOf (fun x => { x with avsOn := true, hi := ⟨800, true, [840, 820], 0⟩ }) live : State).clk.rail true).queue) (by decide +kernel) : Nat), (List.tail (((clkOf (fun x => { x with avsOn := true, hi := ⟨800, true, [840, 820], 0⟩ }) live : State).clk.rail true).queue) : List Nat), (clkOf (fun x => { x with avsOn := true, hi := ⟨800, true, [840, 820], 0⟩ }) live : State),
      by decide +kernel⟩⟩

/-- States and operands that meet the hypotheses of each clause of TempleMargins. -/
theorem test_wit_TempleMargins :
    (∃ (n : Nat) (s : State),
      s.treadle = true ∧ s.tmp.todo = none ∧ (s.isl 0).en = true ∧ (s.isl 0).closing = false ∧
      s.tmp.cycleAt + 6 * hourCounts ≤ max s.tim.cnt n) ∧
    (∃ (n : Nat) (s : State),
      (s.tmp.todo ≠ none ∨ max s.tim.cnt n < s.tmp.cycleAt + 6 * hourCounts)) ∧
    (∃ (r : Requester) (s : State),
      Permits s r (0x800000 + R.TMP_CTRL) ∧ s.tmp.todo = none ∧ (s.isl 0).en = true ∧ (s.isl 0).closing = false) ∧
    (∃ (r : Requester) (s : State),
      Permits s r (0x800000 + R.TMP_CTRL) ∧ s.tmp.todo ≠ none) ∧
    (∃ (i : Nat) (n : Nat) (s : State),
      s.treadle = true ∧ s.tmp.window = some i ∧ (s.isl i).trans = .idle ∧ (s.isl i).en = true ∧ (s.isl i).closing = false ∧
      s.tmp.winAt + msCounts 250 ≤ max s.tim.cnt n ∧ (steppable i = true → (s.isl i).cur = (s.isl i).limit)) ∧
    (∃ (i : Nat) (n : Nat) (s : State),
      s.treadle = true ∧ s.tmp.window = some i ∧ (s.isl i).trans = .idle ∧ (s.isl i).en = true ∧ (s.isl i).closing = false ∧
      s.tmp.winAt + msCounts 250 ≤ max s.tim.cnt n ∧ steppable i = true ∧ (s.isl i).cur ≠ (s.isl i).limit) ∧
    (∃ (i : Nat) (n : Nat) (s : State),
      s.tmp.window = some i ∧ ((s.isl i).trans ≠ .idle ∨ max s.tim.cnt n < s.tmp.winAt + msCounts 250)) ∧
    (∃ (i : Nat) (slack : Nat) (s : State),
      s.treadle = true ∧ (s.isl i).en = true ∧ s.tmp.todo = none ∧ slack < 6 ∧ steppable i = true) ∧
    (∃ (i : Nat) (slack : Nat) (s : State),
      s.treadle = true ∧ (s.isl i).en = true ∧ s.tmp.todo = none ∧ slack < 6 ∧ i ≤ 21 ∧ steppable i = false) ∧
    (∃ (slack : Nat) (s : State),
      (s.tmp.todo ≠ none ∨ 6 ≤ slack)) :=
  ⟨⟨(9000000000000 : Nat), live, by decide +kernel⟩,
   ⟨(0 : Nat), ({ live with tmp := { live.tmp with todo := some [21, 5] } } : State), by decide +kernel⟩,
   ⟨(.slot 0 0 : Requester), live, by unfold Permits; decide +kernel⟩,
   ⟨(.slot 0 0 : Requester), ({ live with tmp := { live.tmp with todo := some [21, 5] } } : State), by unfold Permits; decide +kernel⟩,
   ⟨(Option.get (({ live with tmp := { live.tmp with todo := some [21, 5] } } : State).tmp.window) (by decide +kernel) : Nat), (40000000000 : Nat), ({ live with tmp := { live.tmp with todo := some [21, 5] } } : State),
      by decide +kernel⟩,
   ⟨(Option.get ((islOf 3 (fun x => { x with cur := 6, limit := 12 }) { live with tmp := { live.tmp with todo := some [3] } } : State).tmp.window) (by decide +kernel) : Nat), (9000000000000 : Nat), (islOf 3 (fun x => { x with cur := 6, limit := 12 }) { live with tmp := { live.tmp with todo := some [3] } } : State),
      by decide +kernel⟩,
   ⟨(Option.get (({ live with tmp := { live.tmp with todo := some [21, 5] } } : State).tmp.window) (by decide +kernel) : Nat), (0 : Nat), ({ live with tmp := { live.tmp with todo := some [21, 5] } } : State),
      by decide +kernel⟩,
   ⟨(3 : Nat), (0 : Nat), live, by decide +kernel⟩,
   ⟨(0 : Nat), (0 : Nat), live, by decide +kernel⟩,
   ⟨(0 : Nat), ({ live with tmp := { live.tmp with todo := some [21, 5] } } : State), by decide +kernel⟩⟩

/-- States and operands that meet the hypotheses of each clause of PtpMessages. -/
theorem test_wit_PtpMessages :
    (∃ (d : Bool) (e : Nat) (t2 : Nat) (t1 : Int) (corr : Int) (x : Int) (s : State),
      Syncs s d e t2 t1 corr x) ∧
    (∃ (d : Bool) (e : Nat) (t2 : Nat) (t1 : Int) (corr : Int) (x : Int) (s : State),
      Syncs s d e t2 t1 corr x ∧ s.stepLim d < x.natAbs ∧ (∀ y ∈ (s.tim.dom d).pendStep, ¬(y < 0 ↔ x < 0))) ∧
    (∃ (d : Bool) (e : Nat) (t2 : Nat) (t1 : Int) (corr : Int) (x : Int) (y : Int) (s : State),
      Syncs s d e t2 t1 corr x ∧ s.stepLim d < x.natAbs ∧ (s.tim.dom d).pendStep = some y ∧ (y < 0 ↔ x < 0)) ∧
    (∃ (d : Bool) (e : Nat) (t2 : Nat) (t1 : Int) (corr : Int) (x : Int) (s : State),
      Syncs s d e t2 t1 corr x ∧ x.natAbs ≤ s.stepLim d) ∧
    (∃ (d : Bool) (m : PtpMaster) (s : State),
      s.ptpRuns = true ∧ s.tim.ircAt = none ∧ nbit (field (s.timCfg d) 7 4) m.port = true ∧
      (∀ c ∈ (s.tim.dom d).master, (c.1.identity = m.identity ∧ c.1.port = m.port) ∨ lexLt m.rank c.1.rank = true)) ∧
    (∃ (d : Bool) (m : PtpMaster) (c : PtpMaster × Nat) (sc : Bool) (s : State),
      (s.tim.dom d).master = some c ∧ (sc = false ∨ s.tim.ircAt ≠ none ∨ (¬(c.1.identity = m.identity ∧ c.1.port = m.port) ∧
      lexLt m.rank c.1.rank = false))) ∧
    (∃ (d : Bool) (e : Nat) (s : State),
      s.ptpRuns = true ∧ s.timEn d = true ∧ s.tim.ircAt = none ∧ (bit (s.timCfg d) 30 = true → nbit (field (s.timCfg d) 7 4) e = true) ∧
      (bit (s.timCfg d) 30 = false → ((s.tim.dom d).master.map (fun m => m.1.port)) = some e)) ∧
    (∃ (d : Bool) (e : Nat) (c1 : Nat) (s : State),
      s.ptpRuns = true ∧ s.timEn d = true ∧ s.tim.ircAt = none ∧ (s.tim.dom d).reqAt.find? (fun r => r.1 = e) = some (e, c1)) ∧
    (∃ (d : Bool) (e : Nat) (s : State),
      ((s.tim.dom d).reqAt.find? (fun r => r.1 = e) = none ∨ s.tim.ircAt ≠ none)) ∧
    (∃ (d : Bool) (e : Nat) (s : State),
      s.ptpRuns = true ∧ s.tim.ircAt = none ∧ bit (s.timCfg d) 30 = true ∧ nbit (field (s.timCfg d) 7 4) e = true) ∧
    (∃ (d : Bool) (s : State),
      (s.tim.ircAt ≠ none ∨ bit (s.timCfg d) 30 = false)) ∧
    (∃ (s : State),
      s.tim.ircAt ≠ none) ∧
    (∃ (s : State),
      s.tim.ircAt ≠ none) :=
  ⟨⟨false, (0 : Nat), (1000001 : Nat), (0 : Int), (0 : Int), ((domOf (fun x => { x with master := some (⟨1, 6, 33, 100, 1, 9, 0, 0, 0⟩, 900) }) (regOf (timBase false + 0x20) 0x80000011 live) : State).rxTime ((domOf (fun x => { x with master := some (⟨1, 6, 33, 100, 1, 9, 0, 0, 0⟩, 900) }) (regOf (timBase false + 0x20) 0x80000011 live) : State).tim.dom false) (0 : Nat) (1000001 : Nat) - (0 : Int) - ((domOf (fun x => { x with master := some (⟨1, 6, 33, 100, 1, 9, 0, 0, 0⟩, 900) }) (regOf (timBase false + 0x20) 0x80000011 live) : State).tim.dom false).pathDelay - (0 : Int) - (domOf (fun x => { x with master := some (⟨1, 6, 33, 100, 1, 9, 0, 0, 0⟩, 900) }) (regOf (timBase false + 0x20) 0x80000011 live) : State).asym (0 : Nat) : Int), (domOf (fun x => { x with master := some (⟨1, 6, 33, 100, 1, 9, 0, 0, 0⟩, 900) }) (regOf (timBase false + 0x20) 0x80000011 live) : State),
      by unfold Syncs; decide +kernel⟩,
   ⟨false, (0 : Nat), (1000001 : Nat), (0 : Int), (0 : Int), ((domOf (fun x => { x with master := some (⟨1, 6, 33, 100, 1, 9, 0, 0, 0⟩, 900) }) (regOf (timBase false + 0x20) 0x80000011 live) : State).rxTime ((domOf (fun x => { x with master := some (⟨1, 6, 33, 100, 1, 9, 0, 0, 0⟩, 900) }) (regOf (timBase false + 0x20) 0x80000011 live) : State).tim.dom false) (0 : Nat) (1000001 : Nat) - (0 : Int) - ((domOf (fun x => { x with master := some (⟨1, 6, 33, 100, 1, 9, 0, 0, 0⟩, 900) }) (regOf (timBase false + 0x20) 0x80000011 live) : State).tim.dom false).pathDelay - (0 : Int) - (domOf (fun x => { x with master := some (⟨1, 6, 33, 100, 1, 9, 0, 0, 0⟩, 900) }) (regOf (timBase false + 0x20) 0x80000011 live) : State).asym (0 : Nat) : Int), (domOf (fun x => { x with master := some (⟨1, 6, 33, 100, 1, 9, 0, 0, 0⟩, 900) }) (regOf (timBase false + 0x20) 0x80000011 live) : State),
      by unfold Syncs; decide +kernel⟩,
   ⟨false, (0 : Nat), (1000001 : Nat), (0 : Int), (0 : Int), ((domOf (fun x => { x with master := some (⟨1, 6, 33, 100, 1, 9, 0, 0, 0⟩, 900), pendStep := some 5 }) (regOf (timBase false + 0x20) 0x80000011 live) : State).rxTime ((domOf (fun x => { x with master := some (⟨1, 6, 33, 100, 1, 9, 0, 0, 0⟩, 900), pendStep := some 5 }) (regOf (timBase false + 0x20) 0x80000011 live) : State).tim.dom false) (0 : Nat) (1000001 : Nat) - (0 : Int) - ((domOf (fun x => { x with master := some (⟨1, 6, 33, 100, 1, 9, 0, 0, 0⟩, 900), pendStep := some 5 }) (regOf (timBase false + 0x20) 0x80000011 live) : State).tim.dom false).pathDelay - (0 : Int) - (domOf (fun x => { x with master := some (⟨1, 6, 33, 100, 1, 9, 0, 0, 0⟩, 900), pendStep := some 5 }) (regOf (timBase false + 0x20) 0x80000011 live) : State).asym (0 : Nat) : Int), (Option.get (((domOf (fun x => { x with master := some (⟨1, 6, 33, 100, 1, 9, 0, 0, 0⟩, 900), pendStep := some 5 }) (regOf (timBase false + 0x20) 0x80000011 live) : State).tim.dom false).pendStep) (by decide +kernel) : Int), (domOf (fun x => { x with master := some (⟨1, 6, 33, 100, 1, 9, 0, 0, 0⟩, 900), pendStep := some 5 }) (regOf (timBase false + 0x20) 0x80000011 live) : State),
      by unfold Syncs; decide +kernel⟩,
   ⟨false, (0 : Nat), (1000001 : Nat), (live.tim.domTime live.tim.domA 1000001 : Int), (0 : Int), ((domOf (fun x => { x with master := some (⟨1, 6, 33, 100, 1, 9, 0, 0, 0⟩, 900) }) (regOf (timBase false + 0x20) 0x80000011 live) : State).rxTime ((domOf (fun x => { x with master := some (⟨1, 6, 33, 100, 1, 9, 0, 0, 0⟩, 900) }) (regOf (timBase false + 0x20) 0x80000011 live) : State).tim.dom false) (0 : Nat) (1000001 : Nat) - (live.tim.domTime live.tim.domA 1000001 : Int) - ((domOf (fun x => { x with master := some (⟨1, 6, 33, 100, 1, 9, 0, 0, 0⟩, 900) }) (regOf (timBase false + 0x20) 0x80000011 live) : State).tim.dom false).pathDelay - (0 : Int) - (domOf (fun x => { x with master := some (⟨1, 6, 33, 100, 1, 9, 0, 0, 0⟩, 900) }) (regOf (timBase false + 0x20) 0x80000011 live) : State).asym (0 : Nat) : Int), (domOf (fun x => { x with master := some (⟨1, 6, 33, 100, 1, 9, 0, 0, 0⟩, 900) }) (regOf (timBase false + 0x20) 0x80000011 live) : State),
      by unfold Syncs; decide +kernel⟩,
   ⟨false, (⟨1, 6, 33, 100, 1, 9, 0, 0, 0⟩ : PtpMaster), (regOf 0x040120 0x800000F0 (domOf (fun x => { x with master := some (⟨1, 6, 33, 100, 1, 9, 0, 0, 0⟩, 0) }) live) : State),
      by decide +kernel⟩,
   ⟨false, (⟨1, 6, 33, 100, 1, 9, 0, 0, 0⟩ : PtpMaster), (Option.get (((regOf 0x040120 0x800000F0 (domOf (fun x => { x with master := some (⟨1, 6, 33, 100, 1, 9, 0, 0, 0⟩, 0) }) live) : State).tim.dom false).master) (by decide +kernel) : PtpMaster × Nat), (false ∨ (regOf 0x040120 0x800000F0 (domOf (fun x => { x with master := some (⟨1, 6, 33, 100, 1, 9, 0, 0, 0⟩, 0) }) live) : State).tim.ircAt ≠ none ∨ (¬((Option.get (((regOf 0x040120 0x800000F0 (domOf (fun x => { x with master := some (⟨1, 6, 33, 100, 1, 9, 0, 0, 0⟩, 0) }) live) : State).tim.dom false).master) (by decide +kernel) : PtpMaster × Nat).1.identity = (⟨1, 6, 33, 100, 1, 9, 0, 0, 0⟩ : PtpMaster).identity ∧
      (Option.get (((regOf 0x040120 0x800000F0 (domOf (fun x => { x with master := some (⟨1, 6, 33, 100, 1, 9, 0, 0, 0⟩, 0) }) live) : State).tim.dom false).master) (by decide +kernel) : PtpMaster × Nat).1.port = (⟨1, 6, 33, 100, 1, 9, 0, 0, 0⟩ : PtpMaster).port) ∧
      lexLt (⟨1, 6, 33, 100, 1, 9, 0, 0, 0⟩ : PtpMaster).rank (Option.get (((regOf 0x040120 0x800000F0 (domOf (fun x => { x with master := some (⟨1, 6, 33, 100, 1, 9, 0, 0, 0⟩, 0) }) live) : State).tim.dom false).master) (by decide +kernel) : PtpMaster × Nat).1.rank = false) : Bool), (regOf 0x040120 0x800000F0 (domOf (fun x => { x with master := some (⟨1, 6, 33, 100, 1, 9, 0, 0, 0⟩, 0) }) live) : State),
      by decide +kernel⟩,
   ⟨false, (0 : Nat), (regOf 0x040120 0x800000F0 (domOf (fun x => { x with master := some (⟨1, 6, 33, 100, 1, 9, 0, 0, 0⟩, 0) }) live) : State),
      by decide +kernel⟩,
   ⟨false, (0 : Nat), (900 : Nat), (domOf (fun x => { x with master := some (⟨1, 6, 33, 100, 1, 9, 0, 0, 0⟩, 900), reqAt := [(0, 900)] }) (regOf (timBase false + 0x20) 0x80000011 live) : State),
      by decide +kernel⟩,
   ⟨false, (0 : Nat), (regOf 0x040120 0x800000F0 (domOf (fun x => { x with master := some (⟨1, 6, 33, 100, 1, 9, 0, 0, 0⟩, 0) }) live) : State),
      by decide +kernel⟩,
   ⟨false, (0 : Nat), (domOf (fun x => { x with master := some (⟨1, 6, 33, 100, 1, 9, 0, 0, 0⟩, 900) }) (regOf (timBase false + 0x20) 0xC0000011 live) : State),
      by decide +kernel⟩,
   ⟨false, (regOf 0x040120 0x800000F0 (domOf (fun x => { x with master := some (⟨1, 6, 33, 100, 1, 9, 0, 0, 0⟩, 0) }) live) : State),
      by decide +kernel⟩,
   ⟨(State.reset : State), by decide +kernel⟩,
   ⟨(State.reset : State), by decide +kernel⟩⟩

/-- States and operands that meet the hypotheses of each clause of ServosAndSelection. -/
theorem test_wit_ServosAndSelection :
    (∃ (d : Bool) (n : Nat) (s : State),
      (s.tim.dom d).sampleAt + logCounts 16 (s.logSync d) ≤ max s.tim.cnt n ∧
      ((s.tim.dom d).state = .acquire ∨ (s.tim.dom d).state = .locked)) ∧
    (∃ (d : Bool) (n : Nat) (s : State),
      (max s.tim.cnt n < (s.tim.dom d).sampleAt + logCounts 16 (s.logSync d) ∨ (s.tim.dom d).state = .freerun ∨ (s.tim.dom d).state = .holdover)) ∧
    (∃ (d : Bool) (n : Nat) (m : PtpMaster) (a : Nat) (s : State),
      (s.tim.dom d).master = some (m, a) ∧ a + logCounts (s.announceN d) m.logInterval ≤ max s.tim.cnt n) ∧
    (∃ (d : Bool) (n : Nat) (m : PtpMaster) (a : Nat) (s : State),
      (s.tim.dom d).master = some (m, a) ∧ max s.tim.cnt n < a + logCounts (s.announceN d) m.logInterval) ∧
    (∃ (r : Requester) (d : Bool) (s : State),
      Permits s r (0x800000 + timBase d + 0x20) ∧ s.timEn d = true) ∧
    (∃ (r : Requester) (d : Bool) (s : State),
      Permits s r (0x800000 + timBase d + 0x20) ∧ s.timEn d = false) ∧
    (∃ (r : Requester) (d : Bool) (s : State),
      Permits s r (0x800000 + timBase d + 0x20)) ∧
    (∃ (n : Nat) (s : State),
      (s.tim.dom s.pref).state = .locked ∧ s.tim.sel ≠ s.pref ∧ (s.tim.dom s.pref).lockedAt + msCounts 60000 ≤ max s.tim.cnt n) ∧
    (∃ (n : Nat) (s : State),
      ((s.tim.dom s.pref).state ≠ .locked ∨ s.tim.sel = s.pref ∨ max s.tim.cnt n < (s.tim.dom s.pref).lockedAt + msCounts 60000)) :=
  ⟨⟨false, (24000000000 : Nat), (regOf 0x040120 0x800000F0 (domOf (fun x => { x with master := some (⟨1, 6, 33, 100, 1, 9, 0, 0, 0⟩, 0) }) live) : State),
      by decide +kernel⟩,
   ⟨false, (1200000000 : Nat), (regOf 0x040120 0x800000F0 (domOf (fun x => { x with master := some (⟨1, 6, 33, 100, 1, 9, 0, 0, 0⟩, 0) }) live) : State),
      by decide +kernel⟩,
   ⟨false, (1200000000 : Nat), ({ priority1 := 1, clockClass := 6, accuracy := 33, variance := 100, priority2 := 1, identity := 9, stepsRemoved := 0, port := 0, logInterval := 0 } : PtpMaster), (0 : Nat), (regOf 0x040120 0x800000F0 (domOf (fun x => { x with master := some (⟨1, 6, 33, 100, 1, 9, 0, 0, 0⟩, 0) }) live) : State),
      by decide +kernel⟩,
   ⟨false, (0 : Nat), ({ priority1 := 1, clockClass := 6, accuracy := 33, variance := 100, priority2 := 1, identity := 9, stepsRemoved := 0, port := 0, logInterval := 0 } : PtpMaster), (0 : Nat), (regOf 0x040120 0x800000F0 (domOf (fun x => { x with master := some (⟨1, 6, 33, 100, 1, 9, 0, 0, 0⟩, 0) }) live) : State),
      by decide +kernel⟩,
   ⟨(.slot 0 0 : Requester), false, (regOf 0x040120 0x800000F0 (domOf (fun x => { x with master := some (⟨1, 6, 33, 100, 1, 9, 0, 0, 0⟩, 0) }) live) : State),
      by unfold Permits; decide +kernel⟩,
   ⟨(.slot 0 0 : Requester), true, (regOf 0x040120 0x800000F0 (domOf (fun x => { x with master := some (⟨1, 6, 33, 100, 1, 9, 0, 0, 0⟩, 0) }) live) : State),
      by unfold Permits; decide +kernel⟩,
   ⟨(.slot 0 0 : Requester), false, (regOf 0x040120 0x800000F0 (domOf (fun x => { x with master := some (⟨1, 6, 33, 100, 1, 9, 0, 0, 0⟩, 0) }) live) : State),
      by unfold Permits; decide +kernel⟩,
   ⟨(24000000000 : Nat), (timOf (fun x => { x with sel := true }) live : State), by decide +kernel⟩,
   ⟨(1200000000 : Nat), (regOf 0x040120 0x800000F0 (domOf (fun x => { x with master := some (⟨1, 6, 33, 100, 1, 9, 0, 0, 0⟩, 0) }) live) : State),
      by decide +kernel⟩⟩

/-- States and operands that meet the hypotheses of each clause of LegalTimeTicks. -/
theorem test_wit_LegalTimeTicks :
    (∃ (s : State),
      Ticking s) ∧
    (∃ (s : State),
      Ticking s ∧ s.tim.domA.everLocked = false ∧ s.tim.domB.everLocked = false) ∧
    (∃ (n : Nat) (s : State),
      Ticking s ∧ (s.tim.domA.everLocked = true ∨ s.tim.domB.everLocked = true) ∧ s.slv.ltRun = false ∧ s.slv.jTime = none ∧
      (s.slv.lt : Int) ≤ s.tim.presented (max s.tim.cnt n)) ∧
    (∃ (n : Nat) (g : Int) (s : State),
      Tracks s n g ∧ s.slv.ltSt ≠ .hold ∧ g < -(2 * lsec)) ∧
    (∃ (n : Nat) (g : Int) (s : State),
      Tracks s n g ∧ s.slv.ltSt ≠ .hold ∧ -(2 * lsec) ≤ g ∧ g < 0) ∧
    (∃ (n : Nat) (g : Int) (s : State),
      Tracks s n g ∧ s.slv.ltSt ≠ .hold ∧ 0 ≤ g ∧ g ≤ 2 * lsec) ∧
    (∃ (n : Nat) (g : Int) (s : State),
      Tracks s n g ∧ s.slv.ltSt ≠ .hold ∧ 2 * lsec < g) ∧
    (∃ (n : Nat) (g : Int) (s : State),
      Tracks s n g ∧ s.slv.ltSt = .hold) ∧
    (∃ (s : State),
      s.running = false ∧ (s.sys.st ≠ .start ∨ s.sys.phase < 6)) :=
  ⟨⟨(domOf (fun x => { x with everLocked := false }) live : State), by unfold Ticking; decide +kernel⟩,
   ⟨(domOf (fun x => { x with everLocked := false }) live : State), by unfold Ticking; decide +kernel⟩,
   ⟨(0 : Nat), (slvOf (fun x => { x with ltRun := false, jTime := none, lt := 5 }) live : State), by unfold Ticking; decide +kernel⟩,
   ⟨(0 : Nat), ((slvOf (fun x => { x with lt := (live.tim.presented 1000000 + (5) * second * 2 ^ 16).toNat }) live : State).tim.presented (max (slvOf (fun x => { x with lt := (live.tim.presented 1000000 + (5) * second * 2 ^ 16).toNat }) live : State).tim.cnt (0 : Nat)) - ((slvOf (fun x => { x with lt := (live.tim.presented 1000000 + (5) * second * 2 ^ 16).toNat }) live : State).slv.lt : Int) - (slvOf (fun x => { x with lt := (live.tim.presented 1000000 + (5) * second * 2 ^ 16).toNat }) live : State).tim.tickAdvance : Int), (slvOf (fun x => { x with lt := (live.tim.presented 1000000 + (5) * second * 2 ^ 16).toNat }) live : State),
      by unfold Tracks Ticking; decide +kernel⟩,
   ⟨(0 : Nat), ((slvOf (fun x => { x with lt := (live.tim.presented 1000000 + (1) * second * 2 ^ 16).toNat }) live : State).tim.presented (max (slvOf (fun x => { x with lt := (live.tim.presented 1000000 + (1) * second * 2 ^ 16).toNat }) live : State).tim.cnt (0 : Nat)) - ((slvOf (fun x => { x with lt := (live.tim.presented 1000000 + (1) * second * 2 ^ 16).toNat }) live : State).slv.lt : Int) - (slvOf (fun x => { x with lt := (live.tim.presented 1000000 + (1) * second * 2 ^ 16).toNat }) live : State).tim.tickAdvance : Int), (slvOf (fun x => { x with lt := (live.tim.presented 1000000 + (1) * second * 2 ^ 16).toNat }) live : State),
      by unfold Tracks Ticking; decide +kernel⟩,
   ⟨(0 : Nat), (0 : Int), (slvOf (fun x => { x with lt := (live.tim.presented 1000000 - live.tim.tickAdvance).toNat }) live : State),
      by unfold Tracks Ticking; decide +kernel⟩,
   ⟨(40000000000 : Nat), ((slvOf (fun x => { x with lt := (live.tim.presented 1000000 + (5) * second * 2 ^ 16).toNat }) live : State).tim.presented (max (slvOf (fun x => { x with lt := (live.tim.presented 1000000 + (5) * second * 2 ^ 16).toNat }) live : State).tim.cnt (40000000000 : Nat)) - ((slvOf (fun x => { x with lt := (live.tim.presented 1000000 + (5) * second * 2 ^ 16).toNat }) live : State).slv.lt : Int) - (slvOf (fun x => { x with lt := (live.tim.presented 1000000 + (5) * second * 2 ^ 16).toNat }) live : State).tim.tickAdvance : Int), (slvOf (fun x => { x with lt := (live.tim.presented 1000000 + (5) * second * 2 ^ 16).toNat }) live : State),
      by unfold Tracks Ticking; decide +kernel⟩,
   ⟨(0 : Nat), ((slvOf (fun x => { x with lt := (live.tim.presented 1000000 + (1) * second * 2 ^ 16).toNat, ltSt := .hold }) live : State).tim.presented (max (slvOf (fun x => { x with lt := (live.tim.presented 1000000 + (1) * second * 2 ^ 16).toNat, ltSt := .hold }) live : State).tim.cnt (0 : Nat)) - ((slvOf (fun x => { x with lt := (live.tim.presented 1000000 + (1) * second * 2 ^ 16).toNat, ltSt := .hold }) live : State).slv.lt : Int) - (slvOf (fun x => { x with lt := (live.tim.presented 1000000 + (1) * second * 2 ^ 16).toNat, ltSt := .hold }) live : State).tim.tickAdvance : Int), (slvOf (fun x => { x with lt := (live.tim.presented 1000000 + (1) * second * 2 ^ 16).toNat, ltSt := .hold }) live : State),
      by unfold Tracks Ticking; decide +kernel⟩,
   ⟨(inSt .flush : State), by decide +kernel⟩⟩

/-- States and operands that meet the hypotheses of each clause of CrossingsAndLaunches. -/
theorem test_wit_CrossingsAndLaunches :
    (∃ (p : Nat) (s : State),
      s.isPlc p = true) ∧
    (∃ (p : Nat) (n : Nat) (s : State),
      s.isPlc p = true ∧ ((s.zcPort p).live = false ∨ (s.zcPort p).edge + zcGap ≤ n)) ∧
    (∃ (p : Nat) (n : Nat) (s : State),
      (s.zcPort p).live = true ∧ n < (s.zcPort p).edge + zcGap) ∧
    (∃ (p : Nat) (a : Nat) (s : State),
      (s.hostQueue p).length < 16 ∧ a ≤ s.tim.cnt + 10 * 400000000) ∧
    (∃ (p : Nat) (s : State),
      16 ≤ (s.hostQueue p).length) ∧
    (∃ (p : Nat) (a : Nat) (s : State),
      (s.hostQueue p).length < 16 ∧ s.tim.cnt + 10 * 400000000 < a) ∧
    (∃ (p : Nat) (a : Nat) (s : State),
      s.portOn p = true ∧ (s.port p).draining = false ∧ (s.port p).launch.length < 64 ∧ a ≤ s.tim.cnt + 10 * 400000000 ∧
      s.tim.cnt ≤ a + lateBy) ∧
    (∃ (p : Nat) (a : Nat) (s : State),
      s.portOn p = true ∧ (s.port p).draining = false ∧ (s.port p).launch = [] ∧ a + lateBy < s.tim.cnt) ∧
    (∃ (p : Nat) (s : State),
      (s.portOn p = false ∨ (s.port p).draining = true)) ∧
    (∃ (p : Nat) (s : State),
      s.portOn p = true ∧ (s.port p).draining = false ∧ 64 ≤ (s.port p).launch.length) ∧
    (∃ (p : Nat) (a : Nat) (s : State),
      s.portOn p = true ∧ (s.port p).draining = false ∧ (s.port p).launch.length < 64 ∧ s.tim.cnt + 10 * 400000000 < a) ∧
    (∃ (p : Nat) (n : Nat) (x : HostLaunch) (q : List HostLaunch) (s : State),
      s.hostQueue p = x :: q ∧ x.at_ ≤ n ∧ (n ≤ x.at_ + lateBy ∨ x.asap = true)) ∧
    (∃ (p : Nat) (n : Nat) (x : HostLaunch) (q : List HostLaunch) (s : State),
      s.hostQueue p = x :: q ∧ x.at_ + lateBy < n ∧ x.asap = false) ∧
    (∃ (p : Nat) (n : Nat) (i : TxItem) (q : List TxItem) (b : Bool) (a : Nat) (s : State),
      s.isRadio p = true ∧ s.sys.heddle = true ∧ s.portBlocked p = false ∧ (s.port p).launch = i :: q ∧ i.launch = some a ∧ a ≤ n ∧
      n ≤ a + lateBy ∧ (s.port p).onAir = none ∧ (s.port p).ackOwed = none ∧ (s.port p).rx = none ∧ (s.port p).ackWait = none ∧
      (s.listenBusy p b (a - s.octets p (s.preamble p + 2) - s.txNs p * 2 / 5) = false ∨ s.hopping p = true) ∧
      s.dutyOver p (airUs (s.radAir p (s.preamble p) i.frame.len)) 90 = false ∧
      (s.tune p (s.baseChan p n)).dwellOver p (airUs (s.radAir p (s.preamble p) i.frame.len)) n = false) ∧
    (∃ (p : Nat) (n : Nat) (i : TxItem) (q : List TxItem) (a : Nat) (s : State),
      s.isRadio p = true ∧ s.sys.heddle = true ∧ (s.port p).launch = i :: q ∧ i.launch = some a ∧ a + lateBy < n) ∧
    (∃ (p : Nat) (n : Nat) (i : TxItem) (q : List TxItem) (a : Nat) (s : State),
      s.isRadio p = true ∧ s.sys.heddle = false ∧ (s.port p).launch = i :: q ∧ i.launch = some a ∧ a ≤ n) ∧
    (∃ (p : Nat) (s : State),
      s.isPlc p = true ∧ s.isRadio p = false ∧ s.sys.heddle = false) :=
  ⟨⟨(0 : Nat), (timOf (fun x => { x with hostLaunch := [(0, [⟨100, false, 1⟩])] }) live : State), by decide +kernel⟩,
   ⟨(0 : Nat), (500 : Nat), (timOf (fun x => { x with hostLaunch := [(0, [⟨100, false, 1⟩])] }) live : State), by decide +kernel⟩,
   ⟨(0 : Nat), (500 : Nat), (crossing 0 live : State), by decide +kernel⟩,
   ⟨(0 : Nat), (0 : Nat), (timOf (fun x => { x with hostLaunch := [(0, [⟨100, false, 1⟩])] }) live : State), by decide +kernel⟩,
   ⟨(0 : Nat), (timOf (fun x => { x with hostLaunch := [(0, List.replicate 16 ⟨5, false, 1⟩)] }) live : State), by decide +kernel⟩,
   ⟨(0 : Nat), (40000000000 : Nat), (timOf (fun x => { x with hostLaunch := [(0, [⟨100, false, 1⟩])] }) live : State), by decide +kernel⟩,
   ⟨(0 : Nat), (1000001 : Nat), (timOf (fun x => { x with hostLaunch := [(0, [⟨100, false, 1⟩])] }) live : State), by decide +kernel⟩,
   ⟨(0 : Nat), (0 : Nat), (timOf (fun x => { x with hostLaunch := [(0, [⟨100, false, 1⟩])] }) live : State), by decide +kernel⟩,
   ⟨(2 : Nat), (timOf (fun x => { x with hostLaunch := [(0, [⟨100, false, 1⟩])] }) live : State), by decide +kernel⟩,
   ⟨(0 : Nat), (live.onPort 0 (fun x => { x with launch := List.replicate 64 item0 }) : State), by decide +kernel⟩,
   ⟨(0 : Nat), (40000000000 : Nat), (timOf (fun x => { x with hostLaunch := [(0, [⟨100, false, 1⟩])] }) live : State), by decide +kernel⟩,
   ⟨(0 : Nat), (500 : Nat), (List.head ((timOf (fun x => { x with hostLaunch := [(0, [⟨100, false, 1⟩])] }) live : State).hostQueue (0 : Nat)) (by decide +kernel) : HostLaunch), (List.tail ((timOf (fun x => { x with hostLaunch := [(0, [⟨100, false, 1⟩])] }) live : State).hostQueue (0 : Nat)) : List HostLaunch), (timOf (fun x => { x with hostLaunch := [(0, [⟨100, false, 1⟩])] }) live : State),
      by decide +kernel⟩,
   ⟨(0 : Nat), (2000400 : Nat), (List.head ((timOf (fun x => { x with hostLaunch := [(0, [⟨100, false, 1⟩])] }) live : State).hostQueue (0 : Nat)) (by decide +kernel) : HostLaunch), (List.tail ((timOf (fun x => { x with hostLaunch := [(0, [⟨100, false, 1⟩])] }) live : State).hostQueue (0 : Nat)) : List HostLaunch), (timOf (fun x => { x with hostLaunch := [(0, [⟨100, false, 1⟩])] }) live : State),
      by decide +kernel⟩,
   ⟨(8 : Nat), (2000400 : Nat), (List.head (((live.onPort 8 (fun x => { x with launch := [{ item0 with launch := some 2000000 }] }) : State).port (8 : Nat)).launch) (by decide +kernel) : TxItem), (List.tail (((live.onPort 8 (fun x => { x with launch := [{ item0 with launch := some 2000000 }] }) : State).port (8 : Nat)).launch) : List TxItem), false, (Option.get ((List.head (((live.onPort 8 (fun x => { x with launch := [{ item0 with launch := some 2000000 }] }) : State).port (8 : Nat)).launch) (by decide +kernel) : TxItem).launch) (by decide +kernel) : Nat), (live.onPort 8 (fun x => { x with launch := [{ item0 with launch := some 2000000 }] }) : State),
      by decide +kernel⟩,
   ⟨(8 : Nat), (30000000 : Nat), (List.head (((live.onPort 8 (fun x => { x with launch := [{ item0 with launch := some 2000000 }] }) : State).port (8 : Nat)).launch) (by decide +kernel) : TxItem), (List.tail (((live.onPort 8 (fun x => { x with launch := [{ item0 with launch := some 2000000 }] }) : State).port (8 : Nat)).launch) : List TxItem), (Option.get ((List.head (((live.onPort 8 (fun x => { x with launch := [{ item0 with launch := some 2000000 }] }) : State).port (8 : Nat)).launch) (by decide +kernel) : TxItem).launch) (by decide +kernel) : Nat), (live.onPort 8 (fun x => { x with launch := [{ item0 with launch := some 2000000 }] }) : State),
      by decide +kernel⟩,
   ⟨(8 : Nat), (2000400 : Nat), (List.head (((sysOf (fun x => { x with heddle := false }) (live.onPort 8 (fun x => { x with launch := [{ item0 with launch := some 900 }] })) : State).port (8 : Nat)).launch) (by decide +kernel) : TxItem), (List.tail (((sysOf (fun x => { x with heddle := false }) (live.onPort 8 (fun x => { x with launch := [{ item0 with launch := some 900 }] })) : State).port (8 : Nat)).launch) : List TxItem), (Option.get ((List.head (((sysOf (fun x => { x with heddle := false }) (live.onPort 8 (fun x => { x with launch := [{ item0 with launch := some 900 }] })) : State).port (8 : Nat)).launch) (by decide +kernel) : TxItem).launch) (by decide +kernel) : Nat), (sysOf (fun x => { x with heddle := false }) (live.onPort 8 (fun x => { x with launch := [{ item0 with launch := some 900 }] })) : State),
      by decide +kernel⟩,
   ⟨(0 : Nat), pairS, by decide +kernel⟩⟩

/-- States and operands that meet the hypotheses of each clause of PlcTraffic. -/
theorem test_wit_PlcTraffic :
    (∃ (p : Nat) (n : Nat) (i : TxItem) (q : List TxItem) (s : State),
      FreeSlot s p n ∧ (s.port p).queue = i :: q ∧ i.backoff = 0 ∧ (s.port p).launch = [] ∧ (s.port p).ackOwed = none) ∧
    (∃ (p : Nat) (n : Nat) (i : TxItem) (q : List TxItem) (s : State),
      FreeSlot s p n ∧ (s.port p).queue = i :: q ∧ 0 < i.backoff ∧ (s.port p).launch = [] ∧ (s.port p).ackOwed = none) ∧
    (∃ (p : Nat) (n : Nat) (i : TxItem) (q : List TxItem) (s : State),
      FreeSlot s p n ∧ (s.port p).queue = i :: q ∧ i.backoff = 0 ∧ (s.port p).launch = [] ∧ (s.port p).ackOwed = none) ∧
    (∃ (p : Nat) (n : Nat) (i : TxItem) (q : List TxItem) (a : Nat) (s : State),
      FreeSlot s p n ∧ (s.port p).launch = i :: q ∧ i.launch = some a ∧ a ≤ n + usCounts 200 ∧ (s.port p).ackOwed = none) ∧
    (∃ (p : Nat) (n : Nat) (a : AckDue) (s : State),
      FreeSlot s p n ∧ (s.port p).ackOwed = some a ∧ a.notBefore ≤ n) ∧
    (∃ (p : Nat) (s : State),
      s.isPlc p = true ∧ s.portOn p = true ∧ (s.port p).onAir = none ∧ s.portBlocked p = true ∧ s.sys.heddle = true) ∧
    (∃ (p : Nat) (n : Nat) (s : State),
      s.portOn p = true ∧ (s.port p).onAir = none ∧ s.portBlocked p = false ∧ s.slotAt p n = false) ∧
    (∃ (p : Nat) (s : State),
      s.isPlc p = true ∧ s.portHears p = true ∧ (s.port p).onAir = none ∧ (s.port p).rx = none) ∧
    (∃ (p : Nat) (n : Nat) (i : TxItem) (e : Nat) (s : State),
      (s.port p).onAir = some (i, e) ∧ n < e) ∧
    (∃ (p : Nat) (r : Rx) (s : State),
      s.isPlc p = true ∧ (s.port p).rx = some r ∧ r.stamp = none) ∧
    (∃ (p : Nat) (hcs : Nat) (ver : Nat) (len : Nat) (zc : Nat) (r : Rx) (st : Nat) (w : Nat) (s : State),
      s.isPlc p = true ∧ (s.port p).rx = some r ∧ r.stamp = some st ∧ w = hdrWord hcs ver len zc ∧ hcsHolds w = true ∧ hdrVer w = 0 ∧
      15 ≤ hdrLen w ∧ hdrLen w ≤ 1280) ∧
    (∃ (p : Nat) (hcs : Nat) (ver : Nat) (len : Nat) (zc : Nat) (r : Rx) (st : Nat) (w : Nat) (s : State),
      s.isPlc p = true ∧ (s.port p).rx = some r ∧ r.stamp = some st ∧ w = hdrWord hcs ver len zc ∧
      (hcsHolds w = false ∨ hdrVer w ≠ 0 ∨ hdrLen w < 15 ∨ 1280 < hdrLen w)) ∧
    (∃ (p : Nat) (r : Rx) (s : State),
      s.isPlc p = true ∧ (s.port p).rx = some r) ∧
    (∃ (p : Nat) (s : State),
      s.isPlc p = true ∧ (s.port p).rx = none ∧ (s.port p).badHdr = true) ∧
    (∃ (p : Nat) (r : Rx) (st : Nat) (l : Nat) (s : State),
      s.isPlc p = true ∧ s.portHears p = true ∧ (s.port p).rx = some r ∧ r.det ≠ none ∧ r.stamp = some st ∧ r.len = some l) ∧
    (∃ (p : Nat) (f : Frame) (r : Rx) (st : Nat) (l : Nat) (s : State),
      s.isPlc p = true ∧ s.portHears p = true ∧ (s.port p).rx = some r ∧ r.det ≠ none ∧ r.stamp = some st ∧ r.len = some l ∧
      (f.type = .data ∨ f.type = .command) ∧ f.ackReq = true ∧ f.dst = some (s.portAddr p) ∧ (s.port p).onAir = none) ∧
    (∃ (p : Nat) (f : Frame) (r : Rx) (d0 : Nat) (st : Nat) (l : Nat) (i : TxItem) (d : Nat) (s : State),
      s.isPlc p = true ∧ s.portHears p = true ∧ (s.port p).rx = some r ∧ r.det = some d0 ∧ r.stamp = some st ∧ r.len = some l ∧
      (s.port p).onAir = none ∧ (s.port p).ackWait = some (i, d) ∧ f.type = .ack ∧ f.dst = some (s.portAddr p) ∧ f.seq = i.frame.seq ∧
      d0 ≤ d) ∧
    (∃ (p : Nat) (n : Nat) (i : TxItem) (d : Nat) (s : State),
      s.isPlc p = true ∧ (s.port p).onAir = none ∧ (s.port p).ackWait = some (i, d) ∧ d ≤ n ∧ (s.port p).ackPossible d = false ∧
      (s.port p).rep = none ∧ (s.port p).draining = false ∧ i.spent = false ∧ s.connected p i.frame.dst = false ∧ s.uplinkOnly i = false) ∧
    (∃ (p : Nat) (n : Nat) (i : TxItem) (d : Nat) (s : State),
      s.isPlc p = true ∧ (s.port p).onAir = none ∧ (s.port p).ackWait = some (i, d) ∧ d ≤ n ∧ (s.port p).ackPossible d = false ∧
      (s.port p).rep = none ∧ (i.spent = true ∨ (s.port p).draining = true)) ∧
    (∃ (p : Nat) (n : Nat) (i : TxItem) (d : Nat) (s : State),
      s.isPlc p = true ∧ (s.port p).onAir = none ∧ (s.port p).ackWait = some (i, d) ∧ n < d) :=
  ⟨⟨(0 : Nat), (1000000 : Nat), (List.head (((crossing 0 (live.onPort 0 (fun x => { x with queue := [item0] })) : State).port (0 : Nat)).queue) (by decide +kernel) : TxItem), (List.tail (((crossing 0 (live.onPort 0 (fun x => { x with queue := [item0] })) : State).port (0 : Nat)).queue) : List TxItem), (crossing 0 (live.onPort 0 (fun x => { x with queue := [item0] })) : State),
      by unfold FreeSlot; decide +kernel⟩,
   ⟨(0 : Nat), (1000000 : Nat), (List.head (((crossing 0 (live.onPort 0 (fun x => { x with queue := [{ item0 with backoff := 2 }] })) : State).port (0 : Nat)).queue) (by decide +kernel) : TxItem), (List.tail (((crossing 0 (live.onPort 0 (fun x => { x with queue := [{ item0 with backoff := 2 }] })) : State).port (0 : Nat)).queue) : List TxItem), (crossing 0 (live.onPort 0 (fun x => { x with queue := [{ item0 with backoff := 2 }] })) : State),
      by unfold FreeSlot; decide +kernel⟩,
   ⟨(0 : Nat), (1000000 : Nat), (List.head (((crossing 0 (live.onPort 0 (fun x => { x with queue := [item0] })) : State).port (0 : Nat)).queue) (by decide +kernel) : TxItem), (List.tail (((crossing 0 (live.onPort 0 (fun x => { x with queue := [item0] })) : State).port (0 : Nat)).queue) : List TxItem), (crossing 0 (live.onPort 0 (fun x => { x with queue := [item0] })) : State),
      by unfold FreeSlot; decide +kernel⟩,
   ⟨(0 : Nat), (1000000 : Nat), (List.head (((crossing 0 (live.onPort 0 (fun x => { x with launch := [{ item0 with launch := some 900 }] })) : State).port (0 : Nat)).launch) (by decide +kernel) : TxItem), (List.tail (((crossing 0 (live.onPort 0 (fun x => { x with launch := [{ item0 with launch := some 900 }] })) : State).port (0 : Nat)).launch) : List TxItem), (Option.get ((List.head (((crossing 0 (live.onPort 0 (fun x => { x with launch := [{ item0 with launch := some 900 }] })) : State).port (0 : Nat)).launch) (by decide +kernel) : TxItem).launch) (by decide +kernel) : Nat), (crossing 0 (live.onPort 0 (fun x => { x with launch := [{ item0 with launch := some 900 }] })) : State),
      by unfold FreeSlot; decide +kernel⟩,
   ⟨(0 : Nat), (1000000 : Nat), (Option.get (((crossing 0 (live.onPort 0 (fun x => { x with ackOwed := some ⟨eue 0, 1, 100⟩ })) : State).port (0 : Nat)).ackOwed) (by decide +kernel) : AckDue), (crossing 0 (live.onPort 0 (fun x => { x with ackOwed := some ⟨eue 0, 1, 100⟩ })) : State),
      by unfold FreeSlot; decide +kernel⟩,
   ⟨(0 : Nat), (live.onPort 0 (fun x => { x with afeFail := true }) : State), by decide +kernel⟩,
   ⟨(0 : Nat), (1000001 : Nat), (live.onPort 0 (fun x => { x with queue := [item0] }) : State), by decide +kernel⟩,
   ⟨(0 : Nat), (live.onPort 0 (fun x => { x with queue := [item0] }) : State), by decide +kernel⟩,
   ⟨(0 : Nat), (1000000 : Nat), ({ frame := { type := FrameType.data, ackReq := true, pending := false, dst := some 12302426807092641792, seq := 1, src := 4822678183608320, len := 40, payload := Payload.empty }, origin := Origin.net, launch := none, asap := false, sent := 1, backoff := 0, sleepy := none, since := 0 } : TxItem), (90000000000 : Nat), (live.onPort 0 (fun x => { x with onAir := some (item0, 90000000000) }) : State),
      by decide +kernel⟩,
   ⟨(0 : Nat), (Option.get (((hearing 0 ⟨0, some 900, none, none, none, 0⟩ live : State).port (0 : Nat)).rx) (by decide +kernel) : Rx), (hearing 0 ⟨0, some 900, none, none, none, 0⟩ live : State),
      by decide +kernel⟩,
   ⟨(0 : Nat), (hcs (2 ^ 10 * 40) : Nat), (0 : Nat), (40 : Nat), (0 : Nat), (Option.get (((hearing 0 ⟨0, some 900, some 900, none, none, 0⟩ live : State).port (0 : Nat)).rx) (by decide +kernel) : Rx), (Option.get ((Option.get (((hearing 0 ⟨0, some 900, some 900, none, none, 0⟩ live : State).port (0 : Nat)).rx) (by decide +kernel) : Rx).stamp) (by decide +kernel) : Nat), (hdrWord (hcs (2 ^ 10 * 40) : Nat) (0 : Nat) (40 : Nat) (0 : Nat) : Nat), (hearing 0 ⟨0, some 900, some 900, none, none, 0⟩ live : State),
      by decide +kernel⟩,
   ⟨(0 : Nat), (hcs (2 ^ 10 * 40) : Nat), (0 : Nat), (40 : Nat), (1 : Nat), (Option.get (((hearing 0 ⟨0, some 900, some 900, none, none, 0⟩ live : State).port (0 : Nat)).rx) (by decide +kernel) : Rx), (Option.get ((Option.get (((hearing 0 ⟨0, some 900, some 900, none, none, 0⟩ live : State).port (0 : Nat)).rx) (by decide +kernel) : Rx).stamp) (by decide +kernel) : Nat), (hdrWord (hcs (2 ^ 10 * 40) : Nat) (0 : Nat) (40 : Nat) (1 : Nat) : Nat), (hearing 0 ⟨0, some 900, some 900, none, none, 0⟩ live : State),
      by decide +kernel⟩,
   ⟨(0 : Nat), (Option.get (((hearing 0 ⟨0, some 900, none, none, none, 0⟩ live : State).port (0 : Nat)).rx) (by decide +kernel) : Rx), (hearing 0 ⟨0, some 900, none, none, none, 0⟩ live : State),
      by decide +kernel⟩,
   ⟨(0 : Nat), (live.onPort 0 (fun x => { x with badHdr := true }) : State), by decide +kernel⟩,
   ⟨(0 : Nat), (Option.get (((hearing 0 ⟨0, some 900, some 900, some 40, none, 0⟩ live : State).port (0 : Nat)).rx) (by decide +kernel) : Rx), (Option.get ((Option.get (((hearing 0 ⟨0, some 900, some 900, some 40, none, 0⟩ live : State).port (0 : Nat)).rx) (by decide +kernel) : Rx).stamp) (by decide +kernel) : Nat), (Option.get ((Option.get (((hearing 0 ⟨0, some 900, some 900, some 40, none, 0⟩ live : State).port (0 : Nat)).rx) (by decide +kernel) : Rx).len) (by decide +kernel) : Nat), (hearing 0 ⟨0, some 900, some 900, some 40, none, 0⟩ live : State),
      by decide +kernel⟩,
   ⟨(0 : Nat), ({ frame0 with src := eue 0, dst := some eu } : Frame), (Option.get (((hearing 0 ⟨0, some 900, some 900, some 40, none, 0⟩ live : State).port (0 : Nat)).rx) (by decide +kernel) : Rx), (Option.get ((Option.get (((hearing 0 ⟨0, some 900, some 900, some 40, none, 0⟩ live : State).port (0 : Nat)).rx) (by decide +kernel) : Rx).stamp) (by decide +kernel) : Nat), (Option.get ((Option.get (((hearing 0 ⟨0, some 900, some 900, some 40, none, 0⟩ live : State).port (0 : Nat)).rx) (by decide +kernel) : Rx).len) (by decide +kernel) : Nat), (hearing 0 ⟨0, some 900, some 900, some 40, none, 0⟩ live : State),
      by decide +kernel⟩,
   ⟨(0 : Nat), ack0, (Option.get (((hearing 0 ⟨0, some 900, some 900, some 40, none, 0⟩ (live.onPort 0 (fun x => { x with ackWait := some (item0, 90000000000) })) : State).port (0 : Nat)).rx) (by decide +kernel) : Rx), (Option.get ((Option.get (((hearing 0 ⟨0, some 900, some 900, some 40, none, 0⟩ (live.onPort 0 (fun x => { x with ackWait := some (item0, 90000000000) })) : State).port (0 : Nat)).rx) (by decide +kernel) : Rx).det) (by decide +kernel) : Nat), (Option.get ((Option.get (((hearing 0 ⟨0, some 900, some 900, some 40, none, 0⟩ (live.onPort 0 (fun x => { x with ackWait := some (item0, 90000000000) })) : State).port (0 : Nat)).rx) (by decide +kernel) : Rx).stamp) (by decide +kernel) : Nat), (Option.get ((Option.get (((hearing 0 ⟨0, some 900, some 900, some 40, none, 0⟩ (live.onPort 0 (fun x => { x with ackWait := some (item0, 90000000000) })) : State).port (0 : Nat)).rx) (by decide +kernel) : Rx).len) (by decide +kernel) : Nat), ({ frame := { type := FrameType.data, ackReq := true, pending := false, dst := some 12302426807092641792, seq := 1, src := 4822678183608320, len := 40, payload := Payload.empty }, origin := Origin.net, launch := none, asap := false, sent := 1, backoff := 0, sleepy := none, since := 0 } : TxItem), (90000000000 : Nat), (hearing 0 ⟨0, some 900, some 900, some 40, none, 0⟩ (live.onPort 0 (fun x => { x with ackWait := some (item0, 90000000000) })) : State),
      by decide +kernel⟩,
   ⟨(0 : Nat), (1000001 : Nat), ({ frame := { type := FrameType.data, ackReq := true, pending := false, dst := some 12302426807092641792, seq := 1, src := 4822678183608320, len := 40, payload := Payload.empty }, origin := Origin.net, launch := none, asap := false, sent := 7, backoff := 0, sleepy := none, since := 0 } : TxItem), (900 : Nat), (live.onPort 0 (fun x => { x with ackWait := some ({ item0 with sent := 7 }, 900) }) : State),
      by decide +kernel⟩,
   ⟨(0 : Nat), (1000001 : Nat), ({ frame := { type := FrameType.data, ackReq := true, pending := false, dst := some 12302426807092641792, seq := 1, src := 4822678183608320, len := 40, payload := Payload.empty }, origin := Origin.net, launch := none, asap := false, sent := 8, backoff := 0, sleepy := none, since := 0 } : TxItem), (900 : Nat), (live.onPort 0 (fun x => { x with ackWait := some ({ item0 with sent := 8 }, 900) }) : State),
      by decide +kernel⟩,
   ⟨(0 : Nat), (0 : Nat), ({ frame := { type := FrameType.data, ackReq := true, pending := false, dst := some 12302426807092641792, seq := 1, src := 4822678183608320, len := 40, payload := Payload.empty }, origin := Origin.net, launch := none, asap := false, sent := 7, backoff := 0, sleepy := none, since := 0 } : TxItem), (900 : Nat), (live.onPort 0 (fun x => { x with ackWait := some ({ item0 with sent := 7 }, 900) }) : State),
      by decide +kernel⟩⟩

/-- States and operands that meet the hypotheses of each clause of PortConditions. -/
theorem test_wit_PortConditions :
    (∃ (p : Nat) (ws : List Nat) (s : State),
      s.isPlc p = true ∧ s.portOn p = true ∧ 3 ≤ satRun ws ∧ (s.port p).onAir = none) ∧
    (∃ (p : Nat) (ws : List Nat) (n : Nat) (i : TxItem) (e : Nat) (s : State),
      satRun ws < 3 ∧ (s.port p).onAir = none ∨ ((s.port p).onAir = some (i, e) ∧ n < e)) ∧
    (∃ (p : Nat) (n : Nat) (s : State),
      s.isPlc p = true ∧ s.portHears p = true ∧ (s.port p).rx = none ∧ (s.port p).gainAt + msCounts 10 ≤ n) ∧
    (∃ (p : Nat) (n : Nat) (s : State),
      ((s.port p).rx ≠ none ∨ n < (s.port p).gainAt + msCounts 10)) ∧
    (∃ (p : Nat) (s : State),
      s.isPlc p = true ∧ s.portOn p = true ∧ (s.port p).afeFail = false) ∧
    (∃ (p : Nat) (s : State),
      (s.port p).afeFail = true) ∧
    (∃ (p : Nat) (n : Nat) (b : Nat) (s : State),
      (s.port p).blockedSince = some b ∧ b + sec 2 ≤ n) ∧
    (∃ (p : Nat) (n : Nat) (b : Nat) (s : State),
      (s.port p).blockedSince = some b ∧ n < b + sec 2) ∧
    (∃ (r : Requester) (p : Nat) (s : State),
      Permits s r (0x800000 + portBase p) ∧ s.isPlc p = true ∧ (s.port p).en = false) ∧
    (∃ (r : Requester) (p : Nat) (s : State),
      Permits s r (0x800000 + portBase p) ∧ s.isRadio p = true ∧ (s.port p).en = false) ∧
    (∃ (r : Requester) (p : Nat) (s : State),
      Permits s r (0x800000 + portBase p) ∧ s.isRadio p = true ∧ (s.port p).en = false) ∧
    (∃ (r : Requester) (p : Nat) (s : State),
      Permits s r (0x800000 + portBase p) ∧ s.portMode p ≠ 0 ∧ (s.port p).en = true) ∧
    (∃ (r : Requester) (p : Nat) (s : State),
      Permits s r (0x800000 + portBase p) ∧ (s.port p).en = true ∧ (s.port p).draining = false) ∧
    (∃ (r : Requester) (p : Nat) (s : State),
      Permits s r (0x800000 + portBase p) ∧ ((s.port p).en = false ∨ (s.port p).draining = true)) ∧
    (∃ (p : Nat) (n : Nat) (s : State),
      (s.port p).draining = true ∧ (s.port p).quiet = true ∧ s.inEvent p n = false) ∧
    (∃ (p : Nat) (n : Nat) (s : State),
      (s.isPlc p = false ∨ (s.port p).onAir = none) ∧ ((s.port p).quiet = false ∨ s.inEvent p n = true)) :=
  ⟨⟨(0 : Nat), ([0x80, 0x80, 0x80, 0] : List Nat), (live.onPort 8 (fun x => { x with onAir := some (item0, 900) }) : State),
      by decide +kernel⟩,
   ⟨(0 : Nat), ([] : List Nat), (30000000 : Nat), (⟨⟨.data, true, false, some (eue 0), 1, eu, 40, .empty⟩, .net, none, false, 0, 0, none, 0⟩ : TxItem), (0 : Nat), (live.onPort 0 (fun x => { x with gain := 5 }) : State),
      by decide +kernel⟩,
   ⟨(0 : Nat), (30000000 : Nat), (live.onPort 0 (fun x => { x with gain := 5 }) : State), by decide +kernel⟩,
   ⟨(0 : Nat), (0 : Nat), (live.onPort 0 (fun x => { x with gain := 5 }) : State), by decide +kernel⟩,
   ⟨(0 : Nat), (live.onPort 0 (fun x => { x with gain := 5 }) : State), by decide +kernel⟩,
   ⟨(0 : Nat), (live.onPort 0 (fun x => { x with afeFail := true }) : State), by decide +kernel⟩,
   ⟨(0 : Nat), (800000000 : Nat), (Option.get (((live.onPort 0 (fun x => { x with blockedSince := some 0, queue := [item0] }) : State).port (0 : Nat)).blockedSince) (by decide +kernel) : Nat), (live.onPort 0 (fun x => { x with blockedSince := some 0, queue := [item0] }) : State),
      by decide +kernel⟩,
   ⟨(0 : Nat), (30000000 : Nat), (Option.get (((live.onPort 0 (fun x => { x with blockedSince := some 0, queue := [item0] }) : State).port (0 : Nat)).blockedSince) (by decide +kernel) : Nat), (live.onPort 0 (fun x => { x with blockedSince := some 0, queue := [item0] }) : State),
      by decide +kernel⟩,
   ⟨(.slot 0 0 : Requester), (0 : Nat), (live.onPort 0 (fun x => { x with en := false }) : State), by unfold Permits; decide +kernel⟩,
   ⟨(.slot 0 0 : Requester), (8 : Nat), (live.onPort 8 (fun x => { x with en := false }) : State), by unfold Permits; decide +kernel⟩,
   ⟨(.slot 0 0 : Requester), (8 : Nat), (live.onPort 8 (fun x => { x with en := false }) : State), by unfold Permits; decide +kernel⟩,
   ⟨(.slot 0 0 : Requester), (0 : Nat), (live.onPort 0 (fun x => { x with gain := 5 }) : State), by unfold Permits; decide +kernel⟩,
   ⟨(.slot 0 0 : Requester), (0 : Nat), (live.onPort 0 (fun x => { x with gain := 5 }) : State), by unfold Permits; decide +kernel⟩,
   ⟨(.slot 0 0 : Requester), (2 : Nat), (live.onPort 0 (fun x => { x with gain := 5 }) : State), by unfold Permits; decide +kernel⟩,
   ⟨(0 : Nat), (30000000 : Nat), (live.onPort 0 (fun x => { x with draining := true }) : State), by decide +kernel⟩,
   ⟨(8 : Nat), (30000000 : Nat), (live.onPort 8 (fun x => { x with onAir := some (item0, 900) }) : State), by decide +kernel⟩⟩

/-- States and operands that meet the hypotheses of each clause of RadioTraffic. -/
theorem test_wit_RadioTraffic :
    (∃ (p : Nat) (s : State),
      s.isRadio p = true ∧ s.portHears p = true ∧ (s.port p).onAir = none) ∧
    (∃ (p : Nat) (s : State),
      (s.port p).onAir ≠ none) ∧
    (∃ (p : Nat) (f : Frame) (ok : Bool) (r : Rx) (d0 : Nat) (st : Nat) (s : State),
      s.isRadio p = true ∧ s.portHears p = true ∧ (s.port p).rx = some r ∧ r.det = some d0 ∧ r.stamp = some st ∧
      (f.len < 15 ∨ 1280 < f.len ∨ ok = false ∨ (f.dst ≠ none ∧ f.dst ≠ some (s.portAddr p)))) ∧
    (∃ (p : Nat) (f : Frame) (r : Rx) (d0 : Nat) (st : Nat) (s : State),
      s.isRadio p = true ∧ s.portHears p = true ∧ (s.port p).rx = some r ∧ r.det = some d0 ∧ r.stamp = some st ∧ 15 ≤ f.len ∧
      f.len ≤ 1280 ∧ (f.type = .data ∨ f.type = .command) ∧ f.ackReq = true ∧ f.dst = some (s.portAddr p)) ∧
    (∃ (p : Nat) (f : Frame) (r : Rx) (d0 : Nat) (st : Nat) (i : TxItem) (d : Nat) (s : State),
      s.isRadio p = true ∧ s.portHears p = true ∧ (s.port p).rx = some r ∧ r.det = some d0 ∧ r.stamp = some st ∧ 15 ≤ f.len ∧
      f.len ≤ 1280 ∧ (s.port p).ackWait = some (i, d) ∧ f.type = .ack ∧ f.dst = some (s.portAddr p) ∧ f.seq = i.frame.seq ∧ d0 ≤ d) ∧
    (∃ (p : Nat) (s : State),
      s.isRadio p = true ∧ s.portHears p = true) ∧
    (∃ (p : Nat) (i : TxItem) (e : Nat) (s : State),
      s.isRadio p = true ∧ (s.port p).onAir = some (i, e) ∧ i.frame.type ≠ .ack ∧ i.frame.wantsAck = true) ∧
    (∃ (p : Nat) (i : TxItem) (e : Nat) (s : State),
      s.isRadio p = true ∧ (s.port p).onAir = some (i, e) ∧ i.frame.type ≠ .ack ∧ i.frame.wantsAck = false) ∧
    (∃ (p : Nat) (i : TxItem) (e : Nat) (d : Nat) (f : Nat) (s : State),
      s.isRadio p = true ∧ (s.port p).onAir = some (i, e) ∧ i.frame.type = .ack ∧ (s.port p).pendTo = some (d, f)) ∧
    (∃ (p : Nat) (n : Nat) (a : AckDue) (s : State),
      s.isRadio p = true ∧ (s.port p).ackOwed = some a ∧ a.notBefore ≤ n ∧ (s.port p).onAir = none ∧ s.portOn p = true ∧
      s.portBlocked p = false ∧ (∀ c ∈ s.connNow p a.dst n, n + s.radAir p (s.preamble p) 15 ≤ c.anchor + s.connWin p) ∧
      s.dutyOver p (airUs (s.radAir p (s.preamble p) 15)) 100 = false ∧ s.dwellOver p (airUs (s.radAir p (s.preamble p) 15)) n = false) ∧
    (∃ (p : Nat) (n : Nat) (a : AckDue) (s : State),
      s.isRadio p = true ∧ (s.port p).ackOwed = some a ∧ a.notBefore ≤ n ∧ (s.port p).onAir = none ∧ s.portBlocked p = true) ∧
    (∃ (p : Nat) (n : Nat) (a : AckDue) (s : State),
      (s.port p).ackOwed = some a ∧ (n < a.notBefore ∨ (s.port p).onAir ≠ none)) ∧
    (∃ (p : Nat) (n : Nat) (i : TxItem) (d : Nat) (s : State),
      s.isRadio p = true ∧ (s.port p).ackWait = some (i, d) ∧ d ≤ n ∧ (s.port p).ackPossible d = false ∧ (s.port p).rep = none ∧
      (s.port p).draining = false ∧ i.spent = false ∧ s.connected p i.frame.dst = false ∧ s.uplinkOnly i = false) ∧
    (∃ (p : Nat) (n : Nat) (i : TxItem) (d : Nat) (s : State),
      s.isRadio p = true ∧ (s.port p).ackWait = some (i, d) ∧ d ≤ n ∧ (s.port p).ackPossible d = false ∧ (s.port p).rep = none ∧
      (s.port p).draining = false ∧ i.spent = false ∧ (s.connected p i.frame.dst = true ∨ s.uplinkOnly i = true)) ∧
    (∃ (p : Nat) (n : Nat) (i : TxItem) (d : Nat) (s : State),
      s.isRadio p = true ∧ (s.port p).ackWait = some (i, d) ∧ d ≤ n ∧ (s.port p).ackPossible d = false ∧ (s.port p).rep = none ∧
      (i.spent = true ∨ (s.port p).draining = true)) ∧
    (∃ (p : Nat) (n : Nat) (i : TxItem) (d : Nat) (s : State),
      s.isRadio p = true ∧ (s.port p).ackWait = some (i, d) ∧ n < d) ∧
    (∃ (p : Nat) (n : Nat) (i : TxItem) (s : State),
      s.isRadio p = true ∧ (s.port p).backoff = some i ∧ i.since + msCounts (5 * i.backoff) ≤ n) ∧
    (∃ (p : Nat) (n : Nat) (i : TxItem) (s : State),
      (s.port p).backoff = some i ∧ n < i.since + msCounts (5 * i.backoff)) ∧
    (∃ (p : Nat) (b : Bool) (n : Nat) (i : TxItem) (s : State),
      s.isRadio p = true ∧ s.portOn p = true ∧ s.portBlocked p = false ∧ s.hopping p = false ∧ (s.port p).listenWait ≤ n ∧
      (s.port p).next = some i ∧ s.listenBusy p b n = true) ∧
    (∃ (p : Nat) (b : Bool) (n : Nat) (i : TxItem) (s : State),
      s.isRadio p = true ∧ s.portOn p = true ∧ s.portBlocked p = false ∧ s.hopping p = false ∧ (s.port p).listenWait ≤ n ∧
      (s.port p).next = some i ∧ s.listenBusy p b n = false ∧ (s.port p).free = true ∧ (s.port p).draining = false ∧
      (s.port p).backoff = none ∧ s.connClash p n (n + s.radAir p (s.preamble p) i.frame.len) = false) ∧
    (∃ (p : Nat) (n : Nat) (k : Nat) (a : Nat) (s : State),
      s.isRadio p = true ∧ s.hopping p = false ∧ k = (n - (s.port p).binAt) / sec 1 ∧ 0 < k ∧ a = (s.port p).binAt + k * sec 1) ∧
    (∃ (p : Nat) (n : Nat) (s : State),
      s.isRadio p = true ∧ n < (s.port p).binAt + sec 1) ∧
    (∃ (p : Nat) (n : Nat) (h : TxItem) (a : Nat) (i : TxItem) (s : State),
      (s.port p).dutyHeld = some (h, a) ∧ a + sec 10 ≤ n ∧ ((s.port p).queue.find? (fun i => decide (i.frame.dst = h.frame.dst ∧
      i.frame.seq = h.frame.seq)) = some i)) ∧
    (∃ (p : Nat) (n : Nat) (h : TxItem) (a : Nat) (s : State),
      (s.port p).dutyHeld = some (h, a) ∧ n < a + sec 10) ∧
    (∃ (p : Nat) (s : State),
      s.isRadio p = true ∧ s.portOn p = true ∧ (s.port p).xcvrFail = false) ∧
    (∃ (p : Nat) (n : Nat) (s : State),
      s.portOn p = true ∧ (s.port p).xcvrFail = true ∧ (s.port p).reinitAt + sec 1 ≤ n) ∧
    (∃ (p : Nat) (n : Nat) (s : State),
      ((s.port p).xcvrFail = false ∨ n < (s.port p).reinitAt + sec 1)) ∧
    (∃ (p : Nat) (n : Nat) (a : Nat) (s : State),
      (s.port p).initSince = some a ∧ a + msCounts 10 ≤ n) ∧
    (∃ (p : Nat) (n : Nat) (a : Nat) (s : State),
      (s.port p).initSince = some a ∧ n < a + msCounts 10) :=
  ⟨⟨(9 : Nat), (live.onPort 8 (fun x => { x with onAir := some (item0, 900) }) : State), by decide +kernel⟩,
   ⟨(8 : Nat), (live.onPort 8 (fun x => { x with onAir := some (item0, 900) }) : State), by decide +kernel⟩,
   ⟨(8 : Nat), ({ frame0 with src := eue 0, dst := some (eu + 8) } : Frame), false, (Option.get (((hearing 8 ⟨0, some 900, some 900, none, none, 0⟩ live : State).port (8 : Nat)).rx) (by decide +kernel) : Rx), (Option.get ((Option.get (((hearing 8 ⟨0, some 900, some 900, none, none, 0⟩ live : State).port (8 : Nat)).rx) (by decide +kernel) : Rx).det) (by decide +kernel) : Nat), (Option.get ((Option.get (((hearing 8 ⟨0, some 900, some 900, none, none, 0⟩ live : State).port (8 : Nat)).rx) (by decide +kernel) : Rx).stamp) (by decide +kernel) : Nat), (hearing 8 ⟨0, some 900, some 900, none, none, 0⟩ live : State),
      by decide +kernel⟩,
   ⟨(8 : Nat), ({ frame0 with src := eue 0, dst := some (eu + 8) } : Frame), (Option.get (((hearing 8 ⟨0, some 900, some 900, none, none, 0⟩ live : State).port (8 : Nat)).rx) (by decide +kernel) : Rx), (Option.get ((Option.get (((hearing 8 ⟨0, some 900, some 900, none, none, 0⟩ live : State).port (8 : Nat)).rx) (by decide +kernel) : Rx).det) (by decide +kernel) : Nat), (Option.get ((Option.get (((hearing 8 ⟨0, some 900, some 900, none, none, 0⟩ live : State).port (8 : Nat)).rx) (by decide +kernel) : Rx).stamp) (by decide +kernel) : Nat), (hearing 8 ⟨0, some 900, some 900, none, none, 0⟩ live : State),
      by decide +kernel⟩,
   ⟨(8 : Nat), ({ ack0 with dst := some (eu + 8) } : Frame), (Option.get (((hearing 8 ⟨0, some 900, some 900, none, none, 0⟩ (live.onPort 8 (fun x => { x with ackWait := some (item0, 90000000000) })) : State).port (8 : Nat)).rx) (by decide +kernel) : Rx), (Option.get ((Option.get (((hearing 8 ⟨0, some 900, some 900, none, none, 0⟩ (live.onPort 8 (fun x => { x with ackWait := some (item0, 90000000000) })) : State).port (8 : Nat)).rx) (by decide +kernel) : Rx).det) (by decide +kernel) : Nat), (Option.get ((Option.get (((hearing 8 ⟨0, some 900, some 900, none, none, 0⟩ (live.onPort 8 (fun x => { x with ackWait := some (item0, 90000000000) })) : State).port (8 : Nat)).rx) (by decide +kernel) : Rx).stamp) (by decide +kernel) : Nat), ({ frame := { type := FrameType.data, ackReq := true, pending := false, dst := some 12302426807092641792, seq := 1, src := 4822678183608320, len := 40, payload := Payload.empty }, origin := Origin.net, launch := none, asap := false, sent := 1, backoff := 0, sleepy := none, since := 0 } : TxItem), (90000000000 : Nat), (hearing 8 ⟨0, some 900, some 900, none, none, 0⟩ (live.onPort 8 (fun x => { x with ackWait := some (item0, 90000000000) })) : State),
      by decide +kernel⟩,
   ⟨(8 : Nat), (live.onPort 8 (fun x => { x with onAir := some (item0, 900) }) : State), by decide +kernel⟩,
   ⟨(8 : Nat), ({ frame := { type := FrameType.data, ackReq := true, pending := false, dst := some 12302426807092641792, seq := 1, src := 4822678183608320, len := 40, payload := Payload.empty }, origin := Origin.net, launch := none, asap := false, sent := 1, backoff := 0, sleepy := none, since := 0 } : TxItem), (900 : Nat), (live.onPort 8 (fun x => { x with onAir := some (item0, 900) }) : State),
      by decide +kernel⟩,
   ⟨(8 : Nat), ({ frame := { type := FrameType.data, ackReq := false, pending := false, dst := some 12302426807092641792, seq := 1, src := 4822678183608320, len := 40, payload := Payload.empty }, origin := Origin.net, launch := none, asap := false, sent := 1, backoff := 0, sleepy := none, since := 0 } : TxItem), (900 : Nat), (live.onPort 8 (fun x => { x with onAir := some ({ item0 with frame := { frame0 with ackReq := false } }, 900) }) : State),
      by decide +kernel⟩,
   ⟨(8 : Nat), ({ frame := { type := FrameType.ack, ackReq := false, pending := false, dst := some 4822678183608320, seq := 1, src := 12302426807092641792, len := 15, payload := Payload.empty }, origin := Origin.net, launch := none, asap := false, sent := 1, backoff := 0, sleepy := none, since := 0 } : TxItem), (900 : Nat), (12302426807092641792 : Nat), (900 : Nat), (live.onPort 8 (fun x => { x with onAir := some ({ item0 with frame := ack0 }, 900), pendTo := some (eue 0, 900) }) : State),
      by decide +kernel⟩,
   ⟨(8 : Nat), (30000000 : Nat), (Option.get (((live.onPort 8 (fun x => { x with ackOwed := some ⟨eue 0, 1, 100⟩ }) : State).port (8 : Nat)).ackOwed) (by decide +kernel) : AckDue), (live.onPort 8 (fun x => { x with ackOwed := some ⟨eue 0, 1, 100⟩ }) : State),
      by decide +kernel⟩,
   ⟨(8 : Nat), (30000000 : Nat), (Option.get (((sysOf (fun x => { x with heddle := false }) (live.onPort 8 (fun x => { x with ackOwed := some ⟨eue 0, 1, 100⟩ })) : State).port (8 : Nat)).ackOwed) (by decide +kernel) : AckDue), (sysOf (fun x => { x with heddle := false }) (live.onPort 8 (fun x => { x with ackOwed := some ⟨eue 0, 1, 100⟩ })) : State),
      by decide +kernel⟩,
   ⟨(8 : Nat), (0 : Nat), (Option.get (((live.onPort 8 (fun x => { x with ackOwed := some ⟨eue 0, 1, 100⟩ }) : State).port (8 : Nat)).ackOwed) (by decide +kernel) : AckDue), (live.onPort 8 (fun x => { x with ackOwed := some ⟨eue 0, 1, 100⟩ }) : State),
      by decide +kernel⟩,
   ⟨(8 : Nat), (30000000 : Nat), ({ frame := { type := FrameType.data, ackReq := true, pending := false, dst := some 12302426807092641792, seq := 1, src := 4822678183608320, len := 40, payload := Payload.empty }, origin := Origin.net, launch := none, asap := false, sent := 7, backoff := 0, sleepy := none, since := 0 } : TxItem), (900 : Nat), (live.onPort 8 (fun x => { x with ackWait := some ({ item0 with sent := 7 }, 900) }) : State),
      by decide +kernel⟩,
   ⟨(8 : Nat), (30000000 : Nat), ({ frame := { type := FrameType.data, ackReq := true, pending := false, dst := some 12302426807092641793, seq := 1, src := 4822678183608320, len := 40, payload := Payload.empty }, origin := Origin.net, launch := none, asap := false, sent := 1, backoff := 0, sleepy := none, since := 0 } : TxItem), (900 : Nat), ((live.onPort 8 (fun x => { x with ackWait := some ({ item0 with frame := { frame0 with dst := some (eue 1) } }, 900), conns := [⟨1, 1, 1000, 0, 1, 0, 60, 0, 0, 255, [], false, false⟩] })) : State),
      by decide +kernel⟩,
   ⟨(8 : Nat), (30000000 : Nat), ({ frame := { type := FrameType.data, ackReq := true, pending := false, dst := some 12302426807092641792, seq := 1, src := 4822678183608320, len := 40, payload := Payload.empty }, origin := Origin.net, launch := none, asap := false, sent := 8, backoff := 0, sleepy := none, since := 0 } : TxItem), (900 : Nat), (live.onPort 8 (fun x => { x with ackWait := some ({ item0 with sent := 8 }, 900) }) : State),
      by decide +kernel⟩,
   ⟨(8 : Nat), (0 : Nat), ({ frame := { type := FrameType.data, ackReq := true, pending := false, dst := some 12302426807092641792, seq := 1, src := 4822678183608320, len := 40, payload := Payload.empty }, origin := Origin.net, launch := none, asap := false, sent := 7, backoff := 0, sleepy := none, since := 0 } : TxItem), (900 : Nat), (live.onPort 8 (fun x => { x with ackWait := some ({ item0 with sent := 7 }, 900) }) : State),
      by decide +kernel⟩,
   ⟨(8 : Nat), (30000000 : Nat), (Option.get (((live.onPort 8 (fun x => { x with backoff := some { item0 with backoff := 2 } }) : State).port (8 : Nat)).backoff) (by decide +kernel) : TxItem), (live.onPort 8 (fun x => { x with backoff := some { item0 with backoff := 2 } }) : State),
      by decide +kernel⟩,
   ⟨(8 : Nat), (0 : Nat), (Option.get (((live.onPort 8 (fun x => { x with backoff := some { item0 with backoff := 2 } }) : State).port (8 : Nat)).backoff) (by decide +kernel) : TxItem), (live.onPort 8 (fun x => { x with backoff := some { item0 with backoff := 2 } }) : State),
      by decide +kernel⟩,
   ⟨(8 : Nat), true, (30000000 : Nat), (Option.get (((live.onPort 8 (fun x => { x with queue := [item0], busyListens := 6 }) : State).port (8 : Nat)).next) (by decide +kernel) : TxItem), (live.onPort 8 (fun x => { x with queue := [item0], busyListens := 6 }) : State),
      by decide +kernel⟩,
   ⟨(8 : Nat), false, (30000000 : Nat), (Option.get (((live.onPort 8 (fun x => { x with queue := [item0], busyListens := 6 }) : State).port (8 : Nat)).next) (by decide +kernel) : TxItem), (live.onPort 8 (fun x => { x with queue := [item0], busyListens := 6 }) : State),
      by decide +kernel⟩,
   ⟨(8 : Nat), (4000000000 : Nat), (((4000000000 : Nat) - ((live.onPort 8 (fun x => { x with onAir := some (item0, 900) }) : State).port (8 : Nat)).binAt) / sec 1 : Nat), (((live.onPort 8 (fun x => { x with onAir := some (item0, 900) }) : State).port (8 : Nat)).binAt + (((4000000000 : Nat) - ((live.onPort 8 (fun x => { x with onAir := some (item0, 900) }) : State).port (8 : Nat)).binAt) / sec 1 : Nat) * sec 1 : Nat), (live.onPort 8 (fun x => { x with onAir := some (item0, 900) }) : State),
      by decide +kernel⟩,
   ⟨(8 : Nat), (30000000 : Nat), (live.onPort 8 (fun x => { x with onAir := some (item0, 900) }) : State), by decide +kernel⟩,
   ⟨(8 : Nat), (4000000000 : Nat), ({ frame := { type := FrameType.data, ackReq := true, pending := false, dst := some 12302426807092641792, seq := 1, src := 4822678183608320, len := 40, payload := Payload.empty }, origin := Origin.net, launch := none, asap := false, sent := 1, backoff := 0, sleepy := none, since := 0 } : TxItem), (0 : Nat), (((((live.onPort 8 (fun x => { x with dutyHeld := some (item0, 0), queue := [item0] })) : State).port (8 : Nat)).queue.head?.getD item0) : TxItem), ((live.onPort 8 (fun x => { x with dutyHeld := some (item0, 0), queue := [item0] })) : State),
      by decide +kernel⟩,
   ⟨(8 : Nat), (30000000 : Nat), ({ frame := { type := FrameType.data, ackReq := true, pending := false, dst := some 12302426807092641792, seq := 1, src := 4822678183608320, len := 40, payload := Payload.empty }, origin := Origin.net, launch := none, asap := false, sent := 1, backoff := 0, sleepy := none, since := 0 } : TxItem), (0 : Nat), ((live.onPort 8 (fun x => { x with dutyHeld := some (item0, 0), queue := [item0] })) : State),
      by decide +kernel⟩,
   ⟨(8 : Nat), (live.onPort 8 (fun x => { x with onAir := some (item0, 900) }) : State), by decide +kernel⟩,
   ⟨(8 : Nat), (4000000000 : Nat), (live.onPort 8 (fun x => { x with xcvrFail := true }) : State), by decide +kernel⟩,
   ⟨(8 : Nat), (30000000 : Nat), (live.onPort 8 (fun x => { x with onAir := some (item0, 900) }) : State), by decide +kernel⟩,
   ⟨(8 : Nat), (30000000 : Nat), (Option.get (((live.onPort 8 (fun x => { x with en := false, initSince := some 0 }) : State).port (8 : Nat)).initSince) (by decide +kernel) : Nat), (live.onPort 8 (fun x => { x with en := false, initSince := some 0 }) : State),
      by decide +kernel⟩,
   ⟨(8 : Nat), (0 : Nat), (Option.get (((live.onPort 8 (fun x => { x with en := false, initSince := some 0 }) : State).port (8 : Nat)).initSince) (by decide +kernel) : Nat), (live.onPort 8 (fun x => { x with en := false, initSince := some 0 }) : State),
      by decide +kernel⟩⟩

/-- States and operands that meet the hypotheses of each clause of RadioSchedules. -/
theorem test_wit_RadioSchedules :
    (∃ (p : Nat) (n : Nat) (m : Nat) (sw : Nat) (s : State),
      s.isRadio p = true ∧ s.portOn p = true ∧ s.hopping p = true ∧ (s.port p).newMap = some (m, sw) ∧ sw ≤ s.hopSlot p n) ∧
    (∃ (p : Nat) (s : State),
      s.isRadio p = true ∧ s.portOn p = true ∧ s.portBlocked p = false ∧ s.hopping p = true ∧ (s.port p).newMap = none) ∧
    (∃ (r : Requester) (p : Nat) (lo : Word) (hi : Word) (m : Nat) (top : Nat) (s : State),
      MapWrite s r p lo hi m top ∧ s.hopping p = false) ∧
    (∃ (r : Requester) (p : Nat) (lo : Word) (hi : Word) (m : Nat) (top : Nat) (s : State),
      MapWrite s r p lo hi m top ∧ s.hopping p = true ∧ (s.port p).newMap = none ∧
      field (s.rg (portBase p + 0x20C)) 7 0 ≤ (chansOf (s.chBase p) m).length ∧
      Nat.gcd (chansOf (s.chBase p) m).length (field (s.rg (portBase p + 0x20C)) 31 24) = 1) ∧
    (∃ (r : Requester) (p : Nat) (lo : Word) (hi : Word) (m : Nat) (top : Nat) (s : State),
      MapWrite s r p lo hi m top ∧ s.hopping p = true ∧
      ((chansOf (s.chBase p) m).length < field (s.rg (portBase p + 0x20C)) 7 0 ∨ Nat.gcd (chansOf (s.chBase p) m).length (field (s.rg (portBase p + 0x20C)) 31 24) ≠ 1)) ∧
    (∃ (r : Requester) (p : Nat) (lo : Word) (hi : Word) (m : Nat) (top : Nat) (s : State),
      MapWrite s r p lo hi m top ∧ s.hopping p = true ∧ (s.port p).newMap ≠ none ∧
      field (s.rg (portBase p + 0x20C)) 7 0 ≤ (chansOf (s.chBase p) m).length ∧
      Nat.gcd (chansOf (s.chBase p) m).length (field (s.rg (portBase p + 0x20C)) 31 24) = 1) ∧
    (∃ (p : Nat) (n : Nat) (m : Nat) (sw : Nat) (a : Nat) (s : State),
      s.portOn p = true ∧ (s.port p).newMap = some (m, sw) ∧ (s.port p).mapAt = some a ∧ a + sec s.beaconS ≤ n ∧ s.hopSlot p n < sw) ∧
    (∃ (p : Nat) (n : Nat) (m : Nat) (sw : Nat) (a : Nat) (s : State),
      (s.port p).newMap = some (m, sw) ∧ (s.port p).mapAt = some a ∧ (n < a + sec s.beaconS ∨ sw ≤ s.hopSlot p n)) ∧
    (∃ (p : Nat) (ep : Nat) (b : Bool) (n : Nat) (i : TxItem) (c : EpCfg) (S : Nat) (U : Nat) (s : State),
      Covers s p ep n i c S U ∧ (s.hopping p = true ∨ s.listenBusy p b n = false) ∧
      (¬ 2 * U * s.radDiv p ≤ (1000 - s.preamble p) * 64000) ∧ 127 < i.frame.len) ∧
    (∃ (p : Nat) (ep : Nat) (b : Bool) (n : Nat) (i : TxItem) (c : EpCfg) (k : Nat) (S : Nat) (U : Nat) (s : State),
      Covers s p ep n i c S U ∧ (s.hopping p = true ∨ s.listenBusy p b n = false) ∧ 2 * U * s.radDiv p ≤ (1000 - s.preamble p) * 64000 ∧
      k = (2 * U * s.radDiv p + 63999) / 64000 + s.preamble p ∧ s.connClash p n (n + s.radAir p k i.frame.len) = false ∧
      s.dutyOver p (airUs (s.radAir p k i.frame.len)) 90 = false ∧
      (s.tune p (s.baseChan p S)).dwellOver p (airUs (s.radAir p k i.frame.len)) n = false) ∧
    (∃ (p : Nat) (ep : Nat) (b : Bool) (n : Nat) (i : TxItem) (c : EpCfg) (S : Nat) (U : Nat) (s : State),
      Covers s p ep n i c S U ∧ (s.hopping p = true ∨ s.listenBusy p b n = false) ∧
      (¬ 2 * U * s.radDiv p ≤ (1000 - s.preamble p) * 64000) ∧ i.frame.len ≤ 127 ∧
      s.connClash p n (n + s.radAir p (s.preamble p) i.frame.len) = false ∧
      s.dutyOver p (airUs (s.radAir p (s.preamble p) i.frame.len)) 90 = false ∧
      (s.tune p (s.baseChan p S)).dwellOver p (airUs (s.radAir p (s.preamble p) i.frame.len)) n = false) ∧
    (∃ (p : Nat) (ep : Nat) (b : Bool) (n : Nat) (i : TxItem) (c : EpCfg) (S : Nat) (U : Nat) (s : State),
      Covers s p ep n i c S U ∧ s.hopping p = false ∧ s.listenBusy p b n = true ∧ (s.port p).busyListens < 7) ∧
    (∃ (p : Nat) (n : Nat) (r : RepeatSeq) (x : TxItem) (d : Nat) (s : State),
      (s.port p).rep = some r ∧ (s.port p).ackWait = some (x, d) ∧ d ≤ n ∧ (s.port p).ackPossible d = false ∧ (s.port p).draining = false) ∧
    (∃ (p : Nat) (n : Nat) (r : RepeatSeq) (x : TxItem) (d : Nat) (s : State),
      (s.port p).rep = some r ∧ (s.port p).ackWait = some (x, d) ∧ d ≤ n ∧ (s.port p).ackPossible d = false ∧ (s.port p).draining = false ∧
      d ≤ r.until_ + s.radAckWait p ∧ s.connClash p n (n + s.radAir p (s.preamble p) r.item.frame.len) = false ∧
      s.dutyOver p (airUs (s.radAir p (s.preamble p) r.item.frame.len)) 90 = false ∧
      s.dwellOver p (airUs (s.radAir p (s.preamble p) r.item.frame.len)) n = false) ∧
    (∃ (p : Nat) (n : Nat) (r : RepeatSeq) (x : TxItem) (d : Nat) (s : State),
      (s.port p).rep = some r ∧ (s.port p).ackWait = some (x, d) ∧ d ≤ n ∧ (s.port p).ackPossible d = false ∧ (s.port p).draining = false ∧
      r.until_ + s.radAckWait p < d) ∧
    (∃ (p : Nat) (n : Nat) (r : RepeatSeq) (x : TxItem) (d : Nat) (s : State),
      (s.port p).rep = some r ∧ (s.port p).ackWait = some (x, d) ∧ n < d) ∧
    (∃ (p : Nat) (b : Bool) (n : Nat) (d : Nat) (e : Nat) (i : TxItem) (s : State),
      s.isRadio p = true ∧ s.portOn p = true ∧ s.portBlocked p = false ∧ (s.port p).pendTo = some (d, e) ∧ (s.port p).onAir = none ∧
      (s.port p).ackOwed = none ∧ (s.port p).rx = none ∧ (s.port p).listenWait ≤ n ∧ (if s.hopping p then e else e + s.listen p) ≤ n ∧
      (s.hopping p = true ∨ s.listenBusy p b n = false) ∧ n < e + msCounts 40 ∧ (s.port p).pendingFor d = some i ∧ s.connNow p d n = none ∧
      s.connClash p n (n + s.radAir p (s.preamble p) i.frame.len) = false ∧
      s.dutyOver p (airUs (s.radAir p (s.preamble p) i.frame.len)) 90 = false ∧
      s.dwellOver p (airUs (s.radAir p (s.preamble p) i.frame.len)) n = false) ∧
    (∃ (p : Nat) (n : Nat) (d : Nat) (e : Nat) (i : TxItem) (c : Conn) (s : State),
      s.isRadio p = true ∧ s.portOn p = true ∧ s.portBlocked p = false ∧ (s.port p).pendTo = some (d, e) ∧ (s.port p).onAir = none ∧
      (s.port p).ackOwed = none ∧ (s.port p).rx = none ∧ e ≤ n ∧ (s.port p).pendingFor d = some i ∧ s.connNow p d n = some c ∧
      n + s.radAir p (s.preamble p) i.frame.len ≤ c.anchor + s.connWin p ∧
      s.dutyOver p (airUs (s.radAir p (s.preamble p) i.frame.len)) 90 = false ∧
      s.dwellOver p (airUs (s.radAir p (s.preamble p) i.frame.len)) n = false) ∧
    (∃ (p : Nat) (n : Nat) (d : Nat) (e : Nat) (i : TxItem) (s : State),
      s.isRadio p = true ∧ s.portOn p = true ∧ (s.port p).pendTo = some (d, e) ∧ (s.port p).onAir = none ∧ e + msCounts 40 ≤ n ∧
      (s.port p).pendingFor d = some i ∧ s.connNow p d n = none ∧ s.connected p (some d) = false ∧ s.hopping p = false) ∧
    (∃ (p : Nat) (ep : Nat) (n : Nat) (c : Conn) (s : State),
      s.isRadio p = true ∧ s.portOn p = true ∧ s.portBlocked p = false ∧ (s.port p).conns.find? (fun c => decide (c.ep = ep)) = some c ∧
      c.anchor + sec c.connInt ≤ n + s.connW p c ∧ (s.port p).onAir = none) ∧
    (∃ (p : Nat) (ep : Nat) (n : Nat) (c : Conn) (s : State),
      s.isRadio p = true ∧ s.portOn p = true ∧ (s.port p).conns.find? (fun c => decide (c.ep = ep)) = some c ∧
      c.anchor + sec c.connInt ≤ n + s.connW p c ∧ (s.portBlocked p = true ∨ (s.port p).onAir ≠ none)) ∧
    (∃ (p : Nat) (ep : Nat) (n : Nat) (c : Conn) (s : State),
      (s.port p).conns.find? (fun c => decide (c.ep = ep)) = some c ∧ n + s.connW p c < c.anchor + sec c.connInt) ∧
    (∃ (p : Nat) (ep : Nat) (n : Nat) (c : Conn) (s : State),
      (s.port p).conns.find? (fun c => decide (c.ep = ep)) = some c ∧ c.windowOpen = true ∧
      c.anchor + s.connW p c + s.octets p (s.preamble p + 2) ≤ n) ∧
    (∃ (p : Nat) (ep : Nat) (n : Nat) (c : Conn) (s : State),
      (s.port p).conns.find? (fun c => decide (c.ep = ep)) = some c ∧
      (c.windowOpen = false ∨ n < c.anchor + s.connW p c + s.octets p (s.preamble p + 2))) ∧
    (∃ (p : Nat) (ep : Nat) (n : Nat) (c : Conn) (s : State),
      (s.port p).conns.find? (fun c => decide (c.ep = ep)) = some c ∧ c.heard + sec c.supervision ≤ n) ∧
    (∃ (p : Nat) (ep : Nat) (n : Nat) (c : Conn) (s : State),
      (s.port p).conns.find? (fun c => decide (c.ep = ep)) = some c ∧ n < c.heard + sec c.supervision) :=
  ⟨⟨(8 : Nat), (1000001 : Nat), (7 : Nat), (0 : Nat), (regOf 0x062200 0x00020000 (regOf 0x06220C 0x01000001 (live.onPort 8 (fun x => { x with newMap := some (7, 0) }))) : State),
      by decide +kernel⟩,
   ⟨(8 : Nat), (regOf 0x062200 0x00020000 (regOf 0x06220C 0x01000001 (live)) : State), by decide +kernel⟩,
   ⟨(.slot 0 0 : Requester), (8 : Nat), (7 : Word), (live.heldOr (.slot 0 0 : Requester) (portBase (8 : Nat) + 0x214) (live.rg (portBase (8 : Nat) + 0x214)) : Word), ((7 : Word).toNat + 2 ^ 32 * (live.heldOr (.slot 0 0 : Requester) (portBase (8 : Nat) + 0x214) (live.rg (portBase (8 : Nat) + 0x214)) : Word).toNat : Nat), ((planTop (field (live.radCfg (8 : Nat)) 18 18) (field (live.radCfg (8 : Nat)) 20 19)).getD 0 : Nat), live,
      by unfold MapWrite Permits; decide +kernel⟩,
   ⟨(.slot 0 0 : Requester), (8 : Nat), (7 : Word), ((regOf 0x062200 0x00020000 (regOf 0x06220C 0x01000001 live) : State).heldOr (.slot 0 0 : Requester) (portBase (8 : Nat) + 0x214) ((regOf 0x062200 0x00020000 (regOf 0x06220C 0x01000001 live) : State).rg (portBase (8 : Nat) + 0x214)) : Word), ((7 : Word).toNat + 2 ^ 32 * ((regOf 0x062200 0x00020000 (regOf 0x06220C 0x01000001 live) : State).heldOr (.slot 0 0 : Requester) (portBase (8 : Nat) + 0x214) ((regOf 0x062200 0x00020000 (regOf 0x06220C 0x01000001 live) : State).rg (portBase (8 : Nat) + 0x214)) : Word).toNat : Nat), ((planTop (field ((regOf 0x062200 0x00020000 (regOf 0x06220C 0x01000001 live) : State).radCfg (8 : Nat)) 18 18) (field ((regOf 0x062200 0x00020000 (regOf 0x06220C 0x01000001 live) : State).radCfg (8 : Nat)) 20 19)).getD 0 : Nat), (regOf 0x062200 0x00020000 (regOf 0x06220C 0x01000001 live) : State),
      by unfold MapWrite Permits; decide +kernel⟩,
   ⟨(.slot 0 0 : Requester), (8 : Nat), (7 : Word), ((regOf 0x062200 0x00020000 (regOf 0x06220C 0x0000000A live) : State).heldOr (.slot 0 0 : Requester) (portBase (8 : Nat) + 0x214) ((regOf 0x062200 0x00020000 (regOf 0x06220C 0x0000000A live) : State).rg (portBase (8 : Nat) + 0x214)) : Word), ((7 : Word).toNat + 2 ^ 32 * ((regOf 0x062200 0x00020000 (regOf 0x06220C 0x0000000A live) : State).heldOr (.slot 0 0 : Requester) (portBase (8 : Nat) + 0x214) ((regOf 0x062200 0x00020000 (regOf 0x06220C 0x0000000A live) : State).rg (portBase (8 : Nat) + 0x214)) : Word).toNat : Nat), ((planTop (field ((regOf 0x062200 0x00020000 (regOf 0x06220C 0x0000000A live) : State).radCfg (8 : Nat)) 18 18) (field ((regOf 0x062200 0x00020000 (regOf 0x06220C 0x0000000A live) : State).radCfg (8 : Nat)) 20 19)).getD 0 : Nat), (regOf 0x062200 0x00020000 (regOf 0x06220C 0x0000000A live) : State),
      by unfold MapWrite Permits; decide +kernel⟩,
   ⟨(.slot 0 0 : Requester), (8 : Nat), (7 : Word), ((regOf 0x062200 0x00020000 (regOf 0x06220C 0x01000001 (live.onPort 8 (fun x => { x with newMap := some (7, 10 ^ 20) }))) : State).heldOr (.slot 0 0 : Requester) (portBase (8 : Nat) + 0x214) ((regOf 0x062200 0x00020000 (regOf 0x06220C 0x01000001 (live.onPort 8 (fun x => { x with newMap := some (7, 10 ^ 20) }))) : State).rg (portBase (8 : Nat) + 0x214)) : Word), ((7 : Word).toNat + 2 ^ 32 * ((regOf 0x062200 0x00020000 (regOf 0x06220C 0x01000001 (live.onPort 8 (fun x => { x with newMap := some (7, 10 ^ 20) }))) : State).heldOr (.slot 0 0 : Requester) (portBase (8 : Nat) + 0x214) ((regOf 0x062200 0x00020000 (regOf 0x06220C 0x01000001 (live.onPort 8 (fun x => { x with newMap := some (7, 10 ^ 20) }))) : State).rg (portBase (8 : Nat) + 0x214)) : Word).toNat : Nat), ((planTop (field ((regOf 0x062200 0x00020000 (regOf 0x06220C 0x01000001 (live.onPort 8 (fun x => { x with newMap := some (7, 10 ^ 20) }))) : State).radCfg (8 : Nat)) 18 18) (field ((regOf 0x062200 0x00020000 (regOf 0x06220C 0x01000001 (live.onPort 8 (fun x => { x with newMap := some (7, 10 ^ 20) }))) : State).radCfg (8 : Nat)) 20 19)).getD 0 : Nat), (regOf 0x062200 0x00020000 (regOf 0x06220C 0x01000001 (live.onPort 8 (fun x => { x with newMap := some (7, 10 ^ 20) }))) : State),
      by unfold MapWrite Permits; decide +kernel⟩,
   ⟨(8 : Nat), (102000000000 : Nat), (7 : Nat), (100000000000000000000 : Nat), (Option.get (((live.onPort 8 (fun x => { x with newMap := some (7, 10 ^ 20), mapAt := some 0 }) : State).port (8 : Nat)).mapAt) (by decide +kernel) : Nat), (live.onPort 8 (fun x => { x with newMap := some (7, 10 ^ 20), mapAt := some 0 }) : State),
      by decide +kernel⟩,
   ⟨(8 : Nat), (1000001 : Nat), (7 : Nat), (100000000000000000000 : Nat), (Option.get (((live.onPort 8 (fun x => { x with newMap := some (7, 10 ^ 20), mapAt := some 0 }) : State).port (8 : Nat)).mapAt) (by decide +kernel) : Nat), (live.onPort 8 (fun x => { x with newMap := some (7, 10 ^ 20), mapAt := some 0 }) : State),
      by decide +kernel⟩,
   ⟨(8 : Nat), (2 : Nat), false, (640370000000 : Nat), ((((netOf (fun x => { x with nodes := [(eue 2, { NodeRec.blank with st := .joined, uplink := 10 })] }) (live.onPort 8 (fun x => { x with queue := [{ item0 with sleepy := some 2, frame := { frame0 with len := 200, dst := some (eue 2) } }] })) : State).port (8 : Nat)).queue.head?.getD item0) : TxItem), (((netOf (fun x => { x with nodes := [(eue 2, { NodeRec.blank with st := .joined, uplink := 10 })] }) (live.onPort 8 (fun x => { x with queue := [{ item0 with sleepy := some 2, frame := { frame0 with len := 200, dst := some (eue 2) } }] })) : State).sys.image.bind (fun im => im.ep (2 : Nat))).getD ⟨0, 0, 0, 0, 0, 0, false, []⟩ : EpCfg), (((netOf (fun x => { x with nodes := [(eue 2, { NodeRec.blank with st := .joined, uplink := 10 })] }) (live.onPort 8 (fun x => { x with queue := [{ item0 with sleepy := some 2, frame := { frame0 with len := 200, dst := some (eue 2) } }] })) : State).sample_ (8 : Nat) ((((netOf (fun x => { x with nodes := [(eue 2, { NodeRec.blank with st := .joined, uplink := 10 })] }) (live.onPort 8 (fun x => { x with queue := [{ item0 with sleepy := some 2, frame := { frame0 with len := 200, dst := some (eue 2) } }] })) : State).port (8 : Nat)).queue.head?.getD item0) : TxItem) (((netOf (fun x => { x with nodes := [(eue 2, { NodeRec.blank with st := .joined, uplink := 10 })] }) (live.onPort 8 (fun x => { x with queue := [{ item0 with sleepy := some 2, frame := { frame0 with len := 200, dst := some (eue 2) } }] })) : State).sys.image.bind (fun im => im.ep (2 : Nat))).getD ⟨0, 0, 0, 0, 0, 0, false, []⟩ : EpCfg).eui (((netOf (fun x => { x with nodes := [(eue 2, { NodeRec.blank with st := .joined, uplink := 10 })] }) (live.onPort 8 (fun x => { x with queue := [{ item0 with sleepy := some 2, frame := { frame0 with len := 200, dst := some (eue 2) } }] })) : State).sys.image.bind (fun im => im.ep (2 : Nat))).getD ⟨0, 0, 0, 0, 0, 0, false, []⟩ : EpCfg).wakeMs (640370000000 : Nat)).1 : Nat), (((netOf (fun x => { x with nodes := [(eue 2, { NodeRec.blank with st := .joined, uplink := 10 })] }) (live.onPort 8 (fun x => { x with queue := [{ item0 with sleepy := some 2, frame := { frame0 with len := 200, dst := some (eue 2) } }] })) : State).sample_ (8 : Nat) ((((netOf (fun x => { x with nodes := [(eue 2, { NodeRec.blank with st := .joined, uplink := 10 })] }) (live.onPort 8 (fun x => { x with queue := [{ item0 with sleepy := some 2, frame := { frame0 with len := 200, dst := some (eue 2) } }] })) : State).port (8 : Nat)).queue.head?.getD item0) : TxItem) (((netOf (fun x => { x with nodes := [(eue 2, { NodeRec.blank with st := .joined, uplink := 10 })] }) (live.onPort 8 (fun x => { x with queue := [{ item0 with sleepy := some 2, frame := { frame0 with len := 200, dst := some (eue 2) } }] })) : State).sys.image.bind (fun im => im.ep (2 : Nat))).getD ⟨0, 0, 0, 0, 0, 0, false, []⟩ : EpCfg).eui (((netOf (fun x => { x with nodes := [(eue 2, { NodeRec.blank with st := .joined, uplink := 10 })] }) (live.onPort 8 (fun x => { x with queue := [{ item0 with sleepy := some 2, frame := { frame0 with len := 200, dst := some (eue 2) } }] })) : State).sys.image.bind (fun im => im.ep (2 : Nat))).getD ⟨0, 0, 0, 0, 0, 0, false, []⟩ : EpCfg).wakeMs (640370000000 : Nat)).2 : Nat), (netOf (fun x => { x with nodes := [(eue 2, { NodeRec.blank with st := .joined, uplink := 10 })] }) (live.onPort 8 (fun x => { x with queue := [{ item0 with sleepy := some 2, frame := { frame0 with len := 200, dst := some (eue 2) } }] })) : State),
      by unfold Covers; decide +kernel⟩,
   ⟨(8 : Nat), (2 : Nat), false, (399700000 : Nat), ((((netOf (fun x => { x with nodes := [(eue 2, { NodeRec.blank with st := .joined, uplink := 10 })] }) (live.onPort 8 (fun x => { x with queue := [{ item0 with sleepy := some 2, frame := { frame0 with len := 40, dst := some (eue 2) } }] })) : State).port (8 : Nat)).queue.head?.getD item0) : TxItem), (((netOf (fun x => { x with nodes := [(eue 2, { NodeRec.blank with st := .joined, uplink := 10 })] }) (live.onPort 8 (fun x => { x with queue := [{ item0 with sleepy := some 2, frame := { frame0 with len := 40, dst := some (eue 2) } }] })) : State).sys.image.bind (fun im => im.ep (2 : Nat))).getD ⟨0, 0, 0, 0, 0, 0, false, []⟩ : EpCfg), ((2 * (((netOf (fun x => { x with nodes := [(eue 2, { NodeRec.blank with st := .joined, uplink := 10 })] }) (live.onPort 8 (fun x => { x with queue := [{ item0 with sleepy := some 2, frame := { frame0 with len := 40, dst := some (eue 2) } }] })) : State).sample_ (8 : Nat) ((((netOf (fun x => { x with nodes := [(eue 2, { NodeRec.blank with st := .joined, uplink := 10 })] }) (live.onPort 8 (fun x => { x with queue := [{ item0 with sleepy := some 2, frame := { frame0 with len := 40, dst := some (eue 2) } }] })) : State).port (8 : Nat)).queue.head?.getD item0) : TxItem) (((netOf (fun x => { x with nodes := [(eue 2, { NodeRec.blank with st := .joined, uplink := 10 })] }) (live.onPort 8 (fun x => { x with queue := [{ item0 with sleepy := some 2, frame := { frame0 with len := 40, dst := some (eue 2) } }] })) : State).sys.image.bind (fun im => im.ep (2 : Nat))).getD ⟨0, 0, 0, 0, 0, 0, false, []⟩ : EpCfg).eui (((netOf (fun x => { x with nodes := [(eue 2, { NodeRec.blank with st := .joined, uplink := 10 })] }) (live.onPort 8 (fun x => { x with queue := [{ item0 with sleepy := some 2, frame := { frame0 with len := 40, dst := some (eue 2) } }] })) : State).sys.image.bind (fun im => im.ep (2 : Nat))).getD ⟨0, 0, 0, 0, 0, 0, false, []⟩ : EpCfg).wakeMs (399700000 : Nat)).2 : Nat) * (netOf (fun x => { x with nodes := [(eue 2, { NodeRec.blank with st := .joined, uplink := 10 })] }) (live.onPort 8 (fun x => { x with queue := [{ item0 with sleepy := some 2, frame := { frame0 with len := 40, dst := some (eue 2) } }] })) : State).radDiv (8 : Nat) + 63999) / 64000 + (netOf (fun x => { x with nodes := [(eue 2, { NodeRec.blank with st := .joined, uplink := 10 })] }) (live.onPort 8 (fun x => { x with queue := [{ item0 with sleepy := some 2, frame := { frame0 with len := 40, dst := some (eue 2) } }] })) : State).preamble (8 : Nat) : Nat), (((netOf (fun x => { x with nodes := [(eue 2, { NodeRec.blank with st := .joined, uplink := 10 })] }) (live.onPort 8 (fun x => { x with queue := [{ item0 with sleepy := some 2, frame := { frame0 with len := 40, dst := some (eue 2) } }] })) : State).sample_ (8 : Nat) ((((netOf (fun x => { x with nodes := [(eue 2, { NodeRec.blank with st := .joined, uplink := 10 })] }) (live.onPort 8 (fun x => { x with queue := [{ item0 with sleepy := some 2, frame := { frame0 with len := 40, dst := some (eue 2) } }] })) : State).port (8 : Nat)).queue.head?.getD item0) : TxItem) (((netOf (fun x => { x with nodes := [(eue 2, { NodeRec.blank with st := .joined, uplink := 10 })] }) (live.onPort 8 (fun x => { x with queue := [{ item0 with sleepy := some 2, frame := { frame0 with len := 40, dst := some (eue 2) } }] })) : State).sys.image.bind (fun im => im.ep (2 : Nat))).getD ⟨0, 0, 0, 0, 0, 0, false, []⟩ : EpCfg).eui (((netOf (fun x => { x with nodes := [(eue 2, { NodeRec.blank with st := .joined, uplink := 10 })] }) (live.onPort 8 (fun x => { x with queue := [{ item0 with sleepy := some 2, frame := { frame0 with len := 40, dst := some (eue 2) } }] })) : State).sys.image.bind (fun im => im.ep (2 : Nat))).getD ⟨0, 0, 0, 0, 0, 0, false, []⟩ : EpCfg).wakeMs (399700000 : Nat)).1 : Nat), (((netOf (fun x => { x with nodes := [(eue 2, { NodeRec.blank with st := .joined, uplink := 10 })] }) (live.onPort 8 (fun x => { x with queue := [{ item0 with sleepy := some 2, frame := { frame0 with len := 40, dst := some (eue 2) } }] })) : State).sample_ (8 : Nat) ((((netOf (fun x => { x with nodes := [(eue 2, { NodeRec.blank with st := .joined, uplink := 10 })] }) (live.onPort 8 (fun x => { x with queue := [{ item0 with sleepy := some 2, frame := { frame0 with len := 40, dst := some (eue 2) } }] })) : State).port (8 : Nat)).queue.head?.getD item0) : TxItem) (((netOf (fun x => { x with nodes := [(eue 2, { NodeRec.blank with st := .joined, uplink := 10 })] }) (live.onPort 8 (fun x => { x with queue := [{ item0 with sleepy := some 2, frame := { frame0 with len := 40, dst := some (eue 2) } }] })) : State).sys.image.bind (fun im => im.ep (2 : Nat))).getD ⟨0, 0, 0, 0, 0, 0, false, []⟩ : EpCfg).eui (((netOf (fun x => { x with nodes := [(eue 2, { NodeRec.blank with st := .joined, uplink := 10 })] }) (live.onPort 8 (fun x => { x with queue := [{ item0 with sleepy := some 2, frame := { frame0 with len := 40, dst := some (eue 2) } }] })) : State).sys.image.bind (fun im => im.ep (2 : Nat))).getD ⟨0, 0, 0, 0, 0, 0, false, []⟩ : EpCfg).wakeMs (399700000 : Nat)).2 : Nat), (netOf (fun x => { x with nodes := [(eue 2, { NodeRec.blank with st := .joined, uplink := 10 })] }) (live.onPort 8 (fun x => { x with queue := [{ item0 with sleepy := some 2, frame := { frame0 with len := 40, dst := some (eue 2) } }] })) : State),
      by unfold Covers; decide +kernel⟩,
   ⟨(8 : Nat), (2 : Nat), false, (640370000000 : Nat), ((((netOf (fun x => { x with nodes := [(eue 2, { NodeRec.blank with st := .joined, uplink := 10 })] }) (live.onPort 8 (fun x => { x with queue := [{ item0 with sleepy := some 2, frame := { frame0 with len := 40, dst := some (eue 2) } }] })) : State).port (8 : Nat)).queue.head?.getD item0) : TxItem), (((netOf (fun x => { x with nodes := [(eue 2, { NodeRec.blank with st := .joined, uplink := 10 })] }) (live.onPort 8 (fun x => { x with queue := [{ item0 with sleepy := some 2, frame := { frame0 with len := 40, dst := some (eue 2) } }] })) : State).sys.image.bind (fun im => im.ep (2 : Nat))).getD ⟨0, 0, 0, 0, 0, 0, false, []⟩ : EpCfg), (((netOf (fun x => { x with nodes := [(eue 2, { NodeRec.blank with st := .joined, uplink := 10 })] }) (live.onPort 8 (fun x => { x with queue := [{ item0 with sleepy := some 2, frame := { frame0 with len := 40, dst := some (eue 2) } }] })) : State).sample_ (8 : Nat) ((((netOf (fun x => { x with nodes := [(eue 2, { NodeRec.blank with st := .joined, uplink := 10 })] }) (live.onPort 8 (fun x => { x with queue := [{ item0 with sleepy := some 2, frame := { frame0 with len := 40, dst := some (eue 2) } }] })) : State).port (8 : Nat)).queue.head?.getD item0) : TxItem) (((netOf (fun x => { x with nodes := [(eue 2, { NodeRec.blank with st := .joined, uplink := 10 })] }) (live.onPort 8 (fun x => { x with queue := [{ item0 with sleepy := some 2, frame := { frame0 with len := 40, dst := some (eue 2) } }] })) : State).sys.image.bind (fun im => im.ep (2 : Nat))).getD ⟨0, 0, 0, 0, 0, 0, false, []⟩ : EpCfg).eui (((netOf (fun x => { x with nodes := [(eue 2, { NodeRec.blank with st := .joined, uplink := 10 })] }) (live.onPort 8 (fun x => { x with queue := [{ item0 with sleepy := some 2, frame := { frame0 with len := 40, dst := some (eue 2) } }] })) : State).sys.image.bind (fun im => im.ep (2 : Nat))).getD ⟨0, 0, 0, 0, 0, 0, false, []⟩ : EpCfg).wakeMs (640370000000 : Nat)).1 : Nat), (((netOf (fun x => { x with nodes := [(eue 2, { NodeRec.blank with st := .joined, uplink := 10 })] }) (live.onPort 8 (fun x => { x with queue := [{ item0 with sleepy := some 2, frame := { frame0 with len := 40, dst := some (eue 2) } }] })) : State).sample_ (8 : Nat) ((((netOf (fun x => { x with nodes := [(eue 2, { NodeRec.blank with st := .joined, uplink := 10 })] }) (live.onPort 8 (fun x => { x with queue := [{ item0 with sleepy := some 2, frame := { frame0 with len := 40, dst := some (eue 2) } }] })) : State).port (8 : Nat)).queue.head?.getD item0) : TxItem) (((netOf (fun x => { x with nodes := [(eue 2, { NodeRec.blank with st := .joined, uplink := 10 })] }) (live.onPort 8 (fun x => { x with queue := [{ item0 with sleepy := some 2, frame := { frame0 with len := 40, dst := some (eue 2) } }] })) : State).sys.image.bind (fun im => im.ep (2 : Nat))).getD ⟨0, 0, 0, 0, 0, 0, false, []⟩ : EpCfg).eui (((netOf (fun x => { x with nodes := [(eue 2, { NodeRec.blank with st := .joined, uplink := 10 })] }) (live.onPort 8 (fun x => { x with queue := [{ item0 with sleepy := some 2, frame := { frame0 with len := 40, dst := some (eue 2) } }] })) : State).sys.image.bind (fun im => im.ep (2 : Nat))).getD ⟨0, 0, 0, 0, 0, 0, false, []⟩ : EpCfg).wakeMs (640370000000 : Nat)).2 : Nat), (netOf (fun x => { x with nodes := [(eue 2, { NodeRec.blank with st := .joined, uplink := 10 })] }) (live.onPort 8 (fun x => { x with queue := [{ item0 with sleepy := some 2, frame := { frame0 with len := 40, dst := some (eue 2) } }] })) : State),
      by unfold Covers; decide +kernel⟩,
   ⟨(8 : Nat), (2 : Nat), true, (399700000 : Nat), ((((netOf (fun x => { x with nodes := [(eue 2, { NodeRec.blank with st := .joined, uplink := 10 })] }) (live.onPort 8 (fun x => { x with queue := [{ item0 with sleepy := some 2, frame := { frame0 with len := 40, dst := some (eue 2) } }] })) : State).port (8 : Nat)).queue.head?.getD item0) : TxItem), (((netOf (fun x => { x with nodes := [(eue 2, { NodeRec.blank with st := .joined, uplink := 10 })] }) (live.onPort 8 (fun x => { x with queue := [{ item0 with sleepy := some 2, frame := { frame0 with len := 40, dst := some (eue 2) } }] })) : State).sys.image.bind (fun im => im.ep (2 : Nat))).getD ⟨0, 0, 0, 0, 0, 0, false, []⟩ : EpCfg), (((netOf (fun x => { x with nodes := [(eue 2, { NodeRec.blank with st := .joined, uplink := 10 })] }) (live.onPort 8 (fun x => { x with queue := [{ item0 with sleepy := some 2, frame := { frame0 with len := 40, dst := some (eue 2) } }] })) : State).sample_ (8 : Nat) ((((netOf (fun x => { x with nodes := [(eue 2, { NodeRec.blank with st := .joined, uplink := 10 })] }) (live.onPort 8 (fun x => { x with queue := [{ item0 with sleepy := some 2, frame := { frame0 with len := 40, dst := some (eue 2) } }] })) : State).port (8 : Nat)).queue.head?.getD item0) : TxItem) (((netOf (fun x => { x with nodes := [(eue 2, { NodeRec.blank with st := .joined, uplink := 10 })] }) (live.onPort 8 (fun x => { x with queue := [{ item0 with sleepy := some 2, frame := { frame0 with len := 40, dst := some (eue 2) } }] })) : State).sys.image.bind (fun im => im.ep (2 : Nat))).getD ⟨0, 0, 0, 0, 0, 0, false, []⟩ : EpCfg).eui (((netOf (fun x => { x with nodes := [(eue 2, { NodeRec.blank with st := .joined, uplink := 10 })] }) (live.onPort 8 (fun x => { x with queue := [{ item0 with sleepy := some 2, frame := { frame0 with len := 40, dst := some (eue 2) } }] })) : State).sys.image.bind (fun im => im.ep (2 : Nat))).getD ⟨0, 0, 0, 0, 0, 0, false, []⟩ : EpCfg).wakeMs (399700000 : Nat)).1 : Nat), (((netOf (fun x => { x with nodes := [(eue 2, { NodeRec.blank with st := .joined, uplink := 10 })] }) (live.onPort 8 (fun x => { x with queue := [{ item0 with sleepy := some 2, frame := { frame0 with len := 40, dst := some (eue 2) } }] })) : State).sample_ (8 : Nat) ((((netOf (fun x => { x with nodes := [(eue 2, { NodeRec.blank with st := .joined, uplink := 10 })] }) (live.onPort 8 (fun x => { x with queue := [{ item0 with sleepy := some 2, frame := { frame0 with len := 40, dst := some (eue 2) } }] })) : State).port (8 : Nat)).queue.head?.getD item0) : TxItem) (((netOf (fun x => { x with nodes := [(eue 2, { NodeRec.blank with st := .joined, uplink := 10 })] }) (live.onPort 8 (fun x => { x with queue := [{ item0 with sleepy := some 2, frame := { frame0 with len := 40, dst := some (eue 2) } }] })) : State).sys.image.bind (fun im => im.ep (2 : Nat))).getD ⟨0, 0, 0, 0, 0, 0, false, []⟩ : EpCfg).eui (((netOf (fun x => { x with nodes := [(eue 2, { NodeRec.blank with st := .joined, uplink := 10 })] }) (live.onPort 8 (fun x => { x with queue := [{ item0 with sleepy := some 2, frame := { frame0 with len := 40, dst := some (eue 2) } }] })) : State).sys.image.bind (fun im => im.ep (2 : Nat))).getD ⟨0, 0, 0, 0, 0, 0, false, []⟩ : EpCfg).wakeMs (399700000 : Nat)).2 : Nat), (netOf (fun x => { x with nodes := [(eue 2, { NodeRec.blank with st := .joined, uplink := 10 })] }) (live.onPort 8 (fun x => { x with queue := [{ item0 with sleepy := some 2, frame := { frame0 with len := 40, dst := some (eue 2) } }] })) : State),
      by unfold Covers; decide +kernel⟩,
   ⟨(8 : Nat), (1000001 : Nat), (Option.get (((live.onPort 8 (fun x => { x with rep := some ⟨{ item0 with sent := 2 }, 2, 2000⟩, ackWait := some (item0, 900) }) : State).port (8 : Nat)).rep) (by decide +kernel) : RepeatSeq), ({ frame := { type := FrameType.data, ackReq := true, pending := false, dst := some 12302426807092641792, seq := 1, src := 4822678183608320, len := 40, payload := Payload.empty }, origin := Origin.net, launch := none, asap := false, sent := 1, backoff := 0, sleepy := none, since := 0 } : TxItem), (900 : Nat), (live.onPort 8 (fun x => { x with rep := some ⟨{ item0 with sent := 2 }, 2, 2000⟩, ackWait := some (item0, 900) }) : State),
      by decide +kernel⟩,
   ⟨(8 : Nat), (1000001 : Nat), (Option.get (((live.onPort 8 (fun x => { x with rep := some ⟨{ item0 with sent := 2 }, 2, 2000⟩, ackWait := some (item0, 900) }) : State).port (8 : Nat)).rep) (by decide +kernel) : RepeatSeq), ({ frame := { type := FrameType.data, ackReq := true, pending := false, dst := some 12302426807092641792, seq := 1, src := 4822678183608320, len := 40, payload := Payload.empty }, origin := Origin.net, launch := none, asap := false, sent := 1, backoff := 0, sleepy := none, since := 0 } : TxItem), (900 : Nat), (live.onPort 8 (fun x => { x with rep := some ⟨{ item0 with sent := 2 }, 2, 2000⟩, ackWait := some (item0, 900) }) : State),
      by decide +kernel⟩,
   ⟨(8 : Nat), (102000000000 : Nat), (Option.get (((live.onPort 8 (fun x => { x with rep := some ⟨{ item0 with sent := 8 }, 2, 0⟩, ackWait := some (item0, 20000000) }) : State).port (8 : Nat)).rep) (by decide +kernel) : RepeatSeq), ({ frame := { type := FrameType.data, ackReq := true, pending := false, dst := some 12302426807092641792, seq := 1, src := 4822678183608320, len := 40, payload := Payload.empty }, origin := Origin.net, launch := none, asap := false, sent := 1, backoff := 0, sleepy := none, since := 0 } : TxItem), (20000000 : Nat), (live.onPort 8 (fun x => { x with rep := some ⟨{ item0 with sent := 8 }, 2, 0⟩, ackWait := some (item0, 20000000) }) : State),
      by decide +kernel⟩,
   ⟨(8 : Nat), (0 : Nat), (Option.get (((live.onPort 8 (fun x => { x with rep := some ⟨{ item0 with sent := 2 }, 2, 2000⟩, ackWait := some (item0, 900) }) : State).port (8 : Nat)).rep) (by decide +kernel) : RepeatSeq), ({ frame := { type := FrameType.data, ackReq := true, pending := false, dst := some 12302426807092641792, seq := 1, src := 4822678183608320, len := 40, payload := Payload.empty }, origin := Origin.net, launch := none, asap := false, sent := 1, backoff := 0, sleepy := none, since := 0 } : TxItem), (900 : Nat), (live.onPort 8 (fun x => { x with rep := some ⟨{ item0 with sent := 2 }, 2, 2000⟩, ackWait := some (item0, 900) }) : State),
      by decide +kernel⟩,
   ⟨(8 : Nat), false, (8000000 : Nat), (12302426807092641792 : Nat), (900 : Nat), (Option.get (((live.onPort 8 (fun x => { x with pendTo := some (eue 0, 900), queue := [item0] }) : State).port (8 : Nat)).pendingFor (12302426807092641792 : Nat)) (by decide +kernel) : TxItem), (live.onPort 8 (fun x => { x with pendTo := some (eue 0, 900), queue := [item0] }) : State),
      by decide +kernel⟩,
   ⟨(8 : Nat), (600000 : Nat), (12302426807092641793 : Nat), (900 : Nat), ((((((live.onPort 8 (fun x => { x with pendTo := some (eue 1, 900), queue := [{ item0 with frame := { frame0 with dst := some (eue 1) } }], conns := [⟨1, 1, 1000, 0, 1, 0, 60, 0, 0, 255, [], false, true⟩] })) : State).port (8 : Nat)).pendingFor (12302426807092641793 : Nat)).getD item0) : TxItem), (((((live.onPort 8 (fun x => { x with pendTo := some (eue 1, 900), queue := [{ item0 with frame := { frame0 with dst := some (eue 1) } }], conns := [⟨1, 1, 1000, 0, 1, 0, 60, 0, 0, 255, [], false, true⟩] })) : State).connNow (8 : Nat) (12302426807092641793 : Nat) (600000 : Nat)).getD ⟨1, 1, 1000, 0, 1, 0, 60, 0, 0, 255, [], false, true⟩) : Conn), ((live.onPort 8 (fun x => { x with pendTo := some (eue 1, 900), queue := [{ item0 with frame := { frame0 with dst := some (eue 1) } }], conns := [⟨1, 1, 1000, 0, 1, 0, 60, 0, 0, 255, [], false, true⟩] })) : State),
      by decide +kernel⟩,
   ⟨(8 : Nat), (102000000000 : Nat), (12302426807092641792 : Nat), (900 : Nat), (Option.get (((live.onPort 8 (fun x => { x with pendTo := some (eue 0, 900), queue := [item0] }) : State).port (8 : Nat)).pendingFor (12302426807092641792 : Nat)) (by decide +kernel) : TxItem), (live.onPort 8 (fun x => { x with pendTo := some (eue 0, 900), queue := [item0] }) : State),
      by decide +kernel⟩,
   ⟨(8 : Nat), (1 : Nat), (102000000000 : Nat), (Option.get (((live.onPort 8 (fun x => { x with conns := [⟨1, 1, 1000, 0, 1, 0, 60, 0, 0, 255, [], false, false⟩] }) : State).port (8 : Nat)).conns.find? (fun c => decide (c.ep = (1 : Nat)))) (by decide +kernel) : Conn), (live.onPort 8 (fun x => { x with conns := [⟨1, 1, 1000, 0, 1, 0, 60, 0, 0, 255, [], false, false⟩] }) : State),
      by decide +kernel⟩,
   ⟨(8 : Nat), (1 : Nat), (400001000 : Nat), (((((live.onPort 8 (fun x => { x with onAir := some (item0, 900), conns := [⟨1, 1, 1000, 0, 1, 0, 60, 0, 0, 255, [], false, false⟩] })) : State).port (8 : Nat)).conns.head?.getD ⟨1, 1, 1000, 0, 1, 0, 60, 0, 0, 255, [], false, true⟩) : Conn), ((live.onPort 8 (fun x => { x with onAir := some (item0, 900), conns := [⟨1, 1, 1000, 0, 1, 0, 60, 0, 0, 255, [], false, false⟩] })) : State),
      by decide +kernel⟩,
   ⟨(8 : Nat), (1 : Nat), (1000001 : Nat), (Option.get (((live.onPort 8 (fun x => { x with conns := [⟨1, 1, 1000, 0, 1, 0, 60, 0, 0, 255, [], false, false⟩] }) : State).port (8 : Nat)).conns.find? (fun c => decide (c.ep = (1 : Nat)))) (by decide +kernel) : Conn), (live.onPort 8 (fun x => { x with conns := [⟨1, 1, 1000, 0, 1, 0, 60, 0, 0, 255, [], false, false⟩] }) : State),
      by decide +kernel⟩,
   ⟨(8 : Nat), (1 : Nat), (1000001 : Nat), (Option.get (((live.onPort 8 (fun x => { x with conns := [⟨1, 1, 1000, 0, 1, 0, 60, 0, 0, 255, [], true, false⟩] }) : State).port (8 : Nat)).conns.find? (fun c => decide (c.ep = (1 : Nat)))) (by decide +kernel) : Conn), (live.onPort 8 (fun x => { x with conns := [⟨1, 1, 1000, 0, 1, 0, 60, 0, 0, 255, [], true, false⟩] }) : State),
      by decide +kernel⟩,
   ⟨(8 : Nat), (1 : Nat), (1000001 : Nat), (Option.get (((live.onPort 8 (fun x => { x with conns := [⟨1, 1, 1000, 0, 1, 0, 60, 0, 0, 255, [], false, false⟩] }) : State).port (8 : Nat)).conns.find? (fun c => decide (c.ep = (1 : Nat)))) (by decide +kernel) : Conn), (live.onPort 8 (fun x => { x with conns := [⟨1, 1, 1000, 0, 1, 0, 60, 0, 0, 255, [], false, false⟩] }) : State),
      by decide +kernel⟩,
   ⟨(8 : Nat), (1 : Nat), (102000000000 : Nat), (Option.get (((live.onPort 8 (fun x => { x with conns := [⟨1, 1, 1000, 0, 1, 0, 60, 0, 0, 255, [], false, false⟩] }) : State).port (8 : Nat)).conns.find? (fun c => decide (c.ep = (1 : Nat)))) (by decide +kernel) : Conn), (live.onPort 8 (fun x => { x with conns := [⟨1, 1, 1000, 0, 1, 0, 60, 0, 0, 255, [], false, false⟩] }) : State),
      by decide +kernel⟩,
   ⟨(8 : Nat), (1 : Nat), (1000001 : Nat), (Option.get (((live.onPort 8 (fun x => { x with conns := [⟨1, 1, 1000, 0, 1, 0, 60, 0, 0, 255, [], false, false⟩] }) : State).port (8 : Nat)).conns.find? (fun c => decide (c.ep = (1 : Nat)))) (by decide +kernel) : Conn), (live.onPort 8 (fun x => { x with conns := [⟨1, 1, 1000, 0, 1, 0, 60, 0, 0, 255, [], false, false⟩] }) : State),
      by decide +kernel⟩⟩

/-- States and operands that meet the hypotheses of each clause of NetMessages. -/
theorem test_wit_NetMessages :
    (∃ (pre : List NetMsg) (m : NetMsg) (l : List NetMsg) (h : NetHdr) (a : Bool) (sl : Bool) (ro : Bool) (b : Nat) (items : List NbrItem) (s : State),
      s.net.inbox = pre ++ m :: l ∧ m.frame.payload = .command h (.joinReq a sl ro b items) ∧
      (∀ x ∈ pre, x.frame.payload.kind ≠ m.frame.payload.kind)) ∧
    (∃ (eui : Nat) (n : Nat) (j : JoinPend) (p : Nat) (r : Rt) (s : State),
      s.net.joins.find? (fun j => j.eui = eui) = some j ∧ j.since + sec (s.discWin + 10) ≤ n ∧ s.kindOf eui ≠ 2 ∧
      bestOffer ((j.copies.map (s.offer eui)).filter (fun x => s.cellRoom x.1 eui)) = some (p, r)) ∧
    (∃ (eui : Nat) (n : Nat) (j : JoinPend) (s : State),
      s.net.joins.find? (fun j => j.eui = eui) = some j ∧ j.since + sec (s.discWin + 10) ≤ n ∧
      (s.kindOf eui = 2 ∨ bestOffer ((j.copies.map (s.offer eui)).filter (fun x => s.cellRoom x.1 eui)) = none)) ∧
    (∃ (eui : Nat) (n : Nat) (j : JoinPend) (s : State),
      s.net.joins.find? (fun j => j.eui = eui) = some j ∧ n < j.since + sec (s.discWin + 10)) ∧
    (∃ (pre : List NetMsg) (m : NetMsg) (l : List NetMsg) (h : NetHdr) (items : List NbrItem) (s : State),
      s.net.inbox = pre ++ m :: l ∧ m.frame.payload = .command h (.nbrReport items) ∧
      (∀ x ∈ pre, x.frame.payload.kind ≠ m.frame.payload.kind)) ∧
    (∃ (pre : List NetMsg) (m : NetMsg) (l : List NetMsg) (h : NetHdr) (e : Nat) (k : Nat) (s : State),
      s.net.inbox = pre ++ m :: l ∧ m.frame.payload = .command h (.relayMiss e k) ∧
      (∀ x ∈ pre, x.frame.payload.kind ≠ m.frame.payload.kind)) ∧
    (∃ (pre : List NetMsg) (m : NetMsg) (l : List NetMsg) (b : BeaconBody) (s : State),
      s.net.inbox = pre ++ m :: l ∧ m.frame.payload = .beacon b ∧ (∀ x ∈ pre, x.frame.payload.kind ≠ m.frame.payload.kind)) ∧
    (∃ (pre : List NetMsg) (m : NetMsg) (l : List NetMsg) (b : BeaconBody) (i : Nat) (x : Nbr) (s : State),
      s.net.inbox = pre ++ m :: l ∧ m.frame.payload = .beacon b ∧ (∀ x ∈ pre, x.frame.payload.kind ≠ m.frame.payload.kind) ∧
      s.kindOf m.frame.src = 1 ∧ s.net.find m.port m.frame.src = some (i, x) ∧ (s.node m.frame.src).down = false) ∧
    (∃ (p : Nat) (eui : Nat) (n : Nat) (i : Nat) (x : Nbr) (b : Nat) (s : State),
      s.net.find p eui = some (i, x) ∧ x.beacon = some b ∧ x.kind = 1 ∧ (s.node eui).up = true ∧ (s.node eui).home = p ∧
      (s.node eui).route = [] ∧ x.misses < 2 ∧ b + (x.misses + 1) * sec s.beaconS + sec s.beaconS / 4 ≤ n) ∧
    (∃ (p : Nat) (eui : Nat) (n : Nat) (i : Nat) (x : Nbr) (b : Nat) (s : State),
      s.net.find p eui = some (i, x) ∧ x.beacon = some b ∧ x.kind = 1 ∧ (s.node eui).up = true ∧ (s.node eui).home = p ∧
      (s.node eui).route = [] ∧ x.misses = 2 ∧ b + 3 * sec s.beaconS + sec s.beaconS / 4 ≤ n) ∧
    (∃ (p : Nat) (eui : Nat) (n : Nat) (i : Nat) (x : Nbr) (b : Nat) (s : State),
      s.net.find p eui = some (i, x) ∧ x.beacon = some b ∧ n < b + (x.misses + 1) * sec s.beaconS + sec s.beaconS / 4) ∧
    (∃ (pre : List NetMsg) (m : NetMsg) (l : List NetMsg) (o : Nat) (id : Nat) (ttl : Nat) (x : Nat) (s : State),
      s.net.inbox = pre ++ m :: l ∧ m.frame.payload = .flood o id ttl (.orphan x) ∧
      (∀ x ∈ pre, x.frame.payload.kind ≠ m.frame.payload.kind)) ∧
    (∃ (pre : List NetMsg) (m : NetMsg) (l : List NetMsg) (o : Nat) (id : Nat) (ttl : Nat) (b : FloodBody) (s : State),
      s.net.inbox = pre ++ m :: l ∧ m.frame.payload = .flood o id ttl b ∧ (∀ x, b ≠ .orphan x) ∧
      (∀ x ∈ pre, x.frame.payload.kind ≠ m.frame.payload.kind)) ∧
    (∃ (pre : List NetMsg) (m : NetMsg) (l : List NetMsg) (h : NetHdr) (k : Nat) (a : Nat) (c : EpCfg) (i : Nat) (o : Nat) (s : State),
      s.net.inbox = pre ++ m :: l ∧ m.frame.payload = .command h (.connReq k a) ∧
      (∀ x ∈ pre, x.frame.payload.kind ≠ m.frame.payload.kind) ∧ s.sys.image.bind (fun im => im.epOf h.node) = some c ∧ c.cls = 2 ∧
      s.isPlc (s.node h.node).home = false ∧ (s.node h.node).route = [] ∧
      (connInts.filter (fun i => decide (k ≤ i))).findSome? (fun i => (s.placeConn (s.node h.node).home i ((s.port (s.node h.node).home).conns.filter (fun x => x.ep ≠ c.idx))).map (fun o => (i, o))) = some (i, o)) ∧
    (∃ (pre : List NetMsg) (m : NetMsg) (l : List NetMsg) (h : NetHdr) (k : Nat) (a : Nat) (c : EpCfg) (s : State),
      s.net.inbox = pre ++ m :: l ∧ m.frame.payload = .command h (.connReq k a) ∧
      (∀ x ∈ pre, x.frame.payload.kind ≠ m.frame.payload.kind) ∧ s.sys.image.bind (fun im => im.epOf h.node) = some c ∧
      (c.cls ≠ 2 ∨ s.isPlc (s.node h.node).home = true ∨ (s.node h.node).route ≠ [])) :=
  ⟨⟨(([] : List NetMsg) : List NetMsg), (((netOf (fun x => { x with inbox := [⟨0, { frame0 with src := eue 1, dst := some eu, payload := .command (⟨false, 0, false, 0, 10, eue 1, [], 0⟩) (.joinReq false false false 0 []) }, 1000⟩] }) live : State).net.inbox.head?.getD ⟨0, frame0, 0⟩) : NetMsg), ((netOf (fun x => { x with inbox := [⟨0, { frame0 with src := eue 1, dst := some eu, payload := .command (⟨false, 0, false, 0, 10, eue 1, [], 0⟩) (.joinReq false false false 0 []) }, 1000⟩] }) live : State).net.inbox.tail : List NetMsg), ({ down := false, ridx := 0, xfer := false, hops := 0, cost := 10, node := 12302426807092641793, route := [], target := 0 } : NetHdr), false, false, false, (0 : Nat), ([] : List NbrItem), (netOf (fun x => { x with inbox := [⟨0, { frame0 with src := eue 1, dst := some eu, payload := .command (⟨false, 0, false, 0, 10, eue 1, [], 0⟩) (.joinReq false false false 0 []) }, 1000⟩] }) live : State),
      by decide +kernel⟩,
   ⟨(eue 1 : Nat), (400000000000 : Nat), (Option.get ((netOf (fun x => { x with joins := [⟨eue 1, 0, [(0, [], 100)], false, false⟩] }) live : State).net.joins.find? (fun j => j.eui = (eue 1 : Nat))) (by decide +kernel) : JoinPend), (0 : Nat), ({ cost := 100, path := [] } : Rt), (netOf (fun x => { x with joins := [⟨eue 1, 0, [(0, [], 100)], false, false⟩] }) live : State),
      by decide +kernel⟩,
   ⟨(eue 1 : Nat), (400000000000 : Nat), (Option.get ((netOf (fun x => { x with joins := [⟨eue 1, 0, [], false, false⟩] }) live : State).net.joins.find? (fun j => j.eui = (eue 1 : Nat))) (by decide +kernel) : JoinPend), (netOf (fun x => { x with joins := [⟨eue 1, 0, [], false, false⟩] }) live : State),
      by decide +kernel⟩,
   ⟨(eue 1 : Nat), (1000001 : Nat), (Option.get ((netOf (fun x => { x with joins := [⟨eue 1, 0, [(0, [], 100)], false, false⟩] }) live : State).net.joins.find? (fun j => j.eui = (eue 1 : Nat))) (by decide +kernel) : JoinPend), (netOf (fun x => { x with joins := [⟨eue 1, 0, [(0, [], 100)], false, false⟩] }) live : State),
      by decide +kernel⟩,
   ⟨(([] : List NetMsg) : List NetMsg), (((netOf (fun x => { x with inbox := [⟨0, { frame0 with src := eue 0, dst := some eu, payload := .command (⟨false, 0, false, 0, 10, eue 0, [], 0⟩) (.nbrReport [⟨eue 1, 300, 9⟩]) }, 1000⟩] }) live : State).net.inbox.head?.getD ⟨0, frame0, 0⟩) : NetMsg), ((netOf (fun x => { x with inbox := [⟨0, { frame0 with src := eue 0, dst := some eu, payload := .command (⟨false, 0, false, 0, 10, eue 0, [], 0⟩) (.nbrReport [⟨eue 1, 300, 9⟩]) }, 1000⟩] }) live : State).net.inbox.tail : List NetMsg), ({ down := false, ridx := 0, xfer := false, hops := 0, cost := 10, node := 12302426807092641792, route := [], target := 0 } : NetHdr), ([{ eui := 12302426807092641793, etx := 300, qual := 9 }] : List NbrItem), (netOf (fun x => { x with inbox := [⟨0, { frame0 with src := eue 0, dst := some eu, payload := .command (⟨false, 0, false, 0, 10, eue 0, [], 0⟩) (.nbrReport [⟨eue 1, 300, 9⟩]) }, 1000⟩] }) live : State),
      by decide +kernel⟩,
   ⟨(([] : List NetMsg) : List NetMsg), (((netOf (fun x => { x with inbox := [⟨0, { frame0 with src := eue 0, dst := some eu, payload := .command (⟨false, 0, false, 0, 10, eue 0, [], 0⟩) (.relayMiss (eue 100) 3) }, 1000⟩] }) live : State).net.inbox.head?.getD ⟨0, frame0, 0⟩) : NetMsg), ((netOf (fun x => { x with inbox := [⟨0, { frame0 with src := eue 0, dst := some eu, payload := .command (⟨false, 0, false, 0, 10, eue 0, [], 0⟩) (.relayMiss (eue 100) 3) }, 1000⟩] }) live : State).net.inbox.tail : List NetMsg), ({ down := false, ridx := 0, xfer := false, hops := 0, cost := 10, node := 12302426807092641792, route := [], target := 0 } : NetHdr), (12302426807092641892 : Nat), (3 : Nat), (netOf (fun x => { x with inbox := [⟨0, { frame0 with src := eue 0, dst := some eu, payload := .command (⟨false, 0, false, 0, 10, eue 0, [], 0⟩) (.relayMiss (eue 100) 3) }, 1000⟩] }) live : State),
      by decide +kernel⟩,
   ⟨(([] : List NetMsg) : List NetMsg), (((netOf (fun x => { x with nbrs := [(0, { Nbr.blank with eui := eue 100, port := 0, kind := 1, beacon := some 10, misses := 1 })], nodes := [(eue 100, { NodeRec.blank with st := .joined, hasRoute := true })] }) (netOf (fun x => { x with inbox := [⟨0, { frame0 with src := eue 100, dst := some eu, payload := .beacon ⟨0, 0, 0, true, 0, 0, 0, 1, true, false⟩ }, 1000⟩] }) live) : State).net.inbox.head?.getD ⟨0, frame0, 0⟩) : NetMsg), ((netOf (fun x => { x with nbrs := [(0, { Nbr.blank with eui := eue 100, port := 0, kind := 1, beacon := some 10, misses := 1 })], nodes := [(eue 100, { NodeRec.blank with st := .joined, hasRoute := true })] }) (netOf (fun x => { x with inbox := [⟨0, { frame0 with src := eue 100, dst := some eu, payload := .beacon ⟨0, 0, 0, true, 0, 0, 0, 1, true, false⟩ }, 1000⟩] }) live) : State).net.inbox.tail : List NetMsg), ({ port := 0, cell := 0, time := 0, sync := true, bseq := 0, cost := 0, hops := 0, period := 1, accepts := true, round := false } : BeaconBody), (netOf (fun x => { x with nbrs := [(0, { Nbr.blank with eui := eue 100, port := 0, kind := 1, beacon := some 10, misses := 1 })], nodes := [(eue 100, { NodeRec.blank with st := .joined, hasRoute := true })] }) (netOf (fun x => { x with inbox := [⟨0, { frame0 with src := eue 100, dst := some eu, payload := .beacon ⟨0, 0, 0, true, 0, 0, 0, 1, true, false⟩ }, 1000⟩] }) live) : State),
      by decide +kernel⟩,
   ⟨(([] : List NetMsg) : List NetMsg), (((netOf (fun x => { x with nbrs := [(0, { Nbr.blank with eui := eue 100, port := 0, kind := 1, beacon := some 10, misses := 1 })], nodes := [(eue 100, { NodeRec.blank with st := .joined, hasRoute := true })] }) (netOf (fun x => { x with inbox := [⟨0, { frame0 with src := eue 100, dst := some eu, payload := .beacon ⟨0, 0, 0, true, 0, 0, 0, 1, true, false⟩ }, 1000⟩] }) live) : State).net.inbox.head?.getD ⟨0, frame0, 0⟩) : NetMsg), ((netOf (fun x => { x with nbrs := [(0, { Nbr.blank with eui := eue 100, port := 0, kind := 1, beacon := some 10, misses := 1 })], nodes := [(eue 100, { NodeRec.blank with st := .joined, hasRoute := true })] }) (netOf (fun x => { x with inbox := [⟨0, { frame0 with src := eue 100, dst := some eu, payload := .beacon ⟨0, 0, 0, true, 0, 0, 0, 1, true, false⟩ }, 1000⟩] }) live) : State).net.inbox.tail : List NetMsg), ({ port := 0, cell := 0, time := 0, sync := true, bseq := 0, cost := 0, hops := 0, period := 1, accepts := true, round := false } : BeaconBody), (0 : Nat), ({ eui := 12302426807092641892, port := 0, phase := 0, phaseCand := 0, phaseRun := 0, kind := 1, inRoute := false, down := false, misses := 1, rxSeq := none, txSeq := 0, etx := 0, etxRef := 0, qual := 0, heard := 0, impulses := 0, noAcks := 0, delivered := 0, beacon := some 10 } : Nbr), (netOf (fun x => { x with nbrs := [(0, { Nbr.blank with eui := eue 100, port := 0, kind := 1, beacon := some 10, misses := 1 })], nodes := [(eue 100, { NodeRec.blank with st := .joined, hasRoute := true })] }) (netOf (fun x => { x with inbox := [⟨0, { frame0 with src := eue 100, dst := some eu, payload := .beacon ⟨0, 0, 0, true, 0, 0, 0, 1, true, false⟩ }, 1000⟩] }) live) : State),
      by decide +kernel⟩,
   ⟨(((netOf (fun x => { x with nbrs := [(0, { Nbr.blank with eui := eue 100, port := 0, kind := 1, beacon := some 10, misses := 1 })], nodes := [(eue 100, { NodeRec.blank with st := .joined, hasRoute := true })] }) (netOf (fun x => { x with inbox := [⟨0, { frame0 with src := eue 100, dst := some eu, payload := .beacon ⟨0, 0, 0, true, 0, 0, 0, 1, true, false⟩ }, 1000⟩] }) live) : State).node (eue 100 : Nat)).home : Nat), (eue 100 : Nat), (400000000000 : Nat), (0 : Nat), ({ eui := 12302426807092641892, port := 0, phase := 0, phaseCand := 0, phaseRun := 0, kind := 1, inRoute := false, down := false, misses := 1, rxSeq := none, txSeq := 0, etx := 0, etxRef := 0, qual := 0, heard := 0, impulses := 0, noAcks := 0, delivered := 0, beacon := some 10 } : Nbr), (Option.get (({ eui := 12302426807092641892, port := 0, phase := 0, phaseCand := 0, phaseRun := 0, kind := 1, inRoute := false, down := false, misses := 1, rxSeq := none, txSeq := 0, etx := 0, etxRef := 0, qual := 0, heard := 0, impulses := 0, noAcks := 0, delivered := 0, beacon := some 10 } : Nbr).beacon) (by decide +kernel) : Nat), (netOf (fun x => { x with nbrs := [(0, { Nbr.blank with eui := eue 100, port := 0, kind := 1, beacon := some 10, misses := 1 })], nodes := [(eue 100, { NodeRec.blank with st := .joined, hasRoute := true })] }) (netOf (fun x => { x with inbox := [⟨0, { frame0 with src := eue 100, dst := some eu, payload := .beacon ⟨0, 0, 0, true, 0, 0, 0, 1, true, false⟩ }, 1000⟩] }) live) : State),
      by decide +kernel⟩,
   ⟨(((netOf (fun x => { x with nbrs := [(0, { Nbr.blank with eui := eue 100, port := 0, kind := 1, beacon := some 10, misses := 2 })], nodes := [(eue 100, { NodeRec.blank with st := .joined, hasRoute := true })] }) live : State).node (eue 100 : Nat)).home : Nat), (eue 100 : Nat), (400000000000 : Nat), (0 : Nat), ({ eui := 12302426807092641892, port := 0, phase := 0, phaseCand := 0, phaseRun := 0, kind := 1, inRoute := false, down := false, misses := 2, rxSeq := none, txSeq := 0, etx := 0, etxRef := 0, qual := 0, heard := 0, impulses := 0, noAcks := 0, delivered := 0, beacon := some 10 } : Nbr), (Option.get (({ eui := 12302426807092641892, port := 0, phase := 0, phaseCand := 0, phaseRun := 0, kind := 1, inRoute := false, down := false, misses := 2, rxSeq := none, txSeq := 0, etx := 0, etxRef := 0, qual := 0, heard := 0, impulses := 0, noAcks := 0, delivered := 0, beacon := some 10 } : Nbr).beacon) (by decide +kernel) : Nat), (netOf (fun x => { x with nbrs := [(0, { Nbr.blank with eui := eue 100, port := 0, kind := 1, beacon := some 10, misses := 2 })], nodes := [(eue 100, { NodeRec.blank with st := .joined, hasRoute := true })] }) live : State),
      by decide +kernel⟩,
   ⟨(0 : Nat), (eue 100 : Nat), (1000001 : Nat), (0 : Nat), ({ eui := 12302426807092641892, port := 0, phase := 0, phaseCand := 0, phaseRun := 0, kind := 1, inRoute := false, down := false, misses := 1, rxSeq := none, txSeq := 0, etx := 0, etxRef := 0, qual := 0, heard := 0, impulses := 0, noAcks := 0, delivered := 0, beacon := some 10 } : Nbr), (Option.get (({ eui := 12302426807092641892, port := 0, phase := 0, phaseCand := 0, phaseRun := 0, kind := 1, inRoute := false, down := false, misses := 1, rxSeq := none, txSeq := 0, etx := 0, etxRef := 0, qual := 0, heard := 0, impulses := 0, noAcks := 0, delivered := 0, beacon := some 10 } : Nbr).beacon) (by decide +kernel) : Nat), (netOf (fun x => { x with nbrs := [(0, { Nbr.blank with eui := eue 100, port := 0, kind := 1, beacon := some 10, misses := 1 })], nodes := [(eue 100, { NodeRec.blank with st := .joined, hasRoute := true })] }) (netOf (fun x => { x with inbox := [⟨0, { frame0 with src := eue 100, dst := some eu, payload := .beacon ⟨0, 0, 0, true, 0, 0, 0, 1, true, false⟩ }, 1000⟩] }) live) : State),
      by decide +kernel⟩,
   ⟨(([] : List NetMsg) : List NetMsg), (((netOf (fun x => { x with inbox := [⟨0, { frame0 with src := eue 0, dst := some eu, payload := .flood (eue 0) 5 3 (.orphan 0) }, 1000⟩] }) live : State).net.inbox.head?.getD ⟨0, frame0, 0⟩) : NetMsg), ((netOf (fun x => { x with inbox := [⟨0, { frame0 with src := eue 0, dst := some eu, payload := .flood (eue 0) 5 3 (.orphan 0) }, 1000⟩] }) live : State).net.inbox.tail : List NetMsg), (12302426807092641792 : Nat), (5 : Nat), (3 : Nat), (0 : Nat), (netOf (fun x => { x with inbox := [⟨0, { frame0 with src := eue 0, dst := some eu, payload := .flood (eue 0) 5 3 (.orphan 0) }, 1000⟩] }) live : State),
      by decide +kernel⟩,
   ⟨(([] : List NetMsg) : List NetMsg), (((netOf (fun x => { x with inbox := [⟨0, { frame0 with src := eue 0, dst := some eu, payload := .flood (eue 0) 5 3 (.other 9) }, 1000⟩] }) live : State).net.inbox.head?.getD ⟨0, frame0, 0⟩) : NetMsg), ((netOf (fun x => { x with inbox := [⟨0, { frame0 with src := eue 0, dst := some eu, payload := .flood (eue 0) 5 3 (.other 9) }, 1000⟩] }) live : State).net.inbox.tail : List NetMsg), (12302426807092641792 : Nat), (5 : Nat), (3 : Nat), (FloodBody.other 9 : FloodBody), (netOf (fun x => { x with inbox := [⟨0, { frame0 with src := eue 0, dst := some eu, payload := .flood (eue 0) 5 3 (.other 9) }, 1000⟩] }) live : State),
      by exact ⟨by decide +kernel, by decide +kernel, (by intro x h; cases h), by decide +kernel⟩⟩,
   ⟨(([] : List NetMsg) : List NetMsg), (((netOf (fun x => { x with nodes := [(eue 1, { NodeRec.blank with st := .joined, home := 8, hasRoute := true })] }) (netOf (fun x => { x with inbox := [⟨8, { frame0 with src := eue 1, dst := some eu, payload := .command (⟨false, 0, false, 0, 10, eue 1, [], 0⟩) (.connReq 1 0) }, 1000⟩] }) live) : State).net.inbox.head?.getD ⟨0, frame0, 0⟩) : NetMsg), ((netOf (fun x => { x with nodes := [(eue 1, { NodeRec.blank with st := .joined, home := 8, hasRoute := true })] }) (netOf (fun x => { x with inbox := [⟨8, { frame0 with src := eue 1, dst := some eu, payload := .command (⟨false, 0, false, 0, 10, eue 1, [], 0⟩) (.connReq 1 0) }, 1000⟩] }) live) : State).net.inbox.tail : List NetMsg), ({ down := false, ridx := 0, xfer := false, hops := 0, cost := 10, node := 12302426807092641793, route := [], target := 0 } : NetHdr), (1 : Nat), (0 : Nat), (Option.get ((netOf (fun x => { x with nodes := [(eue 1, { NodeRec.blank with st := .joined, home := 8, hasRoute := true })] }) (netOf (fun x => { x with inbox := [⟨8, { frame0 with src := eue 1, dst := some eu, payload := .command (⟨false, 0, false, 0, 10, eue 1, [], 0⟩) (.connReq 1 0) }, 1000⟩] }) live) : State).sys.image.bind (fun im => im.epOf ({ down := false, ridx := 0, xfer := false, hops := 0, cost := 10, node := 12302426807092641793, route := [], target := 0 } : NetHdr).node)) (by decide +kernel) : EpCfg), (1 : Nat), (0 : Nat), (netOf (fun x => { x with nodes := [(eue 1, { NodeRec.blank with st := .joined, home := 8, hasRoute := true })] }) (netOf (fun x => { x with inbox := [⟨8, { frame0 with src := eue 1, dst := some eu, payload := .command (⟨false, 0, false, 0, 10, eue 1, [], 0⟩) (.connReq 1 0) }, 1000⟩] }) live) : State),
      by decide +kernel⟩,
   ⟨(([] : List NetMsg) : List NetMsg), (((netOf (fun x => { x with inbox := [⟨0, { frame0 with src := eue 0, dst := some eu, payload := .command (⟨false, 0, false, 0, 10, eue 0, [], 0⟩) (.connReq 1 0) }, 1000⟩] }) live : State).net.inbox.head?.getD ⟨0, frame0, 0⟩) : NetMsg), ((netOf (fun x => { x with inbox := [⟨0, { frame0 with src := eue 0, dst := some eu, payload := .command (⟨false, 0, false, 0, 10, eue 0, [], 0⟩) (.connReq 1 0) }, 1000⟩] }) live : State).net.inbox.tail : List NetMsg), ({ down := false, ridx := 0, xfer := false, hops := 0, cost := 10, node := 12302426807092641792, route := [], target := 0 } : NetHdr), (1 : Nat), (0 : Nat), (Option.get ((netOf (fun x => { x with inbox := [⟨0, { frame0 with src := eue 0, dst := some eu, payload := .command (⟨false, 0, false, 0, 10, eue 0, [], 0⟩) (.connReq 1 0) }, 1000⟩] }) live : State).sys.image.bind (fun im => im.epOf ({ down := false, ridx := 0, xfer := false, hops := 0, cost := 10, node := 12302426807092641792, route := [], target := 0 } : NetHdr).node)) (by decide +kernel) : EpCfg), (netOf (fun x => { x with inbox := [⟨0, { frame0 with src := eue 0, dst := some eu, payload := .command (⟨false, 0, false, 0, 10, eue 0, [], 0⟩) (.connReq 1 0) }, 1000⟩] }) live : State),
      by decide +kernel⟩⟩

/-- States and operands that meet the hypotheses of each clause of NetTimers. -/
theorem test_wit_NetTimers :
    (∃ (p : Nat) (n : Nat) (s : State),
      s.running = true ∧ s.portOn p = true ∧ (s.port p).draining = false ∧ (s.port p).launch.length < 64 ∧ s.beaconDue p n = true ∧
      max s.tim.cnt n ≤ s.beaconLaunch p n + lateBy ∧ s.beaconLaunch p n ≤ max s.tim.cnt n + 10 * 400000000) ∧
    (∃ (p : Nat) (n : Nat) (s : State),
      (s.running = false ∨ s.portOn p = false ∨ (s.port p).draining = true ∨ s.beaconDue p n = false)) ∧
    (∃ (p : Nat) (n : Nat) (s : State),
      (s.routeBroken p = true ∨ (p ∈ s.net.recompDue ∧
      (Store.get (fun _ => 0) s.net.recompAt p = 0 ∨ Store.get (fun _ => 0) s.net.recompAt p - 1 + sec (field (s.rg R.NET_TIME) 19 12) ≤ n)))) ∧
    (∃ (p : Nat) (s : State),
      s.routeBroken p = false ∧ p ∉ s.net.recompDue) ∧
    (∃ (p : Nat) (n : Nat) (s : State),
      s.running = true ∧ s.portOn p = true ∧ (s.port p).draining = false ∧
      (∀ a ∈ (s.port p).roundAt, a + sec (field (s.rg R.NET_CFG) 15 0) ≤ n)) ∧
    (∃ (p : Nat) (n : Nat) (a : Nat) (s : State),
      (s.port p).roundAt = some a ∧ n < a + sec (field (s.rg R.NET_CFG) 15 0)) ∧
    (∃ (r : Requester) (p : Nat) (s : State),
      Permits s r (0x800000 + R.NET_CTRL) ∧ p < 64 ∧ s.portOn p = true ∧ (s.port p).draining = false) ∧
    (∃ (r : Requester) (p : Nat) (s : State),
      Permits s r (0x800000 + R.NET_CTRL) ∧ p < 64 ∧ s.portOn p = true) ∧
    (∃ (r : Requester) (v : Word) (x : Nbr) (s : State),
      Permits s r R.NET_NBR_IDX ∧ x = Store.get (fun _ => Nbr.blank) s.net.nbrs (field v 15 0)) :=
  ⟨⟨(0 : Nat), (1000001 : Nat), (netOf (fun x => { x with recompDue := [0] }) live : State), by decide +kernel⟩,
   ⟨(2 : Nat), (1000001 : Nat), (netOf (fun x => { x with recompDue := [0] }) live : State), by decide +kernel⟩,
   ⟨(0 : Nat), (1000001 : Nat), (netOf (fun x => { x with recompDue := [0] }) live : State), by decide +kernel⟩,
   ⟨(1 : Nat), (netOf (fun x => { x with recompDue := [0] }) live : State), by decide +kernel⟩,
   ⟨(0 : Nat), (1000001 : Nat), (netOf (fun x => { x with recompDue := [0] }) live : State), by decide +kernel⟩,
   ⟨(0 : Nat), (1000001 : Nat), (Option.get (((live.onPort 0 (fun x => { x with roundAt := some 0 }) : State).port (0 : Nat)).roundAt) (by decide +kernel) : Nat), (live.onPort 0 (fun x => { x with roundAt := some 0 }) : State),
      by decide +kernel⟩,
   ⟨(.slot 0 0 : Requester), (0 : Nat), (netOf (fun x => { x with recompDue := [0] }) live : State), by unfold Permits; decide +kernel⟩,
   ⟨(.slot 0 0 : Requester), (0 : Nat), (netOf (fun x => { x with recompDue := [0] }) live : State), by unfold Permits; decide +kernel⟩,
   ⟨(.slot 0 0 : Requester), (0 : Word), (Store.get (fun _ => Nbr.blank) (netOf (fun x => { x with recompDue := [0] }) live : State).net.nbrs (field (0 : Word) 15 0) : Nbr), (netOf (fun x => { x with recompDue := [0] }) live : State),
      by unfold Permits; decide +kernel⟩⟩

/-- States and operands that meet the hypotheses of each clause of MeterApdus. -/
theorem test_wit_MeterApdus :
    (∃ (l : Nat) (ep : Nat) (p : SessPayload) (stamp : Nat) (irc : Bool) (q : List LaneJob) (c : EpCfg) (es : List MeterEntry) (s : State),
      l ∈ s.lanesOn ∧ s.key.waiting l = .openApdu ep p stamp irc :: q ∧ s.keyGood (s.keyOf ep) = true ∧
      (s.sess ep).icRx.getD (s.keyOf ep).rxFloor < p.ic ∧ p.tagOk = true ∧ p.apdu = .notification es none ∧ s.epCfg ep = some c) ∧
    (∃ (l : Nat) (ep : Nat) (p : SessPayload) (stamp : Nat) (irc : Bool) (q : List LaneJob) (c : EpCfg) (es : List MeterEntry) (s : State),
      l ∈ s.lanesOn ∧ s.key.waiting l = .openApdu ep p stamp irc :: q ∧ s.keyGood (s.keyOf ep) = true ∧
      (Store.get (fun _ => ([] : List PostDesc)) s.sht.hwHold 0x01).length < 4096 ∧ (s.sess ep).icRx.getD (s.keyOf ep).rxFloor < p.ic ∧
      p.tagOk = true ∧ p.apdu = .notification es none ∧ es ≠ [] ∧ s.epCfg ep = some c) ∧
    (∃ (l : Nat) (ep : Nat) (p : SessPayload) (stamp : Nat) (irc : Bool) (q : List LaneJob) (s : State),
      l ∈ s.lanesOn ∧ s.key.waiting l = .openApdu ep p stamp irc :: q ∧
      4096 ≤ (Store.get (fun _ => ([] : List PostDesc)) s.sht.hwHold 0x01).length) ∧
    (∃ (l : Nat) (ep : Nat) (p : SessPayload) (stamp : Nat) (irc : Bool) (q : List LaneJob) (s : State),
      l ∈ s.lanesOn ∧ s.key.waiting l = .openApdu ep p stamp irc :: q ∧ s.keyGood (s.keyOf ep) = true ∧
      p.ic ≤ (s.sess ep).icRx.getD (s.keyOf ep).rxFloor) ∧
    (∃ (l : Nat) (ep : Nat) (p : SessPayload) (stamp : Nat) (irc : Bool) (q : List LaneJob) (s : State),
      l ∈ s.lanesOn ∧ s.key.waiting l = .openApdu ep p stamp irc :: q ∧ s.keyGood (s.keyOf ep) = true ∧
      (s.sess ep).icRx.getD (s.keyOf ep).rxFloor < p.ic ∧ p.tagOk = false) ∧
    (∃ (l : Nat) (ep : Nat) (p : SessPayload) (stamp : Nat) (irc : Bool) (q : List LaneJob) (s : State),
      l ∈ s.lanesOn ∧ s.key.waiting l = .openApdu ep p stamp irc :: q ∧ s.keyGood (s.keyOf ep) = false ∧
      s.keyGood (Store.get (fun _ => KeyEntry.blank) s.nand.keyCopy ep) = false) ∧
    (∃ (l : Nat) (ep : Nat) (a : Apdu) (q : List LaneJob) (c : EpCfg) (m : Nat) (e : Nat) (s : State),
      l ∈ s.lanesOn ∧ s.key.waiting l = .sealApdu ep a :: q ∧ s.keyGood (s.keyOf ep) = true ∧ (s.sess ep).icTx = some (m, e) ∧ m < e ∧
      m < 2 ^ 32 ∧ s.epCfg ep = some c) ∧
    (∃ (l : Nat) (ep : Nat) (a : Apdu) (q : List LaneJob) (c : EpCfg) (m : Nat) (e : Nat) (s : State),
      l ∈ s.lanesOn ∧ s.key.waiting l = .sealApdu ep a :: q ∧ s.keyGood (s.keyOf ep) = true ∧ (s.sess ep).icTx = some (m, e) ∧ e ≤ m ∧
      m < 2 ^ 32 ∧ s.epCfg ep = some c) ∧
    (∃ (l : Nat) (s : State),
      (l ∉ s.lanesOn ∨ s.key.waiting l = [])) :=
  ⟨⟨(0 : Nat), (0 : Nat), ({ mver := 0, mtype := 0, csap := 0, ssap := 0, ic := 5, tagOk := true, apdu := Apdu.notification [{ ch := 0, localSec := 900, deviation := none, totF := 7, totR := 0, m0 := 0, m1 := 0, m2 := 0, flags := 0 }] none } : SessPayload), (5 : Nat), false, ([] : List LaneJob), (Option.get ((keyOf' (fun x => { x with jobs := [(0, [.openApdu 0 ⟨0, 0, 0, 0, 5, true, .notification [⟨0, 900, none, 7, 0, 0, 0, 0, 0⟩] none⟩ 5 false])] }) live : State).epCfg (0 : Nat)) (by decide +kernel) : EpCfg), ([{ ch := 0, localSec := 900, deviation := none, totF := 7, totR := 0, m0 := 0, m1 := 0, m2 := 0, flags := 0 }] : List MeterEntry), (keyOf' (fun x => { x with jobs := [(0, [.openApdu 0 ⟨0, 0, 0, 0, 5, true, .notification [⟨0, 900, none, 7, 0, 0, 0, 0, 0⟩] none⟩ 5 false])] }) live : State),
      by decide +kernel⟩,
   ⟨(0 : Nat), (0 : Nat), ({ mver := 0, mtype := 0, csap := 0, ssap := 0, ic := 5, tagOk := true, apdu := Apdu.notification [{ ch := 0, localSec := 900, deviation := none, totF := 7, totR := 0, m0 := 0, m1 := 0, m2 := 0, flags := 0 }] none } : SessPayload), (5 : Nat), false, ([] : List LaneJob), (Option.get ((keyOf' (fun x => { x with jobs := [(0, [.openApdu 0 ⟨0, 0, 0, 0, 5, true, .notification [⟨0, 900, none, 7, 0, 0, 0, 0, 0⟩] none⟩ 5 false])] }) live : State).epCfg (0 : Nat)) (by decide +kernel) : EpCfg), ([{ ch := 0, localSec := 900, deviation := none, totF := 7, totR := 0, m0 := 0, m1 := 0, m2 := 0, flags := 0 }] : List MeterEntry), (keyOf' (fun x => { x with jobs := [(0, [.openApdu 0 ⟨0, 0, 0, 0, 5, true, .notification [⟨0, 900, none, 7, 0, 0, 0, 0, 0⟩] none⟩ 5 false])] }) live : State),
      by decide +kernel⟩,
   ⟨(0 : Nat), (0 : Nat), ({ mver := 0, mtype := 0, csap := 0, ssap := 0, ic := 5, tagOk := true, apdu := Apdu.notification [{ ch := 0, localSec := 900, deviation := none, totF := 7, totR := 0, m0 := 0, m1 := 0, m2 := 0, flags := 0 }] none } : SessPayload), (5 : Nat), false, ([] : List LaneJob), (keyOf' (fun x => { x with jobs := [(0, [.openApdu 0 ⟨0, 0, 0, 0, 5, true, .notification [⟨0, 900, none, 7, 0, 0, 0, 0, 0⟩] none⟩ 5 false])] }) (shtOf (fun x => { x with hwHold := [(1, List.replicate 4096 (desc0 1))] }) live) : State),
      by decide +kernel⟩,
   ⟨(0 : Nat), (0 : Nat), ({ mver := 0, mtype := 0, csap := 0, ssap := 0, ic := 0, tagOk := true, apdu := Apdu.done } : SessPayload), (5 : Nat), false, ([] : List LaneJob), (keyOf' (fun x => { x with jobs := [(0, [.openApdu 0 ⟨0, 0, 0, 0, 0, true, .done⟩ 5 false])] }) live : State),
      by decide +kernel⟩,
   ⟨(0 : Nat), (0 : Nat), ({ mver := 0, mtype := 0, csap := 0, ssap := 0, ic := 5, tagOk := false, apdu := Apdu.done } : SessPayload), (5 : Nat), false, ([] : List LaneJob), (keyOf' (fun x => { x with jobs := [(0, [.openApdu 0 ⟨0, 0, 0, 0, 5, false, .done⟩ 5 false])] }) live : State),
      by decide +kernel⟩,
   ⟨(0 : Nat), (0 : Nat), ({ mver := 0, mtype := 0, csap := 0, ssap := 0, ic := 5, tagOk := true, apdu := Apdu.notification [{ ch := 0, localSec := 900, deviation := none, totF := 7, totR := 0, m0 := 0, m1 := 0, m2 := 0, flags := 0 }] none } : SessPayload), (5 : Nat), false, ([] : List LaneJob), (keyOf' (fun x => { x with jobs := [(0, [.openApdu 0 ⟨0, 0, 0, 0, 5, true, .notification [⟨0, 900, none, 7, 0, 0, 0, 0, 0⟩] none⟩ 5 false])] }) (keyOf' (fun x => { x with table := [(0, ⟨8, 65536, 0, 1, 1, true, false, false⟩)] }) live) : State),
      by decide +kernel⟩,
   ⟨(0 : Nat), (0 : Nat), (Apdu.aarq : Apdu), ([] : List LaneJob), (Option.get ((keyOf' (fun x => { x with jobs := [(0, [.sealApdu 0 .aarq])] }) (live.setSess 0 { Sess.blank with icTx := some (5, 9) }) : State).epCfg (0 : Nat)) (by decide +kernel) : EpCfg), (5 : Nat), (9 : Nat), (keyOf' (fun x => { x with jobs := [(0, [.sealApdu 0 .aarq])] }) (live.setSess 0 { Sess.blank with icTx := some (5, 9) }) : State),
      by decide +kernel⟩,
   ⟨(0 : Nat), (0 : Nat), (Apdu.aarq : Apdu), ([] : List LaneJob), (Option.get ((keyOf' (fun x => { x with jobs := [(0, [.sealApdu 0 .aarq])] }) (live.setSess 0 { Sess.blank with icTx := some (9, 9) }) : State).epCfg (0 : Nat)) (by decide +kernel) : EpCfg), (9 : Nat), (9 : Nat), (keyOf' (fun x => { x with jobs := [(0, [.sealApdu 0 .aarq])] }) (live.setSess 0 { Sess.blank with icTx := some (9, 9) }) : State),
      by decide +kernel⟩,
   ⟨(1 : Nat), (keyOf' (fun x => { x with jobs := [(0, [.openApdu 0 ⟨0, 0, 0, 0, 5, true, .notification [⟨0, 900, none, 7, 0, 0, 0, 0, 0⟩] none⟩ 5 false])] }) live : State),
      by decide +kernel⟩⟩

/-- States and operands that meet the hypotheses of each clause of MeterRequests. -/
theorem test_wit_MeterRequests :
    (∃ (ep : Nat) (n : Nat) (u : Nat) (c : EpCfg) (s : State),
      s.epCfg ep = some c ∧ s.running = true ∧ c.cls = 0 ∧ 0 < c.interval ∧
      u = (((s.stampNs (max s.tim.cnt n) / second : Nat) : Int) - s.utcOff).toNat ∧ u % c.interval = s.pollOffset ep % c.interval ∧
      (s.sess ep).polled ≠ u / c.interval + 1) ∧
    (∃ (ep : Nat) (n : Nat) (u : Nat) (c : EpCfg) (s : State),
      s.epCfg ep = some c ∧ u = (((s.stampNs (max s.tim.cnt n) / second : Nat) : Int) - s.utcOff).toNat ∧
      (c.cls ≠ 0 ∨ u % c.interval ≠ s.pollOffset ep % c.interval ∨ (s.sess ep).polled = u / max 1 c.interval + 1)) ∧
    (∃ (n : Nat) (ep : Nat) (q : Req) (s : State),
      s.running = true ∧ s.openReqs < 65536 ∧ (s.reach n).nextStart = some (ep, q)) ∧
    (∃ (n : Nat) (s : State),
      s.running = true ∧ ((s.reach n).nextStart = none ∨ 65536 ≤ s.openReqs)) ∧
    (∃ (ep : Nat) (n : Nat) (q : Req) (s : State),
      (s.sess ep).outReq = some q ∧ s.waitOver ep q n = true ∧ s.reqTries ≤ q.tries) ∧
    (∃ (ep : Nat) (n : Nat) (q : Req) (s : State),
      (s.sess ep).outReq = some q ∧ s.waitOver ep q n = true ∧ q.tries < s.reqTries) ∧
    (∃ (ep : Nat) (n : Nat) (q : Req) (s : State),
      (s.sess ep).outReq = some q ∧ s.waitOver ep q n = false) ∧
    (∃ (ch : Nat) (n : Nat) (c : EpCfg) (x : ChCfg) (lag : Nat) (s : State),
      s.epCfg (Chid.ep ch) = some c ∧ s.sys.image.bind (fun im => im.chan ch) = some x ∧ s.running = true ∧
      (Store.get (fun _ => Chan.blank) s.wrp.chans ch).lastIdx ≠ 0 ∧ s.msn.held = [] ∧ (s.sess (Chid.ep ch)).outReq = none ∧
      lag = ((((s.stampNs (max s.tim.cnt n) / second : Nat) : Int) - s.utcOff).toNat / max 1 x.period - (Store.get (fun _ => Chan.blank) s.wrp.chans ch).lastIdx) * x.period) ∧
    (∃ (ep : Nat) (n : Nat) (s : State),
      (s.sess ep).assoc = true ∧ (s.sess ep).lastApdu + s.sessLife ≤ n) ∧
    (∃ (ep : Nat) (n : Nat) (s : State),
      ((s.sess ep).assoc = false ∨ n < (s.sess ep).lastApdu + s.sessLife)) ∧
    (∃ (p : Nat) (n : Nat) (c : Campaign) (x : CampPort) (b : Nat) (l : List Nat) (s : State),
      s.msn.campaign = some c ∧ (c.ports.find? (fun x => decide (x.port = p ∧ x.step = 3)) = some x) ∧ x.todo = b :: l ∧
      bit (s.rg R.MSN_CTRL) 1 = false ∧ s.running = true ∧ (∀ a, x.sentAt = some a → a + s.blockGap ≤ n)) ∧
    (∃ (p : Nat) (n : Nat) (a : Nat) (c : Campaign) (x : CampPort) (s : State),
      s.msn.campaign = some c ∧ (c.ports.find? (fun x => decide (x.port = p ∧ x.step = 3)) = some x) ∧ x.sentAt = some a ∧
      n < a + s.blockGap) ∧
    (∃ (s : State),
      bit (s.rg R.MSN_CTRL) 1 = true) ∧
    (∃ (n : Nat) (c : Campaign) (a : Nat) (s : State),
      s.msn.campaign = some c ∧ c.activate = some a ∧ c.step = 8 ∧ a ≤ s.stampNs (max s.tim.cnt n)) ∧
    (∃ (c : Campaign) (s : State),
      s.msn.campaign = some c ∧ (c.activate = none ∨ c.step ≠ 8)) ∧
    (∃ (ep : Nat) (slot : Nat) (n : Nat) (q : Req) (a : Nat) (s : State),
      (ep, q) ∈ s.msn.held ∧ q.kind = .push slot a ∧ s.stampNs (max s.tim.cnt n) < a ∧ a ≤ s.stampNs (max s.tim.cnt n) + 86400 * second ∧
      s.active Ev.TARIFF_PUSH_LATE = false ∧ (ep, slot) ∉ s.msn.late) ∧
    (∃ (ep : Nat) (slot : Nat) (s : State),
      (ep, slot) ∈ s.msn.late) ∧
    (∃ (r : Requester) (s : State),
      Permits s r (0x800000 + R.MSN_CTRL)) ∧
    (∃ (r : Requester) (s : State),
      Permits s r (0x800000 + R.MSN_CTRL)) :=
  ⟨⟨(0 : Nat), (346800000400 : Nat), ((((live.stampNs (max live.tim.cnt (346800000400 : Nat)) / second : Nat) : Int) - live.utcOff).toNat : Nat), (Option.get (live.epCfg (0 : Nat)) (by decide +kernel) : EpCfg), live,
      by decide +kernel⟩,
   ⟨(0 : Nat), (1000001 : Nat), ((((live.stampNs (max live.tim.cnt (1000001 : Nat)) / second : Nat) : Int) - live.utcOff).toNat : Nat), (Option.get (live.epCfg (0 : Nat)) (by decide +kernel) : EpCfg), live,
      by decide +kernel⟩,
   ⟨(346800000400 : Nat), (0 : Nat), ({ kind := ReqKind.poll 0 900, fast := false, due := 0, tries := 0, delivered := none, back := false, uplink := none } : Req), (msnOf (fun x => { x with held := [(0, ⟨.poll 0 900, false, 0, 0, none, false, none⟩)] }) live : State),
      by decide +kernel⟩,
   ⟨(346800000400 : Nat), live, by decide +kernel⟩,
   ⟨(0 : Nat), (346800000400 : Nat), (Option.get (((live.setSess 0 { Sess.blank with outReq := some ⟨.poll 0 900, false, 0, 9, none, true, none⟩ } : State).sess (0 : Nat)).outReq) (by decide +kernel) : Req), (live.setSess 0 { Sess.blank with outReq := some ⟨.poll 0 900, false, 0, 9, none, true, none⟩ } : State),
      by decide +kernel⟩,
   ⟨(0 : Nat), (346800000400 : Nat), (Option.get (((live.setSess 0 { Sess.blank with outReq := some ⟨.poll 0 900, false, 0, 0, none, true, none⟩ } : State).sess (0 : Nat)).outReq) (by decide +kernel) : Req), (live.setSess 0 { Sess.blank with outReq := some ⟨.poll 0 900, false, 0, 0, none, true, none⟩ } : State),
      by decide +kernel⟩,
   ⟨(0 : Nat), (346800000400 : Nat), (Option.get (((live.setSess 0 { Sess.blank with outReq := some ⟨.poll 0 900, false, 0, 0, none, false, none⟩ } : State).sess (0 : Nat)).outReq) (by decide +kernel) : Req), (live.setSess 0 { Sess.blank with outReq := some ⟨.poll 0 900, false, 0, 0, none, false, none⟩ } : State),
      by decide +kernel⟩,
   ⟨(0 : Nat), (346800000400 : Nat), (Option.get ((wrpOf (fun x => { x with chans := [((0 : Chid), { Chan.blank with lastTime := 5, lastIdx := 3 })] }) live : State).epCfg (Chid.ep (0 : Nat))) (by decide +kernel) : EpCfg), (Option.get ((wrpOf (fun x => { x with chans := [((0 : Chid), { Chan.blank with lastTime := 5, lastIdx := 3 })] }) live : State).sys.image.bind (fun im => im.chan (0 : Nat))) (by decide +kernel) : ChCfg), ((((((wrpOf (fun x => { x with chans := [((0 : Chid), { Chan.blank with lastTime := 5, lastIdx := 3 })] }) live : State).stampNs (max (wrpOf (fun x => { x with chans := [((0 : Chid), { Chan.blank with lastTime := 5, lastIdx := 3 })] }) live : State).tim.cnt (346800000400 : Nat)) / second : Nat) : Int) - (wrpOf (fun x => { x with chans := [((0 : Chid), { Chan.blank with lastTime := 5, lastIdx := 3 })] }) live : State).utcOff).toNat / max 1 (Option.get ((wrpOf (fun x => { x with chans := [((0 : Chid), { Chan.blank with lastTime := 5, lastIdx := 3 })] }) live : State).sys.image.bind (fun im => im.chan (0 : Nat))) (by decide +kernel) : ChCfg).period - (Store.get (fun _ => Chan.blank) (wrpOf (fun x => { x with chans := [((0 : Chid), { Chan.blank with lastTime := 5, lastIdx := 3 })] }) live : State).wrp.chans (0 : Nat)).lastIdx) * (Option.get ((wrpOf (fun x => { x with chans := [((0 : Chid), { Chan.blank with lastTime := 5, lastIdx := 3 })] }) live : State).sys.image.bind (fun im => im.chan (0 : Nat))) (by decide +kernel) : ChCfg).period : Nat), (wrpOf (fun x => { x with chans := [((0 : Chid), { Chan.blank with lastTime := 5, lastIdx := 3 })] }) live : State),
      by decide +kernel⟩,
   ⟨(0 : Nat), (40000000000000 : Nat), (live.setSess 0 { Sess.blank with assoc := true, lastApdu := 1000 } : State), by decide +kernel⟩,
   ⟨(0 : Nat), (346800000400 : Nat), live, by decide +kernel⟩,
   ⟨(0 : Nat), (346800000400 : Nat), (Option.get ((msnOf (fun x => { x with campaign := some ⟨1, [1], 2048, [0], [⟨0, 0, .pending⟩], [⟨0, 3, 0, [0], none⟩], none, false⟩ }) live : State).msn.campaign) (by decide +kernel) : Campaign), (⟨0, 3, 0, [0], none⟩ : CampPort), (List.head ((⟨0, 3, 0, [0], none⟩ : CampPort).todo) (by decide +kernel) : Nat), (List.tail ((⟨0, 3, 0, [0], none⟩ : CampPort).todo) : List Nat), (msnOf (fun x => { x with campaign := some ⟨1, [1], 2048, [0], [⟨0, 0, .pending⟩], [⟨0, 3, 0, [0], none⟩], none, false⟩ }) live : State),
      by decide +kernel⟩,
   ⟨(0 : Nat), (346800000400 : Nat), (346800000000 : Nat), (Option.get ((msnOf (fun x => { x with campaign := some ⟨1, [1], 2048, [0], [⟨0, 0, .pending⟩], [⟨0, 3, 0, [0], some 346800000000⟩], none, false⟩ }) live : State).msn.campaign) (by decide +kernel) : Campaign), (⟨0, 3, 0, [0], some 346800000000⟩ : CampPort), (msnOf (fun x => { x with campaign := some ⟨1, [1], 2048, [0], [⟨0, 0, .pending⟩], [⟨0, 3, 0, [0], some 346800000000⟩], none, false⟩ }) live : State),
      by decide +kernel⟩,
   ⟨(regOf R.MSN_CTRL 2 live : State), by decide +kernel⟩,
   ⟨(346800000400 : Nat), (Option.get ((msnOf (fun x => { x with campaign := some ⟨1, [1], 2048, [0], [⟨0, 0, .verified⟩], [⟨0, 8, 0, [], none⟩], some 5, false⟩ }) live : State).msn.campaign) (by decide +kernel) : Campaign), (Option.get ((Option.get ((msnOf (fun x => { x with campaign := some ⟨1, [1], 2048, [0], [⟨0, 0, .verified⟩], [⟨0, 8, 0, [], none⟩], some 5, false⟩ }) live : State).msn.campaign) (by decide +kernel) : Campaign).activate) (by decide +kernel) : Nat), (msnOf (fun x => { x with campaign := some ⟨1, [1], 2048, [0], [⟨0, 0, .verified⟩], [⟨0, 8, 0, [], none⟩], some 5, false⟩ }) live : State),
      by decide +kernel⟩,
   ⟨(Option.get ((msnOf (fun x => { x with campaign := some ⟨1, [1], 2048, [0], [⟨0, 0, .pending⟩], [⟨0, 3, 0, [0], none⟩], none, false⟩ }) live : State).msn.campaign) (by decide +kernel) : Campaign), (msnOf (fun x => { x with campaign := some ⟨1, [1], 2048, [0], [⟨0, 0, .pending⟩], [⟨0, 3, 0, [0], none⟩], none, false⟩ }) live : State),
      by decide +kernel⟩,
   ⟨(0 : Nat), (0 : Nat), (1000001 : Nat), (⟨.push 0 (1000600 * second), false, 0, 0, none, false, none⟩ : Req), (1000600000000000 : Nat), (msnOf (fun x => { x with held := [(0, ⟨.push 0 (1000600 * second), false, 0, 0, none, false, none⟩)] }) live : State),
      by decide +kernel⟩,
   ⟨(0 : Nat), (0 : Nat), (msnOf (fun x => { x with late := [(0, 0)] }) live : State), by decide +kernel⟩,
   ⟨(.slot 0 0 : Requester), live, by unfold Permits; decide +kernel⟩,
   ⟨(.slot 0 0 : Requester), live, by unfold Permits; decide +kernel⟩⟩

/-- States and operands that meet the hypotheses of each clause of DispatchAndPosts. -/
theorem test_wit_DispatchAndPosts :
    (∃ (c : Nat) (x : Task) (s : State),
      s.coreRuns c = true ∧ s.sht.waiting = [] ∧ s.holds c = none ∧ nbit s.sht.coreEn c = true ∧
      (∀ q < 32, ∀ y ∈ s.readyList q, s.strays y = false) ∧ s.pick c = some x) ∧
    (∃ (c : Nat) (s : State),
      s.coreRuns c = true ∧ s.sht.waiting = [] ∧ s.holds c = none ∧ nbit s.sht.coreEn c = true ∧
      (∀ q < 32, ∀ y ∈ s.readyList q, s.strays y = false) ∧ s.pick c = none) ∧
    (∃ (c : Nat) (s : State),
      s.coreRuns c = true ∧ c ∉ s.sht.waiting ∧ (s.holds c).isSome = true) ∧
    (∃ (c : Nat) (s : State),
      (s.coreRuns c = false ∨ c ∈ s.sht.waiting)) ∧
    (∃ (c : Nat) (s : State),
      s.coreRuns c = true ∧ c ∉ s.sht.waiting ∧ s.holds c = none ∧ nbit s.sht.coreEn c = false) ∧
    (∃ (c : Nat) (d : PostDesc) (s : State),
      s.coreRuns c = true ∧ s.sht.accepting = true ∧ s.sht.waiting = [] ∧ (d.src = 0x10 ∨ 0x20 ≤ d.src ∧ d.src ≤ 0x2F) ∧
      s.decidePost d.src = .accept ∧ d.dlist < 8 ∧ (s.sht.spill = [] ∨ bit (s.rg R.SHT_CTRL) 0 = false ∨ d.delay ≠ 0)) ∧
    (∃ (c : Nat) (d : PostDesc) (s : State),
      s.coreRuns c = true ∧ s.sht.accepting = true ∧ (d.src = 0x10 ∨ 0x20 ≤ d.src ∧ d.src ≤ 0x2F) ∧ s.decidePost d.src = .cap ∧
      (bit (s.rg R.SHT_CTRL) 0 = false ∨ d.delay ≠ 0)) ∧
    (∃ (c : Nat) (d : PostDesc) (s : State),
      s.coreRuns c = true ∧ s.sht.accepting = true ∧ (d.src = 0x10 ∨ 0x20 ≤ d.src ∧ d.src ≤ 0x2F) ∧ s.decidePost d.src = .full ∧
      (bit (s.rg R.SHT_CTRL) 0 = false ∨ d.delay ≠ 0)) ∧
    (∃ (c : Nat) (d : PostDesc) (s : State),
      s.coreRuns c = true ∧ s.sht.accepting = true ∧ (d.src = 0x10 ∨ 0x20 ≤ d.src ∧ d.src ≤ 0x2F) ∧
      (s.decidePost d.src ≠ .accept ∨ Store.get (fun _ => []) s.sht.spill d.prio ≠ []) ∧ bit (s.rg R.SHT_CTRL) 0 = true ∧ d.delay = 0 ∧
      (Store.get (fun _ => []) s.sht.spill d.prio).length < s.ringSize) ∧
    (∃ (c : Nat) (d : PostDesc) (s : State),
      s.coreRuns c = true ∧ s.sht.accepting = true ∧ (d.src = 0x10 ∨ 0x20 ≤ d.src ∧ d.src ≤ 0x2F) ∧ s.decidePost d.src = .full ∧
      bit (s.rg R.SHT_CTRL) 0 = true ∧ d.delay = 0 ∧ s.ringSize ≤ (Store.get (fun _ => []) s.sht.spill d.prio).length ∧
      s.active Ev.SPILL_FULL = false) ∧
    (∃ (c : Nat) (d : PostDesc) (s : State),
      s.coreRuns c = true ∧ s.sht.accepting = true ∧ d.src ≠ 0x10 ∧ (d.src < 0x20 ∨ 0x2F < d.src)) ∧
    (∃ (c : Nat) (s : State),
      (s.coreRuns c = false ∨ s.sht.accepting = false)) ∧
    (∃ (c : Nat) (d : PostDesc) (q : List PostDesc) (s : State),
      s.sht.accepting = true ∧ Store.get (fun _ => []) s.sht.hwHold c = d :: q ∧ d.src = c ∧ s.decidePost c = .accept) ∧
    (∃ (c : Nat) (s : State),
      (s.sht.accepting = false ∨ (∀ d q, Store.get (fun _ => []) s.sht.hwHold c = d :: q → s.decidePost d.src ≠ .accept))) ∧
    (∃ (r : Requester) (k : Nat) (s : State),
      k < 8 ∧ Permits s r (0x800000 + R.SHT_TICK_k + 4 * k) ∧ s.delayList k = []) ∧
    (∃ (r : Requester) (k : Nat) (s : State),
      k < 8 ∧ Permits s r (0x800000 + R.SHT_TICK_k + 4 * k) ∧ s.delayList k ≠ []) ∧
    (∃ (r : Requester) (c : Nat) (s : State),
      c < 32 ∧ Permits s r (0x800000 + R.SHT_CORE_EN) ∧ s.sht.coreEn < 2 ^ 32 ∧ nbit s.sht.coreEn c = true ∧ c ∈ s.sht.waiting) ∧
    (∃ (r : Requester) (c : Nat) (s : State),
      c < 32 ∧ Permits s r (0x800000 + R.SHT_CORE_EN) ∧ s.sht.coreEn < 2 ^ 32 ∧ nbit s.sht.coreEn c = true ∧ c ∉ s.sht.waiting ∧
      (s.holds c).isSome = true) ∧
    (∃ (r : Requester) (c : Nat) (s : State),
      c < 32 ∧ Permits s r (0x800000 + R.SHT_CORE_EN) ∧ s.sht.coreEn < 2 ^ 32 ∧ nbit s.sht.coreEn c = true ∧ c ∉ s.sht.waiting ∧
      s.holds c = none) ∧
    (∃ (r : Requester) (c : Nat) (s : State),
      c < 32 ∧ Permits s r (0x800000 + R.SHT_CORE_EN) ∧ s.sht.coreEn < 2 ^ 32 ∧ nbit s.sht.coreEn c = false ∧
      (nbit s.sys.cores c = false ∨ s.clusterOn c = false)) ∧
    (∃ (r : Requester) (c : Nat) (s : State),
      c < 32 ∧ Permits s r (0x800000 + R.SHT_CORE_EN) ∧ s.sht.coreEn < 2 ^ 32 ∧ nbit s.sht.coreEn c = false ∧ nbit s.sys.cores c = true ∧
      s.clusterOn c = true) :=
  ⟨⟨(0 : Nat), (Option.get ((shtOf (fun x => { x with ready := [(3, [task0 0x10])] }) live : State).pick (0 : Nat)) (by decide +kernel) : Task), (shtOf (fun x => { x with ready := [(3, [task0 0x10])] }) live : State),
      by decide +kernel⟩,
   ⟨(5 : Nat), (holding (task0 0x10) 900 : State), by decide +kernel⟩,
   ⟨(0 : Nat), (holding (task0 0x10) 900 : State), by decide +kernel⟩,
   ⟨(100 : Nat), (shtOf (fun x => { x with ready := [(3, [task0 0x10])] }) live : State), by decide +kernel⟩,
   ⟨(0 : Nat), (shtOf (fun x => { x with coreEn := 2 }) live : State), by decide +kernel⟩,
   ⟨(0 : Nat), (desc0 0x10 : PostDesc), (regOf (R.SHT_SRC_s_8 + 0x10 * 16) 100 (regOf (R.SHT_SRC_s_4 + 0x10 * 16) 10 (live)) : State),
      by decide +kernel⟩,
   ⟨(0 : Nat), (desc0 0x10 : PostDesc), (shtOf (fun x => { x with ready := [(3, [task0 0x10])] }) live : State), by decide +kernel⟩,
   ⟨(0 : Nat), (desc0 0x10 : PostDesc), (regOf (R.SHT_SRC_s_8 + 0x10 * 16) 65536 (regOf (R.SHT_SRC_s_4 + 0x10 * 16) 0 (regOf (R.SHT_SRC_s_8 + 0x10 * 17) 65536 (regOf (R.SHT_SRC_s_4 + 0x10 * 17) 65536 (live)))) : State),
      by decide +kernel⟩,
   ⟨(0 : Nat), (desc0 0x10 : PostDesc), (regOf (R.SHT_SRC_s_8 + 0x10 * 16) 0 (regOf (R.SHT_SRC_s_4 + 0x10 * 16) 0 (regOf R.SHT_CTRL 1 live)) : State),
      by decide +kernel⟩,
   ⟨(0 : Nat), (desc0 0x10 : PostDesc), (shtOf (fun x => { x with spill := [(3, List.replicate 4096 (desc0 0x10))] }) (regOf R.SHT_CTRL 1 (regOf (R.SHT_SRC_s_8 + 0x10 * 16) 65536 (regOf (R.SHT_SRC_s_4 + 0x10 * 16) 0 (regOf (R.SHT_SRC_s_8 + 0x10 * 17) 65536 (regOf (R.SHT_SRC_s_4 + 0x10 * 17) 65536 (live)))))) : State),
      by decide +kernel⟩,
   ⟨(0 : Nat), (⟨3, 8, false, 1, 0, 1, 64, 0, 0, 0, 0⟩ : PostDesc), (shtOf (fun x => { x with ready := [(3, [task0 0x10])] }) live : State), by decide +kernel⟩,
   ⟨(100 : Nat), (shtOf (fun x => { x with ready := [(3, [task0 0x10])] }) live : State), by decide +kernel⟩,
   ⟨(5 : Nat), (List.head (Store.get (fun _ => []) (regOf (R.SHT_SRC_s_8 + 0x10 * 5) 100 (regOf (R.SHT_SRC_s_4 + 0x10 * 5) 10 (shtOf (fun x => { x with hwHold := [(5, [desc0 5])] }) live)) : State).sht.hwHold (5 : Nat)) (by decide +kernel) : PostDesc), (List.tail (Store.get (fun _ => []) (regOf (R.SHT_SRC_s_8 + 0x10 * 5) 100 (regOf (R.SHT_SRC_s_4 + 0x10 * 5) 10 (shtOf (fun x => { x with hwHold := [(5, [desc0 5])] }) live)) : State).sht.hwHold (5 : Nat)) : List PostDesc), (regOf (R.SHT_SRC_s_8 + 0x10 * 5) 100 (regOf (R.SHT_SRC_s_4 + 0x10 * 5) 10 (shtOf (fun x => { x with hwHold := [(5, [desc0 5])] }) live)) : State),
      by decide +kernel⟩,
   ⟨(0 : Nat), (shtOf (fun x => { x with ready := [(3, [task0 0x10])] }) live : State), by exact .inr (by intro d q h; cases h)⟩,
   ⟨(.slot 0 0 : Requester), (0 : Nat), (shtOf (fun x => { x with ready := [(3, [task0 0x10])] }) live : State),
      by unfold Permits; decide +kernel⟩,
   ⟨(.slot 0 0 : Requester), (0 : Nat), (shtOf (fun x => { x with delay := [(0, [(5, task0 0x10)])] }) live : State),
      by unfold Permits; decide +kernel⟩,
   ⟨(.slot 0 0 : Requester), (0 : Nat), (shtOf (fun x => { x with waiting := [0] }) live : State), by unfold Permits; decide +kernel⟩,
   ⟨(.slot 0 0 : Requester), (0 : Nat), (holding (task0 0x10) 900 : State), by unfold Permits; decide +kernel⟩,
   ⟨(.slot 0 0 : Requester), (0 : Nat), (shtOf (fun x => { x with ready := [(3, [task0 0x10])] }) live : State),
      by unfold Permits; decide +kernel⟩,
   ⟨(.slot 0 0 : Requester), (0 : Nat), (sysOf (fun x => { x with cores := 2 ^ 32 - 2 }) (shtOf (fun x => { x with coreEn := 2 ^ 32 - 2 }) live) : State),
      by unfold Permits; decide +kernel⟩,
   ⟨(.slot 0 0 : Requester), (0 : Nat), (shtOf (fun x => { x with coreEn := 2 }) live : State), by unfold Permits; decide +kernel⟩⟩

/-- States and operands that meet the hypotheses of each clause of CompletionAndWatchdog. -/
theorem test_wit_CompletionAndWatchdog :
    (∃ (c : Nat) (x : Task) (u : Nat) (s : State),
      s.coreRuns c = true ∧ Quiet s ∧ s.holds c = some (x, u)) ∧
    (∃ (c : Nat) (x : Task) (u : Nat) (s : State),
      s.coreRuns c = true ∧ s.sht.waiting = [] ∧ s.holds c = some (x, u)) ∧
    (∃ (c : Nat) (x : Task) (u : Nat) (s : State),
      s.coreRuns c = true ∧ s.sht.waiting = [] ∧ s.holds c = some (x, u)) ∧
    (∃ (c : Nat) (x : Task) (u : Nat) (l : Nat) (n : Nat) (s : State),
      s.coreRuns c = true ∧ s.sht.waiting = [] ∧ s.holds c = some (x, u) ∧ l < 8 ∧ n < 2 ^ 24) ∧
    (∃ (c : Nat) (s : State),
      s.coreRuns c = true ∧ s.holds c = none) ∧
    (∃ (c : Nat) (s : State),
      s.coreRuns c = true ∧ s.holds c = none) ∧
    (∃ (c : Nat) (s : State),
      s.coreRuns c = true ∧ s.holds c = none) ∧
    (∃ (c : Nat) (s : State),
      s.coreRuns c = true ∧ s.holds c = none) ∧
    (∃ (c : Nat) (s : State),
      s.coreRuns c = false) ∧
    (∃ (c : Nat) (s : State),
      s.coreRuns c = false) ∧
    (∃ (c : Nat) (s : State),
      s.coreRuns c = false) ∧
    (∃ (c : Nat) (s : State),
      s.coreRuns c = false) ∧
    (∃ (c : Nat) (s : State),
      s.coreRuns c = false) ∧
    (∃ (c : Nat) (i : Nat) (x : Task) (s : State),
      s.coreRuns c = true ∧ Quiet s ∧ s.waitingTask i = some x) ∧
    (∃ (c : Nat) (i : Nat) (s : State),
      s.coreRuns c = true ∧ s.sht.waiting = [] ∧ s.waitingTask i = none) ∧
    (∃ (k : Nat) (n : Nat) (x : Task) (d : Nat) (s : State),
      s.sht.waiting = [] ∧ (d, x) ∈ s.delayList k ∧ d ≤ n / s.tickOf k) ∧
    (∃ (k : Nat) (n : Nat) (s : State),
      s.sht.waiting = [] ∧ (∀ y ∈ s.delayList k, n / s.tickOf k < y.1)) ∧
    (∃ (c : Nat) (n : Nat) (x : Task) (u : Nat) (s : State),
      s.sht.waiting = [] ∧ s.holds c = some (x, u) ∧ u + msCounts (s.rg R.SHT_WD).toNat < n ∧ x.retries < 3) ∧
    (∃ (c : Nat) (n : Nat) (x : Task) (u : Nat) (s : State),
      Quiet s ∧ s.holds c = some (x, u) ∧ u + msCounts (s.rg R.SHT_WD).toNat < n ∧ 3 ≤ x.retries) ∧
    (∃ (c : Nat) (n : Nat) (x : Task) (u : Nat) (a : Nat) (b : Nat) (l : List Nat) (s : State),
      s.sht.waiting = [] ∧ s.holds c = some (x, u) ∧ u + msCounts (s.rg R.SHT_WD).toNat < n ∧
      Store.get (fun _ => []) s.sht.resets c = a :: b :: l ∧ n < a + hourCounts ∧ n < b + hourCounts) ∧
    (∃ (c : Nat) (s : State),
      s.holds c = none) ∧
    (∃ (c : Nat) (n : Nat) (x : Task) (u : Nat) (s : State),
      s.holds c = some (x, u) ∧ n ≤ u + msCounts (s.rg R.SHT_WD).toNat) :=
  ⟨⟨(0 : Nat), ({ d := { prio := 3, dlist := 0, ser := false, src := 16, key := 0, affinity := 4294967295, entry := 64, arg0 := 0, arg1 := 0, arg2 := 0, delay := 0 }, retries := 0, gen := 0, index := 5, stranded := false, overruns := 0 } : Task), (900 : Nat), (holding (task0 0x10) 900 : State),
      by unfold Quiet; decide +kernel⟩,
   ⟨(0 : Nat), ({ d := { prio := 3, dlist := 0, ser := false, src := 16, key := 0, affinity := 4294967295, entry := 64, arg0 := 0, arg1 := 0, arg2 := 0, delay := 0 }, retries := 0, gen := 0, index := 5, stranded := false, overruns := 0 } : Task), (900 : Nat), (holding (task0 0x10) 900 : State),
      by decide +kernel⟩,
   ⟨(0 : Nat), ({ d := { prio := 3, dlist := 0, ser := false, src := 16, key := 0, affinity := 4294967295, entry := 64, arg0 := 0, arg1 := 0, arg2 := 0, delay := 0 }, retries := 0, gen := 0, index := 5, stranded := false, overruns := 0 } : Task), (900 : Nat), (holding (task0 0x10) 900 : State),
      by decide +kernel⟩,
   ⟨(0 : Nat), ({ d := { prio := 3, dlist := 0, ser := false, src := 16, key := 0, affinity := 4294967295, entry := 64, arg0 := 0, arg1 := 0, arg2 := 0, delay := 0 }, retries := 0, gen := 0, index := 5, stranded := false, overruns := 0 } : Task), (900 : Nat), (7 : Nat), (5 : Nat), (holding (task0 0x10) 900 : State),
      by decide +kernel⟩,
   ⟨(1 : Nat), (holding (task0 0x10) 900 : State), by decide +kernel⟩,
   ⟨(1 : Nat), (holding (task0 0x10) 900 : State), by decide +kernel⟩,
   ⟨(1 : Nat), (holding (task0 0x10) 900 : State), by decide +kernel⟩,
   ⟨(1 : Nat), (holding (task0 0x10) 900 : State), by decide +kernel⟩,
   ⟨(100 : Nat), (holding (task0 0x10) 900 : State), by decide +kernel⟩,
   ⟨(100 : Nat), (holding (task0 0x10) 900 : State), by decide +kernel⟩,
   ⟨(100 : Nat), (holding (task0 0x10) 900 : State), by decide +kernel⟩,
   ⟨(100 : Nat), (holding (task0 0x10) 900 : State), by decide +kernel⟩,
   ⟨(100 : Nat), (holding (task0 0x10) 900 : State), by decide +kernel⟩,
   ⟨(0 : Nat), (5 : Nat), (Option.get ((shtOf (fun x => { x with ready := [(3, [task0 0x10])], used := [(16, 1)] }) live : State).waitingTask (5 : Nat)) (by decide +kernel) : Task), (shtOf (fun x => { x with ready := [(3, [task0 0x10])], used := [(16, 1)] }) live : State),
      by unfold Quiet; decide +kernel⟩,
   ⟨(0 : Nat), (5 : Nat), (holding (task0 0x10) 900 : State), by decide +kernel⟩,
   ⟨(0 : Nat), (40000000000 : Nat), (task0 0x10 : Task), (5 : Nat), (shtOf (fun x => { x with delay := [(0, [(5, task0 0x10)])] }) live : State),
      by decide +kernel⟩,
   ⟨(0 : Nat), (5 : Nat), (holding (task0 0x10) 900 : State), by decide +kernel⟩,
   ⟨(0 : Nat), (40000000000 : Nat), ({ d := { prio := 3, dlist := 0, ser := false, src := 16, key := 0, affinity := 4294967295, entry := 64, arg0 := 0, arg1 := 0, arg2 := 0, delay := 0 }, retries := 0, gen := 0, index := 5, stranded := false, overruns := 0 } : Task), (900 : Nat), (holding (task0 0x10) 900 : State),
      by decide +kernel⟩,
   ⟨(0 : Nat), (40000000000 : Nat), ({ d := { prio := 3, dlist := 0, ser := false, src := 16, key := 0, affinity := 4294967295, entry := 64, arg0 := 0, arg1 := 0, arg2 := 0, delay := 0 }, retries := 3, gen := 0, index := 5, stranded := false, overruns := 0 } : Task), (900 : Nat), (holding { task0 0x10 with retries := 3 } 900 : State),
      by unfold Quiet; decide +kernel⟩,
   ⟨(0 : Nat), (40000000000 : Nat), ({ d := { prio := 3, dlist := 0, ser := false, src := 16, key := 0, affinity := 4294967295, entry := 64, arg0 := 0, arg1 := 0, arg2 := 0, delay := 0 }, retries := 0, gen := 0, index := 5, stranded := false, overruns := 0 } : Task), (900 : Nat), (390000000000 : Nat), (380000000000 : Nat), ([] : List Nat), (shtOf (fun x => { x with resets := [(0, [390000000000, 380000000000])] }) (holding (task0 0x10) 900) : State),
      by decide +kernel⟩,
   ⟨(1 : Nat), (holding (task0 0x10) 900 : State), by decide +kernel⟩,
   ⟨(0 : Nat), (5 : Nat), ({ d := { prio := 3, dlist := 0, ser := false, src := 16, key := 0, affinity := 4294967295, entry := 64, arg0 := 0, arg1 := 0, arg2 := 0, delay := 0 }, retries := 0, gen := 0, index := 5, stranded := false, overruns := 0 } : Task), (900 : Nat), (holding (task0 0x10) 900 : State),
      by decide +kernel⟩⟩

/-- States and operands that meet the hypotheses of each clause of ExtensionTasks. -/
theorem test_wit_ExtensionTasks :
    (∃ (c : Nat) (x : Task) (u : Nat) (s : State),
      Quiet s ∧ s.extTask c = some (x, u)) ∧
    (∃ (c : Nat) (x : Task) (u : Nat) (s : State),
      s.sht.waiting = [] ∧ s.extTask c = some (x, u)) ∧
    (∃ (c : Nat) (x : Task) (u : Nat) (s : State),
      s.sht.waiting = [] ∧ s.extTask c = some (x, u)) ∧
    (∃ (c : Nat) (x : Task) (u : Nat) (l : Nat) (n : Nat) (s : State),
      s.sht.waiting = [] ∧ s.extTask c = some (x, u) ∧ l < 8 ∧ n < 2 ^ 24) ∧
    (∃ (c : Nat) (x : Task) (u : Nat) (e : ExtCfg) (i : Nat) (d : Nat) (s : State),
      s.extTask c = some (x, u) ∧ s.extCfg x.d.src = some e ∧ i ∈ e.entries ∧ s.sht.accepting = true ∧ s.decidePost x.d.src = .accept ∧
      (s.sht.spill = [] ∨ bit (s.rg R.SHT_CTRL) 0 = false ∨ d % 2 ^ 24 ≠ 0)) ∧
    (∃ (c : Nat) (x : Task) (u : Nat) (e : ExtCfg) (i : Nat) (d : Nat) (s : State),
      s.extTask c = some (x, u) ∧ s.extCfg x.d.src = some e ∧ i ∈ e.entries ∧ s.sht.accepting = true ∧
      (bit (s.rg R.SHT_CTRL) 0 = false ∨ d % 2 ^ 24 ≠ 0) ∧ s.decidePost x.d.src = .cap) ∧
    (∃ (c : Nat) (x : Task) (u : Nat) (e : ExtCfg) (i : Nat) (d : Nat) (s : State),
      s.extTask c = some (x, u) ∧ s.extCfg x.d.src = some e ∧ i ∈ e.entries ∧ s.sht.accepting = true ∧
      (bit (s.rg R.SHT_CTRL) 0 = false ∨ d % 2 ^ 24 ≠ 0) ∧ s.decidePost x.d.src = .full) ∧
    (∃ (c : Nat) (x : Task) (u : Nat) (e : ExtCfg) (i : Nat) (s : State),
      s.extTask c = some (x, u) ∧ s.extCfg x.d.src = some e ∧ s.sht.accepting = true ∧ i ∉ e.entries) ∧
    (∃ (c : Nat) (x : Task) (u : Nat) (y : Task) (i : Nat) (s : State),
      Quiet s ∧ s.extTask c = some (x, u) ∧ s.waitingTask i = some y ∧ y.d.src = x.d.src) ∧
    (∃ (c : Nat) (x : Task) (u : Nat) (y : Task) (i : Nat) (s : State),
      s.sht.waiting = [] ∧ s.extTask c = some (x, u) ∧ s.waitingTask i = some y ∧ y.d.src ≠ x.d.src) ∧
    (∃ (c : Nat) (x : Task) (u : Nat) (i : Nat) (s : State),
      s.sht.waiting = [] ∧ s.extTask c = some (x, u) ∧ s.waitingTask i = none ∧ x.id = i) ∧
    (∃ (c : Nat) (s : State),
      s.extTask c = none) ∧
    (∃ (c : Nat) (s : State),
      s.extTask c = none) ∧
    (∃ (c : Nat) (s : State),
      s.extTask c = none) ∧
    (∃ (c : Nat) (s : State),
      s.extTask c = none) ∧
    (∃ (c : Nat) (s : State),
      s.extTask c = none) ∧
    (∃ (c : Nat) (s : State),
      s.extTask c = none) ∧
    (∃ (c : Nat) (s : State),
      s.extTask c = none) ∧
    (∃ (c : Nat) (s : State),
      s.extTask c = none) ∧
    (∃ (c : Nat) (x : Task) (u : Nat) (e : ExtCfg) (n : Nat) (s : State),
      s.extTask c = some (x, u) ∧ s.extCfg x.d.src = some e ∧ n ≤ u + usCounts e.budgetUs) ∧
    (∃ (c : Nat) (x : Task) (u : Nat) (e : ExtCfg) (n : Nat) (s : State),
      s.sht.waiting = [] ∧ s.extTask c = some (x, u) ∧ s.extCfg x.d.src = some e ∧ u + usCounts e.budgetUs < n ∧ x.overruns < 3) ∧
    (∃ (c : Nat) (x : Task) (u : Nat) (e : ExtCfg) (n : Nat) (s : State),
      Quiet s ∧ s.extTask c = some (x, u) ∧ s.extCfg x.d.src = some e ∧ u + usCounts e.budgetUs < n ∧ 3 ≤ x.overruns ∧
      s.active Ev.EXT_OVERRUN = false) ∧
    (∃ (c : Nat) (x : Task) (u : Nat) (s : State),
      Quiet s ∧ s.extTask c = some (x, u) ∧ s.active Ev.EXT_FAULT = false) :=
  ⟨⟨(0 : Nat), ({ d := { prio := 3, dlist := 0, ser := false, src := 32, key := 0, affinity := 4294967295, entry := 64, arg0 := 0, arg1 := 0, arg2 := 0, delay := 0 }, retries := 0, gen := 0, index := 5, stranded := false, overruns := 0 } : Task), (900 : Nat), (holding (task0 0x20) 900 : State),
      by unfold Quiet; decide +kernel⟩,
   ⟨(0 : Nat), ({ d := { prio := 3, dlist := 0, ser := false, src := 32, key := 0, affinity := 4294967295, entry := 64, arg0 := 0, arg1 := 0, arg2 := 0, delay := 0 }, retries := 0, gen := 0, index := 5, stranded := false, overruns := 0 } : Task), (900 : Nat), (holding (task0 0x20) 900 : State),
      by decide +kernel⟩,
   ⟨(0 : Nat), ({ d := { prio := 3, dlist := 0, ser := false, src := 32, key := 0, affinity := 4294967295, entry := 64, arg0 := 0, arg1 := 0, arg2 := 0, delay := 0 }, retries := 0, gen := 0, index := 5, stranded := false, overruns := 0 } : Task), (900 : Nat), (holding (task0 0x20) 900 : State),
      by decide +kernel⟩,
   ⟨(0 : Nat), ({ d := { prio := 3, dlist := 0, ser := false, src := 32, key := 0, affinity := 4294967295, entry := 64, arg0 := 0, arg1 := 0, arg2 := 0, delay := 0 }, retries := 0, gen := 0, index := 5, stranded := false, overruns := 0 } : Task), (900 : Nat), (7 : Nat), (5 : Nat), (holding (task0 0x20) 900 : State),
      by decide +kernel⟩,
   ⟨(0 : Nat), ({ d := { prio := 3, dlist := 0, ser := false, src := 32, key := 0, affinity := 4294967295, entry := 64, arg0 := 0, arg1 := 0, arg2 := 0, delay := 0 }, retries := 0, gen := 0, index := 5, stranded := false, overruns := 0 } : Task), (900 : Nat), (Option.get ((regOf (R.SHT_SRC_s_8 + 0x10 * 32) 100 (regOf (R.SHT_SRC_s_4 + 0x10 * 32) 10 (holding (task0 0x20) 900)) : State).extCfg ({ d := { prio := 3, dlist := 0, ser := false, src := 32, key := 0, affinity := 4294967295, entry := 64, arg0 := 0, arg1 := 0, arg2 := 0, delay := 0 }, retries := 0, gen := 0, index := 5, stranded := false, overruns := 0 } : Task).d.src) (by decide +kernel) : ExtCfg), (64 : Nat), (0 : Nat), (regOf (R.SHT_SRC_s_8 + 0x10 * 32) 100 (regOf (R.SHT_SRC_s_4 + 0x10 * 32) 10 (holding (task0 0x20) 900)) : State),
      by decide +kernel⟩,
   ⟨(0 : Nat), ({ d := { prio := 3, dlist := 0, ser := false, src := 32, key := 0, affinity := 4294967295, entry := 64, arg0 := 0, arg1 := 0, arg2 := 0, delay := 0 }, retries := 0, gen := 0, index := 5, stranded := false, overruns := 0 } : Task), (900 : Nat), (Option.get ((holding (task0 0x20) 900 : State).extCfg ({ d := { prio := 3, dlist := 0, ser := false, src := 32, key := 0, affinity := 4294967295, entry := 64, arg0 := 0, arg1 := 0, arg2 := 0, delay := 0 }, retries := 0, gen := 0, index := 5, stranded := false, overruns := 0 } : Task).d.src) (by decide +kernel) : ExtCfg), (64 : Nat), (0 : Nat), (holding (task0 0x20) 900 : State),
      by decide +kernel⟩,
   ⟨(0 : Nat), ({ d := { prio := 3, dlist := 0, ser := false, src := 32, key := 0, affinity := 4294967295, entry := 64, arg0 := 0, arg1 := 0, arg2 := 0, delay := 0 }, retries := 0, gen := 0, index := 5, stranded := false, overruns := 0 } : Task), (900 : Nat), (Option.get ((regOf (R.SHT_SRC_s_8 + 0x10 * 32) 65536 (regOf (R.SHT_SRC_s_4 + 0x10 * 32) 0 (regOf (R.SHT_SRC_s_8 + 0x10 * 17) 65536 (regOf (R.SHT_SRC_s_4 + 0x10 * 17) 65536 (holding (task0 0x20) 900)))) : State).extCfg ({ d := { prio := 3, dlist := 0, ser := false, src := 32, key := 0, affinity := 4294967295, entry := 64, arg0 := 0, arg1 := 0, arg2 := 0, delay := 0 }, retries := 0, gen := 0, index := 5, stranded := false, overruns := 0 } : Task).d.src) (by decide +kernel) : ExtCfg), (64 : Nat), (0 : Nat), (regOf (R.SHT_SRC_s_8 + 0x10 * 32) 65536 (regOf (R.SHT_SRC_s_4 + 0x10 * 32) 0 (regOf (R.SHT_SRC_s_8 + 0x10 * 17) 65536 (regOf (R.SHT_SRC_s_4 + 0x10 * 17) 65536 (holding (task0 0x20) 900)))) : State),
      by decide +kernel⟩,
   ⟨(0 : Nat), ({ d := { prio := 3, dlist := 0, ser := false, src := 32, key := 0, affinity := 4294967295, entry := 64, arg0 := 0, arg1 := 0, arg2 := 0, delay := 0 }, retries := 0, gen := 0, index := 5, stranded := false, overruns := 0 } : Task), (900 : Nat), (Option.get ((holding (task0 0x20) 900 : State).extCfg ({ d := { prio := 3, dlist := 0, ser := false, src := 32, key := 0, affinity := 4294967295, entry := 64, arg0 := 0, arg1 := 0, arg2 := 0, delay := 0 }, retries := 0, gen := 0, index := 5, stranded := false, overruns := 0 } : Task).d.src) (by decide +kernel) : ExtCfg), (65 : Nat), (holding (task0 0x20) 900 : State),
      by decide +kernel⟩,
   ⟨(0 : Nat), ({ d := { prio := 3, dlist := 0, ser := false, src := 32, key := 0, affinity := 4294967295, entry := 64, arg0 := 0, arg1 := 0, arg2 := 0, delay := 0 }, retries := 0, gen := 0, index := 5, stranded := false, overruns := 0 } : Task), (900 : Nat), (Option.get ((shtOf (fun x => { x with ready := [(3, [{ task0 0x20 with index := 6 }])], used := [(32, 2)] }) (holding (task0 0x20) 900) : State).waitingTask (6 : Nat)) (by decide +kernel) : Task), (6 : Nat), (shtOf (fun x => { x with ready := [(3, [{ task0 0x20 with index := 6 }])], used := [(32, 2)] }) (holding (task0 0x20) 900) : State),
      by unfold Quiet; decide +kernel⟩,
   ⟨(0 : Nat), ({ d := { prio := 3, dlist := 0, ser := false, src := 32, key := 0, affinity := 4294967295, entry := 64, arg0 := 0, arg1 := 0, arg2 := 0, delay := 0 }, retries := 0, gen := 0, index := 5, stranded := false, overruns := 0 } : Task), (900 : Nat), (Option.get ((shtOf (fun x => { x with ready := [(3, [{ task0 0x10 with index := 6 }])] }) (holding (task0 0x20) 900) : State).waitingTask (6 : Nat)) (by decide +kernel) : Task), (6 : Nat), (shtOf (fun x => { x with ready := [(3, [{ task0 0x10 with index := 6 }])] }) (holding (task0 0x20) 900) : State),
      by decide +kernel⟩,
   ⟨(0 : Nat), ({ d := { prio := 3, dlist := 0, ser := false, src := 32, key := 0, affinity := 4294967295, entry := 64, arg0 := 0, arg1 := 0, arg2 := 0, delay := 0 }, retries := 0, gen := 0, index := 5, stranded := false, overruns := 0 } : Task), (900 : Nat), (({ d := { prio := 3, dlist := 0, ser := false, src := 32, key := 0, affinity := 4294967295, entry := 64, arg0 := 0, arg1 := 0, arg2 := 0, delay := 0 }, retries := 0, gen := 0, index := 5, stranded := false, overruns := 0 } : Task).id : Nat), (holding (task0 0x20) 900 : State),
      by decide +kernel⟩,
   ⟨(1 : Nat), (holding (task0 0x20) 900 : State), by decide +kernel⟩,
   ⟨(1 : Nat), (holding (task0 0x20) 900 : State), by decide +kernel⟩,
   ⟨(1 : Nat), (holding (task0 0x20) 900 : State), by decide +kernel⟩,
   ⟨(1 : Nat), (holding (task0 0x20) 900 : State), by decide +kernel⟩,
   ⟨(1 : Nat), (holding (task0 0x20) 900 : State), by decide +kernel⟩,
   ⟨(1 : Nat), (holding (task0 0x20) 900 : State), by decide +kernel⟩,
   ⟨(1 : Nat), (holding (task0 0x20) 900 : State), by decide +kernel⟩,
   ⟨(1 : Nat), (holding (task0 0x20) 900 : State), by decide +kernel⟩,
   ⟨(0 : Nat), ({ d := { prio := 3, dlist := 0, ser := false, src := 32, key := 0, affinity := 4294967295, entry := 64, arg0 := 0, arg1 := 0, arg2 := 0, delay := 0 }, retries := 0, gen := 0, index := 5, stranded := false, overruns := 0 } : Task), (900 : Nat), (Option.get ((holding (task0 0x20) 900 : State).extCfg ({ d := { prio := 3, dlist := 0, ser := false, src := 32, key := 0, affinity := 4294967295, entry := 64, arg0 := 0, arg1 := 0, arg2 := 0, delay := 0 }, retries := 0, gen := 0, index := 5, stranded := false, overruns := 0 } : Task).d.src) (by decide +kernel) : ExtCfg), (5 : Nat), (holding (task0 0x20) 900 : State),
      by decide +kernel⟩,
   ⟨(0 : Nat), ({ d := { prio := 3, dlist := 0, ser := false, src := 32, key := 0, affinity := 4294967295, entry := 64, arg0 := 0, arg1 := 0, arg2 := 0, delay := 0 }, retries := 0, gen := 0, index := 5, stranded := false, overruns := 0 } : Task), (900 : Nat), (Option.get ((holding (task0 0x20) 900 : State).extCfg ({ d := { prio := 3, dlist := 0, ser := false, src := 32, key := 0, affinity := 4294967295, entry := 64, arg0 := 0, arg1 := 0, arg2 := 0, delay := 0 }, retries := 0, gen := 0, index := 5, stranded := false, overruns := 0 } : Task).d.src) (by decide +kernel) : ExtCfg), (30000000 : Nat), (holding (task0 0x20) 900 : State),
      by decide +kernel⟩,
   ⟨(0 : Nat), ({ d := { prio := 3, dlist := 0, ser := false, src := 32, key := 0, affinity := 4294967295, entry := 64, arg0 := 0, arg1 := 0, arg2 := 0, delay := 0 }, retries := 0, gen := 0, index := 5, stranded := false, overruns := 3 } : Task), (900 : Nat), (Option.get ((holding { task0 0x20 with overruns := 3 } 900 : State).extCfg ({ d := { prio := 3, dlist := 0, ser := false, src := 32, key := 0, affinity := 4294967295, entry := 64, arg0 := 0, arg1 := 0, arg2 := 0, delay := 0 }, retries := 0, gen := 0, index := 5, stranded := false, overruns := 3 } : Task).d.src) (by decide +kernel) : ExtCfg), (30000000 : Nat), (holding { task0 0x20 with overruns := 3 } 900 : State),
      by unfold Quiet; decide +kernel⟩,
   ⟨(0 : Nat), ({ d := { prio := 3, dlist := 0, ser := false, src := 32, key := 0, affinity := 4294967295, entry := 64, arg0 := 0, arg1 := 0, arg2 := 0, delay := 0 }, retries := 0, gen := 0, index := 5, stranded := false, overruns := 0 } : Task), (900 : Nat), (holding (task0 0x20) 900 : State),
      by unfold Quiet; decide +kernel⟩⟩

/-- States and operands that meet the hypotheses of each clause of WarpReadings. -/
theorem test_wit_WarpReadings :
    (∃ (e : Entry) (q : List WarpItem) (s : State),
      s.sys.st = .active ∧ s.msn.toWarp = .reading e :: q ∧ (s.wch e.ch).en = false) ∧
    (∃ (e : Entry) (q : List WarpItem) (s : State),
      s.sys.st = .active ∧ s.msn.toWarp = .reading e :: q ∧ (s.wch e.ch).en = true ∧ e.ridx ≤ (s.wch e.ch).lastIdx) ∧
    (∃ (e : Entry) (q : List WarpItem) (s : State),
      s.sys.st = .active ∧ s.msn.toWarp = .reading e :: q ∧ (s.wch e.ch).en = true ∧ (s.wch e.ch).lastIdx < e.ridx ∧
      (s.wch e.ch).covered e.ridx = false ∧ s.queueUsed + (s.wch e.ch).queue.length + (s.wch e.ch).held.length < 7864320) ∧
    (∃ (e : Entry) (q : List WarpItem) (s : State),
      s.sys.st = .active ∧ s.msn.toWarp = .reading e :: q ∧ e.kind = .actual ∧ NextEntry s e ∧ (s.wch e.ch).lastTime = 0 ∧
      e.totF < 10 ^ (s.wch e.ch).n ∧ e.totR < 10 ^ (s.wch e.ch).n) ∧
    (∃ (e : Entry) (q : List WarpItem) (s : State),
      s.sys.st = .active ∧ s.msn.toWarp = .reading e :: q ∧ e.kind = .actual ∧ (s.wch e.ch).en = true ∧ (s.wch e.ch).held = [] ∧
      e.ridx = (s.wch e.ch).lastIdx + 1 ∧ (s.everLocked = true → e.capture ≤ s.nowNs + s.futTol * second) ∧
      s.nowNs ≤ e.capture + s.pastMax ∧ (s.wch e.ch).armed = true ∧ (s.wch e.ch).anchorIdx = none ∧ (s.wch e.ch).queue = [] ∧
      s.onProbe e.ch = false ∧ s.queueUsed < 7864320 ∧ e.totF < 10 ^ (s.wch e.ch).n ∧ e.totR < 10 ^ (s.wch e.ch).n) ∧
    (∃ (e : Entry) (q : List WarpItem) (dF : Nat) (dR : Nat) (s : State),
      s.sys.st = .active ∧ s.msn.toWarp = .reading e :: q ∧ e.kind = .actual ∧ NextEntry s e ∧ (s.wch e.ch).lastTime ≠ 0 ∧
      (s.wch e.ch).est ≠ 0 ∧ wDelta (10 ^ (s.wch e.ch).n) (s.wch e.ch).totF e.totF = some dF ∧
      wDelta (10 ^ (s.wch e.ch).n) (s.wch e.ch).totR e.totR = some dR ∧
      dF ≤ (s.psetOf (s.wch e.ch)).qmax * (e.ridx - (s.wch e.ch).baseIdx) ∧
      dR ≤ (s.psetOf (s.wch e.ch)).qmax * (e.ridx - (s.wch e.ch).baseIdx)) ∧
    (∃ (e : Entry) (q : List WarpItem) (dF : Nat) (dR : Nat) (s : State),
      s.sys.st = .active ∧ s.msn.toWarp = .reading e :: q ∧ e.kind = .actual ∧ NextEntry s e ∧ (s.wch e.ch).lastTime ≠ 0 ∧
      (s.wch e.ch).est = 0 ∧ wDelta (10 ^ (s.wch e.ch).n) (s.wch e.ch).totF e.totF = some dF ∧
      wDelta (10 ^ (s.wch e.ch).n) (s.wch e.ch).totR e.totR = some dR ∧
      dF ≤ (s.psetOf (s.wch e.ch)).qmax * (e.ridx - (s.wch e.ch).baseIdx) ∧
      dR ≤ (s.psetOf (s.wch e.ch)).qmax * (e.ridx - (s.wch e.ch).baseIdx)) ∧
    (∃ (e : Entry) (q : List WarpItem) (s : State),
      s.sys.st = .active ∧ s.msn.toWarp = .reading e :: q ∧ e.kind = .actual ∧ NextEntry s e ∧ (s.wch e.ch).lastTime ≠ 0 ∧
      (wDelta (10 ^ (s.wch e.ch).n) (s.wch e.ch).totF e.totF = none ∨ wDelta (10 ^ (s.wch e.ch).n) (s.wch e.ch).totR e.totR = none ∨ (∃ dF dR, wDelta (10 ^ (s.wch e.ch).n) (s.wch e.ch).totF e.totF = some dF ∧
      wDelta (10 ^ (s.wch e.ch).n) (s.wch e.ch).totR e.totR = some dR ∧
      ((s.psetOf (s.wch e.ch)).qmax * (e.ridx - (s.wch e.ch).baseIdx) < dF ∨ (s.psetOf (s.wch e.ch)).qmax * (e.ridx - (s.wch e.ch).baseIdx) < dR)))) ∧
    (∃ (e : Entry) (s : State),
      s.sys.st = .active ∧ (s.wch e.ch).en = true ∧ (s.wch e.ch).held = [] ∧ e.ridx = (s.wch e.ch).lastIdx + 1 ∧ ((s.everLocked = true ∧
      s.nowNs + s.futTol * second < e.capture) ∨ e.capture + s.pastMax < s.nowNs) ∧ s.queueUsed + (s.wch e.ch).queue.length < 7864320) ∧
    (∃ (ch : Chid) (x : Nat) (y : Nat) (q : List WarpItem) (s : State),
      s.msn.toWarp = .gap ch x y :: q ∧ (s.wch ch).en = true ∧ (s.wch ch).lowest = none) ∧
    (∃ (ch : Chid) (x : Nat) (y : Nat) (q : List WarpItem) (a : Nat) (e : Entry) (s : State),
      s.msn.toWarp = .gap ch x y :: q ∧ (s.wch ch).en = true ∧ (s.wch ch).held = [(a, e)] ∧ e.kind ≠ .gap ∧ e.ch = ch ∧
      (s.wch ch).lastIdx < e.ridx ∧ x ≤ (s.wch ch).lastIdx + 1 ∧ y + 1 = e.ridx) ∧
    (∃ (ch : Chid) (x : Nat) (y : Nat) (q : List WarpItem) (s : State),
      s.msn.toWarp = .gap ch x y :: q ∧ (s.wch ch).en = false) ∧
    (∃ (s : State),
      (∀ ch x y q, s.msn.toWarp ≠ .gap ch x y :: q)) ∧
    (∃ (s : State),
      s.sys.st ≠ .active ∧ s.sys.st ≠ .start) ∧
    (∃ (ch : Chid) (n : Nat) (a : Nat) (e : Entry) (s : State),
      (s.wch ch).held = [(a, e)] ∧ e.kind ≠ .gap ∧ e.ch = ch ∧ (s.wch ch).lastIdx < e.ridx ∧ a + s.gapWait ≤ n) ∧
    (∃ (ch : Chid) (n : Nat) (s : State),
      (∀ h ∈ (s.wch ch).held, n < h.1 + s.gapWait)) :=
  ⟨⟨({ ch := 0, ridx := 1, capture := 1000000000000000, flags := 0, gaplen := 0, totF := 50, totR := 0, m0 := 0, m1 := 0, m2 := 0, disp := 0, kind := EntryKind.actual, jseq := 0 } : Entry), ([] : List WarpItem), (withItem (.reading (ent 0 1 (1000000 * second) 50)) (chOf 0 (fun c => { c with en := false }) live) : State),
      by decide +kernel⟩,
   ⟨({ ch := 0, ridx := 1, capture := 1000000000000000, flags := 0, gaplen := 0, totF := 50, totR := 0, m0 := 0, m1 := 0, m2 := 0, disp := 0, kind := EntryKind.actual, jseq := 0 } : Entry), ([] : List WarpItem), (withItem (.reading (ent 0 1 (1000000 * second) 50)) (chOf 0 (fun c => { c with lastIdx := 1 }) live) : State),
      by decide +kernel⟩,
   ⟨({ ch := 0, ridx := 3, capture := 1000000000000000, flags := 0, gaplen := 0, totF := 50, totR := 0, m0 := 0, m1 := 0, m2 := 0, disp := 0, kind := EntryKind.actual, jseq := 0 } : Entry), ([] : List WarpItem), (withItem (.reading (ent 0 3 (1000000 * second) 50)) live : State),
      by decide +kernel⟩,
   ⟨({ ch := 0, ridx := 1, capture := 1000000000000000, flags := 0, gaplen := 0, totF := 50, totR := 0, m0 := 0, m1 := 0, m2 := 0, disp := 0, kind := EntryKind.actual, jseq := 0 } : Entry), ([] : List WarpItem), (withItem (.reading (ent 0 1 (1000000 * second) 50)) live : State),
      by unfold NextEntry; decide +kernel⟩,
   ⟨({ ch := 0, ridx := 1, capture := 1000000000000000, flags := 0, gaplen := 0, totF := 50, totR := 0, m0 := 0, m1 := 0, m2 := 0, disp := 0, kind := EntryKind.actual, jseq := 0 } : Entry), ([] : List WarpItem), (withItem (.reading (ent 0 1 (1000000 * second) 50)) (chOf 0 (fun c => { c with armed := true }) live) : State),
      by decide +kernel⟩,
   ⟨({ ch := 0, ridx := 1, capture := 1000000000000000, flags := 0, gaplen := 0, totF := 50, totR := 0, m0 := 0, m1 := 0, m2 := 0, disp := 0, kind := EntryKind.actual, jseq := 0 } : Entry), ([] : List WarpItem), (Option.get (wDelta (10 ^ ((withItem (.reading (ent 0 1 (1000000 * second) 50)) (chOf 0 (fun c => { c with lastTime := 5, totF := 50, baseIdx := 0, est := 1 }) live) : State).wch ({ ch := 0, ridx := 1, capture := 1000000000000000, flags := 0, gaplen := 0, totF := 50, totR := 0, m0 := 0, m1 := 0, m2 := 0, disp := 0, kind := EntryKind.actual, jseq := 0 } : Entry).ch).n) ((withItem (.reading (ent 0 1 (1000000 * second) 50)) (chOf 0 (fun c => { c with lastTime := 5, totF := 50, baseIdx := 0, est := 1 }) live) : State).wch ({ ch := 0, ridx := 1, capture := 1000000000000000, flags := 0, gaplen := 0, totF := 50, totR := 0, m0 := 0, m1 := 0, m2 := 0, disp := 0, kind := EntryKind.actual, jseq := 0 } : Entry).ch).totF ({ ch := 0, ridx := 1, capture := 1000000000000000, flags := 0, gaplen := 0, totF := 50, totR := 0, m0 := 0, m1 := 0, m2 := 0, disp := 0, kind := EntryKind.actual, jseq := 0 } : Entry).totF) (by decide +kernel) : Nat), (Option.get (wDelta (10 ^ ((withItem (.reading (ent 0 1 (1000000 * second) 50)) (chOf 0 (fun c => { c with lastTime := 5, totF := 50, baseIdx := 0, est := 1 }) live) : State).wch ({ ch := 0, ridx := 1, capture := 1000000000000000, flags := 0, gaplen := 0, totF := 50, totR := 0, m0 := 0, m1 := 0, m2 := 0, disp := 0, kind := EntryKind.actual, jseq := 0 } : Entry).ch).n) ((withItem (.reading (ent 0 1 (1000000 * second) 50)) (chOf 0 (fun c => { c with lastTime := 5, totF := 50, baseIdx := 0, est := 1 }) live) : State).wch ({ ch := 0, ridx := 1, capture := 1000000000000000, flags := 0, gaplen := 0, totF := 50, totR := 0, m0 := 0, m1 := 0, m2 := 0, disp := 0, kind := EntryKind.actual, jseq := 0 } : Entry).ch).totR ({ ch := 0, ridx := 1, capture := 1000000000000000, flags := 0, gaplen := 0, totF := 50, totR := 0, m0 := 0, m1 := 0, m2 := 0, disp := 0, kind := EntryKind.actual, jseq := 0 } : Entry).totR) (by decide +kernel) : Nat), (withItem (.reading (ent 0 1 (1000000 * second) 50)) (chOf 0 (fun c => { c with lastTime := 5, totF := 50, baseIdx := 0, est := 1 }) live) : State),
      by unfold NextEntry; decide +kernel⟩,
   ⟨({ ch := 0, ridx := 1, capture := 1000000000000000, flags := 0, gaplen := 0, totF := 50, totR := 0, m0 := 0, m1 := 0, m2 := 0, disp := 0, kind := EntryKind.actual, jseq := 0 } : Entry), ([] : List WarpItem), (Option.get (wDelta (10 ^ ((withItem (.reading (ent 0 1 (1000000 * second) 50)) (chOf 0 (fun c => { c with lastTime := 5, totF := 50, baseIdx := 0 }) live) : State).wch ({ ch := 0, ridx := 1, capture := 1000000000000000, flags := 0, gaplen := 0, totF := 50, totR := 0, m0 := 0, m1 := 0, m2 := 0, disp := 0, kind := EntryKind.actual, jseq := 0 } : Entry).ch).n) ((withItem (.reading (ent 0 1 (1000000 * second) 50)) (chOf 0 (fun c => { c with lastTime := 5, totF := 50, baseIdx := 0 }) live) : State).wch ({ ch := 0, ridx := 1, capture := 1000000000000000, flags := 0, gaplen := 0, totF := 50, totR := 0, m0 := 0, m1 := 0, m2 := 0, disp := 0, kind := EntryKind.actual, jseq := 0 } : Entry).ch).totF ({ ch := 0, ridx := 1, capture := 1000000000000000, flags := 0, gaplen := 0, totF := 50, totR := 0, m0 := 0, m1 := 0, m2 := 0, disp := 0, kind := EntryKind.actual, jseq := 0 } : Entry).totF) (by decide +kernel) : Nat), (Option.get (wDelta (10 ^ ((withItem (.reading (ent 0 1 (1000000 * second) 50)) (chOf 0 (fun c => { c with lastTime := 5, totF := 50, baseIdx := 0 }) live) : State).wch ({ ch := 0, ridx := 1, capture := 1000000000000000, flags := 0, gaplen := 0, totF := 50, totR := 0, m0 := 0, m1 := 0, m2 := 0, disp := 0, kind := EntryKind.actual, jseq := 0 } : Entry).ch).n) ((withItem (.reading (ent 0 1 (1000000 * second) 50)) (chOf 0 (fun c => { c with lastTime := 5, totF := 50, baseIdx := 0 }) live) : State).wch ({ ch := 0, ridx := 1, capture := 1000000000000000, flags := 0, gaplen := 0, totF := 50, totR := 0, m0 := 0, m1 := 0, m2 := 0, disp := 0, kind := EntryKind.actual, jseq := 0 } : Entry).ch).totR ({ ch := 0, ridx := 1, capture := 1000000000000000, flags := 0, gaplen := 0, totF := 50, totR := 0, m0 := 0, m1 := 0, m2 := 0, disp := 0, kind := EntryKind.actual, jseq := 0 } : Entry).totR) (by decide +kernel) : Nat), (withItem (.reading (ent 0 1 (1000000 * second) 50)) (chOf 0 (fun c => { c with lastTime := 5, totF := 50, baseIdx := 0 }) live) : State),
      by unfold NextEntry; decide +kernel⟩,
   ⟨({ ch := 0, ridx := 1, capture := 1000000000000000, flags := 0, gaplen := 0, totF := 50, totR := 0, m0 := 0, m1 := 0, m2 := 0, disp := 0, kind := EntryKind.actual, jseq := 0 } : Entry), ([] : List WarpItem), (withItem (.reading (ent 0 1 (1000000 * second) 50)) (chOf 0 (fun c => { c with lastTime := 5, totF := 60, baseIdx := 0 }) live) : State),
      by unfold NextEntry; exact ⟨by decide +kernel, by decide +kernel, by decide +kernel, by decide +kernel,
      by decide +kernel, .inl (by decide +kernel)⟩⟩,
   ⟨(ent 0 1 (1001000 * second) 50 : Entry), (withItem (.reading (ent 0 3 (1000000 * second) 50)) live : State), by decide +kernel⟩,
   ⟨(0 : Chid), (1 : Nat), (3 : Nat), ([] : List WarpItem), (withItem (.gap 0 1 3) live : State), by decide +kernel⟩,
   ⟨(0 : Chid), (1 : Nat), (2 : Nat), ([] : List WarpItem), (5 : Nat), (ent 0 3 7 50 : Entry), (withItem (.gap 0 1 2) (chOf 0 (fun c => { c with held := [(5, ent 0 3 7 50)] }) live) : State),
      by decide +kernel⟩,
   ⟨(0 : Chid), (1 : Nat), (2 : Nat), ([] : List WarpItem), (withItem (.gap 0 1 2) (chOf 0 (fun c => { c with en := false }) live) : State), by decide +kernel⟩,
   ⟨(withItem (.reading (ent 0 1 (1000000 * second) 50)) (chOf 0 (fun c => { c with en := false }) live) : State),
      by intro ch x y q h; cases h⟩,
   ⟨pairS, by decide +kernel⟩,
   ⟨((ent 0 3 7 50 : Entry).ch : Chid), (4000000000000000 : Nat), (5 : Nat), (ent 0 3 7 50 : Entry), (chOf 0 (fun c => { c with held := [(5, ent 0 3 7 50)] }) live : State),
      by decide +kernel⟩,
   ⟨(0 : Chid), (4000000000000000 : Nat), (withItem (.reading (ent 0 1 (1000000 * second) 50)) (chOf 0 (fun c => { c with en := false }) live) : State),
      by decide +kernel⟩⟩

/-- States and operands that meet the hypotheses of each clause of Handoff. -/
theorem test_wit_Handoff :
    (∃ (ch : Chid) (e : Entry) (q : List Entry) (s : State),
      (s.wch ch).queue = e :: q ∧ s.slv.handoff = true ∧ s.onProbe ch = false ∧ (s.wch ch).mayOffer e = true ∧ s.outstanding < 256) ∧
    (∃ (ch : Chid) (s : State),
      (s.slv.handoff = false ∨ s.onProbe ch = true ∨ 256 ≤ s.outstanding ∨ (∀ e q, (s.wch ch).queue = e :: q → (s.wch ch).mayOffer e = false))) ∧
    (∃ (ch : Chid) (k : Nat) (d : Nat) (e : Entry) (q : List (Chid × Nat × Nat)) (s : State),
      s.slv.dispo = (ch, k, d) :: q ∧ d < 2 ∧ (s.wch ch).queue.find? (fun x => x.ridx = k) = some e ∧ (s.wch ch).anchorIdx ≠ some k) ∧
    (∃ (ch : Chid) (k : Nat) (d : Nat) (e : Entry) (q : List (Chid × Nat × Nat)) (s : State),
      s.slv.dispo = (ch, k, d) :: q ∧ d < 2 ∧ (s.wch ch).queue.find? (fun x => x.ridx = k) = some e ∧ (s.wch ch).anchorIdx = some k) ∧
    (∃ (ch : Chid) (k : Nat) (e : Entry) (q : List (Chid × Nat × Nat)) (s : State),
      s.slv.dispo = (ch, k, 2) :: q ∧ (s.wch ch).queue.find? (fun x => x.ridx = k) = some e) ∧
    (∃ (ch : Chid) (k : Nat) (e : Entry) (q : List (Chid × Nat × Nat)) (s : State),
      s.slv.dispo = (ch, k, 3) :: q ∧ (s.wch ch).queue.find? (fun x => x.ridx = k) = some e) ∧
    (∃ (ch : Chid) (k : Nat) (d : Nat) (q : List (Chid × Nat × Nat)) (s : State),
      s.slv.dispo = (ch, k, d) :: q ∧ (s.wch ch).queue.find? (fun x => x.ridx = k) = none) ∧
    (∃ (s : State),
      s.slv.dispo = []) ∧
    (∃ (ch : Chid) (k : Nat) (e : Entry) (q : List (Chid × Nat × Nat)) (s : State),
      s.slv.dispo = (ch, k, 4) :: q ∧ (s.wch ch).queue.find? (fun x => x.ridx = k) = some e) ∧
    (∃ (ch : Chid) (k : Nat) (e : Entry) (q : List (Chid × Nat × Nat)) (s : State),
      s.slv.dispo = (ch, k, 5) :: q ∧ (s.wch ch).queue.find? (fun x => x.ridx = k) = some e) ∧
    (∃ (ch : Nat) (e : Entry) (s : State),
      s.probeNext = some (ch, e) ∧ s.slv.handoff = true ∧ s.outstanding < 256) ∧
    (∃ (s : State),
      (s.probeNext = none ∨ s.slv.handoff = false ∨ 256 ≤ s.outstanding)) :=
  ⟨⟨(0 : Chid), (List.head (((chOf 0 (fun c => { c with queue := [ent 0 5 7 50] }) live : State).wch (0 : Chid)).queue) (by decide +kernel) : Entry), (List.tail (((chOf 0 (fun c => { c with queue := [ent 0 5 7 50] }) live : State).wch (0 : Chid)).queue) : List Entry), (chOf 0 (fun c => { c with queue := [ent 0 5 7 50] }) live : State),
      by decide +kernel⟩,
   ⟨(4 : Chid), (chOf 0 (fun c => { c with queue := [ent 0 5 7 50] }) live : State), by exact .inr (.inr (.inr (by intro e q h; cases h)))⟩,
   ⟨(0 : Chid), (5 : Nat), (0 : Nat), (Option.get (((slvOf (fun x => { x with dispo := [(0, 5, 0)] }) (chOf 0 (fun c => { c with queue := [ent 0 5 7 50], inFlight := true, offered := some 5 }) live) : State).wch (0 : Chid)).queue.find? (fun x => x.ridx = (5 : Nat))) (by decide +kernel) : Entry), ([] : List (Chid × Nat × Nat)), (slvOf (fun x => { x with dispo := [(0, 5, 0)] }) (chOf 0 (fun c => { c with queue := [ent 0 5 7 50], inFlight := true, offered := some 5 }) live) : State),
      by decide +kernel⟩,
   ⟨(0 : Chid), (5 : Nat), (0 : Nat), (Option.get (((slvOf (fun x => { x with dispo := [(0, 5, 0)] }) (chOf 0 (fun c => { c with queue := [ent 0 5 7 50], inFlight := true, offered := some 5, anchorIdx := some 5, veeHold := true }) live) : State).wch (0 : Chid)).queue.find? (fun x => x.ridx = (5 : Nat))) (by decide +kernel) : Entry), ([] : List (Chid × Nat × Nat)), (slvOf (fun x => { x with dispo := [(0, 5, 0)] }) (chOf 0 (fun c => { c with queue := [ent 0 5 7 50], inFlight := true, offered := some 5, anchorIdx := some 5, veeHold := true }) live) : State),
      by decide +kernel⟩,
   ⟨(0 : Chid), (5 : Nat), (Option.get (((slvOf (fun x => { x with dispo := [(0, 5, 2)] }) (chOf 0 (fun c => { c with queue := [ent 0 5 7 50], inFlight := true, offered := some 5 }) live) : State).wch (0 : Chid)).queue.find? (fun x => x.ridx = (5 : Nat))) (by decide +kernel) : Entry), ([] : List (Chid × Nat × Nat)), (slvOf (fun x => { x with dispo := [(0, 5, 2)] }) (chOf 0 (fun c => { c with queue := [ent 0 5 7 50], inFlight := true, offered := some 5 }) live) : State),
      by decide +kernel⟩,
   ⟨(0 : Chid), (5 : Nat), (Option.get (((slvOf (fun x => { x with dispo := [(0, 5, 3)] }) (chOf 0 (fun c => { c with queue := [ent 0 5 7 50], inFlight := true, offered := some 5 }) live) : State).wch (0 : Chid)).queue.find? (fun x => x.ridx = (5 : Nat))) (by decide +kernel) : Entry), ([] : List (Chid × Nat × Nat)), (slvOf (fun x => { x with dispo := [(0, 5, 3)] }) (chOf 0 (fun c => { c with queue := [ent 0 5 7 50], inFlight := true, offered := some 5 }) live) : State),
      by decide +kernel⟩,
   ⟨(0 : Chid), (9 : Nat), (3 : Nat), ([] : List (Chid × Nat × Nat)), (slvOf (fun x => { x with dispo := [(0, 9, 3)] }) live : State),
      by decide +kernel⟩,
   ⟨(chOf 0 (fun c => { c with queue := [ent 0 5 7 50] }) live : State), by decide +kernel⟩,
   ⟨(0 : Chid), (5 : Nat), (Option.get (((slvOf (fun x => { x with dispo := [(0, 5, 4)] }) (chOf 0 (fun c => { c with queue := [ent 0 5 7 50], inFlight := true, offered := some 5 }) live) : State).wch (0 : Chid)).queue.find? (fun x => x.ridx = (5 : Nat))) (by decide +kernel) : Entry), ([] : List (Chid × Nat × Nat)), (slvOf (fun x => { x with dispo := [(0, 5, 4)] }) (chOf 0 (fun c => { c with queue := [ent 0 5 7 50], inFlight := true, offered := some 5 }) live) : State),
      by decide +kernel⟩,
   ⟨(0 : Chid), (5 : Nat), (Option.get (((slvOf (fun x => { x with dispo := [(0, 5, 5)] }) (chOf 0 (fun c => { c with queue := [ent 0 5 7 50], inFlight := true, offered := some 5 }) live) : State).wch (0 : Chid)).queue.find? (fun x => x.ridx = (5 : Nat))) (by decide +kernel) : Entry), ([] : List (Chid × Nat × Nat)), (slvOf (fun x => { x with dispo := [(0, 5, 5)] }) (chOf 0 (fun c => { c with queue := [ent 0 5 7 50], inFlight := true, offered := some 5 }) live) : State),
      by decide +kernel⟩,
   ⟨(0 : Nat), ({ ch := 0, ridx := 5, capture := 7, flags := 0, gaplen := 0, totF := 50, totR := 0, m0 := 0, m1 := 0, m2 := 0, disp := 0, kind := EntryKind.actual, jseq := 0 } : Entry), (wrpOf (fun x => { x with paused := true }) (chOf 0 (fun c => { c with queue := [ent 0 5 7 50] }) live) : State),
      by decide +kernel⟩,
   ⟨(chOf 0 (fun c => { c with queue := [ent 0 5 7 50] }) live : State), by decide +kernel⟩⟩

/-- States and operands that meet the hypotheses of each clause of WarpCommands. -/
theorem test_wit_WarpCommands :
    (∃ (r : Requester) (ch : Chid) (s : State),
      Permits s r (0x800000 + R.WRP_CMD) ∧ ch < 2 ^ 22 ∧ (s.wch ch).en = true ∧ (s.wch ch).veeHold = true) ∧
    (∃ (r : Requester) (ch : Chid) (s : State),
      Permits s r (0x800000 + R.WRP_CMD) ∧ ch < 2 ^ 22 ∧ (s.wch ch).en = true ∧ (s.wch ch).veeHold = false) ∧
    (∃ (r : Requester) (ch : Chid) (s : State),
      Permits s r (0x800000 + R.WRP_CMD) ∧ ch < 2 ^ 22 ∧ (s.wch ch).en = false) ∧
    (∃ (r : Requester) (ch : Chid) (s : State),
      Permits s r (0x800000 + R.WRP_CMD) ∧ ch < 2 ^ 22 ∧ (s.wch ch).en = true ∧ (s.rg R.WRP_CMD_RIDX).toNat ≤ (s.wch ch).lastIdx ∧
      s.nowNs ≤ s.captureNs (s.wch ch).period (s.rg R.WRP_CMD_RIDX).toNat + s.pastMax) ∧
    (∃ (r : Requester) (ch : Chid) (s : State),
      Permits s r (0x800000 + R.WRP_CMD) ∧ ch < 2 ^ 22 ∧ (s.wch ch).en = true ∧
      ((s.wch ch).lastIdx < (s.rg R.WRP_CMD_RIDX).toNat ∨ s.captureNs (s.wch ch).period (s.rg R.WRP_CMD_RIDX).toNat + s.pastMax < s.nowNs)) ∧
    (∃ (r : Requester) (ch : Chid) (s : State),
      Permits s r (0x800000 + R.WRP_CMD) ∧ ch < 2 ^ 22 ∧ (s.wch ch).en = false) ∧
    (∃ (r : Requester) (s : State),
      Permits s r (0x800000 + R.WRP_CTRL)) ∧
    (∃ (s : State),
      s.running = true ∧ s.sysWrites = true) ∧
    (∃ (s : State),
      (s.sysWrites = false ∨ s.running = false)) ∧
    (∃ (r : Requester) (s : State),
      Permits s r (0x800000 + R.WRP_REC_IDX)) :=
  ⟨⟨(.slot 0 0 : Requester), (0 : Chid), (chOf 0 (fun c => { c with veeHold := true }) live : State), by unfold Permits; decide +kernel⟩,
   ⟨(.slot 0 0 : Requester), (4 : Chid), (chOf 0 (fun c => { c with veeHold := true }) live : State), by unfold Permits; decide +kernel⟩,
   ⟨(.slot 0 0 : Requester), (4194303 : Chid), (chOf 0 (fun c => { c with veeHold := true }) live : State),
      by unfold Permits; decide +kernel⟩,
   ⟨(.slot 0 0 : Requester), (0 : Chid), (chOf 0 (fun c => { c with veeHold := true }) live : State), by unfold Permits; decide +kernel⟩,
   ⟨(.slot 0 0 : Requester), (0 : Chid), (regOf R.WRP_CMD_RIDX 5 live : State), by unfold Permits; decide +kernel⟩,
   ⟨(.slot 0 0 : Requester), (4194303 : Chid), (chOf 0 (fun c => { c with veeHold := true }) live : State),
      by unfold Permits; decide +kernel⟩,
   ⟨(.slot 0 0 : Requester), (chOf 0 (fun c => { c with veeHold := true }) live : State), by unfold Permits; decide +kernel⟩,
   ⟨(chOf 0 (fun c => { c with veeHold := true }) live : State), by decide +kernel⟩,
   ⟨(inSt .flush : State), by decide +kernel⟩,
   ⟨(.slot 0 0 : Requester), (chOf 0 (fun c => { c with veeHold := true }) live : State), by unfold Permits; decide +kernel⟩⟩

/-- States and operands that meet the hypotheses of each clause of SelvedgeDecides. -/
theorem test_wit_SelvedgeDecides :
    (∃ (e : Entry) (q : List Entry) (s : State),
      s.slv.inbox = e :: q ∧ s.jbufFull = false ∧ s.devHold = true) ∧
    (∃ (e : Entry) (q : List Entry) (s : State),
      s.slv.inbox = e :: q ∧ s.jbufFull = false ∧ s.devHold = false ∧ (s.lch e.ch).held = true) ∧
    (∃ (e : Entry) (q : List Entry) (s : State),
      s.slv.inbox = e :: q ∧ s.jbufFull = false ∧ s.devHold = false ∧ (s.lch e.ch).held = false ∧ (s.lch e.ch).hasBase = true ∧
      e.ridx ≤ (s.lch e.ch).lastIdx) ∧
    (∃ (e : Entry) (q : List Entry) (s : State),
      s.slv.inbox = e :: q ∧ s.jbufFull = false ∧ s.devHold = false ∧ (s.lch e.ch).held = false ∧
      ((s.lch e.ch).hasBase = true → (s.lch e.ch).lastIdx < e.ridx) ∧
      (s.indexInstant e.ch e.ridx * second + s.legalWin * second < s.legalNs ∨ s.legalNs + 120 * second < s.indexInstant e.ch e.ridx * second)) ∧
    (∃ (e : Entry) (q : List Entry) (s : State),
      s.slv.inbox = e :: q ∧ s.jbufFull = false ∧ InWindow s e ∧ (s.lch e.ch).hasBase = false) ∧
    (∃ (e : Entry) (q : List Entry) (dF : Nat) (dR : Nat) (s : State),
      s.slv.inbox = e :: q ∧ s.jbufFull = false ∧ InWindow s e ∧ (s.lch e.ch).hasBase = true ∧
      monoDelta (s.modulus e.ch) (s.lch e.ch).mF e.totF = some dF ∧ monoDelta (s.modulus e.ch) (s.lch e.ch).mR e.totR = some dR) ∧
    (∃ (e : Entry) (q : List Entry) (s : State),
      s.slv.inbox = e :: q ∧ s.jbufFull = false ∧ InWindow s e ∧ (s.lch e.ch).hasBase = true ∧
      monoDelta (s.modulus e.ch) (s.lch e.ch).mF e.totF = none ∧ (nbit e.flags 9 = false ∨ (s.lch e.ch).consent = none)) ∧
    (∃ (e : Entry) (q : List Entry) (c : Nat) (s : State),
      s.slv.inbox = e :: q ∧ s.jbufFull = false ∧ InWindow s e ∧ (s.lch e.ch).hasBase = true ∧
      monoDelta (s.modulus e.ch) (s.lch e.ch).mF e.totF = none ∧ nbit e.flags 9 = true ∧ (s.lch e.ch).consent = some c ∧ s.legalNs ≤ c) ∧
    (∃ (s : State),
      (s.slv.inbox = [] ∨ s.jbufFull = true)) ∧
    (∃ (b : Nat) (s : State),
      s.journals = true ∧ s.slv.ltRun = true ∧ s.dueBoundary = some b) ∧
    (∃ (s : State),
      (s.dueBoundary = none ∨ s.journals = false ∨ s.slv.ltRun = false)) ∧
    (∃ (j : SealJob) (s : State),
      s.journals = true ∧ s.slv.seals.find? (fun x => x.hdr.isNone) = some j) ∧
    (∃ (s : State),
      (s.journals = false ∨ (∀ j ∈ s.slv.seals, j.hdr ≠ none))) ∧
    (∃ (s : State),
      (∀ h q, s.key.signs ≠ .seal_ h :: q)) ∧
    (∃ (h : SealHdr) (q : List SignReq) (s : State),
      s.key.signs = .seal_ h :: q ∧ s.active Ev.SEAL_DONE = false) ∧
    (∃ (h : SealHdr) (q : List SignReq) (s : State),
      s.key.signs = .seal_ h :: q) :=
  ⟨⟨(List.head ((slvOf (fun x => { x with inbox := [{ ent 0 499982 0 50 with flags := 0 }], causes := 1 }) (live) : State).slv.inbox) (by decide +kernel) : Entry), (List.tail ((slvOf (fun x => { x with inbox := [{ ent 0 499982 0 50 with flags := 0 }], causes := 1 }) (live) : State).slv.inbox) : List Entry), (slvOf (fun x => { x with inbox := [{ ent 0 499982 0 50 with flags := 0 }], causes := 1 }) (live) : State),
      by decide +kernel⟩,
   ⟨(List.head ((slvOf (fun x => { x with inbox := [{ ent 0 499982 0 50 with flags := 0 }] }) (lchOf 0 (fun c => { c with holdAuth := true }) live) : State).slv.inbox) (by decide +kernel) : Entry), (List.tail ((slvOf (fun x => { x with inbox := [{ ent 0 499982 0 50 with flags := 0 }] }) (lchOf 0 (fun c => { c with holdAuth := true }) live) : State).slv.inbox) : List Entry), (slvOf (fun x => { x with inbox := [{ ent 0 499982 0 50 with flags := 0 }] }) (lchOf 0 (fun c => { c with holdAuth := true }) live) : State),
      by decide +kernel⟩,
   ⟨(List.head ((slvOf (fun x => { x with inbox := [{ ent 0 499982 0 50 with flags := 0 }] }) (lchOf 0 (fun c => { c with hasBase := true, lastIdx := 499982 }) live) : State).slv.inbox) (by decide +kernel) : Entry), (List.tail ((slvOf (fun x => { x with inbox := [{ ent 0 499982 0 50 with flags := 0 }] }) (lchOf 0 (fun c => { c with hasBase := true, lastIdx := 499982 }) live) : State).slv.inbox) : List Entry), (slvOf (fun x => { x with inbox := [{ ent 0 499982 0 50 with flags := 0 }] }) (lchOf 0 (fun c => { c with hasBase := true, lastIdx := 499982 }) live) : State),
      by decide +kernel⟩,
   ⟨(List.head ((slvOf (fun x => { x with inbox := [{ ent 0 600000 0 50 with flags := 0 }] }) (live) : State).slv.inbox) (by decide +kernel) : Entry), (List.tail ((slvOf (fun x => { x with inbox := [{ ent 0 600000 0 50 with flags := 0 }] }) (live) : State).slv.inbox) : List Entry), (slvOf (fun x => { x with inbox := [{ ent 0 600000 0 50 with flags := 0 }] }) (live) : State),
      by decide +kernel⟩,
   ⟨(List.head ((slvOf (fun x => { x with inbox := [{ ent 0 499982 0 50 with flags := 0 }] }) (live) : State).slv.inbox) (by decide +kernel) : Entry), (List.tail ((slvOf (fun x => { x with inbox := [{ ent 0 499982 0 50 with flags := 0 }] }) (live) : State).slv.inbox) : List Entry), (slvOf (fun x => { x with inbox := [{ ent 0 499982 0 50 with flags := 0 }] }) (live) : State),
      by unfold InWindow; decide +kernel⟩,
   ⟨(List.head ((slvOf (fun x => { x with inbox := [{ ent 0 499982 0 50 with flags := 0 }] }) (lchOf 0 (fun c => { c with hasBase := true, lastIdx := 499981, mF := 40 }) live) : State).slv.inbox) (by decide +kernel) : Entry), (List.tail ((slvOf (fun x => { x with inbox := [{ ent 0 499982 0 50 with flags := 0 }] }) (lchOf 0 (fun c => { c with hasBase := true, lastIdx := 499981, mF := 40 }) live) : State).slv.inbox) : List Entry), (Option.get (monoDelta ((slvOf (fun x => { x with inbox := [{ ent 0 499982 0 50 with flags := 0 }] }) (lchOf 0 (fun c => { c with hasBase := true, lastIdx := 499981, mF := 40 }) live) : State).modulus (List.head ((slvOf (fun x => { x with inbox := [{ ent 0 499982 0 50 with flags := 0 }] }) (lchOf 0 (fun c => { c with hasBase := true, lastIdx := 499981, mF := 40 }) live) : State).slv.inbox) (by decide +kernel) : Entry).ch) ((slvOf (fun x => { x with inbox := [{ ent 0 499982 0 50 with flags := 0 }] }) (lchOf 0 (fun c => { c with hasBase := true, lastIdx := 499981, mF := 40 }) live) : State).lch (List.head ((slvOf (fun x => { x with inbox := [{ ent 0 499982 0 50 with flags := 0 }] }) (lchOf 0 (fun c => { c with hasBase := true, lastIdx := 499981, mF := 40 }) live) : State).slv.inbox) (by decide +kernel) : Entry).ch).mF (List.head ((slvOf (fun x => { x with inbox := [{ ent 0 499982 0 50 with flags := 0 }] }) (lchOf 0 (fun c => { c with hasBase := true, lastIdx := 499981, mF := 40 }) live) : State).slv.inbox) (by decide +kernel) : Entry).totF) (by decide +kernel) : Nat), (Option.get (monoDelta ((slvOf (fun x => { x with inbox := [{ ent 0 499982 0 50 with flags := 0 }] }) (lchOf 0 (fun c => { c with hasBase := true, lastIdx := 499981, mF := 40 }) live) : State).modulus (List.head ((slvOf (fun x => { x with inbox := [{ ent 0 499982 0 50 with flags := 0 }] }) (lchOf 0 (fun c => { c with hasBase := true, lastIdx := 499981, mF := 40 }) live) : State).slv.inbox) (by decide +kernel) : Entry).ch) ((slvOf (fun x => { x with inbox := [{ ent 0 499982 0 50 with flags := 0 }] }) (lchOf 0 (fun c => { c with hasBase := true, lastIdx := 499981, mF := 40 }) live) : State).lch (List.head ((slvOf (fun x => { x with inbox := [{ ent 0 499982 0 50 with flags := 0 }] }) (lchOf 0 (fun c => { c with hasBase := true, lastIdx := 499981, mF := 40 }) live) : State).slv.inbox) (by decide +kernel) : Entry).ch).mR (List.head ((slvOf (fun x => { x with inbox := [{ ent 0 499982 0 50 with flags := 0 }] }) (lchOf 0 (fun c => { c with hasBase := true, lastIdx := 499981, mF := 40 }) live) : State).slv.inbox) (by decide +kernel) : Entry).totR) (by decide +kernel) : Nat), (slvOf (fun x => { x with inbox := [{ ent 0 499982 0 50 with flags := 0 }] }) (lchOf 0 (fun c => { c with hasBase := true, lastIdx := 499981, mF := 40 }) live) : State),
      by unfold InWindow; decide +kernel⟩,
   ⟨(List.head ((slvOf (fun x => { x with inbox := [{ ent 0 499982 0 50 with flags := 0 }] }) (lchOf 0 (fun c => { c with hasBase := true, lastIdx := 499981, mF := 60 }) live) : State).slv.inbox) (by decide +kernel) : Entry), (List.tail ((slvOf (fun x => { x with inbox := [{ ent 0 499982 0 50 with flags := 0 }] }) (lchOf 0 (fun c => { c with hasBase := true, lastIdx := 499981, mF := 60 }) live) : State).slv.inbox) : List Entry), (slvOf (fun x => { x with inbox := [{ ent 0 499982 0 50 with flags := 0 }] }) (lchOf 0 (fun c => { c with hasBase := true, lastIdx := 499981, mF := 60 }) live) : State),
      by unfold InWindow; decide +kernel⟩,
   ⟨(List.head ((slvOf (fun x => { x with inbox := [{ ent 0 499982 0 50 with flags := 512 }] }) (lchOf 0 (fun c => { c with hasBase := true, lastIdx := 499981, mF := 60, consent := some (2000000 * second) }) live) : State).slv.inbox) (by decide +kernel) : Entry), (List.tail ((slvOf (fun x => { x with inbox := [{ ent 0 499982 0 50 with flags := 512 }] }) (lchOf 0 (fun c => { c with hasBase := true, lastIdx := 499981, mF := 60, consent := some (2000000 * second) }) live) : State).slv.inbox) : List Entry), (Option.get (((slvOf (fun x => { x with inbox := [{ ent 0 499982 0 50 with flags := 512 }] }) (lchOf 0 (fun c => { c with hasBase := true, lastIdx := 499981, mF := 60, consent := some (2000000 * second) }) live) : State).lch (List.head ((slvOf (fun x => { x with inbox := [{ ent 0 499982 0 50 with flags := 512 }] }) (lchOf 0 (fun c => { c with hasBase := true, lastIdx := 499981, mF := 60, consent := some (2000000 * second) }) live) : State).slv.inbox) (by decide +kernel) : Entry).ch).consent) (by decide +kernel) : Nat), (slvOf (fun x => { x with inbox := [{ ent 0 499982 0 50 with flags := 512 }] }) (lchOf 0 (fun c => { c with hasBase := true, lastIdx := 499981, mF := 60, consent := some (2000000 * second) }) live) : State),
      by unfold InWindow; decide +kernel⟩,
   ⟨(slvOf (fun x => { x with seals := [⟨86400, 5, [(1, 2)], 0, 0, none⟩] }) live : State), by decide +kernel⟩,
   ⟨(Option.get ((slvOf (fun x => { x with inbox := [{ ent 0 499982 0 50 with flags := 0 }], causes := 1 }) (live) : State).dueBoundary) (by decide +kernel) : Nat), (slvOf (fun x => { x with inbox := [{ ent 0 499982 0 50 with flags := 0 }], causes := 1 }) (live) : State),
      by decide +kernel⟩,
   ⟨pairS, by decide +kernel⟩,
   ⟨(Option.get ((slvOf (fun x => { x with seals := [⟨86400, 5, [(1, 2)], 0, 0, none⟩] }) live : State).slv.seals.find? (fun x => x.hdr.isNone)) (by decide +kernel) : SealJob), (slvOf (fun x => { x with seals := [⟨86400, 5, [(1, 2)], 0, 0, none⟩] }) live : State),
      by decide +kernel⟩,
   ⟨(slvOf (fun x => { x with inbox := [{ ent 0 499982 0 50 with flags := 0 }], causes := 1 }) (live) : State), by decide +kernel⟩,
   ⟨(slvOf (fun x => { x with inbox := [{ ent 0 499982 0 50 with flags := 0 }], causes := 1 }) (live) : State), by intro h q e; cases e⟩,
   ⟨({ close := 86400, sealedAt := 5, leaves := 1, root := 0, legalDigest := 77, romDig := 0, tableVer := 0, holds := 0, eui := 4822678183608320, number := 0 } : SealHdr), ([] : List SignReq), (keyOf' (fun x => { x with signs := [.seal_ hdr0] }) live : State),
      by decide +kernel⟩,
   ⟨({ close := 86400, sealedAt := 5, leaves := 1, root := 0, legalDigest := 77, romDig := 0, tableVer := 0, holds := 0, eui := 4822678183608320, number := 0 } : SealHdr), ([] : List SignReq), (keyOf' (fun x => { x with signs := [.seal_ hdr0] }) live : State),
      by decide +kernel⟩⟩

/-- States and operands that meet the hypotheses of each clause of CardMessages. -/
theorem test_wit_CardMessages :
    (∃ (j : Nat) (b : CardBody) (q : List CardMsg) (i : Nat) (s : State),
      s.slv.cardIn = .stage j b :: q ∧ s.stageCode b = none ∧ s.freeSlot = some i) ∧
    (∃ (j : Nat) (b : CardBody) (q : List CardMsg) (k : Nat) (s : State),
      s.slv.cardIn = .stage j b :: q ∧ s.stageCode b = some k ∧ k ≠ 0) ∧
    (∃ (j : Nat) (i : Nat) (d : Nat) (m : List Nat) (q : List CardMsg) (s : State),
      s.slv.cardIn = .sign j i 0 d m :: q ∧ (s.card i).st = .staged ∧ s.keyIs (s.card i).body.contract 0 d = true ∧
      (s.card i).sigSup = false) ∧
    (∃ (j : Nat) (i : Nat) (d : Nat) (m : List Nat) (q : List CardMsg) (s : State),
      s.slv.cardIn = .sign j i 1 d m :: q ∧ (s.card i).st = .staged ∧ s.keyIs (s.card i).body.contract 1 d = true ∧
      (s.card i).sigCon = false) ∧
    (∃ (j : Nat) (i : Nat) (r : Nat) (d : Nat) (m : List Nat) (q : List CardMsg) (s : State),
      s.slv.cardIn = .sign j i r d m :: q ∧ (s.card i).st = .partly ∧ s.keyIs (s.card i).body.contract r d = true ∧
      (if r = 0 then (s.card i).sigSup else (s.card i).sigCon) = false ∧ s.completeCode i = none) ∧
    (∃ (j : Nat) (i : Nat) (r : Nat) (d : Nat) (m : List Nat) (q : List CardMsg) (k : Nat) (s : State),
      s.slv.cardIn = .sign j i r d m :: q ∧ (s.card i).st = .partly ∧ s.keyIs (s.card i).body.contract r d = true ∧
      (if r = 0 then (s.card i).sigSup else (s.card i).sigCon) = false ∧ s.completeCode i = some k ∧ k ≠ 0) ∧
    (∃ (j : Nat) (i : Nat) (r : Nat) (d : Nat) (m : List Nat) (q : List CardMsg) (b : Bool) (s : State),
      s.slv.cardIn = .sign j i r d m :: q ∧ (b = false ∨ ((s.card i).st ≠ .staged ∧
      (s.card i).st ≠ .partly) ∨ s.keyIs (s.card i).body.contract r d = false ∨ (if r = 0 then (s.card i).sigSup else (s.card i).sigCon) = true)) ∧
    (∃ (j : Nat) (i : Nat) (r : Nat) (d : Nat) (q : List CardMsg) (s : State),
      s.slv.cardIn = .withdraw j i r d :: q ∧ ((s.card i).st = .staged ∨ (s.card i).st = .partly ∨ (s.card i).st = .pending) ∧
      s.keyIs (s.card i).body.contract r d = true) ∧
    (∃ (j : Nat) (i : Nat) (r : Nat) (d : Nat) (q : List CardMsg) (b : Bool) (s : State),
      s.slv.cardIn = .withdraw j i r d :: q ∧ (b = false ∨ s.keyIs (s.card i).body.contract r d = false ∨ ((s.card i).st ≠ .staged ∧
      (s.card i).st ≠ .partly ∧ (s.card i).st ≠ .pending))) ∧
    (∃ (s : State),
      (∀ j b q, s.slv.cardIn ≠ .stage j b :: q)) ∧
    (∃ (s : State),
      (∀ j i r d m q, s.slv.cardIn ≠ .sign j i r d m :: q)) ∧
    (∃ (s : State),
      (∀ j i r d q, s.slv.cardIn ≠ .withdraw j i r d :: q)) :=
  ⟨⟨(0 : Nat), ({ cver := 1, contract := 5, cardId := 1, actAt := 1036837000000000, demandMin := 15, nrates := 1, mdReset := 0, nseasons := 1, stdOfs := 0, dstOfs := 0, nhol := 0, dstStart := { month := 1, week := 1, weekday := 0, minute := 0 }, dstEnd := { month := 1, week := 1, weekday := 0, minute := 0 }, holDt := 0, seasons := [{ month := 1, day := 1, types := [0, 0, 0, 0, 0, 0, 0] }], holidays := [], profiles := [[(0, 0)]], bytes := [] } : CardBody), ([] : List CardMsg), (0 : Nat), (withMsg (.stage 0 (card5 (1036837 * second))) live : State),
      by exact ⟨by decide +kernel, by unfold State.stageCode; rw [freeSlot_zero _ rfl]; decide +kernel, freeSlot_zero _ rfl⟩⟩,
   ⟨(0 : Nat), ({ cver := 1, contract := 0, cardId := 0, actAt := 0, demandMin := 60, nrates := 1, mdReset := 0, nseasons := 1, stdOfs := 0, dstOfs := 0, nhol := 0, dstStart := { month := 1, week := 1, weekday := 0, minute := 0 }, dstEnd := { month := 1, week := 1, weekday := 0, minute := 0 }, holDt := 0, seasons := [{ month := 1, day := 1, types := [0, 0, 0, 0, 0, 0, 0] }], holidays := [], profiles := [[(0, 0)]], bytes := [] } : CardBody), ([] : List CardMsg), (Option.get ((withMsg (.stage 0 CardBody.default) live : State).stageCode ({ cver := 1, contract := 0, cardId := 0, actAt := 0, demandMin := 60, nrates := 1, mdReset := 0, nseasons := 1, stdOfs := 0, dstOfs := 0, nhol := 0, dstStart := { month := 1, week := 1, weekday := 0, minute := 0 }, dstEnd := { month := 1, week := 1, weekday := 0, minute := 0 }, holDt := 0, seasons := [{ month := 1, day := 1, types := [0, 0, 0, 0, 0, 0, 0] }], holidays := [], profiles := [[(0, 0)]], bytes := [] } : CardBody)) (by decide +kernel) : Nat), (withMsg (.stage 0 CardBody.default) live : State),
      by decide +kernel⟩,
   ⟨(0 : Nat), (3 : Nat), (101 : Nat), ([] : List Nat), ([] : List CardMsg), (withMsg (.sign 0 3 0 101 []) (withCard 3 ⟨.staged, card5 (1036837 * second), 0, false, false, [], [], 0⟩ live) : State),
      by decide +kernel⟩,
   ⟨(0 : Nat), (3 : Nat), (102 : Nat), ([] : List Nat), ([] : List CardMsg), (withMsg (.sign 0 3 1 102 []) (withCard 3 ⟨.staged, card5 (1036837 * second), 0, false, false, [], [], 0⟩ live) : State),
      by decide +kernel⟩,
   ⟨(0 : Nat), (3 : Nat), (1 : Nat), (102 : Nat), ([] : List Nat), ([] : List CardMsg), (withMsg (.sign 0 3 1 102 []) (withCard 3 ⟨.partly, card5 (1036837 * second), 0, true, false, [], [], 0⟩ live) : State),
      by decide +kernel⟩,
   ⟨(0 : Nat), (3 : Nat), (1 : Nat), (102 : Nat), ([] : List Nat), ([] : List CardMsg), (Option.get ((withMsg (.sign 0 3 1 102 []) (withCard 3 ⟨.partly, card5 0, 0, true, false, [], [], 0⟩ live) : State).completeCode (3 : Nat)) (by decide +kernel) : Nat), (withMsg (.sign 0 3 1 102 []) (withCard 3 ⟨.partly, card5 0, 0, true, false, [], [], 0⟩ live) : State),
      by decide +kernel⟩,
   ⟨(0 : Nat), (3 : Nat), (0 : Nat), (101 : Nat), ([] : List Nat), ([] : List CardMsg), false, (withMsg (.sign 0 3 0 101 []) (withCard 3 ⟨.staged, card5 (1036837 * second), 0, false, false, [], [], 0⟩ live) : State),
      by decide +kernel⟩,
   ⟨(0 : Nat), (3 : Nat), (0 : Nat), (101 : Nat), ([] : List CardMsg), (withMsg (.withdraw 0 3 0 101) (withCard 3 ⟨.pending, card5 (1036837 * second), 0, true, true, [], [], 0⟩ live) : State),
      by decide +kernel⟩,
   ⟨(0 : Nat), (3 : Nat), (0 : Nat), (101 : Nat), ([] : List CardMsg), false, (withMsg (.withdraw 0 3 0 101) (withCard 3 ⟨.pending, card5 (1036837 * second), 0, true, true, [], [], 0⟩ live) : State),
      by decide +kernel⟩,
   ⟨(withMsg (.withdraw 0 3 0 101) (withCard 3 ⟨.pending, card5 (1036837 * second), 0, true, true, [], [], 0⟩ live) : State),
      by intro j b q h; cases h⟩,
   ⟨(withMsg (.stage 0 (card5 (1036837 * second))) live : State), by intro j i r d m q h; cases h⟩,
   ⟨(withMsg (.stage 0 (card5 (1036837 * second))) live : State), by intro j i r d q h; cases h⟩⟩

/-- States and operands that meet the hypotheses of each clause of AuthorityCommands. -/
theorem test_wit_AuthorityCommands :
    (∃ (o : ObjReq) (x : Session) (s : State),
      Commands s o x 1) ∧
    (∃ (o : ObjReq) (x : Session) (s : State),
      Commands s o x 2) ∧
    (∃ (o : ObjReq) (x : Session) (s : State),
      Commands s o x 3 ∧ s.epScope o.dg.part o.target = .ok ∧ mkChid o.target (o.b 1) ∈ s.chids) ∧
    (∃ (o : ObjReq) (x : Session) (s : State),
      Commands s o x 4 ∧ s.epScope o.dg.part o.target = .ok ∧ mkChid o.target (o.b 1) ∈ s.chids ∧
      (s.lch (mkChid o.target (o.b 1))).holdAuth = true ∧ (s.lch (mkChid o.target (o.b 1))).holdRoll = false) ∧
    (∃ (o : ObjReq) (x : Session) (s : State),
      Commands s o x 4 ∧ s.epScope o.dg.part o.target = .ok ∧ mkChid o.target (o.b 1) ∈ s.chids ∧
      (s.lch (mkChid o.target (o.b 1))).held = false) ∧
    (∃ (o : ObjReq) (x : Session) (s : State),
      Commands s o x 4 ∧ s.epScope o.dg.part o.target = .ok ∧ mkChid o.target (o.b 1) ∈ s.chids ∧
      (s.lch (mkChid o.target (o.b 1))).holdAuth = true ∧ (s.lch (mkChid o.target (o.b 1))).holdRoll = true ∧
      (s.lch (mkChid o.target (o.b 1))).held = true) ∧
    (∃ (o : ObjReq) (x : Session) (s : State),
      Commands s o x 4 ∧ s.epScope o.dg.part o.target = .ok ∧ mkChid o.target (o.b 1) ∈ s.chids ∧
      (s.lch (mkChid o.target (o.b 1))).holdAuth = false ∧ (s.lch (mkChid o.target (o.b 1))).holdRoll = true ∧
      (s.lch (mkChid o.target (o.b 1))).excess = [] ∧ (s.lch (mkChid o.target (o.b 1))).held = true) ∧
    (∃ (o : ObjReq) (x : Session) (s : State),
      s.epScope o.dg.part o.target = .ok ∧ mkChid o.target (o.b 1) ∉ s.chids ∧ Commands s o x 3) ∧
    (∃ (o : ObjReq) (x : Session) (s : State),
      s.epScope o.dg.part o.target = .ok ∧ mkChid o.target (o.b 1) ∉ s.chids ∧ Commands s o x 4) ∧
    (∃ (o : ObjReq) (x : Session) (s : State),
      s.epScope o.dg.part o.target = .ok ∧ mkChid o.target (o.b 1) ∉ s.chids ∧ Commands s o x 5) ∧
    (∃ (o : ObjReq) (x : Session) (st : Status) (s : State),
      s.epScope o.dg.part o.target = st ∧ st ≠ .ok ∧ Commands s o x 3) ∧
    (∃ (o : ObjReq) (x : Session) (st : Status) (s : State),
      s.epScope o.dg.part o.target = st ∧ st ≠ .ok ∧ Commands s o x 4) ∧
    (∃ (o : ObjReq) (x : Session) (st : Status) (s : State),
      s.epScope o.dg.part o.target = st ∧ st ≠ .ok ∧ Commands s o x 5) ∧
    (∃ (o : ObjReq) (x : Session) (s : State),
      Commands s o x 5 ∧ s.epScope o.dg.part o.target = .ok ∧ mkChid o.target (o.b 1) ∈ s.chids) ∧
    (∃ (ch : Chid) (c : Nat) (s : State),
      (s.lch ch).consent = some c ∧ c < s.legalNs) ∧
    (∃ (ch : Chid) (s : State),
      (∀ c, (s.lch ch).consent = some c → s.legalNs ≤ c)) ∧
    (∃ (o : ObjReq) (x : Session) (im : Image) (s : State),
      Commands s o x 6 ∧ s.sys.sealClosed = true ∧ s.sys.image = some im ∧ s.otp.seals.getLast? = some im.legalComputed) ∧
    (∃ (o : ObjReq) (x : Session) (a : Bool) (b : Bool) (s : State),
      Commands s o x 6 ∧
      (s.sys.sealClosed = false ∨ s.otp.seals = [] ∨ s.otp.seals.getLast? ≠ s.sys.image.map Image.legalComputed ∨ a = false ∨ b = false)) ∧
    (∃ (o : ObjReq) (x : Session) (im : Image) (s : State),
      Commands s o x 7 ∧ s.sys.sealClosed = false ∧ s.sys.dbgEn = false ∧ s.otp.seals.length < 32 ∧ s.sys.image = some im) ∧
    (∃ (o : ObjReq) (x : Session) (s : State),
      Commands s o x 7 ∧ (s.sys.sealClosed = true ∨ s.sys.dbgEn = true)) ∧
    (∃ (o : ObjReq) (x : Session) (s : State),
      Commands s o x 7 ∧ s.sys.sealClosed = false ∧ s.sys.dbgEn = false ∧ 32 ≤ s.otp.seals.length) ∧
    (∃ (o : ObjReq) (x : Session) (s : State),
      Commands s o x 8 ∧ s.sys.sealClosed = true) ∧
    (∃ (o : ObjReq) (x : Session) (s : State),
      Commands s o x 8 ∧ s.sys.sealClosed = false) ∧
    (∃ (o : ObjReq) (x : Session) (s : State),
      Serves s o x 0x90 .authority ∧ s.sys.st = .standby ∧ o.b 3 = 1) ∧
    (∃ (o : ObjReq) (x : Session) (s : State),
      Serves s o x 0x90 .authority ∧ s.sys.st = .standby ∧ o.b 3 = 2) ∧
    (∃ (o : ObjReq) (x : Session) (s : State),
      Serves s o x 0x90 .authority ∧ s.sys.st = .standby ∧ o.b 3 = 3) ∧
    (∃ (o : ObjReq) (x : Session) (s : State),
      Serves s o x 0x90 .authority ∧ s.sys.st = .standby ∧ o.b 3 = 4) ∧
    (∃ (o : ObjReq) (x : Session) (s : State),
      Serves s o x 0x90 .authority ∧ s.sys.st = .standby ∧ o.b 3 = 5) ∧
    (∃ (o : ObjReq) (x : Session) (s : State),
      Serves s o x 0x90 .authority ∧ s.sys.st = .standby ∧ o.b 3 = 6) ∧
    (∃ (o : ObjReq) (x : Session) (s : State),
      Serves s o x 0x90 .authority ∧ s.sys.st = .standby ∧ o.b 3 = 7) ∧
    (∃ (o : ObjReq) (x : Session) (s : State),
      Serves s o x 0x90 .authority ∧ s.sys.st = .standby ∧ o.b 3 = 8) :=
  ⟨⟨(auth 1 0 : ObjReq), sesA, live, by unfold Commands Serves Admits; simp only [← Option.mem_def]; decide +kernel⟩,
   ⟨(auth 2 0 : ObjReq), sesA, live, by unfold Commands Serves Admits; simp only [← Option.mem_def]; decide +kernel⟩,
   ⟨(auth 3 0 : ObjReq), sesA, live, by unfold Commands Serves Admits; simp only [← Option.mem_def]; decide +kernel⟩,
   ⟨(auth 4 0 : ObjReq), sesA, (lchOf 0 (fun c => { c with holdAuth := true }) live : State),
      by unfold Commands Serves Admits; simp only [← Option.mem_def]; decide +kernel⟩,
   ⟨(auth 4 0 : ObjReq), sesA, live, by unfold Commands Serves Admits; simp only [← Option.mem_def]; decide +kernel⟩,
   ⟨(⟨⟨0, 1, 0, 41, 6, 100, true⟩, 9, [0x80, 0, 0x90, 4, 0, 0], 0, false, []⟩ : ObjReq), sesA, (lchOf 0 (fun c => { c with holdAuth := true, holdRoll := true }) live : State),
      by unfold Commands Serves Admits; simp only [← Option.mem_def]; decide +kernel⟩,
   ⟨(⟨⟨0, 1, 0, 41, 6, 100, true⟩, 9, [0x80, 0, 0x90, 4, 0, 0], 0, false, []⟩ : ObjReq), sesA, (lchOf 0 (fun c => { c with holdRoll := true }) live : State),
      by unfold Commands Serves Admits; simp only [← Option.mem_def]; decide +kernel⟩,
   ⟨(⟨⟨0, 1, 0, 41, 6, 100, true⟩, 9, [0x80, 3, 0x90, 3, 0, 0], 0, false, []⟩ : ObjReq), sesA, (lchOf 0 (fun c => { c with holdAuth := true, holdRoll := true }) live : State),
      by unfold Commands Serves Admits; simp only [← Option.mem_def]; decide +kernel⟩,
   ⟨(⟨⟨0, 1, 0, 41, 6, 100, true⟩, 9, [0x80, 3, 0x90, 4, 0, 0], 0, false, []⟩ : ObjReq), sesA, (lchOf 0 (fun c => { c with holdAuth := true, holdRoll := true }) live : State),
      by unfold Commands Serves Admits; simp only [← Option.mem_def]; decide +kernel⟩,
   ⟨(⟨⟨0, 1, 0, 41, 6, 100, true⟩, 9, [0x80, 3, 0x90, 5, 0, 0], 0, false, []⟩ : ObjReq), sesA, (lchOf 0 (fun c => { c with holdAuth := true, holdRoll := true }) live : State),
      by unfold Commands Serves Admits; simp only [← Option.mem_def]; decide +kernel⟩,
   ⟨(⟨⟨0, 1, 0, 41, 6, 100, true⟩, 9, [0x80, 0, 0x90, 3, 0, 0], 9, false, []⟩ : ObjReq), sesA, ((lchOf 0 (fun c => { c with holdAuth := true, holdRoll := true }) live : State).epScope (⟨⟨0, 1, 0, 41, 6, 100, true⟩, 9, [0x80, 0, 0x90, 3, 0, 0], 9, false, []⟩ : ObjReq).dg.part (⟨⟨0, 1, 0, 41, 6, 100, true⟩, 9, [0x80, 0, 0x90, 3, 0, 0], 9, false, []⟩ : ObjReq).target : Status), (lchOf 0 (fun c => { c with holdAuth := true, holdRoll := true }) live : State),
      by unfold Commands Serves Admits; simp only [← Option.mem_def]; decide +kernel⟩,
   ⟨(⟨⟨0, 1, 0, 41, 6, 100, true⟩, 9, [0x80, 0, 0x90, 4, 0, 0], 9, false, []⟩ : ObjReq), sesA, ((lchOf 0 (fun c => { c with holdAuth := true, holdRoll := true }) live : State).epScope (⟨⟨0, 1, 0, 41, 6, 100, true⟩, 9, [0x80, 0, 0x90, 4, 0, 0], 9, false, []⟩ : ObjReq).dg.part (⟨⟨0, 1, 0, 41, 6, 100, true⟩, 9, [0x80, 0, 0x90, 4, 0, 0], 9, false, []⟩ : ObjReq).target : Status), (lchOf 0 (fun c => { c with holdAuth := true, holdRoll := true }) live : State),
      by unfold Commands Serves Admits; simp only [← Option.mem_def]; decide +kernel⟩,
   ⟨(⟨⟨0, 1, 0, 41, 6, 100, true⟩, 9, [0x80, 0, 0x90, 5, 0, 0], 9, false, []⟩ : ObjReq), sesA, ((lchOf 0 (fun c => { c with holdAuth := true, holdRoll := true }) live : State).epScope (⟨⟨0, 1, 0, 41, 6, 100, true⟩, 9, [0x80, 0, 0x90, 5, 0, 0], 9, false, []⟩ : ObjReq).dg.part (⟨⟨0, 1, 0, 41, 6, 100, true⟩, 9, [0x80, 0, 0x90, 5, 0, 0], 9, false, []⟩ : ObjReq).target : Status), (lchOf 0 (fun c => { c with holdAuth := true, holdRoll := true }) live : State),
      by unfold Commands Serves Admits; simp only [← Option.mem_def]; decide +kernel⟩,
   ⟨(auth 5 0 : ObjReq), sesA, live, by unfold Commands Serves Admits; simp only [← Option.mem_def]; decide +kernel⟩,
   ⟨(0 : Chid), (Option.get (((lchOf 0 (fun c => { c with consent := some 5 }) live : State).lch (0 : Chid)).consent) (by decide +kernel) : Nat), (lchOf 0 (fun c => { c with consent := some 5 }) live : State),
      by decide +kernel⟩,
   ⟨(0 : Chid), live, by decide +kernel⟩,
   ⟨(auth 6 0 : ObjReq), sesA, (Option.get (live.sys.image) (by decide +kernel) : Image), live,
      by unfold Commands Serves Admits; simp only [← Option.mem_def]; decide +kernel⟩,
   ⟨(auth 6 0 : ObjReq), sesA, true, false, live, by unfold Commands Serves Admits; simp only [← Option.mem_def]; decide +kernel⟩,
   ⟨(auth 7 0 : ObjReq), sesA, (Option.get ((unsealed live : State).sys.image) (by decide +kernel) : Image), (unsealed live : State),
      by unfold Commands Serves Admits; simp only [← Option.mem_def]; decide +kernel⟩,
   ⟨(auth 7 0 : ObjReq), sesA, live, by unfold Commands Serves Admits; simp only [← Option.mem_def]; decide +kernel⟩,
   ⟨(⟨⟨0, 1, 0, 41, 6, 100, true⟩, 9, [0x80, 0, 0x90, 7, 0, 0], 0, false, []⟩ : ObjReq), sesA, (unsealed { live with otp := { otp0 with seals := List.replicate 32 5 } } : State),
      by unfold Commands Serves Admits; simp only [← Option.mem_def]; decide +kernel⟩,
   ⟨(auth 8 0 : ObjReq), sesA, live, by unfold Commands Serves Admits; simp only [← Option.mem_def]; decide +kernel⟩,
   ⟨(auth 8 0 : ObjReq), sesA, (unsealed live : State), by unfold Commands Serves Admits; simp only [← Option.mem_def]; decide +kernel⟩,
   ⟨(auth 1 0 : ObjReq), sesA, pairS, by unfold Serves Admits; simp only [← Option.mem_def]; decide +kernel⟩,
   ⟨(auth 2 0 : ObjReq), sesA, pairS, by unfold Serves Admits; simp only [← Option.mem_def]; decide +kernel⟩,
   ⟨(auth 3 0 : ObjReq), sesA, pairS, by unfold Serves Admits; simp only [← Option.mem_def]; decide +kernel⟩,
   ⟨(auth 4 0 : ObjReq), sesA, pairS, by unfold Serves Admits; simp only [← Option.mem_def]; decide +kernel⟩,
   ⟨(auth 5 0 : ObjReq), sesA, pairS, by unfold Serves Admits; simp only [← Option.mem_def]; decide +kernel⟩,
   ⟨(auth 6 0 : ObjReq), sesA, pairS, by unfold Serves Admits; simp only [← Option.mem_def]; decide +kernel⟩,
   ⟨(auth 7 0 : ObjReq), sesA, pairS, by unfold Serves Admits; simp only [← Option.mem_def]; decide +kernel⟩,
   ⟨(auth 8 0 : ObjReq), sesA, pairS, by unfold Serves Admits; simp only [← Option.mem_def]; decide +kernel⟩⟩

/-- States and operands that meet the hypotheses of each clause of PulsesSlicesAndPipes. -/
theorem test_wit_PulsesSlicesAndPipes :
    (∃ (n : Nat) (p : Nat) (c : OutCfg) (q : Nat) (w : Nat) (s : State),
      s.outCfg p = some c ∧ c.mode.qpp = some (q, w) ∧ s.sys.st = .active ∧ s.sys.heddle = true ∧ s.sys.outsOff = false ∧
      s.devHold = false ∧ 0 < s.owed p ∧ (s.outSt p).pulsing = false ∧
      (∀ a, (s.outSt p).last = some a → a + 2 * msCounts w ≤ max s.tim.cnt n) ∧ (s.standbyLive = false ∨ (∃ k, (s.outSt p).waits = some k ∧
      k ≤ s.par.mack))) ∧
    (∃ (n : Nat) (p : Nat) (c : OutCfg) (q : Nat) (w : Nat) (s : State),
      s.outCfg p = some c ∧ c.mode.qpp = some (q, w) ∧ s.sys.st = .active ∧ s.sys.heddle = true ∧ s.sys.outsOff = false ∧
      s.devHold = false ∧ 0 < s.owed p ∧ (s.outSt p).pulsing = false ∧
      (∀ a, (s.outSt p).last = some a → a + 2 * msCounts w ≤ max s.tim.cnt n) ∧ s.standbyLive = true ∧ (s.outSt p).waits = none) ∧
    (∃ (n : Nat) (p : Nat) (s : State),
      (s.outCfg p = none ∨ s.sys.st ≠ .active ∨ s.sys.heddle = false ∨ s.sys.outsOff = true ∨ s.devHold = true ∨ s.owed p = 0 ∨ (s.outSt p).pulsing = true ∨ (s.standbyLive = true ∧
      ∃ k, (s.outSt p).waits = some k ∧ s.par.mack < k) ∨ (∃ c q w a, s.outCfg p = some c ∧ c.mode.qpp = some (q, w) ∧
      (s.outSt p).last = some a ∧ max s.tim.cnt n < a + 2 * msCounts w))) ∧
    (∃ (n : Nat) (p : Nat) (c : OutCfg) (q : Nat) (w : Nat) (s : State),
      s.outCfg p = some c ∧ c.mode.qpp = some (q, w) ∧ (s.outSt p).pulsing = true ∧
      (s.outSt p).last.getD 0 + msCounts w ≤ max s.tim.cnt n) ∧
    (∃ (n : Nat) (p : Nat) (s : State),
      (s.outCfg p = none ∨ (s.outSt p).pulsing = false ∨ (∃ c q w, s.outCfg p = some c ∧ c.mode.qpp = some (q, w) ∧
      max s.tim.cnt n < (s.outSt p).last.getD 0 + msCounts w))) ∧
    (∃ (s : State),
      s.running = true ∧ s.bem.mounted = true ∧ s.sys.legalUnread = false) ∧
    (∃ (k : Nat) (s : State),
      k < 4 ∧ s.running = true ∧ s.usable .pipe k = true ∧ nbit s.pen.pipeEn k = true) ∧
    (∃ (k : Nat) (b : Bool) (s : State),
      (b = true ∨ s.running = false ∨ s.usable .pipe k = false ∨ nbit s.pen.pipeEn k = false)) ∧
    (∃ (s : State),
      (s.running = false ∨ s.bem.mounted = false ∨ s.sys.legalUnread = true)) ∧
    (∃ (r : Requester) (k : Nat) (m : Nat) (s : State),
      Permits s r (0x800000 + R.PEN_CTRL) ∧ k < 4 ∧ m < 4 ∧ m ≠ k ∧ s.pen.pipeEn < 16 ∧ nbit s.pen.pipeEn m = true ∧
      nbit s.sys.pens m = true) ∧
    (∃ (r : Requester) (k : Nat) (s : State),
      Permits s r (0x800000 + R.PEN_CTRL) ∧ k < 4 ∧ s.pen.pipeEn = 2 ^ k) ∧
    (∃ (r : Requester) (k : Nat) (s : State),
      Permits s r (0x800000 + R.PEN_CTRL) ∧ k < 4 ∧ s.pen.pipeEn < 16 ∧ nbit s.sys.pens k = true) ∧
    (∃ (r : Requester) (k : Nat) (m : Nat) (s : State),
      Permits s r (0x800000 + R.PEN_CTRL) ∧ k < 4 ∧ s.pen.pipeEn < 16 ∧ nbit s.sys.pens k = false ∧ m < 4 ∧ nbit s.pen.pipeEn m = true ∧
      nbit s.sys.pens m = true) ∧
    (∃ (j : Nat) (s : State),
      (s.job j).st = .running ∧ s.active Ev.RECOMPUTE_DONE = false) ∧
    (∃ (j : Nat) (s : State),
      (s.job j).st ≠ .running) :=
  ⟨⟨(1000001 : Nat), (0 : Nat), (Option.get ((slvOf (fun x => { x with outs := [(0, ⟨25, 1, false, none, none⟩)] }) live : State).outCfg (0 : Nat)) (by decide +kernel) : OutCfg), (10 : Nat), (100 : Nat), (slvOf (fun x => { x with outs := [(0, ⟨25, 1, false, none, none⟩)] }) live : State),
      by decide +kernel⟩,
   ⟨(1000001 : Nat), (0 : Nat), (Option.get ((slvOf (fun x => { x with outs := [(0, ⟨25, 1, false, none, none⟩)] }) pairA : State).outCfg (0 : Nat)) (by decide +kernel) : OutCfg), (10 : Nat), (100 : Nat), (slvOf (fun x => { x with outs := [(0, ⟨25, 1, false, none, none⟩)] }) pairA : State),
      by decide +kernel⟩,
   ⟨(1000001 : Nat), (1 : Nat), (slvOf (fun x => { x with outs := [(0, ⟨25, 1, false, none, none⟩)] }) live : State),
      by exact .inr (.inr (.inr (.inr (.inr (.inl (by decide +kernel))))))⟩,
   ⟨(40000000000 : Nat), (0 : Nat), (Option.get ((slvOf (fun x => { x with outs := [(0, ⟨25, 1, true, some 5, none⟩)] }) live : State).outCfg (0 : Nat)) (by decide +kernel) : OutCfg), (10 : Nat), (100 : Nat), (slvOf (fun x => { x with outs := [(0, ⟨25, 1, true, some 5, none⟩)] }) live : State),
      by decide +kernel⟩,
   ⟨(1000001 : Nat), (0 : Nat), (slvOf (fun x => { x with outs := [(0, ⟨25, 1, false, none, none⟩)] }) live : State),
      by exact .inr (.inl (by decide +kernel))⟩,
   ⟨(slvOf (fun x => { x with outs := [(0, ⟨25, 1, false, none, none⟩)] }) live : State), by decide +kernel⟩,
   ⟨(2 : Nat), (slvOf (fun x => { x with outs := [(0, ⟨25, 1, false, none, none⟩)] }) live : State), by decide +kernel⟩,
   ⟨(2 : Nat), true, (slvOf (fun x => { x with outs := [(0, ⟨25, 1, false, none, none⟩)] }) live : State), by decide +kernel⟩,
   ⟨(inSt .flush : State), by decide +kernel⟩,
   ⟨(.slot 0 0 : Requester), (2 : Nat), (0 : Nat), (slvOf (fun x => { x with outs := [(0, ⟨25, 1, false, none, none⟩)] }) live : State),
      by unfold Permits; decide +kernel⟩,
   ⟨(.slot 0 0 : Requester), (2 : Nat), (penOf (fun x => { x with pipeEn := 4 }) live : State), by unfold Permits; decide +kernel⟩,
   ⟨(.slot 0 0 : Requester), (2 : Nat), (slvOf (fun x => { x with outs := [(0, ⟨25, 1, false, none, none⟩)] }) live : State),
      by unfold Permits; decide +kernel⟩,
   ⟨(.slot 0 0 : Requester), (2 : Nat), (0 : Nat), (sysOf (fun x => { x with pens := 11 }) (penOf (fun x => { x with pipeEn := 11 }) live) : State),
      by unfold Permits; decide +kernel⟩,
   ⟨(0 : Nat), (penOf (fun x => { x with jobs := [(0, { Job.blank with st := .running })], order := [0] }) live : State),
      by decide +kernel⟩,
   ⟨(0 : Nat), (slvOf (fun x => { x with outs := [(0, ⟨25, 1, false, none, none⟩)] }) live : State), by decide +kernel⟩⟩

/-- States and operands that meet the hypotheses of each clause of BalanceEngine. -/
theorem test_wit_BalanceEngine :
    (∃ (x : BalNote) (q : List BalNote) (s : State),
      s.bal.inbox = x :: q ∧ s.sys.st = .active ∧ s.bal.en = true) ∧
    (∃ (x : BalNote) (q : List BalNote) (s : State),
      s.bal.inbox = x :: q ∧ (s.sys.st ≠ .active ∨ s.bal.en = false)) ∧
    (∃ (s : State),
      s.bal.inbox = []) ∧
    (∃ (ch : Chid) (k : Nat) (f : Nat) (b : Bool) (q : List (Chid × Nat × Nat × Bool)) (s : State),
      s.bal.factorIn = (ch, k, f, b) :: q ∧ (s.sys.st ≠ .active ∨ s.bal.en = false)) ∧
    (∃ (s : State),
      s.bal.factorIn = []) ∧
    (∃ (ch : Chid) (k : Nat) (f : Nat) (b : Bool) (q : List (Chid × Nat × Nat × Bool)) (s : State),
      s.bal.factorIn = (ch, k, f, b) :: q ∧ s.sys.st = .active ∧ s.bal.en = true) ∧
    (∃ (n : Nat) (m : Nat) (i : Nat) (b : BalNode) (s : State),
      s.sys.st = .active ∧ s.bal.en = true ∧ s.balNodes = [(i, b)] ∧ 0 < b.period ∧
      (s.stampNs (max s.tim.cnt n) - 2 * second) / minute = m ∧ s.bal.taken < m / b.period * b.period ∧
      (s.balSt i).next = m / b.period * b.period ∧ (s.balSt i).next * minute ≤ s.coverage b) ∧
    (∃ (n : Nat) (m : Nat) (i : Nat) (b : BalNode) (s : State),
      s.sys.st = .active ∧ s.bal.en = true ∧ s.balNodes = [(i, b)] ∧ 0 < b.period ∧
      (s.stampNs (max s.tim.cnt n) - 2 * second) / minute = m ∧ s.bal.taken < m ∧ s.coverage b < (s.balSt i).next * minute ∧
      m < (s.balSt i).next + s.coverWait) ∧
    (∃ (n : Nat) (m : Nat) (i : Nat) (b : BalNode) (s : State),
      s.sys.st = .active ∧ s.bal.en = true ∧ s.balNodes = [(i, b)] ∧ 0 < b.period ∧
      (s.stampNs (max s.tim.cnt n) - 2 * second) / minute = m ∧ s.bal.taken < m / b.period * b.period ∧
      s.coverage b < (s.balSt i).next * minute ∧ (s.balSt i).next ≤ m / b.period * b.period ∧
      (s.balSt i).next + s.coverWait ≤ m / b.period * b.period ∧ m / b.period * b.period < (s.balSt i).next + b.period + s.coverWait) ∧
    (∃ (n : Nat) (s : State),
      (s.bal.en = false ∨ s.sys.st ≠ .active ∨ (s.stampNs (max s.tim.cnt n) - 2 * second) / minute ≤ s.bal.taken)) ∧
    (∃ (s : State),
      s.sys.st = .active ∧ s.sysWrites = true) ∧
    (∃ (s : State),
      (s.sysWrites = false ∨ s.sys.st ≠ .active)) ∧
    (∃ (r : Requester) (s : State),
      Permits s r (0x800000 + R.BAL_CTRL) ∧ s.bal.en = true ∧ Store.wf (fun _ => BalSt.blank) s.bal.nodes = true) ∧
    (∃ (r : Requester) (s : State),
      Permits s r (0x800000 + R.BAL_CTRL) ∧ s.bal.en = false ∧ (s.balNodes.map Prod.fst).Nodup) ∧
    (∃ (r : Requester) (s : State),
      Permits s r (0x800000 + R.BAL_CTRL) ∧ s.bal.en = false) ∧
    (∃ (r : Requester) (s : State),
      Permits s r (0x800000 + R.BAL_CTRL) ∧ s.bal.en = true) ∧
    (∃ (r : Requester) (n : Nat) (s : State),
      Permits s r (0x800000 + R.BAL_CMD) ∧ n < 2 ^ 16 ∧ n ∉ s.balNodes.map Prod.fst) ∧
    (∃ (r : Requester) (n : Nat) (s : State),
      Permits s r (0x800000 + R.BAL_CMD) ∧ n < 2 ^ 16 ∧ n ∈ s.balNodes.map Prod.fst) ∧
    (∃ (r : Requester) (s : State),
      Permits s r (0x800000 + R.BAL_CMD)) ∧
    (∃ (r : Requester) (s : State),
      Permits s r R.BAL_NODE_IDX) :=
  ⟨⟨(List.head ((balOf (fun x => { x with inbox := [⟨0, 5, 4, 1000 * second, 10, 0, false, 0, true⟩] }) live : State).bal.inbox) (by decide +kernel) : BalNote), (List.tail ((balOf (fun x => { x with inbox := [⟨0, 5, 4, 1000 * second, 10, 0, false, 0, true⟩] }) live : State).bal.inbox) : List BalNote), (balOf (fun x => { x with inbox := [⟨0, 5, 4, 1000 * second, 10, 0, false, 0, true⟩] }) live : State),
      by decide +kernel⟩,
   ⟨(List.head ((balOf (fun x => { x with inbox := [⟨0, 5, 4, 1000 * second, 10, 0, false, 0, true⟩], en := false }) live : State).bal.inbox) (by decide +kernel) : BalNote), (List.tail ((balOf (fun x => { x with inbox := [⟨0, 5, 4, 1000 * second, 10, 0, false, 0, true⟩], en := false }) live : State).bal.inbox) : List BalNote), (balOf (fun x => { x with inbox := [⟨0, 5, 4, 1000 * second, 10, 0, false, 0, true⟩], en := false }) live : State),
      by decide +kernel⟩,
   ⟨(balOf (fun x => { x with factorIn := [(0, 5, 3, true)] }) live : State), by decide +kernel⟩,
   ⟨(0 : Chid), (5 : Nat), (3 : Nat), true, ([] : List (Chid × Nat × Nat × Bool)), (balOf (fun x => { x with factorIn := [(0, 5, 3, true)], en := false }) live : State),
      by decide +kernel⟩,
   ⟨(balOf (fun x => { x with inbox := [⟨0, 5, 4, 1000 * second, 10, 0, false, 0, true⟩] }) live : State), by decide +kernel⟩,
   ⟨(0 : Chid), (5 : Nat), (3 : Nat), true, ([] : List (Chid × Nat × Nat × Bool)), (balOf (fun x => { x with factorIn := [(0, 5, 3, true)] }) live : State),
      by decide +kernel⟩,
   ⟨(0 : Nat), (((balOf (fun x => { x with nodes := [(0, { BalSt.blank with next := 16666 })], chans := [(0, { BalChan.blank with covered := 16666 * minute }), (4, { BalChan.blank with covered := 16666 * minute })] }) live : State).stampNs (max (balOf (fun x => { x with nodes := [(0, { BalSt.blank with next := 16666 })], chans := [(0, { BalChan.blank with covered := 16666 * minute }), (4, { BalChan.blank with covered := 16666 * minute })] }) live : State).tim.cnt (0 : Nat)) - 2 * second) / minute : Nat), (0 : Nat), (⟨2, none, 0, 0, 0, 1, 100, 1000, 0, 5000, 10, 3, [⟨false, true, 0⟩, ⟨true, true, 4⟩], []⟩ : BalNode), (balOf (fun x => { x with nodes := [(0, { BalSt.blank with next := 16666 })], chans := [(0, { BalChan.blank with covered := 16666 * minute }), (4, { BalChan.blank with covered := 16666 * minute })] }) live : State),
      by decide +kernel⟩,
   ⟨(0 : Nat), (((balOf (fun x => { x with nodes := [(0, { BalSt.blank with next := 16666 })], chans := [(0, { BalChan.blank with covered := 16600 * minute }), (4, { BalChan.blank with covered := 16600 * minute })] }) live : State).stampNs (max (balOf (fun x => { x with nodes := [(0, { BalSt.blank with next := 16666 })], chans := [(0, { BalChan.blank with covered := 16600 * minute }), (4, { BalChan.blank with covered := 16600 * minute })] }) live : State).tim.cnt (0 : Nat)) - 2 * second) / minute : Nat), (0 : Nat), (⟨2, none, 0, 0, 0, 1, 100, 1000, 0, 5000, 10, 3, [⟨false, true, 0⟩, ⟨true, true, 4⟩], []⟩ : BalNode), (balOf (fun x => { x with nodes := [(0, { BalSt.blank with next := 16666 })], chans := [(0, { BalChan.blank with covered := 16600 * minute }), (4, { BalChan.blank with covered := 16600 * minute })] }) live : State),
      by decide +kernel⟩,
   ⟨(0 : Nat), (((balOf (fun x => { x with nodes := [(0, { BalSt.blank with next := 16636 })], chans := [(0, { BalChan.blank with covered := 16500 * minute }), (4, { BalChan.blank with covered := 16500 * minute })] }) live : State).stampNs (max (balOf (fun x => { x with nodes := [(0, { BalSt.blank with next := 16636 })], chans := [(0, { BalChan.blank with covered := 16500 * minute }), (4, { BalChan.blank with covered := 16500 * minute })] }) live : State).tim.cnt (0 : Nat)) - 2 * second) / minute : Nat), (0 : Nat), (⟨2, none, 0, 0, 0, 1, 100, 1000, 0, 5000, 10, 3, [⟨false, true, 0⟩, ⟨true, true, 4⟩], []⟩ : BalNode), (balOf (fun x => { x with nodes := [(0, { BalSt.blank with next := 16636 })], chans := [(0, { BalChan.blank with covered := 16500 * minute }), (4, { BalChan.blank with covered := 16500 * minute })] }) live : State),
      by decide +kernel⟩,
   ⟨(1000001 : Nat), (balOf (fun x => { x with inbox := [⟨0, 5, 4, 1000 * second, 10, 0, false, 0, true⟩], en := false }) live : State),
      by decide +kernel⟩,
   ⟨(balOf (fun x => { x with inbox := [⟨0, 5, 4, 1000 * second, 10, 0, false, 0, true⟩] }) live : State), by decide +kernel⟩,
   ⟨pairS, by decide +kernel⟩,
   ⟨(.slot 0 0 : Requester), (balOf (fun x => { x with inbox := [⟨0, 5, 4, 1000 * second, 10, 0, false, 0, true⟩] }) live : State),
      by unfold Permits; decide +kernel⟩,
   ⟨(.slot 0 0 : Requester), (balOf (fun x => { x with inbox := [⟨0, 5, 4, 1000 * second, 10, 0, false, 0, true⟩], en := false }) live : State),
      by unfold Permits; decide +kernel⟩,
   ⟨(.slot 0 0 : Requester), (balOf (fun x => { x with inbox := [⟨0, 5, 4, 1000 * second, 10, 0, false, 0, true⟩], en := false }) live : State),
      by unfold Permits; decide +kernel⟩,
   ⟨(.slot 0 0 : Requester), (balOf (fun x => { x with inbox := [⟨0, 5, 4, 1000 * second, 10, 0, false, 0, true⟩] }) live : State),
      by unfold Permits; decide +kernel⟩,
   ⟨(.slot 0 0 : Requester), (1 : Nat), (balOf (fun x => { x with inbox := [⟨0, 5, 4, 1000 * second, 10, 0, false, 0, true⟩] }) live : State),
      by unfold Permits; decide +kernel⟩,
   ⟨(.slot 0 0 : Requester), (0 : Nat), (balOf (fun x => { x with inbox := [⟨0, 5, 4, 1000 * second, 10, 0, false, 0, true⟩] }) live : State),
      by unfold Permits; decide +kernel⟩,
   ⟨(.slot 0 0 : Requester), (balOf (fun x => { x with inbox := [⟨0, 5, 4, 1000 * second, 10, 0, false, 0, true⟩] }) live : State),
      by unfold Permits; decide +kernel⟩,
   ⟨(.slot 0 0 : Requester), (balOf (fun x => { x with inbox := [⟨0, 5, 4, 1000 * second, 10, 0, false, 0, true⟩] }) live : State),
      by unfold Permits; decide +kernel⟩⟩

/-- States and operands that meet the hypotheses of each clause of BeamWrites. -/
theorem test_wit_BeamWrites :
    (∃ (l : JRec) (s : State),
      s.beamUp = true ∧ s.nand.legalRo = false ∧ s.sys.legalUnread = false ∧ (s.slv.jbuf.take 16).getLast? = some l ∧
      (s.space .legal true).isSome = true ∧ s.nand.ring.length < ringUnits) ∧
    (∃ (s : State),
      (s.nand.legalRo = true ∨ s.sys.legalUnread = true ∨ s.slv.jbuf = [] ∨ s.beamUp = false ∨ s.space .legal true = none)) ∧
    (∃ (s : State),
      s.beamUp = true ∧ s.sysWrites = true ∧ s.bem.warpBuf = [] ∧ s.bem.archBuf ≠ [] ∧ 65536 ≤ s.freeF ∧ s.gcReserve ≤ s.freeF ∧
      (s.space .archive (decide (s.cacheBytes + 65536 ≤ s.sCache))).isSome = true) ∧
    (∃ (s : State),
      s.beamUp = true ∧ s.sysWrites = true ∧ s.bem.warpBuf = [] ∧ s.bem.archBuf ≠ [] ∧ s.freeF < 65536 ∧ s.gcReserve ≤ s.freeF ∧
      s.oldestChunk = none) ∧
    (∃ (m : Move) (s : State),
      s.beamUp = true ∧ s.sysWrites = true ∧ s.freeF < s.gcReserve ∧ s.bem.moves.find? (fun x => x.kind = .gc) = some m ∧
      m.mapped = false ∧ (∀ c ∈ m.copies, c.2 ≠ m.victim)) ∧
    (∃ (s : State),
      s.beamUp = true ∧ s.sysWrites = false) ∧
    (∃ (s : State),
      s.beamUp = false) ∧
    (∃ (s : State),
      s.beamUp = false) ∧
    (∃ (s : State),
      s.beamUp = false) ∧
    (∃ (s : State),
      s.beamUp = false) ∧
    (∃ (s : State),
      s.beamUp = false) ∧
    (∃ (m : Move) (s : State),
      s.beamUp = true ∧ s.sysWrites = true ∧ (3 * s.sCache ≤ 4 * s.cacheBytes ∨ (s.bem.archBuf = [] ∧ s.bem.warpBuf = [] ∧
      s.bem.waitAt + msCounts 1000 ≤ s.tim.cnt)) ∧ s.bem.moves.find? (fun x => x.kind = .fold) = some m ∧ m.mapped = false ∧
      (∀ c ∈ m.copies, c.2 ≠ m.victim)) ∧
    (∃ (m : Move) (s : State),
      s.beamUp = true ∧ s.sysWrites = true ∧ (3 * s.sCache ≤ 4 * s.cacheBytes ∨ (s.bem.archBuf = [] ∧ s.bem.warpBuf = [] ∧
      s.bem.waitAt + msCounts 1000 ≤ s.tim.cnt)) ∧ s.bem.moves.find? (fun x => x.kind = .fold) = some m ∧ m.mapped = true ∧
      (Store.get (fun _ => Block.blank) s.nand.blocks m.victim).erases + 1 < 3 * s.rated (Store.get (fun _ => Block.blank) s.nand.blocks m.victim).pool) ∧
    (∃ (n : Nat) (s : State),
      s.beamUp = true ∧ s.sysWrites = true ∧ (3 * s.sCache ≤ 4 * s.cacheBytes ∨ (s.bem.archBuf = [] ∧ s.bem.warpBuf = [] ∧
      s.bem.waitAt + msCounts 1000 ≤ s.tim.cnt)) ∧ s.bem.moves.find? (fun x => x.kind = .fold) = none ∧
      (s.victimOf (fun x => x.2.pool = .archive ∧ x.2.slc) = some n) ∧
      (∀ u ∈ (Store.get (fun _ => Block.blank) s.nand.blocks n).units, s.liveUnit u = false)) ∧
    (∃ (s : State),
      (s.sysWrites = false ∨ (4 * s.cacheBytes < 3 * s.sCache ∧
      (s.bem.archBuf ≠ [] ∨ s.bem.warpBuf ≠ [] ∨ s.tim.cnt < s.bem.waitAt + msCounts 1000)))) ∧
    (∃ (m : Move) (s : State),
      s.beamUp = true ∧ s.sysWrites = true ∧ s.bem.moves.find? (fun x => x.kind = .gc) = some m ∧ m.mapped = false ∧
      (∀ c ∈ m.copies, c.2 ≠ m.victim)) ∧
    (∃ (m : Move) (s : State),
      s.beamUp = true ∧ s.sysWrites = true ∧ s.bem.moves.find? (fun x => x.kind = .gc) = some m ∧ m.mapped = true ∧
      (Store.get (fun _ => Block.blank) s.nand.blocks m.victim).erases + 1 < 3 * s.rated (Store.get (fun _ => Block.blank) s.nand.blocks m.victim).pool) ∧
    (∃ (s : State),
      s.beamUp = true ∧ s.sysWrites = true ∧ s.bem.moves.find? (fun x => x.kind = .gc) = none ∧
      (∀ x ∈ s.nand.blocks, x.2.fill = 0 ∨ s.nandOn x.2.ch = false)) ∧
    (∃ (s : State),
      s.beamUp = true ∧ s.sysWrites = false) ∧
    (∃ (p : Pool) (m : Move) (b : Nat × Nat × Nat) (s : State),
      s.beamUp = true ∧ s.wearSpread p = some b ∧ s.bem.moves.find? (fun x => x.kind = .wear) = some m ∧ m.mapped = false ∧
      (∀ c ∈ m.copies, c.2 ≠ m.victim)) ∧
    (∃ (p : Pool) (n : Nat) (lo : Nat) (hi : Nat) (s : State),
      s.wearSpread p = some (n, lo, hi) ∧ s.bem.moves.find? (fun x => x.kind = .wear) = none ∧ 100 * (hi - lo) ≤ s.rated p * 5) ∧
    (∃ (p : Pool) (n : Nat) (lo : Nat) (hi : Nat) (s : State),
      s.beamUp = true ∧ s.wearSpread p = some (n, lo, hi) ∧ s.bem.moves.find? (fun x => x.kind = .wear) = none ∧
      s.rated p * 5 < 100 * (hi - lo) ∧ (∀ u ∈ (Store.get (fun _ => Block.blank) s.nand.blocks n).units, s.liveUnit u = false)) ∧
    (∃ (p : Pool) (m : Move) (b : Nat × Nat × Nat) (s : State),
      s.beamUp = true ∧ s.wearSpread p = some b ∧ s.bem.moves.find? (fun x => x.kind = .wear) = some m ∧ m.mapped = true ∧
      (Store.get (fun _ => Block.blank) s.nand.blocks m.victim).erases + 1 < 3 * s.rated (Store.get (fun _ => Block.blank) s.nand.blocks m.victim).pool) ∧
    (∃ (n : Nat) (s : State),
      n ∉ s.nand.blocks.map Prod.fst) ∧
    (∃ (n : Nat) (s : State),
      s.beamUp = true ∧ n ∈ s.nand.blocks.map Prod.fst) ∧
    (∃ (n : Nat) (s : State),
      s.beamUp = true ∧ n ∈ s.nand.blocks.map Prod.fst) :=
  ⟨⟨(Option.get (((slvOf (fun x => { x with jbuf := [jrec 100] }) live : State).slv.jbuf.take 16).getLast?) (by decide +kernel) : JRec), (slvOf (fun x => { x with jbuf := [jrec 100] }) live : State),
      by decide +kernel⟩,
   ⟨(bemOf (fun x => { x with archBuf := [arec0] }) roomy : State), by decide +kernel⟩,
   ⟨(bemOf (fun x => { x with archBuf := [arec0] }) roomy : State), by decide +kernel⟩,
   ⟨(bemOf (fun x => { x with archBuf := [arec0] }) (nandOf (fun x => { x with archBlocks := 0 }) live) : State), by decide +kernel⟩,
   ⟨(Option.get ((bemOf (fun x => { x with moves := [⟨.gc, 7, [], false⟩] }) (nandOf (fun x => { x with archBlocks := 100 }) live) : State).bem.moves.find? (fun x => x.kind = .gc)) (by decide +kernel) : Move), (bemOf (fun x => { x with moves := [⟨.gc, 7, [], false⟩] }) (nandOf (fun x => { x with archBlocks := 100 }) live) : State),
      by decide +kernel⟩,
   ⟨(nandOf (fun x => { x with archRo := true }) live : State), by decide +kernel⟩,
   ⟨(inSt .flush : State), by decide +kernel⟩,
   ⟨(inSt .flush : State), by decide +kernel⟩,
   ⟨(inSt .flush : State), by decide +kernel⟩,
   ⟨(inSt .flush : State), by decide +kernel⟩,
   ⟨(inSt .flush : State), by decide +kernel⟩,
   ⟨(Option.get ((bemOf (fun x => { x with moves := [⟨.fold, 7, [], false⟩] }) (timOf (fun x => { x with cnt := 1000000000 }) live) : State).bem.moves.find? (fun x => x.kind = .fold)) (by decide +kernel) : Move), (bemOf (fun x => { x with moves := [⟨.fold, 7, [], false⟩] }) (timOf (fun x => { x with cnt := 1000000000 }) live) : State),
      by decide +kernel⟩,
   ⟨(Option.get ((bemOf (fun x => { x with moves := [⟨.fold, 7, [], true⟩] }) (nandOf (fun x => { x with blocks := [(7, blk 9)] }) (timOf (fun x => { x with cnt := 1000000000 }) live)) : State).bem.moves.find? (fun x => x.kind = .fold)) (by decide +kernel) : Move), (bemOf (fun x => { x with moves := [⟨.fold, 7, [], true⟩] }) (nandOf (fun x => { x with blocks := [(7, blk 9)] }) (timOf (fun x => { x with cnt := 1000000000 }) live)) : State),
      by decide +kernel⟩,
   ⟨(7 : Nat), (nandOf (fun x => { x with blocks := [(7, ⟨.archive, 0, 3, [], 1, true, false⟩)] }) (timOf (fun x => { x with cnt := 1000000000 }) live) : State),
      by decide +kernel⟩,
   ⟨(slvOf (fun x => { x with jbuf := [jrec 100] }) live : State), by decide +kernel⟩,
   ⟨(Option.get ((bemOf (fun x => { x with moves := [⟨.gc, 3, [], false⟩] }) (nandOf (fun x => { x with blocks := [(3, blk 9)] }) roomy) : State).bem.moves.find? (fun x => x.kind = .gc)) (by decide +kernel) : Move), (bemOf (fun x => { x with moves := [⟨.gc, 3, [], false⟩] }) (nandOf (fun x => { x with blocks := [(3, blk 9)] }) roomy) : State),
      by decide +kernel⟩,
   ⟨(Option.get ((bemOf (fun x => { x with moves := [⟨.gc, 3, [], true⟩] }) (nandOf (fun x => { x with blocks := [(3, { blk 9 with slc := false })] }) roomy) : State).bem.moves.find? (fun x => x.kind = .gc)) (by decide +kernel) : Move), (bemOf (fun x => { x with moves := [⟨.gc, 3, [], true⟩] }) (nandOf (fun x => { x with blocks := [(3, { blk 9 with slc := false })] }) roomy) : State),
      by decide +kernel⟩,
   ⟨(slvOf (fun x => { x with jbuf := [jrec 100] }) live : State), by decide +kernel⟩,
   ⟨(nandOf (fun x => { x with archRo := true }) live : State), by decide +kernel⟩,
   ⟨(.archive : Pool), (Option.get ((bemOf (fun x => { x with moves := [⟨.wear, 3, [], false⟩] }) (nandOf (fun x => { x with blocks := [(3, blk 9)] }) roomy) : State).bem.moves.find? (fun x => x.kind = .wear)) (by decide +kernel) : Move), (Option.get ((bemOf (fun x => { x with moves := [⟨.wear, 3, [], false⟩] }) (nandOf (fun x => { x with blocks := [(3, blk 9)] }) roomy) : State).wearSpread (.archive : Pool)) (by decide +kernel) : Nat × Nat × Nat), (bemOf (fun x => { x with moves := [⟨.wear, 3, [], false⟩] }) (nandOf (fun x => { x with blocks := [(3, blk 9)] }) roomy) : State),
      by decide +kernel⟩,
   ⟨(.archive : Pool), (3 : Nat), (3 : Nat), (3 : Nat), (bemOf (fun x => { x with moves := [⟨.fold, 3, [], false⟩] }) (nandOf (fun x => { x with blocks := [(3, blk 9)] }) roomy) : State),
      by decide +kernel⟩,
   ⟨(.archive : Pool), (3 : Nat), (3 : Nat), (9000 : Nat), (nandOf (fun x => { x with blocks := [(3, blk 9), (4, { blk 8 with erases := 9000 })], archive := [{ arec0 with unit := 9, dropped := true }] }) roomy : State),
      by decide +kernel⟩,
   ⟨(.archive : Pool), (Option.get ((bemOf (fun x => { x with moves := [⟨.wear, 3, [], true⟩] }) (nandOf (fun x => { x with blocks := [(3, { blk 9 with slc := false })] }) roomy) : State).bem.moves.find? (fun x => x.kind = .wear)) (by decide +kernel) : Move), (Option.get ((bemOf (fun x => { x with moves := [⟨.wear, 3, [], true⟩] }) (nandOf (fun x => { x with blocks := [(3, { blk 9 with slc := false })] }) roomy) : State).wearSpread (.archive : Pool)) (by decide +kernel) : Nat × Nat × Nat), (bemOf (fun x => { x with moves := [⟨.wear, 3, [], true⟩] }) (nandOf (fun x => { x with blocks := [(3, { blk 9 with slc := false })] }) roomy) : State),
      by decide +kernel⟩,
   ⟨(3 : Nat), (slvOf (fun x => { x with jbuf := [jrec 100] }) live : State), by decide +kernel⟩,
   ⟨(3 : Nat), (bemOf (fun x => { x with moves := [⟨.fold, 3, [], false⟩] }) (nandOf (fun x => { x with blocks := [(3, blk 9)] }) roomy) : State),
      by decide +kernel⟩,
   ⟨(3 : Nat), (bemOf (fun x => { x with moves := [⟨.fold, 3, [], false⟩] }) (nandOf (fun x => { x with blocks := [(3, blk 9)] }) roomy) : State),
      by decide +kernel⟩⟩

/-- States and operands that meet the hypotheses of each clause of BeamReadsAndChannels. -/
theorem test_wit_BeamReadsAndChannels :
    (∃ (c : Nat) (s : State),
      s.nandOn c = true ∧ s.active Ev.NAND_UE = false) ∧
    (∃ (c : Nat) (s : State),
      s.nandOn c = true) ∧
    (∃ (c : Nat) (s : State),
      s.nandOn c = true) ∧
    (∃ (c : Nat) (s : State),
      s.nandOn c = true) ∧
    (∃ (c : Nat) (s : State),
      s.nandOn c = true) ∧
    (∃ (c : Nat) (s : State),
      s.nandOn c = true) ∧
    (∃ (c : Nat) (s : State),
      s.nandOn c = true) ∧
    (∃ (c : Nat) (s : State),
      s.nandOn c = true) ∧
    (∃ (c : Nat) (s : State),
      s.nandOn c = true) ∧
    (∃ (c : Nat) (s : State),
      s.nandOn c = true) ∧
    (∃ (c : Nat) (s : State),
      s.nandOn c = false) ∧
    (∃ (ch : Chid) (m : Nat) (s : State),
      s.beamUp = true ∧ s.sysWrites = true ∧ s.fastSeconds ch m ≠ [] ∧ s.aggregated ch m = false ∧
      s.minuteEnd m + s.retFast * 3600 * second ≤ s.nowNs) ∧
    (∃ (ch : Chid) (m : Nat) (s : State),
      (s.aggregated ch m = true ∨ s.fastSeconds ch m = [] ∨ s.beamUp = false ∨ s.nowNs < s.minuteEnd m + s.retFast * 3600 * second)) ∧
    (∃ (r : Requester) (k : Nat) (st : Stream) (s : State),
      Permits s r (0x800000 + R.BEM_CMD) ∧ k < 6 ∧ streamOf k = some st ∧ s.sysWrites = true ∧
      (∀ d ∈ s.legalDays, d < (s.rg R.BEM_CMD_FROM).toNat ∨ (s.rg R.BEM_CMD_TO).toNat < d)) ∧
    (∃ (r : Requester) (k : Nat) (d : Nat) (s : State),
      Permits s r (0x800000 + R.BEM_CMD) ∧ k < 16 ∧ (s.sysWrites = false ∨ 6 ≤ k ∨ (d ∈ s.legalDays ∧ (s.rg R.BEM_CMD_FROM).toNat ≤ d ∧
      d ≤ (s.rg R.BEM_CMD_TO).toNat))) ∧
    (∃ (r : Requester) (n : Nat) (m : Nat) (s : State),
      Permits s r (0x800000 + R.BEM_CTRL) ∧ n < 8 ∧ s.bem.chEn < 256 ∧ nbit s.bem.chEn n = true ∧ m ∈ s.nandList ∧ m ≠ n ∧
      s.drainFits n = true) ∧
    (∃ (r : Requester) (n : Nat) (s : State),
      Permits s r (0x800000 + R.BEM_CTRL) ∧ n < 8 ∧ s.bem.chEn < 256 ∧ nbit s.bem.chEn n = true ∧
      (s.drainFits n = false ∨ (∀ m ∈ s.nandList, m = n))) ∧
    (∃ (r : Requester) (n : Nat) (s : State),
      Permits s r (0x800000 + R.BEM_CTRL) ∧ n < 8 ∧ s.bem.chEn < 256 ∧ nbit s.bem.chEn n = false ∧ s.chSt n ≠ .draining ∧
      nbit s.nandCfg.chMask n = true ∧ nbit s.sys.nandOk n = true ∧ (UnitKind.nand, n) ∉ s.evt.failed) ∧
    (∃ (r : Requester) (n : Nat) (s : State),
      Permits s r (0x800000 + R.BEM_CTRL) ∧ n < 8 ∧ s.bem.chEn < 256 ∧ nbit s.bem.chEn n = false ∧
      (nbit s.nandCfg.chMask n = false ∨ nbit s.sys.nandOk n = false ∨ (UnitKind.nand, n) ∈ s.evt.failed)) ∧
    (∃ (n : Nat) (s : State),
      s.beamUp = true ∧ s.chSt n = .draining) ∧
    (∃ (r : Requester) (n : Nat) (s : State),
      Permits s r (0x800000 + R.BEM_CTRL) ∧ n < 8 ∧ s.bem.chEn < 256 ∧ nbit s.bem.chEn n = false ∧ s.chSt n = .draining) ∧
    (∃ (n : Nat) (s : State),
      (s.beamUp = false ∨ (s.nandOn n = false ∧ s.chSt n ≠ .draining))) ∧
    (∃ (n : Nat) (s : State),
      (s.beamUp = false ∨ s.chSt n ≠ .draining)) ∧
    (∃ (n : Nat) (s : State),
      n < 8 ∧ s.beamUp = true ∧ (s.nandOn n = true ∨ s.chSt n = .draining)) :=
  ⟨⟨(0 : Nat), (nandOf (fun x => { x with archive := [⟨.fastRaw, 0, .entry (ent 4 61 5 50), false, false, 0⟩] }) live : State),
      by decide +kernel⟩,
   ⟨(0 : Nat), (nandOf (fun x => { x with archive := [⟨.fastRaw, 0, .entry (ent 4 61 5 50), false, false, 0⟩] }) live : State),
      by decide +kernel⟩,
   ⟨(0 : Nat), (nandOf (fun x => { x with archive := [⟨.fastRaw, 0, .entry (ent 4 61 5 50), false, false, 0⟩] }) live : State),
      by decide +kernel⟩,
   ⟨(0 : Nat), (nandOf (fun x => { x with archive := [⟨.fastRaw, 0, .entry (ent 4 61 5 50), false, false, 0⟩] }) live : State),
      by decide +kernel⟩,
   ⟨(0 : Nat), (nandOf (fun x => { x with archive := [⟨.fastRaw, 0, .entry (ent 4 61 5 50), false, false, 0⟩] }) live : State),
      by decide +kernel⟩,
   ⟨(0 : Nat), (nandOf (fun x => { x with archive := [⟨.fastRaw, 0, .entry (ent 4 61 5 50), false, false, 0⟩] }) live : State),
      by decide +kernel⟩,
   ⟨(0 : Nat), (nandOf (fun x => { x with archive := [⟨.fastRaw, 0, .entry (ent 4 61 5 50), false, false, 0⟩] }) live : State),
      by decide +kernel⟩,
   ⟨(0 : Nat), (nandOf (fun x => { x with archive := [⟨.fastRaw, 0, .entry (ent 4 61 5 50), false, false, 0⟩] }) live : State),
      by decide +kernel⟩,
   ⟨(0 : Nat), (nandOf (fun x => { x with archive := [⟨.fastRaw, 0, .entry (ent 4 61 5 50), false, false, 0⟩] }) live : State),
      by decide +kernel⟩,
   ⟨(0 : Nat), (nandOf (fun x => { x with archive := [⟨.fastRaw, 0, .entry (ent 4 61 5 50), false, false, 0⟩] }) live : State),
      by decide +kernel⟩,
   ⟨(8 : Nat), (nandOf (fun x => { x with archive := [⟨.fastRaw, 0, .entry (ent 4 61 5 50), false, false, 0⟩] }) live : State),
      by decide +kernel⟩,
   ⟨(4 : Chid), (2 : Nat), (nandOf (fun x => { x with archive := [⟨.fastRaw, 0, .entry (ent 4 61 5 50), false, false, 0⟩] }) live : State), by decide +kernel⟩,
   ⟨(4 : Chid), (1 : Nat), (nandOf (fun x => { x with archive := [⟨.fastRaw, 0, .entry (ent 4 61 5 50), false, false, 0⟩] }) live : State), by decide +kernel⟩,
   ⟨(.slot 0 0 : Requester), (0 : Nat), (Option.get (streamOf (0 : Nat)) (by decide +kernel) : Stream), (nandOf (fun x => { x with archive := [⟨.fastRaw, 0, .entry (ent 4 61 5 50), false, false, 0⟩] }) live : State),
      by unfold Permits; decide +kernel⟩,
   ⟨(.slot 0 0 : Requester), (15 : Nat), (0 : Nat), (nandOf (fun x => { x with archive := [⟨.fastRaw, 0, .entry (ent 4 61 5 50), false, false, 0⟩] }) live : State),
      by unfold Permits; decide +kernel⟩,
   ⟨(.slot 0 0 : Requester), (0 : Nat), (1 : Nat), (nandOf (fun x => { x with archive := [⟨.fastRaw, 0, .entry (ent 4 61 5 50), false, false, 0⟩] }) live : State),
      by unfold Permits; decide +kernel⟩,
   ⟨(.slot 0 0 : Requester), (0 : Nat), (nandOf (fun x => { x with blocks := [(3, blk 9)] }) live : State),
      by unfold Permits; decide +kernel⟩,
   ⟨(.slot 0 0 : Requester), (0 : Nat), (sysOf (fun x => { x with nandOk := 255 }) (bemOf (fun x => { x with chEn := 254 }) live) : State), by unfold Permits; decide +kernel⟩,
   ⟨(.slot 0 0 : Requester), (0 : Nat), (sysOf (fun x => { x with nands := 254 }) (bemOf (fun x => { x with chEn := 254 }) live) : State), by unfold Permits; decide +kernel⟩,
   ⟨(0 : Nat), (bemOf (fun x => { x with chans := [(0, .draining)] }) live : State), by decide +kernel⟩,
   ⟨(.slot 0 0 : Requester), (0 : Nat), (sysOf (fun x => { x with nandOk := 255 }) (bemOf (fun x => { x with chEn := 254, chans := [(0, .draining)] }) live) : State),
      by unfold Permits; decide +kernel⟩,
   ⟨(8 : Nat), (nandOf (fun x => { x with archive := [⟨.fastRaw, 0, .entry (ent 4 61 5 50), false, false, 0⟩] }) live : State),
      by decide +kernel⟩,
   ⟨(0 : Nat), (nandOf (fun x => { x with archive := [⟨.fastRaw, 0, .entry (ent 4 61 5 50), false, false, 0⟩] }) live : State),
      by decide +kernel⟩,
   ⟨(0 : Nat), (nandOf (fun x => { x with archive := [⟨.fastRaw, 0, .entry (ent 4 61 5 50), false, false, 0⟩] }) live : State),
      by decide +kernel⟩⟩

/-- States and operands that meet the hypotheses of each clause of KeyStore. -/
theorem test_wit_KeyStore :
    (∃ (s : State),
      s.key.trngOk = true ∧ s.active Ev.TRNG_FAIL = false) ∧
    (∃ (s : State),
      s.key.trngOk = false) ∧
    (∃ (ep : Nat) (s : State),
      ep ∈ s.key.waitResv ∧ ep ∉ s.key.resvPend ∧ s.sysWrites = true ∧ s.needsAck = false ∧ s.resvLimit ep = false) ∧
    (∃ (ep : Nat) (s : State),
      ep ∈ s.key.waitResv ∧ ep ∉ s.key.resvPend ∧ s.sysWrites = true ∧ s.needsAck = true) ∧
    (∃ (ep : Nat) (s : State),
      (ep ∉ s.key.waitResv ∨ ep ∈ s.key.resvPend ∨ (s.sysWrites = false ∧ s.key.debug = false) ∨ (s.needsAck = false ∧
      s.resvLimit ep = true))) ∧
    (∃ (r : Requester) (l : Nat) (m : Nat) (s : State),
      Permits s r (0x800000 + R.KEY_LANE_EN) ∧ l < 16 ∧ s.key.laneEn < 65536 ∧ m ∈ s.lanesOn ∧ m ≠ l) ∧
    (∃ (r : Requester) (l : Nat) (s : State),
      Permits s r (0x800000 + R.KEY_LANE_EN) ∧ l < 16 ∧ s.key.laneEn < 65536 ∧ s.lanesOn = [l]) ∧
    (∃ (r : Requester) (l : Nat) (s : State),
      Permits s r (0x800000 + R.KEY_LANE_EN) ∧ l < 16 ∧ s.key.laneEn < 65536 ∧ nbit s.sys.lanes l = true ∧ s.lanesOn ≠ []) ∧
    (∃ (r : Requester) (l : Nat) (s : State),
      Permits s r (0x800000 + R.KEY_LANE_EN) ∧ l < 16 ∧ s.key.laneEn < 65536 ∧ nbit s.sys.lanes l = false ∧ s.lanesOn ≠ []) ∧
    (∃ (r : Requester) (op : Option (List (Option Nat))) (b : Batch) (j : Nat) (role : Role) (s : State),
      Commits s r 2 j role ∧ b = parseBatch (((s.part j).region 2).read 0 (s.part j).commitLen) op ∧ s.batchCheck j b = none) ∧
    (∃ (r : Requester) (op : Option (List (Option Nat))) (b : Batch) (j : Nat) (role : Role) (c : Nat) (st : Status) (s : State),
      Commits s r 2 j role ∧ b = parseBatch (((s.part j).region 2).read 0 (s.part j).commitLen) op ∧ s.batchCheck j b = some (c, st)) ∧
    (∃ (j : Nat) (n : Nat) (es : List ImpEntry) (k : Pkwk) (s : State),
      s.key.impBatch = some (j, n, es) ∧ s.key.pkwk = some k) ∧
    (∃ (j : Nat) (n : Nat) (e : ImpEntry) (k : Pkwk) (c : EpCfg) (s : State),
      s.key.impBatch = some (j, n, [e]) ∧ s.key.pkwk = some k ∧ s.epCfg e.ep = some c ∧ (s.keyOf e.ep).kver < e.kver ∧ e.good = true) ∧
    (∃ (j : Nat) (n : Nat) (e : ImpEntry) (k : Pkwk) (s : State),
      s.key.impBatch = some (j, n, [e]) ∧ s.key.pkwk = some k ∧ (s.epCfg e.ep = none ∨ e.kver ≤ (s.keyOf e.ep).kver ∨ e.good = false)) ∧
    (∃ (s : State),
      (s.key.impBatch = none ∨ (s.key.pkwk = none ∧ s.key.trngOk = false))) ∧
    (∃ (r : Requester) (s : State),
      Permits s r (0x800000 + R.KEY_ZERO)) ∧
    (∃ (r : Requester) (s : State),
      Permits s r (0x800000 + R.KEY_ZERO)) ∧
    (∃ (r : Requester) (s : State),
      Permits s r (0x800000 + R.KEY_ZERO)) ∧
    (∃ (s : State),
      s.key.zeroing.isSome = true) ∧
    (∃ (s : State),
      s.key.zeroing = none) ∧
    (∃ (o : ObjReq) (x : Session) (s : State),
      Serves s o x 0x50 .cert ∧ 1 ≤ o.b 3 ∧ o.b 3 ≤ 5 ∧ o.b 5 = 0 ∧ (o.b 3 = 5 → s.key.pkwk ≠ none) ∧ (s.part o.dg.part).issue = none) ∧
    (∃ (o : ObjReq) (x : Session) (s : State),
      Serves s o x 0x50 .cert ∧ 1 ≤ o.b 3 ∧ o.b 3 ≤ 5 ∧ o.b 5 = 0 ∧ (o.b 3 = 5 → s.key.pkwk ≠ none) ∧
      (s.part o.dg.part).issue.isSome = true) ∧
    (∃ (o : ObjReq) (x : Session) (s : State),
      Serves s o x 0x50 .cert ∧ (o.b 3 = 0 ∨ 5 < o.b 3 ∨ o.b 5 ≠ 0 ∨ (o.b 3 = 5 ∧ s.key.pkwk = none))) ∧
    (∃ (j : Nat) (k : Nat) (i : Nat) (kt : Nat) (q : List SignReq) (s : State),
      s.key.signs = .cert j k i kt :: q) ∧
    (∃ (s : State),
      (∀ j k i kt q, s.key.signs ≠ .cert j k i kt :: q)) :=
  ⟨⟨(keyOf' (fun x => { x with waitResv := [0] }) live : State), by decide +kernel⟩,
   ⟨(keyOf' (fun x => { x with trngOk := false }) live : State), by decide +kernel⟩,
   ⟨(0 : Nat), (keyOf' (fun x => { x with waitResv := [0] }) live : State), by decide +kernel⟩,
   ⟨(0 : Nat), (keyOf' (fun x => { x with waitResv := [0] }) pairA : State), by decide +kernel⟩,
   ⟨(1 : Nat), (keyOf' (fun x => { x with waitResv := [0] }) live : State), by decide +kernel⟩,
   ⟨(.slot 0 0 : Requester), (2 : Nat), (0 : Nat), (keyOf' (fun x => { x with waitResv := [0] }) live : State),
      by unfold Permits; decide +kernel⟩,
   ⟨(.slot 0 0 : Requester), (2 : Nat), (keyOf' (fun x => { x with laneEn := 4 }) live : State), by unfold Permits; decide +kernel⟩,
   ⟨(.slot 0 0 : Requester), (2 : Nat), (keyOf' (fun x => { x with waitResv := [0] }) live : State), by unfold Permits; decide +kernel⟩,
   ⟨(.slot 0 0 : Requester), (0 : Nat), (sysOf (fun x => { x with lanes := 65534 }) (keyOf' (fun x => { x with laneEn := 65534 }) live) : State),
      by unfold Permits; decide +kernel⟩,
   ⟨(.slot 0 0 : Requester), (some [some 5] : Option (List (Option Nat))), (parseBatch (((keyUnit.part (0 : Nat)).region 2).read 0 (keyUnit.part (0 : Nat)).commitLen) (some [some 5] : Option (List (Option Nat))) : Batch), (0 : Nat), (.operator : Role), keyUnit,
      by exact ⟨by unfold Commits Permits; decide +kernel, rfl, keyUnit_check⟩⟩,
   ⟨(.slot 0 0 : Requester), none, (parseBatch ((((keyOf' (fun x => { x with waitResv := [0] }) live : State).part (0 : Nat)).region 2).read 0 ((keyOf' (fun x => { x with waitResv := [0] }) live : State).part (0 : Nat)).commitLen) none : Batch), (0 : Nat), (.operator : Role), (3 : Nat), (Status.wrongUnit : Status), (keyOf' (fun x => { x with waitResv := [0] }) live : State),
      by unfold Commits Permits; decide +kernel⟩,
   ⟨(0 : Nat), (1 : Nat), ([{ ep := 0, kver := 2, keys := 7, good := true }] : List ImpEntry), (Option.get ((keyOf' (fun x => { x with impSt := .running, impBatch := some (0, 1, [⟨0, 2, 7, true⟩]) }) live : State).key.pkwk) (by decide +kernel) : Pkwk), (keyOf' (fun x => { x with impSt := .running, impBatch := some (0, 1, [⟨0, 2, 7, true⟩]) }) live : State),
      by decide +kernel⟩,
   ⟨(0 : Nat), (1 : Nat), ({ ep := 0, kver := 2, keys := 7, good := true } : ImpEntry), (Option.get ((keyOf' (fun x => { x with impSt := .running, impBatch := some (0, 1, [⟨0, 2, 7, true⟩]) }) live : State).key.pkwk) (by decide +kernel) : Pkwk), (Option.get ((keyOf' (fun x => { x with impSt := .running, impBatch := some (0, 1, [⟨0, 2, 7, true⟩]) }) live : State).epCfg ({ ep := 0, kver := 2, keys := 7, good := true } : ImpEntry).ep) (by decide +kernel) : EpCfg), (keyOf' (fun x => { x with impSt := .running, impBatch := some (0, 1, [⟨0, 2, 7, true⟩]) }) live : State),
      by decide +kernel⟩,
   ⟨(0 : Nat), (1 : Nat), ({ ep := 0, kver := 0, keys := 7, good := true } : ImpEntry), (Option.get ((keyOf' (fun x => { x with impSt := .running, impBatch := some (0, 1, [⟨0, 0, 7, true⟩]) }) live : State).key.pkwk) (by decide +kernel) : Pkwk), (keyOf' (fun x => { x with impSt := .running, impBatch := some (0, 1, [⟨0, 0, 7, true⟩]) }) live : State),
      by decide +kernel⟩,
   ⟨(keyOf' (fun x => { x with waitResv := [0] }) live : State), by decide +kernel⟩,
   ⟨(.slot 0 0 : Requester), (keyOf' (fun x => { x with waitResv := [0] }) live : State), by unfold Permits; decide +kernel⟩,
   ⟨(.slot 0 0 : Requester), (keyOf' (fun x => { x with waitResv := [0] }) live : State), by unfold Permits; decide +kernel⟩,
   ⟨(.slot 0 0 : Requester), (keyOf' (fun x => { x with waitResv := [0] }) live : State), by unfold Permits; decide +kernel⟩,
   ⟨(keyOf' (fun x => { x with zeroing := some 2 }) live : State), by decide +kernel⟩,
   ⟨(keyOf' (fun x => { x with waitResv := [0] }) live : State), by decide +kernel⟩,
   ⟨(⟨⟨0, 0, 0, 40, 6, 100, true⟩, 9, [0x80, 0, 0x50, 1], 0, false, []⟩ : ObjReq), ses0, (keyOf' (fun x => { x with waitResv := [0] }) live : State),
      by unfold Serves Admits; simp only [← Option.mem_def]; decide +kernel⟩,
   ⟨(⟨⟨0, 0, 0, 40, 6, 100, true⟩, 9, [0x80, 0, 0x50, 1], 0, false, []⟩ : ObjReq), ses0, (live.setPart 0 { Part.blank with issue := some (0, 1, 1) } : State),
      by unfold Serves Admits; simp only [← Option.mem_def]; decide +kernel⟩,
   ⟨(req0 [128, 0, 0x50, 0] : ObjReq), ses0, (keyOf' (fun x => { x with trngOk := false }) live : State),
      by unfold Serves Admits; simp only [← Option.mem_def]; decide +kernel⟩,
   ⟨(0 : Nat), (0 : Nat), (9 : Nat), (1 : Nat), ([] : List SignReq), (keyOf' (fun x => { x with signs := [.cert 0 0 9 1] }) live : State), by decide +kernel⟩,
   ⟨(keyOf' (fun x => { x with waitResv := [0] }) live : State), by intro j k i kt q h; cases h⟩⟩

/-- States and operands that meet the hypotheses of each clause of HostSessions. -/
theorem test_wit_HostSessions :
    (∃ (e : Nat) (j : Nat) (n : Nat) (k : Nat) (s : State),
      s.sessState = true ∧ s.partTakes j e = true ∧ (s.hst.handshakes.find? (fun h => decide (h.part = j ∧ h.nonce = n)) = none) ∧
      s.key.trngOk = true ∧ s.hst.handshakes.length < 8 ∧ s.freeSession j = some k) ∧
    (∃ (e : Nat) (j : Nat) (n : Nat) (s : State),
      s.sessState = true ∧ s.partTakes j e = true ∧ (s.hst.handshakes.find? (fun h => decide (h.part = j ∧ h.nonce = n)) = none) ∧
      s.key.trngOk = false) ∧
    (∃ (e : Nat) (j : Nat) (n : Nat) (s : State),
      s.sessState = true ∧ s.partTakes j e = true ∧ (s.hst.handshakes.find? (fun h => decide (h.part = j ∧ h.nonce = n)) = none) ∧
      s.key.trngOk = true ∧ (8 ≤ s.hst.handshakes.length ∨ s.freeSession j = none)) ∧
    (∃ (e : Nat) (j : Nat) (n : Nat) (h : Handshake) (s : State),
      s.sessState = true ∧ s.partTakes j e = true ∧ (s.hst.handshakes.find? (fun h => decide (h.part = j ∧ h.nonce = n)) = some h)) ∧
    (∃ (e : Nat) (j : Nat) (s : State),
      (s.sessState = false ∨ s.partTakes j e = false)) ∧
    (∃ (i : Nat) (d : Option Nat) (f : Frag) (m : Nat) (h : Handshake) (role : Role) (s : State),
      s.hst.handshakes.find? (fun h => h.sid = i) = some h ∧ s.hsRole h d = some role ∧ f ∈ fragments hsHostLen ∧
      max s.tim.cnt m < h.since + msCounts 10000 ∧ f.cnt ≤ (if h.got.contains f.idx then h.got else f.idx :: h.got).length) ∧
    (∃ (i : Nat) (d : Option Nat) (f : Frag) (m : Nat) (h : Handshake) (s : State),
      s.hst.handshakes.find? (fun h => h.sid = i) = some h ∧ s.hsRole h d = none ∧ f ∈ fragments hsHostLen ∧
      max s.tim.cnt m < h.since + msCounts 10000 ∧ f.cnt ≤ (if h.got.contains f.idx then h.got else f.idx :: h.got).length) ∧
    (∃ (i : Nat) (f : Frag) (m : Nat) (h : Handshake) (s : State),
      s.hst.handshakes.find? (fun h => h.sid = i) = some h ∧ f ∈ fragments hsHostLen ∧ max s.tim.cnt m < h.since + msCounts 10000 ∧
      (if h.got.contains f.idx then h.got else f.idx :: h.got).length < f.cnt) ∧
    (∃ (i : Nat) (f : Frag) (m : Nat) (s : State),
      (∀ h, s.hst.handshakes.find? (fun h => h.sid = i) = some h → f ∉ fragments hsHostLen ∨ h.since + msCounts 10000 ≤ max s.tim.cnt m)) ∧
    (∃ (i : Nat) (m : Nat) (h : Handshake) (s : State),
      s.hst.handshakes.find? (fun h => h.sid = i) = some h ∧ h.since + msCounts 10000 ≤ m) ∧
    (∃ (i : Nat) (m : Nat) (s : State),
      (∀ h, s.hst.handshakes.find? (fun h => h.sid = i) = some h → max s.tim.cnt m < h.since + msCounts 10000)) ∧
    (∃ (d : Dg) (x : Session) (s : State),
      Admits s d x) ∧
    (∃ (d : Dg) (s : State),
      Drops s d) ∧
    (∃ (d : Dg) (s : State),
      Drops s d) ∧
    (∃ (d : Dg) (s : State),
      Drops s d) ∧
    (∃ (d : Dg) (s : State),
      Drops s d) ∧
    (∃ (d : Dg) (x : Session) (s : State),
      s.partTakes d.part d.port = true ∧ s.session d.part d.slot = some x ∧ x.sid = d.sid ∧ s.laneUp = true ∧ d.tagOk = true ∧
      x.fresh d.seq = true ∧ d.seq + 1 < 2 ^ 40 ∧ s.dgLimit d.port < d.len) ∧
    (∃ (d : Dg) (x : Session) (s : State),
      s.partTakes d.part d.port = true ∧ s.session d.part d.slot = some x ∧ x.sid = d.sid ∧ s.laneUp = true ∧ d.tagOk = true ∧
      x.fresh d.seq = true ∧ 2 ^ 40 ≤ d.seq + 1) ∧
    (∃ (d : Dg) (x : Session) (s : State),
      Admits s d x) ∧
    (∃ (j : Nat) (k : Nat) (m : Nat) (x : Session) (s : State),
      s.session j k = some x ∧ x.heard + s.sessIdle ≤ m) ∧
    (∃ (j : Nat) (k : Nat) (m : Nat) (s : State),
      (∀ x, s.session j k = some x → max s.tim.cnt m < x.heard + s.sessIdle)) ∧
    (∃ (d : Dg) (x : Session) (s : State),
      Admits s d x) ∧
    (∃ (d : Dg) (x : Session) (s : State),
      Admits s d x) ∧
    (∃ (j : Nat) (s : State),
      (s.part j).evq = [] ∨ (∀ k < 4, ∀ x, s.session j k = some x → x.subscribed = false)) ∧
    (∃ (j : Nat) (k : Nat) (x : Session) (s : State),
      k < 4 ∧ s.session j k = some x ∧ x.subscribed = true ∧ (s.part j).evq ≠ [] ∧ s.laneUp = true) :=
  ⟨⟨(0 : Nat), (1 : Nat), (5 : Nat), (Option.get ((hstOf (fun x => { x with handshakes := [⟨0, 3, 0, 9, 50, 0, 0, []⟩] }) live : State).freeSession (1 : Nat)) (by decide +kernel) : Nat), (hstOf (fun x => { x with handshakes := [⟨0, 3, 0, 9, 50, 0, 0, []⟩] }) live : State),
      by decide +kernel⟩,
   ⟨(0 : Nat), (0 : Nat), (5 : Nat), (keyOf' (fun x => { x with trngOk := false }) live : State), by decide +kernel⟩,
   ⟨(0 : Nat), (0 : Nat), (5 : Nat), (hstOf (fun x => { x with handshakes := [⟨0, 3, 0, 9, 50, 0, 0, []⟩] }) live : State),
      by decide +kernel⟩,
   ⟨(0 : Nat), (0 : Nat), (9 : Nat), (⟨0, 3, 0, 9, 50, 0, 0, []⟩ : Handshake), (hstOf (fun x => { x with handshakes := [⟨0, 3, 0, 9, 50, 0, 0, []⟩] }) live : State),
      by decide +kernel⟩,
   ⟨(0 : Nat), (2 : Nat), (keyOf' (fun x => { x with trngOk := false }) live : State), by decide +kernel⟩,
   ⟨(77 : Nat), (some 11 : Option Nat), (⟨hsHostLen, 0, 51, 1024⟩ : Frag), (0 : Nat), (((hstOf (fun x => { x with handshakes := [⟨0, 3, 0, 1, 77, 0, 0, (List.range 51).tail⟩] }) live : State).hst.handshakes.head?.getD ⟨0, 3, 0, 1, 77, 0, 0, []⟩) : Handshake), (Option.get ((hstOf (fun x => { x with handshakes := [⟨0, 3, 0, 1, 77, 0, 0, (List.range 51).tail⟩] }) live : State).hsRole (((hstOf (fun x => { x with handshakes := [⟨0, 3, 0, 1, 77, 0, 0, (List.range 51).tail⟩] }) live : State).hst.handshakes.head?.getD ⟨0, 3, 0, 1, 77, 0, 0, []⟩) : Handshake) (some 11 : Option Nat)) (by decide +kernel) : Role), (hstOf (fun x => { x with handshakes := [⟨0, 3, 0, 1, 77, 0, 0, (List.range 51).tail⟩] }) live : State),
      by decide +kernel⟩,
   ⟨(77 : Nat), none, (⟨hsHostLen, 0, 51, 1024⟩ : Frag), (0 : Nat), (((hstOf (fun x => { x with handshakes := [⟨0, 3, 0, 1, 77, 0, 0, (List.range 51).tail⟩] }) live : State).hst.handshakes.head?.getD ⟨0, 3, 0, 1, 77, 0, 0, []⟩) : Handshake), (hstOf (fun x => { x with handshakes := [⟨0, 3, 0, 1, 77, 0, 0, (List.range 51).tail⟩] }) live : State),
      by decide +kernel⟩,
   ⟨(50 : Nat), (⟨hsHostLen, 0, 51, 1024⟩ : Frag), (1000001 : Nat), (Option.get ((hstOf (fun x => { x with handshakes := [⟨0, 3, 0, 9, 50, 0, 0, []⟩] }) live : State).hst.handshakes.find? (fun h => h.sid = (50 : Nat))) (by decide +kernel) : Handshake), (hstOf (fun x => { x with handshakes := [⟨0, 3, 0, 9, 50, 0, 0, []⟩] }) live : State),
      by decide +kernel⟩,
   ⟨(50 : Nat), (⟨hsHostLen, 0, 1, 1024⟩ : Frag), (1000001 : Nat), (keyOf' (fun x => { x with trngOk := false }) live : State),
      by decide +kernel⟩,
   ⟨(50 : Nat), (40000000000 : Nat), (Option.get ((hstOf (fun x => { x with handshakes := [⟨0, 3, 0, 9, 50, 0, 0, []⟩] }) live : State).hst.handshakes.find? (fun h => h.sid = (50 : Nat))) (by decide +kernel) : Handshake), (hstOf (fun x => { x with handshakes := [⟨0, 3, 0, 9, 50, 0, 0, []⟩] }) live : State),
      by decide +kernel⟩,
   ⟨(50 : Nat), (1000001 : Nat), (keyOf' (fun x => { x with trngOk := false }) live : State), by decide +kernel⟩,
   ⟨(⟨0, 0, 0, 40, 6, 100, true⟩ : Dg), ses0, (keyOf' (fun x => { x with trngOk := false }) live : State),
      by unfold Admits; decide +kernel⟩,
   ⟨(⟨0, 0, 0, 40, 6, 100, false⟩ : Dg), (keyOf' (fun x => { x with trngOk := false }) live : State), by unfold Drops; decide +kernel⟩,
   ⟨(⟨0, 0, 0, 40, 6, 100, false⟩ : Dg), (keyOf' (fun x => { x with trngOk := false }) live : State), by unfold Drops; decide +kernel⟩,
   ⟨(⟨0, 0, 0, 40, 6, 100, false⟩ : Dg), (keyOf' (fun x => { x with trngOk := false }) live : State), by unfold Drops; decide +kernel⟩,
   ⟨(⟨0, 0, 0, 40, 6, 100, false⟩ : Dg), (keyOf' (fun x => { x with trngOk := false }) live : State), by unfold Drops; decide +kernel⟩,
   ⟨(⟨0, 0, 1, 40, 6, 2000, true⟩ : Dg), (Option.get (live.session (⟨0, 0, 1, 40, 6, 2000, true⟩ : Dg).part (⟨0, 0, 1, 40, 6, 2000, true⟩ : Dg).slot) (by decide +kernel) : Session), live,
      by decide +kernel⟩,
   ⟨(⟨0, 0, 0, 40, 2 ^ 40 - 1, 100, true⟩ : Dg), (Option.get (live.session (⟨0, 0, 0, 40, 2 ^ 40 - 1, 100, true⟩ : Dg).part (⟨0, 0, 0, 40, 2 ^ 40 - 1, 100, true⟩ : Dg).slot) (by decide +kernel) : Session), live,
      by decide +kernel⟩,
   ⟨(⟨0, 0, 0, 40, 6, 100, true⟩ : Dg), ses0, (keyOf' (fun x => { x with trngOk := false }) live : State),
      by unfold Admits; decide +kernel⟩,
   ⟨(0 : Nat), (0 : Nat), (400000000000 : Nat), (Option.get ((keyOf' (fun x => { x with trngOk := false }) live : State).session (0 : Nat) (0 : Nat)) (by decide +kernel) : Session), (keyOf' (fun x => { x with trngOk := false }) live : State),
      by decide +kernel⟩,
   ⟨(0 : Nat), (0 : Nat), (1000001 : Nat), (keyOf' (fun x => { x with trngOk := false }) live : State), by decide +kernel⟩,
   ⟨(⟨0, 0, 0, 40, 6, 100, true⟩ : Dg), ses0, (keyOf' (fun x => { x with trngOk := false }) live : State),
      by unfold Admits; decide +kernel⟩,
   ⟨(⟨0, 0, 0, 40, 6, 100, true⟩ : Dg), ses0, (keyOf' (fun x => { x with trngOk := false }) live : State),
      by unfold Admits; decide +kernel⟩,
   ⟨(0 : Nat), (keyOf' (fun x => { x with trngOk := false }) live : State), by decide +kernel⟩,
   ⟨(0 : Nat), (0 : Nat), (Option.get (((hstOf (fun x => { x with sessions := [(0, some { ses0 with subscribed := true })] }) live).setPart 0 { Part.blank with evq := [⟨1, false, ⟨1, .info, 0, [], 0, 0, false⟩⟩] } : State).session (0 : Nat) (0 : Nat)) (by decide +kernel) : Session), ((hstOf (fun x => { x with sessions := [(0, some { ses0 with subscribed := true })] }) live).setPart 0 { Part.blank with evq := [⟨1, false, ⟨1, .info, 0, [], 0, 0, false⟩⟩] } : State),
      by decide +kernel⟩⟩

/-- States and operands that meet the hypotheses of each clause of HostPortsAndDataPort. -/
theorem test_wit_HostPortsAndDataPort :
    (∃ (r : Requester) (v : Word) (s : State),
      Permits s r (0x800000 + R.HST_MDIO) ∧ s.hst.mdioBusy = false ∧ field v 29 28 ≠ 2 ∧ (field v 29 28 ≠ 0 ∨ bit v 30 = true)) ∧
    (∃ (r : Requester) (s : State),
      Permits s r (0x800000 + R.HST_MDIO) ∧ s.hst.mdioBusy = true) ∧
    (∃ (r : Requester) (v : Word) (s : State),
      Permits s r (0x800000 + R.HST_MDIO) ∧ s.hst.mdioBusy = false ∧ (field v 29 28 = 2 ∨ (field v 29 28 = 0 ∧ bit v 30 = false))) ∧
    (∃ (s : State),
      s.hst.mdioBusy = false) ∧
    (∃ (s : State),
      s.hst.mdioBusy = true ∧ field (s.rg R.HST_MDIO) 29 28 = 3) ∧
    (∃ (s : State),
      s.hst.mdioBusy = true ∧ field (s.rg R.HST_MDIO) 29 28 ≠ 3) ∧
    (∃ (e : Nat) (s : State),
      s.hostPortOn e = true ∧ Store.get (fun _ => false) s.hst.link e = true ∧ s.active Ev.HOST_LINK_DOWN = false) ∧
    (∃ (e : Nat) (s : State),
      s.hostPortOn e = true ∧ Store.get (fun _ => false) s.hst.link e = false) ∧
    (∃ (e : Nat) (c : HostPortCfg) (s : State),
      s.hostPortOn e = true ∧ s.hostPort e = some c) ∧
    (∃ (e : Nat) (b : Bool) (s : State),
      (s.hostPortOn e = false ∨ Store.get (fun _ => false) s.hst.link e = b)) ∧
    (∃ (e : Nat) (v : Option Nat) (s : State),
      (s.hostPortOn e = false ∨ (∀ c, s.hostPort e = some c → c.vlan ≠ v))) ∧
    (∃ (d : Dg) (b : Nat) (a : Nat) (bs : List Nat) (x : Session) (s : State),
      Admits s d x ∧ (∀ p, (s.part d.part).bsn = some p → laterMod32 b p = true) ∧ s.dpTarget d.part x.role a bs.length = .ok ∧
      (∀ y ∈ bs, y < 256)) ∧
    (∃ (d : Dg) (b : Nat) (i : Nat) (bs : List Nat) (x : Session) (s : State),
      Admits s d x ∧ (s.part d.part).burstOpen = true ∧ (s.part d.part).bsn = some b ∧ (s.part d.part).expect = i ∧
      s.dpTarget d.part x.role (s.part d.part).addr bs.length = .ok) ∧
    (∃ (d : Dg) (b : Nat) (i : Nat) (x : Session) (s : State),
      Admits s d x ∧ (s.part d.part).burstOpen = true ∧ (s.part d.part).bsn = some b ∧ (s.part d.part).expect < i) ∧
    (∃ (d : Dg) (b : Nat) (x : Session) (p : Nat) (s : State),
      Admits s d x ∧ (s.part d.part).bsn = some p ∧ laterMod32 b p = false ∧ ((s.part d.part).burstOpen = false ∨ b ≠ p)) ∧
    (∃ (d : Dg) (b : Nat) (i : Nat) (bs : List Nat) (x : Session) (st : Status) (s : State),
      Admits s d x ∧ (s.part d.part).burstOpen = true ∧ (s.part d.part).bsn = some b ∧ (s.part d.part).expect = i ∧
      s.dpTarget d.part x.role (s.part d.part).addr bs.length = st ∧ st ≠ .ok) ∧
    (∃ (d : Dg) (b : Nat) (i : Nat) (x : Session) (s : State),
      Admits s d x ∧ (s.part d.part).burstOpen = true ∧ (s.part d.part).bsn = some b ∧ i < (s.part d.part).expect) ∧
    (∃ (j : Nat) (m : Nat) (s : State),
      (s.part j).burstOpen = true ∧ (s.part j).burstAt + msCounts (clampNat 10 60000 (s.part j).idleMs) ≤ m) ∧
    (∃ (j : Nat) (m : Nat) (s : State),
      (s.part j).burstOpen = false ∨ max s.tim.cnt m < (s.part j).burstAt + msCounts (clampNat 10 60000 (s.part j).idleMs)) ∧
    (∃ (d : Dg) (a : Nat) (n : Nat) (x : Session) (s : State),
      Admits s d x ∧ s.dpReadable d.part x.role a n = .ok) ∧
    (∃ (d : Dg) (s : State),
      Drops s d) ∧
    (∃ (d : Dg) (s : State),
      Drops s d) ∧
    (∃ (d : Dg) (a : Nat) (n : Nat) (x : Session) (st : Status) (s : State),
      Admits s d x ∧ s.dpReadable d.part x.role a n = st ∧ st ≠ .ok) ∧
    (∃ (r : Requester) (j : Nat) (role : Role) (s : State),
      Permits s r R.HST_DP_ADDR_0 ∧ s.ownPart r = some (j, role) ∧ (s.part j).burstOpen = false) ∧
    (∃ (r : Requester) (j : Nat) (role : Role) (s : State),
      Permits s r R.HST_DP_ADDR_0 ∧ s.ownPart r = some (j, role) ∧ (s.part j).burstOpen = true) :=
  ⟨⟨(.slot 0 0 : Requester), (0x30000000 : Word), live, by unfold Permits; decide +kernel⟩,
   ⟨(.slot 0 0 : Requester), (regOf R.HST_MDIO 0 (hstOf (fun x => { x with mdioBusy := true }) live) : State),
      by unfold Permits; decide +kernel⟩,
   ⟨(.slot 0 0 : Requester), (0 : Word), live, by unfold Permits; decide +kernel⟩,
   ⟨live, by decide +kernel⟩,
   ⟨(regOf R.HST_MDIO 0x30000000 (hstOf (fun x => { x with mdioBusy := true }) live) : State), by decide +kernel⟩,
   ⟨(regOf R.HST_MDIO 0 (hstOf (fun x => { x with mdioBusy := true }) live) : State), by decide +kernel⟩,
   ⟨(0 : Nat), live, by decide +kernel⟩,
   ⟨(1 : Nat), live, by decide +kernel⟩,
   ⟨(0 : Nat), (Option.get (live.hostPort (0 : Nat)) (by decide +kernel) : HostPortCfg), live, by decide +kernel⟩,
   ⟨(0 : Nat), (1 : Bool), live, by decide +kernel⟩,
   ⟨(0 : Nat), (some 1 : Option Nat), live, by decide +kernel⟩,
   ⟨(⟨0, 0, 0, 40, 6, 100, true⟩ : Dg), (1 : Nat), 0x0100000000000000, ([1, 2, 3] : List Nat), ses0, live,
      by unfold Admits; decide +kernel⟩,
   ⟨(⟨0, 0, 0, 40, 6, 100, true⟩ : Dg), (Option.get (((live.setPart 0 { Part.blank with burstOpen := true, bsn := some 1, expect := 2, addr := 0x0400000000000010 } : State).part (⟨0, 0, 0, 40, 6, 100, true⟩ : Dg).part).bsn) (by decide +kernel) : Nat), (((live.setPart 0 { Part.blank with burstOpen := true, bsn := some 1, expect := 2, addr := 0x0400000000000010 } : State).part (⟨0, 0, 0, 40, 6, 100, true⟩ : Dg).part).expect : Nat), ([1, 2, 3] : List Nat), ses0, (live.setPart 0 { Part.blank with burstOpen := true, bsn := some 1, expect := 2, addr := 0x0400000000000010 } : State),
      by unfold Admits; decide +kernel⟩,
   ⟨(⟨0, 0, 0, 40, 6, 100, true⟩ : Dg), (Option.get (((live.setPart 0 { Part.blank with burstOpen := true, bsn := some 1, expect := 2, addr := 0x0400000000000010 } : State).part (⟨0, 0, 0, 40, 6, 100, true⟩ : Dg).part).bsn) (by decide +kernel) : Nat), (3 : Nat), ses0, (live.setPart 0 { Part.blank with burstOpen := true, bsn := some 1, expect := 2, addr := 0x0400000000000010 } : State),
      by unfold Admits; decide +kernel⟩,
   ⟨(⟨0, 0, 0, 40, 6, 100, true⟩ : Dg), (0 : Nat), ses0, (Option.get (((live.setPart 0 { Part.blank with burstOpen := true, bsn := some 1, expect := 2, addr := 0x0400000000000010 } : State).part (⟨0, 0, 0, 40, 6, 100, true⟩ : Dg).part).bsn) (by decide +kernel) : Nat), (live.setPart 0 { Part.blank with burstOpen := true, bsn := some 1, expect := 2, addr := 0x0400000000000010 } : State),
      by unfold Admits; decide +kernel⟩,
   ⟨(⟨0, 0, 0, 40, 6, 100, true⟩ : Dg), (Option.get (((live.setPart 0 { Part.blank with burstOpen := true, bsn := some 1, expect := 2, addr := 0x0400000000000010 } : State).part (⟨0, 0, 0, 40, 6, 100, true⟩ : Dg).part).bsn) (by decide +kernel) : Nat), (((live.setPart 0 { Part.blank with burstOpen := true, bsn := some 1, expect := 2, addr := 0x0400000000000010 } : State).part (⟨0, 0, 0, 40, 6, 100, true⟩ : Dg).part).expect : Nat), ([] : List Nat), ses0, ((live.setPart 0 { Part.blank with burstOpen := true, bsn := some 1, expect := 2, addr := 0x0400000000000010 } : State).dpTarget (⟨0, 0, 0, 40, 6, 100, true⟩ : Dg).part ses0.role ((live.setPart 0 { Part.blank with burstOpen := true, bsn := some 1, expect := 2, addr := 0x0400000000000010 } : State).part (⟨0, 0, 0, 40, 6, 100, true⟩ : Dg).part).addr ([] : List Nat).length : Status), (live.setPart 0 { Part.blank with burstOpen := true, bsn := some 1, expect := 2, addr := 0x0400000000000010 } : State),
      by unfold Admits; decide +kernel⟩,
   ⟨(⟨0, 0, 0, 40, 6, 100, true⟩ : Dg), (Option.get (((live.setPart 0 { Part.blank with burstOpen := true, bsn := some 1, expect := 2, addr := 0x0400000000000010 } : State).part (⟨0, 0, 0, 40, 6, 100, true⟩ : Dg).part).bsn) (by decide +kernel) : Nat), (1 : Nat), ses0, (live.setPart 0 { Part.blank with burstOpen := true, bsn := some 1, expect := 2, addr := 0x0400000000000010 } : State),
      by unfold Admits; decide +kernel⟩,
   ⟨(0 : Nat), (40000000000 : Nat), (live.setPart 0 { Part.blank with burstOpen := true, bsn := some 1, expect := 2, addr := 0x0400000000000010 } : State),
      by decide +kernel⟩,
   ⟨(0 : Nat), (40000000000 : Nat), live, by decide +kernel⟩,
   ⟨(⟨0, 0, 0, 40, 6, 100, true⟩ : Dg), 0x0100000000000000, (3 : Nat), ses0, live, by unfold Admits; decide +kernel⟩,
   ⟨(⟨0, 0, 0, 40, 6, 100, false⟩ : Dg), live, by unfold Drops; decide +kernel⟩,
   ⟨(⟨0, 0, 0, 40, 6, 100, false⟩ : Dg), live, by unfold Drops; decide +kernel⟩,
   ⟨(⟨0, 0, 0, 40, 6, 100, true⟩ : Dg), 0x0100000000000000, (30000000 : Nat), ses0, (live.dpReadable (⟨0, 0, 0, 40, 6, 100, true⟩ : Dg).part ses0.role 0x0100000000000000 (30000000 : Nat) : Status), live,
      by unfold Admits; decide +kernel⟩,
   ⟨(.slot 0 0 : Requester), (0 : Nat), (Role.operator : Role), live, by unfold Permits; decide +kernel⟩,
   ⟨(.slot 0 0 : Requester), (0 : Nat), (Role.operator : Role), (live.setPart 0 { Part.blank with burstOpen := true, bsn := some 1, expect := 2, addr := 0x0400000000000010 } : State),
      by unfold Permits; decide +kernel⟩⟩

/-- States and operands that meet the hypotheses of each clause of ObjectsRead. -/
theorem test_wit_ObjectsRead :
    (∃ (o : ObjReq) (x : Session) (cs : List Nat) (ks : List Nat) (bs : List Nat) (s : State),
      Serves s o x 0x01 .legal ∧ s.epScope o.dg.part o.target = .ok ∧ sel (o.b 1) 4 = some cs ∧ selObjs o = some ks ∧ o.b 5 = 0 ∧
      bs = cs.flatMap (fun c => ks.flatMap (fun k => ((s.lch (mkChid o.target c)).total k).object)) ∧
      bs.length + 24 ≤ s.dgLimit o.dg.port) ∧
    (∃ (o : ObjReq) (x : Session) (cs : List Nat) (ks : List Nat) (bs : List Nat) (s : State),
      Serves s o x 0x01 .legal ∧ s.epScope o.dg.part o.target = .ok ∧ sel (o.b 1) 4 = some cs ∧ selObjs o = some ks ∧ o.b 5 = 0 ∧
      bs = cs.flatMap (fun c => ks.flatMap (fun k => ((s.lch (mkChid o.target c)).total k).object)) ∧
      s.dgLimit o.dg.port < bs.length + 24 ∧ (s.place o.dg.part bs).2 ≠ none) ∧
    (∃ (o : ObjReq) (x : Session) (cs : List Nat) (ks : List Nat) (bs : List Nat) (s : State),
      Serves s o x 0x02 .legal ∧ s.epScope o.dg.part o.target = .ok ∧ sel (o.b 1) 4 = some cs ∧ selObjs o = some ks ∧ o.b 5 = 0 ∧
      bs = cs.flatMap (fun c => ks.flatMap (fun k => ((s.lch (mkChid o.target c)).md k).bytes))) ∧
    (∃ (o : ObjReq) (x : Session) (cs : List Nat) (bs : List Nat) (s : State),
      Serves s o x 0x03 .legal ∧ s.epScope o.dg.part o.target = .ok ∧ sel (o.b 1) 4 = some cs ∧ o.plain = true ∧
      bs = cs.flatMap (fun c => leBytes 4 (b2n (s.lch (mkChid o.target c)).held + 2 * b2n (s.lch (mkChid o.target c)).holdRoll) ++ blockBytes (s.lch (mkChid o.target c)).totals (s.lch (mkChid o.target c)).mds) ∧
      bs.length + 24 ≤ s.dgLimit o.dg.port) ∧
    (∃ (o : ObjReq) (x : Session) (cs : List Nat) (bs : List Nat) (s : State),
      Serves s o x 0x03 .legal ∧ s.epScope o.dg.part o.target = .ok ∧ sel (o.b 1) 4 = some cs ∧ o.plain = true ∧
      bs = cs.flatMap (fun c => leBytes 4 (b2n (s.lch (mkChid o.target c)).held + 2 * b2n (s.lch (mkChid o.target c)).holdRoll) ++ blockBytes (s.lch (mkChid o.target c)).totals (s.lch (mkChid o.target c)).mds) ∧
      s.dgLimit o.dg.port < bs.length + 24 ∧ (s.place o.dg.part bs).2 ≠ none) ∧
    (∃ (o : ObjReq) (x : Session) (st : Status) (s : State),
      s.epScope o.dg.part o.target = st ∧ st ≠ .ok ∧ Serves s o x 0x01 .legal) ∧
    (∃ (o : ObjReq) (x : Session) (st : Status) (s : State),
      s.epScope o.dg.part o.target = st ∧ st ≠ .ok ∧ Serves s o x 0x02 .legal) ∧
    (∃ (o : ObjReq) (x : Session) (st : Status) (s : State),
      s.epScope o.dg.part o.target = st ∧ st ≠ .ok ∧ Serves s o x 0x03 .legal) ∧
    (∃ (o : ObjReq) (x : Session) (st : Status) (s : State),
      s.epScope o.dg.part o.target = st ∧ st ≠ .ok ∧ Serves s o x 0x10 .data) ∧
    (∃ (o : ObjReq) (x : Session) (st : Status) (s : State),
      s.epScope o.dg.part o.target = st ∧ st ≠ .ok ∧ Serves s o x 0x11 .data) ∧
    (∃ (o : ObjReq) (x : Session) (st : Status) (s : State),
      s.epScope o.dg.part o.target = st ∧ st ≠ .ok ∧ Serves s o x 0x80 .data) ∧
    (∃ (o : ObjReq) (x : Session) (st : Status) (s : State),
      s.epScope o.dg.part o.target = st ∧ st ≠ .ok ∧ Serves s o x 0x20 .dayRecord) ∧
    (∃ (o : ObjReq) (x : Session) (st : Status) (s : State),
      s.epScope o.dg.part o.target = st ∧ st ≠ .ok ∧ Serves s o x 0x20 .dayRecord) ∧
    (∃ (o : ObjReq) (x : Session) (s : State),
      s.epScope o.dg.part o.target = .ok ∧ o.plain = false ∧ Serves s o x 0x03 .legal) ∧
    (∃ (o : ObjReq) (x : Session) (s : State),
      s.epScope o.dg.part o.target = .ok ∧ o.plain = false ∧ Serves s o x 0x10 .data) ∧
    (∃ (o : ObjReq) (x : Session) (s : State),
      s.epScope o.dg.part o.target = .ok ∧ o.plain = false ∧ Serves s o x 0x80 .data) ∧
    (∃ (o : ObjReq) (x : Session) (s : State),
      s.epScope o.dg.part o.target = .ok ∧ o.plain = false ∧ Serves s o x 0x20 .dayRecord) ∧
    (∃ (o : ObjReq) (x : Session) (s : State),
      s.epScope o.dg.part o.target = .ok ∧ o.plain = false ∧ Serves s o x 0x20 .dayRecord) ∧
    (∃ (o : ObjReq) (x : Session) (s : State),
      o.plain = false ∧ Serves s o x 0x21 .dayRecord) ∧
    (∃ (o : ObjReq) (x : Session) (s : State),
      o.plain = false ∧ Serves s o x 0x40 .recompute) ∧
    (∃ (o : ObjReq) (x : Session) (s : State),
      o.plain = false ∧ Serves s o x 0x60 .campaign) ∧
    (∃ (o : ObjReq) (x : Session) (s : State),
      o.plain = false ∧ Serves s o x 0x12 .balance ∧ s.nodeScope o.dg.part o.target = .ok) ∧
    (∃ (o : ObjReq) (x : Session) (s : State),
      Serves s o x 0x01 .legal ∧ s.epScope o.dg.part o.target = .ok ∧ (sel (o.b 1) 4 = none ∨ selObjs o = none ∨ o.b 5 ≠ 0)) ∧
    (∃ (o : ObjReq) (x : Session) (s : State),
      Serves s o x 0x02 .legal ∧ s.epScope o.dg.part o.target = .ok ∧ (sel (o.b 1) 4 = none ∨ selObjs o = none ∨ o.b 5 ≠ 0)) ∧
    (∃ (o : ObjReq) (x : Session) (s : State),
      Serves s o x 0x10 .data ∧ s.epScope o.dg.part o.target = .ok ∧ (o.b 1 = 0 ∨ o.b 1 = 0xFF) ∧ o.plain = true) ∧
    (∃ (o : ObjReq) (x : Session) (r : ArchRec) (e : Entry) (s : State),
      Serves s o x 0x11 .data ∧ s.epScope o.dg.part o.target = .ok ∧ o.b 1 < 4 ∧ o.b 3 = 0 ∧ o.b 4 = 0 ∧ o.b 5 = 0 ∧ o.arg.length = 21 ∧
      s.bem.mounted = true ∧ s.bem.notMounted = false ∧ s.nand.archive ++ s.bem.archBuf = [r] ∧ r.dropped = false ∧ r.lost = false ∧
      r.stream = .interval ∧ r.data = .entry e ∧ e.ch = mkChid o.target (o.b 1) ∧ tsAt o.arg 0 ≤ e.capture ∧ e.capture ≤ tsAt o.arg 10) ∧
    (∃ (o : ObjReq) (x : Session) (s : State),
      Serves s o x 0x11 .data ∧ s.epScope o.dg.part o.target = .ok ∧ sel (o.b 1) 4 ≠ none ∧ sel (o.b 3) 6 ≠ none ∧ o.b 4 = 0 ∧ o.b 5 = 0 ∧
      o.arg.length ≠ 21) ∧
    (∃ (o : ObjReq) (x : Session) (st : Status) (s : State),
      Serves s o x 0x12 .balance ∧ s.nodeScope o.dg.part o.target = st ∧ st ≠ .ok) ∧
    (∃ (o : ObjReq) (x : Session) (r : ArchRec) (y : BalRec) (s : State),
      Serves s o x 0x12 .balance ∧ s.nodeScope o.dg.part o.target = .ok ∧ o.b 1 = 0 ∧ o.plain = true ∧ o.arg.length = 20 ∧
      s.bem.mounted = true ∧ s.bem.notMounted = false ∧ s.nand.archive ++ s.bem.archBuf = [r] ∧ r.dropped = false ∧ r.lost = false ∧
      r.data = .balance y ∧ y.node = o.target ∧ tsAt o.arg 0 ≤ y.e * 60 * second ∧ y.e * 60 * second ≤ tsAt o.arg 10) ∧
    (∃ (o : ObjReq) (x : Session) (c : EpCfg) (s : State),
      Serves s o x 0x80 .data ∧ s.epScope o.dg.part o.target = .ok ∧ o.b 1 = 0 ∧ o.plain = true ∧ s.epCfg o.target = some c) ∧
    (∃ (o : ObjReq) (x : Session) (d : DayRec) (s : State),
      Serves s o x 0x20 .dayRecord ∧ s.epScope o.dg.part o.target = .ok ∧ o.b 1 = 0 ∧ o.plain = true ∧ o.arg.length = 10 ∧
      s.dayRec o.target (tsAt o.arg 0 / second) = some d ∧ d.bytes.length + 24 ≤ s.dgLimit o.dg.port) ∧
    (∃ (o : ObjReq) (x : Session) (s : State),
      Serves s o x 0x20 .dayRecord ∧ s.epScope o.dg.part o.target = .ok ∧ o.b 1 = 0 ∧ o.plain = true ∧ o.arg.length = 10 ∧
      s.dayRec o.target (tsAt o.arg 0 / second) = none) ∧
    (∃ (o : ObjReq) (x : Session) (s : State),
      Serves s o x 0x20 .dayRecord ∧ s.epScope o.dg.part o.target = .ok ∧ o.b 1 = 0 ∧ o.plain = true ∧ 10 ≤ o.arg.length ∧
      s.sealOf (tsAt o.arg 0 / second) = none) ∧
    (∃ (o : ObjReq) (x : Session) (h : SealHdr) (g : Nat) (a : Nat) (s : State),
      Serves s o x 0x21 .dayRecord ∧ o.b 1 = 0 ∧ o.plain = true ∧ o.arg.length = 10 ∧ s.sealOf (tsAt o.arg 0 / second) = some (h, g) ∧
      (s.place o.dg.part (h.bytes ++ beBytes 29792 g)).2 = some a) ∧
    (∃ (o : ObjReq) (x : Session) (s : State),
      Serves s o x 0x21 .dayRecord ∧ o.b 1 = 0 ∧ o.plain = true ∧ o.arg.length = 10 ∧ s.sealOf (tsAt o.arg 0 / second) = none) ∧
    (∃ (o : ObjReq) (x : Session) (i : Nat) (c : CardSlot) (s : State),
      Serves s o x 0x30 .cardRead ∧ o.b 1 = 0 ∧ o.b 3 = 0 ∧ o.b 4 = 0 ∧ o.b 5 = 0 ∧ s.contractScope o.dg.part o.target = true ∧
      o.arg.length = 4 ∧ (s.cardsOf o.target).find? (fun x => x.2.body.cardId = numAt o.arg 0 4) = some (i, c) ∧
      c.body.bytes.length + 38 ≤ s.dgLimit o.dg.port) ∧
    (∃ (o : ObjReq) (x : Session) (s : State),
      Serves s o x 0x30 .cardRead ∧ o.b 1 = 0 ∧ o.b 3 = 0 ∧ o.b 4 = 0 ∧ o.b 5 = 0 ∧ s.contractScope o.dg.part o.target = false) ∧
    (∃ (o : ObjReq) (x : Session) (s : State),
      Serves s o x 0x30 .cardRead ∧ o.b 1 = 0 ∧ o.b 3 = 0 ∧ o.b 4 = 0 ∧ o.b 5 = 0xFF) ∧
    (∃ (o : ObjReq) (x : Session) (bs : List Nat) (s : State),
      Serves s o x 0x40 .recompute ∧ o.b 1 = 0 ∧ o.plain = true ∧
      bs = (s.job o.dg.part).words.flatMap (leBytes 4) ++ ((s.job o.dg.part).sums.foldl (fun l y => insSum y l) []).flatMap JobSum.bytes ∧
      bs.length + 24 ≤ s.dgLimit o.dg.port) ∧
    (∃ (o : ObjReq) (x : Session) (bs : List Nat) (s : State),
      Serves s o x 0x40 .recompute ∧ o.b 1 = 0 ∧ o.plain = true ∧
      bs = (s.job o.dg.part).words.flatMap (leBytes 4) ++ ((s.job o.dg.part).sums.foldl (fun l y => insSum y l) []).flatMap JobSum.bytes ∧
      s.dgLimit o.dg.port < bs.length + 24 ∧ bs.length ≤ 256 * 1048576 ∧ (s.place o.dg.part bs).2 ≠ none) ∧
    (∃ (o : ObjReq) (x : Session) (s : State),
      Serves s o x 0x60 .campaign ∧ o.b 1 = 0 ∧ o.plain = true ∧ s.msn.campaign = none) ∧
    (∃ (o : ObjReq) (x : Session) (c : Campaign) (bs : List Nat) (s : State),
      Serves s o x 0x60 .campaign ∧ o.b 1 = 0 ∧ o.plain = true ∧ s.msn.campaign = some c ∧
      bs = leBytes 2 c.num ++ [c.step, 0] ++ c.tally.flatMap (leBytes 4) ++ (if o.arg = [1] then c.targets.map (fun x => match x.st with | .verified => 1 | .failed => 2 | _ => 0) else []) ∧
      bs.length + 24 ≤ s.dgLimit o.dg.port) :=
  ⟨⟨(req0 [128, 1, 1, 7, 1, 0] ([]) (0) : ObjReq), ses0, (Option.get (sel ((req0 [128, 1, 1, 7, 1, 0] ([]) (0) : ObjReq).b 1) 4) (by decide +kernel) : List Nat), (Option.get (selObjs (req0 [128, 1, 1, 7, 1, 0] ([]) (0) : ObjReq)) (by decide +kernel) : List Nat), ((Option.get (sel ((req0 [128, 1, 1, 7, 1, 0] ([]) (0) : ObjReq).b 1) 4) (by decide +kernel) : List Nat).flatMap (fun c => (Option.get (selObjs (req0 [128, 1, 1, 7, 1, 0] ([]) (0) : ObjReq)) (by decide +kernel) : List Nat).flatMap (fun k => ((live.lch (mkChid (req0 [128, 1, 1, 7, 1, 0] ([]) (0) : ObjReq).target c)).total k).object)) : List Nat), live,
      by unfold Serves Admits; simp only [← Option.mem_def]; decide +kernel⟩,
   ⟨(⟨⟨0, 0, 1, 40, 6, 100, true⟩, 9, [0x80, 0xFF, 1, 0xFF, 0xFF, 0], 0, false, []⟩ : ObjReq), ses0, (Option.get (sel ((⟨⟨0, 0, 1, 40, 6, 100, true⟩, 9, [0x80, 0xFF, 1, 0xFF, 0xFF, 0], 0, false, []⟩ : ObjReq).b 1) 4) (by decide +kernel) : List Nat), (Option.get (selObjs (⟨⟨0, 0, 1, 40, 6, 100, true⟩, 9, [0x80, 0xFF, 1, 0xFF, 0xFF, 0], 0, false, []⟩ : ObjReq)) (by decide +kernel) : List Nat), ((Option.get (sel ((⟨⟨0, 0, 1, 40, 6, 100, true⟩, 9, [0x80, 0xFF, 1, 0xFF, 0xFF, 0], 0, false, []⟩ : ObjReq).b 1) 4) (by decide +kernel) : List Nat).flatMap (fun c => (Option.get (selObjs (⟨⟨0, 0, 1, 40, 6, 100, true⟩, 9, [0x80, 0xFF, 1, 0xFF, 0xFF, 0], 0, false, []⟩ : ObjReq)) (by decide +kernel) : List Nat).flatMap (fun k => ((live.lch (mkChid (⟨⟨0, 0, 1, 40, 6, 100, true⟩, 9, [0x80, 0xFF, 1, 0xFF, 0xFF, 0], 0, false, []⟩ : ObjReq).target c)).total k).object)) : List Nat), live,
      by unfold Serves Admits; simp only [← Option.mem_def]; decide +kernel⟩,
   ⟨(req0 [128, 1, 2, 7, 1, 0] ([]) (0) : ObjReq), ses0, (Option.get (sel ((req0 [128, 1, 2, 7, 1, 0] ([]) (0) : ObjReq).b 1) 4) (by decide +kernel) : List Nat), (Option.get (selObjs (req0 [128, 1, 2, 7, 1, 0] ([]) (0) : ObjReq)) (by decide +kernel) : List Nat), ((Option.get (sel ((req0 [128, 1, 2, 7, 1, 0] ([]) (0) : ObjReq).b 1) 4) (by decide +kernel) : List Nat).flatMap (fun c => (Option.get (selObjs (req0 [128, 1, 2, 7, 1, 0] ([]) (0) : ObjReq)) (by decide +kernel) : List Nat).flatMap (fun k => ((live.lch (mkChid (req0 [128, 1, 2, 7, 1, 0] ([]) (0) : ObjReq).target c)).md k).bytes)) : List Nat), live,
      by unfold Serves Admits; simp only [← Option.mem_def]; decide +kernel⟩,
   ⟨(req0 [128, 1, 3] ([]) (0) : ObjReq), ses0, (Option.get (sel ((req0 [128, 1, 3] ([]) (0) : ObjReq).b 1) 4) (by decide +kernel) : List Nat), ((Option.get (sel ((req0 [128, 1, 3] ([]) (0) : ObjReq).b 1) 4) (by decide +kernel) : List Nat).flatMap (fun c => leBytes 4 (b2n (live.lch (mkChid (req0 [128, 1, 3] ([]) (0) : ObjReq).target c)).held + 2 * b2n (live.lch (mkChid (req0 [128, 1, 3] ([]) (0) : ObjReq).target c)).holdRoll) ++ blockBytes (live.lch (mkChid (req0 [128, 1, 3] ([]) (0) : ObjReq).target c)).totals (live.lch (mkChid (req0 [128, 1, 3] ([]) (0) : ObjReq).target c)).mds) : List Nat), live,
      by unfold Serves Admits; simp only [← Option.mem_def]; decide +kernel⟩,
   ⟨(⟨⟨0, 0, 1, 40, 6, 100, true⟩, 9, [0x80, 0xFF, 3, 0, 0, 0], 0, false, []⟩ : ObjReq), ses0, (Option.get (sel ((⟨⟨0, 0, 1, 40, 6, 100, true⟩, 9, [0x80, 0xFF, 3, 0, 0, 0], 0, false, []⟩ : ObjReq).b 1) 4) (by decide +kernel) : List Nat), ((Option.get (sel ((⟨⟨0, 0, 1, 40, 6, 100, true⟩, 9, [0x80, 0xFF, 3, 0, 0, 0], 0, false, []⟩ : ObjReq).b 1) 4) (by decide +kernel) : List Nat).flatMap (fun c => leBytes 4 (b2n (live.lch (mkChid (⟨⟨0, 0, 1, 40, 6, 100, true⟩, 9, [0x80, 0xFF, 3, 0, 0, 0], 0, false, []⟩ : ObjReq).target c)).held + 2 * b2n (live.lch (mkChid (⟨⟨0, 0, 1, 40, 6, 100, true⟩, 9, [0x80, 0xFF, 3, 0, 0, 0], 0, false, []⟩ : ObjReq).target c)).holdRoll) ++ blockBytes (live.lch (mkChid (⟨⟨0, 0, 1, 40, 6, 100, true⟩, 9, [0x80, 0xFF, 3, 0, 0, 0], 0, false, []⟩ : ObjReq).target c)).totals (live.lch (mkChid (⟨⟨0, 0, 1, 40, 6, 100, true⟩, 9, [0x80, 0xFF, 3, 0, 0, 0], 0, false, []⟩ : ObjReq).target c)).mds) : List Nat), live,
      by unfold Serves Admits; simp only [← Option.mem_def]; decide +kernel⟩,
   ⟨(req0 [128, 1, 1, 7, 1, 0] ([]) (9) : ObjReq), ses0, (live.epScope (req0 [128, 1, 1, 7, 1, 0] ([]) (9) : ObjReq).dg.part (req0 [128, 1, 1, 7, 1, 0] ([]) (9) : ObjReq).target : Status), live,
      by unfold Serves Admits; simp only [← Option.mem_def]; decide +kernel⟩,
   ⟨(req0 [128, 1, 2] ([]) (9) : ObjReq), ses0, ((withCard 3 ⟨.active, card5 0, 0, true, true, [], [], 0⟩ live : State).epScope (req0 [128, 1, 2] ([]) (9) : ObjReq).dg.part (req0 [128, 1, 2] ([]) (9) : ObjReq).target : Status), (withCard 3 ⟨.active, card5 0, 0, true, true, [], [], 0⟩ live : State),
      by unfold Serves Admits; simp only [← Option.mem_def]; decide +kernel⟩,
   ⟨(req0 [128, 1, 3] ([]) (9) : ObjReq), ses0, ((withCard 3 ⟨.active, card5 0, 0, true, true, [], [], 0⟩ live : State).epScope (req0 [128, 1, 3] ([]) (9) : ObjReq).dg.part (req0 [128, 1, 3] ([]) (9) : ObjReq).target : Status), (withCard 3 ⟨.active, card5 0, 0, true, true, [], [], 0⟩ live : State),
      by unfold Serves Admits; simp only [← Option.mem_def]; decide +kernel⟩,
   ⟨(req0 [128, 1, 16] ([]) (9) : ObjReq), ses0, ((withCard 3 ⟨.active, card5 0, 0, true, true, [], [], 0⟩ live : State).epScope (req0 [128, 1, 16] ([]) (9) : ObjReq).dg.part (req0 [128, 1, 16] ([]) (9) : ObjReq).target : Status), (withCard 3 ⟨.active, card5 0, 0, true, true, [], [], 0⟩ live : State),
      by unfold Serves Admits; simp only [← Option.mem_def]; decide +kernel⟩,
   ⟨(req0 [128, 1, 17] ([]) (9) : ObjReq), ses0, ((withCard 3 ⟨.active, card5 0, 0, true, true, [], [], 0⟩ live : State).epScope (req0 [128, 1, 17] ([]) (9) : ObjReq).dg.part (req0 [128, 1, 17] ([]) (9) : ObjReq).target : Status), (withCard 3 ⟨.active, card5 0, 0, true, true, [], [], 0⟩ live : State),
      by unfold Serves Admits; simp only [← Option.mem_def]; decide +kernel⟩,
   ⟨(req0 [128, 1, 128] ([]) (9) : ObjReq), ses0, ((withCard 3 ⟨.active, card5 0, 0, true, true, [], [], 0⟩ live : State).epScope (req0 [128, 1, 128] ([]) (9) : ObjReq).dg.part (req0 [128, 1, 128] ([]) (9) : ObjReq).target : Status), (withCard 3 ⟨.active, card5 0, 0, true, true, [], [], 0⟩ live : State),
      by unfold Serves Admits; simp only [← Option.mem_def]; decide +kernel⟩,
   ⟨(req0 [128, 1, 32] ([]) (9) : ObjReq), ses0, ((withCard 3 ⟨.active, card5 0, 0, true, true, [], [], 0⟩ live : State).epScope (req0 [128, 1, 32] ([]) (9) : ObjReq).dg.part (req0 [128, 1, 32] ([]) (9) : ObjReq).target : Status), (withCard 3 ⟨.active, card5 0, 0, true, true, [], [], 0⟩ live : State),
      by unfold Serves Admits; simp only [← Option.mem_def]; decide +kernel⟩,
   ⟨(⟨⟨0, 0, 1, 40, 6, 100, true⟩, 9, [0x80, 0, 0x20, 0, 0, 0], 9, false, []⟩ : ObjReq), ses0, (live.epScope (⟨⟨0, 0, 1, 40, 6, 100, true⟩, 9, [0x80, 0, 0x20, 0, 0, 0], 9, false, []⟩ : ObjReq).dg.part (⟨⟨0, 0, 1, 40, 6, 100, true⟩, 9, [0x80, 0, 0x20, 0, 0, 0], 9, false, []⟩ : ObjReq).target : Status), live,
      by unfold Serves Admits; simp only [← Option.mem_def]; decide +kernel⟩,
   ⟨(req0 [128, 1, 3, 0, 0, 9] ([]) (0) : ObjReq), ses0, (withCard 3 ⟨.active, card5 0, 0, true, true, [], [], 0⟩ live : State),
      by unfold Serves Admits; simp only [← Option.mem_def]; decide +kernel⟩,
   ⟨(req0 [128, 1, 16, 0, 0, 9] ([]) (0) : ObjReq), ses0, (withCard 3 ⟨.active, card5 0, 0, true, true, [], [], 0⟩ live : State),
      by unfold Serves Admits; simp only [← Option.mem_def]; decide +kernel⟩,
   ⟨(req0 [128, 1, 128, 0, 0, 9] ([]) (0) : ObjReq), ses0, (withCard 3 ⟨.active, card5 0, 0, true, true, [], [], 0⟩ live : State),
      by unfold Serves Admits; simp only [← Option.mem_def]; decide +kernel⟩,
   ⟨(req0 [128, 1, 32, 0, 0, 9] ([]) (0) : ObjReq), ses0, (withCard 3 ⟨.active, card5 0, 0, true, true, [], [], 0⟩ live : State),
      by unfold Serves Admits; simp only [← Option.mem_def]; decide +kernel⟩,
   ⟨(⟨⟨0, 0, 1, 40, 6, 100, true⟩, 9, [0x80, 0, 0x20, 1, 0, 0], 0, false, []⟩ : ObjReq), ses0, live,
      by unfold Serves Admits; simp only [← Option.mem_def]; decide +kernel⟩,
   ⟨(req0 [128, 1, 33, 0, 0, 9] ([]) (0) : ObjReq), ses0, (withCard 3 ⟨.active, card5 0, 0, true, true, [], [], 0⟩ live : State),
      by unfold Serves Admits; simp only [← Option.mem_def]; decide +kernel⟩,
   ⟨(req0 [128, 1, 64, 0, 0, 9] ([]) (0) : ObjReq), ses0, (withCard 3 ⟨.active, card5 0, 0, true, true, [], [], 0⟩ live : State),
      by unfold Serves Admits; simp only [← Option.mem_def]; decide +kernel⟩,
   ⟨(req0 [128, 1, 96, 0, 0, 9] ([]) (0) : ObjReq), ses0, (withCard 3 ⟨.active, card5 0, 0, true, true, [], [], 0⟩ live : State),
      by unfold Serves Admits; simp only [← Option.mem_def]; decide +kernel⟩,
   ⟨(req0 [128, 1, 18, 0, 0, 9] ([]) (0) : ObjReq), ses0, (withCard 3 ⟨.active, card5 0, 0, true, true, [], [], 0⟩ live : State),
      by unfold Serves Admits; simp only [← Option.mem_def]; decide +kernel⟩,
   ⟨(req0 [128, 1, 1, 0, 0, 9] ([]) (0) : ObjReq), ses0, (withCard 3 ⟨.active, card5 0, 0, true, true, [], [], 0⟩ live : State),
      by unfold Serves Admits; simp only [← Option.mem_def]; decide +kernel⟩,
   ⟨(req0 [128, 1, 2, 0, 0, 9] ([]) (0) : ObjReq), ses0, (withCard 3 ⟨.active, card5 0, 0, true, true, [], [], 0⟩ live : State),
      by unfold Serves Admits; simp only [← Option.mem_def]; decide +kernel⟩,
   ⟨(req0 [128, 0, 16] ([]) (0) : ObjReq), ses0, live, by unfold Serves Admits; simp only [← Option.mem_def]; decide +kernel⟩,
   ⟨(req0 [128, 0, 17] (period 5 5 ++ [0]) (0) : ObjReq), ses0, (⟨.interval, 11, .entry (ent 0 1 5 50), false, false, 0⟩ : ArchRec), ({ ch := 0, ridx := 1, capture := 5, flags := 0, gaplen := 0, totF := 50, totR := 0, m0 := 0, m1 := 0, m2 := 0, disp := 0, kind := EntryKind.actual, jseq := 0 } : Entry), (archived (.entry (ent 0 1 5 50)) .interval : State),
      by unfold Serves Admits; simp only [← Option.mem_def]; decide +kernel⟩,
   ⟨(req0 [128, 0, 17] ([]) (0) : ObjReq), ses0, (withCard 3 ⟨.active, card5 0, 0, true, true, [], [], 0⟩ live : State),
      by unfold Serves Admits; simp only [← Option.mem_def]; decide +kernel⟩,
   ⟨(req0 [128, 0, 18] ([]) (9) : ObjReq), ses0, ((withCard 3 ⟨.active, card5 0, 0, true, true, [], [], 0⟩ live : State).nodeScope (req0 [128, 0, 18] ([]) (9) : ObjReq).dg.part (req0 [128, 0, 18] ([]) (9) : ObjReq).target : Status), (withCard 3 ⟨.active, card5 0, 0, true, true, [], [], 0⟩ live : State),
      by unfold Serves Admits; simp only [← Option.mem_def]; decide +kernel⟩,
   ⟨(req0 [128, 0, 18] (period (300 * second) (300 * second)) (0) : ObjReq), ses0, (⟨.balance, 11, .balance ⟨0, 0, 5, 0, 0, 0, 0, 0, 0⟩, false, false, 0⟩ : ArchRec), ({ node := 0, flags := 0, e := 5, inp := 0, out := 0, dinv := 0, resid := 0, x := 0, estPct := 0 } : BalRec), (archived (.balance ⟨0, 0, 5, 0, 0, 0, 0, 0, 0⟩) .balance : State),
      by unfold Serves Admits; simp only [← Option.mem_def]; decide +kernel⟩,
   ⟨(req0 [128, 0, 128] ([]) (0) : ObjReq), ses0, (Option.get (live.epCfg (req0 [128, 0, 128] ([]) (0) : ObjReq).target) (by decide +kernel) : EpCfg), live,
      by unfold Serves Admits; simp only [← Option.mem_def]; decide +kernel⟩,
   ⟨(req0 [128, 0, 32] (leBytes 10 (tsPack (86437 * second))) (0) : ObjReq), ses0, (Option.get ((archived (.day dayRec0) .day : State).dayRec (req0 [128, 0, 32] (leBytes 10 (tsPack (86437 * second))) (0) : ObjReq).target (tsAt (req0 [128, 0, 32] (leBytes 10 (tsPack (86437 * second))) (0) : ObjReq).arg 0 / second)) (by decide +kernel) : DayRec), (archived (.day dayRec0) .day : State),
      by unfold Serves Admits; simp only [← Option.mem_def]; decide +kernel⟩,
   ⟨(req0 [128, 0, 32] (leBytes 10 (tsPack (86437 * second))) (0) : ObjReq), ses0, live,
      by unfold Serves Admits; simp only [← Option.mem_def]; decide +kernel⟩,
   ⟨(req0 [128, 0, 32] (leBytes 10 (tsPack (86437 * second))) (0) : ObjReq), ses0, live,
      by unfold Serves Admits; simp only [← Option.mem_def]; decide +kernel⟩,
   ⟨(req0 [128, 0, 33] (leBytes 10 (tsPack (86437 * second))) (0) : ObjReq), ses0, ({ close := 86437, sealedAt := 5, leaves := 1, root := 0, legalDigest := 77, romDig := 0, tableVer := 0, holds := 0, eui := 4822678183608320, number := 0 } : SealHdr), (7 : Nat), (Option.get ((({ nandOf (fun x => { x with seals := [({ hdr0 with close := 86437 }, 7)], journal := [⟨5, 0, 0, false, false, false, .dayLeaf 86437 0 (Config.shake256 (0 :: dayRec0.bytes)), []⟩] }) (archived (.day dayRec0) .day) with slv := { live.slv with jbuf := [] } } : State).place (req0 [128, 0, 33] (leBytes 10 (tsPack (86437 * second))) (0) : ObjReq).dg.part (({ close := 86437, sealedAt := 5, leaves := 1, root := 0, legalDigest := 77, romDig := 0, tableVer := 0, holds := 0, eui := 4822678183608320, number := 0 } : SealHdr).bytes ++ beBytes 29792 (7 : Nat))).2) (by decide +kernel) : Nat), ({ nandOf (fun x => { x with seals := [({ hdr0 with close := 86437 }, 7)], journal := [⟨5, 0, 0, false, false, false, .dayLeaf 86437 0 (Config.shake256 (0 :: dayRec0.bytes)), []⟩] }) (archived (.day dayRec0) .day) with slv := { live.slv with jbuf := [] } } : State),
      by unfold Serves Admits; simp only [← Option.mem_def]; decide +kernel⟩,
   ⟨(req0 [128, 0, 33] (leBytes 10 (tsPack (86437 * second))) (0) : ObjReq), ses0, live,
      by unfold Serves Admits; simp only [← Option.mem_def]; decide +kernel⟩,
   ⟨(req0 [128, 0, 48] (leBytes 4 1) (5) : ObjReq), ses0, (3 : Nat), ({ st := CardSt.active, body := { cver := 1, contract := 5, cardId := 1, actAt := 0, demandMin := 15, nrates := 1, mdReset := 0, nseasons := 1, stdOfs := 0, dstOfs := 0, nhol := 0, dstStart := { month := 1, week := 1, weekday := 0, minute := 0 }, dstEnd := { month := 1, week := 1, weekday := 0, minute := 0 }, holDt := 0, seasons := [{ month := 1, day := 1, types := [0, 0, 0, 0, 0, 0, 0] }], holidays := [], profiles := [[(0, 0)]], bytes := [] }, stagedAt := 0, sigSup := true, sigCon := true, supMsg := [], conMsg := [], lastCode := 0 } : CardSlot), (withCard 3 ⟨.active, card5 0, 0, true, true, [], [], 0⟩ live : State),
      by unfold Serves Admits; simp only [← Option.mem_def]; decide +kernel⟩,
   ⟨(⟨⟨1, 0, 0, 42, 6, 100, true⟩, 9, [0x80, 0, 0x30, 0, 0, 0], 6, false, []⟩ : ObjReq), sesS, live,
      by unfold Serves Admits; simp only [← Option.mem_def]; decide +kernel⟩,
   ⟨(req0 [128, 0, 48, 0, 0, 255] ([]) (0) : ObjReq), ses0, live, by unfold Serves Admits; simp only [← Option.mem_def]; decide +kernel⟩,
   ⟨(req0 [128, 0, 64] ([]) (0) : ObjReq), ses0, ((live.job (req0 [128, 0, 64] ([]) (0) : ObjReq).dg.part).words.flatMap (leBytes 4) ++ ((live.job (req0 [128, 0, 64] ([]) (0) : ObjReq).dg.part).sums.foldl (fun l y => insSum y l) []).flatMap JobSum.bytes : List Nat), live,
      by unfold Serves Admits; simp only [← Option.mem_def]; decide +kernel⟩,
   ⟨(⟨⟨0, 0, 1, 40, 6, 100, true⟩, 9, [0x80, 0, 0x40, 0, 0, 0], 0, false, []⟩ : ObjReq), ses0, (((penOf (fun x => { x with jobs := [(0, { Job.blank with sums := List.replicate 60 ⟨0, 0, 0, 0, 0, 0, 0, 0, 0, 0⟩ })] }) live : State).job (⟨⟨0, 0, 1, 40, 6, 100, true⟩, 9, [0x80, 0, 0x40, 0, 0, 0], 0, false, []⟩ : ObjReq).dg.part).words.flatMap (leBytes 4) ++ (((penOf (fun x => { x with jobs := [(0, { Job.blank with sums := List.replicate 60 ⟨0, 0, 0, 0, 0, 0, 0, 0, 0, 0⟩ })] }) live : State).job (⟨⟨0, 0, 1, 40, 6, 100, true⟩, 9, [0x80, 0, 0x40, 0, 0, 0], 0, false, []⟩ : ObjReq).dg.part).sums.foldl (fun l y => insSum y l) []).flatMap JobSum.bytes : List Nat), (penOf (fun x => { x with jobs := [(0, { Job.blank with sums := List.replicate 60 ⟨0, 0, 0, 0, 0, 0, 0, 0, 0, 0⟩ })] }) live : State),
      by unfold Serves Admits; simp only [← Option.mem_def]; decide +kernel⟩,
   ⟨(req0 [128, 0, 96] ([]) (0) : ObjReq), ses0, live, by unfold Serves Admits; simp only [← Option.mem_def]; decide +kernel⟩,
   ⟨(req0 [128, 0, 96] ([]) (0) : ObjReq), ses0, (Option.get ((msnOf (fun x => { x with campaign := some ⟨1, [1], 2048, [0], [⟨0, 0, .verified⟩], [⟨0, 8, 0, [], none⟩], none, false⟩ }) live : State).msn.campaign) (by decide +kernel) : Campaign), (leBytes 2 (Option.get ((msnOf (fun x => { x with campaign := some ⟨1, [1], 2048, [0], [⟨0, 0, .verified⟩], [⟨0, 8, 0, [], none⟩], none, false⟩ }) live : State).msn.campaign) (by decide +kernel) : Campaign).num ++ [(Option.get ((msnOf (fun x => { x with campaign := some ⟨1, [1], 2048, [0], [⟨0, 0, .verified⟩], [⟨0, 8, 0, [], none⟩], none, false⟩ }) live : State).msn.campaign) (by decide +kernel) : Campaign).step, 0] ++ (Option.get ((msnOf (fun x => { x with campaign := some ⟨1, [1], 2048, [0], [⟨0, 0, .verified⟩], [⟨0, 8, 0, [], none⟩], none, false⟩ }) live : State).msn.campaign) (by decide +kernel) : Campaign).tally.flatMap (leBytes 4) ++ (if (req0 [128, 0, 96] ([]) (0) : ObjReq).arg = [1] then (Option.get ((msnOf (fun x => { x with campaign := some ⟨1, [1], 2048, [0], [⟨0, 0, .verified⟩], [⟨0, 8, 0, [], none⟩], none, false⟩ }) live : State).msn.campaign) (by decide +kernel) : Campaign).targets.map (fun x => match x.st with | .verified => 1 | .failed => 2 | _ => 0) else []) : List Nat), (msnOf (fun x => { x with campaign := some ⟨1, [1], 2048, [0], [⟨0, 0, .verified⟩], [⟨0, 8, 0, [], none⟩], none, false⟩ }) live : State),
      by unfold Serves Admits; simp only [← Option.mem_def]; decide +kernel⟩⟩

/-- States and operands that meet the hypotheses of each clause of ActionsAndCommits. -/
theorem test_wit_ActionsAndCommits :
    (∃ (o : ObjReq) (x : Session) (n : Nat) (s : State),
      Serves s o x 0x40 .recompute ∧ o.b 1 = 0 ∧ o.plain = true ∧ numAt o.arg 20 4 = n ∧ 0 < n ∧ n ≤ 65536 ∧ o.arg.length = 24 + 4 * n ∧
      (s.job o.dg.part).busy = false ∧ nbit s.slv.causes 8 = false ∧
      s.chidsOk o.dg.part ((upTo n).map (fun i => numAt o.arg (24 + 4 * i) 4)) = true) ∧
    (∃ (o : ObjReq) (x : Session) (n : Nat) (s : State),
      Serves s o x 0x40 .recompute ∧ o.b 1 = 0 ∧ o.plain = true ∧ numAt o.arg 20 4 = n ∧ 0 < n ∧ n ≤ 65536 ∧ o.arg.length = 24 + 4 * n ∧
      (s.job o.dg.part).busy = true) ∧
    (∃ (o : ObjReq) (x : Session) (n : Nat) (s : State),
      Serves s o x 0x40 .recompute ∧ o.b 1 = 0 ∧ o.plain = true ∧ numAt o.arg 20 4 = n ∧ 0 < n ∧ n ≤ 65536 ∧ o.arg.length = 24 + 4 * n ∧
      (s.job o.dg.part).busy = false ∧ nbit s.slv.causes 8 = true ∧
      s.chidsOk o.dg.part ((upTo n).map (fun i => numAt o.arg (24 + 4 * i) 4)) = true) ∧
    (∃ (o : ObjReq) (x : Session) (n : Nat) (s : State),
      Serves s o x 0x40 .recompute ∧ o.b 1 = 0 ∧ o.plain = true ∧ numAt o.arg 20 4 = n ∧ 0 < n ∧ n ≤ 65536 ∧ o.arg.length = 24 + 4 * n ∧
      (s.job o.dg.part).busy = false ∧ s.chidsOk o.dg.part ((upTo n).map (fun i => numAt o.arg (24 + 4 * i) 4)) = false) ∧
    (∃ (o : ObjReq) (x : Session) (n : Nat) (s : State),
      Serves s o x 0x40 .recompute ∧ o.b 1 = 0 ∧ o.plain = true ∧ numAt o.arg 20 4 = n ∧ (n = 0 ∨ 65536 < n ∨ o.arg.length ≠ 24 + 4 * n)) ∧
    (∃ (o : ObjReq) (x : Session) (s : State),
      Serves s o x 0x40 .recompute ∧ o.b 1 = 0 ∧ o.plain = true ∧ (s.job o.dg.part).busy = false) ∧
    (∃ (o : ObjReq) (x : Session) (s : State),
      o.plain = false ∧ Serves s o x 0x40 .recompute) ∧
    (∃ (o : ObjReq) (x : Session) (s : State),
      o.plain = false ∧ Serves s o x 0x40 .recompute) ∧
    (∃ (o : ObjReq) (x : Session) (s : State),
      o.plain = false ∧ Serves s o x 0x60 .campaign) ∧
    (∃ (o : ObjReq) (x : Session) (s : State),
      o.plain = false ∧ Serves s o x 0x60 .campaign) ∧
    (∃ (o : ObjReq) (x : Session) (s : State),
      Serves s o x 0x40 .recompute ∧ o.b 1 = 0 ∧ o.plain = true ∧ (s.job o.dg.part).busy = true) ∧
    (∃ (o : ObjReq) (x : Session) (c : Campaign) (s : State),
      Serves s o x 0x60 .campaign ∧ o.b 1 = 0 ∧ o.plain = true ∧ s.sys.st = .active ∧ o.arg.length = 10 ∧ s.msn.campaign = some c ∧
      8 ≤ c.step) ∧
    (∃ (o : ObjReq) (x : Session) (c : Campaign) (s : State),
      Serves s o x 0x60 .campaign ∧ o.b 1 = 0 ∧ o.plain = true ∧ s.sys.st = .active ∧ o.arg.length = 10 ∧ s.msn.campaign = some c ∧
      c.step < 8) ∧
    (∃ (o : ObjReq) (x : Session) (c : Campaign) (s : State),
      Serves s o x 0x60 .campaign ∧ o.b 1 = 0 ∧ o.plain = true ∧ s.sys.st = .active ∧ s.msn.campaign = some c) ∧
    (∃ (o : ObjReq) (x : Session) (s : State),
      Serves s o x 0x60 .campaign ∧ o.b 1 = 0 ∧ o.plain = true ∧ s.sys.st = .standby) ∧
    (∃ (o : ObjReq) (x : Session) (s : State),
      Serves s o x 0x60 .campaign ∧ o.b 1 = 0 ∧ o.plain = true ∧ s.sys.st = .standby) ∧
    (∃ (o : ObjReq) (x : Session) (s : State),
      Serves s o x 0x60 .campaign ∧ o.b 1 = 0 ∧ o.plain = true ∧ s.sys.st = .active ∧ s.msn.campaign = none) ∧
    (∃ (o : ObjReq) (x : Session) (s : State),
      Serves s o x 0x60 .campaign ∧ o.b 1 = 0 ∧ o.plain = true ∧ s.sys.st = .active ∧ s.msn.campaign = none) ∧
    (∃ (o : ObjReq) (x : Session) (st : Status) (s : State),
      Serves s o x 0x70 .hostRead ∧ s.epScope o.dg.part o.target = st ∧ st ≠ .ok) ∧
    (∃ (o : ObjReq) (x : Session) (s : State),
      Serves s o x 0x70 .hostRead ∧ s.epScope o.dg.part o.target = .ok ∧ o.b 1 = 0 ∧ o.plain = true ∧ s.sys.st = .active ∧
      o.arg.length = 20) ∧
    (∃ (o : ObjReq) (x : Session) (s : State),
      Serves s o x 0x70 .hostRead ∧ s.epScope o.dg.part o.target = .ok ∧ o.b 1 = 0 ∧ o.plain = true ∧ s.sys.st = .standby) ∧
    (∃ (r : Requester) (j : Nat) (role : Role) (s : State),
      Commits s r 4 j role ∧ (s.part j).commitLen % 48 = 0 ∧ (s.job j).busy = false ∧ nbit s.slv.causes 8 = false ∧
      s.chidsOk j ((hostRecs (((s.part j).region 4).read 0 (s.part j).commitLen)).map HostRec.ch) = true) ∧
    (∃ (r : Requester) (j : Nat) (role : Role) (s : State),
      Commits s r 4 j role ∧ (s.part j).commitLen % 48 ≠ 0) ∧
    (∃ (r : Requester) (j : Nat) (role : Role) (s : State),
      Commits s r 4 j role ∧ (s.part j).commitLen % 48 = 0 ∧
      ((s.job j).busy = true ∨ s.chidsOk j ((hostRecs (((s.part j).region 4).read 0 (s.part j).commitLen)).map HostRec.ch) = false)) ∧
    (∃ (r : Requester) (j : Nat) (role : Role) (code : Nat) (st : Status) (s : State),
      s.ownPart r = some (j, role) ∧ s.handed j code = false ∧ Permits s r R.HST_DP_COMMIT ∧ s.commitStatus j role code = st ∧ st ≠ .ok ∧
      code = 1) ∧
    (∃ (r : Requester) (j : Nat) (role : Role) (code : Nat) (st : Status) (s : State),
      s.ownPart r = some (j, role) ∧ s.handed j code = false ∧ Permits s r R.HST_DP_COMMIT ∧ s.commitStatus j role code = st ∧ st ≠ .ok ∧
      code = 2) ∧
    (∃ (r : Requester) (j : Nat) (role : Role) (code : Nat) (st : Status) (s : State),
      s.ownPart r = some (j, role) ∧ s.handed j code = false ∧ Permits s r R.HST_DP_COMMIT ∧ s.commitStatus j role code = st ∧ st ≠ .ok ∧
      code = 3) ∧
    (∃ (r : Requester) (j : Nat) (role : Role) (code : Nat) (st : Status) (s : State),
      s.ownPart r = some (j, role) ∧ s.handed j code = false ∧ Permits s r R.HST_DP_COMMIT ∧ s.commitStatus j role code = st ∧ st ≠ .ok ∧
      code = 4) ∧
    (∃ (r : Requester) (j : Nat) (role : Role) (code : Nat) (st : Status) (s : State),
      s.ownPart r = some (j, role) ∧ s.handed j code = false ∧ Permits s r R.HST_DP_COMMIT ∧ s.commitStatus j role code = st ∧ st ≠ .ok ∧
      code = 5) ∧
    (∃ (r : Requester) (j : Nat) (role : Role) (m : CardMsg) (s : State),
      Commits s r 5 j role ∧ parseMsg j (((s.part j).region 5).read 0 (s.part j).commitLen) = some m ∧
      (s.part j).commitLen = 8 + (if numAt (((s.part j).region 5).read 0 (s.part j).commitLen) 0 1 = 1 then 1056 else 49920) ∧
      numAt (((s.part j).region 5).read 0 (s.part j).commitLen) 4 4 + 8 = (s.part j).commitLen ∧ mayCard role m = true ∧
      s.contractScope j (s.msgContract m) = true) ∧
    (∃ (r : Requester) (j : Nat) (role : Role) (m : CardMsg) (s : State),
      Commits s r 5 j role ∧ parseMsg j (((s.part j).region 5).read 0 (s.part j).commitLen) = some m ∧
      (s.part j).commitLen = 8 + (if numAt (((s.part j).region 5).read 0 (s.part j).commitLen) 0 1 = 1 then 1056 else 49920) ∧
      numAt (((s.part j).region 5).read 0 (s.part j).commitLen) 4 4 + 8 = (s.part j).commitLen ∧
      (mayCard role m = false ∨ s.contractScope j (s.msgContract m) = false)) ∧
    (∃ (r : Requester) (j : Nat) (role : Role) (s : State),
      Commits s r 5 j role ∧ (s.part j).commitLen ≠ 1064 ∧ (s.part j).commitLen ≠ 49928) ∧
    (∃ (r : Requester) (j : Nat) (role : Role) (s : State),
      Commits s r 3 j role ∧ parseMeterImage (((s.part j).region 3).read 0 (s.part j).commitLen) = none) ∧
    (∃ (r : Requester) (j : Nat) (role : Role) (n : Nat) (d : List Nat) (z : Nat) (i : List Nat) (e : List Nat) (s : State),
      Commits s r 3 j role ∧ parseMeterImage (((s.part j).region 3).read 0 (s.part j).commitLen) = some (n, d, z, i, e) ∧
      s.imageCheck j e = none) ∧
    (∃ (r : Requester) (j : Nat) (role : Role) (n : Nat) (d : List Nat) (z : Nat) (i : List Nat) (e : List Nat) (st : Status) (s : State),
      Commits s r 3 j role ∧ parseMeterImage (((s.part j).region 3).read 0 (s.part j).commitLen) = some (n, d, z, i, e) ∧
      s.imageCheck j e = some st) :=
  ⟨⟨(req0 [128, 0, 64] (List.replicate 20 0 ++ leBytes 4 2 ++ leBytes 4 0 ++ leBytes 4 1) (0) : ObjReq), ses0, (numAt (req0 [128, 0, 64] (List.replicate 20 0 ++ leBytes 4 2 ++ leBytes 4 0 ++ leBytes 4 1) (0) : ObjReq).arg 20 4 : Nat), live,
      by unfold Serves Admits; simp only [← Option.mem_def]; decide +kernel⟩,
   ⟨(req0 [128, 0, 64] (List.replicate 20 0 ++ leBytes 4 2 ++ leBytes 4 0 ++ leBytes 4 1) (0) : ObjReq), ses0, (numAt (req0 [128, 0, 64] (List.replicate 20 0 ++ leBytes 4 2 ++ leBytes 4 0 ++ leBytes 4 1) (0) : ObjReq).arg 20 4 : Nat), (penOf (fun x => { x with jobs := [(0, { Job.blank with st := .running })], order := [0] }) live : State),
      by unfold Serves Admits; simp only [← Option.mem_def]; decide +kernel⟩,
   ⟨(⟨⟨0, 0, 1, 40, 6, 100, true⟩, 9, [0x80, 0, 0x40, 0, 0, 0], 0, false, List.replicate 20 0 ++ leBytes 4 1 ++ leBytes 4 0⟩ : ObjReq), ses0, (numAt (⟨⟨0, 0, 1, 40, 6, 100, true⟩, 9, [0x80, 0, 0x40, 0, 0, 0], 0, false, List.replicate 20 0 ++ leBytes 4 1 ++ leBytes 4 0⟩ : ObjReq).arg 20 4 : Nat), (slvOf (fun x => { x with causes := 256 }) live : State),
      by unfold Serves Admits; simp only [← Option.mem_def]; decide +kernel⟩,
   ⟨(⟨⟨0, 0, 1, 40, 6, 100, true⟩, 9, [0x80, 0, 0x40, 0, 0, 0], 0, false, List.replicate 20 0 ++ leBytes 4 1 ++ leBytes 4 36⟩ : ObjReq), ses0, (numAt (⟨⟨0, 0, 1, 40, 6, 100, true⟩, 9, [0x80, 0, 0x40, 0, 0, 0], 0, false, List.replicate 20 0 ++ leBytes 4 1 ++ leBytes 4 36⟩ : ObjReq).arg 20 4 : Nat), live,
      by unfold Serves Admits; simp only [← Option.mem_def]; decide +kernel⟩,
   ⟨(req0 [128, 0, 64] ([]) (0) : ObjReq), ses0, (numAt (req0 [128, 0, 64] ([]) (0) : ObjReq).arg 20 4 : Nat), live,
      by unfold Serves Admits; simp only [← Option.mem_def]; decide +kernel⟩,
   ⟨(req0 [128, 0, 64] (List.replicate 20 0 ++ leBytes 4 2 ++ leBytes 4 0 ++ leBytes 4 1) (0) : ObjReq), ses0, live,
      by unfold Serves Admits; simp only [← Option.mem_def]; decide +kernel⟩,
   ⟨(⟨⟨0, 0, 1, 40, 6, 100, true⟩, 9, [0x80, 0, 0x40, 1, 0, 0], 0, false, []⟩ : ObjReq), ses0, live,
      by unfold Serves Admits; simp only [← Option.mem_def]; decide +kernel⟩,
   ⟨(⟨⟨0, 0, 1, 40, 6, 100, true⟩, 9, [0x80, 0, 0x40, 1, 0, 0], 0, false, []⟩ : ObjReq), ses0, live,
      by unfold Serves Admits; simp only [← Option.mem_def]; decide +kernel⟩,
   ⟨(⟨⟨0, 0, 1, 40, 6, 100, true⟩, 9, [0x80, 0, 0x60, 1, 0, 0], 0, false, []⟩ : ObjReq), ses0, live,
      by unfold Serves Admits; simp only [← Option.mem_def]; decide +kernel⟩,
   ⟨(⟨⟨0, 0, 1, 40, 6, 100, true⟩, 9, [0x80, 0, 0x60, 1, 0, 0], 0, false, []⟩ : ObjReq), ses0, live,
      by unfold Serves Admits; simp only [← Option.mem_def]; decide +kernel⟩,
   ⟨(req0 [128, 0, 64] (List.replicate 20 0 ++ leBytes 4 2 ++ leBytes 4 0 ++ leBytes 4 1) (0) : ObjReq), ses0, (penOf (fun x => { x with jobs := [(0, { Job.blank with st := .running })], order := [0] }) live : State),
      by unfold Serves Admits; simp only [← Option.mem_def]; decide +kernel⟩,
   ⟨(req0 [128, 0, 96] (leBytes 10 (tsPack (2000000 * second))) (0) : ObjReq), ses0, (Option.get ((msnOf (fun x => { x with campaign := some ⟨1, [1], 2048, [0], [⟨0, 0, .verified⟩], [⟨0, 8, 0, [], none⟩], none, false⟩ }) live : State).msn.campaign) (by decide +kernel) : Campaign), (msnOf (fun x => { x with campaign := some ⟨1, [1], 2048, [0], [⟨0, 0, .verified⟩], [⟨0, 8, 0, [], none⟩], none, false⟩ }) live : State),
      by unfold Serves Admits; simp only [← Option.mem_def]; decide +kernel⟩,
   ⟨(req0 [128, 0, 96] (leBytes 10 (tsPack (2000000 * second))) (0) : ObjReq), ses0, (Option.get ((msnOf (fun x => { x with campaign := some ⟨1, [1], 2048, [0], [⟨0, 0, .verified⟩], [⟨0, 7, 0, [], none⟩], none, false⟩ }) live : State).msn.campaign) (by decide +kernel) : Campaign), (msnOf (fun x => { x with campaign := some ⟨1, [1], 2048, [0], [⟨0, 0, .verified⟩], [⟨0, 7, 0, [], none⟩], none, false⟩ }) live : State),
      by unfold Serves Admits; simp only [← Option.mem_def]; decide +kernel⟩,
   ⟨(req0 [128, 0, 96] (leBytes 10 (tsPack (2000000 * second))) (0) : ObjReq), ses0, (Option.get ((msnOf (fun x => { x with campaign := some ⟨1, [1], 2048, [0], [⟨0, 0, .verified⟩], [⟨0, 8, 0, [], none⟩], none, false⟩ }) live : State).msn.campaign) (by decide +kernel) : Campaign), (msnOf (fun x => { x with campaign := some ⟨1, [1], 2048, [0], [⟨0, 0, .verified⟩], [⟨0, 8, 0, [], none⟩], none, false⟩ }) live : State),
      by unfold Serves Admits; simp only [← Option.mem_def]; decide +kernel⟩,
   ⟨(req0 [128, 0, 96] (leBytes 10 (tsPack (2000000 * second))) (0) : ObjReq), ses0, pairS,
      by unfold Serves Admits; simp only [← Option.mem_def]; decide +kernel⟩,
   ⟨(req0 [128, 0, 96] (leBytes 10 (tsPack (2000000 * second))) (0) : ObjReq), ses0, pairS,
      by unfold Serves Admits; simp only [← Option.mem_def]; decide +kernel⟩,
   ⟨(req0 [128, 0, 96] (leBytes 10 (tsPack (2000000 * second))) (0) : ObjReq), ses0, live,
      by unfold Serves Admits; simp only [← Option.mem_def]; decide +kernel⟩,
   ⟨(req0 [128, 0, 96] (leBytes 10 (tsPack (2000000 * second))) (0) : ObjReq), ses0, live,
      by unfold Serves Admits; simp only [← Option.mem_def]; decide +kernel⟩,
   ⟨(⟨⟨0, 0, 1, 40, 6, 100, true⟩, 9, [0x80, 0, 0x70, 0, 0, 0], 9, false, []⟩ : ObjReq), ses0, (live.epScope (⟨⟨0, 0, 1, 40, 6, 100, true⟩, 9, [0x80, 0, 0x70, 0, 0, 0], 9, false, []⟩ : ObjReq).dg.part (⟨⟨0, 0, 1, 40, 6, 100, true⟩, 9, [0x80, 0, 0x70, 0, 0, 0], 9, false, []⟩ : ObjReq).target : Status), live,
      by unfold Serves Admits; simp only [← Option.mem_def]; decide +kernel⟩,
   ⟨(req0 [128, 0, 112] (period 0 5) (0) : ObjReq), ses0, live, by unfold Serves Admits; simp only [← Option.mem_def]; decide +kernel⟩,
   ⟨(req0 [128, 0, 112] (period 0 5) (0) : ObjReq), ses0, pairS, by unfold Serves Admits; simp only [← Option.mem_def]; decide +kernel⟩,
   ⟨(.slot 0 0 : Requester), (0 : Nat), (.operator : Role), live, by unfold Commits Permits; decide +kernel⟩,
   ⟨(.slot 0 0 : Requester), (0 : Nat), (.operator : Role), (committed 4 [1, 2] : State), by unfold Commits Permits; decide +kernel⟩,
   ⟨(.slot 0 0 : Requester), (0 : Nat), (.operator : Role), (penOf (fun x => { x with jobs := [(0, { Job.blank with st := .running })], order := [0] }) live : State),
      by unfold Commits Permits; decide +kernel⟩,
   ⟨(.slot 1 0 : Requester), (1 : Nat), (Role.supplier : Role), (1 : Nat), (live.commitStatus (1 : Nat) (Role.supplier : Role) (1 : Nat) : Status), live,
      by unfold Permits; decide +kernel⟩,
   ⟨(.slot 1 0 : Requester), (1 : Nat), (Role.supplier : Role), (2 : Nat), (live.commitStatus (1 : Nat) (Role.supplier : Role) (2 : Nat) : Status), live,
      by unfold Permits; decide +kernel⟩,
   ⟨(.slot 1 0 : Requester), (1 : Nat), (Role.supplier : Role), (3 : Nat), (live.commitStatus (1 : Nat) (Role.supplier : Role) (3 : Nat) : Status), live,
      by unfold Permits; decide +kernel⟩,
   ⟨(.slot 0 0 : Requester), (0 : Nat), (Role.operator : Role), (4 : Nat), ((committed 5 ([1, 0, 0, 0] ++ leBytes 4 1056 ++ List.replicate 1056 0) : State).commitStatus (0 : Nat) (Role.operator : Role) (4 : Nat) : Status), (committed 5 ([1, 0, 0, 0] ++ leBytes 4 1056 ++ List.replicate 1056 0) : State),
      by unfold Permits; decide +kernel⟩,
   ⟨(.slot 0 0 : Requester), (0 : Nat), (Role.operator : Role), (5 : Nat), (pairS.commitStatus (0 : Nat) (Role.operator : Role) (5 : Nat) : Status), pairS,
      by unfold Permits; decide +kernel⟩,
   ⟨(.slot 0 0 : Requester), (0 : Nat), (.operator : Role), ((CardMsg.stage 0 (parseCard (cardBytes.drop 8))) : CardMsg), cardUnit,
      by exact ⟨by unfold Commits Permits; decide +kernel, by rw [cardUnit_read]; rfl, by rw [cardUnit_read]; decide +kernel,
      by rw [cardUnit_read]; decide +kernel, rfl, by decide +kernel⟩⟩,
   ⟨(.slot 1 0 : Requester), (1 : Nat), (.supplier : Role), ((CardMsg.stage 1 (parseCard (cardBytes.drop 8))) : CardMsg), cardUnit1,
      by exact ⟨by unfold Commits Permits; decide +kernel, by rw [cardUnit1_read]; rfl, by rw [cardUnit1_read]; decide +kernel,
      by rw [cardUnit1_read]; decide +kernel, .inl rfl⟩⟩,
   ⟨(.slot 0 0 : Requester), (0 : Nat), (.operator : Role), live, by unfold Commits Permits; decide +kernel⟩,
   ⟨(.slot 0 0 : Requester), (0 : Nat), (.operator : Role), live, by unfold Commits Permits; decide +kernel⟩,
   ⟨(.slot 0 0 : Requester), (0 : Nat), (.operator : Role), (1 : Nat), ([0] : List Nat), (1 : Nat), ([7] : List Nat), ([0] : List Nat), (committed 3 (leBytes 2 1 ++ leBytes 2 1 ++ leBytes 4 1 ++ leBytes 4 1 ++ List.replicate 52 0 ++ leBytes 4 0 ++ [7]) : State),
      by unfold Commits Permits; decide +kernel⟩,
   ⟨(.slot 0 0 : Requester), (0 : Nat), (.operator : Role), (1 : Nat), ([0] : List Nat), (1 : Nat), ([7] : List Nat), ([9] : List Nat), (Option.get ((committed 3 (leBytes 2 1 ++ leBytes 2 1 ++ leBytes 4 1 ++ leBytes 4 1 ++ List.replicate 52 0 ++ leBytes 4 9 ++ [7]) : State).imageCheck (0 : Nat) ([9] : List Nat)) (by decide +kernel) : Status), (committed 3 (leBytes 2 1 ++ leBytes 2 1 ++ leBytes 4 1 ++ leBytes 4 1 ++ List.replicate 52 0 ++ leBytes 4 9 ++ [7]) : State),
      by unfold Commits Permits; decide +kernel⟩⟩

/-- States and operands that meet the hypotheses of each clause of DetectedErrors. -/
theorem test_wit_DetectedErrors :
    (∃ (s : State),
      s.detects = false) ∧
    (∃ (s : State),
      s.detects = true) ∧
    (∃ (c : Nat) (s : State),
      s.detects = true ∧ Store.get (fun _ => 0) s.evt.fabric c < 3) ∧
    (∃ (c : Nat) (s : State),
      s.detects = true ∧ 3 ≤ Store.get (fun _ => 0) s.evt.fabric c) ∧
    (∃ (c : Nat) (s : State),
      s.sys.st = .active ∧ 3 ≤ Store.get (fun _ => 0) s.evt.fabric c) ∧
    (∃ (l : SramLoc) (s : State),
      (s.detects = false ∨ s.hasSram l = false)) ∧
    (∃ (s : State),
      s.detects = true ∧ s.active Ev.PARITY_ERR = false) ∧
    (∃ (s : State),
      s.sys.st = .active) ∧
    (∃ (s : State),
      s.detects = true) ∧
    (∃ (c : Nat) (x : Task) (u : Nat) (s : State),
      s.detects = true ∧ s.usable .core c = true ∧ s.sht.waiting = [] ∧ s.holds c = some (x, u) ∧ x.retries < 3) ∧
    (∃ (c : Nat) (n : Nat) (s : State),
      s.detects = true ∧ s.usable .core c = true ∧ (s.unitError .core c (max s.tim.cnt n)).2 = true) ∧
    (∃ (k : Nat) (s : State),
      s.detects = true ∧ k < 4 ∧ s.sht.waiting = [] ∧ s.spillHead = none) ∧
    (∃ (l : Nat) (s : State),
      s.detects = true ∧ s.usable .lane l = true) ∧
    (∃ (k : Nat) (s : State),
      s.detects = true ∧ s.usable .pipe k = true) ∧
    (∃ (p : Nat) (s : State),
      s.detects = true ∧ s.usable .port p = true) ∧
    (∃ (d : Nat) (c : Nat) (x : Task) (u : Nat) (s : State),
      s.detects = true ∧ (∀ q, ∀ y ∈ s.readyList q, y.index ≠ d) ∧ (∀ k, ∀ y ∈ s.delayList k, y.2.index ≠ d) ∧ s.sht.waiting = [] ∧
      (∀ e < 32, ∀ y w, s.holds e = some (y, w) → y.index = d → e = c) ∧ c < 32 ∧ s.holds c = some (x, u) ∧ x.index = d ∧
      s.active Ev.TASK_KILLED = false) ∧
    (∃ (s : State),
      s.sys.st = .active) ∧
    (∃ (c : Nat) (s : State),
      (s.detects = false ∨ 2 ≤ c)) ∧
    (∃ (c : Nat) (s : State),
      s.detects = true ∧ c < 2 ∧ (∀ x ∈ s.evt.ceLast, x.1 ≠ c) ∧ s.active Ev.DRAM_CE = false) ∧
    (∃ (c : Nat) (n : Nat) (a : Nat) (s : State),
      s.detects = true ∧ c < 2 ∧ s.evt.ceLast.find? (fun x => x.1 = c) = some (c, a) ∧ a + hourCounts ≤ max s.tim.cnt n) ∧
    (∃ (c : Nat) (n : Nat) (a : Nat) (s : State),
      s.detects = true ∧ c < 2 ∧ s.evt.ceLast.find? (fun x => x.1 = c) = some (c, a) ∧ max s.tim.cnt n < a + hourCounts) ∧
    (∃ (s : State),
      s.detects = false) ∧
    (∃ (d : DramRegion) (s : State),
      s.sys.st = .active ∧ (d = .legal ∨ d = .beamMap ∨ d = .imageCopy)) ∧
    (∃ (im : Image) (s : State),
      s.detects = true ∧ s.sys.image = some im) ∧
    (∃ (s : State),
      s.detects = true) ∧
    (∃ (d : DramRegion) (s : State),
      s.detects = true ∧ (d = .warpParam ∨ d = .balModel) ∧ s.active Ev.DRAM_UE = false) ∧
    (∃ (n : Nat) (b : BalNode) (s : State),
      s.detects = true ∧ s.balNodes.find? (fun x => x.1 = n) = some (n, b)) ∧
    (∃ (s : State),
      s.detects = true) ∧
    (∃ (ep : Nat) (s : State),
      s.detects = true ∧ s.keyGood (Store.get (fun _ => KeyEntry.blank) s.nand.keyCopy ep) = true) ∧
    (∃ (s : State),
      s.detects = true) ∧
    (∃ (s : State),
      s.detects = true) ∧
    (∃ (c : Nat) (s : State),
      s.detects = true ∧ c ≠ 0x20) ∧
    (∃ (s : State),
      s.detects = true) ∧
    (∃ (r : Requester) (s : State),
      Permits s r R.EVT_ACT_IDX) ∧
    (∃ (r : Requester) (s : State),
      Permits s r R.JQD_CARD_IDX) :=
  ⟨⟨(inSt .flush : State), by decide +kernel⟩,
   ⟨({ live with evt := { live.evt with fabric := [(5, 3)] } } : State), by decide +kernel⟩,
   ⟨(0 : Nat), ({ live with evt := { live.evt with fabric := [(5, 3)] } } : State), by decide +kernel⟩,
   ⟨(5 : Nat), ({ live with evt := { live.evt with fabric := [(5, 3)] } } : State), by decide +kernel⟩,
   ⟨(5 : Nat), ({ live with evt := { live.evt with fabric := [(5, 3)] } } : State), by decide +kernel⟩,
   ⟨(.legalOne : SramLoc), (inSt .flush : State), by decide +kernel⟩,
   ⟨({ live with evt := { live.evt with fabric := [(5, 3)] } } : State), by decide +kernel⟩,
   ⟨({ live with evt := { live.evt with fabric := [(5, 3)] } } : State), by decide +kernel⟩,
   ⟨({ live with evt := { live.evt with fabric := [(5, 3)] } } : State), by decide +kernel⟩,
   ⟨(0 : Nat), ({ d := { prio := 3, dlist := 0, ser := false, src := 16, key := 0, affinity := 4294967295, entry := 64, arg0 := 0, arg1 := 0, arg2 := 0, delay := 0 }, retries := 0, gen := 0, index := 5, stranded := false, overruns := 0 } : Task), (900 : Nat), (holding (task0 0x10) 900 : State),
      by decide +kernel⟩,
   ⟨(0 : Nat), (1000001 : Nat), (evtOf (fun x => { x with errs := [⟨.core, 0, [900, 901]⟩] }) live : State), by decide +kernel⟩,
   ⟨(0 : Nat), ({ live with evt := { live.evt with fabric := [(5, 3)] } } : State), by decide +kernel⟩,
   ⟨(0 : Nat), ({ live with evt := { live.evt with fabric := [(5, 3)] } } : State), by decide +kernel⟩,
   ⟨(0 : Nat), ({ live with evt := { live.evt with fabric := [(5, 3)] } } : State), by decide +kernel⟩,
   ⟨(0 : Nat), ({ live with evt := { live.evt with fabric := [(5, 3)] } } : State), by decide +kernel⟩,
   ⟨(((((shtOf (fun h => { h with held := [(0, some (⟨desc0 0x20, 5, 0, 5, false, 0⟩, 900))], used := [(0x20, 1)] }) live : State).holds (0 : Nat)).map (fun y => y.1.index)).getD 0) : Nat), (0 : Nat), ({ d := { prio := 3, dlist := 0, ser := false, src := 32, key := 0, affinity := 4294967295, entry := 64, arg0 := 0, arg1 := 0, arg2 := 0, delay := 0 }, retries := 5, gen := 0, index := 5, stranded := false, overruns := 0 } : Task), (900 : Nat), (shtOf (fun h => { h with held := [(0, some (⟨desc0 0x20, 5, 0, 5, false, 0⟩, 900))], used := [(0x20, 1)] }) live : State),
      by exact ⟨by decide +kernel, (by intro q y h; cases h), (by intro k y h; cases h), rfl, (by intro e he y w h hd; interval_cases e <;> first | rfl | cases h),
      by decide +kernel, by decide +kernel, by decide +kernel, by decide +kernel⟩⟩,
   ⟨({ live with evt := { live.evt with fabric := [(5, 3)] } } : State), by decide +kernel⟩,
   ⟨(5 : Nat), ({ live with evt := { live.evt with fabric := [(5, 3)] } } : State), by decide +kernel⟩,
   ⟨(0 : Nat), ({ live with evt := { live.evt with fabric := [(5, 3)] } } : State), by decide +kernel⟩,
   ⟨(1 : Nat), (1440000000900 : Nat), (900 : Nat), (evtOf (fun x => { x with ceLast := [(1, 900)] }) live : State), by decide +kernel⟩,
   ⟨(1 : Nat), (1000001 : Nat), (900 : Nat), ({ live with evt := { live.evt with ceLast := [(1, 900)] } } : State), by decide +kernel⟩,
   ⟨(inSt .flush : State), by decide +kernel⟩,
   ⟨(.legal : DramRegion), ({ live with evt := { live.evt with fabric := [(5, 3)] } } : State), by decide +kernel⟩,
   ⟨(Option.get (({ live with evt := { live.evt with fabric := [(5, 3)] } } : State).sys.image) (by decide +kernel) : Image), ({ live with evt := { live.evt with fabric := [(5, 3)] } } : State),
      by decide +kernel⟩,
   ⟨({ live with evt := { live.evt with fabric := [(5, 3)] } } : State), by decide +kernel⟩,
   ⟨(.warpParam : DramRegion), ({ live with evt := { live.evt with fabric := [(5, 3)] } } : State), by decide +kernel⟩,
   ⟨(0 : Nat), ({ period := 2, parent := none, mfirst := 0, sfirst := 0, oe := 0, base := 1, k := 100, h := 1000, bias := 0, gross := 5000, qFloor := 10, clearN := 3, members := [{ out := false, dirCheck := true, ch := 0 }, { out := true, dirCheck := true, ch := 4 }], segs := [] } : BalNode), ({ live with evt := { live.evt with fabric := [(5, 3)] } } : State),
      by decide +kernel⟩,
   ⟨({ live with evt := { live.evt with fabric := [(5, 3)] } } : State), by decide +kernel⟩,
   ⟨(0 : Nat), (nandOf (fun x => { x with keyCopy := [(0, ⟨8, 65536, 0, 1, 1, true, false, true⟩)] }) live : State), by decide +kernel⟩,
   ⟨({ live with evt := { live.evt with fabric := [(5, 3)] } } : State), by decide +kernel⟩,
   ⟨({ live with evt := { live.evt with fabric := [(5, 3)] } } : State), by decide +kernel⟩,
   ⟨(5 : Nat), ({ live with evt := { live.evt with fabric := [(5, 3)] } } : State), by decide +kernel⟩,
   ⟨({ live with evt := { live.evt with fabric := [(5, 3)] } } : State), by decide +kernel⟩,
   ⟨(.slot 0 0 : Requester), ({ live with evt := { live.evt with fabric := [(5, 3)] } } : State), by unfold Permits; decide +kernel⟩,
   ⟨(.slot 0 0 : Requester), ({ live with evt := { live.evt with fabric := [(5, 3)] } } : State), by unfold Permits; decide +kernel⟩⟩

/-- States and operands that meet the hypotheses of each clause of PairLink. -/
theorem test_wit_PairLink :
    (∃ (s : State),
      s.pairLive = true ∧ s.par.lane0 = true) ∧
    (∃ (s : State),
      s.pairLive = true ∧ s.par.lane1 = true) ∧
    (∃ (s : State),
      (s.pairLive = false ∨ s.pairUp = false)) ∧
    (∃ (x : PairRx) (h : HeartBeat) (s : State),
      Hears s x ∧ s.sys.st = .active ∧ h.role ≠ 1) ∧
    (∃ (x : PairRx) (s : State),
      Hears s x ∧ s.sys.st = .start) ∧
    (∃ (x : PairRx) (s : State),
      Hears s x ∧ s.sys.st = .standby) ∧
    (∃ (x : PairRx) (h : HeartBeat) (s : State),
      Hears s x ∧ s.sys.st = .active ∧ h.role = 1 ∧ s.par.claim < h.claim) ∧
    (∃ (x : PairRx) (h : HeartBeat) (s : State),
      Hears s x ∧ s.sys.st = .active ∧ h.role = 1 ∧ h.claim ≤ s.par.claim ∧ s.active Ev.PAIR_SPLIT = false ∧ s.evt.active.length < 255) ∧
    (∃ (x : PairRx) (s : State),
      (s.pairLive = false ∨ s.laneLock x.lane = false)) ∧
    (∃ (x : PairRx) (s : State),
      (s.pairLive = false ∨ s.laneLock x.lane = false)) ∧
    (∃ (x : PairRx) (s : State),
      (s.pairLive = false ∨ s.laneLock x.lane = false)) ∧
    (∃ (x : PairRx) (s : State),
      (s.pairLive = false ∨ s.laneLock x.lane = false)) ∧
    (∃ (x : PairRx) (s : State),
      (s.pairLive = false ∨ s.laneLock x.lane = false)) ∧
    (∃ (x : PairRx) (s : State),
      (s.pairLive = false ∨ s.laneLock x.lane = false)) ∧
    (∃ (x : PairRx) (s : State),
      (s.pairLive = false ∨ s.laneLock x.lane = false)) ∧
    (∃ (x : PairRx) (s : State),
      (s.pairLive = false ∨ s.laneLock x.lane = false)) ∧
    (∃ (x : PairRx) (s : State),
      (s.pairLive = false ∨ s.laneLock x.lane = false)) ∧
    (∃ (x : PairRx) (s : State),
      (s.pairLive = false ∨ s.laneLock x.lane = false)) ∧
    (∃ (x : PairRx) (s : State),
      (s.pairLive = false ∨ s.laneLock x.lane = false)) ∧
    (∃ (x : PairRx) (s : State),
      s.pairLive = true ∧ s.laneLock x.lane = true ∧ (x.crcOk = false ∨ (x.sealed_ = true ∧ x.tagOk = false))) ∧
    (∃ (x : PairRx) (s : State),
      s.pairLive = true ∧ s.laneLock x.lane = true ∧ (x.crcOk = false ∨ (x.sealed_ = true ∧ x.tagOk = false))) ∧
    (∃ (x : PairRx) (s : State),
      s.pairLive = true ∧ s.laneLock x.lane = true ∧ (x.crcOk = false ∨ (x.sealed_ = true ∧ x.tagOk = false))) ∧
    (∃ (x : PairRx) (s : State),
      s.pairLive = true ∧ s.laneLock x.lane = true ∧ (x.crcOk = false ∨ (x.sealed_ = true ∧ x.tagOk = false))) ∧
    (∃ (x : PairRx) (s : State),
      s.pairLive = true ∧ s.laneLock x.lane = true ∧ (x.crcOk = false ∨ (x.sealed_ = true ∧ x.tagOk = false))) ∧
    (∃ (x : PairRx) (s : State),
      s.pairLive = true ∧ s.laneLock x.lane = true ∧ (x.crcOk = false ∨ (x.sealed_ = true ∧ x.tagOk = false))) ∧
    (∃ (x : PairRx) (s : State),
      s.pairLive = true ∧ s.laneLock x.lane = true ∧ (x.crcOk = false ∨ (x.sealed_ = true ∧ x.tagOk = false))) ∧
    (∃ (x : PairRx) (s : State),
      s.pairLive = true ∧ s.laneLock x.lane = true ∧ (x.crcOk = false ∨ (x.sealed_ = true ∧ x.tagOk = false))) ∧
    (∃ (x : PairRx) (s : State),
      s.pairLive = true ∧ s.laneLock x.lane = true ∧ (x.crcOk = false ∨ (x.sealed_ = true ∧ x.tagOk = false))) ∧
    (∃ (x : PairRx) (s : State),
      s.pairLive = true ∧ s.laneLock x.lane = true ∧ (x.crcOk = false ∨ (x.sealed_ = true ∧ x.tagOk = false))) ∧
    (∃ (x : PairRx) (s : State),
      s.pairLive = true ∧ s.laneLock x.lane = true ∧ (x.crcOk = false ∨ (x.sealed_ = true ∧ x.tagOk = false))) ∧
    (∃ (x : PairRx) (s : State),
      Hears s x ∧ x.fseq ≠ s.par.fack + 1) ∧
    (∃ (x : PairRx) (s : State),
      Hears s x ∧ x.fseq ≠ s.par.fack + 1) ∧
    (∃ (x : PairRx) (s : State),
      Hears s x ∧ x.fseq ≠ s.par.fack + 1) ∧
    (∃ (x : PairRx) (s : State),
      Hears s x ∧ x.fseq ≠ s.par.fack + 1) ∧
    (∃ (x : PairRx) (s : State),
      Hears s x ∧ x.fseq ≠ s.par.fack + 1) ∧
    (∃ (x : PairRx) (s : State),
      Hears s x ∧ x.fseq ≠ s.par.fack + 1) ∧
    (∃ (x : PairRx) (s : State),
      Hears s x ∧ x.fseq ≠ s.par.fack + 1) ∧
    (∃ (x : PairRx) (s : State),
      Hears s x ∧ x.fseq ≠ s.par.fack + 1) ∧
    (∃ (n : Nat) (s : State),
      s.pairLive = true ∧ s.sys.st = .active ∧ s.par.miss = 2 ∧ s.par.hbAt + msCounts 31 ≤ n) ∧
    (∃ (n : Nat) (s : State),
      s.pairLive = true ∧ s.sys.st ≠ .active ∧ s.par.miss = 2 ∧ s.par.hbAt + msCounts 31 ≤ n) ∧
    (∃ (n : Nat) (s : State),
      s.pairLive = true ∧ s.par.miss < 2 ∧ s.par.hbAt + msCounts (10 * (s.par.miss + 1) + 1) ≤ n) ∧
    (∃ (n : Nat) (s : State),
      (s.pairLive = false ∨ 3 ≤ s.par.miss ∨ max s.tim.cnt n < s.par.hbAt + msCounts (10 * (s.par.miss + 1) + 1))) ∧
    (∃ (x : PairRx) (s : State),
      Hears s x) ∧
    (∃ (x : PairRx) (e : Nat) (d : Nat) (im : Image) (s : State),
      Hears s x ∧ s.sys.image = some im ∧ (e ≠ im.peerEui ∨ d ≠ im.peerDigest)) ∧
    (∃ (s : State),
      s.pairLive = true ∧ s.pairUp = true) ∧
    (∃ (s : State),
      (s.pairLive = false ∨ s.pairUp = false)) ∧
    (∃ (l : Nat) (s : State),
      l < 2 ∧ s.pairLive = true ∧ s.laneLock l = true ∧ s.active Ev.PAIR_LANE_DOWN = false) ∧
    (∃ (l : Nat) (s : State),
      (s.pairLive = false ∨ 2 ≤ l ∨ s.laneLock l = false)) ∧
    (∃ (l : Nat) (s : State),
      l < 2 ∧ s.pairLive = true ∧ s.laneLock l = false) ∧
    (∃ (l : Nat) (s : State),
      (s.pairLive = false ∨ 2 ≤ l ∨ s.laneLock l = true)) ∧
    (∃ (r : Requester) (s : State),
      Permits s r (0x800000 + R.PAR_CTRL) ∧ s.sys.st = .standby) ∧
    (∃ (r : Requester) (s : State),
      Permits s r (0x800000 + R.PAR_CTRL) ∧ s.sys.st ≠ .standby) ∧
    (∃ (r : Requester) (s : State),
      Permits s r (0x800000 + R.PAR_CTRL) ∧ s.sys.st = .active ∧ s.par.peerSync = .live) ∧
    (∃ (r : Requester) (s : State),
      Permits s r (0x800000 + R.PAR_CTRL) ∧ s.sys.st ≠ .active) ∧
    (∃ (r : Requester) (s : State),
      Permits s r (0x800000 + R.PAR_CTRL) ∧ s.sys.st = .active ∧ s.par.peerSync ≠ .live) :=
  ⟨⟨(parOf (fun x => { x with miss := 2 }) pairA : State), by decide +kernel⟩,
   ⟨(parOf (fun x => { x with miss := 2 }) pairA : State), by decide +kernel⟩,
   ⟨live, by decide +kernel⟩,
   ⟨(⟨0, 1, 0, true, true, false, ⟨0, 1⟩⟩ : PairRx), (⟨eu + 2 ^ 20, 2, 3, 6, 0, 7, 77, eu, 1, 50, 0⟩ : HeartBeat), (parOf (fun x => { x with miss := 2 }) pairA : State),
      by unfold Hears; decide +kernel⟩,
   ⟨(⟨0, 1, 0, true, true, false, ⟨0, 1⟩⟩ : PairRx), (startP 9 : State), by unfold Hears; decide +kernel⟩,
   ⟨(⟨0, 1, 0, true, true, false, ⟨0, 1⟩⟩ : PairRx), pairS, by unfold Hears; decide +kernel⟩,
   ⟨(⟨0, 1, 0, true, true, false, ⟨0, 1⟩⟩ : PairRx), (⟨eu + 2 ^ 20, 1, 3, 6, 0x2000, 7, 77, eu, 1, 50, 0⟩ : HeartBeat), (parOf (fun x => { x with miss := 2 }) pairA : State),
      by unfold Hears; decide +kernel⟩,
   ⟨(⟨0, 1, 0, true, true, false, ⟨0, 1⟩⟩ : PairRx), (⟨eu + 2 ^ 20, 1, 0, 3, 0x104, 7, 77, eu, 1, 5, 0⟩ : HeartBeat), pairA,
      by unfold Hears; decide +kernel⟩,
   ⟨(⟨0, 1, 0, true, true, false, ⟨0, 1⟩⟩ : PairRx), live, by decide +kernel⟩,
   ⟨(⟨0, 1, 0, true, true, false, ⟨0, 1⟩⟩ : PairRx), live, by decide +kernel⟩,
   ⟨(⟨0, 1, 0, true, true, false, ⟨0, 1⟩⟩ : PairRx), live, by decide +kernel⟩,
   ⟨(⟨0, 1, 0, true, true, false, ⟨0, 1⟩⟩ : PairRx), live, by decide +kernel⟩,
   ⟨(⟨0, 1, 0, true, true, false, ⟨0, 1⟩⟩ : PairRx), live, by decide +kernel⟩,
   ⟨(⟨0, 1, 0, true, true, false, ⟨0, 1⟩⟩ : PairRx), live, by decide +kernel⟩,
   ⟨(⟨0, 1, 0, true, true, false, ⟨0, 1⟩⟩ : PairRx), live, by decide +kernel⟩,
   ⟨(⟨0, 1, 0, true, true, false, ⟨0, 1⟩⟩ : PairRx), live, by decide +kernel⟩,
   ⟨(⟨0, 1, 0, true, true, false, ⟨0, 1⟩⟩ : PairRx), live, by decide +kernel⟩,
   ⟨(⟨0, 1, 0, true, true, false, ⟨0, 1⟩⟩ : PairRx), live, by decide +kernel⟩,
   ⟨(⟨0, 1, 0, true, true, false, ⟨0, 1⟩⟩ : PairRx), live, by decide +kernel⟩,
   ⟨(⟨0, 1, 0, false, true, false, ⟨0, 1⟩⟩ : PairRx), (parOf (fun x => { x with miss := 2 }) pairA : State), by decide +kernel⟩,
   ⟨(⟨0, 1, 0, false, true, false, ⟨0, 1⟩⟩ : PairRx), (parOf (fun x => { x with miss := 2 }) pairA : State), by decide +kernel⟩,
   ⟨(⟨0, 1, 0, false, true, false, ⟨0, 1⟩⟩ : PairRx), (parOf (fun x => { x with miss := 2 }) pairA : State), by decide +kernel⟩,
   ⟨(⟨0, 1, 0, false, true, false, ⟨0, 1⟩⟩ : PairRx), (parOf (fun x => { x with miss := 2 }) pairA : State), by decide +kernel⟩,
   ⟨(⟨0, 1, 0, false, true, false, ⟨0, 1⟩⟩ : PairRx), (parOf (fun x => { x with miss := 2 }) pairA : State), by decide +kernel⟩,
   ⟨(⟨0, 1, 0, false, true, false, ⟨0, 1⟩⟩ : PairRx), (parOf (fun x => { x with miss := 2 }) pairA : State), by decide +kernel⟩,
   ⟨(⟨0, 1, 0, false, true, false, ⟨0, 1⟩⟩ : PairRx), (parOf (fun x => { x with miss := 2 }) pairA : State), by decide +kernel⟩,
   ⟨(⟨0, 1, 0, false, true, false, ⟨0, 1⟩⟩ : PairRx), (parOf (fun x => { x with miss := 2 }) pairA : State), by decide +kernel⟩,
   ⟨(⟨0, 1, 0, false, true, false, ⟨0, 1⟩⟩ : PairRx), (parOf (fun x => { x with miss := 2 }) pairA : State), by decide +kernel⟩,
   ⟨(⟨0, 1, 0, false, true, false, ⟨0, 1⟩⟩ : PairRx), (parOf (fun x => { x with miss := 2 }) pairA : State), by decide +kernel⟩,
   ⟨(⟨0, 1, 0, false, true, false, ⟨0, 1⟩⟩ : PairRx), (parOf (fun x => { x with miss := 2 }) pairA : State), by decide +kernel⟩,
   ⟨(⟨0, 5, 0, true, true, true, ⟨0, 1⟩⟩ : PairRx), pairA, by unfold Hears; decide +kernel⟩,
   ⟨(⟨0, 5, 0, true, true, true, ⟨0, 1⟩⟩ : PairRx), pairA, by unfold Hears; decide +kernel⟩,
   ⟨(⟨0, 5, 0, true, true, true, ⟨0, 1⟩⟩ : PairRx), pairA, by unfold Hears; decide +kernel⟩,
   ⟨(⟨0, 5, 0, true, true, true, ⟨0, 1⟩⟩ : PairRx), pairA, by unfold Hears; decide +kernel⟩,
   ⟨(⟨0, 5, 0, true, true, true, ⟨0, 1⟩⟩ : PairRx), pairA, by unfold Hears; decide +kernel⟩,
   ⟨(⟨0, 5, 0, true, true, true, ⟨0, 1⟩⟩ : PairRx), pairA, by unfold Hears; decide +kernel⟩,
   ⟨(⟨0, 5, 0, true, true, true, ⟨0, 1⟩⟩ : PairRx), pairA, by unfold Hears; decide +kernel⟩,
   ⟨(⟨0, 5, 0, true, true, true, ⟨0, 1⟩⟩ : PairRx), pairA, by unfold Hears; decide +kernel⟩,
   ⟨(40000000 : Nat), (parOf (fun x => { x with miss := 2 }) pairA : State), by decide +kernel⟩,
   ⟨(40000000 : Nat), (parOf (fun x => { x with miss := 2 }) pairS : State), by decide +kernel⟩,
   ⟨(40000000 : Nat), (parOf (fun x => { x with lane1 := false }) pairA : State), by decide +kernel⟩,
   ⟨(0 : Nat), (parOf (fun x => { x with miss := 2 }) pairA : State), by decide +kernel⟩,
   ⟨(⟨0, 1, 0, true, true, false, ⟨0, 1⟩⟩ : PairRx), (parOf (fun x => { x with miss := 2 }) pairA : State),
      by unfold Hears; decide +kernel⟩,
   ⟨(⟨0, 1, 0, true, true, false, ⟨0, 1⟩⟩ : PairRx), (0 : Nat), (0 : Nat), (Option.get ((parOf (fun x => { x with miss := 2 }) pairA : State).sys.image) (by decide +kernel) : Image), (parOf (fun x => { x with miss := 2 }) pairA : State),
      by unfold Hears; decide +kernel⟩,
   ⟨(parOf (fun x => { x with miss := 2 }) pairA : State), by decide +kernel⟩,
   ⟨live, by decide +kernel⟩,
   ⟨(1 : Nat), (parOf (fun x => { x with miss := 2 }) pairA : State), by decide +kernel⟩,
   ⟨(2 : Nat), (parOf (fun x => { x with miss := 2 }) pairA : State), by decide +kernel⟩,
   ⟨(1 : Nat), (parOf (fun x => { x with lane1 := false }) pairA : State), by decide +kernel⟩,
   ⟨(1 : Nat), (parOf (fun x => { x with miss := 2 }) pairA : State), by decide +kernel⟩,
   ⟨(.slot 0 0 : Requester), pairS, by unfold Permits; decide +kernel⟩,
   ⟨(.slot 0 0 : Requester), (parOf (fun x => { x with miss := 2 }) pairA : State), by unfold Permits; decide +kernel⟩,
   ⟨(.slot 0 0 : Requester), (parOf (fun x => { x with miss := 2 }) pairA : State), by unfold Permits; decide +kernel⟩,
   ⟨(.slot 0 0 : Requester), pairS, by unfold Permits; decide +kernel⟩,
   ⟨(.slot 0 0 : Requester), live, by unfold Permits; decide +kernel⟩⟩

/-- States and operands that meet the hypotheses of each clause of ClaimsAndMirroring. -/
theorem test_wit_ClaimsAndMirroring :
    (∃ (s : State),
      s.inRounds = false) ∧
    (∃ (s : State),
      s.sys.pairEn = true ∧ s.sys.st = .start ∧ s.sys.phase = 10 ∧ s.par.claim ≠ 0 ∧ 1 ≤ s.par.won) ∧
    (∃ (s : State),
      s.sys.pairEn = true ∧ s.sys.st = .start ∧ s.sys.phase = 10 ∧ s.par.claim ≠ 0 ∧ s.par.won = 0) ∧
    (∃ (w : Nat) (s : State),
      s.sys.pairEn = true ∧ s.sys.st = .start ∧ 10 ≤ s.sys.phase ∧ s.par.claim ≠ 0 ∧ w ≠ s.par.claim) ∧
    (∃ (s : State),
      s.sys.pairEn = true ∧ s.sys.st = .standby ∧ s.par.claim = 0 ∧ s.par.heard = true ∧ s.par.relinquished = true ∧ s.clk.irc = false) ∧
    (∃ (s : State),
      s.sys.pairEn = true ∧ s.sys.st = .standby ∧ s.par.claim ≠ 0 ∧ 1 ≤ s.par.won) ∧
    (∃ (w : Nat) (s : State),
      s.sys.pairEn = true ∧ s.sys.st = .standby ∧ s.par.claim ≠ 0 ∧ w ≠ s.par.claim ∧ s.par.heard = true ∧ s.par.relinquished = false ∧
      w ≠ 0) ∧
    (∃ (s : State),
      s.sys.pairEn = true ∧ s.sys.st = .active ∧ s.par.claim ≠ 0 ∧ 1 ≤ s.par.won) ∧
    (∃ (w : Option Nat) (l : Bool) (s : State),
      s.sys.pairEn = true ∧ s.sys.st = .active ∧ s.par.claim ≠ 0 ∧ w ≠ some s.par.claim ∧ s.par.relinquished = false ∧ s.par.heard = true ∧
      s.par.afterFault = false ∧ w ≠ some 0xFFFFFFFF ∧ l = false ∧ s.par.differ < 9) ∧
    (∃ (s : State),
      s.sys.pairEn = true ∧ s.sys.st = .standby ∧ s.par.claim = 0 ∧ s.par.heard = true ∧ s.par.relinquished = false) ∧
    (∃ (w : Nat) (s : State),
      s.sys.pairEn = true ∧ s.sys.st = .standby ∧ s.par.claim = 0 ∧ s.par.heard = true ∧ s.par.relinquished = false ∧ w ≠ 0 ∧
      w ≠ 0xFFFFFFFF) ∧
    (∃ (w : Option Nat) (l : Bool) (s : State),
      s.sys.pairEn = true ∧ s.sys.st = .standby ∧ s.par.claim = 0 ∧ (l = true ∨ w = some 0xFFFFFFFF)) ∧
    (∃ (s : State),
      s.sys.pairEn = true ∧ s.sys.st = .standby ∧ s.par.claim = 0 ∧ s.par.heard = true ∧ s.par.peerClaim = 0 ∧ s.par.busFault = true ∧
      9 ≤ s.par.clearRounds) ∧
    (∃ (x : PairRx) (s : State),
      Hears s x ∧ s.sys.st = .standby) ∧
    (∃ (x : PairRx) (s : State),
      Hears s x ∧ s.sys.st ≠ .standby) ∧
    (∃ (x : PairRx) (r : JRec) (ch : Chid) (k : Nat) (n : Nat) (g : Nat) (fl : Nat) (v : Nat) (f : Nat) (w : List Part') (m : List (Nat × MaxDem)) (s : State),
      Delivers s x ∧ s.sys.st = .standby ∧ s.par.sync = .live ∧ s.par.mjseq < r.jseq ∧ r.post = [] ∧ x.part = .whole ∧
      r.body = .reading ch k n g fl v f w m ∧ ((s.lch ch).hasBase = true → (s.lch ch).lastIdx < k)) ∧
    (∃ (x : PairRx) (r : JRec) (ch : Chid) (k : Nat) (n : Nat) (g : Nat) (fl : Nat) (v : Nat) (f : Nat) (w : List Part') (m : List (Nat × MaxDem)) (s : State),
      Delivers s x ∧ s.sys.st = .standby ∧ s.par.sync = .live ∧ s.par.mjseq < r.jseq ∧ s.ownHeld = false ∧ x.part = .whole ∧
      r.body = .reading ch k n g fl v f w m ∧ (s.lch ch).hasBase = true ∧ k ≤ (s.lch ch).lastIdx ∧ s.active Ev.PAIR_DIVERGED = false) ∧
    (∃ (x : PairRx) (r : JRec) (s : State),
      Delivers s x ∧ s.sys.st = .standby ∧ s.par.sync = .live ∧ r.jseq ≤ s.par.mjseq) ∧
    (∃ (x : PairRx) (s : State),
      Delivers s x ∧ s.sys.st = .standby ∧ (s.par.sync = .keys ∨ s.par.sync = .bulk) ∧ x.part = .whole) ∧
    (∃ (x : PairRx) (s : State),
      Delivers s x ∧ x.part.no + 1 < x.part.of_) ∧
    (∃ (x : PairRx) (s : State),
      Delivers s x ∧ (s.sys.st ≠ .standby ∨ s.par.sync = .none_ ∨ s.par.sync = .held)) ∧
    (∃ (x : PairRx) (s : State),
      Delivers s x ∧ s.sys.st = .standby ∧ s.par.sync ≠ .none_) ∧
    (∃ (x : PairRx) (s : State),
      Delivers s x ∧ (s.sys.st ≠ .standby ∨ s.par.sync = .none_)) ∧
    (∃ (x : PairRx) (s : State),
      Delivers s x ∧ s.sys.st = .standby ∧ s.sysWrites = true ∧ x.part = .whole) ∧
    (∃ (x : PairRx) (s : State),
      Delivers s x ∧ x.part.no + 1 < x.part.of_) ∧
    (∃ (x : PairRx) (s : State),
      Delivers s x ∧ (s.sys.st ≠ .standby ∨ s.sysWrites = false)) ∧
    (∃ (x : PairRx) (k : Pkwk) (s : State),
      Delivers s x ∧ s.sys.st = .active ∧ s.par.mismatch = false ∧ s.key.trngOk = true ∧ s.key.pkwk = some k) ∧
    (∃ (x : PairRx) (s : State),
      Delivers s x ∧ s.sys.st = .active ∧ s.par.mismatch = false) ∧
    (∃ (x : PairRx) (s : State),
      Delivers s x ∧ (s.sys.st ≠ .active ∨ s.par.mismatch = true)) ∧
    (∃ (x : PairRx) (s : State),
      Delivers s x ∧ s.sys.st = .standby ∧ s.ownHeld = false) ∧
    (∃ (x : PairRx) (s : State),
      Delivers s x ∧ s.sys.st = .standby ∧ s.ownHeld = false) ∧
    (∃ (x : PairRx) (s : State),
      Delivers s x ∧ (s.sys.st ≠ .standby ∨ s.ownHeld = true)) ∧
    (∃ (x : PairRx) (s : State),
      Delivers s x ∧ s.sys.st = .standby ∧ (s.par.sync = .keys ∨ s.par.sync = .bulk)) ∧
    (∃ (x : PairRx) (s : State),
      Delivers s x ∧ (s.sys.st ≠ .standby ∨ (s.par.sync ≠ .keys ∧ s.par.sync ≠ .bulk))) ∧
    (∃ (x : PairRx) (s : State),
      Delivers s x ∧ s.sys.st = .standby ∧ s.par.sync = .bulk ∧ s.par.staged.length = 1024 ∧ nbit s.slv.causes 4 = false ∧
      nbit s.slv.causes 5 = false) ∧
    (∃ (x : PairRx) (s : State),
      Delivers s x ∧ (s.sys.st ≠ .standby ∨ s.par.sync ≠ .bulk ∨ s.par.staged.length ≠ 1024)) ∧
    (∃ (x : PairRx) (s : State),
      Delivers s x ∧ s.sys.st = .active) ∧
    (∃ (x : PairRx) (s : State),
      Delivers s x ∧ s.sys.st ≠ .active) :=
  ⟨⟨live, by decide +kernel⟩,
   ⟨(parOf (fun x => { x with won := 1 }) (startP 10) : State), by decide +kernel⟩,
   ⟨(parOf (fun x => { x with won := 0 }) (startP 10) : State), by decide +kernel⟩,
   ⟨(0 : Nat), (parOf (fun x => { x with won := 1 }) (startP 10) : State), by decide +kernel⟩,
   ⟨(parOf (fun x => { x with relinquished := true }) pairS : State), by decide +kernel⟩,
   ⟨(parOf (fun x => { x with claim := 0x105, won := 1 }) pairS : State), by decide +kernel⟩,
   ⟨(5 : Nat), (parOf (fun x => { x with claim := 0x105, won := 1 }) pairS : State), by decide +kernel⟩,
   ⟨pairA, by decide +kernel⟩,
   ⟨none, (false : Bool), pairA, by decide +kernel⟩,
   ⟨pairS, by decide +kernel⟩,
   ⟨(1 : Nat), pairS, by decide +kernel⟩,
   ⟨none, true, (parOf (fun x => { x with relinquished := true }) pairS : State), by decide +kernel⟩,
   ⟨(parOf (fun x => { x with busFault := true, clearRounds := 9, peerClaim := 0 }) pairS : State), by decide +kernel⟩,
   ⟨(⟨0, 1, 0, true, true, false, ⟨0, 1⟩⟩ : PairRx), (parOf (fun x => { x with relinquished := true }) pairS : State),
      by unfold Hears; decide +kernel⟩,
   ⟨(⟨0, 1, 0, true, true, false, ⟨0, 1⟩⟩ : PairRx), (parOf (fun x => { x with won := 1 }) (startP 10) : State),
      by unfold Hears; decide +kernel⟩,
   ⟨(⟨0, 1, 0, true, true, false, ⟨0, 1⟩⟩ : PairRx), (⟨51, 0, 0, false, false, false, .reading 0 5 0 0 0 0 0 [] [], []⟩ : JRec), (0 : Chid), (5 : Nat), (0 : Nat), (0 : Nat), (0 : Nat), (0 : Nat), (0 : Nat), ([] : List Part'), ([] : List (Nat × MaxDem)), (parOf (fun x => { x with relinquished := true }) pairS : State),
      by unfold Delivers Hears; decide +kernel⟩,
   ⟨(⟨0, 1, 0, true, true, true, ⟨0, 1⟩⟩ : PairRx), (⟨51, 0, 0, false, false, false, .reading 0 3 0 0 0 0 0 [] [], []⟩ : JRec), (0 : Chid), (3 : Nat), (0 : Nat), (0 : Nat), (0 : Nat), (0 : Nat), (0 : Nat), ([] : List Part'), ([] : List (Nat × MaxDem)), (lchOf 0 (fun c => { c with hasBase := true, lastIdx := 5 }) pairS : State),
      by unfold Delivers Hears; decide +kernel⟩,
   ⟨(⟨0, 1, 0, true, true, false, ⟨0, 1⟩⟩ : PairRx), (⟨50, 0, 0, false, false, false, .reading 0 5 0 0 0 0 0 [] [], []⟩ : JRec), (parOf (fun x => { x with relinquished := true }) pairS : State),
      by unfold Delivers Hears; decide +kernel⟩,
   ⟨(⟨0, 1, 0, true, true, false, ⟨0, 1⟩⟩ : PairRx), (parOf (fun x => { x with sync := .bulk }) pairS : State),
      by unfold Delivers Hears; decide +kernel⟩,
   ⟨(⟨0, 1, 0, true, true, false, ⟨0, 2⟩⟩ : PairRx), (parOf (fun x => { x with relinquished := true }) pairS : State),
      by unfold Delivers Hears; decide +kernel⟩,
   ⟨(⟨0, 1, 0, true, true, false, ⟨0, 1⟩⟩ : PairRx), (parOf (fun x => { x with won := 1 }) (startP 10) : State),
      by unfold Delivers Hears; decide +kernel⟩,
   ⟨(⟨0, 1, 0, true, true, false, ⟨0, 1⟩⟩ : PairRx), (parOf (fun x => { x with relinquished := true }) pairS : State),
      by unfold Delivers Hears; decide +kernel⟩,
   ⟨(⟨0, 1, 0, true, true, false, ⟨0, 1⟩⟩ : PairRx), (parOf (fun x => { x with won := 1 }) (startP 10) : State),
      by unfold Delivers Hears; decide +kernel⟩,
   ⟨(⟨0, 1, 0, true, true, false, ⟨0, 1⟩⟩ : PairRx), (parOf (fun x => { x with relinquished := true }) pairS : State),
      by unfold Delivers Hears; decide +kernel⟩,
   ⟨(⟨0, 1, 0, true, true, false, ⟨0, 2⟩⟩ : PairRx), (parOf (fun x => { x with relinquished := true }) pairS : State),
      by unfold Delivers Hears; decide +kernel⟩,
   ⟨(⟨0, 1, 0, true, true, false, ⟨0, 1⟩⟩ : PairRx), (parOf (fun x => { x with won := 1 }) (startP 10) : State),
      by unfold Delivers Hears; decide +kernel⟩,
   ⟨(⟨0, 1, 0, true, true, false, ⟨0, 1⟩⟩ : PairRx), (Option.get (pairA.key.pkwk) (by decide +kernel) : Pkwk), pairA,
      by unfold Delivers Hears; decide +kernel⟩,
   ⟨(⟨0, 1, 0, true, true, false, ⟨0, 1⟩⟩ : PairRx), pairA, by unfold Delivers Hears; decide +kernel⟩,
   ⟨(⟨0, 1, 0, true, true, false, ⟨0, 1⟩⟩ : PairRx), (parOf (fun x => { x with won := 1 }) (startP 10) : State),
      by unfold Delivers Hears; decide +kernel⟩,
   ⟨(⟨0, 1, 0, true, true, false, ⟨0, 1⟩⟩ : PairRx), (parOf (fun x => { x with relinquished := true }) pairS : State),
      by unfold Delivers Hears; decide +kernel⟩,
   ⟨(⟨0, 1, 0, true, true, false, ⟨0, 1⟩⟩ : PairRx), (parOf (fun x => { x with relinquished := true }) pairS : State),
      by unfold Delivers Hears; decide +kernel⟩,
   ⟨(⟨0, 1, 0, true, true, false, ⟨0, 1⟩⟩ : PairRx), (parOf (fun x => { x with won := 1 }) (startP 10) : State),
      by unfold Delivers Hears; decide +kernel⟩,
   ⟨(⟨0, 1, 0, true, true, false, ⟨0, 1⟩⟩ : PairRx), (parOf (fun x => { x with sync := .bulk }) pairS : State),
      by unfold Delivers Hears; decide +kernel⟩,
   ⟨(⟨0, 1, 0, true, true, false, ⟨0, 1⟩⟩ : PairRx), (parOf (fun x => { x with won := 1 }) (startP 10) : State),
      by unfold Delivers Hears; decide +kernel⟩,
   ⟨(⟨0, 1, 0, true, true, false, ⟨0, 1⟩⟩ : PairRx), (parOf (fun x => { x with sync := .bulk, staged := List.replicate 1024 (0, ⟨[], none, 0⟩) }) pairS : State),
      by unfold Delivers Hears; decide +kernel⟩,
   ⟨(⟨0, 1, 0, true, true, false, ⟨0, 1⟩⟩ : PairRx), (parOf (fun x => { x with won := 1 }) (startP 10) : State),
      by unfold Delivers Hears; decide +kernel⟩,
   ⟨(⟨0, 1, 0, true, true, false, ⟨0, 1⟩⟩ : PairRx), pairA, by unfold Delivers Hears; decide +kernel⟩,
   ⟨(⟨0, 1, 0, true, true, false, ⟨0, 1⟩⟩ : PairRx), (parOf (fun x => { x with won := 1 }) (startP 10) : State),
      by unfold Delivers Hears; decide +kernel⟩⟩

/-- States and operands that meet the hypotheses of each clause of RegisterWrites. -/
theorem test_wit_RegisterWrites :
    (∃ (r : Requester) (a : Nat) (b : Nat) (st : Status) (s : State),
      accessCheck s r true a b = some st ∧ st ≠ .ok ∧ (∀ c, r ≠ .core c)) ∧
    (∃ (c : Nat) (a : Nat) (b : Nat) (st : Status) (s : State),
      accessCheck s (.core c) true a b = some st ∧ st ≠ .ok) ∧
    (∃ (r : Requester) (a : Nat) (b : Nat) (s : State),
      accessCheck s r true a b = none) ∧
    (∃ (r : Requester) (a : Nat) (s : State),
      Permits s r a ∧ PlainReg (sView a)) ∧
    (∃ (i : Nat),
      i < 32) ∧
    (∃ (r : Requester) (a : Nat) (d : RegDesc) (s : State),
      Permits s r a ∧ findReg (sView a) = some d ∧ 0 < d.pos ∧ blockOf a ≠ 0x11) ∧
    (∃ (r : Requester) (b : Nat) (s : State),
      Permits s r (0x800000 + b) ∧ (b = R.WRP_CMD_TOT_0 ∨ b = R.WRP_CMD_TOTR_0)) :=
  ⟨⟨(.slot 0 0 : Requester), (0x800000 + R.TIM_A_LIM : Nat), (R.WRP_CMD_TOT_0 : Nat), (Option.get (accessCheck live (.slot 0 0 : Requester) true (0x800000 + R.TIM_A_LIM : Nat) (R.WRP_CMD_TOT_0 : Nat)) (by decide +kernel) : Status), live,
      by exact ⟨by decide +kernel, by decide +kernel, by intro c h; cases h⟩⟩,
   ⟨(0 : Nat), (0x800000 + R.TIM_A_LIM : Nat), (R.WRP_CMD_TOT_0 : Nat), (Option.get (accessCheck live (.core (0 : Nat)) true (0x800000 + R.TIM_A_LIM : Nat) (R.WRP_CMD_TOT_0 : Nat)) (by decide +kernel) : Status), live,
      by decide +kernel⟩,
   ⟨(.uart : Requester), (0x800000 + R.TIM_A_LIM : Nat), (R.WRP_CMD_TOT_0 : Nat), live, by decide +kernel⟩,
   ⟨(.slot 0 0 : Requester), (0x800000 + R.TIM_A_LIM : Nat), live, by exact ⟨by unfold Permits; decide +kernel, .inl (by decide +kernel)⟩⟩,
   ⟨(0 : Nat), by decide +kernel⟩,
   ⟨(.slot 0 0 : Requester), (0x800000 + R.WRP_CMD_TOT_0 + 4 : Nat), (Option.get (findReg (sView (0x800000 + R.WRP_CMD_TOT_0 + 4 : Nat))) (by decide +kernel) : RegDesc), live,
      by unfold Permits; decide +kernel⟩,
   ⟨(.slot 0 0 : Requester), (R.WRP_CMD_TOT_0 : Nat), live, by unfold Permits; decide +kernel⟩⟩

/-- States and operands that meet the hypotheses of each clause of RegisterReads. -/
theorem test_wit_RegisterReads :
    (∃ (r : Requester) (a : Nat) (b : Nat) (st : Status) (s : State),
      accessCheck s r false a b = some st ∧ st ≠ .ok ∧ (∀ c, r ≠ .core c)) ∧
    (∃ (c : Nat) (a : Nat) (b : Nat) (st : Status) (s : State),
      accessCheck s (.core c) false a b = some st ∧ st ≠ .ok) ∧
    (∃ (r : Requester) (a : Nat) (b : Nat) (s : State),
      accessCheck s r false a b = none) ∧
    (∃ (r : Requester) (a : Nat) (d : RegDesc) (s : State),
      accessCheck s r false a 4 = some .ok ∧ findReg (sView a) = some d ∧ d.len = 1 ∧ s.cardHidden r (sView a) = false ∧
      sView a ≠ R.GLB_PINSTAT ∧ sView a ≠ R.HST_EVQ_NEXT) ∧
    (∃ (r : Requester) (a : Nat) (d : RegDesc) (s : State),
      accessCheck s r false a 4 = some .ok ∧ findReg (sView a) = some d ∧ 1 < d.len ∧ d.pos = 0 ∧ s.cardHidden r (sView a) = false) ∧
    (∃ (r : Requester) (a : Nat) (d : RegDesc) (w : Word) (s : State),
      accessCheck s r false a 4 = some .ok ∧ findReg (sView a) = some d ∧ 1 < d.len ∧ 0 < d.pos ∧ s.cardHidden r (sView a) = false ∧
      Store.get (fun _ => none) s.snap (heldKey r a) = some w) ∧
    (∃ (j : Nat) (k : Nat) (a : Nat) (s : State),
      accessCheck s (.slot j k) false a 4 = some .ok ∧ s.cardHidden (.slot j k) (sView a) = true) :=
  ⟨⟨(.slot 0 0 : Requester), (0x800000 + R.TIM_A_LIM : Nat), (0 : Nat), (Option.get (accessCheck live (.slot 0 0 : Requester) false (0x800000 + R.TIM_A_LIM : Nat) (0 : Nat)) (by decide +kernel) : Status), live,
      by exact ⟨by decide +kernel, by decide +kernel, by intro c h; cases h⟩⟩,
   ⟨(0 : Nat), (0x800000 + R.TIM_A_LIM : Nat), (0 : Nat), (Option.get (accessCheck live (.core (0 : Nat)) false (0x800000 + R.TIM_A_LIM : Nat) (0 : Nat)) (by decide +kernel) : Status), live,
      by decide +kernel⟩,
   ⟨(.uart : Requester), (0x800000 + R.TIM_A_LIM : Nat), (0 : Nat), live, by decide +kernel⟩,
   ⟨(.slot 0 0 : Requester), (0x800000 + R.TIM_A_LIM : Nat), (Option.get (findReg (sView (0x800000 + R.TIM_A_LIM : Nat))) (by decide +kernel) : RegDesc), live,
      by decide +kernel⟩,
   ⟨(.slot 0 0 : Requester), (0x800000 + R.WRP_CMD_TOT_0 : Nat), (Option.get (findReg (sView (0x800000 + R.WRP_CMD_TOT_0 : Nat))) (by decide +kernel) : RegDesc), live,
      by decide +kernel⟩,
   ⟨(.slot 0 0 : Requester), (0x800000 + R.WRP_CMD_TOT_0 + 4 : Nat), (Option.get (findReg (sView (0x800000 + R.WRP_CMD_TOT_0 + 4 : Nat))) (by decide +kernel) : RegDesc), (Option.get (Store.get (fun _ => none) ({ live with snap := [(heldKey (.slot 0 0) (0x800000 + R.WRP_CMD_TOT_0 + 4), some 7)] } : State).snap (heldKey (.slot 0 0 : Requester) (0x800000 + R.WRP_CMD_TOT_0 + 4 : Nat))) (by decide +kernel) : Word), ({ live with snap := [(heldKey (.slot 0 0) (0x800000 + R.WRP_CMD_TOT_0 + 4), some 7)] } : State),
      by decide +kernel⟩,
   ⟨(1 : Nat), (0 : Nat), (R.JQD_CARD_INFO : Nat), live, by decide +kernel⟩⟩

/-- States and operands that meet the hypotheses of each clause of RegisterRequests. -/
theorem test_wit_RegisterRequests :
    (∃ (d : Dg) (x : Session) (q : Nat) (a : Nat) (v : Word) (s : State),
      Asks s d x q [⟨true, a, v⟩] ∧ Permits s (s.requester d.part d.slot) a ∧ PlainReg (sView a)) ∧
    (∃ (d : Dg) (x : Session) (q : Nat) (a : Nat) (v : Word) (st : Status) (s : State),
      Asks s d x q [⟨true, a, v⟩] ∧ accessCheck s (s.requester d.part d.slot) true a 4 = some st ∧ st ≠ .ok) ∧
    (∃ (d : Dg) (x : Session) (q : Nat) (a : Nat) (v : Word) (p : Nat) (s : State),
      Asks s d x q [⟨true, a, v⟩, ⟨false, a, 0⟩] ∧ p < 64 ∧ sView a = R.TIM_FP_LAT_p + 4 * p ∧ Permits s (s.requester d.part d.slot) a ∧
      accessCheck s (s.requester d.part d.slot) false a 4 = some .ok) ∧
    (∃ (d : Dg) (x : Session) (q : Nat) (rs : List (Status × Word)) (s : State),
      Admits s d x ∧ x.kept.find? (fun y => y.1 = q) = some (q, .regs rs)) ∧
    (∃ (d : Dg) (x : Session) (q : Nat) (ops : List RegOp) (s : State),
      Admits s d x ∧ x.kept.find? (fun y => y.1 = q) = none ∧ (ops.length = 0 ∨ 127 < ops.length ∨ (∃ h, x.reqHigh = some h ∧ q ≤ h))) ∧
    (∃ (d : Dg) (s : State),
      Drops s d) :=
  ⟨⟨(⟨0, 0, 0, 40, 6, 100, true⟩ : Dg), ses0, (9 : Nat), (0x800000 + R.TIM_A_LIM : Nat), (77 : Word), live,
      by exact ⟨by unfold Asks Admits; simp only [← Option.mem_def]; decide +kernel,
      by unfold Permits; decide +kernel, .inl (by decide +kernel)⟩⟩,
   ⟨(⟨1, 0, 0, 42, 6, 100, true⟩ : Dg), sesS, (9 : Nat), (0x800000 + R.TIM_A_LIM : Nat), (77 : Word), (Option.get (accessCheck live (live.requester (⟨1, 0, 0, 42, 6, 100, true⟩ : Dg).part (⟨1, 0, 0, 42, 6, 100, true⟩ : Dg).slot) true (0x800000 + R.TIM_A_LIM : Nat) 4) (by decide +kernel) : Status), live,
      by unfold Asks Admits; simp only [← Option.mem_def]; decide +kernel⟩,
   ⟨(⟨0, 0, 0, 40, 6, 100, true⟩ : Dg), ses0, (9 : Nat), (0x800000 + R.TIM_FP_LAT_p + 4 : Nat), (77 : Word), (1 : Nat), live,
      by unfold Asks Admits Permits; simp only [← Option.mem_def]; decide +kernel⟩,
   ⟨(⟨0, 1, 0, 41, 6, 100, true⟩ : Dg), sesA, (2 : Nat), ([(Status.ok, 0x00000009#32)] : List (Status × Word)), live,
      by unfold Admits; decide +kernel⟩,
   ⟨(⟨0, 0, 0, 40, 6, 100, true⟩ : Dg), ses0, (9 : Nat), ([] : List RegOp), live, by unfold Admits; decide +kernel⟩,
   ⟨(⟨0, 0, 0, 40, 6, 100, false⟩ : Dg), live, by unfold Drops; decide +kernel⟩⟩

/-- States and operands that meet the hypotheses of each clause of StepRunsTheFrontCommand. -/
theorem test_wit_StepRunsTheFrontCommand :
    (∃ (c : Instr) (cs : List Instr) (s : State),
      s.pending = c :: cs) ∧
    (∃ (s : State),
      s.pending = []) :=
  ⟨⟨(List.head (({ live with pending := [.patrolScrub] } : State).pending) (by decide +kernel) : Instr), (List.tail (({ live with pending := [.patrolScrub] } : State).pending) : List Instr), ({ live with pending := [.patrolScrub] } : State),
      by decide +kernel⟩,
   ⟨live, by decide +kernel⟩⟩

/-- States and operands that meet the hypotheses of each clause of FirstRefusingCondition. -/
theorem test_wit_FirstRefusingCondition :
    (∃ (s : State) (r : Requester) (w : Bool) (a : Nat),
      stateAnswer s r w a = none) ∧
    (∃ (s : State) (r : Requester) (w : Bool) (a : Nat) (b : Nat),
      stateAnswer s r w a ≠ none ∧ (b ≠ 4 ∨ a % 4 ≠ 0)) ∧
    (∃ (s : State) (r : Requester) (w : Bool) (a : Nat),
      stateAnswer s r w a = some .notReady ∧ a % 4 = 0) ∧
    (∃ (s : State) (r : Requester) (w : Bool) (a : Nat),
      stateAnswer s r w a = some .ok ∧ a % 4 = 0 ∧ 0x800000 ≤ a ∧ privileged s r = false) ∧
    (∃ (s : State) (r : Requester) (w : Bool) (a : Nat),
      stateAnswer s r w a = some .ok ∧ a % 4 = 0 ∧ (0x800000 ≤ a → privileged s r = true) ∧ regDefined s (sView a) = false) ∧
    (∃ (s : State) (r : Requester) (w : Bool) (a : Nat) (d : RegDesc),
      stateAnswer s r w a = some .ok ∧ a % 4 = 0 ∧ a < 0x800000 ∧ regDefined s a = true ∧ findReg a = some d ∧ d.pOnly = true) ∧
    (∃ (s : State) (r : Requester) (w : Bool) (a : Nat) (d : RegDesc),
      stateAnswer s r w a = some .ok ∧ a % 4 = 0 ∧ (0x800000 ≤ a → privileged s r = true) ∧ regDefined s (sView a) = true ∧
      findReg (sView a) = some d ∧ (a < 0x800000 → d.pOnly = false) ∧ regGated s (sView a) = true) ∧
    (∃ (s : State) (r : Requester) (a : Nat) (d : RegDesc),
      stateAnswer s r true a = some .ok ∧ a % 4 = 0 ∧ (0x800000 ≤ a → privileged s r = true) ∧ regDefined s (sView a) = true ∧
      findReg (sView a) = some d ∧ (a < 0x800000 → d.pOnly = false) ∧ regGated s (sView a) = false ∧ writeMask a = 0) ∧
    (∃ (s : State) (r : Requester) (a : Nat),
      accessCheck s r true a 4 = some .ok) :=
  ⟨⟨live, (.uart : Requester), false, (R.CKV_ISL_EN : Nat), by decide +kernel⟩,
   ⟨live, (.slot 1 0 : Requester), false, (R.CKV_ISL_EN : Nat), (0 : Nat), by decide +kernel⟩,
   ⟨(State.reset : State), (.uart : Requester), false, (R.CKV_ISL_EN : Nat), by decide +kernel⟩,
   ⟨live, (.slot 1 0 : Requester), false, (0x800000 + R.WRP_CMD : Nat), by decide +kernel⟩,
   ⟨live, (.slot 1 0 : Requester), false, (0 : Nat), by decide +kernel⟩,
   ⟨live, (.slot 1 0 : Requester), false, (R.WRP_CMD : Nat), (Option.get (findReg (R.WRP_CMD : Nat)) (by decide +kernel) : RegDesc),
      by decide +kernel⟩,
   ⟨(islOf 16 (fun x => { x with en := false }) live : State), (.slot 0 0 : Requester), false, (0x800000 + R.WRP_CMD : Nat), (Option.get (findReg (sView (0x800000 + R.WRP_CMD : Nat))) (by decide +kernel) : RegDesc),
      by decide +kernel⟩,
   ⟨live, (.slot 1 0 : Requester), (R.CKV_ISL_EN : Nat), (Option.get (findReg (sView (R.CKV_ISL_EN : Nat))) (by decide +kernel) : RegDesc), by decide +kernel⟩,
   ⟨live, (.slot 0 0 : Requester), (0x800000 + R.WRP_CMD : Nat), by decide +kernel⟩⟩

/-- States and operands that meet the hypotheses of each clause of RefusedReadHasNoEffect. -/
theorem test_wit_RefusedReadHasNoEffect :
    (∃ (r : Requester) (a : Nat) (b : Nat) (s : State) (x : State) (st : Status) (v : Word),
      s.tryRead r a b = (x, some st, v) ∧ st ≠ .ok) ∧
    (∃ (r : Requester) (a : Nat) (b : Nat) (s : State) (x : State) (st : Status) (v : Word),
      s.tryRead r a b = (x, some st, v) ∧ st ≠ .ok) ∧
    (∃ (o : RegOp) (r : Requester) (s : State) (x : State) (st : Status) (v : Word),
      o.write = false ∧ s.regOp r o = (x, st, v) ∧ st ≠ .ok) :=
  ⟨⟨(.slot 0 0 : Requester), (0 : Nat), (0 : Nat), live, ((live.tryRead (.slot 0 0 : Requester) (0 : Nat) (0 : Nat)).1 : State), (((live.tryRead (.slot 0 0 : Requester) (0 : Nat) (0 : Nat)).2.1.getD .align) : Status), ((live.tryRead (.slot 0 0 : Requester) (0 : Nat) (0 : Nat)).2.2 : Word),
      by exact ⟨rfl, by decide +kernel⟩⟩,
   ⟨(.slot 0 0 : Requester), (0 : Nat), (0 : Nat), live, ((live.tryRead (.slot 0 0 : Requester) (0 : Nat) (0 : Nat)).1 : State), (((live.tryRead (.slot 0 0 : Requester) (0 : Nat) (0 : Nat)).2.1.getD .align) : Status), ((live.tryRead (.slot 0 0 : Requester) (0 : Nat) (0 : Nat)).2.2 : Word),
      by exact ⟨rfl, by decide +kernel⟩⟩,
   ⟨(⟨false, 1, 0⟩ : RegOp), (.slot 0 0 : Requester), live, ((live.regOp (.slot 0 0 : Requester) (⟨false, 1, 0⟩ : RegOp)).1 : State), ((live.regOp (.slot 0 0 : Requester) (⟨false, 1, 0⟩ : RegOp)).2.1 : Status), ((live.regOp (.slot 0 0 : Requester) (⟨false, 1, 0⟩ : RegOp)).2.2 : Word),
      by exact ⟨by decide +kernel, rfl, by decide +kernel⟩⟩⟩

/-- States and operands that meet the hypotheses of each clause of SharedViewHidesPrivilegedRegisters. -/
theorem test_wit_SharedViewHidesPrivilegedRegisters :
    ∃ (r : Requester) (a : Nat) (d : RegDesc) (s : State),
      stateAnswer s r false a = some .ok ∧ a % 4 = 0 ∧ a < 0x800000 ∧ regDefined s a = true ∧ findReg a = some d ∧ d.pOnly = true ∧
      (∀ c, r ≠ .core c) :=
  ⟨(.slot 1 0 : Requester), (R.WRP_CMD : Nat), (Option.get (findReg (R.WRP_CMD : Nat)) (by decide +kernel) : RegDesc), live,
      by exact ⟨by decide +kernel, by decide +kernel, by decide +kernel, by decide +kernel, by decide +kernel, by decide +kernel,
      by intro c h; cases h⟩⟩

/-- States and operands that meet the hypotheses of each clause of AccessesAreAlignedWords. -/
theorem test_wit_AccessesAreAlignedWords :
    (∃ (r : Requester) (a : Nat) (b : Nat) (s : State),
      stateAnswer s r true a ≠ none ∧ (b ≠ 4 ∨ a % 4 ≠ 0)) ∧
    (∃ (r : Requester) (a : Nat) (b : Nat) (s : State),
      stateAnswer s r false a ≠ none ∧ (b ≠ 4 ∨ a % 4 ≠ 0)) ∧
    (∃ (o : RegOp) (r : Requester) (s : State),
      stateAnswer s r o.write o.addr ≠ none ∧ o.addr % 4 ≠ 0) :=
  ⟨⟨(.slot 0 0 : Requester), (0 : Nat), (0 : Nat), live, by decide +kernel⟩,
   ⟨(.slot 0 0 : Requester), (0 : Nat), (0 : Nat), live, by decide +kernel⟩,
   ⟨(⟨false, 0x000001, 0⟩ : RegOp), (.slot 0 0 : Requester), live, by decide +kernel⟩⟩

/-- States and operands that meet the hypotheses of each clause of TwoViewsOfOneRegister. -/
theorem test_wit_TwoViewsOfOneRegister :
    (∃ (a : Nat),
      a < 0x800000) ∧
    (∃ (a : Nat) (d : RegDesc),
      findReg (sView a) = some d) ∧
    (∃ (r : Requester) (a : Nat) (s : State),
      a < 0x800000 ∧ accessCheck s r false a 4 = some .ok ∧ accessCheck s r false (a + 0x800000) 4 = some .ok) :=
  ⟨⟨(R.WRP_CMD_STAT : Nat), by decide +kernel⟩,
   ⟨(0x800000 + R.TIM_A_LIM : Nat), (Option.get (findReg (sView (0x800000 + R.TIM_A_LIM : Nat))) (by decide +kernel) : RegDesc),
      by decide +kernel⟩,
   ⟨(.slot 0 0 : Requester), (R.BEM_STAT : Nat), live, by decide +kernel⟩⟩

/-- States and operands that meet the hypotheses of each clause of GuardedRegions. -/
theorem test_wit_GuardedRegions :
    (∃ (g : Guarded) (w : Initiator),
      g.mine w = true) ∧
    (∃ (g : Guarded) (w : Initiator),
      g.mine w = false) ∧
    (∃ (g : Guarded) (w : Initiator) (s : State),
      g.mine w = false ∧ g.legal = true ∧ s.evt.active = []) ∧
    (∃ (g : Guarded) (w : Initiator) (c : Nat),
      g.mine w = false ∧ g.legal = false ∧ g.counter = some c) ∧
    (∃ (g : Guarded) (i : Nat),
      g.legal = true ∧ i ≠ 17) ∧
    (∃ (i : Nat),
      i ≠ 20) ∧
    (∃ (g : Guarded),
      g.shut = true) ∧
    (∃ (g : Guarded),
      g.shut = false) ∧
    (∃ (c : Nat) (a : Nat) (v : Nat) (s : State),
      s.sys.placed = false ∧ (s.coreMem c).wbuf = [(a, v)]) ∧
    (∃ (c : Nat) (a : Nat) (v : Nat) (s : State),
      (s.coreMem c).wbuf = [(a, v)]) ∧
    (∃ (c : Nat) (a : Nat) (d : Nat) (s : State),
      ((s.coreMem c).dcache) = [] ∧ (s.coreMem c).wbuf = [] ∧ s.dramRead (.core c) a = some d) ∧
    (∃ (c : Nat) (a : Nat) (v : Nat) (d : Nat) (s : State),
      newest (s.coreMem c).wbuf a = some v ∧ s.dramRead (.core c) a = some d) :=
  ⟨⟨(.other : Guarded), (.island 17 : Initiator), by decide +kernel⟩,
   ⟨(.legalRegs : Guarded), (.supervisor : Initiator), by decide +kernel⟩,
   ⟨(.legalRegs : Guarded), (.supervisor : Initiator), live, by decide +kernel⟩,
   ⟨(.keyTable : Guarded), (.island 17 : Initiator), (Option.get ((.keyTable : Guarded).counter) (by decide +kernel) : Nat),
      by decide +kernel⟩,
   ⟨(.legalRegs : Guarded), (0 : Nat), by decide +kernel⟩,
   ⟨(0 : Nat), by decide +kernel⟩,
   ⟨(.legalRegs : Guarded), by decide +kernel⟩,
   ⟨(.other : Guarded), by decide +kernel⟩,
   ⟨(0 : Nat), (5 : Nat), (7 : Nat), (sysOf (fun x => { x with placed := false }) (live.setCoreMem 0 { CoreMem.blank with wbuf := [(5, 7)] }) : State),
      by decide +kernel⟩,
   ⟨(0 : Nat), (5 : Nat), (7 : Nat), ((live.setCoreMem 0 { CoreMem.blank with wbuf := [(5, 7)] }) : State), by decide +kernel⟩,
   ⟨(0 : Nat), (5 : Nat), ((sysOf (fun x => { x with placed := false }) live : State).dramByte (5 : Nat) : Nat), (sysOf (fun x => { x with placed := false }) live : State),
      by exact ⟨rfl, rfl, rfl⟩⟩,
   ⟨(0 : Nat), (5 : Nat), (Option.get (newest ((sysOf (fun x => { x with placed := false }) (live.setCoreMem 0 { CoreMem.blank with wbuf := [(5, 7)] }) : State).coreMem (0 : Nat)).wbuf (5 : Nat)) (by decide +kernel) : Nat), ((sysOf (fun x => { x with placed := false }) (live.setCoreMem 0 { CoreMem.blank with wbuf := [(5, 7)] }) : State).dramByte (5 : Nat) : Nat), (sysOf (fun x => { x with placed := false }) (live.setCoreMem 0 { CoreMem.blank with wbuf := [(5, 7)] }) : State),
      by exact ⟨by decide +kernel, rfl⟩⟩⟩

/-- States and operands that meet the hypotheses of each clause of BallsFollowTheGate. -/
theorem test_wit_BallsFollowTheGate :
    (∃ (p : Nat) (s : State),
      s.running = true ∧ s.sys.heddle = false ∧ s.portListed p = true) ∧
    (∃ (p : Nat) (s : State),
      s.running = true ∧ s.sys.heddle = true ∧ s.portListed p = true) ∧
    (∃ (p : Nat) (s : State),
      s.inReset = false ∧ s.portListed p = false) ∧
    (∃ (p : Nat) (s : State),
      s.inReset = false ∧ s.portListed p = false ∧ s.inFlush = false) ∧
    (∃ (s : State),
      s.inReset = true) ∧
    (∃ (p : Nat) (s : State),
      s.inFlush = true ∧ s.portListed p = true) ∧
    (∃ (n : Nat),
      n < 8) ∧
    (∃ (s : State),
      (s.inReset = true ∨ s.inFlush = true)) ∧
    (∃ (s : State),
      s.inReset = true) ∧
    (∃ (s : State),
      s.sys.st = .flushed) ∧
    (∃ (s : State),
      (s.inReset = true ∨ s.inFlush = true ∨ s.clk.irc = true)) ∧
    (∃ (s : State),
      s.sys.pairEn = false) ∧
    (∃ (s : State),
      s.sys.rstout = true) ∧
    (∃ (p : Nat) (s : State),
      s.isRadio p = true ∧ s.ball (.fpAux p) = .input) ∧
    (∃ (p : Nat) (s : State),
      (s.port p).onAir = none) :=
  ⟨⟨(0 : Nat), pairS, by decide +kernel⟩,
   ⟨(0 : Nat), live, by decide +kernel⟩,
   ⟨(2 : Nat), live, by decide +kernel⟩,
   ⟨(2 : Nat), live, by decide +kernel⟩,
   ⟨(inSt .reset : State), by decide +kernel⟩,
   ⟨(0 : Nat), (inSt .flush : State), by decide +kernel⟩,
   ⟨(0 : Nat), by decide +kernel⟩,
   ⟨(inSt .flush : State), by decide +kernel⟩,
   ⟨(inSt .reset : State), by decide +kernel⟩,
   ⟨(inSt .flushed : State), by decide +kernel⟩,
   ⟨(inSt .flush : State), by decide +kernel⟩,
   ⟨live, by decide +kernel⟩,
   ⟨(State.reset : State), by decide +kernel⟩,
   ⟨(8 : Nat), live, by decide +kernel⟩,
   ⟨(0 : Nat), live, by decide +kernel⟩⟩

/-- A result of at most one page goes to the start of an empty OUT region. -/
theorem place_first_page (s : State) (j : Nat) (bytes : List Nat) (h : 0 < bytes.length) (hn : bytes.length ≤ 65536)
    (hf : s.part j = Part.blank) (hp : s.pagesFree j 1 = true) : (s.place j bytes).2 = some (0x20 * 2 ^ 56) := by
  have hl : pagesOf 0 (0 + bytes.length) = [0] := by
    have e : (0 + bytes.length - 1) / 65536 + 1 - 0 / 65536 = 1 := by omega
    have z : ¬ 0 + bytes.length ≤ 0 := by omega
    unfold pagesOf
    rw [if_neg z, e]
    rfl
  have e : ¬ 256 * 1048576 < 0 + bytes.length := by omega
  have r : Part.blank.region 0x20 = Region.blank := rfl
  have o : (Part.blank.outEnd + 4095) / 4096 * 4096 = 0 := rfl
  unfold State.place
  simp only [hf, r, o, if_neg e, hl]
  have q : s.pagesFree j (List.length (List.filter (fun q => !List.contains (([] : List (Nat × Nat)).flatMap (fun x => pagesOf x.1 x.2)).eraseDups q) [0]) - (([] : List Nat).length - ((([] : List (Nat × Nat)).flatMap (fun x => pagesOf x.1 x.2)).eraseDups).length)) = true := hp
  exact (congrArg Prod.snd (if_pos q)).trans rfl

/-- A unit whose journal holds the sealed day of the tests. -/
def sealedDay : State :=
  { nandOf (fun x => { x with seals := [({ hdr0 with close := 86437 }, 7)], journal := [⟨5, 0, 0, false, false, false, .dayLeaf 86437 0 (Config.shake256 (0 :: dayRec0.bytes)), []⟩] }) (archived (.day dayRec0) .day) with slv := { live.slv with jbuf := [] } }

/-- A little-endian number has the bytes asked for. -/
theorem test_leBytes_length (n v : Nat) : (leBytes n v).length = n := by
  induction n generalizing v with
  | zero => rfl
  | succ n ih => simp [leBytes, ih]

/-- The day record of the sealed day. -/
theorem sealedDay_dayRec : sealedDay.dayRec 0 86437 = some dayRec0 := by decide +kernel

/-- The day 86437 is the one a request of the tests names. -/
theorem day_of_tests : tsAt (leBytes 10 (tsPack (86437 * second))) 0 / second = 86437 := by decide +kernel

/-- A state that meets the hypotheses of the PROOF clause of ObjectsRead. -/
theorem test_wit_ObjectsRead_proof :
    ∃ (o : ObjReq) (x : Session) (h : SealHdr) (g i l : Nat) (d : DayRec) (a : Nat) (s : State),
      (Serves s o x 0x20 .dayRecord) ∧ (s.epScope o.dg.part o.target = .ok) ∧ (o.b 1 = 0) ∧ (o.plain = true) ∧ (10 ≤ o.arg.length) ∧ (s.sealOf (tsAt o.arg 0 / second) = some (h, g)) ∧ (s.dayRec o.target (tsAt o.arg 0 / second) = some d) ∧ ((s.leavesOf (tsAt o.arg 0 / second)).findIdx? (fun y => y.1 = o.target) = some i) ∧ ((s.leavesOf (tsAt o.arg 0 / second))[i]? = some (o.target, l)) ∧ (Config.shake256 (0 :: d.bytes) = l) ∧ (d.bytes.length ≤ 1048576) ∧ ((s.place o.dg.part (leBytes 4 d.bytes.length ++ leBytes 4 i ++ leBytes 4 (s.leavesOf (tsAt o.arg 0 / second)).length ++ [(proofPath 20 ((s.leavesOf (tsAt o.arg 0 / second)).map Prod.snd) i).length, 0, 0, 0] ++ d.bytes ++ (proofPath 20 ((s.leavesOf (tsAt o.arg 0 / second)).map Prod.snd) i).flatMap (beBytes 32) ++ h.bytes ++ beBytes 29792 g)).2 = some a) := by
  refine ⟨req0 [128, 0, 0x20] (leBytes 10 (tsPack (86437 * second))) 0, ses0, { hdr0 with close := 86437 }, 7, 0,
    Config.shake256 (0 :: dayRec0.bytes), dayRec0, 0x20 * 2 ^ 56, sealedDay, by unfold Serves Admits; decide +kernel, by decide +kernel,
    by decide +kernel, by decide +kernel, by decide +kernel, ?_⟩
  have e : (req0 [128, 0, 0x20] (leBytes 10 (tsPack (86437 * second))) 0).arg = leBytes 10 (tsPack (86437 * second)) := rfl
  have hl : sealedDay.leavesOf 86437 = [(0, Config.shake256 (0 :: dayRec0.bytes))] := by rfl
  rw [e, day_of_tests, hl]
  refine ⟨by decide +kernel, sealedDay_dayRec, rfl, rfl, rfl, by decide +kernel, ?_⟩
  have n : dayRec0.bytes.length ≤ 30000 := by decide +kernel
  refine place_first_page _ _ _ ?_ ?_ rfl (by decide +kernel) <;>
    simp only [List.length_append, test_leBytes_length, beBytes, List.length_reverse, List.map, proofPath, SealHdr.bytes, List.length_cons,
      List.length_nil, List.length_flatMap, List.length_replicate] <;> simp <;> omega


/-- The state of a next outcome. -/
def nextOf : Host.Outcome State Fault Refusal → State
  | .next t => t
  | _ => State.reset

/-- `live` with the seal open and the running image's LEGAL_DIGEST not yet in OTP. -/
def toSeal : State := unsealed { live with otp := { otp0 with seals := [] }, pending := [.sealProgram (auth 7 0)] }

/-- A well-formed state whose next step programs OTP: it meets the hypotheses of StepKeepsInv and of OtpOnlyGains. -/
theorem test_wit_StepKeepsInv : ∃ s t : State, Machine.Inv s ∧ step s = .next t ∧ t.otp.seals = [77] :=
  ⟨toSeal, nextOf (step toSeal),
    ⟨by decide +kernel, by decide +kernel, ⟨by decide +kernel, by decide +kernel⟩,
      (by intro e he; have h : toSeal.hst.parts = [] := by rfl
          rw [h] at he; cases he), by decide +kernel⟩, by rfl, by decide +kernel⟩

/-- A step for the hypothesis of OtpOnlyGains. -/
theorem test_wit_OtpOnlyGains : ∃ s t : State, step s = .next t ∧ t.otp ≠ s.otp :=
  ⟨toSeal, nextOf (step toSeal), by rfl, by decide +kernel⟩

/-- A command for the hypotheses of FrameOfEveryCommand. -/
theorem test_wit_FrameOfEveryCommand : ∃ (c : Instr) (s t : State), exec c s = .next t :=
  ⟨.sealProgram (auth 7 0), toSeal, nextOf (exec (.sealProgram (auth 7 0)) toSeal), by rfl⟩

/-- States for each clause of SlvIslandNeverGated. -/
theorem test_wit_SlvIslandNeverGated :
    (∃ s t : State, SlvClocked s ∧ s.running = true ∧ step s = .next t) ∧
    (∃ (r : Requester) (s : State), Permits s r (0x800000 + R.CKV_ISL_EN) ∧ (s.isl 17).en = true) ∧
    (∃ (r : Requester) (v : Word) (s : State), Permits s r (0x800000 + R.CKV_ISL_EN) ∧ (s.isl 17).en = true ∧ bit v 17 = false) :=
  ⟨⟨live, live, ⟨by decide +kernel, by decide +kernel⟩, by decide +kernel, rfl⟩,
   ⟨.slot 0 0, live, by unfold Permits; decide +kernel, by decide +kernel⟩,
   ⟨.slot 0 0, 0, live, by unfold Permits; decide +kernel, by decide +kernel, by decide +kernel⟩⟩

/-- States for each clause of GateOpenOnlyWhileActive. -/
theorem test_wit_GateOpenOnlyWhileActive :
    (∃ s t : State, (s.sys.heddle = true → s.sys.st = .active) ∧ step s = .next t ∧ t.sys.heddle = true) ∧
    (∃ (n : Nat) (c : OutCfg) (s : State), s.outCfg n = some c ∧ c.mode ≠ .unused ∧ s.sys.heddle = false ∧
      (s.running = true ∨ s.sys.outsOff = true)) :=
  ⟨⟨live, live, by decide +kernel, rfl, by decide +kernel⟩,
   ⟨0, (Option.get (live.outCfg 0) (by decide +kernel) : OutCfg), { live with sys := { live.sys with heddle := false } },
    by decide +kernel, by decide +kernel, by decide +kernel, by decide +kernel⟩⟩

end Sys2Proof.Machine
end

section
/-!
PROOFS. What a register access answers: the statements of 00_scope.md on alignment (R3), refused reads (R9), the two views (R12) and the
registers of the P-view alone (R14), with the rules about the access check, reads and writes that they rest on.
-/

namespace Sys2Proof.Machine
open Sys2Proof

/-! The two views of an address (R12). -/

@[simp] theorem sView_of_lt {a : Nat} (h : a < 0x800000) : sView a = a := if_neg (Nat.not_le.mpr h)

@[simp] theorem sView_add_offset (a : Nat) : sView (a + 0x800000) = a := by
  rw [sView, if_pos (Nat.le_add_left _ a), Nat.add_sub_cancel]

theorem blockRegs_of_lt {b : Nat} (h : 0x13 < b) : blockRegs b = [] := by
  unfold blockRegs
  split
  case h_20 => rfl
  all_goals omega

/-- No register stands above the block at 0x13_0000 (R650). -/
theorem lt_of_findReg_eq_some {a : Nat} {d : RegDesc} (h : findReg a = some d) : a < 0x140000 := by
  by_contra hge
  have hb : blockRegs (a / 0x10000) = [] := blockRegs_of_lt (by omega)
  simp [findReg, hb] at h

/-! The refusing conditions of R753. -/

/-- Row 1 stands before every other row of R753, wherever the part answers at all. -/
theorem accessCheck_eq_align {s : State} {r : Requester} {w : Bool} {a b : Nat} (hst : stateAnswer s r w a ≠ none)
    (hb : b ≠ 4 ∨ a % 4 ≠ 0) : accessCheck s r w a b = some .align := by
  obtain ⟨st, hst⟩ := Option.ne_none_iff_exists'.mp hst
  simp only [accessCheck, hst, if_pos hb]

/-- Row 5 of R753: nothing of rows 1 to 4 refuses the access, and the register exists only in the P-view. -/
theorem accessCheck_eq_denied_of_pOnly {s : State} {r : Requester} {w : Bool} {a : Nat} {d : RegDesc}
    (hst : stateAnswer s r w a = some .ok) (hal : a % 4 = 0) (ha : a < 0x800000) (hdef : regDefined s a = true)
    (hd : findReg a = some d) (hp : d.pOnly = true) : accessCheck s r w a 4 = some .denied := by
  simp [accessCheck, hst, hal, hdef, hd, hp, ha, Nat.not_le.mpr ha]

/-! What a read and a write give, by the answer of the access check. -/

theorem State.tryRead_of_none {s : State} {r : Requester} {a b : Nat} (h : accessCheck s r false a b = none) :
    s.tryRead r a b = (s, none, 0) := by
  simp only [State.tryRead, h]

theorem State.tryRead_of_ne_ok {s : State} {r : Requester} {a b : Nat} {st : Status} (h : accessCheck s r false a b = some st)
    (hst : st ≠ .ok) : s.tryRead r a b = (s, some st, 0) := by
  unfold State.tryRead
  rw [h]
  split
  · next heq => cases heq
  · next heq => exact absurd (Option.some.inj heq) hst
  · next heq => cases heq; rfl

theorem State.tryRead_of_ok {s : State} {r : Requester} {a b : Nat} (h : accessCheck s r false a b = some .ok) :
    s.tryRead r a b = if s.cardHidden r (sView a) then (s, some .denied, 0)
      else ((s.readReg r (sView a)).1, some .ok, (s.readReg r (sView a)).2) := by
  simp only [State.tryRead, h]

theorem State.tryWrite_of_ne_ok {s : State} {r : Requester} {a b : Nat} {v : Word} {eff : State → Word → State × Status}
    {st : Status} (h : accessCheck s r true a b = some st) (hst : st ≠ .ok) : s.tryWrite r a b v eff = (s, some st) := by
  unfold State.tryWrite
  rw [h]
  split
  · next heq => cases heq
  · next heq => exact absurd (Option.some.inj heq) hst
  · next heq => cases heq; rfl

/-- R9 for the read itself: only a read that succeeds moves the state. -/
theorem State.tryRead_fst_of_ne_ok {s : State} {r : Requester} {a b : Nat} (h : (s.tryRead r a b).2.1 ≠ some .ok) :
    (s.tryRead r a b).1 = s := by
  cases hc : accessCheck s r false a b with
  | none => rw [State.tryRead_of_none hc]
  | some st =>
    by_cases hst : st = .ok
    · subst hst
      rw [State.tryRead_of_ok hc] at h ⊢
      split
      · rfl
      · next hh => simp [hh] at h
    · rw [State.tryRead_of_ne_ok hc hst]

/-! The two commands of a single access, and the answer to a requester that is no core. -/

theorem exec_wideValueLowWordRead (r : Requester) (a b : Nat) (s : State) : exec (.wideValueLowWordRead r a b) s =
    .next ((s.tryRead r a b).1.answered r (s.tryRead r a b).2.1 (s.tryRead r a b).2.2) := rfl

theorem exec_registerWrite (r : Requester) (a b : Nat) (v : Word) (s : State) : exec (.registerWrite r a b v) s =
    .next ((s.tryWrite r a b v (State.writeEff r a)).1.answered r (s.tryWrite r a b v (State.writeEff r a)).2 0) := rfl

theorem runs_read {s : State} {r : Requester} {a b : Nat} {st : Option Status} {v : Word} {P : State → Prop}
    (h : s.tryRead r a b = (s, st, v)) (hP : P (s.answered r st v)) : Runs (.wideValueLowWordRead r a b) s P :=
  ⟨s.answered r st v, by rw [exec_wideValueLowWordRead, h], hP⟩

theorem runs_write {s : State} {r : Requester} {a b : Nat} {v : Word} {st : Option Status} {P : State → Prop}
    (h : s.tryWrite r a b v (State.writeEff r a) = (s, st)) (hP : P (s.answered r st 0)) : Runs (.registerWrite r a b v) s P :=
  ⟨s.answered r st 0, by rw [exec_registerWrite, h], hP⟩

theorem State.answered_eq_emit {s : State} {r : Requester} (hr : ∀ c, r ≠ .core c) (st : Status) (v : Word) :
    s.answered r (some st) v = s.emit (.access r st v) := by
  cases r with
  | core c => exact absurd rfl (hr c)
  | slot j k => rfl
  | uart => rfl
  | recovery => rfl

/-! The statements. -/

/-- Settles O55: a single read and a read of a REG_REQ both go through `State.tryRead`, which moves the state only where it succeeds. -/
theorem refusedReadHasNoEffect : Obligations.RefusedReadHasNoEffect := by
  constructor
  · intro r a b s x st v h hst
    obtain rfl : x = s := by simpa [h, hst] using s.tryRead_fst_of_ne_ok (r := r) (a := a) (b := b)
    exact ⟨rfl, runs_read h rfl⟩
  · intro o r s x st v hw h hst
    simp only [State.regOp, hw, Bool.false_eq_true, if_false, Prod.mk.injEq] at h
    obtain ⟨rfl, hs, -⟩ := h
    refine State.tryRead_fst_of_ne_ok fun hok => hst ?_
    rw [← hs, hok, Option.getD_some]

/-- Settles O56: row 5 of R753 answers DENIED, and the only thing sent is that answer, which carries no value read. -/
theorem sharedViewHidesPrivilegedRegisters : Obligations.SharedViewHidesPrivilegedRegisters := by
  intro r a d s hst hal ha hdef hd hp hr
  have hc : accessCheck s r false a 4 = some .denied := accessCheck_eq_denied_of_pOnly hst hal ha hdef hd hp
  refine runs_read (State.tryRead_of_ne_ok hc (by decide)) ?_
  rw [State.answered_eq_emit hr]
  refine ⟨rfl, fun v hv => ?_⟩
  simpa [State.emit] using hv

/-- Settles O57: row 1 of R753 answers ALIGN to a single write, a single read and an operation of a REG_REQ. -/
theorem accessesAreAlignedWords : Obligations.AccessesAreAlignedWords := by
  refine ⟨fun r a b v s hst hb => ?_, fun r a b s hst hb => ?_, fun o r s hst ha => ?_⟩
  · exact runs_write (State.tryWrite_of_ne_ok (accessCheck_eq_align hst hb) (by decide)) rfl
  · exact runs_read (State.tryRead_of_ne_ok (accessCheck_eq_align hst hb) (by decide)) rfl
  · have hc : accessCheck s r o.write o.addr 4 = some .align := accessCheck_eq_align hst (.inr ha)
    cases hw : o.write with
    | true =>
      rw [hw] at hc
      simp [State.regOp, hw, State.tryWrite_of_ne_ok hc (by decide)]
    | false =>
      rw [hw] at hc
      simp [State.regOp, hw, State.tryRead_of_ne_ok hc (by decide)]

/-- Settles O58: a permitted read depends on its address through the S-view address alone, and no register stands above the S-view. -/
theorem twoViewsOfOneRegister : Obligations.TwoViewsOfOneRegister := by
  refine ⟨fun a ha => ⟨sView_of_lt ha, sView_add_offset a⟩, fun a d hd => ?_, fun r a s ha hS hP => ?_⟩
  · have hlt : sView a < 0x140000 := lt_of_findReg_eq_some hd
    unfold sView at hlt
    split at hlt <;> omega
  · rw [State.tryRead_of_ok hS, State.tryRead_of_ok hP, sView_of_lt ha, sView_add_offset]

end Sys2Proof.Machine
end

section
/-!
PROOFS. The SLV island in the run state (R40), refuted as stated: the step clause takes a state whose island store lists the island twice.
-/

namespace Sys2Proof.Machine
open Sys2Proof

/-- START in phase 0 with a power-fail waiting, and an island store out of canonical form: the first entry for SLV is what reads, and the
second one, on its way to being gated, is hidden behind it. -/
def State.slvListedTwice : State :=
  { State.reset with
    pending := [.powerFailLatch 0],
    clk := { Clk.reset with islands := [(17, { Island.blank with busy := true }), (17, { Island.blank with closing := true })] } }

theorem slvClocked_slvListedTwice : SlvClocked State.slvListedTwice := ⟨rfl, by decide⟩

/-- The flush stops the ramp of the first entry, which is then blank and dropped, so that the second one reads. -/
theorem step_slvListedTwice : ∃ t, step State.slvListedTwice = .next t ∧ (t.isl 17).closing = true := ⟨_, rfl, rfl⟩

/-- Refutes O52: its second clause asks a step to keep `SlvClocked` from every state, also from one whose island store is not canonical. -/
theorem not_slvIslandNeverGated : ¬ Obligations.SlvIslandNeverGated := by
  unfold Obligations.SlvIslandNeverGated
  rintro ⟨-, hstep, -⟩
  obtain ⟨t, ht, hclosing⟩ := step_slvListedTwice
  obtain ⟨hopen, -⟩ := hstep _ t slvClocked_slvListedTwice ht
  exact Bool.false_ne_true (hopen.symm.trans hclosing)

end Sys2Proof.Machine
end
